-- ==== Sys2Proof/Word.lean ====
section
/-! DEFINITION. Words, bytes and blocks of the BTK8800 family, and their plainest arithmetic (R12, R13). -/

set_option Elab.async false

namespace Sys2Proof

/-- A byte. -/
abbrev Byte := BitVec 8

/-- A register of the device window: 32 bits (R13). -/
abbrev Word := BitVec 32

/-- The 4,096 logical bytes of one block, byte 0 in bits [7:0] (R100, R13). -/
abbrev Block := BitVec 32768

/-- A 32-byte digest or key, byte 0 in bits [7:0]. -/
abbrev Digest := BitVec 256

/-- A 64-byte digest (SHA-512) or descriptor extension. -/
abbrev Wide := BitVec 512

/-- A 96-byte public key, X then Y (R484). -/
abbrev PubKey := BitVec 768

end Sys2Proof
end

