-- ==== Sys2Proof/Types.lean ====
section
/-! DEFINITION. The named alternatives and operand records shared by the commands (Syntax.lean) and the state (Machine/State.lean). -/

namespace Sys2Proof

/-- The three variants of the family (R1). -/
inductive Variant where
  | btk8208 | btk8416 | btk8832
  deriving DecidableEq, Repr, Inhabited

/-- Mast states (R34), in the row order of its table. -/
inductive MastState where
  | active | furled | restarting | failed | absent
  deriving DecidableEq, Repr, Inhabited

/-- Flash port states (R55), in the row order of its table. -/
inductive PortState where
  | normal | degraded | fenced | failed
  deriving DecidableEq, Repr, Inhabited

/-- Zone states (R109), in the row order of its table. -/
inductive ZoneState where
  | empty | implicitOpen | explicitOpen | closed | readOnly | full | offline
  deriving DecidableEq, Repr, Inhabited

/-- Key slot states (R294), in the row order of its table. -/
inductive SlotState where
  | empty | active | limited | awaiting | draining
  deriving DecidableEq, Repr, Inhabited

/-- Instance states (R312). -/
inductive InstState where
  | offline | online | resetting
  deriving DecidableEq, Repr, Inhabited

/-- Halyard link states (R347), in the row order of its table. -/
inductive LinkState where
  | down | training | hailing | authenticating | known | paired | quarantined
  deriving DecidableEq, Repr, Inhabited

/-- Migration job states (R376), in the row order of its table. -/
inductive JobState where
  | offered | running | suspended | complete | stopped
  deriving DecidableEq, Repr, Inhabited

/-- Fixity states of a zone (R271), numbered as in R280. -/
inductive FixityState where
  | unchecked | passed | failed | incomplete
  deriving DecidableEq, Repr, Inhabited

/-- Device power states (R457); `starting` is the path from power or wake to ready (R486), `unpowered` that of a device without
VIN (R457, R517). -/
inductive DevState where
  | starting | working | crowsNest | poweredDown | dumping | dumped | unpowered
  deriving DecidableEq, Repr, Inhabited

/-- Provisioning states (R492). -/
inductive Provision where
  | unassembled | unprovisioned | unformatted | formatted
  deriving DecidableEq, Repr, Inhabited

/-- Latency classes (R181). -/
inductive LatClass where
  | a | b | c
  deriving DecidableEq, Repr, Inhabited

/-- Why a command is held at admission (R185, R381). -/
inductive HoldCause where
  | share | energy | translation | lunContention | portBudget | mirror
  deriving DecidableEq, Repr, Inhabited

/-- Host link states as the furl conditions name them (R386, R463, R465, R469). -/
inductive HostLink where
  | noLink | l0 | l0p | l1 | l23
  deriving DecidableEq, Repr, Inhabited

/-- Buffer classes (R432). -/
inductive BufClass where
  | writeRows | readReturn | parity | migration | mailbox
  deriving DecidableEq, Repr, Inhabited

/-- Buffer states (R436). -/
inductive BufState where
  | free | held | zeroing
  deriving DecidableEq, Repr, Inhabited

/-- Die operations (R74), with die resets and feature accesses (R89). -/
inductive DieOp where
  | read | pslcRead | coarsePass | finePass | pslcProgram | erase | reset | feature
  deriving DecidableEq, Repr, Inhabited

/-- Erase block states (R260 type 0x03, R157). -/
inductive BlockState where
  | free | allocated | pendingErase | retired | system
  deriving DecidableEq, Repr, Inhabited

/-- Causes of an instance's or function's reset (R322, R497). -/
inductive ResetCause where
  | resetInstance | offline | flr | ccReset | vfGone | perst | deep
  deriving DecidableEq, Repr, Inhabited

/-- The transport over which a mailbox command arrives: mailbox `mb` of function `fn`, or the MCTP endpoint (R408, R416). -/
inductive Via where
  | bar (fn mb : Nat)
  | mctp
  deriving DecidableEq, Repr, Inhabited

/-- What an uncorrectable error hit (R453): tables or journal staging, which have a second copy; the held unit or write-row buffer of a
block; the read-return buffer of a block of a command; a parity buffer; a packet place of a Halyard port; a mailbox's buffer. -/
inductive MemHolds where
  | tables
  | unit (nsid lba : Nat)
  | readReturn (id index : Nat)
  | writeRow (nsid lba : Nat)
  | parity
  | migration (port : Nat)
  | mailbox (via : Via)
  deriving DecidableEq, Repr, Inhabited

/-- The owner trailer of an O command (R415): the challenge it carries and its ECDSA signature (r, s). -/
structure OwnerTrailer where
  challenge : Digest
  r : Nat
  s : Nat
  deriving DecidableEq, Repr, Inhabited

/-- A mailbox command's header as the host writes it (R409), with the offset of the first non-zero reserved payload byte if
there is one (R15), and the owner trailer if the payload ends in one (R415). -/
structure MbxHdr where
  via : Via
  tag : Nat := 0
  /-- flags [0]: extended request -/
  extReq : Bool := false
  /-- flags [1]: extended response -/
  extResp : Bool := false
  /-- flags [2]: owner authorisation present -/
  ownerFlag : Bool := false
  /-- flags [15:3] -/
  rsvdFlags : Bool := false
  /-- request length in bytes, header bytes 8-11 -/
  len : Nat := 0
  extAddr : Nat := 0
  extLen : Nat := 0
  /-- the extended buffer cannot be read or written (R410) -/
  extFails : Bool := false
  /-- byte offset of the first non-zero reserved payload byte -/
  rsvd : Option Nat := none
  trailer : Option OwnerTrailer := none
  deriving DecidableEq, Repr, Inhabited

/-- What every NVMe command carries: function, submission queue (0 for the admin queue), command identifier, and whether its
descriptor chain is well formed with how many hops (R399). -/
structure NvmeHdr where
  fn : Nat
  sq : Nat
  cid : Nat
  /-- the second controller of function 0, on port 1 (R387) -/
  port1 : Bool := false
  nsid : Nat := 0
  /-- hops of the descriptor chain -/
  hops : Nat := 0
  /-- the status NVMe assigns when the chain breaks its own rules (R399) -/
  chainBad : Bool := false
  deriving DecidableEq, Repr, Inhabited

/-- The addressing of an I/O command: first LBA, number of logical blocks, and its protection-information check bits (R101). -/
structure Extent where
  slba : Nat
  nlb : Nat
  prchkRef : Bool := false
  prchkApp : Bool := false
  appTag : Nat := 0
  refTag : Nat := 0
  pract : Bool := false
  piremap : Bool := false
  deriving DecidableEq, Repr, Inhabited

/-- One extent of a range digest (R274). -/
structure DigestExtent where
  lba : Nat
  offset : Nat
  bytes : Nat
  deriving DecidableEq, Repr, Inhabited

/-- The samples that the always-on block and the regulators latch for one frame (R49 step 1, R143, R461): `AON32K` ticks since
the last strobe, the converted `HU_SENSE` reading in mV at the pin, and the package input power in mW. -/
structure FrameIn where
  ticks : Nat := 0
  huSense : Nat := 0
  power : Nat := 0
  /-- ports whose plan of this frame was not complete in time, with the number of entries of its complete part (R51) -/
  cuts : List (Nat × Nat) := []
  deriving DecidableEq, Repr, Inhabited

/-- How a DMA request of the device ended (R401, R404, R405). -/
inductive DmaEnd where
  | ok | timeout | errorCompletion | unexpected
  deriving DecidableEq, Repr, Inhabited

/-- Engines with a watchdog (R501): a core of mast `index`, a host, management or key store core, the sequencer of port `index`. -/
inductive Engine where
  | mastCore | centralCore | portSequencer
  deriving DecidableEq, Repr, Inhabited

/-- How the decode of a block read from media ended (R168): the first check that failed, or success with the largest number
of bits corrected in one codeword and, for each read reference used, the bits corrected towards 0 and towards 1 (R172). -/
inductive DecodeEnd where
  | ok (bits : Nat) (refs : List (Nat × Nat)) | ldpc | crc | identity | tag
  deriving DecidableEq, Repr, Inhabited

/-- How a rebuild ended (R88, R168): the block is right, or the first check that failed: against the symbol left over, the CRC-64, the
identity, the GCM tag. -/
inductive RebuildEnd where
  | ok | check | crc | identity | tag
  deriving DecidableEq, Repr, Inhabited

/-- The Hail of a neighbour (R348). -/
structure Hail where
  version : Nat
  sendPort : Nat
  fingerprint : Digest
  serial : BitVec 160 := 0
  /-- part number, 8 ASCII bytes, byte 0 in bits [7:0], and ROM revision, 2 ASCII bytes -/
  part : BitVec 64 := 0
  rom : BitVec 16 := 0x3141
  memusum : Nat := 0x10
  relaying : Bool := true
  wake : Bool := true
  ctlCredits : Nat := 64
  reqCredits : Nat := 1024
  respPool : Nat := 4096
  powerOn : Nat := 1
  deriving DecidableEq, Repr, Inhabited

/-- A zone manifest (R370). -/
structure Manifest where
  version : Nat
  zone : Nat
  generation : Nat
  written : Nat
  leaves : Nat
  root : Digest
  utcFinish : Nat
  grade : Nat
  keyFp : Digest
  salt : BitVec 32
  floor : Nat
  job : Nat
  deriving DecidableEq, Repr, Inhabited

/-- A key register entry (R252). -/
structure KeyEntry where
  number : Nat
  tenant : Bool
  salt : BitVec 32
  fp : Digest
  deriving DecidableEq, Repr, Inhabited

/-- What one patrol slice reported (R205, R227, R270): the segment, or 2^64 + g for the system blocks of global LUN g; for each
member (or system block) the most bits corrected in one codeword at step 1 and the highest ladder step; the LBAs that could not be
recovered; the ledger's LBAs that were re-read and verified; the leaves that did not match; whether the stored tree matches its root; the
LBAs whose identity did not match (R168); and, for each decode that succeeded, the member and the bits it corrected towards 0 and
towards 1 at each read reference (R172). -/
structure SliceReport where
  seq : Nat
  members : List (Nat × Nat) := []
  lost : List Nat := []
  verified : List Nat := []
  badLeaves : List Nat := []
  rootOk : Bool := true
  mismatched : List Nat := []
  decodes : List (Nat × List (Nat × Nat)) := []
  deriving DecidableEq, Repr, Inhabited

/-- What the reads of a relocation found (R209, R212): for each member read its most bits corrected in one codeword and its highest ladder
step; the LBAs whose block no copy provides; those whose identity did not match; and the decodes that succeeded, as in a slice. -/
structure CopyReport where
  members : List (Nat × Nat × Nat) := []
  lost : List Nat := []
  mismatched : List Nat := []
  decodes : List (Nat × List (Nat × Nat)) := []
  deriving DecidableEq, Repr, Inhabited

/-- What a relocation copies, a segment by its placement sequence or the region of a namespace, with what the reads of the copy found. -/
structure CopySource where
  num : Nat
  found : CopyReport := {}
  deriving DecidableEq, Repr, Inhabited

/-- The end of a domain's wake: the domain, and whether the wake succeeded (R34, R468). -/
structure WakeEnd where
  domain : Nat
  ok : Bool := true
  deriving DecidableEq, Repr, Inhabited

/-- Protection information that the host transfers with a block of a Format 1 namespace (R100, R101): whether its guard agrees with the
data, and its tags. With PRACT set none is transferred. -/
structure HostPi where
  guardOk : Bool := true
  app : Nat := 0
  ref : Nat := 0
  deriving DecidableEq, Repr, Inhabited

/-- Protection information that the device returns with a block (R101, R119). -/
structure PiOut where
  guard : BitVec 64
  app : Nat
  ref : Nat
  deriving DecidableEq, Repr, Inhabited

/-- A block as it goes to the host: LBA, data and protection information. -/
abbrev HostBlock := Nat × Block × Option PiOut

/-- The drive record (R140, R262). -/
structure DriveRecord where
  revision : Nat := 1
  serial : BitVec 160 := 0
  ceBitmap : Nat := 0xFF
  lunsPerCe : Nat := 4
  sparePct : Nat := 3
  lunInputs : List Nat := []
  cCfg : Nat := 10000
  vMin : Nat := 12000
  eta : Nat := 880
  divider : Nat := 32768
  loadResistive : Bool := false
  loadValue : Nat := 500
  tTest : Nat := 625
  bankInput : Option Nat := none
  derate : List (Int × Nat) := []
  pBoard : Nat := 2500
  eFlash : Nat := 1100
  passContinuation : Bool := false
  subsysVendor : Option Nat := none
  subsysDevice : Option Nat := none
  /-- further parameters of the object's body, as tag and value (R262, R263) -/
  others : List (Nat × List Nat) := []
  /-- the maker key's signature of the stored object -/
  sigR : Nat := 0
  sigS : Nat := 0
  deriving DecidableEq, Repr, Inhabited

/-- The media profile (R74, R203); its defaults are the reference QLC profile (R76). Times are in ns. -/
structure MediaProfile where
  revision : Nat := 1
  version : Nat := 1
  idBytes : Nat := 0
  planes : Nat := 4
  pageMain : Nat := 16384
  pageSpare : Nat := 2048
  pagesPerBlock : Nat := 2048
  nominalBlocks : Nat := 8192
  minGood : Nat := 8100
  interface : Nat := 2
  rate : Nat := 3600
  vccq : Nat := 1200
  bitsPerCell : Nat := 4
  archivalDefined : Bool := true
  readNs : Nat := 80000
  pslcReadNs : Nat := 40000
  coarseNs : Nat := 1600000
  fineStdNs : Nat := 3200000
  fineArchNs : Nat := 4800000
  pslcProgNs : Nat := 400000
  eraseNs : Nat := 12800000
  suspendNs : Nat := 48000
  /-- operation kinds that can be suspended, by their place among the operation maxima: 0 read, 1 pSLC read, 2 coarse pass, 3 fine pass
  of the standard grade, 4 of the archival grade, 5 pSLC program, 6 erase; and the most suspends of an operation of each kind -/
  suspendable : List Nat := [2, 3, 4, 6]
  maxSuspends : List Nat := [0, 0, 4, 4, 4, 0, 8]
  passesPerWl : Nat := 2
  pagesPerWl : Nat := 4
  /-- order of passes: a pass of wordline w follows the pass before it of wordline w + this -/
  passLag : Nat := 1
  /-- row address layout: lowest bit of the page, plane, block and LUN fields (R73) -/
  pageBit : Nat := 0
  planeBit : Nat := 11
  blockBit : Nat := 13
  lunBit : Nat := 26
  /-- planned cycles of FRM125 of a command with its address, a status poll, a suspend or resume (R51): the timing of the interface mode,
  which the standards give and no tag of the stored object carries -/
  cmdCycles : Nat := 0
  pollCycles : Nat := 10
  suspendCycles : Nat := 0
  retryEntries : Nat := 8
  trackingLimit : Nat := 8
  ldpcCode : Nat := 9
  sysBlocks : Nat := 16
  endurance : Nat := 1500
  endurancePslc : Nat := 30000
  refTemp16 : Int := 640
  refreshStdDays : Nat := 1095
  refreshArchDays : Nat := 3650
  rewriteBits : Nat := 120
  /-- further parameters, as tag and value (R74, R262): those the dies take as they are (parameter-page fields, profile name, training
  settings, termination, drive strengths, feature settings, program settings, reference voltages, retry tables, tracking step, soft-read
  offsets, opcodes) -/
  others : List (Nat × List Nat) := []
  /-- the maker key's signature of the stored object -/
  sigR : Nat := 0
  sigS : Nat := 0
  deriving DecidableEq, Repr, Inhabited

end Sys2Proof
end

