-- ==== Sys2Proof/Syntax.lean ====
section
/-! DEFINITION. The commands of the block: one constructor per row of spec/opcode_table.json, in the table's order. An operand
is what reaches the device from outside (a register value, a command field, a packet field, a sample) or the outcome of a
physical act that only the outside decides (a die operation passes or fails, a lock is lost). -/

namespace Sys2Proof

/-- One command or event of the block (spec/opcode_table.json). -/
inductive Instr where
  | frameStart (inp : FrameIn)
  | overrunRecoveryRun (port : Nat)
  | retrainingPass (port cePassed : Nat) (excluded : List (Nat × Nat × Nat))
  | retrainingTimeout (port : Nat)
  | portFailedAfterDrain (port : Nat)
  | dieOperationEnd (glun : Nat) (ok : Bool) (late repeated : Nat)
  | programPassIssue (glun : Nat)
  | blockErase (glun block : Nat)
  | framePllRelock (aonTicks : Nat)
  | ref100Loss
  | ref100Return
  | secondMark
  | lastKnownTime
  | aon32kStopped
  | aon32kRunning
  | ageClockAdvance
  | mastPllLossOfLock (mast : Nat)
  | missingHeartbeat (mast : Nat)
  | watchdogExpiry (engine : Engine) (index : Nat)
  | mastRestartSuccess (mast : Nat)
  | mastRestartTimeout (mast : Nat) (stepFailed : Bool)
  | deviceFault
  | hostMemoryReadCompletion (req : Nat) (result : DmaEnd) (data : Block) (pi : HostPi)
  | sealUnit (mast : Nat)
  | digestLeaf (nsid zone : Nat)
  | journalRecordDurable (journal : Nat)
  | journalCheckpoint (journal : Nat)
  | parkDelay (nsid zone : Nat)
  | energyWaitLimit (id : Nat)
  | selfTestInterval (v1 : Nat)
  | huLoadRelease
  | selfTestResult (v2 : Nat)
  | selfTestRetry (v1 : Nat)
  | huLoadHardwareRelease
  | pwrfail (lowNs : Nat)
  | dumpRound
  | finalRound
  | dumpRestart
  | lowVin (ns : Nat)
  | brownOut (ns : Nat)
  | aonPowerOnReset (vqselOhms : Nat)
  | restoredUnitCompletion (seq row : Nat)
  | shutdownNotification (fn : Nat) (abrupt : Bool)
  | translation (id : Nat)
  | readDecode (id index : Nat) (res : DecodeEnd)
  | ladderStep (id index : Nat)
  | rebuild (id index : Nat) (members : List (Nat × DecodeEnd)) (result : RebuildEnd)
  | constantTimeRelease (id : Nat)
  | patrolSlice (r : SliceReport)
  | lateLap
  | patrolBatchDue
  | memberRewrite (source : CopySource) (member : Nat)
  | segmentRefresh (source : CopySource)
  | programFailureReplacement (source : CopySource)
  | compaction (source : CopySource)
  | drainEnd (slot : Nat)
  | counterReservation (mast keyRef : Nat)
  | cipherFault (mast : Nat) (opening : Bool) (item index : Nat)
  | drbgReseed
  | drainLimit (fn : Nat)
  | resetRetire (fn : Nat)
  | vfEnableChange (enable : Bool) (numVfs : Nat)
  | ccEnSet (fn : Nat) (port1 : Bool)
  | ccEnClear (fn : Nat) (port1 : Bool)
  | functionLevelReset (fn : Nat) (port1 : Bool)
  | perst (port : Nat)
  | perstRelease (port : Nat)
  | nvmSubsystemReset (fn : Nat) (value : Word)
  | hostReceiverBeacon (port : Nat)
  | wakePin
  | hostLinkStateChange (port : Nat) (link : HostLink) (rate width : Nat)
  | sqTailDoorbell (fn : Nat) (port1 : Bool) (sq tail : Nat)
  | cqHeadDoorbell (fn : Nat) (port1 : Bool) (cq head : Nat)
  | commandFetch (failed : DmaEnd)
  | completionTimeout (req : Nat)
  | readBack (req : Nat) (result : DmaEnd)
  | busMasterEnableClear (fn : Nat) (port1 : Bool)
  | busMasterEnableSet (fn : Nat) (port1 : Bool)
  | pmeTurnOff (port : Nat)
  | pauseDrained (fn : Nat) (port1 : Bool)
  | interruptCoalescing (fn : Nat) (port1 : Bool) (vector : Nat)
  | msixUnmask (fn : Nat) (port1 : Bool) (vector : Nat) (mask : Bool)
  | read (h : NvmeHdr) (e : Extent)
  | write (h : NvmeHdr) (e : Extent)
  | zoneAppend (h : NvmeHdr) (e : Extent)
  | writeZeroes (h : NvmeHdr) (e : Extent)
  | flush (h : NvmeHdr)
  | compare (h : NvmeHdr) (e : Extent) (data : List Block)
  | verify (h : NvmeHdr) (e : Extent)
  | datasetManagement (h : NvmeHdr) (deallocate : Bool) (ranges : List (Nat × Nat))
  | closeZone (h : NvmeHdr) (slba : Nat) (all : Bool)
  | finishZone (h : NvmeHdr) (slba : Nat) (all : Bool)
  | openZone (h : NvmeHdr) (slba : Nat) (all : Bool)
  | resetZone (h : NvmeHdr) (slba : Nat) (all : Bool)
  | offlineZone (h : NvmeHdr) (slba : Nat) (all : Bool)
  | setZoneDescriptorExtension (h : NvmeHdr) (slba : Nat) (ext : Wide) (all : Bool)
  | reportZones (h : NvmeHdr) (slba filter : Nat) (isPartial : Bool) (limit : Nat)
  | extendedReportZones (h : NvmeHdr) (slba filter : Nat) (isPartial : Bool) (limit : Nat)
  | invalidCommandOpcode (h : NvmeHdr) (opcode : Nat)
  | identify (h : NvmeHdr) (cns csi : Nat)
  | getLogPage (h : NvmeHdr) (lid : Nat)
  | setFeatures (h : NvmeHdr) (fid value : Nat)
  | getFeatures (h : NvmeHdr) (fid : Nat)
  | setFeaturesTimestamp (h : NvmeHdr) (ms : Nat)
  | setFeaturesPowerManagement (h : NvmeHdr) (ps : Nat)
  | createIoSubmissionQueue (h : NvmeHdr) (qid size cqid : Nat) (contiguous aligned : Bool)
  | createIoCompletionQueue (h : NvmeHdr) (qid size vector : Nat) (ien contiguous aligned : Bool)
  | deleteIoSubmissionQueue (h : NvmeHdr) (qid : Nat)
  | deleteIoCompletionQueue (h : NvmeHdr) (qid : Nat)
  | abort (h : NvmeHdr) (sq cid : Nat)
  | asynchronousEventRequest (h : NvmeHdr)
  | namespaceManagementCreate (h : NvmeHdr) (csi nsze ncap lbaf pi : Nat)
  | namespaceManagementDelete (h : NvmeHdr)
  | namespaceAttachmentAttach (h : NvmeHdr) (ctrls : List Nat)
  | namespaceAttachmentDetach (h : NvmeHdr) (ctrls : List Nat)
  | secondaryControllerOnline (h : NvmeHdr) (ctrl : Nat)
  | secondaryControllerOffline (h : NvmeHdr) (ctrl : Nat)
  | secondaryControllerAssign (h : NvmeHdr) (ctrl resource count : Nat)
  | formatNvm (h : NvmeHdr) (lbaf ses : Nat)
  | cryptoErase (h : NvmeHdr)
  | readNvmeMiDataStructure (inBand : Bool) (fn dtyp : Nat)
  | nvmSubsystemHealthStatusPoll (inBand : Bool) (fn : Nat) (clear : Bool)
  | controllerHealthStatusPoll (inBand : Bool) (fn first count : Nat)
  | configurationGet (inBand : Bool) (fn ident : Nat)
  | configurationSet (inBand : Bool) (fn ident value : Nat)
  | getIdentity (m : MbxHdr)
  | getTime (m : MbxHdr)
  | setTime (m : MbxHdr) (seconds fraction : Nat)
  | getControl (m : MbxHdr) (ident scope : Nat)
  | setControl (m : MbxHdr) (ident scope value : Nat)
  | getOwnerChallenge (m : MbxHdr)
  | setAllocation (m : MbxHdr) (fn resource value : Nat)
  | getInstance (m : MbxHdr) (fn : Nat)
  | instanceOnline (m : MbxHdr) (fn : Nat)
  | instanceOffline (m : MbxHdr) (fn : Nat)
  | resetInstance (m : MbxHdr) (fn : Nat)
  | deleteInstance (m : MbxHdr) (fn : Nat) (deleteNamespaces : Bool)
  | setContract (m : MbxHdr) (fn cls : Nat) (constantTime : Bool) (reserved burst t ceiling : Nat)
  | getContract (m : MbxHdr) (fn : Nat)
  | setExpertEnable (m : MbxHdr) (fn : Nat) (enable : Bool)
  | consentToAttach (m : MbxHdr) (nsid fn : Nat)
  | createNamespace (m : MbxHdr) (origin lbaf pi zones segs wmax cls : Nat) (pie : Bool) (permitted active open_ conv : Nat)
  | deleteNamespace (m : MbxHdr) (nsid : Nat)
  | attachNamespace (m : MbxHdr) (nsid fn : Nat)
  | detachNamespace (m : MbxHdr) (nsid fn : Nat)
  | getNamespace (m : MbxHdr) (nsid : Nat)
  | setNamespaceAttributes (m : MbxHdr) (nsid : Nat) (setCls setPerm setLimits : Bool) (cls permitted active open_ : Nat)
  | defineClass (m : MbxHdr) (cls width grade affinity : Nat)
  | deleteClass (m : MbxHdr) (cls : Nat)
  | getZoneRecord (m : MbxHdr) (nsid zone : Nat)
  | getTransportKey (m : MbxHdr)
  | establishKek (m : MbxHdr) (index : Nat) (persistent : Bool) (point : PubKey)
  | loadKey (m : MbxHdr) (slot kek : Nat) (persistent saltGiven floorGiven : Bool) (salt : BitVec 32) (floor : Nat) (wrapped : BitVec 320)
  | eraseKey (m : MbxHdr) (slot : Nat)
  | bindNamespaceKey (m : MbxHdr) (nsid slot : Nat)
  | getSlot (m : MbxHdr) (slot : Nat)
  | exportKey (m : MbxHdr) (slot : Nat) (destination : Digest)
  | exportConsentLapse (slot : Nat)
  | getKeyRegister (m : MbxHdr) (first count : Nat)
  | getPatrolStatus (m : MbxHdr)
  | getLossLedger (m : MbxHdr) (nsid first count : Nat)
  | getLunHealth (m : MbxHdr) (glun : Nat)
  | leaveReadPreserve (m : MbxHdr)
  | getIdentityCertificate (m : MbxHdr)
  | treeCheck (m : MbxHdr) (nsid zone : Nat) (ownShare : Bool)
  | rangeDigest (m : MbxHdr) (nsid alg : Nat) (extents : List DigestExtent) (ownShare : Bool)
  | zoneAttestation (m : MbxHdr) (nsid zone key slot : Nat) (verify ownShare : Bool) (nonce : Digest)
  | rangeAttestation (m : MbxHdr) (nsid alg : Nat) (extents : List DigestExtent) (key slot : Nat) (ownShare : Bool) (nonce : Digest)
  | keyBinding (m : MbxHdr) (slot : Nat) (nonce : Digest)
  | fixityJobEnd (job : Nat) (mismatched lost tagBad : List Nat) (nodesOk changed : Bool)
  | getFixityResult (m : MbxHdr) (job : Nat)
  | fixityResultExpiry (job : Nat)
  | createOwnerAttestationKey (m : MbxHdr) (slot : Nat)
  | deleteOwnerAttestationKey (m : MbxHdr) (slot : Nat)
  | getHalyardPort (m : MbxHdr) (port : Nat)
  | listPartners (m : MbxHdr) (first count : Nat)
  | pairPartner (m : MbxHdr) (fp : Digest)
  | unpairPartner (m : MbxHdr) (fp : Digest)
  | releaseQuarantine (m : MbxHdr) (fp : Digest)
  | setAllowlist (m : MbxHdr) (fps : List Digest)
  | getAllowlist (m : MbxHdr)
  | startMigration (m : MbxHdr) (destination : Digest) (nsid : Nat) (charge : Bool) (streams : Nat) (zones : List Nat)
  | acceptMigration (m : MbxHdr) (source : Digest) (nsid cls : Nat)
  | cancelMigration (m : MbxHdr) (job : Nat)
  | getMigrationJob (m : MbxHdr) (job : Nat)
  | setMirror (m : MbxHdr) (role mode policy cls lag nsid firstZone zoneCount : Nat) (other : Digest)
  | endMirror (m : MbxHdr) (rel : Nat)
  | promoteMirror (m : MbxHdr) (rel : Nat)
  | getMirror (m : MbxHdr) (rel : Nat)
  | getPowerStatus (m : MbxHdr)
  | setReefLimit (m : MbxHdr) (level : Nat)
  | enterCrowsNest (m : MbxHdr) (interval : Nat)
  | powerDown (m : MbxHdr)
  | getThermal (m : MbxHdr)
  | getPortStatistics (m : MbxHdr) (port : Nat)
  | getIncompleteStripeSets (m : MbxHdr) (width first count : Nat)
  | getMastStatus (m : MbxHdr) (mast : Nat)
  | pauseHostDma (m : MbxHdr) (fns : Nat)
  | resumeHostDma (m : MbxHdr) (fns : Nat)
  | startCapacitanceSelfTest (m : MbxHdr) (v1 : Nat)
  | getInternalResources (m : MbxHdr)
  | takeOwnership (m : MbxHdr) (key : PubKey)
  | transferOwnership (m : MbxHdr) (key : PubKey)
  | getSignedObject (m : MbxHdr) (object : Nat)
  | writeSignedObject (m : MbxHdr) (object : Nat) (record : DriveRecord) (profile : MediaProfile) (r sg : Nat)
  | formatMedia (m : MbxHdr)
  | restoreDefaultControls (m : MbxHdr) (group : Nat)
  | unknownOpcode (m : MbxHdr) (opcode : Nat)
  | doneClear (fn mb : Nat) (goToo : Bool)
  | receiverDetection (port : Nat) (found : Bool)
  | foreignLinkNumber (port number : Nat)
  | foreignLinkRetry (port : Nat)
  | trainingComplete (port rate width : Nat)
  | trainingTimeout (port : Nat)
  | hailTimeout (port : Nat)
  | authenticationTimeout (port : Nat)
  | retrainTimeout (port : Nat)
  | linkSilence (port : Nat)
  | hail (port seq : Nat) (path : Option Nat) (hl : Hail)
  | authCertificateChain (port seq : Nat) (path : Option Nat) (fragment : Nat) (last : Bool) (key : PubKey) (chainOk : Bool)
  | authKeyShare (port seq : Nat) (path : Option Nat) (point : PubKey) (random : Digest)
  | authSignature (port seq : Nat) (path : Option Nat) (r sg : Nat)
  | authDone (port seq : Nat) (path : Option Nat)
  | ackAndCredit (port seq accepted ctl req : Nat)
  | nak (port seq accepted reason : Nat)
  | echoRequest (port seq number : Nat)
  | echoReply (port seq number turnaround roundTrip : Nat)
  | pathProbe (port seq label hops : Nat) (target origin : Digest) (number latency : Nat) (wake : Bool)
  | pathReply (port seq label : Nat) (target origin : Digest) (number latency hops : Nat)
  | pathDown (port seq label reason : Nat) (sender : Digest)
  | departure (port seq reason powerOn : Nat)
  | rekeyKeyShare (port seq : Nat) (point : PubKey) (random : Digest) (lastSent lastAccepted : Nat)
  | rekeySignature (port seq r sg : Nat)
  | rekeyDone (port seq : Nat)
  | refuse (port seq label reason tag : Nat) (sender : Digest)
  | reservedPacketType (port seq ptype : Nat)
  | chunkRead (port seq label tag job zone offset count declared : Nat)
  | treeRead (port seq label tag job zone declared : Nat)
  | mirrorWrite (port seq label tag rel zone offset : Nat) (blocks : List Block) (metas : List Wide)
  | response (port seq label tag : Nat) (lastPacket : Bool) (blocks : List Block) (metas : List Wide) (nodes : List Digest) (status pointer : Nat)
  | offer (partner : Digest) (kind streams ident nsid : Nat) (zones : List Nat) (genEnd lbaf pi version mode policy lag firstZone zoneCount : Nat)
  | answer (partner : Digest) (accept : Bool) (status ident nsid cls : Nat)
  | zoneManifest (partner : Digest) (m : Manifest)
  | keyCarry (partner : Digest) (fp : Digest) (point : PubKey) (wrapped : BitVec 320) (job : Nat)
  | checkpoint (partner : Digest) (job zone chunks : Nat)
  | cutOverReady (partner : Digest) (job zone generation : Nat)
  | cutOverConfirmed (partner : Digest) (job zone generation : Nat)
  | requestStatus (partner : Digest) (status tag ident : Nat)
  | zoneWithdrawn (partner : Digest) (reason ident zone : Nat)
  | zoneRefused (partner : Digest) (reason ident zone : Nat)
  | suspend (partner : Digest) (state cause ident : Nat)
  | resume (partner : Digest) (state cause ident : Nat)
  | endOp (partner : Digest) (state cause ident : Nat)
  | mirrorOpen (partner : Digest) (rel zone generation : Nat) (entry : KeyEntry)
  | mirrorFinish (partner : Digest) (rel zone generation written : Nat) (root : Digest)
  | mirrorReset (partner : Digest) (rel zone generation : Nat)
  | mirrorPromote (partner : Digest) (rel : Nat)
  | probeTimeout (number : Nat)
  | flightTimeMeasure (port : Nat)
  | rekeyInterval (port : Nat)
  | quarantineEnd (fp : Digest)
  | wakePatternReceived (port : Nat)
  | wakePatternRepeat (port : Nat)
  | wakeTimeout (port : Nat)
  | streamAdd (job port label : Nat)
  | jobResume (job port label : Nat)
  | resumeWindow (ident : Nat)
  | catchUp (rel : Nat)
  | ringEnable (fn ring size severity vector : Nat)
  | ringDisable (fn ring size severity vector : Nat)
  | rbaseWrite (fn ring : Nat) (high : Bool) (value : Word)
  | rheadWrite (fn ring head : Nat)
  | rstsClear (fn ring : Nat) (value : Word)
  | summaryRecord (fn ring : Nat)
  | frameLoRead (fn : Nat) (port1 : Bool) (bits : Nat)
  | markFloRead (fn : Nat) (port1 : Bool) (bits : Nat)
  | utcLoRead (fn : Nat) (port1 : Bool) (bits : Nat)
  | gstsClear (fn : Nat) (port1 : Bool) (value : Word)
  | registerWrite (fn : Nat) (port1 : Bool) (offset bits : Nat) (value : Word)
  | bufferAllocate (buffer : Nat) (cls : BufClass) (fn engine item : Nat)
  | bufferShare (buffer engine : Nat)
  | bufferDrop (buffer engine : Nat)
  | bufferZeroed (buffer : Nat)
  | clean (mast : Nat) (byRange : Bool) (first last : Nat)
  | invalidateBySetAndWay (mast set way : Nat)
  | invalidateByRange (mast first last : Nat)
  | cleanAndInvalidate (mast : Nat) (byRange : Bool) (first last : Nat)
  | evictionWriteBack (mast : Nat)
  | cacheFill (mast line : Nat) (write : Bool)
  | wayDisable (mast group way : Nat)
  | correctableError (memory address : Nat)
  | uncorrectableError (memory address : Nat) (holds : MemHolds)
  | memoryFill (memory : Nat) (failed : List Nat)
  | powerCorrectionCheck
  | powerCorrectionRecovery
  | graceTimeEnd
  | mastFurl (mast : Nat)
  | portFurl (port : Nat)
  | halyardFurl (port : Nat)
  | hostLinkFurl (port : Nat)
  | crowsNestEntry
  | powerDownEntry
  | handshakeTimeout (entry : Nat)
  | abortHoldOff (entry : Nat)
  | domainWake (wake : WakeEnd) (cause : Nat)
  | samplerWake (vin bank : Nat) (temps : List Int)
  | reentryDelay
  | i3cPrivateTransfer
  | dynamicAddressAssignment (address : Nat)
  | rstdaa
  | thermalSample (raws : List Int) (bad : List Bool)
  | thermalComparator (input : Nat)
  | thermalDumpRestart
  | vddqfLow
  | stageRom (badCore : Bool)
  | stageOtp (bad : Bool)
  | stageObjects
  | stageMedia (mastFail : List Nat) (portCes : List Nat) (excluded : List (Nat × Nat × Nat))
  | stageReplay (journalOk newerMajor : Bool) (missing : List (Nat × Nat)) (disagree : List (Nat × List Nat))
  | startupLimit
  | testLogicReset
  | idcode
  | samplePreload (boundary : Nat)
  | extest
  | extestPulse
  | extestTrain
  | clamp
  | highz
  | bypass (code : Nat)
  | fuseSelect (field : Nat)
  | fuseData (value : PubKey)
  | fuseBurn (tcks vin : Nat)
  | fuseRead
  | fabricProtocolError (mast : Nat)
  | configurationRequest (fn : Nat) (port1 : Bool) (offset : Nat)
  | tagOrCrcFailure (port seq : Nat) (outOfSequence : Bool)
  | timedOutTagReuse (req : Nat)
  deriving DecidableEq, Repr, Inhabited

end Sys2Proof
end

