-- ==== Sys2Proof/Config.lean ====
section
/-! DEFINITION. The values the spec leaves open, each an uninterpreted constant: nothing can be proved of them, so a statement
about the model holds for every value they may have (notes/assumptions/5.md). -/

namespace Sys2Proof.Config

/-- A free natural number, selected by the counter `fresh` of the state. -/
opaque freeNat : Nat → Nat
/-- A free block of 4,096 bytes. -/
opaque freeBlock : Nat → Block
/-- The n-th 256-bit output of the key store's random bit generator (R290). -/
opaque drbg : Nat → Digest
/-- The n-th private scalar drawn for a P-384 key pair (R279, R291, R349). -/
opaque drbgScalar : Nat → BitVec 384

/-- The certificates that the key store holds, as one number: 0 the identity key's chain (R278), 1 the transport key's (R289). -/
opaque certificates : Nat → Nat

/-- The temperature used, in 1/16 °C, where no input at all has an unfailed reading (R476). -/
opaque noReading : Nat → Int

/-- The transport key of the partner with a fingerprint (R289), which the source of a job knows and no message of R370 carries. -/
opaque transportKeyOf : Digest → PubKey

/-- Line of the mast DRAM that holds the record of a zone, by namespace and zone (R128, R444). -/
opaque recordLine : Nat → Nat → Nat

/-- The scrub lap in progress on a memory in a frame, and the duration in frames of the last one completed (R452). -/
opaque scrubLap : Nat → Nat → Nat
opaque scrubLapLength : Nat → Nat → Nat

/-- The 64-bit guard of a block's data, whose polynomial the spec does not give (R100, R101). -/
opaque piGuard : Block → BitVec 64

/-- Tag of the subsystem identifiers in a drive record, which R262 does not list (R389). -/
opaque subsystemTag : Nat

/-- Zone-offset field in the identity of a header, trailer or conventional fill block, by row and position (R249). -/
opaque plainOffset : Nat → Nat → Nat

end Sys2Proof.Config
end

