-- ==== Sys2Proof/Machine/State.lean ====
section
/-! DEFINITION. The state of the block: every register, counter, queue, table and pin that the spec gives it, as plain data.
A field's default is its value at an AON power-on reset of a new part (State.reset); where the spec gives none, the value is
the model's choice (notes/assumptions/2.md). -/

namespace Sys2Proof.Machine

/-- Reasons for which a step stops. -/
inductive Fault where
  /-- A command names a mast, flash port, LUN, Halyard port, host port, function or buffer that no variant of the family has
  (R1, R10, R11). Raised by the event commands whose operand is such a number. Safe: the hardware has no such command. -/
  | noSuchUnit
  deriving DecidableEq, Repr

/-- Reasons for which a command has no meaning. -/
inductive Refusal where
  /-- The command has no meaning yet; raised by exec's arms only. Safe. -/
  | notModelled (mnemonic : String)
  deriving DecidableEq, Repr

/-! ## Fuses, clock, start-up -/

/-- The one-time-programmable fuses (R484) and the fuse shift registers of the JTAG port (R529, R530). -/
structure Fuses where
  /-- OTP root of the key store (R306) -/
  otpRoot : BitVec 384 := 0
  /-- private part of the device identity key (R278) -/
  identityPriv : BitVec 384 := 1
  /-- private part of the transport key (R289) -/
  transportPriv : BitVec 384 := 2
  /-- vault-epoch fuses burnt, 0 to 32 (R306) -/
  vaultEpoch : Nat := 0
  /-- maker key fuses as burnt -/
  makerKey : PubKey := 0
  /-- host port mode fuse as burnt -/
  hostPort : Bool := false
  /-- assembly lock as burnt -/
  lock : Bool := false
  /-- the three JTAG-burnt fields as in effect since the last AON power-on reset (R530) -/
  makerKeyEff : PubKey := 0
  dual : Bool := false
  lockEff : Bool := false
  /-- owner banks burnt, in order; at most 16 (R494) -/
  ownerBanks : List PubKey := []
  deriving DecidableEq, Repr, Inhabited

/-- The JTAG port (R529 to R531). -/
structure Jtag where
  /-- instruction register; IDCODE after Test-Logic-Reset -/
  ir : Nat := 0x01
  /-- FUSE_SELECT register, 4 bits -/
  select : Nat := 0
  /-- FUSE_DATA register, 768 bits -/
  data : PubKey := 0
  /-- status bit 0: the last burn took place -/
  burnt : Bool := false
  /-- status bit 3: VIN was too low at the last burn -/
  vinLow : Bool := false
  /-- the last value shifted out of the selected data register -/
  dr : Nat := 0
  /-- boundary scan register -/
  boundary : Nat := 0
  /-- the boundary cells have taken the pins (R531) -/
  pinsTaken : Bool := false
  deriving DecidableEq, Repr, Inhabited

/-- Timebase and archive clock (R42 to R47, R59 to R66). -/
structure Clock where
  /-- frame number, 64 bits (R42, R43) -/
  frame : Nat := 0
  /-- power-on count, 32 bits, in the host-complex journal (R46) -/
  poc : Nat := 0
  /-- the count has been incremented since the last AON power-on reset (R46) -/
  pocCounted : Bool := false
  /-- `REF100` present -/
  ref100 : Bool := true
  /-- PLLs on the internal reference oscillator (R45) -/
  internalOsc : Bool := false
  /-- `AON32K` running (R64) -/
  aonRuns : Bool := true
  /-- tick count of `AON32K` since the AON power-on reset (R44) -/
  ticks : Nat := 0
  /-- frames are dark: `HCX` furled (R44) -/
  dark : Bool := false
  /-- tick count latched at the last frame before the furl, t0 of R44 -/
  t0 : Nat := 0
  /-- archive clock set (R59) -/
  isSet : Bool := false
  /-- archive clock seconds, 64 bits -/
  secs : Nat := 0
  /-- archive clock fraction, 32 bits -/
  frac : Nat := 0
  /-- second mark (R47): frame number and UTC seconds -/
  markFrame : Nat := 0
  markSecs : Nat := 0
  /-- last known time (R63): seconds, fraction, and the frame of the record -/
  lastKnown : Option (Nat × Nat) := none
  lastKnownFrame : Option Nat := none
  /-- gap charge of this power-on: power-on count and charged age in 1/1024 s (R65) -/
  gapCharge : Option (Nat × Nat) := none
  /-- the first Set Time from unset has been made in this power-on (R66) -/
  measured : Bool := false
  /-- g of R66 as last measured -/
  lastG : Int := 0
  deriving DecidableEq, Repr, Inhabited

/-- A signed object held or stored (R262, R493). -/
structure Objects where
  /-- current drive record, on the designated LUNs (R491) -/
  drive : Option DriveRecord := none
  /-- current media profile -/
  media : Option MediaProfile := none
  /-- objects that take effect at the next start-up (R493) -/
  nextDrive : Option DriveRecord := none
  nextMedia : Option MediaProfile := none
  /-- objects held in host-complex DRAM while Unprovisioned (R493) -/
  heldDrive : Option DriveRecord := none
  heldMedia : Option MediaProfile := none
  /-- format record durable (R495) -/
  formatted : Bool := false
  deriving DecidableEq, Repr, Inhabited

/-- Start-up (R486 to R490) and device-level conditions. -/
structure Startup where
  /-- stage in progress, 1 to 8 (R486) -/
  stage : Nat := 1
  /-- frame at which the first stage of this start-up began (R487) -/
  begin : Nat := 0
  /-- failed ports are trained again in this start-up: it is a power-up or a deep reset (R55) -/
  retest : Bool := true
  /-- this start-up is a wake from crow's-nest mode or power-down (R487) -/
  fromWake : Bool := false
  /-- failure flag of R490 -/
  failed : Bool := false
  /-- stage 5 has completed since the last AON power-on reset or deep reset (R488) -/
  configReady : Bool := false
  /-- limit expiries in this power-on (R490) -/
  expiries : Nat := 0
  /-- the last host-complex record is a clean-shutdown record (R165) -/
  clean : Bool := false
  /-- cores have been released (R486 stage 3, R531) -/
  released : Bool := false
  /-- device fault (R23) -/
  fault : Bool := false
  /-- the stop lasts until a power cycle (R531) -/
  untilPowerCycle : Bool := false
  /-- an NSSR write latched during the dump of a device fault (R499) -/
  nssrLatched : Bool := false
  /-- an NSSR write has been decoded; the deep reset runs from step 1 of the next frame (R498) -/
  deepWanted : Bool := false
  /-- the dump under way ends in a deep reset (R498) -/
  deepDump : Bool := false
  /-- `PWRFAIL#` was sampled low in that dump: the restart waits as R154 provides (R500) -/
  deepWaits : Bool := false
  /-- sanitize in progress (R308): the erase blocks of segments under key reference 0 still to erase, by global LUN and block -/
  sanitize : Option (List (Nat × Nat)) := none
  /-- the most recent sanitize has completed (Sanitize Status log page) -/
  sanitized : Bool := false
  /-- VQSEL level in mV sampled in stage 1; a free value where the resistance leaves it undefined (R518) -/
  vqsel : Nat := 1200
  /-- VDDQF up (R519) -/
  vddqf : Bool := false
  deriving DecidableEq, Repr, Inhabited

/-! ## Power and temperature -/

/-- Kinds of low-power entry (R463). -/
inductive EntryKind where
  | mast (m : Nat) | port (p : Nat) | halyard (p : Nat) | hostLink (p : Nat) | crowsNest | powerDown
  deriving DecidableEq, Repr, Inhabited

/-- An entry in progress (R465, R466). -/
structure Entry where
  kind : EntryKind
  /-- the preparation of R470 is over, or none is needed -/
  prepared : Bool := true
  /-- frame G in which the domains were asked -/
  asked : Option Nat := none
  /-- domains that have agreed and are not yet furled -/
  agreed : List Nat := []
  /-- domains furled by this entry, newest batch first, one list per furl step -/
  furls : List (List Nat) := []
  /-- an abort is waking domains, one furl step per frame (R467) -/
  waking : Bool := false
  /-- the handshake timeout has passed (R465) -/
  timedOut : Bool := false
  /-- a demand for work in a domain of the entry (R467) -/
  demanded : Option Nat := none
  deriving DecidableEq, Repr, Inhabited

/-- Power management (R457 to R474, R519 to R526). -/
structure Power where
  dev : DevState := .starting
  /-- host limit of the reef level (R459) -/
  hostLimit : Nat := 0
  /-- reef level, host limit and thermal level in effect at the last step 5, to report changes (R459) -/
  level : Nat := 0
  levelHost : Nat := 0
  levelTherm : Nat := 0
  /-- furled domains by the index of R419, with their DRAM depth off (R28) in `off` -/
  furled : List Nat := []
  off : List Nat := []
  entries : List Entry := []
  /-- entries to be started again: kind and frame of the abort or refusal (R467) -/
  holdOff : List (EntryKind × Nat) := []
  refused : Nat := 0
  aborted : Nat := 0
  lastRefuser : Option Nat := none
  /-- last wake source, 0 for none (R468) -/
  lastWake : Nat := 0
  /-- the wake source after which the device stays armed, until it enters again (R474) -/
  wokenBy : Option Nat := none
  /-- crow's-nest armed with this sampling interval in seconds (R469) -/
  armed : Option Nat := none
  /-- the window that caused the last sampler wake, taking no part until back inside (R474): 0-15 TD, 16 bank, 17 VIN -/
  excluded : List Nat := []
  /-- a Power Down command has been accepted (R165, R471) -/
  poweringDown : Bool := false
  /-- the steps of R165, for a shutdown, a power-down or a crow's-nest entry: 0 none, 1 outstanding commands are completed, 2 held data
  and staging become durable, 3 checkpoints and the clean-shutdown record become durable, 4 complete -/
  prep : Nat := 0
  /-- admission stopped (R152, R165, R470) -/
  stopped : Bool := false
  /-- frame in which the device became ready, for the re-entry delay (R474) -/
  readyFrame : Nat := 0
  /-- package input power: the last 64 frames (R461) -/
  watts : List Nat := []
  /-- halvings of the program and erase limit in effect, 0 to 3 (R461) -/
  halvings : Nat := 0
  /-- consecutive frames at or below 7/8 of the cap, and the frame of the last halving (R461) -/
  coolFrames : Nat := 0
  lastHalving : Option Nat := none
  /-- `PWRFAIL#` latch (R521) -/
  pwrLatch : Bool := false
  /-- dump in progress: frame F (R152) -/
  dumpFrame : Option Nat := none
  /-- rounds run in this dump -/
  rounds : Nat := 0
  /-- the dump under way or last ended is thermal (R477) -/
  thermalDump : Bool := false
  /-- thermal dumps since the last AON power-on reset (R477) -/
  thermalDumps : Nat := 0
  /-- the dump's actions of frame F+1 have been taken (R152) -/
  dumpBegun : Bool := false
  /-- `WAKE#` driven low by the device (R526) -/
  wakeDriven : Bool := false
  /-- tick of the last always-on sample, and the value of each of the 25 inputs in it (R201, R472) -/
  sampleTick : Nat := 0
  sampled : List (Option Int) := []
  /-- `TD` inputs that were configured and not failed when `HCX` was furled: the sampler reads these (R472) -/
  watched : List Nat := []
  deriving DecidableEq, Repr, Inhabited

/-- One of the 25 thermal inputs (R475, R476). -/
structure ThermIn where
  /-- latest reading in 1/16 °C -/
  raw : Int := 400
  /-- a sample has been taken -/
  sampled : Bool := false
  failed : Bool := false
  /-- consecutive samples more than 15 °C from the median -/
  outRun : Nat := 0
  /-- consecutive samples in range and near the median, while failed -/
  inRun : Nat := 0
  /-- the last sample was out of range, open or shorted -/
  badNow : Bool := false
  /-- highest value, substituted where the input has failed, since the last advance of the age clocks (R201) -/
  hottest : Option Int := none
  deriving DecidableEq, Repr, Inhabited

/-- Temperature (R475 to R480). -/
structure Thermal where
  inputs : List ThermIn := List.replicate 25 {}
  /-- throttle stage in effect (R478) -/
  stage : Nat := 0
  flashStage : Nat := 0
  junctionStage : Nat := 0
  /-- consecutive samples at least 3 °C below the threshold of stages 1 to 4, for the flash and the junction stage -/
  flashCool : List Nat := [0, 0, 0, 0]
  junctionCool : List Nat := [0, 0, 0, 0]
  /-- frame in which the grace time began (R479) -/
  grace : Option Nat := none
  /-- thermal level enforced (R479) -/
  level : Nat := 0
  enforced : Bool := false
  /-- minutes at stage 1 or above, and at stage 4, in frames (R480) -/
  warnFrames : Nat := 0
  critFrames : Nat := 0
  /-- frame of the last sample (R475) -/
  lastSample : Nat := 0
  deriving DecidableEq, Repr, Inhabited

/-- Hold-up energy (R140 to R149). -/
structure Energy where
  /-- the last 64 reduced bank samples in mV, newest first (R143) -/
  samples : List Nat := []
  /-- the last 16 bank samples without that reduction, newest first (R148) -/
  raws : List Nat := []
  v : Nat := 0
  cMeas : Nat := 0
  /-- the last recorded c_meas (R149), in the journal -/
  recorded : Option Nat := none
  eUse : Nat := 0
  budget : Nat := 0
  eNeed : Nat := 0
  /-- rescue programs per round of each mast, u[m] (R144) -/
  u : List Nat := []
  deficit : Bool := false
  critical : Bool := false
  /-- self-test in progress: V1 and the frame of HU_LOAD assertion (R148) -/
  test : Option (Nat × Nat) := none
  /-- HU_LOAD asserted (R523) -/
  huLoad : Bool := false
  /-- frame of release, V2 pending (R148) -/
  released : Option Nat := none
  /-- consecutive invalid results (R149), and the frame of the last -/
  invalid : Nat := 0
  invalidFrame : Option Nat := none
  /-- frame of the last test started (R151) -/
  lastTest : Option Nat := none
  /-- c_meas held at 0 after three invalid results -/
  heldZero : Bool := false
  /-- the first test since power-up has ended, so writes may be admitted (R148) -/
  firstDone : Bool := false
  /-- the last result, 0 if invalid -/
  result : Nat := 0
  deriving DecidableEq, Repr, Inhabited

/-! ## Masts, ports, LUNs -/

/-- A line of a table cache (R443 to R447). -/
structure CacheLine where
  set : Nat
  way : Nat
  tag : Nat
  dirty : Bool := false
  locked : Bool := false
  deriving DecidableEq, Repr, Inhabited

/-- A mast's table cache (R443 to R448). -/
structure Cache where
  lines : List CacheLine := []
  /-- eviction buffer, oldest first: line address and whether its write-back has started -/
  evict : List (Nat × Bool) := []
  /-- disabled (set group, way) pairs -/
  disabled : List (Nat × Nat) := []
  /-- corrected errors: (set group, way, count, frame the window began) -/
  errors : List (Nat × Nat × Nat × Nat) := []
  /-- pseudo-LRU tree of a set: the 15 node bits, node 1 the root, bit 0 unused; all 0 where not listed -/
  lru : List (Nat × Nat) := []
  /-- fills that wait for room in the eviction buffer: line address and whether it is a write (R445) -/
  fills : List (Nat × Bool) := []
  /-- locked lines skipped by the last operation by range (R446) -/
  skipped : Nat := 0
  deriving DecidableEq, Repr, Inhabited

/-- A protected memory: mast DRAMs 0-7, host-complex DRAM 8, mast SRAMs 16-23, host, management, key store, AON SRAMs 24-27
(R449 to R455). -/
structure MemUnit where
  /-- words corrected since the last fill, each with the frame of its first correction (R452, R454) -/
  corrected : List (Nat × Nat) := []
  /-- pages retired, those of retired banks apart -/
  retiredPages : List Nat := []
  retiredBanks : List Nat := []
  /-- frame of the last correction event (R452) -/
  lastEvent : Option Nat := none
  filled : Bool := false
  deriving DecidableEq, Repr, Inhabited

/-- A reservation of IV counters held by a mast (R300): key reference, next value, end. -/
structure IvRes where
  keyRef : Nat
  next : Nat
  stop : Nat
  deriving DecidableEq, Repr, Inhabited

/-- A mast (R18, R34 to R37). -/
structure Mast where
  state : MastState := .active
  faults : Nat := 0
  restartUsed : Bool := false
  /-- last fault, by item of R35 from 1; 0 for none -/
  lastFault : Nat := 0
  lastFaultFrame : Nat := 0
  /-- frame in which the restart began (R37) -/
  restartFrame : Option Nat := none
  cipherFaults : Nat := 0
  /-- faults met in sealing the unit that is next: 0, 1, or 2 when another mast's engine seals it (R307) -/
  sealFaults : Nat := 0
  /-- fabric link fenced (R36) -/
  fenced : Bool := false
  /-- frame in which work was last dispatched to the mast (R464) -/
  lastWork : Nat := 0
  iv : List IvRes := []
  /-- slots loaded in the cipher engine (R296) -/
  slots : List Nat := []
  /-- rescue blocks in use: global LUN, erase block, pages programmed (R145, R261) -/
  rescue : List (Nat × Nat × Nat) := []
  /-- rescue blocks whose rescue-retired record is durable, and which may be erased (R158) -/
  rescueRetired : List (Nat × Nat) := []
  cache : Cache := {}
  deriving DecidableEq, Repr, Inhabited

/-- An entry of a frame plan (R51, R52). -/
structure PlanEntry where
  lun : Nat
  cycles : Nat
  contracted : Bool := false
  /-- 0 command, 1 data-in, 2 data-out, 3 poll, 4 suspend, 5 resume -/
  kind : Nat := 0
  /-- first cycle of the frame, planned or, once the entry has run, taken; 0 for a carried entry (R48, R53) -/
  start : Nat := 0
  /-- chip enable and row address of a command (R73) -/
  addr : Nat × Nat := (0, 0)
  /-- the block of a read that it belongs to: command and index -/
  ref : Option (Nat × Nat) := none
  deriving DecidableEq, Repr, Inhabited

/-- A flash port (R53 to R56, R71). -/
structure Port where
  state : PortState := .normal
  /-- overrun marks of the current window, newest first, at most 64 (R55) -/
  window : List Bool := []
  /-- consecutive frames without an overrun -/
  clearRun : Nat := 0
  overruns : Nat := 0
  carriedEntries : Nat := 0
  largest : Nat := 0
  degradedEntries : Nat := 0
  fencedEntries : Nat := 0
  /-- entries into fenced of this power-on before the last deep reset (R55, R535) -/
  fencedBefore : Nat := 0
  /-- frame of the entry into fenced (R55) -/
  fencedAt : Option Nat := none
  /-- third entry into fenced: failed once every started die operation has ended (R55) -/
  draining : Bool := false
  /-- chip enables that passed training, bitmap (R71) -/
  cePassed : Nat := 0
  /-- excluded local LUNs (R71, R94) -/
  excluded : List Nat := []
  /-- this frame has carried an entry -/
  overrunNow : Bool := false
  /-- plan of the next frame (R51) -/
  plan : List PlanEntry := []
  /-- entries that run in this frame, and entries of it not started, which are carried (R53), each in order -/
  run : List PlanEntry := []
  carried : List PlanEntry := []
  /-- VDDQF and interface up, training passed in this power-up -/
  trained : Bool := false
  deriving DecidableEq, Repr, Inhabited

/-- A die operation in progress (R52, R89). -/
structure DieWork where
  kind : DieOp
  block : Nat
  started : Nat
  plannedEnd : Nat
  suspends : Nat := 0
  suspended : Bool := false
  /-- suspends that the profile allows it: 0 where its kind cannot be suspended (R74, R89) -/
  limit : Nat := 0
  /-- its command is still to be planned, and so many data-in bursts; its duration in frames from the last of them (R51, R52) -/
  cmd : Bool := false
  dataLeft : Nat := 0
  dur : Nat := 0
  /-- frame from which a suspended die takes reads: the suspend latency has passed (R74) -/
  idleFrom : Nat := 0
  /-- segment sequence, wordline and pass of a program pass -/
  ref1 : Nat := 0
  ref2 : Nat := 0
  pass : Nat := 0
  deriving DecidableEq, Repr, Inhabited

/-- An erase block that is not a good, pending-erase block of count 0, as a format leaves it (R80, R157, R219, R495). -/
structure EBlock where
  number : Nat
  state : BlockState
  erases : Nat := 0
  /-- free blocks: erased -/
  erased : Bool := true
  /-- tracked offset of each read reference, in tracking steps; 0 where the list ends (R172) -/
  offsets : List Int := []
  /-- highest bits corrected and highest ladder step of the last patrol (R205) -/
  bits : Nat := 0
  step : Nat := 0
  deriving DecidableEq, Repr, Inhabited

/-- A LUN that is not idle with every block in its first condition (R92, R94, R229). -/
structure Lun where
  glun : Nat
  work : Option DieWork := none
  blocks : List EBlock := []
  /-- blocks with the factory's bad-block mark (R495) -/
  factoryBad : List Nat := []
  /-- blocks retired since the first format (R229) -/
  retired : Nat := 0
  /-- retired system blocks, each with the block that has taken its role (R93, R229) -/
  swaps : List (Nat × Nat) := []
  /-- pages appended since the first format to its log blocks and to its directory blocks (R93, R257) -/
  logPages : Nat := 0
  dirPages : Nat := 0
  deriving DecidableEq, Repr, Inhabited

/-! ## Stored data -/

/-- Where the current copy of a stored block is (R139, R150, R167). -/
inductive Place where
  /-- admitted, not yet arrived (R167) -/
  | waiting
  /-- in an open row of the host-complex DRAM (R135) -/
  | openRow
  /-- sealed and held in a mast's DRAM (R138) -/
  | held
  /-- in a rescue record (R150) -/
  | parked
  /-- on flash: final pass complete and durable -/
  | flash
  deriving DecidableEq, Repr, Inhabited

/-- Markers of a block identity (R249). -/
inductive Marker where
  | data | fill | void | loss
  deriving DecidableEq, Repr, Inhabited

/-- One stored logical block (R248, R249): namespace, LBA, payload as sealed, tag, IV counter, protection information. -/
structure Stored where
  nsid : Nat
  lba : Nat
  gen : Nat
  marker : Marker := .data
  /-- the logical bytes; the ciphertext where the block came sealed from a partner (R372, R380) -/
  payload : Block := 0
  imported : Bool := false
  /-- sealed by a cipher engine (R136) -/
  sealed : Bool := false
  tag : BitVec 128 := 0
  iv : Nat := 0
  /-- the key that the cipher engine sealed it under: the ciphertext on flash is a function of it -/
  sealKey : BitVec 256 := 0
  appTag : Nat := 0
  refTag : Nat := 0
  keyRef : Nat := 0
  place : Place := .waiting
  /-- segment, row, codeword unit and block index that hold it (R108) -/
  seg : Nat := 0
  row : Nat := 0
  unit : Nat := 0
  idx : Nat := 0
  /-- mast on which the block counts: the member's or the deputy's (R84, R144) -/
  mast : Nat := 0
  /-- admission order (R153) -/
  order : Nat := 0
  /-- counts as dirty (R144) -/
  dirty : Bool := true
  /-- rescue block that holds its parked copy: global LUN and erase block -/
  rlun : Nat := 0
  rblk : Nat := 0
  /-- dump identity of that record: power-on count and frame F (R153); and whether its run has no index record yet (R155, R261) -/
  rid : Nat × Nat := (0, 0)
  unindexed : Bool := false
  /-- command that brings its data -/
  cmd : Nat := 0
  /-- function whose write it is, 0xFF for internal work (R433, R436) -/
  fn : Nat := 0xFF
  /-- a compaction copy that has not committed: namespace and source segment (R223); such a copy, like a block whose conventional
  LBA has been remapped before its row was durable, is listed under namespace 0 and only holds its position -/
  copyOf : Option (Nat × Nat) := none
  /-- end-to-end tags are stored unchanged or remapped; the guard was checked (R101) -/
  arrived : Bool := false
  deriving DecidableEq, Repr, Inhabited

/-- State of one data row of a segment (R136 to R138, R157, R217). -/
structure Row where
  row : Nat
  /-- codeword units sealed -/
  sealedUnits : List Nat := []
  /-- parity units delivered (R137) -/
  parity : Bool := false
  /-- members whose final pass is complete -/
  finals : List Nat := []
  /-- members whose report is durable (R158) -/
  reported : List Nat := []
  /-- row durable recorded -/
  durable : Bool := false
  /-- members never programmed (R217), and those of them that a port is the cause of (R218) -/
  gaps : List Nat := []
  portGaps : List Nat := []
  /-- positions from this one on are settled as fill blocks (R117); none for a row without fill -/
  fillFrom : Option Nat := none
  deriving DecidableEq, Repr, Inhabited

/-- A member rewrite under way (R211): the member, its new erase block, the wordlines of it whose passes have completed, by pass, and how many
have a durable final pass. -/
structure Move where
  member : Nat
  block : Nat
  passes : List Nat := []
  durable : Nat := 0
  deriving DecidableEq, Repr, Inhabited

/-- A segment (R81, R253). -/
structure Segment where
  /-- placement sequence (R157) -/
  seq : Nat
  replaced : Nat := 0
  gen : Nat := 0
  nsid : Nat := 0
  /-- none for a conventional segment -/
  zone : Option Nat := none
  index : Nat := 0
  width : Nat := 8
  g : Nat := 0
  l : Nat := 0
  cls : Nat := 0
  archival : Bool := false
  home : Nat := 0
  keyRef : Nat := 0
  stamp : Nat := 0
  utc : Nat := 0
  poc : Nat := 0
  revision : Nat := 0
  /-- member erase blocks, in member order -/
  members : List Nat := []
  /-- members recorded as erasures (R41, R56), and those of them that a port is the cause of -/
  erasures : List Nat := []
  portErasures : List Nat := []
  /-- rewrite candidates found in this lap (R209) -/
  candidates : List Nat := []
  /-- members that became candidates in the lap in progress (R210) -/
  lapCandidates : List Nat := []
  /-- ledger blocks that patrol re-read and verified: removed from the ledger at the commit of the move (R227) -/
  verified : List Nat := []
  /-- a refresh was tried in this lap and found no segment (R211) -/
  triedLap : Bool := false
  /-- due for refresh by its age or by its rewrite candidates in one lap (R210) -/
  refresh : Bool := false
  /-- due for refresh by wear levelling (R220) -/
  wear : Bool := false
  /-- relocation in progress: destination sequence (R159) -/
  dest : Option Nat := none
  rows : List Row := []
  /-- wordlines whose passes have completed on each member, by pass, the final one last (R74, R138) -/
  progress : List (Nat × List Nat) := []
  /-- wordlines of each member whose final pass is durable (R158) -/
  finals : List (Nat × Nat) := []
  /-- member rewrites under way (R211) -/
  moves : List Move := []
  /-- a program failed: the segment is to be replaced (R214) -/
  replace : Bool := false
  /-- the segment takes no more blocks -/
  full : Bool := false
  /-- last row that will be written, once the zone or segment is finished (R117) -/
  lastRow : Option Nat := none
  /-- the header row has been sent -/
  headerSent : Bool := false
  /-- valid blocks of a conventional segment -/
  valid : Nat := 0
  deriving DecidableEq, Repr, Inhabited

/-- A journal record waiting for its pSLC programs, or durable (R156, R157). -/
inductive JRec where
  | passComplete (seq member wl pass block : Nat)
  | rowDurable (seq row : Nat)
  | blockState (glun block state erases : Nat)
  | mapRecord (kind source dest : Nat)
  | zoneState (nsid zone gen state wp : Nat)
  | reservation (counter keyRef mast start stop : Nat)
  | rescueIndex (mast : Nat)
  | allocation (seq : Nat)
  | gapRow (seq row : Nat) (members : List Nat)
  | capacitance (value : Nat)
  | lastKnown (secs frac : Nat)
  | lossEntry (nsid lba count : Nat)
  | checkpointEnd
  | setting (ident scope value : Nat)
  /-- the Empty or Offline record of a released zone: the map record of R115 and R159 -/
  | zoneRelease (nsid zone gen state : Nat)
  /-- the rescue index that closes a park of a zone's blocks on a mast (R150, R261) -/
  | parkEnd (mast nsid zone : Nat)
  | rescueRetired (glun block : Nat)
  | memberMap (seq member block : Nat)
  | convMap (nsid lba source dest row unit idx : Nat)
  | readPreserve (entered : Bool)
  | powerOnCount (count : Nat)
  | gapCharge (poc age : Nat)
  | cleanShutdown (frame : Nat)
  | keyEntry (number : Nat)
  | lossRemoval (nsid lba count : Nat)
  /-- the format record of Format Media (R495) -/
  | formatRecord
  deriving DecidableEq, Repr, Inhabited

/-- A journal (R156, R157): 0 to 7 the masts', 8 the host complex's. -/
structure Journal where
  /-- records written and not yet durable, oldest first -/
  staged : List JRec := []
  /-- sequence of the next record -/
  next : Nat := 1
  /-- bytes of records since the last checkpoint -/
  bytes : Nat := 0
  checkpoints : Nat := 0
  /-- generations that its records since the last checkpoint name (R363) -/
  gens : List Nat := []
  /-- LUNs whose log blocks hold its live records, those since the last checkpoint, each with the first of its log pages that does -/
  live : List (Nat × Nat) := []
  deriving DecidableEq, Repr, Inhabited

/-- A loss ledger entry (R224). -/
structure Loss where
  nsid : Nat
  lba : Nat
  count : Nat
  gen : Nat
  cause : Nat
  foundBy : Nat
  fn : Nat
  poc : Nat
  frame : Nat
  utc : Nat
  deriving DecidableEq, Repr, Inhabited

/-- The age clock of a stripe set (R198, R201), in 1/1024 s. -/
structure AgeClock where
  width : Nat
  g : Nat
  l : Nat
  age : Nat := 0
  /-- as the last record has it, staged and durable (R202) -/
  written : Nat := 0
  recorded : Nat := 0
  deriving DecidableEq, Repr, Inhabited

/-- Patrol (R204 to R208). -/
structure Patrol where
  lapStart : Nat := 0
  running : Bool := false
  total : Nat := 0
  done : Nat := 0
  /-- slices that have fallen due in this lap (R206) -/
  issued : Nat := 0
  /-- since this frame, at which this many were due, the rest fall due evenly up to the end of this target, in frames -/
  base : Nat := 0
  baseIssued : Nat := 0
  target : Nat := 0
  raised : Bool := false
  late : Bool := false
  lastLap : Nat := 0
  /-- segments still to read in this lap, in the order of R204 -/
  todo : List Nat := []
  /-- zones whose overflow marker was set in this lap (R228) -/
  markedNow : List (Nat × Nat) := []
  /-- the ledger had room when the lap began -/
  roomAtStart : Bool := true
  /-- slices of the crow's-nest batch still to read; the device returns to crow's-nest mode after them (R206) -/
  batch : Nat := 0
  /-- tick at which the next batch falls due in crow's-nest mode -/
  batchTick : Nat := 0
  deriving DecidableEq, Repr, Inhabited

/-- Media-wide state. -/
structure Media where
  /-- erase blocks per LUN available to segments, as computed at the last format (R94) -/
  segBlocks : Nat := 0
  segs : List Segment := []
  blocks : List Stored := []
  /-- next placement sequence and end of its reservation (R157) -/
  nextSeq : Nat := 1
  seqEnd : Nat := 0
  /-- zone generation counter and end of its reservation (R116) -/
  nextGen : Nat := 1
  genEnd : Nat := 0
  ledger : List Loss := []
  /-- blocks ever entered (R236) -/
  lossTotal : Nat := 0
  /-- conventional regions with the overflow marker set (R228) -/
  marked : List Nat := []
  ages : List AgeClock := []
  /-- frame of the last advance of the age clocks (R201) -/
  ageFrame : Nat := 0
  patrol : Patrol := {}
  readPreserve : Bool := false
  shrinkExhausted : Bool := false
  /-- a structure of a later major version was found (R263) -/
  newerMajor : Bool := false
  /-- next admission order number -/
  order : Nat := 1
  /-- journals 0 to 7 and 8 -/
  journals : List Journal := List.replicate 9 {}
  deriving DecidableEq, Repr, Inhabited

/-! ## Namespaces and zones -/

/-- A placement class (R124). -/
structure PClass where
  number : Nat
  width : Nat
  archival : Bool
  /-- affinity set, bitmap of masts -/
  affinity : Nat
  deriving DecidableEq, Repr, Inhabited

/-- A zone that is not Empty in its initial condition (R109, R126, R128). -/
structure Zone where
  zi : Nat
  state : ZoneState := .empty
  /-- assigned pointer, as an offset in the zone (R118) -/
  wp : Nat := 0
  /-- written blocks of a finished zone -/
  written : Nat := 0
  ext : Wide := 0
  extValid : Bool := false
  cls : Nat := 0
  width : Nat := 0
  archival : Bool := false
  affinity : Nat := 0
  gen : Nat := 0
  keyRef : Nat := 0
  home : Nat := 0
  affinityOut : Bool := false
  segs : List Nat := []
  /-- Zone Finished by Controller (R99) -/
  zfc : Bool := false
  /-- admission order of the last admitted write (R123), and the frame of the last admitted block (R150) -/
  lastWrite : Nat := 0
  lastFrame : Nat := 0
  fixity : FixityState := .unchecked
  fixPoc : Nat := 0
  fixFrame : Nat := 0
  /-- found by the slices of this lap: a leaf that failed, a block that was lost (R270, R271) -/
  lapFailed : Bool := false
  lapIncomplete : Bool := false
  overflow : Bool := false
  /-- leaves computed, in order (R267) -/
  leaves : List Digest := []
  root : Digest := 0
  utcFinish : Nat := 0
  /-- the trailer is detached (R256), and the LUN and first log page of its two copies -/
  detached : Bool := false
  trailerAt : List (Nat × Nat) := []
  /-- state that the last durable record gives it (R161) -/
  safe : ZoneState := .empty
  /-- trailer rows are durable, or a detached trailer is -/
  trailer : Bool := false
  /-- leaves must be recomputed (R268) -/
  stale : Bool := false
  /-- the Full state is durable (R281) -/
  fullDurable : Bool := false
  /-- mirrored by this relationship (R379) -/
  mirror : Option Nat := none
  /-- parked since the last write (R150) -/
  parked : Bool := false
  deriving DecidableEq, Repr, Inhabited

/-- The key binding of a namespace (R297). -/
inductive Binding where
  | none | slot (n : Nat) | lapsed
  deriving DecidableEq, Repr, Inhabited

/-- A namespace (R103, R130, R318). -/
structure Namespace where
  nsid : Nat
  origin : Nat := 0
  /-- the companion's identifier, or of a companion its zoned namespace's -/
  companion : Option Nat := none
  /-- Command Set Identifier 00h: a conventional region -/
  conv : Bool := false
  lbaf : Nat := 0
  pi : Nat := 1
  zoneCount : Nat := 0
  segsPerZone : Nat := 1
  wmax : Nat := 8
  cls : Nat := 0
  permitted : List Nat := [0, 1]
  pie : Bool := false
  active : Nat := 64
  open_ : Nat := 32
  /-- blocks of the conventional region -/
  size : Nat := 0
  attached : List Nat := []
  bound : Binding := .none
  landing : Bool := false
  /-- deleted; commands admitted before the deletion still complete (R320) -/
  deleted : Bool := false
  zones : List Zone := []
  /-- erase blocks reserved (R107, R134, R230) -/
  reserved : Nat := 0
  /-- Changed Zone List (R99) -/
  changed : List Nat := []
  /-- conventional region: width, grade, home of its segments (R132) -/
  cwidth : Nat := 8
  carch : Bool := false
  chome : Nat := 0
  /-- conventional region: mapped LBA to placement sequence of its segment -/
  map : List (Nat × Nat) := []
  /-- conventional region: the segment being written, and its next data position -/
  cseg : Option Nat := none
  cpos : Nat := 0
  /-- conventional region: segments not yet allocated of its reservation (R222) -/
  csegsLeft : Nat := 0
  deriving DecidableEq, Repr, Inhabited

/-! ## Functions and I/O -/

/-- A function's contract (R181). -/
structure Contract where
  cls : LatClass := .c
  constantTime : Bool := false
  reserved : Nat := 0
  burst : Nat := 1024
  /-- explicit T, none for the default (R196) -/
  t : Option Nat := none
  ceiling : Nat := 64
  deriving DecidableEq, Repr, Inhabited

/-- An event record (R423). -/
structure Event where
  frame : Nat
  source : Nat
  code : Nat
  severity : Nat
  phase : Bool := false
  summary : Bool := false
  fn : Nat := 0xFFFF
  args : List Nat := []
  /-- held in ring staging until a ring is enabled (R305, R473, R490) -/
  held : Bool := false
  deriving DecidableEq, Repr, Inhabited

/-- Undelivered records of one source (R428). -/
structure Missed where
  source : Nat
  count : Nat
  first : Nat
  severity : Nat
  deriving DecidableEq, Repr, Inhabited

/-- An event ring (R425 to R429, R539). -/
structure Ring where
  baseLo : Word := 0
  baseHi : Word := 0
  enabled : Bool := false
  sizeCode : Nat := 0
  severity : Nat := 2
  vector : Nat := 0
  tail : Nat := 0
  phase : Bool := true
  head : Nat := 0
  overflow : Bool := false
  failedWrite : Bool := false
  missed : List Missed := []
  /-- records staged in the host complex, at most 64 (R429) -/
  staged : List Event := []
  /-- records in host memory from head to tail, oldest first -/
  records : List Event := []
  /-- frame of its last MSI-X message (R427) -/
  rang : Option Nat := none
  deriving DecidableEq, Repr, Inhabited

/-- A completion queue entry (R395, R550). -/
structure Cqe where
  sq : Nat
  cid : Nat
  sct : Nat
  sc : Nat
  dnr : Bool := true
  result : Nat := 0
  deriving DecidableEq, Repr, Inhabited

/-- A completion queue (R395, R441). -/
structure Cq where
  qid : Nat
  size : Nat
  vector : Nat
  ien : Bool := true
  head : Nat := 0
  tail : Nat := 0
  /-- entries posted and not yet consumed, oldest first -/
  entries : List Cqe := []
  deriving DecidableEq, Repr, Inhabited

/-- A submission queue (R395, R396). -/
structure Sq where
  qid : Nat
  size : Nat
  cq : Nat
  head : Nat := 0
  tail : Nat := 0
  /-- stalled by a failed fetch (R405) -/
  stalled : Bool := false
  deriving DecidableEq, Repr, Inhabited

/-- A key-encryption key (R291). -/
structure Kek where
  index : Nat
  key : BitVec 256
  persistent : Bool
  deriving DecidableEq, Repr, Inhabited

/-- One NVMe controller's registers and admin state (R391 to R393, R398). -/
structure Ctrl where
  ccEn : Bool := false
  rdy : Bool := false
  cfs : Bool := false
  /-- shutdown status: 0 normal, 1 occurring, 2 complete (R165) -/
  shst : Nat := 0
  sqs : List Sq := []
  cqs : List Cq := []
  /-- features by identifier (R393) -/
  features : List (Nat × Nat) := []
  /-- outstanding Asynchronous Event Requests by command identifier, and events waiting -/
  aer : List Nat := []
  aen : List Nat := []
  /-- Error Information log, newest first, at most 64: status and LBA, address or queue -/
  errors : List (Nat × Nat) := []
  /-- masked vectors and the PBA -/
  masked : List Nat := []
  pba : List Nat := []
  /-- vectors whose coalescing time runs: vector and frame due -/
  coalesce : List (Nat × Nat) := []
  /-- latches of R538: FRAME_HI, MARK_FHI, MARK_ULO, MARK_UHI, UTC_HI, UTC_FRAC -/
  frameHi : Word := 0
  markFhi : Word := 0
  markUlo : Word := 0
  markUhi : Word := 0
  utcHi : Word := 0
  utcFrac : Word := 0
  /-- GSTS (R537) -/
  gstsExpert : Bool := false
  gstsSize : Bool := false
  gstsRing : Bool := false
  /-- Changed Namespace List log -/
  changedNs : List Nat := []
  /-- pause causes (R406): Bus Master Enable clear, PME_Turn_Off, Pause Host DMA; the fourth, a handshake asking `HPHY`, follows from
  the entries in progress -/
  pBme : Bool := false
  pPme : Bool := false
  pCmd : Bool := false
  /-- submission queue served last by the fetch (R396) -/
  lastSq : Nat := 0
  deriving DecidableEq, Repr, Inhabited

/-- Counters of R195, R197 and R299. -/
structure Counters where
  bounded : Nat := 0
  within : Nat := 0
  ladder : Nat := 0
  overrun : Nat := 0
  condition : Nat := 0
  hShare : Nat := 0
  hEnergy : Nat := 0
  hTranslation : Nat := 0
  hLun : Nat := 0
  hPort : Nat := 0
  hMirror : Nat := 0
  late : Nat := 0
  tagFailures : Nat := 0
  /-- counts at the last source 484 record and its frame, by cause -/
  rLadder : Nat := 0
  rOverrun : Nat := 0
  rCondition : Nat := 0
  fLadder : Option Nat := none
  fOverrun : Option Nat := none
  fCondition : Option Nat := none
  deriving DecidableEq, Repr, Inhabited

/-- A function: 0 the physical function, 1 to 128 the instances (R7, R312, R315). -/
structure Fn where
  fn : Nat
  expert : Bool := false
  state : InstState := .offline
  /-- resetting: cause, draining (drain policy), frame R, mailbox waiting for retirement -/
  resetCause : Option ResetCause := none
  draining : Bool := false
  resetFrame : Nat := 0
  /-- a reset that begins at the next step 4 (R322) -/
  queuedReset : Option ResetCause := none
  /-- the reset has retired; the instance leaves resetting in the next frame (R326) -/
  retired : Bool := false
  /-- allocations of resources 1 to 8 (R315) -/
  alloc : List Nat := [0, 0, 0, 0, 0, 0, 0, 0]
  contract : Contract := {}
  /-- credits, in 1/1024 of a unit: reserved and burst admission (R184) -/
  resAdm : Int := 0
  burAdm : Int := 0
  /-- reserved and burst media credit per port, in 1/1024 cycle -/
  resMed : List Int := []
  burMed : List Int := []
  ctrl : Ctrl := {}
  counters : Counters := {}
  rings : List Ring := [{}, {}]
  keks : List Kek := []
  /-- consents issued: namespace, function, frame (R319) -/
  consents : List (Nat × Nat × Nat) := []
  /-- a function-level reset is in progress (R326) -/
  inFlr : Bool := false
  /-- PME_En (R526) -/
  pmeEn : Bool := false
  deriving DecidableEq, Repr, Inhabited

/-- A block of a read in progress (R168, R169). -/
structure RBlock where
  nsid : Nat
  lba : Nat
  /-- 0 waiting for the read, 1 served, 2 failed, 3 waiting for its write (R167) -/
  phase : Nat := 0
  /-- last ladder step tried -/
  step : Nat := 1
  /-- frame of the last data-out burst of the failed step (R171) -/
  failedAt : Nat := 0
  /-- frame in which the present step was dispatched, and then in which its read commands ran; whether they, and its bursts, are in a
  plan (R51, R171) -/
  since : Nat := 0
  sent : Bool := false
  planned : Bool := false
  /-- frame in which the planned bursts run -/
  burst : Nat := 0
  status : Nat := 0
  glun : Nat := 0
  /-- its unit: segment, row and unit in one number -/
  key : Nat := 0
  /-- LUNs that the present step reads, one for each burst; those whose bursts are in no plan yet; and LUNs on which it holds reservations
  (R189, R190) -/
  reads : List Nat := []
  due : List Nat := []
  reserves : List Nat := []
  /-- in the present step the target has failed; the rebuild from the other members has -/
  tried : Bool := false
  rebuilt : Bool := false
  /-- LUNs of other members whose block has decoded for a rebuild, and is held -/
  got : List Nat := []
  /-- cipher faults met while opening (R307) -/
  cipher : Nat := 0
  deriving DecidableEq, Repr, Inhabited

/-- Progress of a fetched command. -/
inductive Phase where
  /-- fetched and held (R185) -/
  | held
  /-- admitted, media or DMA work in progress -/
  | running
  /-- data written to host memory, read-back outstanding (R403) -/
  | readBack
  /-- ready to post, waiting for its release frame or the end of a pause (R196, R406) -/
  | ready
  /-- admitted admin command that takes effect at the next step 4 (R421) -/
  | step4
  /-- a read whose instance was reset: its media entries run to their end and their results are dropped (R323) -/
  | squashed
  deriving DecidableEq, Repr, Inhabited

/-- A command fetched and not yet posted (R57, R185). -/
structure Cmd where
  id : Nat
  fn : Nat
  sq : Nat
  cid : Nat
  port1 : Bool := false
  op : Instr
  arrival : Nat
  phase : Phase := .held
  translated : Bool := false
  /-- hops of the descriptor walk that have completed, and the walk's end (R399) -/
  hopsDone : Nat := 0
  walked : Bool := false
  cause : Option HoldCause := none
  /-- frame from which the energy or mirror hold counts (R146) -/
  heldSince : Option Nat := none
  /-- held too long for LUN contention or port budget: it is a class C read from now on (R186) -/
  demoted : Bool := false
  admitted : Option Nat := none
  /-- its place in the order of admission (R177) -/
  order : Nat := 0
  cls : LatClass := .c
  bounded : Bool := false
  bound : Nat := 0
  /-- bound and erasures of the condition that its stripe sets had, for R194 -/
  cond : Nat := 0
  condE : Nat := 0
  /-- the admitting credit was the reserved one -/
  onReserved : Bool := false
  /-- blocks of a read, and their state -/
  blocks : List RBlock := []
  /-- assigned range of a write: namespace, first LBA, count -/
  range : Option (Nat × Nat × Nat) := none
  /-- blocks not yet arrived -/
  waiting : List Nat := []
  /-- it completes when this record of the host-complex journal is durable (R115, R117) -/
  waitsFor : Option Nat := none
  /-- status to post -/
  sct : Nat := 0
  sc : Nat := 0
  dnr : Bool := true
  result : Nat := 0
  errorLba : Option Nat := none
  /-- the command exceeded its bounded steps, met an overrun, a condition change -/
  xLadder : Bool := false
  xOverrun : Bool := false
  xCondition : Bool := false
  /-- parity-class buffers reserved at admission (R439) -/
  parity : Nat := 0
  /-- LUNs that it reads or on which it took reservations at admission (R177, R195) -/
  luns : List Nat := []
  /-- the frame in which the command was ready to post (R196) -/
  readyFrame : Nat := 0
  /-- the command's data have been written to host memory -/
  delivered : Bool := false
  /-- data structure that the command returns, field by field -/
  fields : List Nat := []
  deriving DecidableEq, Repr, Inhabited

/-- What an outstanding non-posted request of the DMA engine is for (R405). -/
inductive ReqFor where
  | walk | data (index : Nat) | readBack | sqFetch (sq : Nat) | mailbox (mb : Nat)
  /-- of records of an event ring, and whether a message is due after them (R403, R427) -/
  | ring (r : Nat) (due : Bool)
  /-- of a command that a reset ended: completed on the link, its data dropped (R325) -/
  | dropped
  deriving DecidableEq, Repr, Inhabited

/-- An outstanding non-posted request (R404, R405). -/
structure DmaReq where
  req : Nat
  fn : Nat
  port1 : Bool := false
  cmd : Nat := 0
  what : ReqFor
  issued : Nat
  address : Nat := 0
  /-- timed out: its tag is retired until this frame (R405) -/
  retiredUntil : Option Nat := none
  /-- timed out while its function was paused: its command fails at resume (R407) -/
  expired : Bool := false
  deriving DecidableEq, Repr, Inhabited

/-- A host port (R386 to R388, R497). -/
structure HostPort where
  link : HostLink := .noLink
  rate : Nat := 0
  width : Nat := 0
  perst : Bool := true
  pmeOff : Bool := false
  /-- PME_TO_Ack has been sent (R406) -/
  acked : Bool := false
  /-- Completion Timeout Value of the port's physical function (R404) -/
  cto : Nat := 0
  deriving DecidableEq, Repr, Inhabited

/-- Host port, queues and DMA engine. -/
structure HostIo where
  ports : List HostPort := [{}, {}]
  /-- a reset of the port 1 function's controller that begins at the next step 4 (R387, R497) -/
  reset1 : Option ResetCause := none
  vfEnable : Bool := false
  numVfs : Nat := 0
  cmds : List Cmd := []
  /-- commands posted in this frame, whose slots and buffers are released at step 3 of the next (R58) -/
  released : List Cmd := []
  nextId : Nat := 1
  reqs : List DmaReq := []
  nextReq : Nat := 1
  /-- entries written by the host and not yet fetched, oldest first: (function, queue, port 1, command, cid) -/
  submitted : List (Nat × Nat × Bool × Instr × Nat) := []
  /-- entries fetched in this frame (R396) -/
  fetched : Nat := 0
  /-- function served last by the fetch, and last in each class and in the burst step (R185, R396) -/
  lastFetch : Nat := 0
  lastA : Nat := 0
  lastB : Nat := 0
  lastC : Nat := 0
  lastBurst : Nat := 0
  /-- place of the next admitted command in the order of admission (R177) -/
  nextAdmit : Nat := 1
  /-- remaining admission and media capacity of the frame, in units and cycles per port (R185) -/
  capAdm : Nat := 0
  capMed : List Nat := []
  deriving DecidableEq, Repr, Inhabited

/-! ## Keys -/

/-- A key slot (R288, R294). -/
structure Slot where
  number : Nat
  owner : Option Nat := none
  state : SlotState := .empty
  key : BitVec 256 := 0
  /-- the new key while Draining: none for an erase -/
  newKey : Option (BitVec 256) := none
  newRef : Nat := 0xFFFF
  newPersistent : Bool := false
  persistent : Bool := false
  keyRef : Nat := 0xFFFF
  generation : Nat := 1
  deriving DecidableEq, Repr, Inhabited

/-- The bookkeeping of one key reference (R300, R303, R365). -/
structure KeyRef where
  number : Nat
  high : Nat := 0
  ceiling : Option Nat := none
  /-- an active export has been made (R365) -/
  exported : Bool := false
  deriving DecidableEq, Repr, Inhabited

/-- An owner attestation key (R279). -/
structure OwnerKey where
  slot : Nat
  priv : BitVec 384
  pub : PubKey
  deriving DecidableEq, Repr, Inhabited

/-- The key store (R288 to R308). -/
structure Keys where
  slots : List Slot := []
  register : List KeyEntry := []
  refs : List KeyRef := []
  ownerKeys : List OwnerKey := []
  /-- draws made from the DRBG and requests since the last reseed (R290) -/
  draws : Nat := 0
  requests : Nat := 0
  reseeds : Nat := 0
  /-- export consents: slot, destination fingerprint, frame (R366) -/
  exports : List (Nat × Digest × Nat) := []
  /-- owner challenges issued: transport, value, frame (R415) -/
  challenges : List (Via × Digest × Nat) := []
  deriving DecidableEq, Repr, Inhabited

/-! ## Fixity -/

/-- Fixity job kinds (R272). -/
inductive JobKind where
  | treeCheck | rangeDigest | zoneAttestation | rangeAttestation | keyBinding
  deriving DecidableEq, Repr, Inhabited

/-- A fixity job (R272 to R286). -/
structure FixJob where
  job : Nat
  kind : JobKind
  via : Via
  fn : Nat
  nsid : Nat := 0
  zone : Nat := 0
  alg : Nat := 0
  extents : List DigestExtent := []
  signKey : Nat := 0
  signSlot : Nat := 0
  verify : Bool := false
  ownShare : Bool := false
  nonce : Digest := 0
  /-- zones covered with their generations, and conventional LBAs with the segments that held them, when the job started (R277) -/
  gens : List (Nat × Nat) := []
  maps : List (Nat × Nat) := []
  /-- blocks covered by a zone attestation (R281) -/
  covered : Nat := 0
  ended : Bool := false
  status : Nat := 0
  argument : Nat := 0
  detail : Nat := 0
  mismatched : List Nat := []
  digest : Wide := 0
  record : Option (BitVec 2688) := none
  changed : Bool := false
  endFrame : Nat := 0
  deriving DecidableEq, Repr, Inhabited

/-- Fixity jobs and results. -/
structure Fixity where
  jobs : List FixJob := []
  next : Nat := 1
  deriving DecidableEq, Repr, Inhabited

/-! ## Mailboxes -/

/-- A mailbox response: status, detail, argument, payload fields in the order of the response column of R419. -/
structure Resp where
  status : Nat
  detail : Nat := 0
  argument : Nat := 0
  fields : List Nat := []
  deriving DecidableEq, Repr, Inhabited

/-- A mailbox, or the MCTP endpoint (R408, R411, R416, R541). -/
structure Mbx where
  via : Via
  busy : Bool := false
  done : Bool := false
  goWhileBusy : Bool := false
  intEn : Bool := false
  vector : Nat := 0
  /-- the command validated and not yet in effect, or waiting for its end, with its verdict -/
  cmd : Option Instr := none
  verdict : Option Resp := none
  /-- frame in which it was validated -/
  validated : Nat := 0
  /-- in effect and waiting for its end (R412) -/
  waiting : Bool := false
  /-- its status waits until the host-complex record with this sequence is durable (R306) -/
  held : Option Nat := none
  /-- the last response -/
  resp : Option Resp := none
  opcode : Nat := 0
  effect : Nat := 0
  tag : Nat := 0
  /-- mailbox-class buffers that the command in it holds (R434) -/
  bufs : Nat := 0
  deriving DecidableEq, Repr, Inhabited

/-- The management mailboxes (R408, R416, R421). -/
structure Mailboxes where
  boxes : List Mbx := []
  /-- mailboxes whose command is validated and not yet in effect, in order of receipt (R421) -/
  order : List Via := []
  deriving DecidableEq, Repr, Inhabited

/-! ## Halyard, migration, mirroring -/

/-- A run of `count` consecutive packets on their way out of a Halyard port, kept until acknowledged (R337). -/
structure TxPkt where
  /-- sequence of the first -/
  seq : Nat
  ptype : Nat
  label : Nat := 0
  hops : Nat := 0
  count : Nat := 1
  args : List Nat := []
  deriving DecidableEq, Repr, Inhabited

/-- Hail and authentication with one neighbour over its link, or with a remote partner end to end (R348, R349, R351, R353). -/
structure Auth where
  hailSent : Bool := false
  /-- the other side's Hail -/
  hail : Option Hail := none
  /-- its public key, from a chain that verified -/
  key : Option PubKey := none
  /-- its key share, with the last sequences that a rekey covers -/
  share : Option (PubKey × Digest) := none
  shareLast : Nat × Nat := (0, 0)
  /-- this side's ephemeral private key, random value and covered last sequences -/
  priv : BitVec 384 := 0
  random : Digest := 0
  ownLast : Nat × Nat := (0, 0)
  shareSent : Bool := false
  sigSent : Bool := false
  sigOk : Bool := false
  doneSent : Bool := false
  doneGot : Bool := false
  /-- key and salt of the packets this side sends and receives in the session, and those agreed for the next -/
  keyOut : BitVec 288 := 0
  keyIn : BitVec 288 := 0
  nextOut : BitVec 288 := 0
  nextIn : BitVec 288 := 0
  /-- a session is in force, since this frame -/
  session : Bool := false
  sessionFrame : Nat := 0
  /-- rekey in progress (R353) -/
  rekey : Bool := false
  deriving DecidableEq, Repr, Inhabited

/-- A Halyard port (R332 to R341, R347). -/
structure HPort where
  state : LinkState := .down
  /-- state to return to after a retrain (R338) -/
  before : Option LinkState := none
  since : Nat := 0
  rate : Nat := 0
  width : Nat := 0
  /-- wait until this frame after a foreign link number (R333) -/
  foreignUntil : Option Nat := none
  /-- frame of the last receiver detection -/
  lastDetect : Option Nat := none
  neighbour : Option Digest := none
  auth : Auth := {}
  txSeq : Nat := 0
  rxNext : Nat := 0
  /-- packets sent and not acknowledged, and those of the numbering before a new session (R349, R353) -/
  txq : List TxPkt := []
  oldq : List TxPkt := []
  /-- control packets that wait for a credit (R339) -/
  wait : List TxPkt := []
  /-- Naks in a row naming the same sequence, and that sequence (R338) -/
  nakRun : Nat := 0
  nakSeq : Option Nat := none
  /-- failed packets within the window that began at this frame -/
  fails : Nat := 0
  failFrom : Nat := 0
  /-- frames in a row without an accepted packet, and whether one came in this frame -/
  silent : Nat := 0
  heard : Bool := false
  /-- control and request credits held for sending (R339) -/
  ctlCredits : Nat := 0
  reqCredits : Nat := 0
  /-- control and request buffers freed in the current frame, returned at the next step 6 -/
  freedCtl : Nat := 0
  freedReq : Nat := 0
  /-- places reserved in the response pool (R340) -/
  reserved : Nat := 0
  /-- flight time in ns, frame of its last measurement, and the Echo request outstanding (R344) -/
  flight : Nat := 0
  measured : Nat := 0
  echoOut : Option Nat := none
  /-- a Nak, an Echo has been sent in this frame (R339); packets sent in it (R458) -/
  nakSent : Bool := false
  echoSent : Bool := false
  sentNow : Nat := 0
  /-- spurious wakes in the window: frames (R359) -/
  spurious : List Nat := []
  /-- wake pattern sending: frame it began and last repeat (R358) -/
  waking : Option (Nat × Nat) := none
  /-- woken by this port from crow's-nest mode, frame (R359) -/
  wokenAt : Option Nat := none
  deriving DecidableEq, Repr, Inhabited

/-- A partner record (R342, R354, R356). -/
structure Partner where
  fp : Digest
  state : LinkState := .down
  downSince : Nat := 0
  asleep : Bool := false
  departed : Bool := false
  /-- end-to-end authentication of a remote partner (R351) -/
  auth : Auth := {}
  /-- port it was last reached on -/
  port : Nat := 0
  /-- frames of exits from Known and Paired, those of earlier power-ons as frame 0 -/
  exits : List Nat := []
  exitCount : Nat := 0
  poc : Nat := 0
  memusum : Nat := 0x10
  deriving DecidableEq, Repr, Inhabited

/-- A path of labels through or to this device (R343): at a relay the label of each side, at an end only the arrival side. -/
structure Label where
  inPort : Nat
  inLabel : Nat
  outPort : Option Nat := none
  /-- label of the other side, none while the reply has not come -/
  outLabel : Option Nat := none
  /-- probe that set it up -/
  origin : Digest := 0
  number : Nat := 0
  /-- at an end: the device at the other end, path latency in ns and hops -/
  partner : Digest := 0
  latency : Nat := 0
  hops : Nat := 0
  deriving DecidableEq, Repr, Inhabited

/-- A probe sent by this device (R343). -/
structure Probe where
  number : Nat
  target : Digest
  sent : Nat
  wake : Bool := false
  deriving DecidableEq, Repr, Inhabited

/-- A request of a peer operation (R340, R369): sent by this device, to be answered by it, or relayed. -/
structure HReq where
  port : Nat
  label : Nat
  tag : Nat
  op : Nat
  ident : Nat
  zone : Nat
  offset : Nat := 0
  count : Nat := 0
  declared : Nat := 0
  /-- response packets that have come -/
  received : Nat := 0
  mine : Bool := true
  /-- relayed: the port and label on which it came -/
  relay : Option (Nat × Nat) := none
  /-- held until a credit and the reservation are there (R341) -/
  sent : Bool := false
  deriving DecidableEq, Repr, Inhabited

/-- Halyard (R332 to R360). -/
structure Halyard where
  ports : List HPort := [{}, {}, {}]
  partners : List Partner := []
  /-- pairing records: fingerprint, and whether by the allowlist (R350) -/
  pairings : List (Digest × Bool) := []
  allowlist : List Digest := []
  /-- quarantine entries: fingerprint and frame of the end (R352) -/
  quarantine : List (Digest × Nat) := []
  labels : List Label := []
  probes : List Probe := []
  nextProbe : Nat := 1
  /-- probes seen: origin, number, frame (R343) -/
  seen : List (Digest × Nat × Nat) := []
  /-- probes held while a neighbour wakes (R358): port, target, origin, number, latency, hops -/
  heldProbes : List (Nat × Digest × Digest × Nat × Nat × Nat) := []
  reqs : List HReq := []
  nextTag : Nat := 1
  deriving DecidableEq, Repr, Inhabited

/-- A piece of a chunk received and not yet checked: zone offset, blocks and metadata (R368). -/
structure Piece where
  offset : Nat
  blocks : List Block := []
  metas : List Wide := []
  deriving DecidableEq, Repr, Inhabited

/-- A zone of a migration job at this end, or of a mirror relationship in catch-up. -/
structure JobZone where
  zone : Nat
  /-- 0 waiting, 1 importing, 2 cut over, 3 withdrawn, 4 refused, 5 ready sent -/
  phase : Nat := 0
  reason : Nat := 0
  /-- chunks verified and checkpointed -/
  chunks : Nat := 0
  /-- stream that has it: its port and label -/
  stream : Option (Nat × Nat) := none
  manifest : Option Manifest := none
  /-- leaves of the stored tree received -/
  leaves : List Digest := []
  treeGot : Bool := false
  /-- pieces received and not yet placed -/
  pieces : List Piece := []
  /-- the chunk has been requested once more (R372) -/
  retried : Bool := false
  deriving DecidableEq, Repr, Inhabited

/-- A migration job at this end (R376). -/
structure Job where
  ident : Nat
  source : Bool
  state : JobState := .offered
  partner : Digest
  nsid : Nat
  cls : Nat := 0
  charge : Bool := false
  maxStreams : Nat := 3
  /-- streams: (port, label) -/
  streams : List (Nat × Nat) := []
  zones : List JobZone := []
  all : Bool := false
  /-- counter floors of the key references that the job sends (R365) -/
  floors : List (Nat × Nat) := []
  bytes : Nat := 0
  changed : Nat := 0
  cause : Nat := 0
  suspendedAt : Option Nat := none
  /-- frame of the Offer (R376) -/
  offeredAt : Nat := 0
  /-- source's generation reservation end, LBA format, protection type and version of its Offer -/
  offer : Nat × Nat × Nat × Nat := (0, 0, 0, 0)
  deriving DecidableEq, Repr, Inhabited

/-- A landing namespace accepted before its Offer arrives (R362). -/
structure Landing where
  source : Digest
  nsid : Nat
  cls : Nat
  mirror : Bool := false
  mode : Nat := 1
  policy : Nat := 0xFF
  lag : Nat := 0
  firstZone : Nat := 0
  zoneCount : Nat := 0
  deriving DecidableEq, Repr, Inhabited

/-- A mirrored zone (R379, R380): its generation, the mirror pointer, and at the source the offset of the next block to send. -/
structure MirZone where
  zone : Nat
  gen : Nat
  ack : Nat := 0
  next : Nat := 0
  /-- Mirror finish has been sent (R380) -/
  finSent : Bool := false
  deriving DecidableEq, Repr, Inhabited

/-- A mirror relationship at this end (R379). -/
structure Mirror where
  ident : Nat
  source : Bool
  other : Digest
  nsid : Nat
  cls : Nat := 0
  firstZone : Nat := 0
  zoneCount : Nat := 0
  /-- 0 synchronous, 1 deferred -/
  mode : Nat := 1
  /-- explicit loss policy: 0 stop, 1 degrade; none for the default (R385) -/
  policy : Option Nat := none
  lagLimit : Nat := 262144
  broken : Bool := false
  catchingUp : Bool := false
  brokenAt : Nat := 0
  /-- mirrored zones -/
  zones : List MirZone := []
  /-- at the partner: writes that wait for energy (R373, R380): port, label, tag, zone, blocks -/
  held : List (Nat × Nat × Nat × Nat × Piece) := []
  /-- zones that the partner pulls in catch-up (R383) -/
  pulls : List JobZone := []
  accepted : Bool := false
  /-- source's generation reservation end, LBA format and protection type of its Offer -/
  offer : Nat × Nat × Nat := (0, 0, 0)
  /-- the source has ended; the landing namespace awaits End Mirror (R384) -/
  ended : Bool := false
  deriving DecidableEq, Repr, Inhabited

/-- Peer operations (R361 to R385). -/
structure Peer where
  jobs : List Job := []
  landings : List Landing := []
  mirrors : List Mirror := []
  next : Nat := 1
  deriving DecidableEq, Repr, Inhabited

/-! ## Buffers and memories -/

/-- An ownership record of a buffer that has been allocated since reset (R436); a buffer without one is free. -/
structure Buf where
  number : Nat
  state : BufState := .free
  cls : BufClass := .writeRows
  fn : Nat := 0xFF
  holders : List Nat := []
  dropped : List Nat := []
  item : Nat := 0
  deriving DecidableEq, Repr, Inhabited

/-- The buffer pool (R431 to R440). -/
structure Pool where
  bufs : List Buf := []
  /-- level entered: 0 none, 1 warn, 2 back-pressure, 3 critical (R435) -/
  level : Nat := 0
  /-- class whose allocation came last, named by the event -/
  lastCls : BufClass := .writeRows
  /-- rejected requests by requester (R437) -/
  rejected : List (Nat × Nat) := []
  /-- requests waiting for a buffer, in order of arrival (R438): buffer class, function, engine, item -/
  waiting : List (BufClass × Nat × Nat × Nat) := []
  deriving DecidableEq, Repr, Inhabited

/-! ## Events and outputs -/

/-- What the device sends to the outside in a step: an output of the model's own record (notes/assumptions/6.md). -/
inductive Out where
  | msix (fn vector : Nat)
  | config (fn : Nat) (retry : Bool) (value : Nat)
  | regRead (fn offset : Nat) (value : Nat)
  | mctp (opcode tag : Nat) (r : Resp)
  | mi (status : Nat) (fields : List Nat)
  | hostWrite (fn cid lba : Nat) (data : Block) (pi : Option PiOut)
  | halyard (port ptype : Nat) (args : List Nat)
  | response (port label tag : Nat) (blocks : List Block) (metas : List Wide) (nodes : List Digest) (status pointer : Nat)
  | mirror (port label tag rel zone offset : Nat) (blocks : List Block) (metas : List Wide)
  | wakePattern (port : Nat)
  | pmeToAck (port : Nat)
  | inBandInterrupt
  | aerUnexpected (fn : Nat)
  | data (fn cid : Nat) (fields : List Nat)
  | tdo (value : Nat)
  deriving DecidableEq, Repr, Inhabited

/-- Events raised and the early warnings' memory (R423 to R430). -/
structure Events where
  /-- records raised in the frame and not yet written to rings, in the order raised -/
  raised : List Event := []
  /-- records of a wake or restart, held until frames run again (R305, R473) -/
  later : List Event := []
  /-- early-warning conditions true at the last evaluation: (row, object) (R430) -/
  warned : List (Nat × Nat) := []
  /-- loss blocks entered: (namespace, frame, count), for row 3 -/
  losses : List (Nat × Nat × Nat) := []
  deriving DecidableEq, Repr, Inhabited

/-- The sideband (R527). -/
structure Sideband where
  /-- dynamic address, none while at the static address 0x1D -/
  dynamic : Option Nat := none
  /-- NVMe-MI configuration of the endpoint (R394): SMBus frequency, 1 100 kHz, 2 400 kHz, 3 1 MHz; MCTP transmission unit in bytes -/
  freq : Nat := 1
  mtu : Nat := 64
  deriving DecidableEq, Repr, Inhabited

/-! ## The state -/

/-- The whole state of the block. -/
structure State where
  /-- the variant (R1), fixed for the part -/
  variant : Variant
  fuses : Fuses := {}
  jtag : Jtag := {}
  clk : Clock := {}
  obj : Objects := {}
  start : Startup := {}
  pwr : Power := {}
  therm : Thermal := {}
  nrg : Energy := {}
  masts : List Mast
  ports : List Port
  luns : List Lun := []
  media : Media := {}
  classes : List PClass := []
  nss : List Namespace := []
  fns : List Fn
  /-- the port 1 function's controller in dual mode (R387) -/
  ctrl1 : Ctrl := {}
  io : HostIo := {}
  keys : Keys := {}
  fix : Fixity := {}
  mbx : Mailboxes
  hal : Halyard := {}
  peer : Peer := {}
  pool : Pool := {}
  /-- memories as MemUnit numbers them, and from 32 the table caches of the masts -/
  mems : List MemUnit := List.replicate 40 {}
  evt : Events := {}
  side : Sideband := {}
  /-- control settings that differ from their defaults: identifier, scope, value (R417), sorted -/
  ctl : List (Nat × Nat × Nat) := []
  /-- status sequence (R536) -/
  stseq : Word := 0
  /-- outputs, newest last; the model's own field -/
  out : List Out := []
  /-- counter that selects fresh free values; the model's own field -/
  fresh : Nat := 0
  /-- the commands that are waiting, first in, first out -/
  pending : List Instr := []
  deriving DecidableEq, Repr

/-- Masts of a variant (R1). -/
def mastCount : Variant → Nat
  | .btk8208 => 2
  | .btk8416 => 4
  | .btk8832 => 8

/-- The state of a part of variant `v` right after an AON power-on reset: stage 1, frame 0 (R43, R486). -/
def State.resetOf (v : Variant) : State :=
  { variant := v
    pwr := { furled := [75, 76, 77] }
    masts := (List.range 8).map fun m => { state := if m < mastCount v then .furled else .absent }
    ports := List.replicate 32 {}
    fns := (List.range 129).map fun f => { fn := f, state := if f = 0 then .online else .offline }
    mbx := { boxes :=
      (List.range 4).map (fun n => { via := .bar 0 n }) ++
      (List.range 128).map (fun i => { via := .bar (i + 1) 0 }) ++ [{ via := .mctp }] } }

/-- The machine right after reset: a BTK8832. -/
def State.reset : State := State.resetOf .btk8832

end Sys2Proof.Machine
end

