-- ==== Sys2Proof/Machine/Ops.lean ====
section
/-! DEFINITION. The shared operations of the model: one update function per field of State, finding and updating the records it
holds, raising events (R423), sending outputs, and the guards on unit numbers (R1, R10). -/

namespace Sys2Proof.Machine

/-- The outcome of a command. -/
abbrev Res := Host.Outcome State Fault Refusal

/-! ## Lists -/

/-- Apply `f` to the entries that satisfy `p`. -/
def updIf {α : Type} (p : α → Bool) (f : α → α) (l : List α) : List α :=
  l.map fun x => if p x then f x else x

/-- Replace the entry with the same key, or add the record at the end. -/
def putBy {α : Type} (key : α → Nat) (x : α) (l : List α) : List α :=
  if l.any (fun y => key y == key x) then l.map (fun y => if key y == key x then x else y) else l ++ [x]

/-- Insert by `le`, after the entries that are not greater (stable). -/
def insertBy {α : Type} (le : α → α → Bool) (x : α) : List α → List α
  | [] => [x]
  | y :: ys => if le y x then y :: insertBy le x ys else x :: y :: ys

/-- Stable insertion sort. -/
def sortBy {α : Type} (le : α → α → Bool) (l : List α) : List α :=
  l.foldl (fun acc x => insertBy le x acc) []

/-- The first entry with the least value of `f`. -/
def minBy {α : Type} (f : α → Nat) : List α → Option α
  | [] => none
  | x :: xs =>
    match minBy f xs with
    | none => some x
    | some y => if f x ≤ f y then some x else some y

def maxOf (l : List Nat) : Nat := l.foldl max 0
def sumOf {α : Type} (f : α → Nat) (l : List α) : Nat := l.foldl (fun a x => a + f x) 0
def countIf {α : Type} (p : α → Bool) (l : List α) : Nat := (l.filter p).length

/-- Remove duplicates, keeping the first. -/
def dedupN (l : List Nat) : List Nat :=
  l.foldl (fun acc x => if acc.contains x then acc else acc ++ [x]) []

/-- Bit `i` of a bitmap. -/
def bit (w i : Nat) : Bool := w / 2 ^ i % 2 == 1
def bitOf (b : Bool) (i : Nat := 0) : Nat := if b then 2 ^ i else 0
/-- The bitmap whose set bits are `l`. -/
def bitmap (l : List Nat) : Nat := (dedupN l).foldl (fun a i => a + 2 ^ i) 0
/-- The set bits of `w` below `n`. -/
def bitsOf (w n : Nat) : List Nat := (List.range n).filter (bit w)
def ceilDiv (a b : Nat) : Nat := (a + b - 1) / b
def popcount (w n : Nat) : Nat := (bitsOf w n).length

/-! ## State updates, one per field -/

def State.modFuses (s : State) (f : Fuses → Fuses) : State := { s with fuses := f s.fuses }
def State.modJtag (s : State) (f : Jtag → Jtag) : State := { s with jtag := f s.jtag }
def State.modClk (s : State) (f : Clock → Clock) : State := { s with clk := f s.clk }
def State.modObj (s : State) (f : Objects → Objects) : State := { s with obj := f s.obj }
def State.modStart (s : State) (f : Startup → Startup) : State := { s with start := f s.start }
def State.modPwr (s : State) (f : Power → Power) : State := { s with pwr := f s.pwr }
def State.modTherm (s : State) (f : Thermal → Thermal) : State := { s with therm := f s.therm }
def State.modNrg (s : State) (f : Energy → Energy) : State := { s with nrg := f s.nrg }
def State.modMasts (s : State) (f : List Mast → List Mast) : State := { s with masts := f s.masts }
def State.modPorts (s : State) (f : List Port → List Port) : State := { s with ports := f s.ports }
def State.modLuns (s : State) (f : List Lun → List Lun) : State := { s with luns := f s.luns }
def State.modMedia (s : State) (f : Media → Media) : State := { s with media := f s.media }
def State.modClasses (s : State) (f : List PClass → List PClass) : State := { s with classes := f s.classes }
def State.modNss (s : State) (f : List Namespace → List Namespace) : State := { s with nss := f s.nss }
def State.modFns (s : State) (f : List Fn → List Fn) : State := { s with fns := f s.fns }
def State.modCtrl1 (s : State) (f : Ctrl → Ctrl) : State := { s with ctrl1 := f s.ctrl1 }
def State.modIo (s : State) (f : HostIo → HostIo) : State := { s with io := f s.io }
def State.modKeys (s : State) (f : Keys → Keys) : State := { s with keys := f s.keys }
def State.modFix (s : State) (f : Fixity → Fixity) : State := { s with fix := f s.fix }
def State.modMbx (s : State) (f : Mailboxes → Mailboxes) : State := { s with mbx := f s.mbx }
def State.modHal (s : State) (f : Halyard → Halyard) : State := { s with hal := f s.hal }
def State.modPeer (s : State) (f : Peer → Peer) : State := { s with peer := f s.peer }
def State.modPool (s : State) (f : Pool → Pool) : State := { s with pool := f s.pool }
def State.modMems (s : State) (f : List MemUnit → List MemUnit) : State := { s with mems := f s.mems }
def State.modEvt (s : State) (f : Events → Events) : State := { s with evt := f s.evt }
def State.modSide (s : State) (f : Sideband → Sideband) : State := { s with side := f s.side }
def State.modCtl (s : State) (f : List (Nat × Nat × Nat) → List (Nat × Nat × Nat)) : State := { s with ctl := f s.ctl }

/-! ## Units (R1, R10) -/

/-- Masts present in the variant (R1). -/
def State.mastN (s : State) : Nat := mastCount s.variant
/-- Flash ports present in the variant (R1, R10). -/
def State.portN (s : State) : Nat := 4 * s.mastN
/-- Stripe widths of the variant (R1). -/
def widthsOf : Variant → List Nat
  | .btk8208 => [8]
  | .btk8416 => [8, 16]
  | .btk8832 => [8, 16, 32]
/-- Mast of a flash port, port of a global LUN, global LUN of a port and local LUN (R10). -/
def mastOfPort (p : Nat) : Nat := p / 4
def portOfLun (glun : Nat) : Nat := glun / 32
def localOfLun (glun : Nat) : Nat := glun % 32
def mastOfLun (glun : Nat) : Nat := glun / 128
def glunOf (port local_ : Nat) : Nat := 32 * port + local_

def State.mast (s : State) (m : Nat) : Mast := s.masts.getD m { state := .absent }
def State.modMast (s : State) (m : Nat) (f : Mast → Mast) : State := s.modMasts (·.modify m f)
def State.port (s : State) (p : Nat) : Port := s.ports.getD p {}
def State.modPort (s : State) (p : Nat) (f : Port → Port) : State := s.modPorts (·.modify p f)
def State.fn (s : State) (f : Nat) : Fn := s.fns.getD f { fn := f }
def State.modFn (s : State) (f : Nat) (g : Fn → Fn) : State := s.modFns (·.modify f g)
def State.lun (s : State) (g : Nat) : Lun := (s.luns.find? (·.glun == g)).getD { glun := g }
def State.modLun (s : State) (g : Nat) (f : Lun → Lun) : State := s.modLuns (putBy Lun.glun (f (s.lun g)))
def State.mem (s : State) (i : Nat) : MemUnit := s.mems.getD i {}
def State.modMem (s : State) (i : Nat) (f : MemUnit → MemUnit) : State := s.modMems (·.modify i f)
def State.hport (s : State) (p : Nat) : HPort := s.hal.ports.getD p {}
def State.modHport (s : State) (p : Nat) (f : HPort → HPort) : State :=
  s.modHal fun h => { h with ports := h.ports.modify p f }
def State.hostPort (s : State) (p : Nat) : HostPort := s.io.ports.getD p {}
def State.modHostPort (s : State) (p : Nat) (f : HostPort → HostPort) : State :=
  s.modIo fun h => { h with ports := h.ports.modify p f }
def State.thermIn (s : State) (i : Nat) : ThermIn := s.therm.inputs.getD i {}
def State.modThermIn (s : State) (i : Nat) (f : ThermIn → ThermIn) : State :=
  s.modTherm fun t => { t with inputs := t.inputs.modify i f }

/-- The controller of a function; with `port1` the port 1 function of dual mode (R387). -/
def State.ctrl (s : State) (f : Nat) (port1 : Bool) : Ctrl := if port1 && f == 0 then s.ctrl1 else (s.fn f).ctrl
def State.modCtrl (s : State) (f : Nat) (port1 : Bool) (g : Ctrl → Ctrl) : State :=
  if port1 && f == 0 then s.modCtrl1 g else s.modFn f fun x => { x with ctrl := g x.ctrl }

/-- Every index of a mast that is present. -/
def State.mastIds (s : State) : List Nat := List.range s.mastN
/-- The lowest-numbered active mast (R25). -/
def State.lowestActive (s : State) : Option Nat := s.mastIds.find? fun m => (s.mast m).state == .active
/-- Run `k` if the unit number is one that some variant of the family has; otherwise the command does not exist. -/
def whenUnit (ok : Bool) (k : Res) : Res := if ok then k else .fault .noSuchUnit

/-! ## Namespaces, zones, segments, blocks -/

def State.ns? (s : State) (nsid : Nat) : Option Namespace := s.nss.find? (·.nsid == nsid)
def State.modNs (s : State) (nsid : Nat) (f : Namespace → Namespace) : State :=
  s.modNss (updIf (·.nsid == nsid) f)
def Namespace.zone (n : Namespace) (zi : Nat) : Zone := (n.zones.find? (·.zi == zi)).getD { zi := zi, cls := n.cls }
/-- Update a zone; one not listed yet is an Empty zone in its initial condition (R109). -/
def Namespace.modZone (n : Namespace) (zi : Nat) (f : Zone → Zone) : Namespace :=
  { n with zones := putBy Zone.zi (f (n.zone zi)) n.zones }
def State.zone (s : State) (nsid zi : Nat) : Zone :=
  match s.ns? nsid with
  | some n => n.zone zi
  | none => { zi := zi }
def State.modZone (s : State) (nsid zi : Nat) (f : Zone → Zone) : State := s.modNs nsid (·.modZone zi f)
def State.seg? (s : State) (seq : Nat) : Option Segment := s.media.segs.find? (·.seq == seq)
def State.modSeg (s : State) (seq : Nat) (f : Segment → Segment) : State :=
  s.modMedia fun m => { m with segs := updIf (·.seq == seq) f m.segs }
def State.block? (s : State) (nsid lba : Nat) : Option Stored :=
  s.media.blocks.find? fun b => b.nsid == nsid && b.lba == lba
def State.modBlocks (s : State) (p : Stored → Bool) (f : Stored → Stored) : State :=
  s.modMedia fun m => { m with blocks := updIf p f m.blocks }
def State.dropBlocks (s : State) (p : Stored → Bool) : State :=
  s.modMedia fun m => { m with blocks := m.blocks.filter (! p ·) }
def State.modJournal (s : State) (j : Nat) (f : Journal → Journal) : State :=
  s.modMedia fun m => { m with journals := m.journals.modify j f }
def State.journal (s : State) (j : Nat) : Journal := s.media.journals.getD j {}
/-- The zone generation that a journal record names (R260). -/
def State.recordGen (s : State) (r : JRec) : Option Nat := match r with
  | .zoneState _ _ gen _ _ | .zoneRelease _ _ gen _ => some gen
  | .allocation seq => (s.media.segs.find? (·.seq == seq)).map (·.gen)
  | _ => none
/-- What a journal names once staged records of it are lost (R363). -/
def State.gensWithout (s : State) (j : Journal) (lost : List JRec) : List Nat := (lost.filterMap s.recordGen).foldl (fun l g => l.erase g) j.gens
/-- Stage a journal record (R156); journal 8 is the host complex's, and a record after the clean-shutdown record ends it (R165). -/
def State.log (s : State) (j : Nat) (r : JRec) : State :=
  (s.modJournal j fun x => { x with staged := x.staged ++ [r], next := x.next + 1, gens := x.gens ++ (s.recordGen r).toList }).modStart fun x => { x with clean := x.clean && j != 8 }
def State.slot? (s : State) (n : Nat) : Option Slot := s.keys.slots.find? (·.number == n)
def State.slot (s : State) (n : Nat) : Slot := (s.slot? n).getD { number := n }
def State.modSlot (s : State) (n : Nat) (f : Slot → Slot) : State :=
  s.modKeys fun k => { k with slots := putBy Slot.number (f ((k.slots.find? (·.number == n)).getD { number := n })) k.slots }
def State.keyRef (s : State) (n : Nat) : KeyRef := (s.keys.refs.find? (·.number == n)).getD { number := n }
def State.modKeyRef (s : State) (n : Nat) (f : KeyRef → KeyRef) : State :=
  s.modKeys fun k => { k with refs := putBy KeyRef.number (f ((k.refs.find? (·.number == n)).getD { number := n })) k.refs }
def State.cmd? (s : State) (id : Nat) : Option Cmd := s.io.cmds.find? (·.id == id)
def State.modCmd (s : State) (id : Nat) (f : Cmd → Cmd) : State :=
  s.modIo fun h => { h with cmds := updIf (·.id == id) f h.cmds }
def State.modCmds (s : State) (p : Cmd → Bool) (f : Cmd → Cmd) : State :=
  s.modIo fun h => { h with cmds := updIf p f h.cmds }
def State.partner? (s : State) (fp : Digest) : Option Partner := s.hal.partners.find? (·.fp == fp)
def State.modPartner (s : State) (fp : Digest) (f : Partner → Partner) : State :=
  s.modHal fun h => { h with partners := updIf (·.fp == fp) f h.partners }
def State.job? (s : State) (id : Nat) : Option Job := s.peer.jobs.find? (·.ident == id)
def State.modJob (s : State) (id : Nat) (f : Job → Job) : State :=
  s.modPeer fun p => { p with jobs := updIf (·.ident == id) f p.jobs }
def State.mirror? (s : State) (id : Nat) : Option Mirror := s.peer.mirrors.find? (·.ident == id)
def State.modMirror (s : State) (id : Nat) (f : Mirror → Mirror) : State :=
  s.modPeer fun p => { p with mirrors := updIf (·.ident == id) f p.mirrors }
def State.class? (s : State) (c : Nat) : Option PClass := s.classes.find? (·.number == c)

/-! ## Events and outputs -/

/-- Send something to the outside. -/
def State.emit (s : State) (o : Out) : State := { s with out := s.out ++ [o] }
/-- Raise an event record in the current frame (R423). In a dark frame none is raised (R44). After a wake by an excursion the records of the
thermal inputs and of the throttle are held for a ring (R473). -/
def State.raise (s : State) (source code severity : Nat) (args : List Nat) (fn : Nat := 0xFFFF) : State :=
  if s.clk.dark then s
  else s.modEvt fun e => { e with raised := e.raised ++
    [{ frame := s.clk.frame, source := source, code := code, severity := severity, fn := fn, args := args
       held := (source == 605 || source == 606) && s.pwr.wokenBy == some 1 }] }
/-- The first 8 bytes of a fingerprint, little-endian, as an event argument (R423). -/
def fp8 (d : Digest) : Nat := d.toNat % 2 ^ 64
/-- Order the records raised since the first `n` by ascending source, as one step of R49 does (R427). -/
def State.settleEvents (s : State) (n : Nat) : State :=
  s.modEvt fun e => { e with raised := e.raised.take n ++ sortBy (fun a b => a.source ≤ b.source) (e.raised.drop n) }
/-- A fresh counter value: selects a free value of Config. -/
def State.bump (s : State) : State := { s with fresh := s.fresh + 1 }

/-- Run a list of updates in order. -/
def each {α : Type} (l : List α) (f : State → α → State) (s : State) : State := l.foldl f s
/-- Apply an update where a condition holds. -/
def State.iff (s : State) (c : Bool) (f : State → State) : State := if c then f s else s

/-! ## Device conditions -/

/-- Ready (R487). -/
def State.ready (s : State) : Bool := s.pwr.dev == .working
/-- A device fault has stopped the device (R23). -/
def State.halted (s : State) : Bool := s.start.fault
/-- Dump in progress or ended (R152). -/
def State.dumping (s : State) : Bool := s.pwr.dev == .dumping || s.pwr.dev == .dumped
/-- `HCX` is powered: frames run. -/
def State.hcxOn (s : State) : Bool := ! s.clk.dark
/-- Dual host port mode (R386): the fuse in effect. -/
def State.dual (s : State) : Bool := s.fuses.dual
/-- Provisioning state (R492). -/
def State.provision (s : State) : Provision :=
  if ! s.fuses.lockEff then .unassembled
  else if s.obj.drive.isNone || s.obj.media.isNone then .unprovisioned
  else if ! s.obj.formatted then .unformatted else .formatted
/-- The active media profile and drive record; the reference ones where none is stored (R76, R140). -/
def State.profile (s : State) : MediaProfile := s.obj.media.getD {}
def State.record (s : State) : DriveRecord := s.obj.drive.getD {}

end Sys2Proof.Machine
end

