-- ==== Sys2Proof/Machine/Crypto.lean ====
section
/-! DEFINITION. The published standards that the spec names: SHA-256, SHA-384 and SHA-512 (FIPS 180-4), AES-256 and GCM (FIPS
197, SP 800-38D, R251), AES key unwrap (RFC 3394, R292) and ECDSA and ECDH on P-384 (R289, R291, R415). Their text is outside
the spec (notes/assumptions/7.md). Messages are lists of bytes, first byte first. -/

namespace Sys2Proof.Machine

/-! ## Bytes -/

/-- The low `n` bytes of `v`, least significant first. -/
def bytesLE : Nat → Nat → List Nat
  | 0, _ => []
  | n + 1, v => v % 256 :: bytesLE n (v / 256)
/-- The low `n` bytes of `v`, most significant first. -/
def bytesBE (n v : Nat) : List Nat := (bytesLE n v).reverse
def ofBytesBE (l : List Nat) : Nat := l.foldl (fun a b => a * 256 + b) 0
def ofBytesLE (l : List Nat) : Nat := ofBytesBE l.reverse
def chunksAux (n : Nat) : Nat → List Nat → List (List Nat)
  | 0, _ => []
  | fuel + 1, l => if l.isEmpty then [] else l.take n :: chunksAux n fuel (l.drop n)
/-- Consecutive pieces of `n`. -/
def chunks (n : Nat) (l : List Nat) : List (List Nat) := chunksAux n (l.length + 1) l
/-- ASCII bytes of a string. -/
def ascii (s : String) : List Nat := s.toList.map Char.toNat

/-! ## SHA-2 -/

def nthRootAux (k n : Nat) : Nat → Nat → Nat
  | 0, acc => acc
  | i + 1, acc => let t := acc + 2 ^ i; nthRootAux k n i (if t ^ k ≤ n then t else acc)
/-- Integer k-th root of n, below 2^80. -/
def nthRoot (k n : Nat) : Nat := nthRootAux k n 80 0
def isPrime (n : Nat) : Bool := decide (2 ≤ n) && (List.range n).all fun d => decide (d < 2) || n % d != 0
/-- The first 80 primes. -/
def primes80 : List Nat := (List.range 410).filter isPrime

/-- The two shapes of SHA-2: word size, rounds, rotations. -/
structure ShaParam where
  w : Nat
  rounds : Nat
  bigA : Nat × Nat × Nat
  bigE : Nat × Nat × Nat
  sm0 : Nat × Nat × Nat
  sm1 : Nat × Nat × Nat

def sha32 : ShaParam := ⟨32, 64, (2, 13, 22), (6, 11, 25), (7, 18, 3), (17, 19, 10)⟩
def sha64 : ShaParam := ⟨64, 80, (28, 34, 39), (14, 18, 41), (1, 8, 7), (19, 61, 6)⟩
/-- Fractional bits of the cube roots of the first primes, and of the square roots of eight of them: what the tables below hold. -/
def shaK (p : ShaParam) : List Nat := (primes80.take p.rounds).map fun q => nthRoot 3 (q * 2 ^ (3 * p.w)) % 2 ^ p.w
def shaH (w off : Nat) : List Nat := ((primes80.drop off).take 8).map fun q => nthRoot 2 (q * 2 ^ (2 * w)) % 2 ^ w
/-- Round constants and initial values as FIPS 180-4 prints them. -/
def shaK32 : List Nat :=
  [0x428A2F98, 0x71374491, 0xB5C0FBCF, 0xE9B5DBA5, 0x3956C25B, 0x59F111F1, 0x923F82A4, 0xAB1C5ED5,
    0xD807AA98, 0x12835B01, 0x243185BE, 0x550C7DC3, 0x72BE5D74, 0x80DEB1FE, 0x9BDC06A7, 0xC19BF174,
    0xE49B69C1, 0xEFBE4786, 0x0FC19DC6, 0x240CA1CC, 0x2DE92C6F, 0x4A7484AA, 0x5CB0A9DC, 0x76F988DA,
    0x983E5152, 0xA831C66D, 0xB00327C8, 0xBF597FC7, 0xC6E00BF3, 0xD5A79147, 0x06CA6351, 0x14292967] ++
  [0x27B70A85, 0x2E1B2138, 0x4D2C6DFC, 0x53380D13, 0x650A7354, 0x766A0ABB, 0x81C2C92E, 0x92722C85,
    0xA2BFE8A1, 0xA81A664B, 0xC24B8B70, 0xC76C51A3, 0xD192E819, 0xD6990624, 0xF40E3585, 0x106AA070,
    0x19A4C116, 0x1E376C08, 0x2748774C, 0x34B0BCB5, 0x391C0CB3, 0x4ED8AA4A, 0x5B9CCA4F, 0x682E6FF3,
    0x748F82EE, 0x78A5636F, 0x84C87814, 0x8CC70208, 0x90BEFFFA, 0xA4506CEB, 0xBEF9A3F7, 0xC67178F2]
def shaK64 : List Nat :=
  [0x428A2F98D728AE22, 0x7137449123EF65CD, 0xB5C0FBCFEC4D3B2F, 0xE9B5DBA58189DBBC, 0x3956C25BF348B538,
    0x59F111F1B605D019, 0x923F82A4AF194F9B, 0xAB1C5ED5DA6D8118, 0xD807AA98A3030242, 0x12835B0145706FBE,
    0x243185BE4EE4B28C, 0x550C7DC3D5FFB4E2, 0x72BE5D74F27B896F, 0x80DEB1FE3B1696B1, 0x9BDC06A725C71235,
    0xC19BF174CF692694, 0xE49B69C19EF14AD2, 0xEFBE4786384F25E3, 0x0FC19DC68B8CD5B5, 0x240CA1CC77AC9C65,
    0x2DE92C6F592B0275, 0x4A7484AA6EA6E483, 0x5CB0A9DCBD41FBD4, 0x76F988DA831153B5, 0x983E5152EE66DFAB,
    0xA831C66D2DB43210, 0xB00327C898FB213F, 0xBF597FC7BEEF0EE4, 0xC6E00BF33DA88FC2, 0xD5A79147930AA725,
    0x06CA6351E003826F, 0x142929670A0E6E70, 0x27B70A8546D22FFC, 0x2E1B21385C26C926, 0x4D2C6DFC5AC42AED,
    0x53380D139D95B3DF, 0x650A73548BAF63DE, 0x766A0ABB3C77B2A8, 0x81C2C92E47EDAEE6, 0x92722C851482353B] ++
  [0xA2BFE8A14CF10364, 0xA81A664BBC423001, 0xC24B8B70D0F89791, 0xC76C51A30654BE30, 0xD192E819D6EF5218,
    0xD69906245565A910, 0xF40E35855771202A, 0x106AA07032BBD1B8, 0x19A4C116B8D2D0C8, 0x1E376C085141AB53,
    0x2748774CDF8EEB99, 0x34B0BCB5E19B48A8, 0x391C0CB3C5C95A63, 0x4ED8AA4AE3418ACB, 0x5B9CCA4F7763E373,
    0x682E6FF3D6B2B8A3, 0x748F82EE5DEFB2FC, 0x78A5636F43172F60, 0x84C87814A1F0AB72, 0x8CC702081A6439EC,
    0x90BEFFFA23631E28, 0xA4506CEBDE82BDE9, 0xBEF9A3F7B2C67915, 0xC67178F2E372532B, 0xCA273ECEEA26619C,
    0xD186B8C721C0C207, 0xEADA7DD6CDE0EB1E, 0xF57D4F7FEE6ED178, 0x06F067AA72176FBA, 0x0A637DC5A2C898A6,
    0x113F9804BEF90DAE, 0x1B710B35131C471B, 0x28DB77F523047D84, 0x32CAAB7B40C72493, 0x3C9EBE0A15C9BEBC,
    0x431D67C49C100D4C, 0x4CC5D4BECB3E42B6, 0x597F299CFC657E2A, 0x5FCB6FAB3AD6FAEC, 0x6C44198C4A475817]
def shaH256 : List Nat :=
  [0x6A09E667, 0xBB67AE85, 0x3C6EF372, 0xA54FF53A, 0x510E527F, 0x9B05688C, 0x1F83D9AB, 0x5BE0CD19]
def shaH512 : List Nat :=
  [0x6A09E667F3BCC908, 0xBB67AE8584CAA73B, 0x3C6EF372FE94F82B, 0xA54FF53A5F1D36F1, 0x510E527FADE682D1,
    0x9B05688C2B3E6C1F, 0x1F83D9ABFB41BD6B, 0x5BE0CD19137E2179]
def shaH384 : List Nat :=
  [0xCBBB9D5DC1059ED8, 0x629A292A367CD507, 0x9159015A3070DD17, 0x152FECD8F70E5939, 0x67332667FFC00B31,
    0x8EB44A8768581511, 0xDB0C2E0D64F98FA7, 0x47B5481DBEFA4FA4]
def rotr (w n x : Nat) : Nat := x / 2 ^ n + x % 2 ^ n * 2 ^ (w - n)
def rot3 (p : ShaParam) (r : Nat × Nat × Nat) (x : Nat) : Nat := rotr p.w r.1 x ^^^ rotr p.w r.2.1 x ^^^ rotr p.w r.2.2 x
def rot2s (p : ShaParam) (r : Nat × Nat × Nat) (x : Nat) : Nat := rotr p.w r.1 x ^^^ rotr p.w r.2.1 x ^^^ x / 2 ^ r.2.2
/-- Message schedule, newest word first. -/
def shaSched (p : ShaParam) : Nat → List Nat → List Nat
  | 0, ws => ws
  | n + 1, ws =>
    shaSched p n ((rot2s p p.sm1 (ws.getD 1 0) + ws.getD 6 0 + rot2s p p.sm0 (ws.getD 14 0) + ws.getD 15 0) % 2 ^ p.w :: ws)
def shaRound (p : ShaParam) (h : List Nat) (kw : Nat × Nat) : List Nat :=
  match h with
  | [a, b, c, d, e, f, g, x] =>
    let ch := (e &&& f) ^^^ ((2 ^ p.w - 1 - e) &&& g)
    let maj := (a &&& b) ^^^ (a &&& c) ^^^ (b &&& c)
    let t1 := x + rot3 p p.bigE e + ch + kw.1 + kw.2
    let t2 := rot3 p p.bigA a + maj
    [(t1 + t2) % 2 ^ p.w, a, b, c, (d + t1) % 2 ^ p.w, e, f, g]
  | _ => h
def shaBlock (p : ShaParam) (ks h m : List Nat) : List Nat :=
  let ws := (shaSched p (p.rounds - 16) ((chunks (p.w / 8) m).map ofBytesBE).reverse).reverse
  let h' := (ks.zip ws).foldl (shaRound p) h
  (h.zip h').map fun (a, b) => (a + b) % 2 ^ p.w
def shaPad (p : ShaParam) (m : List Nat) : List Nat :=
  let blk := p.w * 2
  let lenB := p.w / 4
  let z := (blk - (m.length + 1 + lenB) % blk) % blk
  m ++ [0x80] ++ List.replicate z 0 ++ bytesBE lenB (8 * m.length)
/-- The hash of a message of bytes (a list with anything else in it is no message). -/
def sha (p : ShaParam) (ks h0 m : List Nat) : List Nat :=
  if m.all (· < 256) then ((chunks (2 * p.w) (shaPad p m)).foldl (shaBlock p ks) h0).flatMap (bytesBE (p.w / 8)) else []

/-- SHA-256, SHA-384 and SHA-512 of a message. -/
def sha256 (m : List Nat) : List Nat := sha sha32 shaK32 shaH256 m
def sha512 (m : List Nat) : List Nat := sha sha64 shaK64 shaH512 m
def sha384 (m : List Nat) : List Nat := (sha sha64 shaK64 shaH384 m).take 48
/-- A digest as the state holds it: byte 0 in bits [7:0]. -/
def sha256D (m : List Nat) : Digest := BitVec.ofNat 256 (ofBytesLE (sha256 m))
/-- HMAC with SHA-256 and SHA-384, block sizes 64 and 128. -/
def hmac (h : List Nat → List Nat) (blk : Nat) (key m : List Nat) : List Nat :=
  let k0 := if key.length > blk then h key else key
  let k := k0 ++ List.replicate (blk - k0.length) 0
  h (k.map (· ^^^ 0x5C) ++ h (k.map (· ^^^ 0x36) ++ m))

/-! ## AES-256 -/

/-- Carry-less multiplication reduced by `poly` of degree `deg`. -/
def gfMulAux (poly top : Nat) : Nat → Nat → Nat → Nat → Nat
  | 0, _, _, acc => acc
  | n + 1, a, b, acc =>
    if b == 0 then acc
    else
      let acc' := if b % 2 == 1 then acc ^^^ a else acc
      let a2 := 2 * a
      gfMulAux poly top n (if a2 ≥ top then a2 ^^^ poly else a2) (b / 2) acc'
def aesMul (a b : Nat) : Nat := gfMulAux 0x11B 0x100 8 a b 0
def aesInv (x : Nat) : Nat := (List.range 6).foldl (fun r _ => aesMul (aesMul r r) x) x |> fun r => aesMul r r
def aesSub (x : Nat) : Nat :=
  let b := aesInv x
  let r (n : Nat) := (b * 2 ^ n) % 256 + b / 2 ^ (8 - n)
  b ^^^ r 1 ^^^ r 2 ^^^ r 3 ^^^ r 4 ^^^ 0x63
/-- The substitution box and its inverse as tables of bytes, entry 0 in the low byte. -/
def aesSboxTable : Nat :=
  0x16BB54B00F2D99416842E6BF0D89A18CDF2855CEE9871E9B948ED9691198F8E19E1DC186B95735610EF6034866B53E708A8BBD4B1F74DDE8C6B4A61C2E2578BA08AE7A65EAF4566CA94ED58D6D37C8E779E4959162ACD3C25C2406490A3A32E0DB0B5EDE14B8EE4688902A22DC4F816073195D643D7EA7C41744975FEC130CCDD2F3FF1021DAB6BCF5389D928F40A351A89F3C507F02F94585334D43FBAAEFD0CF584C4A39BECB6A5BB1FC20ED00D153842FE329B3D63B52A05A6E1B1A2C830975B227EBE28012079A059618C323C7041531D871F1E5A534CCF73F362693FDB7C072A49CAFA2D4ADF04759FA7DC982CA76ABD7FE2B670130C56F6BF27B777C63
def aesUnsboxTable : Nat :=
  0x7D0C2155631469E126D677BA7E042B17619953833CBBEBC8B0F52AAE4D3BE0A0EF9CC9939F7AE52D0D4AB519A97F51605FEC8027591012B131C7078833A8DD1FF45ACD78FEC0DB9A2079D2C64B3E56FC1BBE18AA0E62B76F89C5291D711AF1476EDF751CE837F9E28535ADE72274AC9673E6B4F0CECFF297EADC674F4111913A6B8A130103BDAFC1020F3FCA8F1E2CD00645B3B80558E4F70AD3BC8C00ABD890849D8DA75746155EDAB9EDFD5048706C92B6655DCC5CA4D41698688664F6F87225D18B6D49A25B76B224D92866A12E084EC3FA420B954CEE3D23C2A632947B54CBE9DEC444438E3487FF2F9B8239E37CFBD7F3819EA340BF38A53630D56A0952
def aesSbox (x : Nat) : Nat := aesSboxTable >>> (8 * x) % 256
def aesUnsbox (x : Nat) : Nat := aesUnsboxTable >>> (8 * x) % 256
def xorL (a b : List Nat) : List Nat := (a.zip b).map fun (x, y) => x ^^^ y
/-- Key expansion: words newest first. -/
def aesExpand : Nat → Nat → List (List Nat) → List (List Nat)
  | 0, _, ws => ws
  | n + 1, i, ws =>
    let t := ws.headD []
    let sub (l : List Nat) := l.map aesSbox
    let t' :=
      if i % 8 == 0 then
        let u := sub (t.drop 1 ++ t.take 1)
        xorL u [2 ^ (i / 8 - 1), 0, 0, 0]
      else if i % 8 == 4 then sub t else t
    aesExpand n (i + 1) (xorL (ws.getD 7 []) t' :: ws)
/-- The 15 round keys of a 32-byte key. -/
def aesKeys (key : List Nat) : List (List Nat) :=
  let ws := (aesExpand 52 8 (chunks 4 key).reverse).reverse
  (List.range 15).map fun r => ((ws.drop (4 * r)).take 4).flatten
def shiftRows (s : List Nat) : List Nat := (List.range 16).map fun i => s.getD ((i + 4 * (i % 4)) % 16) 0
def unshiftRows (s : List Nat) : List Nat := (List.range 16).map fun i => s.getD ((i + 16 - 4 * (i % 4)) % 16) 0
/-- Each byte of a packed state times x; each column turned by one byte. -/
def xtimes (v : Nat) : Nat := (v &&& 0x7F7F7F7F7F7F7F7F7F7F7F7F7F7F7F7F) * 2 ^^^ (v / 128 &&& 0x01010101010101010101010101010101) * 0x1B
def turn (v : Nat) : Nat := (v / 256 &&& 0x00FFFFFF00FFFFFF00FFFFFF00FFFFFF) + (v &&& 0x000000FF000000FF000000FF000000FF) * 2 ^ 24
/-- The products of a packed state with a coefficient below 16. -/
def scaleBy (v c : Nat) : Nat :=
  let w := xtimes v
  let x := xtimes w
  (if bit c 0 then v else 0) ^^^ (if bit c 1 then w else 0) ^^^ (if bit c 2 then x else 0) ^^^ (if bit c 3 then xtimes x else 0)
/-- Byte i of a column becomes the sum of c(j) times byte i + j. -/
def mixWith (c : List Nat) (s : List Nat) : List Nat :=
  bytesLE 16 (c.reverse.foldl (fun a k => turn a ^^^ scaleBy (ofBytesLE s) k) 0)
def aesEnc (ks : List (List Nat)) (b : List Nat) : List Nat :=
  let s := ((ks.drop 1).take 13).foldl
    (fun s k => xorL (mixWith [2, 3, 1, 1] (shiftRows (s.map aesSbox))) k) (xorL b (ks.headD []))
  xorL (shiftRows (s.map aesSbox)) (ks.getD 14 [])
def aesDec (ks : List (List Nat)) (b : List Nat) : List Nat :=
  let s := ((ks.drop 1).take 13).reverse.foldl
    (fun s k => mixWith [14, 11, 13, 9] (xorL ((unshiftRows s).map aesUnsbox) k)) (xorL b (ks.getD 14 []))
  xorL ((unshiftRows s).map aesUnsbox) (ks.headD [])

/-! ## GCM (SP 800-38D) -/

/-- Multiplication in GF(2^128), bit 0 of a block being its most significant bit. -/
def ghMulAux : Nat → Nat → Nat → Nat → Nat
  | 0, _, _, z => z
  | n + 1, x, v, z =>
    let z' := if x / 2 ^ n % 2 == 1 then z ^^^ v else z
    ghMulAux n x (if v % 2 == 1 then v / 2 ^^^ (0xE1 * 2 ^ 120) else v / 2) z'
def ghMul (x y : Nat) : Nat := ghMulAux 128 x y 0
def pad16 (l : List Nat) : List Nat := l ++ List.replicate ((16 - l.length % 16) % 16) 0
def ghash (h : Nat) (l : List Nat) : Nat := (chunks 16 l).foldl (fun y b => ghMul (y ^^^ ofBytesBE b) h) 0
/-- Counter-mode keystream applied to `l`, from counter value `c`. -/
def gctr (ks : List (List Nat)) (iv l : List Nat) (c : Nat) : List Nat :=
  ((chunks 16 l).zipIdx.map fun (b, i) => (b.zip (aesEnc ks (iv ++ bytesBE 4 (c + i)))).map fun (x, y) => x ^^^ y).flatten
/-- Tag over ciphertext and additional data. -/
def gcmTag (ks : List (List Nat)) (iv aad ct : List Nat) : List Nat :=
  let h := ofBytesBE (aesEnc ks (List.replicate 16 0))
  let s := ghash h (pad16 aad ++ pad16 ct ++ bytesBE 8 (8 * aad.length) ++ bytesBE 8 (8 * ct.length))
  xorL (aesEnc ks (iv ++ [0, 0, 0, 1])) (bytesBE 16 s)
/-- Ciphertext and tag. -/
def gcmSeal (key iv aad pt : List Nat) : List Nat × List Nat :=
  let ks := aesKeys key
  let ct := gctr ks iv pt 2
  (ct, gcmTag ks iv aad ct)
/-- Plaintext of a ciphertext (the tag check is an input of the events that open blocks). -/
def gcmOpen (key iv ct : List Nat) : List Nat := gctr (aesKeys key) iv ct 2

/-! ## Key unwrap (RFC 3394) -/

/-- One unwrap step: (A, R[1..n]) with counter t, on register i. -/
def kwStep (ks : List (List Nat)) (n : Nat) (ar : List Nat × List (List Nat)) (t : Nat) : List Nat × List (List Nat) :=
  let i := (t - 1) % n
  let b := aesDec ks (xorL ar.1 (bytesBE 8 t) ++ ar.2.getD i [])
  (b.take 8, ar.2.set i (b.drop 8))
/-- The key under a wrap of bytes, none when the integrity check fails. -/
def kwUnwrap (kek wrapped : List Nat) : Option (List Nat) :=
  if ! wrapped.all (· < 256) then none
  else
    let blocks := chunks 8 wrapped
    let n := blocks.length - 1
    let (a, r) := ((List.range (6 * n)).map (6 * n - ·)).foldl (kwStep (aesKeys kek) n) (blocks.headD [], blocks.drop 1)
    if a == List.replicate 8 0xA6 then some r.flatten else none
/-- The wrap of a key. -/
def kwWrap (kek key : List Nat) : List Nat :=
  let ks := aesKeys kek
  let n := key.length / 8
  let (a, r) := ((List.range (6 * n)).map (· + 1)).foldl (fun (ar : List Nat × List (List Nat)) t =>
    let i := (t - 1) % n
    let b := aesEnc ks (ar.1 ++ ar.2.getD i [])
    (xorL (b.take 8) (bytesBE 8 t), ar.2.set i (b.drop 8))) (List.replicate 8 0xA6, chunks 8 key)
  a ++ r.flatten

/-! ## P-384 -/

def pP : Nat := 2 ^ 384 - 2 ^ 128 - 2 ^ 96 + 2 ^ 32 - 1
def pN : Nat := 2 ^ 384 - 0x389CB27E0BC8D220A7E5F24DB74F58851313E695333AD68D
def pB : Nat := 0xB3312FA7E23EE7E4988E056BE3F82D19181D9C6EFE8141120314088F5013875AC656398D8A2ED19D2A85C8EDD3EC2AEF
def pGx : Nat := 0xAA87CA22BE8B05378EB1C71EF320AD746E1D3B628BA79B9859F741E082542A385502F25DBF55296C3A545E3872760AB7
def pGy : Nat := 0x3617DE4A96262C6F5D9E98BF9292DC29F8F41DBD289A147CE9DA3113B5F0B8C00A60B1CE1D7E819D7A431D7C90EA0E5F
def modPow (m b e : Nat) : Nat :=
  ((List.range 384).reverse).foldl (fun acc i => let sq := acc * acc % m; if bit e i then sq * b % m else sq) 1
def modInv (m a : Nat) : Nat := modPow m (a % m) (m - 2)
/-- The affine point of a public key: X then Y, each 48 bytes big-endian, byte 0 in bits [7:0]. -/
def pointOf (k : PubKey) : Nat × Nat :=
  let b := bytesLE 96 k.toNat
  (ofBytesBE (b.take 48), ofBytesBE (b.drop 48))
def pubOf (p : Nat × Nat) : PubKey := BitVec.ofNat 768 (ofBytesLE (bytesBE 48 p.1 ++ bytesBE 48 p.2))
/-- On the curve y² = x³ − 3x + b (R420 code 0x0601). -/
def onCurve (k : PubKey) : Bool :=
  let (x, y) := pointOf k
  decide (x < pP) && decide (y < pP) && (y * y % pP == (x * x * x + (pP - 3) * x + pB) % pP)
def ecAdd (a b : Option (Nat × Nat)) : Option (Nat × Nat) :=
  match a, b with
  | none, q => q
  | p, none => p
  | some (x1, y1), some (x2, y2) =>
    if x1 == x2 && (y1 + y2) % pP == 0 then none
    else
      let l := if x1 == x2 then (3 * x1 * x1 + (pP - 3)) * modInv pP (2 * y1) % pP
        else (y2 + pP - y1) * modInv pP (x2 + pP - x1) % pP
      let x3 := (l * l + 2 * pP - x1 - x2) % pP
      some (x3, (l * (x1 + pP - x3) + pP - y1) % pP)
def ecMul (k : Nat) (p : Nat × Nat) : Option (Nat × Nat) :=
  ((List.range 384).reverse).foldl (fun acc i =>
    let d := ecAdd acc acc
    if bit k i then ecAdd d (some p) else d) none
/-- Public key of a private scalar. -/
def pubFromPriv (d : Nat) : PubKey :=
  match ecMul d (pGx, pGy) with
  | some p => pubOf p
  | none => 0
/-- ECDH shared secret: the x coordinate, 48 bytes big-endian. -/
def ecdh (d : Nat) (k : PubKey) : List Nat :=
  match ecMul d (pointOf k) with
  | some (x, _) => bytesBE 48 x
  | none => []
/-- ECDSA P-384 signature with SHA-384 of a message, by private part `d` and nonce `k`: r then s, 48 bytes each, big-endian. -/
def ecdsaSign (d k : Nat) (msg : List Nat) : List Nat :=
  let r := match ecMul (k % pN) (pGx, pGy) with
    | some (x, _) => x % pN
    | none => 0
  let s := modInv pN k * ((ofBytesBE (sha384 msg) + r * d) % pN) % pN
  bytesBE 48 r ++ bytesBE 48 s
/-- A public key as the 97-byte uncompressed point of SEC 1, and its fingerprint (R278). -/
def pointBytes (k : PubKey) : List Nat := 0x04 :: bytesLE 96 k.toNat
def keyPrint (k : PubKey) : Digest := sha256D (pointBytes k)
/-- ECDSA P-384 verification with SHA-384 of the message. -/
def ecdsaVerify (k : PubKey) (msg : List Nat) (r s : Nat) : Bool :=
  if r == 0 || s == 0 || decide (pN ≤ r) || decide (pN ≤ s) || ! onCurve k then false
  else
    let e := ofBytesBE (sha384 msg)
    let w := modInv pN s
    match ecAdd (ecMul (e * w % pN) (pGx, pGy)) (ecMul (r * w % pN) (pointOf k)) with
    | some (x, _) => x % pN == r
    | none => false

end Sys2Proof.Machine
end

