-- ==== Sys2Proof/Machine/Controls.lean ====
section
/-! DEFINITION. The controls of R417: one table of identifiers, ranges, defaults, levels and scopes, read by Get Control, Set
Control, Restore Default Controls and by every operation that a control governs. A value counts the smallest step of the
control's range from zero (R417). -/

namespace Sys2Proof.Machine

/-- What the scope of a control names (R417). -/
inductive ScopeKind where
  | device | halyardPort | fn | relationship | input (limit : Nat)
  deriving DecidableEq, Repr

/-- One row of a control table. -/
structure ControlSpec where
  ident : Nat
  lo : Nat
  hi : Nat
  dflt : Nat
  expert : Bool := true
  owner : Bool := false
  scope : ScopeKind := .device
  deriving DecidableEq, Repr

/-- The scope value of a device-wide control (R417). -/
def deviceScope : Nat := 0xFFFFFFFF

/-- Neighbour set default of R483 row 19: on-die sensors name every other on-die sensor of a present mast and the
host-complex sensor; remote inputs name none. -/
def neighbourDefault (masts input : Nat) : Nat :=
  if input < 16 then 0
  else bitmap (((List.range masts).map (· + 16) ++ [24]).filter (· != input))

/-- Input mode default of R483 row 16: diode for the inputs that the drive record names, off otherwise. -/
def inputModeDefault (r : DriveRecord) (input : Nat) : Nat :=
  if r.lunInputs.contains input || r.bankInput == some input then 1 else 0

/-- The rows of every control table, with the defaults that depend on the part or the scope filled in. -/
def controlTable (s : State) (scope : Nat) : List ControlSpec :=
  [ -- R67
    { ident := 0x00020001, lo := 0, hi := 3650, dflt := 365 },
    { ident := 0x00020002, lo := 1, hi := 256, dflt := 16 },
    { ident := 0x00020003, lo := 2, hi := 32, dflt := 8 },
    { ident := 0x00020004, lo := 1024, hi := 1048576, dflt := 4096 },
    -- R95
    { ident := 0x00030001, lo := 1, hi := 10, dflt := s.record.sparePct, owner := true },
    -- R151
    { ident := 0x00050001, lo := 500, hi := 800, dflt := 800 },
    { ident := 0x00050002, lo := 2 ^ 26, hi := 2 ^ 32, dflt := 2 ^ 30 },
    { ident := 0x00050003, lo := 625, hi := 625000, dflt := 62500 },
    { ident := 0x00050004, lo := 625, hi := 62500, dflt := 6250 } ] ++
  [ -- R173
    { ident := 0x00060001, lo := 0, hi := 1, dflt := 1 },
    { ident := 0x00060002, lo := 0, hi := s.profile.trackingLimit, dflt := s.profile.trackingLimit },
    { ident := 0x00060003, lo := 0, hi := s.profile.retryEntries, dflt := s.profile.retryEntries },
    -- R237
    { ident := 0x00070001, lo := 1, hi := 365, dflt := 30, expert := false },
    { ident := 0x00070002, lo := 7, hi := 730, dflt := 90, expert := false },
    { ident := 0x00070003, lo := 30, hi := 150, dflt := 110 },
    { ident := 0x00070004, lo := 0, hi := 40, dflt := 10 },
    { ident := 0x00070005, lo := 1, hi := 16, dflt := 16 },
    { ident := 0x00070006, lo := 1, hi := 50, dflt := 10 },
    { ident := 0x00070007, lo := 20, hi := 40, dflt := 20 },
    { ident := 0x00070008, lo := 256, hi := 2048, dflt := 1024 } ] ++
  [ -- R287, R321
    { ident := 0x00090001, lo := 0, hi := 1, dflt := 1 },
    { ident := 0x000B0001, lo := 0, hi := 1, dflt := 0, expert := false, scope := .fn },
    { ident := 0x000B0002, lo := 1, hi := 62500, dflt := 625, scope := .fn },
    -- R360
    { ident := 0x000C0001, lo := 0, hi := 1, dflt := 1, expert := false, scope := .halyardPort },
    { ident := 0x000C0002, lo := 0, hi := 1, dflt := 1, expert := false, scope := .halyardPort },
    { ident := 0x000C0003, lo := 0, hi := 1, dflt := 1 },
    { ident := 0x000C0004, lo := 1, hi := 32, dflt := 4 },
    { ident := 0x000C0005, lo := 625, hi := 625000, dflt := 125000 },
    { ident := 0x000C0006, lo := 62500, hi := 2 ^ 38, dflt := 5400000000 },
    { ident := 0x000C0007, lo := 2 ^ 22, hi := 2 ^ 30, dflt := 2 ^ 26 },
    { ident := 0x000C0008, lo := 0, hi := 1, dflt := 0, expert := false, owner := true },
    { ident := 0x000C0009, lo := 0, hi := 64, dflt := 0, expert := false, owner := true } ] ++
  [ -- R385
    { ident := 0x000D0001, lo := 1, hi := 365, dflt := 30, expert := false },
    { ident := 0x000D0002, lo := 2 ^ 24, hi := 2 ^ 44, dflt := 2 ^ 32 },
    { ident := 0x000D0003, lo := 0, hi := 1, dflt := 0 },
    { ident := 0x000D0004, lo := 0, hi := 1, dflt := 1, expert := false, scope := .relationship },
    { ident := 0x000D0005, lo := 0, hi := 1, dflt := (match s.peer.mirrors.find? (·.ident % 2 ^ 32 == scope) with
        | some m => m.mode
        | none => 1), expert := false, scope := .relationship },
    { ident := 0x000D0006, lo := 4096, hi := 4194304, dflt := 262144, scope := .relationship },
    -- R400
    { ident := 0x000E0001, lo := 16, hi := 65536, dflt := 4096 } ] ++
  [ -- R430; row 7 is not adjustable
    { ident := 0x00100001, lo := 0, hi := 100, dflt := 25, expert := false },
    { ident := 0x00100002, lo := 1, hi := 255, dflt := 80, expert := false },
    { ident := 0x00100003, lo := 1, hi := 2 ^ 32, dflt := 256, expert := false },
    { ident := 0x00100004, lo := 25, hi := 100, dflt := 80, expert := false },
    { ident := 0x00100005, lo := 1, hi := 25, dflt := 1, expert := false },
    { ident := 0x00100006, lo := 2, hi := 1024, dflt := 8 },
    { ident := 0x00100008, lo := 1, hi := 100, dflt := 5, expert := false },
    -- R456
    { ident := 0x00110001, lo := 32, hi := 512, dflt := 128 },
    { ident := 0x00110002, lo := 16, hi := 256, dflt := 64 },
    { ident := 0x00110003, lo := 4, hi := 128, dflt := 16 },
    { ident := 0x00110004, lo := 0, hi := 1, dflt := 0 },
    { ident := 0x00110005, lo := 4, hi := 64, dflt := 8 } ] ++
  [ -- R483
    { ident := 0x00120001, lo := 16, hi := 62500, dflt := 625 },
    { ident := 0x00120002, lo := 625, hi := 625000, dflt := 6250 },
    { ident := 0x00120003, lo := 0, hi := 1, dflt := 1, expert := false },
    { ident := 0x00120004, lo := 62500, hi := 2 ^ 32, dflt := 625000 },
    { ident := 0x00120005, lo := 0, hi := 1, dflt := 1, expert := false },
    { ident := 0x00120006, lo := 1, hi := 3600, dflt := 60, expert := false },
    { ident := 0x00120007, lo := 1, hi := 3600, dflt := 60 },
    { ident := 0x00120008, lo := 233, hi := 333, dflt := 273, expert := false },
    { ident := 0x00120009, lo := 293, hi := 358, dflt := 328, expert := false },
    { ident := 0x0012000A, lo := 0, hi := 10000, dflt := 1000 } ] ++
  [ { ident := 0x0012000B, lo := 1700, hi := 3600, dflt := 1700 },
    { ident := 0x0012000C, lo := 1700, hi := 3600, dflt := 3600 },
    { ident := 0x0012000D, lo := 50, hi := 85, dflt := 70, expert := false },
    { ident := 0x0012000E, lo := 85, hi := 105, dflt := 100 },
    { ident := 0x0012000F, lo := 1, hi := 60, dflt := 10, expert := false },
    { ident := 0x00120010, lo := 0, hi := 2, dflt := inputModeDefault s.record scope, expert := false, scope := .input 16 },
    { ident := 0x00120011, lo := 1, hi := 10000, dflt := 100, scope := .input 16 },
    { ident := 0x00120012, lo := 2000, hi := 5000, dflt := 3435, scope := .input 16 },
    { ident := 0x00120013, lo := 0, hi := 2 ^ 25 - 1, dflt := neighbourDefault s.mastN scope, scope := .input 25 } ]

/-- The control's row for a scope, none for an identifier that no table has. -/
def controlSpec (s : State) (ident scope : Nat) : Option ControlSpec :=
  (controlTable s scope).find? (·.ident == ident)

/-- Whether a scope is of the control's kind and in the range of that kind (R417). -/
def scopeOk (k : ScopeKind) (scope : Nat) : Bool :=
  match k with
  | .device => scope == deviceScope
  | .halyardPort => decide (scope < 3)
  | .fn => decide (scope ≤ 128)
  | .relationship => decide (scope < 2 ^ 32)
  | .input n => decide (scope < n)

/-- Value in effect of a control: as set, or its default (R16). -/
def State.ctlValue (s : State) (ident : Nat) (scope : Nat := deviceScope) : Nat :=
  match s.ctl.find? fun (i, sc, _) => i == ident && sc == scope with
  | some (_, _, v) => v
  | none =>
    match controlSpec s ident scope with
    | some c => c.dflt
    | none => 0

/-- A setting in the sorted list of what has been set (R16). -/
def putSetting (ident scope value : Nat) (l : List (Nat × Nat × Nat)) : List (Nat × Nat × Nat) :=
  insertBy (fun a b => a.1 < b.1 || (a.1 == b.1 && decide (a.2.1 ≤ b.2.1))) (ident, scope, value)
    (l.filter fun (i, sc, _) => ! (i == ident && sc == scope))

/-- Set a control; the host-complex journal records it (record type 0x16 of R260). A control set to its default is set (R16). -/
def State.setCtl (s : State) (ident scope value : Nat) : State :=
  (s.modCtl (putSetting ident scope value)).log 8 (.setting ident scope value)
/-- A control returns to its default (R496): nothing has set it any more (R16). The record carries the default. -/
def State.unsetCtl (s : State) (ident scope : Nat) : State :=
  let dflt := match controlSpec s ident scope with | some c => c.dflt | none => 0
  (s.modCtl fun l => l.filter fun (i, sc, _) => ! (i == ident && sc == scope)).log 8 (.setting ident scope dflt)
/-- The scope is the on-die sensor of an absent mast (R3, R475). -/
def absentInput (s : State) (k : ScopeKind) (scope : Nat) : Bool := match k with
  | .input _ => decide (16 + s.mastN ≤ scope) && decide (scope < 24)
  | _ => false

/-! The controls by name, for the operations they govern. -/

def ctlGap : Nat := 0x00020001
def ctlGapFactor : Nat := 0x00020002
def ctlOverrunD : Nat := 0x00020003
def ctlOverrunN : Nat := 0x00020004
def ctlSpare : Nat := 0x00030001
def ctlMargin : Nat := 0x00050001
def ctlTestInterval : Nat := 0x00050002
def ctlParkDelay : Nat := 0x00050003
def ctlEnergyWait : Nat := 0x00050004
def ctlTracking : Nat := 0x00060001
def ctlTrackingLimit : Nat := 0x00060002
def ctlRetryDepth : Nat := 0x00060003
def ctlLapPowered : Nat := 0x00070001
def ctlLapCrow : Nat := 0x00070002
def ctlActivation : Nat := 0x00070003
def ctlCrowAllowance : Nat := 0x00070004
def ctlRefreshScale : Nat := 0x00070005
def ctlWearSpread : Nat := 0x00070006
def ctlEnduranceFactor : Nat := 0x00070007
def ctlCompaction : Nat := 0x00070008
def ctlTreeCheck : Nat := 0x00090001
def ctlResetPolicy : Nat := 0x000B0001
def ctlDrainLimit : Nat := 0x000B0002
def ctlHalPort : Nat := 0x000C0001
def ctlHalWake : Nat := 0x000C0002
def ctlRelaying : Nat := 0x000C0003
def ctlLatencyBudget : Nat := 0x000C0004
def ctlWakeTimeout : Nat := 0x000C0005
def ctlQuarantine : Nat := 0x000C0006
def ctlRekey : Nat := 0x000C0007
def ctlPairPolicy : Nat := 0x000C0008
def ctlAllowlist : Nat := 0x000C0009
def ctlResumeWindow : Nat := 0x000D0001
def ctlExportHeadroom : Nat := 0x000D0002
def ctlCharge0 : Nat := 0x000D0003
def ctlMirrorMode : Nat := 0x000D0004
def ctlLossPolicy : Nat := 0x000D0005
def ctlLagLimit : Nat := 0x000D0006
def ctlHopLimit : Nat := 0x000E0001
def ctlWarn (row : Nat) : Nat := 0x00100000 + row
def ctlBufWarn : Nat := 0x00110001
def ctlBufPressure : Nat := 0x00110002
def ctlBufCritical : Nat := 0x00110003
def ctlIncludeLocked : Nat := 0x00110004
def ctlWayDisable : Nat := 0x00110005
def ctlHandshake : Nat := 0x00120001
def ctlHoldOff : Nat := 0x00120002
def ctlMastFurl : Nat := 0x00120003
def ctlMastIdle : Nat := 0x00120004
def ctlCrowOnL2 : Nat := 0x00120005
def ctlSampling : Nat := 0x00120006
def ctlReentry : Nat := 0x00120007
def ctlTempLow : Nat := 0x00120008
def ctlTempHigh : Nat := 0x00120009
def ctlBankMargin : Nat := 0x0012000A
def ctlVinLow : Nat := 0x0012000B
def ctlVinHigh : Nat := 0x0012000C
def ctlTf : Nat := 0x0012000D
def ctlTj : Nat := 0x0012000E
def ctlGrace : Nat := 0x0012000F
def ctlInputMode : Nat := 0x00120010
def ctlR25 : Nat := 0x00120011
def ctlB : Nat := 0x00120012
def ctlNeighbours : Nat := 0x00120013

/-- The days that the change of a lap target leaves inconsistent, and the other settings whose combination R237, R456 and R483
forbid. -/
def settingCombinationBad (s : State) (ident scope value : Nat) : Bool :=
  if ident == ctlLapPowered then decide (s.ctlValue ctlLapCrow < value)
  else if ident == ctlLapCrow then decide (value < s.ctlValue ctlLapPowered)
  else if ident == ctlBufWarn then decide (value ≤ s.ctlValue ctlBufPressure)
  else if ident == ctlBufPressure then
    decide (s.ctlValue ctlBufWarn ≤ value) || decide (value ≤ s.ctlValue ctlBufCritical)
  else if ident == ctlBufCritical then decide (s.ctlValue ctlBufPressure ≤ value)
  else if ident == ctlTempLow then decide (s.ctlValue ctlTempHigh ≤ value)
  else if ident == ctlTempHigh then decide (value ≤ s.ctlValue ctlTempLow)
  else if ident == ctlVinLow then decide (s.ctlValue ctlVinHigh ≤ value)
  else if ident == ctlVinHigh then decide (value ≤ s.ctlValue ctlVinLow)
  else if ident == ctlNeighbours then bit value scope
  else false

end Sys2Proof.Machine
end

