-- ==== Sys2Proof/Machine/Geometry.lean ====
section
/-! DEFINITION. Geometry: stripe widths, stripe sets, erase blocks and spares, zone capacity and the mapping of zone offsets
(R72, R77 to R80, R82, R87, R91, R92, R94, R104, R105, R107, R108, R131, R134, R229 to R231). -/

namespace Sys2Proof.Machine

/-- Parity units of a width (R85). -/
def parityOf (w : Nat) : Nat := if w == 8 then 2 else if w == 16 then 3 else 4
/-- Data units of a width (R85). -/
def dataOf (w : Nat) : Nat := w - parityOf w
/-- Busy budget of a width (R90). -/
def busyBudget (w : Nat) : Nat := parityOf w - 1
/-- Rows of a segment (R82). -/
def rowsOf (p : MediaProfile) : Nat := p.pagesPerBlock * p.planes * p.pageMain / 65536
/-- Logical blocks of a data row (R104). -/
def perRow (w : Nat) : Nat := 16 * dataOf w
/-- Logical blocks of a segment's data rows (R108, R134). -/
def perSeg (p : MediaProfile) (w : Nat) : Nat := (rowsOf p - 1) * perRow w
/-- Merkle leaves and tree blocks of `d` blocks (R104). -/
def leavesOf (d : Nat) : Nat := (d + 255) / 256
def treeBlocks (d : Nat) : Nat := (32 * (2 * leavesOf d - 1) + 4095) / 4096
/-- Trailer rows of a zone (R104). -/
def trailerRows (p : MediaProfile) (w segs : Nat) : Nat :=
  (1 + treeBlocks (segs * perSeg p w) + perRow w - 1) / perRow w
/-- Zone capacity in logical blocks (R104). -/
def zoneCapacity (p : MediaProfile) (w segs : Nat) : Nat := segs * perSeg p w - trailerRows p w segs * perRow w
/-- The smallest power of two not less than `n`, searched up to 2^63 (R105). -/
def pow2Above (n : Nat) : Nat := ((List.range 64).map (2 ^ ·)).find? (n ≤ ·) |>.getD 0
/-- Zone size of a namespace (R105). -/
def zoneSizeOf (p : MediaProfile) (wmax segs : Nat) : Nat := pow2Above (zoneCapacity p wmax segs)
/-- Nominal capacity of a namespace (R131). -/
def nominalCapacity (p : MediaProfile) (zones wmax segs : Nat) : Nat := zones * zoneCapacity p wmax segs
/-- Segments reserved by a conventional region of `size` blocks at width `w` (R134). -/
def convSegments (p : MediaProfile) (w size : Nat) : Nat :=
  if size == 0 then 0 else ceilDiv (5 * size) (4 * perSeg p w) + 2
/-- Erase blocks reserved by a namespace (R107). -/
def reservationOf (p : MediaProfile) (zones segs wmax conv convWidth : Nat) : Nat :=
  zones * segs * wmax + convSegments p convWidth conv * convWidth

def Namespace.zoneSize (n : Namespace) (p : MediaProfile) : Nat := zoneSizeOf p n.wmax n.segsPerZone
/-- Logical blocks of a namespace. -/
def Namespace.blocks (n : Namespace) (p : MediaProfile) : Nat := if n.conv then n.size else n.zoneCount * n.zoneSize p

/-- Where a zone offset is stored (R108): segment of the zone, row, codeword unit, block index, member. -/
structure Pos where
  seg : Nat
  row : Nat
  unit : Nat
  idx : Nat
  member : Nat
  deriving DecidableEq, Repr

/-- Member that holds codeword unit `u` of row `r` (R87). -/
def memberOf (w u r : Nat) : Nat := (u + r) % w
/-- Codeword unit that member `q` holds in row `r`. -/
def unitOf (w q r : Nat) : Nat := (q + w - r % w) % w

def posOf (p : MediaProfile) (w o : Nat) : Pos :=
  let row := 1 + o % perSeg p w / perRow w
  let unit := o % perRow w / 16
  { seg := o / perSeg p w, row := row, unit := unit, idx := o % 16, member := memberOf w unit row }

/-! ## Population and stripe sets -/

/-- A local LUN number of the population (R72). -/
def populated (r : DriveRecord) (ll : Nat) : Bool := bit r.ceBitmap (ll / 4) && decide (ll % 4 < r.lunsPerCe) && decide (ll < 32)

/-- Port of member `q` of stripe set (w, g, l) on a variant of `n` masts (R77). -/
def memberPort (n w g q : Nat) : Nat := 4 * (q % n) + (w / n) * g + q / n
/-- Global LUN of a member (R77). -/
def memberLun (n w g l q : Nat) : Nat := glunOf (memberPort n w g q) l
/-- Mast of a member: consecutive members lie on consecutive masts (R77). -/
def memberMast (n q : Nat) : Nat := q % n
/-- Port groups of a width. -/
def groupsOf (n w : Nat) : Nat := 4 / (w / n)

/-- LUN excluded: by training, or by too few good blocks (R71, R94). -/
def State.lunExcluded (s : State) (glun : Nat) : Bool :=
  (s.port (portOfLun glun)).excluded.contains (localOfLun glun) || (decide (0 < s.media.segBlocks) &&
    decide (s.profile.nominalBlocks - (s.lun glun).factoryBad.length < s.profile.sysBlocks + s.media.segBlocks + 1))
/-- LUN in use. -/
def State.lunUsed (s : State) (glun : Nat) : Bool :=
  decide (portOfLun glun < s.portN) && populated s.record (localOfLun glun) && ! s.lunExcluded glun
/-- Every LUN in use. -/
def State.gluns (s : State) : List Nat := (List.range (32 * s.portN)).filter s.lunUsed

/-- Member LUN `q` of a segment. -/
def State.memberGlun (s : State) (g : Segment) (q : Nat) : Nat := memberLun s.mastN g.width g.g g.l q
/-- Every member LUN of a stripe set, in member order. -/
def State.setLuns (s : State) (w g l : Nat) : List Nat := (List.range w).map (memberLun s.mastN w g l)
/-- Complete stripe set (R79). -/
def State.complete (s : State) (w g l : Nat) : Bool := (s.setLuns w g l).all s.lunUsed
/-- Missing members of a stripe set, as a bitmap (R79). -/
def State.missing (s : State) (w g l : Nat) : Nat :=
  bitmap ((List.range w).filter fun q => ! s.lunUsed (memberLun s.mastN w g l q))
/-- Every (g, l) of a width, in ascending order of g, then l. -/
def State.stripeSets (s : State) (w : Nat) : List (Nat × Nat) :=
  (List.range (groupsOf s.mastN w)).flatMap fun g => (List.range 32).map fun l => (g, l)

/-- A LUN's port is fenced or failed. -/
def State.portOut (s : State) (glun : Nat) : Bool :=
  let p := (s.port (portOfLun glun)).state
  p == .fenced || p == .failed
/-- A member that takes no block for a new segment: its mast is restarting or failed, or its port is fenced or failed (R231). -/
def State.takesNone (s : State) (glun : Nat) : Bool :=
  let m := (s.mast (mastOfLun glun)).state
  m == .restarting || m == .failed || s.portOut glun

/-- A member LUN whose units are erasures now: its mast is not active, or its port is fenced or failed (R88, R91). -/
def State.lunErased (s : State) (glun : Nat) : Bool :=
  (s.mast (mastOfLun glun)).state != .active || s.portOut glun

/-- Erasures of a segment: members on an unavailable mast or port, and members its header records (R91). -/
def State.segErasures (s : State) (g : Segment) : List Nat :=
  (List.range g.width).filter fun q =>
    g.erasures.contains q || s.lunErased (memberLun s.mastN g.width g.g g.l q)

/-- e of a stripe set (R91). -/
def State.setErasures (s : State) (w g l : Nat) : Nat :=
  let base := countIf s.lunErased (s.setLuns w g l)
  let segs := s.media.segs.filter fun x => x.width == w && x.g == g && x.l == l
  segs.foldl (fun a x => max a (s.segErasures x).length) base
/-- Effective budget of a stripe set (R91). -/
def State.effBudget (s : State) (w g l : Nat) : Nat := parityOf w - 1 - s.setErasures w g l

/-- A width survives the loss of one whole mast exactly when its members per mast do not exceed its parity (R40). -/
def survivesMast (n w : Nat) : Bool := decide (w / n ≤ parityOf w)
/-- Masts that are restarting or failed. -/
def State.mastsDown (s : State) : Nat :=
  countIf (fun m => (s.mast m).state == .restarting || (s.mast m).state == .failed) s.mastIds
/-- A width that cannot survive the present loss: one mast is down and its stripe sets cannot lose it, or two are, which no stripe set
survives (R40, R41). No new segment of it is written. -/
def State.widthBarred (s : State) (w : Nat) : Bool :=
  decide (1 < s.mastsDown) || (s.mastsDown == 1 && ! survivesMast s.mastN w)

/-! ## Erase blocks and spares -/

/-- Good erase blocks available to segments, by the profile and the spare percentage (R94). -/
def segBlocksOf (p : MediaProfile) (pct : Nat) : Nat :=
  let base := p.minGood - p.sysBlocks
  base - (base * pct + 99) / 100

/-- Good blocks of a LUN now, and at first format. -/
def State.goodBlocks (s : State) (glun : Nat) : Nat :=
  s.profile.nominalBlocks - (s.lun glun).factoryBad.length - (s.lun glun).retired
def State.goodFirst (s : State) (glun : Nat) : Nat := s.profile.nominalBlocks - (s.lun glun).factoryBad.length
/-- Spare count of a LUN now, and at first format (R94). -/
def State.spares (s : State) (glun : Nat) : Nat := s.goodBlocks glun - s.profile.sysBlocks - s.media.segBlocks
def State.sparesFirst (s : State) (glun : Nat) : Nat := s.goodFirst glun - s.profile.sysBlocks - s.media.segBlocks
/-- Segment blocks of a LUN: seg_blocks, less one for each retirement at a spare count of 0 (R229). -/
def State.segBlocks (s : State) (glun : Nat) : Nat := min s.media.segBlocks (s.goodBlocks glun - s.profile.sysBlocks)
/-- Available blocks of the device (R230). -/
def State.availableBlocks (s : State) : Nat := sumOf s.segBlocks s.gluns
/-- Reserved blocks of the device (R230). -/
def State.reservedBlocks (s : State) : Nat := sumOf Namespace.reserved s.nss

/-- The record of an erase block; one not listed is good and, as a format leaves it, pending-erase, with count 0 (R495). -/
def Lun.block (l : Lun) (b : Nat) : EBlock := (l.blocks.find? (·.number == b)).getD { number := b, state := .pendingErase, erased := false }
def State.modBlock (s : State) (glun b : Nat) (f : EBlock → EBlock) : State :=
  s.modLun glun fun l => { l with blocks := putBy EBlock.number (f (l.block b)) l.blocks }
/-- System blocks of a LUN at first format: its first good blocks in ascending order (R257). -/
def Lun.firstSystem (l : Lun) (p : MediaProfile) (b : Nat) : Bool :=
  decide (b < p.sysBlocks + countIf (· ≤ b) l.factoryBad)
/-- The system blocks of a LUN in the order of their roles (R93, R257): its first good blocks in ascending order, where a converted block takes the
place of the one that it replaces. -/
def Lun.systemBlocks (l : Lun) (p : MediaProfile) : List Nat :=
  ((List.range (p.sysBlocks + l.factoryBad.length)).filter fun b => l.firstSystem p b && ! l.factoryBad.contains b).map fun b =>
    l.swaps.foldl (fun b x => if b == x.1 then x.2 else b) b
/-- Directory, log and rescue blocks of a LUN (R93). -/
def Lun.directory (l : Lun) (p : MediaProfile) : List Nat := (l.systemBlocks p).take 2
def Lun.logRing (l : Lun) (p : MediaProfile) : List Nat := ((l.systemBlocks p).drop 2).take 4
def Lun.rescueRing (l : Lun) (p : MediaProfile) : List Nat := (l.systemBlocks p).drop 6
/-- Pages of a system block, in pSLC on every plane, and slots of a page (R92, R145). -/
def pslcPages (p : MediaProfile) : Nat := p.pagesPerBlock / max 1 p.pagesPerWl * p.planes
def slotsPerPage (p : MediaProfile) : Nat := p.pageMain / 4096
/-- Where page `k` that a LUN's log blocks took stands: the block of the ring, and the pSLC page number and the plane in it (R93, R241). -/
def Lun.logPlace (l : Lun) (p : MediaProfile) (k : Nat) : Nat × Nat × Nat :=
  let size := max 1 (pslcPages p)
  ((l.logRing p).getD (k / size % 4) 0, k % size / max 1 p.planes, k % size % max 1 p.planes)
/-- A block that a segment may use: good and no system block. -/
def Lun.poolBlock (l : Lun) (p : MediaProfile) (b : Nat) : Bool :=
  decide (b < p.nominalBlocks) && ! l.factoryBad.contains b && ! l.firstSystem p b
/-- Free erased and pending-erase blocks of a LUN (R80). -/
def State.freeBlocks (s : State) (glun : Nat) : Nat :=
  countIf (fun b => b.state == .free && b.erased && (s.lun glun).poolBlock s.profile b.number) (s.lun glun).blocks
def State.pendingBlocks (s : State) (glun : Nat) : Nat :=
  let l := s.lun glun
  s.profile.nominalBlocks - l.factoryBad.length - s.profile.sysBlocks -
    countIf (fun b => b.state != .pendingErase && l.poolBlock s.profile b.number) l.blocks
/-- Available erase blocks of a LUN (R80). -/
def State.availOn (s : State) (glun : Nat) : Nat := s.freeBlocks glun + s.pendingBlocks glun

/-- The block a segment takes on a LUN (R80): the free erased block with the lowest erase count, else the pending-erase block
with the lowest; ties go to the lowest number. -/
def State.pickBlock (s : State) (glun : Nat) : Option Nat :=
  let l := s.lun glun
  let p := s.profile
  let key (b : EBlock) : Nat := b.erases * 65536 + b.number
  let pool := l.blocks.filter fun b => l.poolBlock p b.number
  match minBy key (pool.filter fun b => b.state == .free && b.erased) with
  | some e => some e.number
  | none =>
    let fresh := (List.range p.nominalBlocks).find? fun b => l.poolBlock p b && ! l.blocks.any (·.number == b)
    (minBy key (pool.filter (·.state == .pendingErase) ++ (fresh.map l.block).toList)).map (·.number)

/-- A stripe set in which a segment can be placed (R41, R231). -/
def State.setObtainable (s : State) (w g l : Nat) : Bool :=
  let luns := s.setLuns w g l
  let takers := luns.filter fun x => ! s.takesNone x
  ! s.widthBarred w && s.complete w g l && decide (w - takers.length ≤ parityOf w) && takers.all fun x => decide (0 < s.availOn x)

/-- The stripe set of a new segment of width `w` (R80, R56): among the obtainable ones, those with no member on a fenced or
failed port first; then the one whose fewest available blocks are the most; ties to the lowest g, then l. -/
def State.chooseSet (s : State) (w : Nat) : Option (Nat × Nat) :=
  let ok := (s.stripeSets w).filter fun (g, l) => s.setObtainable w g l
  let clear := ok.filter fun (g, l) => (s.setLuns w g l).all fun x => ! s.portOut x
  let pool := if clear.isEmpty then ok else clear
  let least (gl : Nat × Nat) : Nat :=
    match minBy s.availOn ((s.setLuns w gl.1 gl.2).filter fun x => ! s.takesNone x) with
    | some x => s.availOn x
    | none => 0
  let most := maxOf (pool.map least)
  pool.find? fun gl => least gl == most

/-- A segment of width `w` is obtainable (R231). -/
def State.obtainable (s : State) (w : Nat) : Bool := (s.stripeSets w).any fun (g, l) => s.setObtainable w g l

/-- Most suspends of an operation kind (R74): 0 where the profile does not let it be suspended. The archival grade has a fine pass of
its own. -/
def suspendLimit (p : MediaProfile) (k : DieOp) (archival : Bool) : Nat :=
  let i := match k with
    | .read => 0
    | .pslcRead => 1
    | .coarsePass => 2
    | .finePass => if archival then 4 else 3
    | .pslcProgram => 5
    | .erase => 6
    | .reset | .feature => 7
  if p.suspendable.contains i then p.maxSuspends.getD i 0 else 0
/-- Row address of an erase block, plane and page of a LUN within its chip enable (R73). -/
def rowAddress (p : MediaProfile) (lun block plane page : Nat) : Nat :=
  lun * 2 ^ p.lunBit + block * 2 ^ p.blockBit + plane * 2 ^ p.planeBit + page * 2 ^ p.pageBit
/-- Chip enable and row address with which a page of a LUN is addressed. -/
def dieAddress (p : MediaProfile) (glun block plane page : Nat) : Nat × Nat :=
  (localOfLun glun / 4, rowAddress p (localOfLun glun % 4) block plane page)
/-- A suspend of the LUN's operation is planned or carried and has not run. -/
def State.suspendPlanned (s : State) (glun : Nat) : Bool :=
  let p := s.port (portOfLun glun)
  (p.plan ++ p.carried).any fun e => e.lun == glun && e.kind == 4
/-- The LUN is in non-suspendable work (R89): its operation cannot be suspended, or with the suspends that are planned it has been
suspended as many times as the profile allows. -/
def State.nonSuspendable (s : State) (glun : Nat) : Bool :=
  match (s.lun glun).work with
  | none => false
  | some w =>
    match w.kind with
    | .read | .pslcRead => false
    | .coarsePass | .finePass | .pslcProgram | .erase => decide (w.limit ≤ w.suspends + bitOf (s.suspendPlanned glun) 0)
    | .reset | .feature => true

/-! ## Limits of the variant (R1, R122) -/

def maxActive : Variant → Nat
  | .btk8208 => 512
  | .btk8416 => 1024
  | .btk8832 => 2048
def maxOpen (v : Variant) : Nat := maxActive v / 2

end Sys2Proof.Machine
end

