-- ==== Sys2Proof/Machine/Codec.lean ====
section
/-! DEFINITION. The codes and layouts of the Memusum format: Reed-Solomon parity and rebuild (R85 to R88), pages, slots and page
headers (R240 to R243), the scrambler (R244), the LDPC codes (R245 to R247), sealed blocks (R248 to R252), segment headers and
trailers (R253 to R255), system frames and journal records (R258 to R260), signed objects (R262), Merkle trees (R265, R266). -/

namespace Sys2Proof.Machine

/-! ## Reed-Solomon (R85 to R88) -/

/-- Product in GF(2^8) with polynomial 0x11D. -/
def gmul (a b : Nat) : Nat := gfMulAux 0x11D 0x100 8 a b 0
def gpow (a : Nat) : Nat → Nat
  | 0 => 1
  | n + 1 => gmul (gpow a n) a
def ginv (a : Nat) : Nat := gpow a 254
/-- Locator of symbol `s`: α^(W−1−s). -/
def locator (w s : Nat) : Nat := gpow 2 (w - 1 - s)
/-- Generator coefficients from x^p down (R86), as the product of (x − α^j). -/
def rsGen (p : Nat) : List Nat :=
  (List.range p).foldl (fun g j => ((g ++ [0]).zip (0 :: g)).map fun (hi, lo) => hi ^^^ gmul lo (gpow 2 j)) [1]
/-- Remainder register after the data symbols, highest power first: the parity symbols k .. W−1 (R85). -/
def rsParity (p : Nat) (data : List Nat) : List Nat :=
  data.foldl (fun reg d =>
    let f := d ^^^ reg.headD 0
    ((reg.drop 1 ++ [0]).zip ((rsGen p).drop 1)).map fun (r, g) => r ^^^ gmul f g) (List.replicate p 0)
/-- Check equation j of a codeword (R86). -/
def rsSyndrome (cw : List Nat) (j : Nat) : Nat :=
  (cw.zipIdx).foldl (fun a (c, s) => a ^^^ gmul c (gpow (locator cw.length s) j)) 0
def rsValid (p : Nat) (cw : List Nat) : Bool := (List.range p).all fun j => rsSyndrome cw j == 0
/-- Symbol `t` rebuilt from the intact symbols `known` (position, value) of a word of width `w`, by the check equations (R88);
the positions not in `known` are the erasures. -/
def rsRebuild (w t : Nat) (known : List (Nat × Nat)) : Nat :=
  let others := (List.range w).filter fun s => s != t && ! known.any (·.1 == s)
  let prod (x : Nat) := others.foldl (fun a e => gmul a (x ^^^ locator w e)) 1
  let num := known.foldl (fun a (s, c) => a ^^^ gmul c (prod (locator w s))) 0
  gmul num (ginv (prod (locator w t)))

/-! ## CRC-64 and the scrambler (R250, R244) -/

def crcBits (poly : Nat) : Nat → Nat → Nat
  | 0, c => c
  | n + 1, c => crcBits poly n (if c % 2 == 1 then c / 2 ^^^ poly else c / 2)
/-- The register after the bytes of a list, from the value c of 64 bits; 0xC96C_5795_D787_0F42 is the polynomial of R250 with its
bits reversed. -/
def crcRun : List Nat → Nat → Nat
  | [], c => c
  | b :: l, c => if 2 ^ 64 ≤ c then 0 else crcRun l (crcBits 0xC96C5795D7870F42 8 (c ^^^ b))
/-- CRC-64 of ECMA-182, reflected. -/
def crc64 (m : List Nat) : Nat := crcRun m (2 ^ 64 - 1) ^^^ (2 ^ 64 - 1)
/-- One scrambler byte and the register after it (R244). -/
def scrByte : Nat → Nat → Nat → Nat × Nat
  | 0, s, _ => (0, s)
  | n + 1, s, i =>
    let b := s % 2
    let s' := if b == 1 then s / 2 ^^^ 0xEDB88320 else s / 2
    let (o, s2) := scrByte n s' (i + 1)
    (b * 2 ^ i + o, s2)
def scrSeed (pageIndex i : Nat) : Nat := 0x5A5A5A5A ^^^ (4 * pageIndex + i)
def scrambleFrom : Nat → List Nat → List Nat
  | _, [] => []
  | s, b :: bs => let (o, s') := scrByte 8 s 0; (b ^^^ o) :: scrambleFrom s' bs
/-- Scramble, or descramble, a slot. -/
def scramble (pageIndex i : Nat) (slot : List Nat) : List Nat := scrambleFrom (scrSeed pageIndex i) slot
/-- A raw slot with fewer than 64 zero bits is erased (R244). -/
def slotErased (raw : List Nat) : Bool := decide (sumOf (fun b => 8 - popcount b 8) raw < 64)

/-! ## LDPC (R245 to R247) -/

def ldpcZ : Nat := 384
/-- Slot length of code `mb` (R245). -/
def slotLength (mb : Nat) : Nat := 4176 + 48 * mb
/-- Block rows and shifts of information column `j` (R246). -/
def ldpcColumn (mb j : Nat) : List (Nat × Nat) :=
  let w := if j % 3 == 0 then 4 else 3
  let d := mb / w
  (List.range w).map fun t =>
    let i := (j + t * d) % mb
    (i, (97 * (i + 1) * (j + 1) + 13 * i * i + 7 * j) % ldpcZ)
/-- Product of block row `i` of H with the information bits: bit y is the sum of bits (y + x) mod Z of each block (R246). -/
def ldpcRow (mb i : Nat) (info : Nat → Bool) (y : Nat) : Bool :=
  (List.range 87).foldl (fun a j => (ldpcColumn mb j).foldl (fun a (r, x) =>
    if r == i then a != info (384 * j + (y + x) % 384) else a) a) false
/-- Parity bit y of parity block q: the staircase of R247. -/
def ldpcParity (mb : Nat) (info : Nat → Bool) : Nat → Nat → Bool
  | 0, y => ldpcRow mb 0 info y
  | q + 1, y => ldpcRow mb (q + 1) info y != ldpcParity mb info q y
/-- A word whose bit k is `cw k` satisfies check y of block row i (R247). -/
def ldpcCheck (mb i y : Nat) (cw : Nat → Bool) : Bool :=
  let own := ldpcRow mb i cw y != cw (384 * (87 + i) + y)
  (if i == 0 then own else own != cw (384 * (86 + i) + y)) == false
/-- A profile's code fits its page (R245). -/
def codeFits (p : MediaProfile) : Bool :=
  decide (7 ≤ p.ldpcCode) && decide (p.ldpcCode ≤ 12) &&
    decide (p.pageMain / 4096 * slotLength p.ldpcCode ≤ p.pageMain + p.pageSpare)

/-! ## Pages (R240 to R243) -/

/-- Segment page index of a row's unit, block index t: page number in the unit, and slot (R241). -/
def pageIndexOf (p : MediaProfile) (row t : Nat) : Nat × Nat :=
  let c := p.pageMain / 4096
  (row * (16 / c) + t / c, t % c)
/-- Page number on its plane, and plane, of a segment page index (R241). -/
def pagePlane (p : MediaProfile) (pageIndex : Nat) : Nat × Nat := (pageIndex / p.planes, pageIndex % p.planes)
/-- Wordline of a row: rows share a wordline as pages per wordline allow (R138, R241). -/
def rowsPerWl (p : MediaProfile) : Nat := max 1 (p.pagesPerWl * p.planes * (p.pageMain / 4096) / 16)
def wordlineOf (p : MediaProfile) (row : Nat) : Nat := row / rowsPerWl p
def wordlines (p : MediaProfile) : Nat := p.pagesPerBlock / p.pagesPerWl
/-- Page header of a segment page (R242). -/
def segPageHeader (version kind i row member unit seq keyRef : Nat) : List Nat :=
  [0x4D, version, kind, i % 4] ++ bytesLE 2 row ++ [member, unit] ++ bytesLE 6 seq ++ bytesLE 2 keyRef
/-- Page header of a system page and of a rescue page (R242). -/
def sysPageHeader (version kind i page stream owner seq : Nat) : List Nat :=
  [0x4D, version, kind, i % 4] ++ bytesLE 2 page ++ [stream, owner] ++ bytesLE 6 seq ++ [0xFF, 0xFF]
def rescuePageHeader (version i page keyRef poc frame cause : Nat) : List Nat :=
  [0x4D, version, 0x11, i % 4] ++ bytesLE 2 page ++ bytesLE 2 keyRef ++ bytesLE 4 poc ++ bytesLE 2 frame ++ bytesLE 2 cause
/-- Kinds of page (R243). -/
def pageKinds : List Nat := [0x01, 0x02, 0x03, 0x04, 0x10, 0x11, 0x12, 0x13, 0x14, 0x15, 0x16]

/-! ## Sealed blocks (R248 to R252) -/

def markerCode : Marker → Nat
  | .data => 0
  | .fill => 1
  | .void => 2
  | .loss => 3
/-- Block identity (R249). -/
def identityBytes (gen offset zone marker : Nat) : List Nat :=
  bytesLE 8 gen ++ bytesLE 4 offset ++ bytesLE 4 (zone % 2 ^ 28 + marker * 2 ^ 28)
/-- Protection information as stored (R248): application tag, then reference tag, most significant byte first. -/
def piBytes (app ref : Nat) : List Nat := bytesBE 2 app ++ bytesBE 6 ref
/-- The 4,160 bytes of a block with its CRC filled in (R248, R250). -/
def sealedBytes (payload tag : List Nat) (iv : Nat) (ident pi : List Nat) : List Nat :=
  let body (crc : Nat) := payload ++ tag ++ bytesLE 8 iv ++ bytesLE 8 crc ++ ident ++ pi ++ List.replicate 8 0
  body (crc64 (body 0))
/-- IV of a block: the salt as stored, then the counter, most significant byte first (R251). -/
def ivBytes (salt counter : Nat) : List Nat := bytesLE 4 salt ++ bytesBE 8 counter
/-- Fingerprint of a data key (R252). -/
def keyFingerprint (key : List Nat) : Digest := sha256D (ascii "MEMUSUM-KEY-FP" ++ key)
/-- Register entry (R252). -/
def entryBytes (e : KeyEntry) : List Nat :=
  bytesLE 2 e.number ++ [if e.tenant then 1 else 0, 0] ++ bytesLE 4 e.salt.toNat ++ bytesLE 32 e.fp.toNat
/-- The published zero key's entry (R252). -/
def zeroEntry : KeyEntry := { number := 0, tenant := false, salt := 0, fp := keyFingerprint (List.replicate 32 0) }
def blockBytes (b : Block) : List Nat := bytesLE 4096 b.toNat
def blockOf (l : List Nat) : Block := BitVec.ofNat 32768 (ofBytesLE l)

/-! ## Segment header, trailer, records (R253 to R260, R262) -/

def padTo (n : Nat) (l : List Nat) : List Nat := l ++ List.replicate (n - l.length) 0
/-- Segment header (R253). -/
def segHeaderBytes (version : Nat) (g : Segment) (rows lbaf pi members : Nat) (memberLuns : List Nat) : List Nat :=
  padTo 4096 (padTo 128 (ascii "MSEG" ++ [version, 0] ++ bytesLE 2 g.revision ++ bytesLE 8 g.seq ++ bytesLE 8 g.replaced ++
    bytesLE 8 g.gen ++ bytesLE 4 g.nsid ++ bytesLE 4 (g.zone.getD 0x0FFFFFFF) ++
    [g.index, members, g.width, parityOf g.width, g.g, g.l, g.cls, if g.archival then 1 else 0, g.home, lbaf + 2 * pi] ++
    bytesLE 2 rows ++ bytesLE 2 g.keyRef ++ [0, 0] ++ bytesLE 8 g.stamp ++ bytesLE 8 g.utc ++ bytesLE 4 g.poc ++
    [0, 0, 0, 0] ++ bytesLE 4 (bitmap g.erasures)) ++
    (memberLuns.zip g.members).flatMap fun (l, b) => bytesLE 2 l ++ bytesLE 4 b ++ [0, 0])
/-- Zone trailer (R255). -/
def trailerBytes (version nsid : Nat) (z : Zone) (poc frame : Nat) (entry : KeyEntry) : List Nat :=
  padTo 4096 (ascii "MZTR" ++ [version, 0, 0, 0] ++ bytesLE 8 z.gen ++ bytesLE 4 nsid ++ bytesLE 4 z.zi ++
    bytesLE 4 z.written ++ bytesLE 4 z.leaves.length ++ bytesLE 32 z.root.toNat ++
    [z.segs.length, z.width, z.cls, if z.archival then 1 else 0] ++ bytesLE 8 z.utcFinish ++ bytesLE 4 poc ++ bytesLE 8 frame ++
    padTo 128 (z.segs.flatMap (bytesLE 8)) ++ entryBytes entry)
/-- System frame identity (R258). -/
def sysIdentity (seq stream : Nat) : List Nat := identityBytes seq stream 0 6
/-- A journal record: envelope and body, padded to 8 bytes (R259). -/
def recordBytes (type seq : Nat) (body : List Nat) : List Nat :=
  let r := bytesLE 2 type ++ bytesLE 2 body.length ++ bytesLE 4 seq ++ body
  r ++ List.replicate ((8 - r.length % 8) % 8) 0
def blockStateCode : BlockState → Nat
  | .retired => 1
  | .pendingErase => 2
  | .free => 3
  | .system => 4
  | .allocated => 0
/-- Body of a segment allocation record (R260): the whole of the segment's placement. -/
def allocationBody (g : Segment) : List Nat :=
  bytesLE 8 g.seq ++ bytesLE 8 g.gen ++ bytesLE 4 g.nsid ++ bytesLE 4 (g.zone.getD 0x0FFFFFFF) ++
    [g.index, g.width, g.g, g.l] ++ bytesLE 8 g.stamp ++ bytesLE 2 g.keyRef ++ [g.cls, if g.archival then 1 else 0] ++
    g.members.flatMap (bytesLE 4)
/-- Body of a rescue index record (R260, R261): dump identity, cause, and the rescue blocks of the mast. -/
def State.rescueBody (s : State) (cause frame mast : Nat) : List Nat :=
  let runs := (s.mast mast).rescue
  let records := countIf (fun b => runs.any fun (r : Nat × Nat × Nat) => r.1 == b.rlun && r.2.1 == b.rblk) s.media.blocks
  bytesLE 4 s.clk.poc ++ [0, 0, 0, 0] ++ bytesLE 8 frame ++ [cause, mast] ++ bytesLE 2 runs.length ++
    bytesLE 4 records ++ runs.flatMap fun (x, b, used) => bytesLE 2 x ++ bytesLE 4 b ++ bytesLE 2 used
/-- The first 24 bytes of a loss entry or a loss removal (R260). -/
def lossHead (nsid lba count gen : Nat) : List Nat := bytesLE 4 nsid ++ bytesLE 4 count ++ bytesLE 8 lba ++ bytesLE 8 gen
/-- The vault key of an epoch (R306). -/
def vaultKey (f : Fuses) : List Nat := (sha384 (bytesBE 48 f.otpRoot.toNat ++ [f.vaultEpoch])).take 32
/-- Head of a slot image (R306). -/
def imageHead (n ref gen owner kind flags epoch : Nat) : List Nat :=
  bytesLE 2 n ++ bytesLE 2 ref ++ bytesLE 4 gen ++ bytesLE 2 owner ++ [kind, flags, epoch, 0, 0, 0]
/-- The image of a slot, of a KEK (0x8000 + 4 × function + index) or of an owner attestation key (R306): the wrapped key is absent for a
volatile or Empty one. The generation of a KEK or attestation key, which has none, is written as 0. -/
def State.slotImage (s : State) (n : Nat) : List Nat :=
  let e := s.fuses.vaultEpoch
  if 0x8000 ≤ n then
    let fn := (n - 0x8000) / 4
    match (s.fn fn).keks.find? fun k => k.index == (n - 0x8000) % 4 with
    | some k => imageHead n 0xFFFF 0 fn 1 (if k.persistent then 1 else 0) e ++
        (if k.persistent then kwWrap (vaultKey s.fuses) (bytesLE 32 k.key.toNat) else [])
    | none => imageHead n 0xFFFF 0 fn 1 0 e
  else if 4092 ≤ n then
    match s.keys.ownerKeys.find? fun k => k.slot == n - 4092 with
    | some k => imageHead n 0xFFFF 0 0xFFFF 2 1 e ++ kwWrap (vaultKey s.fuses) (bytesBE 48 k.priv.toNat)
    | none => imageHead n 0xFFFF 0 0xFFFF 2 0 e
  else
    let k := s.slot n
    imageHead n k.keyRef k.generation (k.owner.getD 0xFFFF) 0 ((if k.persistent then 1 else 0) + (if k.state == .limited then 2 else 0)) e ++
      (if k.persistent && k.state != .empty then kwWrap (vaultKey s.fuses) (bytesLE 32 k.key.toNat) else [])
/-- Bytes of a slot image. -/
def State.imageSize (s : State) (n : Nat) : Nat :=
  if 0x8000 ≤ n then
    if (s.fn ((n - 0x8000) / 4)).keks.any fun k => k.index == (n - 0x8000) % 4 && k.persistent then 56 else 16
  else if 4092 ≤ n then if s.keys.ownerKeys.any fun k => k.slot == n - 4092 then 72 else 16
  else if (s.slot n).persistent && (s.slot n).state != .empty then 56 else 16
/-- Control identifier of the slot images (R306, R419). -/
def slotImageId : Nat := 0x00F00001
/-- Type and body of a journal record (R260). The records that a checkpoint re-emits are not represented. A member
replacement carries the segment's own sequence as its destination (DESIGN CHOICE, log 60). -/
def State.recordBody (s : State) : JRec → Nat × List Nat
  | .allocation seq => (0x01, allocationBody ((s.seg? seq).getD { seq := seq }))
  | .passComplete seq member wl pass block =>
    let g := (s.seg? seq).getD { seq := seq }
    (0x02, bytesLE 2 (memberLun s.mastN g.width g.g g.l member) ++ bytesLE 4 block ++ bytesLE 2 wl ++ [pass])
  | .blockState glun block state erases => (0x03, bytesLE 2 glun ++ bytesLE 4 block ++ [state, 0] ++ bytesLE 4 erases)
  | .mapRecord kind source dest => (0x04, [kind, 0, 0, 0, 0, 0, 0, 0] ++ bytesLE 8 source ++ bytesLE 8 dest)
  | .memberMap seq member block => (0x04, [2, 0, 0, 0, 0, 0, 0, 0] ++ bytesLE 8 seq ++ bytesLE 8 seq ++ [member, 0, 0, 0] ++ bytesLE 4 block)
  | .convMap nsid lba source dest row unit idx =>
    (0x04, [3, 0, 0, 0, 0, 0, 0, 0] ++ bytesLE 8 source ++ bytesLE 8 dest ++ bytesLE 4 nsid ++ bytesLE 4 0 ++ bytesLE 8 lba ++
      bytesLE 2 row ++ [unit, idx])
  | .zoneRelease nsid zone gen state =>
    (0x04, padTo 24 [4] ++ bytesLE 4 nsid ++ bytesLE 4 zone ++ bytesLE 8 gen ++ [state])
  | .zoneState nsid zone gen state wp =>
    (0x05, bytesLE 4 nsid ++ bytesLE 4 zone ++ bytesLE 8 gen ++ [state, 0, 0, 0] ++ bytesLE 4 wp)
  | .rowDurable seq row => (0x06, bytesLE 8 seq ++ bytesLE 2 row)
  | .gapRow seq row members => (0x07, bytesLE 8 seq ++ bytesLE 2 row ++ [0, 0] ++ bytesLE 4 (bitmap members))
  | .reservation counter keyRef mast _ stop => (0x08, [counter, 0] ++ bytesLE 2 keyRef ++ [mast, 0, 0, 0] ++ bytesLE 8 stop)
  | .rescueIndex mast => (0x09, s.rescueBody 1 (s.pwr.dumpFrame.getD s.clk.frame) mast)
  | .parkEnd mast _ _ => (0x09, s.rescueBody 2 s.clk.frame mast)
  | .rescueRetired glun block => (0x0A, bytesLE 2 glun ++ bytesLE 4 block)
  | .capacitance v => (0x0B, bytesLE 4 v ++ bytesLE 4 s.clk.poc ++ bytesLE 8 s.clk.frame)
  | .powerOnCount count => (0x0C, bytesLE 4 count)
  | .lastKnown secs frac => (0x0D, bytesLE 8 secs ++ bytesLE 4 frac ++ [0, 0, 0, 0] ++ s.media.ages.flatMap fun a => bytesLE 8 a.age)
  | .gapCharge poc age => (0x0E, bytesLE 4 poc ++ [0, 0, 0, 0] ++ bytesLE 8 age)
  | .cleanShutdown frame => (0x0F, bytesLE 8 frame)
  | .checkpointEnd => (0x11, padTo 12 [])
  | .lossEntry nsid lba count =>
    (0x12, match s.media.ledger.find? fun e => e.nsid == nsid && decide (e.lba ≤ lba) && decide (lba < e.lba + e.count) with
      | some e => lossHead nsid lba count e.gen ++ [e.cause, e.foundBy] ++ bytesLE 2 e.fn ++ bytesLE 4 e.poc ++ bytesLE 8 e.frame ++ bytesLE 8 e.utc
      | none => padTo 48 (lossHead nsid lba count 0))
  | .lossRemoval nsid lba count => (0x13, lossHead nsid lba count (((s.block? nsid lba).map (·.gen)).getD 0))
  | .keyEntry number => (0x14, match s.keys.register.find? (·.number == number) with
      | some e => entryBytes e
      | none => padTo 40 (bytesLE 2 number))
  | .formatRecord => (Config.freeNat 0x0A05 % 256, [])
  | .readPreserve entered => (0x15, [if entered then 1 else 0])
  | .setting ident scope value => (0x16, bytesLE 4 ident ++ bytesLE 4 scope ++
      (if ident == slotImageId then s.slotImage scope else bytesLE 8 value))
/-- Bytes of a record, for the checkpoint rule of R157 and the staging of R144. -/
def State.recordSize (s : State) (r : JRec) : Nat :=
  match r with
  | .setting ident scope _ => if ident == slotImageId then 16 + s.imageSize scope else 24
  | r => (recordBytes (s.recordBody r).1 0 (s.recordBody r).2).length

/-- One parameter of a signed object's body: tag, length, value (R262). -/
def tlv (tag : Nat) (v : List Nat) : List Nat := bytesLE 2 tag ++ bytesLE 2 v.length ++ v
def signed8 (i : Int) : Nat := (i % 256).toNat
/-- Body of a drive record (R262). -/
def driveBody (r : DriveRecord) : List Nat :=
  tlv 0x0001 (((bytesLE 20 r.serial.toNat).reverse.dropWhile (· == 0)).reverse) ++ tlv 0x0002 [r.ceBitmap, r.lunsPerCe] ++ tlv 0x0003 [r.sparePct] ++
  (if r.lunInputs.isEmpty then [] else tlv 0x0004 r.lunInputs) ++ tlv 0x0010 (bytesLE 4 r.cCfg) ++
  tlv 0x0011 (bytesLE 4 r.vMin) ++ tlv 0x0012 (bytesLE 2 r.eta) ++ tlv 0x0013 (bytesLE 2 r.divider) ++
  tlv 0x0014 ([if r.loadResistive then 1 else 0] ++ bytesLE 4 r.loadValue) ++ tlv 0x0015 (bytesLE 2 r.tTest) ++
  (match r.bankInput with | some i => tlv 0x0016 [i] | none => []) ++
  (if r.derate.isEmpty then [] else tlv 0x0017 (r.derate.flatMap fun (t, f) => signed8 t :: bytesLE 2 f)) ++
  tlv 0x0018 (bytesLE 4 r.pBoard) ++ tlv 0x0019 (bytesLE 4 r.eFlash) ++ tlv 0x001A [if r.passContinuation then 1 else 0] ++
  (match r.subsysVendor, r.subsysDevice with
    | none, none => []
    | v, d => tlv Config.subsystemTag (bytesLE 2 (v.getD 0) ++ bytesLE 2 (d.getD 0))) ++
  r.others.flatMap fun (t, v) => tlv t v
/-- A signed object without its signature (R262). -/
def objectBytes (magic : String) (version revision : Nat) (body : List Nat) : List Nat :=
  ascii magic ++ [version, 0, 0, 0] ++ bytesLE 4 body.length ++ bytesLE 4 revision ++ body
/-- Body of a media profile: its parameters by row and item of R74's table, then the further ones. DESIGN CHOICE: where an item of
the table names several values, each takes an item number of its own, in the order of the text. -/
def mediaBody (p : MediaProfile) : List Nat :=
  let n (tag v : Nat) := tlv tag (bytesLE 4 v)
  n 0x0101 p.idBytes ++ n 0x0104 p.version ++ n 0x0201 p.planes ++ n 0x0202 p.pageMain ++ n 0x0203 p.pageSpare ++
  n 0x0204 p.pagesPerBlock ++ n 0x0205 p.nominalBlocks ++ n 0x0206 p.minGood ++ n 0x0301 p.interface ++ n 0x0302 p.rate ++
  n 0x0307 p.vccq ++ n 0x0401 p.bitsPerCell ++ n 0x0403 (if p.archivalDefined then 2 else 1) ++ n 0x0501 p.readNs ++ n 0x0502 p.pslcReadNs ++ n 0x0503 p.coarseNs ++
  n 0x0504 p.fineStdNs ++ n 0x0505 p.fineArchNs ++ n 0x0506 p.pslcProgNs ++ n 0x0507 p.eraseNs ++ n 0x0508 p.suspendNs ++
  n 0x0207 (p.pageBit + 256 * p.planeBit + 65536 * p.blockBit + 16777216 * p.lunBit) ++ n 0x0601 (bitmap p.suspendable) ++
  tlv 0x0602 (p.maxSuspends.flatMap (bytesLE 2)) ++ n 0x0701 p.passesPerWl ++ n 0x0702 p.pagesPerWl ++ n 0x0703 p.passLag ++
  n 0x0802 p.retryEntries ++ n 0x0804 p.trackingLimit ++ n 0x0901 p.ldpcCode ++ n 0x0A01 p.sysBlocks ++
  n 0x0B01 p.endurance ++ n 0x0B02 p.endurancePslc ++ tlv 0x0B03 (bytesLE 2 (p.refTemp16 % 65536).toNat) ++
  n 0x0B04 p.refreshStdDays ++ n 0x0B05 p.refreshArchDays ++ n 0x0B06 p.rewriteBits ++ p.others.flatMap fun (t, v) => tlv t v

end Sys2Proof.Machine
end

