-- ==== Sys2Proof/Machine/Posting.lean ====
section
/-! DEFINITION. Completion of NVMe commands: the status codes, the release of a finished command, its delivery to host memory and
read-back (R402, R403), the posting of its completion entry (R395, R442) and interrupts (R398), under a pause (R406) and under
constant-time completion (R196). -/

namespace Sys2Proof.Machine

/-- An NVMe status: code type, code, Do Not Retry. -/
structure NvmeStatus where
  sct : Nat := 0
  sc : Nat := 0
  dnr : Bool := true
  deriving DecidableEq, Repr, Inhabited

/-! Status codes. The numbers of code types 0 to 2 are NVMe's (notes/assumptions/8.md); those of code type 7 are R102, R298, R299,
R307 and R399. -/

def stOk : NvmeStatus := ⟨0, 0x00, false⟩
def stInvalidOpcode : NvmeStatus := ⟨0, 0x01, true⟩
def stInvalidField : NvmeStatus := ⟨0, 0x02, true⟩
def stDataTransfer : NvmeStatus := ⟨0, 0x04, true⟩
def stPowerLoss : NvmeStatus := ⟨0, 0x05, false⟩
def stInternal : NvmeStatus := ⟨0, 0x06, true⟩
def stAborted : NvmeStatus := ⟨0, 0x07, false⟩
def stSqDeleted : NvmeStatus := ⟨0, 0x08, false⟩
def stInvalidNs : NvmeStatus := ⟨0, 0x0B, true⟩
def stSequence : NvmeStatus := ⟨0, 0x0C, true⟩
def stBadChain : NvmeStatus := ⟨0, 0x0F, true⟩
def stSanitize : NvmeStatus := ⟨0, 0x1D, false⟩
def stWriteProtected : NvmeStatus := ⟨0, 0x20, true⟩
def stLbaRange : NvmeStatus := ⟨0, 0x80, true⟩
def stCapacity : NvmeStatus := ⟨0, 0x81, true⟩
def stNotReady : NvmeStatus := ⟨0, 0x82, false⟩
def stCqInvalid : NvmeStatus := ⟨1, 0x00, true⟩
def stQid : NvmeStatus := ⟨1, 0x01, true⟩
def stQueueSize : NvmeStatus := ⟨1, 0x02, true⟩
def stAerLimit : NvmeStatus := ⟨1, 0x05, true⟩
def stVector : NvmeStatus := ⟨1, 0x08, true⟩
def stLogPage : NvmeStatus := ⟨1, 0x09, true⟩
def stFormat : NvmeStatus := ⟨1, 0x0A, true⟩
def stQueueDeletion : NvmeStatus := ⟨1, 0x0C, true⟩
def stNotChangeable : NvmeStatus := ⟨1, 0x0E, true⟩
def stNsCapacity : NvmeStatus := ⟨1, 0x15, true⟩
def stNsId : NvmeStatus := ⟨1, 0x16, true⟩
def stNsAttached : NvmeStatus := ⟨1, 0x18, true⟩
def stNsPrivate : NvmeStatus := ⟨1, 0x19, true⟩
def stNsNotAttached : NvmeStatus := ⟨1, 0x1A, true⟩
def stCtrlList : NvmeStatus := ⟨1, 0x1C, true⟩
def stCtrlId : NvmeStatus := ⟨1, 0x1F, true⟩
def stSecondaryState : NvmeStatus := ⟨1, 0x20, true⟩
def stResourceCount : NvmeStatus := ⟨1, 0x21, true⟩
def stResourceId : NvmeStatus := ⟨1, 0x22, true⟩
def stBoundary : NvmeStatus := ⟨1, 0xB8, true⟩
def stZoneFull : NvmeStatus := ⟨1, 0xB9, true⟩
def stZoneReadOnly : NvmeStatus := ⟨1, 0xBA, true⟩
def stZoneOffline : NvmeStatus := ⟨1, 0xBB, true⟩
def stZoneWrite : NvmeStatus := ⟨1, 0xBC, true⟩
def stTooManyActive : NvmeStatus := ⟨1, 0xBD, true⟩
def stTooManyOpen : NvmeStatus := ⟨1, 0xBE, true⟩
def stZoneTransition : NvmeStatus := ⟨1, 0xBF, true⟩
def stUnrecovered : NvmeStatus := ⟨2, 0x81, true⟩
def stGuard : NvmeStatus := ⟨2, 0x82, true⟩
def stAppTag : NvmeStatus := ⟨2, 0x83, true⟩
def stRefTag : NvmeStatus := ⟨2, 0x84, true⟩
def stCompare : NvmeStatus := ⟨2, 0x85, true⟩
def stUnwritten : NvmeStatus := ⟨2, 0x87, true⟩
def stClassUnavailable : NvmeStatus := ⟨7, 0x80, true⟩
def stClassNotPermitted : NvmeStatus := ⟨7, 0x81, true⟩
def stKeyUnavailable : NvmeStatus := ⟨7, 0x82, true⟩
def stCipherFault : NvmeStatus := ⟨7, 0x83, true⟩
def stKeyLimit : NvmeStatus := ⟨7, 0x84, true⟩
def stTagFailure : NvmeStatus := ⟨7, 0x85, true⟩
def stHopLimit : NvmeStatus := ⟨7, 0x87, true⟩
def stMirrorUnavailable : NvmeStatus := ⟨7, 0x86, true⟩
def stResetDuringWrite : NvmeStatus := ⟨7, 0x88, false⟩

/-- A function is paused by one of the causes of R406. -/
def Ctrl.paused (c : Ctrl) : Bool := c.pBme || c.pPme || c.pCmd
/-- `HPHY` is furled, or an entry in progress asks it to furl. -/
def State.hphyPause (s : State) : Bool :=
  s.pwr.furled.contains 72 || s.pwr.entries.any fun e => e.asked.isSome && ! e.waking && (match e.kind with
    | .hostLink _ | .crowsNest | .powerDown => true
    | .mast _ | .port _ | .halyard _ => false)
def State.paused (s : State) (f : Nat) (port1 : Bool) : Bool := s.hphyPause || (s.ctrl f port1).paused
/-- Feature of a controller, with its default where nothing has set it. -/
def Ctrl.feature (c : Ctrl) (fid dflt : Nat) : Nat := ((c.features.find? (·.1 == fid)).map (·.2)).getD dflt
/-- DULBE (Error Recovery feature 05h, bit 16). -/
def Ctrl.dulbe (c : Ctrl) : Bool := bit (c.feature 0x05 0) 16
/-- MSI-X vectors that may fire: the vector allocation (R315 row 2); the port 1 function has 32, and port 0 then 33 (R387). -/
def State.vectors (s : State) (f : Nat) (port1 : Bool) : Nat :=
  if f == 0 then (if s.dual then (if port1 then 32 else 33) else 65) else (s.fn f).alloc.getD 1 0

/-- Send the message of a vector, or set its PBA bit while the vector is masked or the function is paused (R398, R406). -/
def State.interrupt (s : State) (f : Nat) (port1 : Bool) (v : Nat) : State :=
  if s.vectors f port1 ≤ v then s
  else if s.paused f port1 || (s.ctrl f port1).masked.contains v then
    s.modCtrl f port1 fun c => { c with pba := dedupN (c.pba ++ [v]) }
  else s.emit (.msix f v)

/-- Rings of a function (R425): function 0 has two, every other function ring 0. -/
def State.modRing (s : State) (fn r : Nat) (f : Ring → Ring) : State := s.modFn fn fun x => { x with rings := x.rings.modify r f }
def State.ring (s : State) (fn r : Nat) : Ring := (s.fn fn).rings.getD r {}
/-- Ring 1 of function 0 is in the window of the port 1 function in dual mode (R425). -/
def State.ringPort1 (s : State) (fn r : Nat) : Bool := s.dual && fn == 0 && r == 1
/-- Records are visible: the ring's message, at most once per frame (R403, R427). -/
def State.ringVisible (s : State) (fn r : Nat) (due : Bool) : State :=
  let x := s.ring fn r
  if ! due || ! x.enabled || x.rang == some s.clk.frame then s
  else (s.modRing fn r fun x => { x with rang := some s.clk.frame }).interrupt fn (s.ringPort1 fn r) x.vector
/-- A ring write failed: the ring is disabled and keeps its counters (R429). -/
def State.ringFailed (s : State) (fn r : Nat) : State :=
  if ! (s.ring fn r).enabled then s
  else (s.modRing fn r fun x => { x with enabled := false, failedWrite := true }).raise 489 1 2 [fn, r]

/-- Frames of the coalescing time (R398): the feature's time in 100 µs, as whole frames rounded up. -/
def Ctrl.coalesceFrames (c : Ctrl) : Nat := ceilDiv (c.feature 0x08 0 / 256 % 256 * 100) 16
/-- Coalescing applies to a vector: it is not disabled in Interrupt Vector Configuration (09h). -/
def Ctrl.coalesced (c : Ctrl) (v : Nat) : Bool := decide (0 < c.coalesceFrames) && ! c.features.any fun x => x == (0x09, 0x10000 + v)

/-- Interrupt of a posted entry, now or after the coalescing time. -/
def State.cqInterrupt (s : State) (f : Nat) (port1 : Bool) (cq : Cq) : State :=
  if ! cq.ien then s
  else
    let c := s.ctrl f port1
    if cq.qid != 0 && c.coalesced cq.vector then
      if c.coalesce.any (·.1 == cq.vector) then s
      else s.modCtrl f port1 fun c => { c with coalesce := c.coalesce ++ [(cq.vector, s.clk.frame + c.coalesceFrames)] }
    else s.interrupt f port1 cq.vector

/-- Write a completion entry to a completion queue and interrupt. -/
def State.postEntry (s : State) (f : Nat) (port1 : Bool) (e : Cqe) : State :=
  let c := s.ctrl f port1
  match c.sqs.find? (·.qid == e.sq) with
  | none => s
  | some q =>
    match c.cqs.find? (·.qid == q.cq) with
    | none => s
    | some cq =>
      let cq' := { cq with tail := (cq.tail + 1) % max 1 cq.size, entries := cq.entries ++ [e] }
      (s.modCtrl f port1 fun c => { c with cqs := updIf (·.qid == cq.qid) (fun _ => cq') c.cqs }).cqInterrupt f port1 cq'

/-- Notices that Asynchronous Event Configuration (0Bh) turns off, by bit: Namespace Attribute Notices 8, Zone Descriptor Changed 27. -/
def Ctrl.noticeOff (c : Ctrl) (info : Nat) : Bool :=
  let on := c.feature 0x0B 0x080001FF
  (info == 0x040002 && ! bit on 8) || (info == 0xBFEF02 && ! bit on 27)
/-- An asynchronous event (R396, R405, R99): completes an outstanding request or waits for one. -/
def State.asyncEvent (s : State) (f : Nat) (port1 : Bool) (info : Nat) : State :=
  if (s.ctrl f port1).noticeOff info then s else
  match (s.ctrl f port1).aer with
  | [] => s.modCtrl f port1 fun c => { c with aen := dedupN (c.aen ++ [info]) }
  | cid :: rest =>
    (s.modCtrl f port1 fun c => { c with aer := rest }).postEntry f port1 { sq := 0, cid := cid, sct := 0, sc := 0, dnr := false, result := info }

/-- Error Information log entry, newest first, 64 kept (R393). -/
def State.errorLog (s : State) (f : Nat) (port1 : Bool) (status what : Nat) : State :=
  s.modCtrl f port1 fun c => { c with errors := ((status, what) :: c.errors).take 64 }

/-- Read-return and parity-class buffers a command reserved at admission (R439). -/
def Cmd.readBufs (c : Cmd) : Nat := if c.admitted.isSome then c.blocks.length else 0
def Cmd.parityBufs (c : Cmd) : Nat := c.parity

/-- The counters of R195 at the posting of a bounded read: within its bound, or exceeded by its cause; neither where its condition has come to
give no bound (R193). A die operation beyond its maximum, which R192 excludes, is an overrun. -/
def Counters.ended (k : Counters) (c : Cmd) (frame : Nat) : Counters :=
  if ! c.bounded || c.bound == 0 then k
  else if frame ≤ c.arrival + c.bound - 1 then { k with within := k.within + 1 }
  else if c.xLadder then { k with ladder := k.ladder + 1 }
  else if c.xCondition && ! c.xOverrun then { k with condition := k.condition + 1 }
  else { k with overrun := k.overrun + 1 }

/-- The completion frames of constant-time completion (R196): A + m × T − 1. -/
def constFrame (a t frame : Nat) : Bool := decide (0 < t) && decide (a ≤ frame) && (frame + 1 - a) % t == 0 && decide (a < frame + 1)
/-- m of a posting frame under R196. -/
def constM (a t frame : Nat) : Nat := if t == 0 then 1 else (frame + 1 - a) / t
/-- Post a finished command's completion entry and release it (R442). -/
def State.post (s : State) (c : Cmd) : State :=
  let s := s.modIo fun h => { h with cmds := h.cmds.filter (·.id != c.id), released := h.released ++ h.cmds.filter (·.id == c.id) }
  let s := s.modFn c.fn fun f => { f with counters := f.counters.ended c s.clk.frame }
  s.postEntry c.fn c.port1 { sq := c.sq, cid := c.cid, sct := c.sct, sc := c.sc, dnr := c.dnr, result := c.result }

/-- The commands whose slots and buffers are in use: those not posted, and those posted in this frame (R58). -/
def State.charged (s : State) : List Cmd := s.io.cmds ++ s.io.released

/-- A command whose data are visible in host memory posts, unless its function is paused (R406). -/
def State.tryPost (s : State) (id : Nat) : State :=
  match s.cmd? id with
  | none => s
  | some c =>
    if s.paused c.fn c.port1 then s.modCmd id fun c => { c with phase := .ready }
    else s.post c

/-- Number of a new outstanding request of the DMA engine (R404). -/
def State.request (s : State) (r : DmaReq) : State :=
  s.modIo fun h => { h with reqs := h.reqs ++ [{ r with req := h.nextReq, issued := s.clk.frame }], nextReq := h.nextReq + 1 }

/-- Write a read's served blocks, or a command's data structure, to host memory and issue the read-back (R402, R403); a command that writes nothing posts. -/
def State.deliver (s : State) (id : Nat) (data : List HostBlock) : State :=
  match s.cmd? id with
  | none => s
  | some c =>
    if data.isEmpty && c.fields.isEmpty || c.delivered then s.tryPost id
    else if s.paused c.fn c.port1 then s.modCmd id fun c => { c with phase := .ready }
    else
      let s := each data (fun s (lba, b, pi) => s.emit (.hostWrite c.fn c.cid lba b pi)) s
      let s := if c.fields.isEmpty then s else s.emit (.data c.fn c.cid c.fields)
      (s.modCmd id fun c => { c with phase := .readBack, delivered := true }).request
        { req := 0, fn := c.fn, port1 := c.port1, cmd := id, what := .readBack, issued := 0 }

/-- Constant-time completion delays a command (R196): an I/O command of a function for which it is on and that does not drain (R324). -/
def State.delays (s : State) (c : Cmd) : Bool := (s.fn c.fn).contract.constantTime && ! (s.fn c.fn).draining && c.sq != 0
/-- A command has its status: constant-time completion makes it wait for its release frame, otherwise it is delivered. `data`
are the blocks it writes to host memory. I/O commands only wait (R196). -/
def State.conclude (s : State) (id : Nat) (st : NvmeStatus) (data : List HostBlock := []) (result : Nat := 0)
    (errLba : Option Nat := none) : State :=
  match s.cmd? id with
  | none => s
  | some c =>
    let s := s.modCmd id fun c =>
      { c with sct := st.sct, sc := st.sc, dnr := st.dnr, result := result, errorLba := errLba, readyFrame := s.clk.frame }
    let s := if st.sc != 0 || st.sct != 0 then
        match errLba with
        | some l => s.errorLog c.fn c.port1 (st.sct * 256 + st.sc) l
        | none => s
      else s
    if s.delays c then s.modCmd id fun c => { c with phase := .ready }
    else s.deliver id data

/-- Requests of a command that is no longer there are completed on the link and their data dropped (R325). -/
def State.dropReqs (s : State) (id : Nat) : State :=
  s.modIo fun h => { h with reqs := updIf (fun r => r.cmd == id) (fun r => { r with what := .dropped, cmd := 0 }) h.reqs }
/-- A command ended by a reset or a power failure: it is removed without a completion entry, and its buffers are released. -/
def State.dropCmd (s : State) (c : Cmd) : State :=
  let s := s.modIo fun h => { h with cmds := h.cmds.filter (·.id != c.id) }
  s.dropReqs c.id
/-- A squashed read none of whose media entries is left (R323). -/
def State.dropSquashed (s : State) (id : Nat) : State :=
  match s.cmd? id with
  | none => s
  | some c => if c.phase == .squashed && ! c.blocks.any (fun b => b.phase == 0) then s.dropCmd c else s

end Sys2Proof.Machine
end

