-- ==== Sys2Proof/Machine/Cipher.lean ====
section
/-! DEFINITION. Sealing and opening of blocks (R248 to R252, R294): the key of a key reference, additional authenticated data,
the sealed form of a block and the plaintext it opens to; and the header of an NVMe command. -/

namespace Sys2Proof.Machine

/-- Key bytes and salt of a key reference, from the slot that holds it, its old key while Draining (R252, R294). -/
def State.keyBytes (s : State) (ref : Nat) : List Nat :=
  if ref == 0 then List.replicate 32 0
  else match s.keys.slots.find? fun k => k.keyRef == ref with
    | some k => bytesLE 32 k.key.toNat
    | none => List.replicate 32 0
def State.salt (s : State) (ref : Nat) : Nat :=
  match s.keys.register.find? (·.number == ref) with
  | some e => e.salt.toNat
  | none => 0
/-- Additional authenticated data of a block: identity and protection information (R249, R251). -/
def State.aad (s : State) (b : Stored) : List Nat :=
  let (off, zone) := match s.ns? b.nsid with
    | some n => if n.conv then (b.lba, 0x0FFFFFFF) else (b.lba % max 1 (n.zoneSize s.profile), b.lba / max 1 (n.zoneSize s.profile))
    | none => (b.lba, 0)
  identityBytes b.gen off zone (markerCode b.marker) ++ piBytes b.appTag b.refTag
/-- The sealed form of a block under its sealing key (R251): ciphertext and tag. -/
def State.sealOf (s : State) (b : Stored) (iv : Nat) : List Nat × List Nat :=
  gcmSeal (bytesLE 32 b.sealKey.toNat) (ivBytes (s.salt b.keyRef) iv) (s.aad b) (blockBytes b.payload)
/-- The 4,160 bytes of a stored block (R248), once sealed. -/
def State.storedBytes (s : State) (b : Stored) : List Nat :=
  let payload := if b.marker == .loss then blockBytes b.payload
    else if b.marker != .data then List.replicate 4096 0
    else if b.imported then blockBytes b.payload else (s.sealOf b b.iv).1
  sealedBytes payload (bytesLE 16 b.tag.toNat) b.iv ((s.aad b).take 16) (piBytes b.appTag b.refTag)

/-- The next counter value of a mast's reservations of a key reference (R300). -/
def Mast.takeIv (m : Mast) (ref : Nat) : Option (Nat × Mast) :=
  match m.iv.find? fun r => r.keyRef == ref && decide (r.next < r.stop) with
  | none => none
  | some r => some (r.next, { m with iv := m.iv.map fun x => if x == r then { x with next := x.next + 1 } else x })
/-- A block as mast `m` seals it with counter value `v`. -/
def State.sealed (s : State) (b : Stored) (m v : Nat) : Stored := { b with
  sealed := true, iv := v, tag := BitVec.ofNat 128 (ofBytesLE (s.sealOf b v).2), mast := m
  place := if b.place == .openRow then .held else b.place }
/-- The engine that seals a mast's next unit: its own, or after two faults that of the lowest-numbered other active mast (R307). -/
def State.sealer (s : State) (m : Nat) : Nat :=
  if (s.mast m).sealFaults < 2 then m
  else (s.mastIds.find? fun k => k != m && (s.mast k).state == .active).getD m
/-- Seal the arrived data blocks that satisfy `p` and are not sealed yet, each in the engine of the mast on which it counts, with the
next counter value of that mast's reservation; a block without a value stays unsealed (R150, R152). -/
def State.sealHeld (s : State) (p : Stored → Bool) : State :=
  let due := s.media.blocks.filter fun b => p b && b.marker == .data && b.arrived && ! b.sealed && ! b.imported &&
    (s.mast b.mast).state == .active
  each due (fun s b =>
    match (s.mast (s.sealer b.mast)).takeIv b.keyRef with
    | none => s
    | some (v, k) =>
      (s.modMast (s.sealer b.mast) fun _ => k).modBlocks (fun c => c.nsid == b.nsid && c.lba == b.lba && c.seg == b.seg) fun c =>
        s.sealed { c with sealKey := BitVec.ofNat 256 (ofBytesLE (s.keyBytes c.keyRef)) } c.mast v) s

/-- The plaintext of a stored block: zeros for fill, void and loss blocks; a block that came sealed from a partner is opened. -/
def State.plain (s : State) (b : Stored) : Block :=
  if b.marker != .data then 0
  else if b.imported then blockOf (gcmOpen (s.keyBytes b.keyRef) (ivBytes (s.salt b.keyRef) b.iv) (blockBytes b.payload))
  else b.payload

/-- Header of an NVMe command. -/
def nvmeHdr : Instr → Option NvmeHdr
  | .read h _ | .write h _ | .zoneAppend h _ | .writeZeroes h _ | .flush h | .compare h _ _ | .verify h _
  | .datasetManagement h _ _ | .closeZone h _ _ | .finishZone h _ _ | .openZone h _ _ | .resetZone h _ _ | .offlineZone h _ _
  | .setZoneDescriptorExtension h _ _ _ | .reportZones h _ _ _ _ | .extendedReportZones h _ _ _ _ | .invalidCommandOpcode h _
  | .identify h _ _ | .getLogPage h _ | .setFeatures h _ _ | .getFeatures h _ | .setFeaturesTimestamp h _
  | .setFeaturesPowerManagement h _ | .createIoSubmissionQueue h _ _ _ _ _ | .createIoCompletionQueue h _ _ _ _ _ _
  | .deleteIoSubmissionQueue h _ | .deleteIoCompletionQueue h _ | .abort h _ _ | .asynchronousEventRequest h
  | .namespaceManagementCreate h _ _ _ _ _ | .namespaceManagementDelete h | .namespaceAttachmentAttach h _
  | .namespaceAttachmentDetach h _ | .secondaryControllerOnline h _ | .secondaryControllerOffline h _
  | .secondaryControllerAssign h _ _ _ | .formatNvm h _ _ | .cryptoErase h => some h
  | _ => none

end Sys2Proof.Machine
end

