-- ==== Sys2Proof/Machine/Packets.lean ====
section
/-! DEFINITION. Sending on Halyard (R334 to R337, R339, R343 to R345, R347, R370): which packets a link state carries, sequences and
credits of the control channel, the paths to a partner, and end-to-end control messages. -/

namespace Sys2Proof.Machine

/-! ## Links (R347) -/

/-- Packet types with a place of their own at the receiver, or sent before credits are advertised (R339, R348). -/
def freePacket (t : Nat) : Bool := t == 0x01 || t == 0x03 || t == 0x04 || t == 0x05 || t == 0x06
/-- Traffic of a link state (R347); a request that comes on a Known link is taken, and answered with a Refuse (R350). -/
def carries (st : LinkState) (t : Nat) : Bool :=
  match st with
  | .down | .training => false
  | .hailing => t == 0x01 || t == 0x03 || t == 0x04 || t == 0x0A
  | .authenticating => t == 0x02 || t == 0x03 || t == 0x04
  | .known => t != 0x30
  | .paired => true
  | .quarantined => t == 0x0C
/-- A link under a session that passes packets: Known or Paired. -/
def HPort.up (p : HPort) : Bool := p.state == .known || p.state == .paired

/-- Number a run of packets and keep it until it is acknowledged (R337). -/
def HPort.push (p : HPort) (k : TxPkt) : HPort :=
  { p with txq := p.txq ++ [{ k with seq := p.txSeq }], txSeq := p.txSeq + k.count, sentNow := p.sentNow + k.count }
/-- Put a packet on the line of a port. -/
def State.put (s : State) (port : Nat) (k : TxPkt) : State :=
  (s.modHport port (·.push k)).emit (.halyard port k.ptype (k.label :: k.hops :: k.args))
/-- Send a control packet: at once while the port holds a credit, else when credits return (R339). -/
def State.tx (s : State) (port : Nat) (k : TxPkt) : State :=
  let p := s.hport port
  if ! carries p.state k.ptype then s
  else if freePacket k.ptype then s.put port k
  else if p.wait.isEmpty && decide (k.count ≤ p.ctlCredits) then
    (s.modHport port fun p => { p with ctlCredits := p.ctlCredits - k.count }).put port k
  else s.modHport port fun p => { p with wait := p.wait ++ [k] }
/-- Send the waiting control packets for which credits are there, oldest first. -/
def State.flushPort : Nat → Nat → State → State
  | 0, _, s => s
  | fuel + 1, port, s =>
    let p := s.hport port
    match p.wait with
    | [] => s
    | k :: rest =>
      if p.ctlCredits < k.count then s
      else flushPort fuel port <|
        (s.modHport port fun p => { p with wait := rest, ctlCredits := p.ctlCredits - k.count }).put port k
/-- What an Ack and a Nak name while no packet of the numbering has been accepted: the sequence before 0. -/
def noneAccepted : Nat := 2 ^ 64 - 1
/-- The last sequence accepted (R337). -/
def HPort.lastAccepted (p : HPort) : Nat := if p.rxNext == 0 then noneAccepted else p.rxNext - 1
/-- A Nak, at most one a frame on a link (R337, R339). -/
def State.sendNak (s : State) (port reason : Nat) : State :=
  let p := s.hport port
  if p.nakSent then s
  else (s.modHport port fun p => { p with nakSent := true }).tx port { seq := 0, ptype := 0x04, args := [p.lastAccepted, reason] }

/-! ## Paths (R343 to R345) -/

/-- A path to a partner: the port and label it leaves on, its latency in ns and its hops. -/
structure Path where
  port : Nat
  label : Nat
  latency : Nat
  hops : Nat
  deriving DecidableEq, Repr, Inhabited

/-- One hop: the link's flight time plus 1.6 µs (R344). -/
def HPort.hopNs (p : HPort) : Nat := p.flight + 1600
/-- The paths to a partner: a Known or Paired link to it, and the labels that end here. -/
def State.pathsTo (s : State) (fp : Digest) : List Path :=
  ((List.range 3).filterMap fun i =>
    let p := s.hport i
    if p.up && p.neighbour == some fp then some ⟨i, 0, p.hopNs, 0⟩ else none) ++
  s.hal.labels.filterMap fun l =>
    if l.outPort.isNone && l.partner == fp then some ⟨l.inPort, l.inLabel, l.latency, l.hops⟩ else none
/-- Lowest latency, then fewer hops, then the lower port (R345). -/
def bestOf (l : List Path) : Option Path := minBy (fun p => (p.latency * 2 ^ 32 + p.hops) * 4 + p.port) l
def State.bestPath (s : State) (fp : Digest) : Option Path := bestOf (s.pathsTo fp)
/-- The path latency budget in ns (R344, R360). -/
def State.pathBudget (s : State) : Nat := s.ctlValue ctlLatencyBudget * 16000
/-- A partner whose record is Paired. -/
def State.isPaired (s : State) (fp : Digest) : Bool := s.hal.partners.any fun p => p.fp == fp && p.state == .paired
/-- A pairing record exists (R350). -/
def State.hasPairing (s : State) (fp : Digest) : Bool := s.hal.pairings.any (·.1 == fp)

/-- Send an end-to-end control message (R370, R371) to a Paired partner over the best path; `packets` is the number of type 0x10
packets that it takes. Without a path nothing is sent: the operation resumes under R377. -/
def State.sendOp (s : State) (fp : Digest) (code : Nat) (args : List Nat) (packets : Nat := 1) : State :=
  match s.bestPath fp with
  | none => s
  | some p => if s.isPaired fp then s.tx p.port { seq := 0, ptype := 0x10, label := p.label, count := packets, args := code :: args } else s

end Sys2Proof.Machine
end

