-- ==== Sys2Proof/Machine/Zones.lean ====
section
/-! DEFINITION. Zones: resources, classes, key references, home masts, segment allocation and release, transitions and the zone
management actions (R96 to R134, R231, R297, R298, R303). -/

namespace Sys2Proof

/-! ## States and resources (R109, R122) -/

/-- Zone State value (R109). -/
def ZoneState.value : ZoneState → Nat
  | .empty => 0x1
  | .implicitOpen => 0x2
  | .explicitOpen => 0x3
  | .closed => 0x4
  | .readOnly => 0xD
  | .full => 0xE
  | .offline => 0xF
/-- The state that a record's value names (R99, R260). -/
def ZoneState.ofValue : Nat → ZoneState
  | 0x2 => .implicitOpen
  | 0x3 => .explicitOpen
  | 0x4 => .closed
  | 0xD => .readOnly
  | 0xE => .full
  | 0xF => .offline
  | _ => .empty
/-- Holds an active resource; holds an open resource (R109). -/
def ZoneState.active : ZoneState → Bool
  | .implicitOpen | .explicitOpen | .closed => true
  | .empty | .readOnly | .full | .offline => false
def ZoneState.isOpen : ZoneState → Bool
  | .implicitOpen | .explicitOpen => true
  | .empty | .closed | .readOnly | .full | .offline => false

end Sys2Proof

namespace Sys2Proof.Machine

def Namespace.activeZones (n : Namespace) : Nat := countIf (fun z => z.state.active) n.zones
def Namespace.openZones (n : Namespace) : Nat := countIf (fun z => z.state.isOpen) n.zones
/-- Zones of a namespace that are Empty, listed or not. -/
def Namespace.emptyZones (n : Namespace) : Nat := n.zoneCount - countIf (fun z => z.state != .empty) n.zones

/-! ## Keys of a namespace (R297, R298, R303) -/

/-- Current key reference, none when the namespace has none (R297). -/
def State.currentKey (s : State) (n : Namespace) : Option Nat :=
  match n.bound with
  | .none => some 0
  | .lapsed => none
  | .slot k =>
    let sl := s.slot k
    match sl.owner with
    | some f =>
      if n.attached.contains f && sl.keyRef != 0xFFFF && sl.state != .empty && sl.state != .draining then some sl.keyRef else none
    | none => none
/-- A slot of an attached function that holds a key reference, in a state that `ok` admits. -/
def State.slotHolding (s : State) (n : Namespace) (ref : Nat) (ok : SlotState → Bool) : Option Slot :=
  s.keys.slots.find? fun sl => sl.keyRef == ref && ok sl.state && (match sl.owner with
    | some f => n.attached.contains f
    | none => false)
/-- Limit of a key reference's counter: 2^48, or its export ceiling (R303, R365). -/
def KeyRef.limit (k : KeyRef) : Nat := min (2 ^ 48) (k.ceiling.getD (2 ^ 48))
/-- Blocks admitted under a key reference and not yet sealed (R303). -/
def State.unsealed (s : State) (ref : Nat) : Nat :=
  countIf (fun b => b.keyRef == ref && ! b.sealed && b.marker == .data) s.media.blocks
/-- The check of R298 and R303 for sealing `count` blocks under a key reference. -/
def State.sealCheck (s : State) (n : Namespace) (ref : Option Nat) (count : Nat) : Option NvmeStatus :=
  match ref with
  | none => some stKeyUnavailable
  | some 0 => none
  | some r =>
    if (s.slotHolding n r (· == .active)).isSome then
      let k := s.keyRef r
      if k.high + s.unsealed r + count ≤ k.limit then none else some stKeyLimit
    else if (s.slotHolding n r (· == .limited)).isSome then some stKeyLimit
    else some stKeyUnavailable
/-- The check of R298 for opening blocks under a key reference: Active or Limited slots decrypt (R294). -/
def State.openCheck (s : State) (n : Namespace) (ref : Nat) : Option NvmeStatus :=
  if ref == 0 then none
  else if (s.slotHolding n ref fun t => t == .active || t == .limited).isSome then none
  else some stKeyUnavailable

/-! ## Placement classes (R124 to R128) -/

/-- Width, grade and affinity set of a class as a namespace uses it; none for a class that is not defined. -/
def State.classFields (s : State) (n : Namespace) (c : Nat) : Option PClass :=
  if c ≤ 1 then some { number := c, width := n.wmax, archival := c == 1, affinity := 2 ^ s.mastN - 1 }
  else s.class? c
/-- Class that a zone leaving Empty takes: by its extension when placement-in-extension is on, else the default (R127). -/
def Namespace.zoneClass (n : Namespace) (z : Zone) : Nat :=
  let e := z.ext.toNat
  if n.pie && z.extValid && bit e 8 then e % 256 else n.cls
/-- The checks of R128 for a zone leaving Empty under class `c`: 81h before 80h. -/
def State.classCheck (s : State) (n : Namespace) (c : Nat) : Option NvmeStatus :=
  match s.classFields n c with
  | none => some stClassNotPermitted
  | some k =>
    if ! n.permitted.contains c || decide (n.wmax < k.width) then some stClassNotPermitted
    else if s.widthBarred k.width || (k.archival && ! s.profile.archivalDefined) then
      some stClassUnavailable
    else none
/-- Reported capacity of a zone (R106). -/
def State.zoneCap (s : State) (n : Namespace) (z : Zone) : Nat :=
  let w := if z.width != 0 then z.width else
    match s.classFields n (n.zoneClass z) with
    | some k => k.width
    | none => n.wmax
  zoneCapacity s.profile w n.segsPerZone

/-! ## Home masts (R128, R129) -/

/-- A zone that has a home mast. -/
def Zone.homed (z : Zone) : Bool := z.state != .empty && z.state != .offline
def State.homeZones (s : State) (m : Nat) : Nat := sumOf (fun n => countIf (fun z => z.homed && z.home == m) n.zones) s.nss
/-- Home mast for an affinity set, and whether the affinity is not in effect. -/
def State.chooseHome (s : State) (affinity : Nat) : Nat × Bool :=
  let act := s.mastIds.filter fun m => (s.mast m).state == .active
  match minBy s.homeZones (act.filter (bit affinity)) with
  | some m => (m, false)
  | none => ((minBy s.homeZones act).getD 0, true)
/-- A zone without durable trailer rows whose leaves are to be recomputed (R268). -/
def Zone.forgetLeaves (z : Zone) : Zone :=
  if z.trailer || z.state == .empty || z.state == .offline then z
  else { z with leaves := [], stale := z.state == .full || decide (0 < z.wp) }
/-- Rehome the zones of a mast that leaves active (R129, R268). -/
def State.rehome (s : State) (m : Nat) : State :=
  let zones := s.nss.flatMap fun n => (n.zones.filter fun z => z.homed && z.home == m).map fun z => (n.nsid, z.zi, z.affinity)
  each zones (fun s (nsid, zi, aff) =>
    let (h, out) := s.chooseHome aff
    s.modZone nsid zi fun z => { z.forgetLeaves with home := h, affinityOut := out }) s

/-! ## Numbers and records -/

/-- Take the next zone generation, reserving 2^16 values first when the reservation is used up (R116). -/
def State.takeGen (s : State) : Nat × State :=
  let s := if s.media.genEnd ≤ s.media.nextGen then
      (s.modMedia fun m => { m with genEnd := m.nextGen + 65536 }).log 8 (.reservation 1 0 0 s.media.nextGen (s.media.nextGen + 65536))
    else s
  (s.media.nextGen, s.modMedia fun m => { m with nextGen := m.nextGen + 1 })
/-- Take the next placement sequence (R157). -/
def State.takeSeq (s : State) : Nat × State :=
  let s := if s.media.seqEnd ≤ s.media.nextSeq then
      (s.modMedia fun m => { m with seqEnd := m.nextSeq + 65536 }).log 8 (.reservation 2 0 0 s.media.nextSeq (s.media.nextSeq + 65536))
    else s
  (s.media.nextSeq, s.modMedia fun m => { m with nextSeq := m.nextSeq + 1 })
/-- Age clock of a stripe set (R198). -/
def State.ageClock (s : State) (w g l : Nat) : AgeClock :=
  (s.media.ages.find? fun a => a.width == w && a.g == g && a.l == l).getD { width := w, g := g, l := l }
/-- UTC seconds of the archive clock, 0 while it is unset (R59). -/
def State.utc (s : State) : Nat := if s.clk.isSet then s.clk.secs else 0
/-- The zone-state record of the host-complex journal (R157). -/
def State.logZone (s : State) (nsid zi : Nat) : State :=
  let z := s.zone nsid zi
  s.log 8 (.zoneState nsid zi z.gen z.state.value z.wp)

/-- A notified transition (R99, R113): Changed Zone List and the Zone Descriptor Changed event of every attached function. -/
def State.notifyZone (s : State) (nsid zi : Nat) : State :=
  let s := s.modNs nsid fun n => { n with changed := dedupN (n.changed ++ [zi]) }
  match s.ns? nsid with
  | none => s
  | some n => each n.attached (fun s f =>
      let s := s.asyncEvent f false 0xBFEF02
      if f == 0 && s.dual then s.asyncEvent 0 true 0xBFEF02 else s) s

/-- The unbroken or broken mirror relationship at its source that covers a zone (R379). -/
def State.mirrorFor (s : State) (nsid zi : Nat) : Option Mirror :=
  s.peer.mirrors.find? fun m => m.source && ! m.ended && m.accepted && m.nsid == nsid &&
    decide (m.firstZone ≤ zi) && decide (zi < m.firstZone + m.zoneCount)

/-! ## Segments (R80, R84, R107, R231, R253) -/

/-- Allocate a segment of width `w` (R80): none when it is not obtainable. A member that is an erasure from the start takes no block: its entry in the
member table is its LUN and block 0 (DESIGN CHOICE, log 60). -/
def State.allocSegment (s : State) (proto : Segment) : Option (Nat × State) :=
  match s.chooseSet proto.width with
  | none => none
  | some (g, l) =>
    let luns := s.setLuns proto.width g l
    let (seq, s) := s.takeSeq
    let picks := luns.map fun x => if s.takesNone x then none else s.pickBlock x
    let seg := { proto with
      seq := seq, g := g, l := l, members := picks.map (·.getD 0)
      erasures := (List.range proto.width).filter fun q => (picks.getD q none).isNone
      portErasures := (List.range proto.width).filter fun q => (picks.getD q none).isNone && s.portOut (luns.getD q 0)
      stamp := (s.ageClock proto.width g l).age, utc := s.utc, poc := s.clk.poc }
    let s := each (luns.zip picks) (fun s (x, p) =>
      match p with
      | none => s
      | some b => s.modBlock x b fun e => { e with state := .allocated, erased := e.state == .free }) s
    some (seq, (s.modMedia fun m => { m with segs := m.segs ++ [seg] }).log seg.home (.allocation seq))

/-- Mark the member blocks of a segment, and those that rewrites of its members have taken, pending-erase and forget the segment (R159, R160). -/
def State.releaseSegment (s : State) (seq : Nat) : State :=
  match s.seg? seq with
  | none => s
  | some g =>
    let luns := s.setLuns g.width g.g g.l
    let s := each (luns.zip g.members).zipIdx (fun s ((x, b), q) =>
      if g.erasures.contains q || ((s.lun x).block b).state != .allocated then s
      else
        let e := (s.lun x).block b
        (s.modBlock x b fun e => { e with state := .pendingErase, erased := false }).log (mastOfLun x)
          (.blockState x b 2 e.erases)) s
    let s := each g.moves (fun s mv =>
      let x := memberLun s.mastN g.width g.g g.l mv.member
      let e := (s.lun x).block mv.block
      if e.state != .allocated then s
      else (s.modBlock x mv.block fun e => { e with state := .pendingErase, erased := false }).log (mastOfLun x) (.blockState x mv.block 2 e.erases)) s
    s.modMedia fun m => { m with
      segs := m.segs.filter (·.seq != seq), blocks := m.blocks.filter fun b => ! (b.nsid == 0 && b.seg == seq) }

/-- The segment of a zone that holds segment index `i`. -/
def State.zoneSeg (s : State) (z : Zone) (i : Nat) : Option Segment :=
  z.segs.filterMap s.seg? |>.find? (·.index == i)
/-- Segments a zone still needs for offsets `[wp, wp + count)`. -/
def State.needsSegment (s : State) (z : Zone) (width wp count : Nat) : Option Nat :=
  if count == 0 then none
  else
    let lo := wp / perSeg s.profile width
    let hi := (wp + count - 1) / perSeg s.profile width
    ((List.range (hi + 1)).filter (lo ≤ ·)).find? fun i => (s.zoneSeg z i).isNone

/-- The next `count` blocks of a zone need a new segment of a width of which none is written while masts are down (R41). -/
def State.needsBarred (s : State) (z : Zone) (count : Nat) : Bool :=
  s.widthBarred z.width && (s.needsSegment z z.width z.wp count).isSome

/-! ## Rescue blocks (R93, R145, R150, R261) -/

/-- Rescue blocks per LUN (R93). -/
def rescuePerLun (p : MediaProfile) : Nat := p.sysBlocks - 6
/-- r[m] (R145): slots of erased rescue pages, less a page of slots on each LUN of the mast. -/
def State.rescueRoom (s : State) (m : Nat) : Nat :=
  let p := s.profile
  let luns := countIf (fun x => mastOfLun x == m) s.gluns
  (luns * rescuePerLun p * pslcPages p - sumOf (fun r => r.2.2) (s.mast m).rescue) * slotsPerPage p - luns * slotsPerPage p

/-- A zone's blocks that are held in DRAM and count as dirty. -/
def State.heldOf (s : State) (nsid zi : Nat) : List Stored :=
  match s.ns? nsid with
  | none => []
  | some n =>
    if n.conv then s.media.blocks.filter fun b => b.nsid == nsid && b.dirty && b.arrived
    else
      let zs := n.zoneSize s.profile
      s.media.blocks.filter fun b => b.nsid == nsid && b.lba / zs == zi && b.dirty && b.arrived

/-- A rescue-retired record of a rescue block is written: it takes no more records (R157). -/
def State.rescueClosed (s : State) (m x b : Nat) : Bool :=
  (s.mast m).rescueRetired.contains (x, b) || (s.journal m).staged.contains (.rescueRetired x b)
/-- Write the rescue-retired record of every rescue block in which each record is obsolete (R157, R158): its block has left it by a
row-durable record, or is gone with its zone. -/
def State.retireRescue (s : State) : State :=
  each s.mastIds (fun s m => each (s.mast m).rescue (fun s (r : Nat × Nat × Nat) =>
    if s.rescueClosed m r.1 r.2.1 || s.media.blocks.any fun b => b.rlun == r.1 && b.rblk == r.2.1 then s
    else s.log m (.rescueRetired r.1 r.2.1)) s) s
/-- Program pages of a rescue block of a LUN, the one in use while it has room, else the next erased one: the block, and the state (R93, R261). -/
def State.rescuePut (s : State) (x pages : Nat) : Nat × State :=
  let p := s.profile
  let m := mastOfLun x
  let mine := (s.mast m).rescue.filter fun (r : Nat × Nat × Nat) => r.1 == x && ! s.rescueClosed m x r.2.1
  let fresh := ((s.lun x).rescueRing p).find? fun b => ! (s.mast m).rescue.any fun r => r.1 == x && r.2.1 == b
  let (b, used) := match (mine.filter fun (r : Nat × Nat × Nat) => decide (r.2.2 + pages ≤ pslcPages p)).getLast?, fresh with
    | some (_, b, u), _ => (b, u)
    | none, some b => (b, 0)
    | none, none => (0, 0)
  (b, s.modMast m fun k => { k with rescue := (k.rescue.filter fun (r : Nat × Nat × Nat) => ! (r.1 == x && r.2.1 == b)) ++ [(x, b, used + pages)] })
/-- Position of a stored block, which no other has. -/
def Stored.same (a b : Stored) : Bool := a.nsid == b.nsid && a.lba == b.lba && a.seg == b.seg && a.row == b.row && a.unit == b.unit
/-- Write blocks as rescue records with a dump identity (R150, R152, R153, R261): programs of up to 16 blocks, on the LUNs in turn; with `first`
a page of journal frames opens the run on each LUN. -/
def State.rescueRun (s : State) (luns : List Nat) (id : Nat × Nat) (first : Bool) (l : List Stored) : State :=
  if luns.isEmpty then s
  else each (List.range (ceilDiv l.length 16)) (fun s i =>
    let part := (l.drop (16 * i)).take 16
    let x := luns.getD (i % luns.length) 0
    let (b, s) := s.rescuePut x (ceilDiv part.length (slotsPerPage s.profile) + bitOf (first && decide (i < luns.length)))
    s.modBlocks (fun c => part.any c.same) fun c => { c with rlun := x, rblk := b, rid := id, unindexed := true }) s
/-- Erased pages are left in the rescue blocks of a LUN for a program and its run's first page. -/
def State.rescueFree (s : State) (x : Nat) : Bool :=
  let p := s.profile
  decide (sumOf (fun (r : Nat × Nat × Nat) => if r.1 == x then r.2.2 else 0) (s.mast (mastOfLun x)).rescue + 1 + ceilDiv 16 (slotsPerPage p) ≤
    rescuePerLun p * pslcPages p)
/-- The first LUN of a port that is in use and satisfies `ok`, on each port of a mast that is not out. -/
def State.firstLuns (s : State) (m : Nat) (ok : Nat → Bool) : List Nat :=
  (List.range 4).filterMap fun j =>
    let p := 4 * m + j
    if s.portOut (glunOf p 0) then none else ((List.range 32).map (glunOf p)).find? fun x => s.lunUsed x && ok x
/-- Blocks of a zone to be parked: held in DRAM, in no rescue record yet. -/
def State.toPark (s : State) (nsid zi : Nat) : List Stored := (s.heldOf nsid zi).filter fun b => (b.rlun, b.rblk) == (0, 0)
/-- Begin a park of a zone's held data (R150): on each mast that holds some, a rescue run is written, on one LUN of each of its ports; its index
record closes it. Unsealed blocks are sealed first. The blocks leave the dirty count when that record is durable. -/
def State.park (s : State) (nsid zi : Nat) : State :=
  let due := s.toPark nsid zi
  let s := s.sealHeld fun c => due.any fun h => h.nsid == c.nsid && h.lba == c.lba
  let held := (s.toPark nsid zi).filter (·.sealed)
  let masts := dedupN (held.map (·.mast))
  each masts (fun s m =>
    (s.rescueRun (s.firstLuns m s.rescueFree) (s.clk.poc, s.clk.frame) true (held.filter (·.mast == m))).log m (.parkEnd m nsid zi)) s |>.modZone
      nsid zi fun z => { z with parked := true }

/-! ## Log blocks (R93, R156, R257) -/

/-- LUNs that take the two copies of a journal's pages (R156): of a mast, LUNs of two of its ports; of the host complex, of the lowest-numbered
active mast and of the one numbered n div 2 or next above it, or of two ports of the only active one. -/
def State.logLuns (s : State) (j : Nat) : List Nat :=
  let ports (m : Nat) : List Nat := s.firstLuns m fun _ => true
  if j < 8 then (if (s.mast j).state == .active then (ports j).take 2 else [])
  else
    let act := s.mastIds.filter fun m => (s.mast m).state == .active
    match act.head?, act.getLast? with
    | some a, some z =>
      let b := (act.find? fun m => decide (s.mastN / 2 ≤ m)).getD z
      if a == b then (ports a).take 2 else (ports a).take 1 ++ (ports b).take 1
    | _, _ => []
/-- Write a checkpoint of a journal (R157): what was written before it is live no longer. -/
def State.checkpoint (s : State) (j : Nat) : State :=
  (s.modJournal j fun x => { x with bytes := 0, checkpoints := x.checkpoints + 1, gens := [], live := [] }).log j .checkpointEnd
/-- Append pages to the log blocks of a LUN (R93). A block that is entered again is erased first; a journal with live records in it writes a
checkpoint, and a live detached trailer in it is copied to the newest log block. -/
def State.appendLog (s : State) (x pages : Nat) : State :=
  let size := pslcPages s.profile
  let old := (s.lun x).logPages
  let new := old + pages
  let entered := ((List.range (new / max 1 size + 1)).filter fun k => decide (old ≤ k * size) && decide (k * size < new) && decide (4 ≤ k))
  let s := each entered (fun s k =>
    let gone := (k - 3) * size
    let due := (List.range 9).filter fun j => (s.journal j).live.any fun e => e.1 == x && decide (e.2 < gone)
    let s := each due State.checkpoint s
    let s := s.modNss fun l => l.map fun n => { n with zones := n.zones.map fun z =>
      { z with trailerAt := z.trailerAt.map fun e => if e.1 == x && decide (e.2 < gone) then (x, new) else e } }
    s.modBlock x (((s.lun x).logRing s.profile).getD (k % 4) 0) fun b => { b with state := .system, erases := b.erases + 1 }) s
  s.modLun x fun l => { l with logPages := new }
/-- A page of a journal is programmed, twice (R156). -/
def State.journalPage (s : State) (j : Nat) : State :=
  each (s.logLuns j) (fun s x =>
    let at_ := (s.lun x).logPages
    let s := s.appendLog x 1
    s.modJournal j fun y => { y with live := if y.live.any (·.1 == x) then y.live else y.live ++ [(x, at_)] }) s
/-- A new version of the directory of a LUN (R257): it is appended to the directory block in use, or, when that is full, to the other one, which
is erased first. -/
def State.appendDirectory (s : State) (x : Nat) : State :=
  let size := pslcPages s.profile
  let old := (s.lun x).dirPages
  let s := if old % max 1 size == 0 && decide (2 * size ≤ old) then
      s.modBlock x (((s.lun x).directory s.profile).getD (old / max 1 size % 2) 0) fun b => { b with state := .system, erases := b.erases + 1 }
    else s
  s.modLun x fun l => { l with dirPages := old + 1 }
/-- The two copies of a detached trailer of `blocks` blocks in the system blocks of a mast, on different ports (R232, R256). -/
def State.detachTrailer (s : State) (nsid zi m blocks : Nat) : State :=
  each (s.logLuns m) (fun s x =>
    let at_ := (s.lun x).logPages
    (s.appendLog x (ceilDiv blocks (slotsPerPage s.profile))).modZone nsid zi fun z => { z with trailerAt := z.trailerAt ++ [(x, at_)] }) s

/-! ## Transitions -/

/-- Change a zone's state with its journal record; a zone that leaves an open state is parked (R150). -/
def State.setZone (s : State) (nsid zi : Nat) (into : ZoneState) : State :=
  let z := s.zone nsid zi
  let s := (s.modZone nsid zi fun z => { z with state := into }).logZone nsid zi
  if z.state.isOpen && ! into.isOpen then s.park nsid zi else s

/-- A zone leaves Empty (R116, R126, R129, R297): it takes the next generation, its class's fields, a home mast and the current
key reference, 0 where there is none (DESIGN CHOICE, log 60); a mirrored zone is opened at the partner (R379). -/
def State.leaveEmpty (s : State) (n : Namespace) (zi : Nat) (c : Nat) (into : ZoneState) : State :=
  match s.classFields n c with
  | none => s
  | some k =>
    let (gen, s) := s.takeGen
    let (home, out) := s.chooseHome k.affinity
    let key := (s.currentKey n).getD 0
    let mir := s.mirrorFor n.nsid zi
    let s := s.modZone n.nsid zi fun z => { z with
      state := into, cls := c, width := k.width, archival := k.archival, affinity := k.affinity, gen := gen, keyRef := key,
      home := home, affinityOut := out, wp := 0, written := 0, segs := [], zfc := false, fixity := .unchecked, leaves := [],
      trailer := false, detached := false, stale := false, fullDurable := false, parked := false,
      mirror := mir.map (·.ident) }
    let s := s.logZone n.nsid zi
    match mir with
    | none => s
    | some m =>
      let s := if key == 0 then s else s.modKeyRef key fun k => { k with exported := true }
      (s.modMirror m.ident fun m => { m with zones := m.zones ++ [{ zone := zi, gen := gen }] }).sendOp m.other 0x10 [m.ident, zi, gen, 0, key]

/-- Return a zone to Empty, or take it Offline, at the commit of its map record (R115, R227): its data, ledger entries and
marker go, its segments become pending-erase, writes that are not yet kept end with 88h, and kept ones succeed. -/
def State.commitRelease (s : State) (nsid zi gen : Nat) (into : ZoneState) : State :=
  match s.ns? nsid with
  | none => s
  | some n =>
    let z := n.zone zi
    if z.gen != gen || z.state == .empty || z.state == .offline then s
    else
      let zs := n.zoneSize s.profile
      let lo := zi * zs
      let inZone (x lba : Nat) : Bool := x == nsid && decide (lo ≤ lba) && decide (lba < lo + zs)
      let here := s.io.cmds.filter fun c => c.phase == .running && (match c.range with
        | some (x, l, _) => inZone x l
        | none => false)
      let s := each here (fun s c =>
        if c.waiting.isEmpty then s.conclude c.id stOk [] c.result
        else ((s.dropReqs c.id).modCmd c.id fun c => { c with waiting := [] }).conclude c.id stResetDuringWrite) s
      let s := each (dedupN (z.segs ++ z.segs.filterMap fun q => (s.seg? q).bind (·.dest))) State.releaseSegment s
      let s := s.dropBlocks fun b => inZone b.nsid b.lba
      let s := s.modMedia fun m => { m with ledger := m.ledger.filter fun e => ! inZone e.nsid e.lba }
      let s := match z.mirror.bind s.mirror? with
        | some m => (s.modMirror m.ident fun m => { m with zones := m.zones.filter (·.zone != zi) }).sendOp m.other 0x12 [m.ident, zi, z.gen]
        | none => s
      let s := each (s.peer.jobs.filter fun j => j.source && j.nsid == nsid &&
          (j.state == .offered || j.state == .running || j.state == .suspended) &&
          j.zones.any fun k => k.zone == zi && decide (k.phase ≤ 1 ∨ k.phase = 5))
        (fun s j => (s.modJob j.ident fun j => { j with zones := updIf (·.zone == zi) (fun k => { k with phase := 3, reason := 7 }) j.zones, changed := s.clk.frame }).sendOp
          j.partner 0x08 [1, 7, j.ident, zi]) s
      s.retireRescue.modZone nsid zi fun z => { zi := z.zi, state := into, safe := into, cls := n.cls, gen := gen }

/-- Write the release record of a zone, a map record, in the journals of its home mast and of the host complex; the release commits when it
is durable (R115, R157, R159). -/
def State.requestRelease (s : State) (nsid zi : Nat) (into : ZoneState) : State :=
  let z := s.zone nsid zi
  let r := JRec.zoneRelease nsid zi z.gen into.value
  (s.log z.home r).log 8 r

/-- Finish a zone at its write pointer (R117): its partly filled row is completed with fill blocks, the trailer rows follow, or
a detached trailer is written when too few rows remain. `zfc` sets Zone Finished by Controller. -/
def State.finishZone (s : State) (n : Namespace) (zi : Nat) (zfc : Bool) : State :=
  let z := n.zone zi
  let s := if z.state == .empty then
      let c := if (s.classFields n (n.zoneClass z)).isSome then n.zoneClass z else n.cls
      s.leaveEmpty n zi c .closed
    else s
  let z := s.zone n.nsid zi
  let p := s.profile
  let w := z.width
  let o := z.wp
  let s := if o == 0 then s else
    let last := posOf p w (o - 1)
    let left := rowsOf p - 1 - last.row
    let t := trailerRows p w n.segsPerZone
    let lastSeg := decide (last.seg + 1 = n.segsPerZone)
    let det := decide (left < t) && ! lastSeg || left == 0
    match s.zoneSeg z last.seg with
    | none => s
    | some g =>
      let within := (o - 1) % perRow w + 1
      let rows := g.rows
      let rows := if within == perRow w then rows else putBy Row.row
        { (rows.find? (·.row == last.row)).getD { row := last.row } with fillFrom := some within } rows
      let rows := if det then rows else rows ++ ((List.range t).filter fun i => decide (last.row + 1 + i < rowsOf p)).map fun i =>
        { row := last.row + 1 + i, fillFrom := some 0 }
      let s := (s.modSeg g.seq fun g => { g with rows := rows, full := true, lastRow := some (if det then last.row else min (rowsOf p - 1) (last.row + t)) }).modZone
        n.nsid zi fun z => { z with detached := det, trailerAt := [] }
      if det then s.detachTrailer n.nsid zi z.home (1 + treeBlocks o) else s
  let s := s.modZone n.nsid zi fun z => { z with written := o, zfc := zfc, utcFinish := s.utc, trailer := o == 0 }
  s.setZone n.nsid zi .full

/-- The device finishes a zone because no segment can be obtained (R113, R232). -/
def State.finishByDevice (s : State) (n : Namespace) (zi : Nat) : State :=
  ((s.finishZone n zi true).raise 594 5 2 [n.nsid, zi]).notifyZone n.nsid zi

/-- Close a zone: Empty if its write pointer is at the zone start and its extension is not valid (R110, R113). -/
def State.closeZone (s : State) (nsid zi : Nat) : State :=
  let z := s.zone nsid zi
  if z.wp == 0 && ! z.extValid then
    (each z.segs State.releaseSegment s |>.modZone nsid zi fun z => { zi := z.zi, cls := z.cls, gen := z.gen }).logZone nsid zi
  else s.setZone nsid zi .closed

/-- Enter read-preserve (R234, R235). -/
def State.enterReadPreserve (s : State) : State :=
  if s.media.readPreserve then s
  else (s.modMedia fun m => { m with readPreserve := true }).log 8 (.readPreserve true) |>.raise 599 1 3 []

/-- Implicit close (R123): the Implicitly Opened zone with the oldest last admitted write, lowest start among equals. -/
def Namespace.implicitVictim (n : Namespace) : Option Nat :=
  (minBy (fun z => z.lastWrite * 2 ^ 32 + z.zi) (n.zones.filter fun z => z.state == .implicitOpen)).map (·.zi)

/-- Resource checks of R111 items 5 and 6 for a zone that needs the resources said; the state after any implicit close, or the
status. -/
def State.takeResources (s : State) (n : Namespace) (needActive needOpen mayClose : Bool) : State × Option NvmeStatus :=
  if needActive && decide (n.active ≤ n.activeZones) then (s, some stTooManyActive)
  else if needOpen && decide (n.open_ ≤ n.openZones) then
    if ! mayClose then (s, some stTooManyOpen)
    else
      match n.implicitVictim with
      | none => (s, some stTooManyOpen)
      | some zi => (s.closeZone n.nsid zi, none)
  else (s, none)

/-! ## Zone management actions (R110, R112) -/

inductive ZoneAction where
  | close | finish | openZ | reset | offline
  deriving DecidableEq, Repr

/-- An action on one zone (R110): the status and the state after; the second component is the journal record awaited. -/
def State.zoneAction (s : State) (nsid zi : Nat) (a : ZoneAction) : State × NvmeStatus :=
  match s.ns? nsid with
  | none => (s, stInvalidNs)
  | some n =>
    let z := n.zone zi
    match a, z.state with
    | .close, .implicitOpen | .close, .explicitOpen => (s.closeZone nsid zi, stOk)
    | .close, .closed => (s, stOk)
    | .close, _ => (s, stZoneTransition)
    | .finish, .empty | .finish, .implicitOpen | .finish, .explicitOpen | .finish, .closed => (s.finishZone n zi false, stOk)
    | .finish, .full => (s, stOk)
    | .finish, .readOnly | .finish, .offline => (s, stZoneTransition)
    | .reset, .empty => (s, stOk)
    | .reset, .implicitOpen | .reset, .explicitOpen | .reset, .closed | .reset, .full => (s.requestRelease nsid zi .empty, stOk)
    | .reset, .readOnly | .reset, .offline => (s, stZoneTransition)
    | .offline, .readOnly => (s.requestRelease nsid zi .offline, stOk)
    | .offline, .offline => (s, stOk)
    | .offline, _ => (s, stZoneTransition)
    | .openZ, .explicitOpen => (s, stOk)
    | .openZ, .implicitOpen => (s.setZone nsid zi .explicitOpen, stOk)
    | .openZ, .closed =>
      if s.needsBarred z 1 then (s, stClassUnavailable) else
      match s.takeResources n false true false with
      | (s, some e) => (s, e)
      | (s, none) => (s.setZone nsid zi .explicitOpen, stOk)
    | .openZ, .empty =>
      match s.classCheck n (n.zoneClass z) with
      | some e => (s, e)
      | none =>
        match s.takeResources n true true false with
        | (s, some e) => (s, e)
        | (s, none) =>
          if s.media.readPreserve then (s, stWriteProtected)
          else match s.sealCheck n (s.currentKey n) 0 with
            | some e => (s, e)
            | none => (s.leaveEmpty n zi (n.zoneClass z) .explicitOpen, stOk)
    | .openZ, _ => (s, stZoneTransition)

/-- States to which Select All applies an action (R112). -/
def ZoneAction.selects : ZoneAction → ZoneState → Bool
  | .close, t => t.isOpen
  | .finish, t => t == .empty || t.active
  | .openZ, t => t == .closed
  | .reset, t => t.active || t == .full
  | .offline, t => t == .readOnly
/-- Select All (R112): ascending zone order, the status of the lowest-numbered zone that failed; Open is all or nothing. -/
def State.zoneActionAll (s : State) (nsid : Nat) (a : ZoneAction) : State × NvmeStatus :=
  match s.ns? nsid with
  | none => (s, stInvalidNs)
  | some n =>
    let zs := (List.range n.zoneCount).filter fun zi => a.selects (n.zone zi).state
    if a == .openZ && decide (n.open_ - n.openZones < zs.length) then (s, stTooManyOpen)
    else zs.foldl (fun (st : State × NvmeStatus) zi =>
      let (s', r) := st.1.zoneAction nsid zi a
      (s', if st.2 == stOk then r else st.2)) (s, stOk)

/-- Set Zone Descriptor Extension (R110, R127, R128, R234). Reserved bits are refused before the zone's state is looked at (DESIGN CHOICE, log 60). -/
def State.setExtension (s : State) (nsid zi : Nat) (ext : Wide) : State × NvmeStatus :=
  match s.ns? nsid with
  | none => (s, stInvalidNs)
  | some n =>
    let e := ext.toNat
    if n.pie && (e / 2 ^ 9 % 2 ^ 23 != 0) then (s, stInvalidField)
    else
      let z := n.zone zi
      if z.state != .empty then (s, stZoneTransition)
      else
        let z' := { z with ext := ext, extValid := true }
        match s.classCheck n (n.zoneClass z') with
        | some e => (s, e)
        | none =>
          match s.takeResources n true false false with
          | (s, some e) => (s, e)
          | (s, none) =>
            if s.media.readPreserve then (s, stWriteProtected)
            else match s.sealCheck n (s.currentKey n) 0 with
              | some e => (s, e)
              | none =>
                let s := s.modZone nsid zi fun _ => z'
                match s.ns? nsid with
                | none => (s, stInvalidNs)
                | some n => (s.leaveEmpty n zi (n.zoneClass z') .closed, stOk)

/-- A zone descriptor as Report Zones returns it: type, state, attributes, capacity, start, write pointer (R97, R98, R118). -/
def State.zoneDescriptor (s : State) (n : Namespace) (zi : Nat) : List Nat :=
  let z := n.zone zi
  let start := zi * n.zoneSize s.profile
  [2, z.state.value * 16, bitOf z.zfc 0 + bitOf z.extValid 7, s.zoneCap n z, start, start + z.wp]
/-- Reporting filters of Zone Receive (R97): 0 all, 1 Empty, 2 Implicitly Opened, 3 Explicitly Opened, 4 Closed, 5 Full, 6 Read
Only, 7 Offline. -/
def zoneFilter (f : Nat) (t : ZoneState) : Bool :=
  f == 0 || (f == 1 && t == .empty) || (f == 2 && t == .implicitOpen) || (f == 3 && t == .explicitOpen) ||
  (f == 4 && t == .closed) || (f == 5 && t == .full) || (f == 6 && t == .readOnly) || (f == 7 && t == .offline)
/-- Report Zones: the count field (all matching zones, or those returned with Partial Report), then the descriptors; the
extended report adds each zone's descriptor extension. -/
def State.reportZones (s : State) (n : Namespace) (slba filter : Nat) (part : Bool) (limit : Nat) (extended : Bool) : List Nat :=
  let zs := n.zoneSize s.profile
  let all := (List.range n.zoneCount).filter fun zi => decide (slba / max 1 zs ≤ zi) && zoneFilter filter (n.zone zi).state
  let shown := all.take limit
  (if part then shown.length else all.length) :: shown.flatMap fun zi =>
    s.zoneDescriptor n zi ++ (if extended then [(n.zone zi).ext.toNat] else [])

/-- Zones that are Read Only because a mast is restarting or failed (R41, R113, R114): every zone with a segment in a stripe set
that cannot survive the loss; its written blocks are those below its pointer. Unfinished writes to them end with BAh and their blocks become void. -/
def State.loseMastZones (s : State) : State :=
  let hit := s.nss.flatMap fun n => (n.zones.filter fun z =>
    (z.state.active || z.state == .full) && s.widthBarred z.width && ! z.segs.isEmpty).map fun z => (n.nsid, z.zi)
  each hit (fun s (nsid, zi) =>
    let zs := match s.ns? nsid with | some n => n.zoneSize s.profile | none => 0
    let late := s.io.cmds.filter fun c => match c.range with
      | some (x, l, _) => x == nsid && l / max 1 zs == zi
      | none => false
    let s := each late (fun s c =>
      let lbas := match c.range with | some (_, l, k) => (List.range k).map (l + ·) | none => []
      (s.modBlocks (fun b => b.nsid == nsid && lbas.contains b.lba) fun b =>
        { b with marker := .void, dirty := false, arrived := true }).conclude c.id stZoneReadOnly) s
    let s := s.modZone nsid zi fun z => { z with written := if z.state == .full then z.written else z.wp }
    ((s.setZone nsid zi .readOnly).raise 594 1 2 [nsid, zi]).notifyZone nsid zi) s

end Sys2Proof.Machine
end

