-- ==== Sys2Proof/Machine/Loss.lean ====
section
/-! DEFINITION. The loss ledger (R224 to R228), retirement of erase blocks, spares and capacity shrink (R94, R219, R229, R230). -/

namespace Sys2Proof.Machine

/-- Capacity of the ledger (R228). -/
def ledgerLimit : Nat := 1048576

/-- A block is entered in the ledger. -/
def State.inLedger (s : State) (nsid lba : Nat) : Bool :=
  s.media.ledger.any fun e => e.nsid == nsid && decide (e.lba ≤ lba) && decide (lba < e.lba + e.count)

/-- Cause of a block's ledger entry; 0 for a block that is not entered. -/
def State.lossCause (s : State) (nsid lba : Nat) : Nat :=
  match s.media.ledger.find? fun e => e.nsid == nsid && decide (e.lba ≤ lba) && decide (lba < e.lba + e.count) with
  | some e => e.cause
  | none => 0

/-- Add a run to the ledger, merged with the adjacent runs of the same generation and cause (R224). -/
def mergeLoss (e : Loss) (l : List Loss) : List Loss :=
  let same (x : Loss) : Bool := x.nsid == e.nsid && x.gen == e.gen && x.cause == e.cause
  let before := l.find? fun x => same x && x.lba + x.count == e.lba
  let after := l.find? fun x => same x && e.lba + e.count == x.lba
  match before, after with
  | none, none => l ++ [e]
  | some a, none => updIf (· == a) (fun x => { x with count := x.count + e.count }) l
  | none, some b => updIf (· == b) (fun x => { x with lba := e.lba, count := e.count + x.count }) l
  | some a, some b => updIf (· == a) (fun x => { x with count := x.count + e.count + b.count }) (l.filter (· != b))

/-- Stands for the whole conventional region in the list of what a lap has marked. -/
def regionMark : Nat := 2 ^ 32
/-- Zone or region that holds an LBA gets the overflow marker (R228). -/
def State.markOverflow (s : State) (nsid lba : Nat) : State :=
  match s.ns? nsid with
  | none => s
  | some n =>
    if n.conv then s.modMedia fun m => { m with
      marked := dedupN (m.marked ++ [nsid]), patrol := { m.patrol with markedNow := m.patrol.markedNow ++ [(nsid, regionMark)] } }
    else
      let zi := lba / max 1 (n.zoneSize s.profile)
      (s.modZone nsid zi fun z => { z with overflow := true }).modMedia fun m =>
        { m with patrol := { m.patrol with markedNow := m.patrol.markedNow ++ [(nsid, zi)] } }

/-- Enter a run of lost blocks (R225, R228): the entry, its journal record and its event. -/
def State.enterLoss (s : State) (nsid lba count gen cause foundBy fn mast : Nat) : State :=
  let full := decide (ledgerLimit ≤ s.media.ledger.length)
  let e : Loss := {
    nsid := nsid, lba := lba, count := count, gen := gen, cause := cause, foundBy := foundBy, fn := fn,
    poc := s.clk.poc, frame := s.clk.frame, utc := s.utc }
  let s := if full then s.markOverflow nsid lba
    else (s.modMedia fun m => { m with ledger := mergeLoss e m.ledger, lossTotal := m.lossTotal + count }).log 8 (.lossEntry nsid lba count)
  let s := s.modEvt fun v => { v with losses := v.losses ++ [(nsid, s.clk.frame, count)] }
  let sev := if full then 3 else 2
  if (s.mast mast).state == .active then s.raise (60 * mast + 14) cause sev [nsid, lba, count]
  else s.raise 595 6 2 [nsid, lba, count]

/-- An entry without one of its blocks. -/
def Loss.without (lba : Nat) (e : Loss) : List Loss :=
  (if e.lba < lba then [{ e with count := lba - e.lba }] else []) ++
  (if lba + 1 < e.lba + e.count then [{ e with lba := lba + 1, count := e.lba + e.count - lba - 1 }] else [])

/-- Remove a block from the ledger (R227), splitting its run. -/
def State.removeLoss (s : State) (nsid lba : Nat) : State :=
  let has (e : Loss) : Bool := e.nsid == nsid && decide (e.lba ≤ lba) && decide (lba < e.lba + e.count)
  let split (e : Loss) : List Loss := if has e then e.without lba else [e]
  if ! s.inLedger nsid lba then s
  else (s.modMedia fun m => { m with ledger := m.ledger.flatMap split }).log 8 (.lossRemoval nsid lba 1)

/-! ## Capacity shrink (R230) -/

/-- Take one zone Offline: the highest-numbered Empty zone of the namespace with the most Empty zones, ties to the lowest
namespace identifier. -/
def State.shrinkOnce (s : State) : Option State :=
  let cand := s.nss.filter fun n => ! n.conv && ! n.deleted && decide (0 < n.emptyZones)
  match minBy (fun n => (2 ^ 32 - n.emptyZones) * 2 ^ 32 + n.nsid) cand with
  | none => none
  | some n =>
    match ((List.range n.zoneCount).reverse).find? fun zi => (n.zone zi).state == .empty with
    | none => none
    | some zi =>
      let s := s.modNs n.nsid fun n => { n with reserved := n.reserved - n.segsPerZone * n.wmax }
      let s := (s.modZone n.nsid zi fun z => { z with state := .offline }).logZone n.nsid zi
      some ((s.raise 594 2 1 [n.nsid, zi]).notifyZone n.nsid zi)

def State.shrinkLoop : Nat → State → State
  | 0, s => s
  | fuel + 1, s =>
    if s.reservedBlocks ≤ s.availableBlocks then s
    else match s.shrinkOnce with
      | none => s
      | some s' => State.shrinkLoop fuel s'

/-- Capacity shrink after a retirement or a change of reservation (R230), with entry into and exit from shrink exhausted. -/
def State.shrink (s : State) : State :=
  let s := s.shrinkLoop (s.reservedBlocks - s.availableBlocks)
  let short := decide (s.availableBlocks < s.reservedBlocks)
  if short && ! s.media.shrinkExhausted then
    (s.modMedia fun m => { m with shrinkExhausted := true }).raise 594 3 2 [0, 0]
  else if ! short && s.media.shrinkExhausted then
    (s.modMedia fun m => { m with shrinkExhausted := false }).raise 594 4 0 [0, 0]
  else s

/-! ## Retirement (R94, R214, R216, R219, R229) -/

/-- Retire an erase block: code 1 program failure, 2 erase failure, 3 endurance. A retired system block is replaced by a free
block of the same LUN, which takes its role, and the LUN's directory gets a new version (R93, R257). -/
def State.retire (s : State) (glun block code : Nat) : State :=
  let m := mastOfLun glun
  let before := s.spares glun
  let sys := (s.lun glun).firstSystem s.profile block || ((s.lun glun).block block).state == .system
  let s := (s.modBlock glun block fun b => { b with state := .retired, erased := false }).modLun glun fun l =>
    { l with retired := l.retired + 1 }
  let s := (s.log m (.blockState glun block 1 ((s.lun glun).block block).erases)).raise (60 * m + 15) code 1 [glun, block]
  let s := if sys then
      match s.pickBlock glun with
      | some b => ((s.modBlock glun b fun e => { e with state := .system }).log m (.blockState glun b 4 ((s.lun glun).block b).erases)).modLun glun fun l =>
          { l with swaps := l.swaps ++ [(block, b)] }
      | none => s
    else s
  let s := s.appendDirectory glun
  let s := if s.spares glun == 0 && decide (0 < before) then s.raise (60 * m + 8 + portOfLun glun % 4) 1 1 [glun] else s
  s.shrink

/-- Rated endurance of a block in use, times the endurance retirement factor (R219). -/
def State.enduranceLimit (s : State) (pslc : Bool) : Nat :=
  (if pslc then s.profile.endurancePslc else s.profile.endurance) * (s.ctlValue ctlEnduranceFactor * 5) / 100
/-- A block that becomes pending-erase at its endurance limit is retired (R219). -/
def State.endurance (s : State) (glun block : Nat) : State :=
  if s.enduranceLimit false ≤ ((s.lun glun).block block).erases then s.retire glun block 3 else s

end Sys2Proof.Machine
end

