-- ==== Sys2Proof/Machine/Numeric.lean ====
section
/-! DEFINITION. Exponential and logarithm in fixed point of 2^-64, for R148 (resistor mode) and R200 (acceleration factor). The
error is below 2^-50 relatively, so a rounding up to 1/1024 or to 1 µF is the exact one except within that distance of a
boundary (notes/assumptions/12.md). -/

namespace Sys2Proof.Machine

/-- 1 in fixed point. -/
def one64 : Nat := 2 ^ 64
/-- Taylor terms of exp: sum of x^n / n!, n below `fuel`, with the term carried. -/
def expTerms : Nat → Nat → Nat → Nat → Nat
  | 0, _, _, _ => 0
  | fuel + 1, n, x, term => term + expTerms fuel (n + 1) x (term * x / one64 / (n + 1))
/-- exp of x ≥ 0 given as num/den: 2^16 squarings of exp(x / 2^16). -/
def expNat (num den : Nat) : Nat :=
  let small := num * one64 / (max 1 den * 2 ^ 16)
  (List.range 16).foldl (fun a _ => a * a / one64) (expTerms 12 0 small one64)
/-- exp(−x). -/
def expNeg (num den : Nat) : Nat := one64 * one64 / max 1 (expNat num den)
/-- Terms y + y^3/3 + y^5/5 + … of atanh. -/
def atanhTerms : Nat → Nat → Nat → Nat → Nat
  | 0, _, _, _ => 0
  | fuel + 1, n, y2, p => p / (2 * n + 1) + atanhTerms fuel (n + 1) y2 (p * y2 / one64)
/-- ln(a/b) for a ≥ b > 0, when a < 2b. -/
def lnShort (a b : Nat) : Nat :=
  let y := (a - b) * one64 / max 1 (a + b)
  2 * atanhTerms 40 0 (y * y / one64) y
/-- ln 2. -/
def ln2 : Nat := lnShort 4 3 + lnShort 3 2
/-- ln(a/b) for a ≥ b > 0. -/
def lnRatio (a b : Nat) : Nat :=
  let k := countIf (fun i => decide (b * 2 ^ (i + 1) ≤ a)) (List.range 64)
  k * ln2 + lnShort a (b * 2 ^ k)

/-- Acceleration factor in 1/1024 at a whole temperature in °C, rounded up (R200): `ea` in 0.01 eV, reference in 1/16 °C. The
exponent is ea/8.617333e-5 × (1/(tref + 273.15) − 1/(t + 273.15)). -/
def accelFactor (ea : Nat) (tref16 t : Int) : Nat :=
  -- kelvin in 1/1600 K: (16 t + 4370.4) × 100
  let kr : Int := tref16 * 100 + 437040
  let kt : Int := t * 1600 + 437040
  -- ea/100 eV ÷ 8.617333e-5 eV/K × 1600 (kt − kr) ÷ (kr kt)
  let num : Int := (ea : Int) * 1000000000 * 16 * (kt - kr)
  let den : Nat := 8617333 / 1 * (kr * kt).toNat / 100
  let e := if 0 ≤ num then expNat (num.toNat) den else expNeg ((-num).toNat) den
  ceilDiv (e * 1024) one64

end Sys2Proof.Machine
end

