-- ==== Sys2Proof/Machine/Energy.lean ====
section
/-! DEFINITION. Hold-up energy: the bank voltage, the energy test and deficit, the capacitance self-test (R140 to R149), and the
frames that a duration takes. -/

namespace Sys2Proof.Machine

/-- Whole frames of a duration in ns. -/
def framesOf (ns : Nat) : Nat := ceilDiv ns 16000

/-- Controller dump power in mW (R142). -/
def pCtl : Variant → Nat
  | .btk8208 => 3000
  | .btk8416 => 4500
  | .btk8832 => 7500
/-- Longest pass, dump round and fixed time in frames (R142). -/
def tPass (p : MediaProfile) : Nat := max (framesOf p.coarseNs) (max (framesOf p.fineStdNs) (framesOf p.fineArchNs))
def roundLen (p : MediaProfile) : Nat := framesOf p.pslcProgNs + 2
def tFix (p : MediaProfile) : Nat := 2 + tPass p + roundLen p

/-- A bank sample (R143): the reading less its worst-case conversion error, 3 mV + 0.25 %, scaled by the divider. -/
def bankSample (r : DriveRecord) (reading : Nat) : Nat :=
  (reading - 3 - ceilDiv reading 400) * r.divider / 1024
/-- The bank voltage of a reading without the reduction, for the self-test. -/
def bankRaw (r : DriveRecord) (reading : Nat) : Nat := reading * r.divider / 1024
/-- v: the lowest of the last 64 samples (R143). -/
def lowest (l : List Nat) : Nat := (minBy id l).getD 0

/-- Derating factor at a temperature in 1/16 °C: linear between points, constant beyond the end points, 1,024 with none. -/
def derateAt (points : List (Int × Nat)) (t16 : Int) : Nat :=
  match points with
  | [] => 1024
  | (t0, f0) :: rest =>
    if t16 ≤ 16 * t0 then f0
    else
      (rest.foldl (fun (st : Option Nat × Int × Nat) (t1, f1) =>
        match st.1 with
        | some _ => st
        | none =>
          if t16 ≤ 16 * t1 then
            (some (((f1 : Int) - st.2.2) * (t16 - 16 * st.2.1) / max 1 (16 * t1 - 16 * st.2.1) + st.2.2).toNat, t1, f1)
          else (none, t1, f1)) (none, t0, f0)) |> fun st => st.1.getD st.2.2
/-- Derating factor in effect: by the bank temperature input, 1,024 without one (R143). -/
def State.derate (s : State) : Nat :=
  match s.record.bankInput with
  | none => 1024
  | some i => derateAt s.record.derate (s.thermIn i).raw

/-- Usable energy in µJ (R144). -/
def eUse (c v vMin eta : Nat) : Nat := if v ≤ vMin then 0 else c * (v * v - vMin * vMin) / 2000000 * eta / 1000
/-- Energy needed in µJ for `all` dirty blocks in `rounds` rounds (R144). -/
def eNeed (all eFlash pHold tDump : Nat) : Nat := (all * 4160 * eFlash + 999999) / 1000000 + (pHold * tDump + 999) / 1000
/-- Rounds of one mast: b blocks in u programs of 16 blocks a round. -/
def roundsOf (b u : Nat) : Nat := (b + 16 * u - 1) / (16 * u)

/-- Blocks of 4,160 bytes that a mast's journal staging fills, rounded up (R144). -/
def State.stagingBlocks (s : State) (m : Nat) : Nat := ceilDiv (sumOf s.recordSize (s.journal m).staged) 4160
/-- Dirty sealed blocks of a mast, with its staging (R144); 0 for a mast that is not active. -/
def State.dirtyOn (s : State) (m : Nat) : Nat :=
  if (s.mast m).state != .active then 0
  else countIf (fun b => b.dirty && b.marker == .data && b.mast == m) s.media.blocks + s.stagingBlocks m
/-- Every mast's dirty count. -/
def State.dirty (s : State) : List Nat := s.mastIds.map s.dirtyOn

/-- Programs that one dump round admits in the complete stripe sets of a width (R144 item 1). -/
def State.widthPrograms (s : State) (w : Nat) : Nat :=
  sumOf (fun (gl : Nat × Nat) => if s.complete w gl.1 gl.2 then max 1 (s.effBudget w gl.1 gl.2) else 0) (s.stripeSets w)
/-- u[m] (R144). -/
def State.rescuePrograms (s : State) : List Nat :=
  let p := lowest ((widthsOf s.variant).map s.widthPrograms)
  let act := s.mastIds.filter fun m => (s.mast m).state == .active
  s.mastIds.map fun m =>
    if (s.mast m).state != .active then 0
    else
      let share := p / max 1 act.length + (if act.idxOf m < p % max 1 act.length then 1 else 0)
      min share (countIf (fun x => mastOfLun x == m && (s.port (portOfLun x)).state != .fenced && (s.port (portOfLun x)).state != .failed) s.gluns)

/-- Rounds of a dump of `b`, with programs `u`; none when a mast with dirty blocks has no programs (R144). -/
def dumpRounds (b u : List Nat) : Option Nat :=
  if (b.zip u).any fun (x, y) => decide (0 < x) && y == 0 then none
  else some (maxOf ((b.zip u).map fun (x, y) => if y == 0 then 0 else roundsOf x y))
/-- e_need for dirty counts `b` (R144); none exceeds every budget. -/
def State.energyNeed (s : State) (b : List Nat) : Option Nat :=
  match dumpRounds b s.nrg.u with
  | none => none
  | some rounds =>
    some (eNeed b.sum s.record.eFlash (pCtl s.variant + s.record.pBoard) (16 * (tFix s.profile + rounds * roundLen s.profile)))

/-- The capacitance used: c_cfg or c_meas, whichever is less, derated. -/
def State.capacitance (s : State) : Nat := min s.record.cCfg s.nrg.cMeas * s.derate / 1024
/-- v while `HU_LOAD` is asserted: the value predicted for the end of the test from V1 (R148): V1 − i × t ÷ c, or in resistor mode
V1 × exp(−t ÷ (r × c)). -/
def predictedV (r : DriveRecord) (c v1 : Nat) : Nat :=
  let us := 16 * r.tTest
  if c == 0 then 0
  else if r.loadResistive then v1 * expNeg (us * 1000) (max 1 (r.loadValue * c)) / one64
  else v1 - ceilDiv (r.loadValue * us) c

/-- Step 7 of R49: the energy budget (R144), and entry into or exit from deficit (R147). -/
def State.energyBudget (s : State) : State :=
  let r := s.record
  let c := s.capacitance
  let v := match s.nrg.test with
    | some (v1, _) => if s.nrg.huLoad then predictedV r c v1 else lowest s.nrg.samples
    | none => lowest s.nrg.samples
  let use := eUse c v r.vMin r.eta
  let bud := use * s.ctlValue ctlMargin / 1000
  let s := s.modNrg fun n => { n with v := v, eUse := use, budget := bud, u := s.rescuePrograms }
  let need := s.energyNeed s.dirty
  let s := s.modNrg fun n => { n with eNeed := need.getD (2 ^ 63) }
  let beyond := match need with | none => true | some n => decide (bud < n)
  let crit := match need with | none => true | some n => decide (use < n)
  let args := [s.nrg.eNeed / 1024, bud / 1024]
  let s := if beyond && ! s.nrg.deficit then (s.modNrg fun n => { n with deficit := true }).raise 602 1 1 args
    else if ! beyond && s.nrg.deficit then (s.modNrg fun n => { n with deficit := false, critical := false }).raise 602 2 0 args
    else s
  if beyond && crit && ! s.nrg.critical then (s.modNrg fun n => { n with critical := true }).raise 602 3 3 args
  else if beyond && ! crit && s.nrg.critical then s.modNrg fun n => { n with critical := false }
  else s

/-- The test of R145 for a write that adds `extra` (mast, blocks): energy and rescue slots. -/
def State.energyAdmits (s : State) (extra : List (Nat × Nat)) : Bool :=
  let b := s.dirty.zipIdx.map fun (x, m) => x + sumOf (fun (e : Nat × Nat) => if e.1 == m then e.2 else 0) extra
  let fits := match s.energyNeed b with
    | none => false
    | some n => decide (n ≤ s.nrg.budget)
  ! s.nrg.deficit && fits && b.zipIdx.all fun (x, m) => decide (x ≤ s.rescueRoom m)

/-! ## Self-test (R148, R149) -/

/-- A test can start: not in deficit, and the energy test passes with the predicted v. -/
def State.selfTestPasses (s : State) (v1 : Nat) : Bool :=
  let r := s.record
  let c := s.capacitance
  let bud := eUse c (predictedV r c v1) r.vMin r.eta * s.ctlValue ctlMargin / 1000
  ! s.nrg.deficit && match s.energyNeed s.dirty with
    | none => false
    | some n => decide (n ≤ bud)

/-- Start a test from V1, the mean of 16 samples (R148). -/
def State.startSelfTest (s : State) (v1 : Nat) : State :=
  s.modNrg fun n => { n with test := some (v1, s.clk.frame), huLoad := true, lastTest := some s.clk.frame, released := none }

/-- Result in µF (R148): i × t ÷ (V1 − V2), or t ÷ (r × ln(V1 ÷ V2)); 0, which is invalid, when the bank did not fall. -/
def capacitanceResult (r : DriveRecord) (v1 v2 : Nat) : Nat :=
  let us := 16 * r.tTest
  if v1 ≤ v2 || v2 == 0 || r.loadValue == 0 then 0
  else if r.loadResistive then us * 1000 * one64 / (r.loadValue * max 1 (lnRatio v1 v2))
  else r.loadValue * us / (v1 - v2)
/-- Valid results lie between 1/4 and 3/2 of c_cfg (R149). -/
def resultValid (r : DriveRecord) (c : Nat) : Bool := decide (r.cCfg ≤ 4 * c) && decide (2 * c ≤ 3 * r.cCfg)

/-- The end of a test (R149). -/
def State.endSelfTest (s : State) (c : Nat) : State :=
  let s := s.modNrg fun n => { n with test := none, released := none, huLoad := false, firstDone := true }
  if resultValid s.record c then
    let was := s.nrg.heldZero
    let s := (s.modNrg fun n => { n with cMeas := c, recorded := some c, invalid := 0, invalidFrame := none, heldZero := false, result := c }).log 8 (.capacitance c)
    if was then s.raise 603 2 0 [c] else s
  else
    let s := s.modNrg fun n => { n with invalid := n.invalid + 1, invalidFrame := some s.clk.frame, result := 0 }
    if decide (3 ≤ s.nrg.invalid) && ! s.nrg.heldZero then
      (s.modNrg fun n => { n with cMeas := 0, heldZero := true }).raise 603 1 2 [c]
    else s

end Sys2Proof.Machine
end

