-- ==== Sys2Proof/Machine/Bounds.lean ====
section
/-! DEFINITION. Reef limits (R458), latency bounds (R191, R193, R462), the cost of commands (R183), and credits (R184). -/

namespace Sys2Proof.Machine

/-! ## Reef levels (R458, R459) -/

/-- Package power cap in mW, media cycles, admission units, programs and erases at once, Halyard packets, of a reef level. -/
def reefCap : Nat → Nat
  | 0 => 12500
  | 1 => 10000
  | 2 => 8000
  | 3 => 6000
  | _ => 4000
def reefMedia : Nat → Nat
  | 0 => 1680
  | 1 => 1344
  | 2 => 1008
  | 3 => 672
  | _ => 336
def reefUnits : Nat → Nat
  | 0 => 112
  | 1 => 89
  | 2 => 67
  | 3 => 44
  | _ => 22
def reefPrograms : Nat → Nat
  | 0 => 128
  | 1 => 64
  | 2 => 32
  | 3 => 16
  | _ => 8
def reefPackets : Nat → Nat
  | 0 => 231
  | 1 => 231
  | 2 => 160
  | 3 => 80
  | _ => 40
/-- Reef level in effect: the higher-numbered of host limit and enforced thermal level (R459). -/
def State.reef (s : State) : Nat := max s.pwr.hostLimit (if s.therm.enforced then s.therm.level else 0)
/-- Programs and erases at once on a mast, with the power correction of R461. -/
def State.programLimit (s : State) : Nat := reefPrograms s.reef / 2 ^ min 3 s.pwr.halvings

/-! ## Bounds -/

/-- Frames of a duration in ns, lengthened by 5/4 on a degraded port (R55, R193). -/
def boundFrames (degraded : Bool) (ns : Nat) : Nat := if degraded then framesOf (ceilDiv (ns * 5) 4) else framesOf ns
/-- t_bus at a reef level (R462). -/
def tBus (level : Nat) : Nat := ceilDiv 1600 (reefMedia level - 80)
/-- n_a and n_b (R191). -/
def boundA (p : MediaProfile) (level : Nat) (degraded : Bool) : Nat :=
  let sus := boundFrames degraded p.suspendNs
  let rd := boundFrames degraded p.readNs
  3 + max sus rd + rd + tBus level + 2
def boundB (p : MediaProfile) (level : Nat) (degraded : Bool) : Nat :=
  let sus := boundFrames degraded p.suspendNs
  let rd := boundFrames degraded p.readNs
  let rnd := max sus rd + rd + rd + tBus level
  3 + rnd + 3 + rnd + 2
/-- t_ns: the longest program pass in frames. -/
def tNs (p : MediaProfile) (degraded : Bool) : Nat := boundFrames degraded (max p.coarseNs (max p.fineStdNs p.fineArchNs))
/-- The bound of a class under a condition of its stripe set (R193); class C has none. -/
def boundOf (p : MediaProfile) (level : Nat) (k : LatClass) (degraded zero : Bool) : Nat :=
  let extra := if zero then tNs p degraded else 0
  match k with
  | .a => boundA p level degraded + extra
  | .b => boundB p level degraded + extra
  | .c => 0
/-- Bounds of row `row` of R193 at a reef level: class A, class B. -/
def State.rowAt (s : State) (level row : Nat) : Nat × Nat :=
  let d := row == 3
  let z := row == 4
  (boundOf s.profile level .a d z, boundOf s.profile level .b d z)
/-- The reported bounds, class A and class B for rows 1 to 4 of R193. -/
def State.boundRows (s : State) : List Nat :=
  [(false, false), (false, false), (true, false), (false, true)].flatMap fun (d, z) =>
    [boundOf s.profile s.reef .a d z, boundOf s.profile s.reef .b d z]
/-- Normal bound of a class: 256 frames for class C (R181, R196). -/
def State.normalBound (s : State) (k : LatClass) : Nat := if k == .c then 256 else boundOf s.profile s.reef k false false
/-- T in effect of a contract (R196). -/
def State.tEffect (s : State) (c : Contract) : Nat := c.t.getD (s.normalBound c.cls)
/-- Condition of a stripe set: a member port degraded, effective budget 0; none where no bound holds (R193). -/
def State.setCondition (s : State) (w g l : Nat) : Option (Bool × Bool) :=
  if parityOf w < s.setErasures w g l then none
  else some ((s.setLuns w g l).any fun x => (s.port (portOfLun x)).state == .degraded, s.effBudget w g l == 0)
/-- Bound of a read over the stripe sets of the segments it reads: the longest of theirs; 0 where one gives none. -/
def State.readBound (s : State) (k : LatClass) (segs : List Segment) : Nat :=
  let each := segs.map fun g => (s.setCondition g.width g.g g.l).map fun (d, z) => boundOf s.profile s.reef k d z
  if each.any Option.isNone then 0 else maxOf (each.map (·.getD 0))

/-! ## Costs (R183) -/

/-- Cycles of `FRM125` of one block's data burst: slot bytes at the interface rate. -/
def burstCycles (p : MediaProfile) : Nat := ceilDiv (slotLength p.ldpcCode * 125) (max 1 p.rate)
/-- Planned cycles of an entry on a port: lengthened by 5/4 while it is degraded (R55). -/
def State.planCycles (s : State) (p n : Nat) : Nat := if (s.port p).state == .degraded then ceilDiv (n * 5) 4 else n
/-- Planned cycles of a read's entries on a LUN: a command and a poll for each of `reads` page reads, `bursts` data-out bursts, and a
suspend and a resume of a program or erase that runs there, for a contracted read (R178, R183). -/
def State.readCycles (s : State) (glun : Nat) (contracted : Bool) (reads bursts : Nat) : Nat :=
  let p := s.profile
  let busy : Bool := match (s.lun glun).work with
    | some w => contracted && ! w.suspended
    | none => false
  let c := s.planCycles (portOfLun glun)
  reads * (c p.cmdCycles + c p.pollCycles) + bursts * c (burstCycles p) + (if busy then 2 * c p.suspendCycles else 0)
/-- A cost: admission units, and media cycles by port. -/
structure Cost where
  units : Nat := 1
  ports : List (Nat × Nat) := []
  deriving DecidableEq, Repr, Inhabited
/-- Add cycles to a port's entry. -/
def addPort (p n : Nat) (l : List (Nat × Nat)) : List (Nat × Nat) :=
  if l.any (·.1 == p) then l.map fun x => if x.1 == p then (p, x.2 + n) else x else l ++ [(p, n)]
/-- Planned cycles by port of reads of the LUNs of a list: one page read, and `bursts` codewords, for each time a LUN stands in it. -/
def State.portsOf (s : State) (contracted : Bool) (bursts : Nat) (luns : List Nat) : List (Nat × Nat) :=
  luns.foldl (fun acc x => addPort (portOfLun x) (s.readCycles x contracted 1 bursts) acc) []

/-! ## Credits (R184) -/

/-- Admission and media capacity of a frame at the level in effect (R458). -/
def State.capUnits (s : State) : Nat := reefUnits s.reef
def State.capCycles (s : State) : Nat := reefMedia s.reef
/-- One frame's growth of a credit, kept in 1/1024 and cut to the ceiling. -/
def grow (share cap ceiling : Nat) (c : Int) : Int := min (c + (share * cap : Nat)) ((share * cap * ceiling : Nat) : Int)
def growAll (share cap ceiling ports : Nat) (l : List Int) : List Int :=
  (List.range ports).map fun p => grow share cap ceiling (l.getD p 0)
/-- Step 6 of R49 for one function. -/
def Fn.refresh (f : Fn) (units cycles ports : Nat) : Fn :=
  let c := f.contract
  { f with
    resAdm := grow c.reserved units c.ceiling f.resAdm, burAdm := grow c.burst units c.ceiling f.burAdm
    resMed := growAll c.reserved cycles c.ceiling ports f.resMed, burMed := growAll c.burst cycles c.ceiling ports f.burMed }
/-- Take a cost from both credits (R184). -/
def Fn.charge (f : Fn) (c : Cost) (ports : Nat) : Fn :=
  let cut (l : List Int) : List Int := (List.range ports).map fun p =>
    l.getD p 0 - ((1024 * sumOf (fun (x : Nat × Nat) => if x.1 == p then x.2 else 0) c.ports : Nat) : Int)
  { f with resAdm := f.resAdm - ((1024 * c.units : Nat) : Int), burAdm := f.burAdm - ((1024 * c.units : Nat) : Int)
           resMed := cut f.resMed, burMed := cut f.burMed }
/-- Whether a cost fits a credit (R185). -/
def Fn.fits (f : Fn) (reserved : Bool) (c : Cost) : Bool :=
  let adm := if reserved then f.resAdm else f.burAdm
  let med := if reserved then f.resMed else f.burMed
  decide (((1024 * c.units : Nat) : Int) ≤ adm) && c.ports.all fun x => decide (((1024 * x.2 : Nat) : Int) ≤ med.getD x.1 0)
/-- Credits of a function at 0 (R184). -/
def Fn.zeroCredit (f : Fn) : Fn := { f with resAdm := 0, burAdm := 0, resMed := [], burMed := [] }
/-- Every credit of every function at 0: AON power-on reset, deep reset, dump restart, wake (R184). -/
def State.zeroCredits (s : State) : State := s.modFns fun l => l.map Fn.zeroCredit
/-- Cut banked credit to a new contract's ceiling (R187). -/
def Fn.cutCredit (f : Fn) (units cycles : Nat) : Fn :=
  let c := f.contract
  let lim (share cap : Nat) (x : Int) : Int := min x ((share * cap * c.ceiling : Nat) : Int)
  { f with resAdm := lim c.reserved units f.resAdm, burAdm := lim c.burst units f.burAdm
           resMed := f.resMed.map (lim c.reserved cycles), burMed := f.burMed.map (lim c.burst cycles) }

end Sys2Proof.Machine
end

