-- ==== Sys2Proof/Machine/Reads.lean ====
section
/-! DEFINITION. What a read finds at each logical block (R119, R166, R167, R226), the outcome of a read whose blocks are all
resolved (R550), reconstruction that a mast or port loss forces (R38, R56), and losses that a host read finds (R225). -/

namespace Sys2Proof.Machine

/-- Where the contents of a logical block are. -/
inductive BlockView where
  /-- the zone is Offline -/
  | offline
  /-- entered in the loss ledger, or stored as a loss block -/
  | lost
  | void
  | unwritten
  /-- its write is admitted and the block has not settled (R167) -/
  | arriving
  /-- in DRAM: open row, held or parked (R167) -/
  | dram
  /-- on flash, in this segment, row and unit -/
  | media (seg row unit : Nat)
  deriving DecidableEq, Repr

def State.viewOf (s : State) (nsid lba : Nat) : BlockView :=
  let offline : Bool := match s.ns? nsid with
    | some n => ! n.conv && (n.zone (lba / max 1 (n.zoneSize s.profile))).state == .offline
    | none => false
  if offline then .offline
  else if s.inLedger nsid lba then .lost
  else match s.block? nsid lba with
    | none => .unwritten
    | some b =>
      match b.marker, b.place with
      | .void, _ => .void
      | .loss, _ => .lost
      | .fill, _ => .unwritten
      | .data, .waiting => .arriving
      | .data, .openRow | .data, .held | .data, .parked => .dram
      | .data, .flash => .media b.seg b.row b.unit

/-- Member LUN and mast of a block's unit. -/
def State.unitGlun (s : State) (g : Segment) (row unit : Nat) : Nat :=
  memberLun s.mastN g.width g.g g.l (memberOf g.width unit row)

/-- How a read of an erased member ends when too many members are erasures (R38, R56). -/
inductive Unserved where
  /-- a furled mast is woken, and the read waits -/
  | wake (masts : List Nat)
  /-- a restarting mast or a fenced port decides later -/
  | wait
  /-- the blocks are lost: the cause code -/
  | lost (cause : Nat)
  deriving DecidableEq, Repr

def Segment.row (g : Segment) (r : Nat) : Row := (g.rows.find? (·.row == r)).getD { row := r }
/-- Members that are erasures for a row (R88, R217): those of the segment and the row's gaps. -/
def State.rowErasures (s : State) (g : Segment) (row : Nat) : List Nat :=
  dedupN (s.segErasures g ++ (g.row row).gaps)
/-- A read of member `q` in a row: none when the block is served from its member or by reconstruction. -/
def State.unserved (s : State) (g : Segment) (row q : Nat) : Option Unserved :=
  let er := s.rowErasures g row
  if ! er.contains q || er.length ≤ parityOf g.width then none
  else
    let ms := dedupN (er.map fun q => mastOfLun (memberLun s.mastN g.width g.g g.l q))
    let ps := dedupN (er.map fun q => portOfLun (memberLun s.mastN g.width g.g g.l q))
    let furled := ms.filter fun m => (s.mast m).state == .furled
    if ! furled.isEmpty then some (.wake furled)
    else if (ms.any fun m => (s.mast m).state == .restarting) || (ps.any fun p => (s.port p).state == .fenced) then some .wait
    else
      let w := g.row row
      let byMast (q : Nat) : Bool := (s.mast (mastOfLun (s.memberGlun g q))).state == .failed || w.gaps.contains q && ! w.portGaps.contains q ||
        g.erasures.contains q && ! g.portErasures.contains q
      some (.lost (if er.any byMast then 2 else 3))

/-- Members that a rebuild of member `q`'s unit reads (R88): k + 1 of those that are neither erasures nor in non-suspendable work, lowest
numbers first; where fewer than k are free, k of those that are not erasures, and it waits for them. -/
def State.rebuildLuns (s : State) (g : Segment) (row q : Nat) : List Nat :=
  let intact := (List.range g.width).filter fun x => x != q && ! (s.rowErasures g row).contains x
  let free := intact.filter fun x => ! s.nonSuspendable (s.memberGlun g x)
  let k := dataOf g.width
  let pick := if k ≤ free.length then free.take (k + 1)
    else (free ++ intact.filter fun x => s.nonSuspendable (s.memberGlun g x)).take k
  pick.map (s.memberGlun g)
/-- Number of a unit: segment, row and unit. -/
def unitKey (seg row unit : Nat) : Nat := (seg * 2 ^ 32 + row) * 32 + unit
/-- A step of a block begins: the LUNs that it reads. -/
def RBlock.beginStep (b : RBlock) (step frame : Nat) (reads : List Nat) : RBlock := { b with
  step := step, reads := reads, due := reads, reserves := [], since := frame, sent := false, planned := false, failedAt := 0, tried := false, rebuilt := false }
/-- What a change of masts and ports makes of the reads under way for a block of member `q`: a target that is an erasure is reconstructed;
members that are lost take no further part, and a rebuild that loses one begins again (R36, R38, R56). -/
def State.reRead (s : State) (g : Segment) (row q : Nat) (b : RBlock) : RBlock :=
  let target := s.memberGlun g q
  let erased := (s.rowErasures g row).map (s.memberGlun g)
  let hit := b.reads.any erased.contains
  if b.reads.isEmpty then b
  else if erased.contains target then
    if b.step < 4 || hit then b.beginStep (max 4 b.step) s.clk.frame (s.rebuildLuns g row q) else b
  else if hit && 4 ≤ b.step then b.beginStep b.step s.clk.frame (s.rebuildLuns g row q)
  else
    let left := b.reads.filter fun x => ! erased.contains x
    if left.isEmpty then b.beginStep b.step s.clk.frame [target]
    else { b with reads := left, due := b.due.filter left.contains, reserves := b.reserves.filter fun x => ! erased.contains x }

/-- Clamp an offset to the tracking limit. -/
def clampTo (lim : Nat) (o : Int) : Int := max (-(lim : Int)) (min (lim : Int) o)
/-- One step towards the side with fewer corrections; the positive side is that of corrections towards 1
(notes/assumptions/13.md). -/
def track (lim : Nat) (o : Int) (z w : Nat) : Int :=
  let o := clampTo lim o
  clampTo lim (if w < z then o + 1 else if z < w then o - 1 else o)
/-- Offsets after a decode that succeeded with these counts; unchanged with tracking off. -/
def State.trackAll (s : State) (os : List Int) (refs : List (Nat × Nat)) : List Int :=
  if s.ctlValue ctlTracking == 0 then os
  else (List.range (max os.length refs.length)).map fun i =>
    let lim := min (s.ctlValue ctlTrackingLimit) s.profile.trackingLimit
    match refs[i]? with
    | some (z, w) => track lim (os.getD i 0) z w
    | none => clampTo lim (os.getD i 0)

/-- The tracked offsets of a member's erase block after a read of it that used them: updated from the counts of a decode that succeeded, and in any
case within the limit (R172). -/
def State.memberTracked (s : State) (g : Segment) (q : Nat) (refs : List (Nat × Nat)) : State :=
  s.modBlock (s.memberGlun g q) (g.members.getD q 0) fun e => { e with offsets := s.trackAll e.offsets refs }

/-- Ask for a furled mast's domains: the wake is done by DOMAIN_WAKE, or an entry under way is aborted (R38, R467). -/
def State.demandMast (s : State) (m : Nat) : State :=
  s.modPwr fun p => { p with entries := p.entries.map fun e =>
    match e.kind with
    | .mast x => if x == m then { e with demanded := some (9 * m) } else e
    | _ => e }

/-- Opcode groups of reads: they transfer data, compare, or only check. -/
def readExtent : Instr → Option Extent
  | .read _ e | .compare _ e _ | .verify _ e => some e
  | _ => none
def isRead (i : Instr) : Bool := (readExtent i).isSome

/-- Namespace of an NVMe command. -/
def Cmd.nsid (c : Cmd) : Nat := ((nvmeHdr c.op).map (·.nsid)).getD 0

/-- Protection information checks of a read block (R101): the status, 0 when they pass. Application tag FFFFh disables them. -/
def State.piCheck (s : State) (e : Extent) (nsid lba : Nat) : Nat :=
  match s.ns? nsid, s.block? nsid lba with
  | some n, some b =>
    if n.lbaf != 1 || b.appTag == 0xFFFF then 0
    else if e.prchkApp && b.appTag != e.appTag then 0x283
    else if e.prchkRef && n.pi == 1 && b.refTag != (e.refTag + (lba - e.slba)) % 2 ^ 48 then 0x284
    else 0
  | _, _ => 0

/-- A block of a read fails with a status, or is served. -/
def RBlock.fail (b : RBlock) (st : Nat) : RBlock := { b with phase := 2, status := st }
def RBlock.serve (b : RBlock) (pi : Nat) : RBlock := if pi == 0 then { b with phase := 1 } else b.fail pi

/-- Enter a host read's loss of one block in the ledger; the command completes when the record is durable (R225). -/
def State.readLoss (s : State) (c : Cmd) (b : RBlock) (cause glun gen : Nat) : State :=
  let full := decide (ledgerLimit ≤ s.media.ledger.length)
  let s := s.enterLoss b.nsid b.lba 1 gen cause 1 c.fn (mastOfLun glun)
  if full then s else s.modCmd c.id fun c => { c with waitsFor := some ((s.journal 8).next - 1) }

/-- The host-complex record of a block's ledger entry while it is not durable (R225). -/
def State.lossPending (s : State) (nsid lba : Nat) : Option Nat :=
  let j := s.journal 8
  ((List.range j.staged.length).find? fun i => match (j.staged[i]? : Option JRec) with
    | some (.lossEntry n l k) => n == nsid && decide (l ≤ lba) && decide (lba < l + k)
    | _ => false).map fun i => j.next - j.staged.length + i
/-- A command that reads an entered block completes when the entry is durable (R225). -/
def State.awaitLoss (s : State) (id nsid lba : Nat) : State :=
  match s.lossPending nsid lba with
  | some n => s.modCmd id fun c => { c with waitsFor := some (max n (c.waitsFor.getD 0)) }
  | none => s

/-- A block that neither its member nor a reconstruction serves waits for its target (R38, R56). -/
def RBlock.waitFor (b : RBlock) (glun key frame : Nat) : RBlock :=
  let b := { b with phase := 0, glun := glun, key := key }
  if b.reads.isEmpty then b else b.beginStep 1 frame [glun]

/-- Look at one unresolved block of a read: fail it, serve it, let it wait, or read it from media (R119, R166, R167, R226). -/
def State.lookAt (s : State) (c : Cmd) (b : RBlock) : State × RBlock :=
  let e := (readExtent c.op).getD { slba := 0, nlb := 0 }
  if b.phase == 1 || b.phase == 2 then (s, b)
  else match s.viewOf b.nsid b.lba with
    | .offline => (s, b.fail 0x1BB)
    | .lost => (s.awaitLoss c.id b.nsid b.lba, b.fail 0x281)
    | .void => (s, b.fail 0x287)
    | .unwritten => (s, if (s.ctrl c.fn c.port1).dulbe then b.fail 0x287 else { b with phase := 1 })
    | .arriving => (s, { b with phase := 3 })
    | .dram => (s, b.serve (s.piCheck e b.nsid b.lba))
    | .media q row unit =>
      match s.seg? q with
      | none => (s, { b with phase := 0 })
      | some g =>
        let x := s.unitGlun g row unit
        match s.unserved g row (memberOf g.width unit row) with
        | some (.lost cause) => (s.readLoss c b cause x g.gen, b.fail 0x281)
        | some (.wake ms) => (each ms State.demandMast s, b.waitFor x (unitKey q row unit) s.clk.frame)
        | some .wait => (s, b.waitFor x (unitKey q row unit) s.clk.frame)
        | none => (s, s.reRead g row (memberOf g.width unit row) { b with phase := 0, glun := x, key := unitKey q row unit })

/-- Every block of a read in turn. -/
def State.lookAll (s : State) (c : Cmd) : State :=
  let (s, bs) := c.blocks.foldl (fun (st : State × List RBlock) b =>
    let (s, b) := st.1.lookAt c b
    (s, st.2 ++ [b])) (s, [])
  s.modCmd c.id fun c => { c with blocks := bs }

/-- The protection information that goes with a block of a read of a Format 1 namespace (R100, R101, R119): none with PRACT set, all ones for an
unwritten block, else a guard computed from the plaintext and the stored tags. -/
def State.piOf (s : State) (c : Cmd) (b : RBlock) (data : Block) : Option PiOut :=
  let strip := ((readExtent c.op).map (·.pract)).getD false
  if strip || ((s.ns? b.nsid).map (·.lbaf)).getD 0 != 1 then none
  else match s.block? b.nsid b.lba with
    | some x => some { guard := Config.piGuard data, app := x.appTag, ref := x.refTag }
    | none => some { guard := BitVec.allOnes 64, app := 0xFFFF, ref := 2 ^ 48 - 1 }
/-- The blocks that a read transfers: those served below the first Offline zone (R550). -/
def State.readData (s : State) (c : Cmd) : List HostBlock :=
  let below := c.blocks.takeWhile fun b => b.status != 0x1BB
  (below.filter fun b => b.phase == 1).map fun b =>
    let data := match s.block? b.nsid b.lba with
      | some x => s.plain x
      | none => 0
    (b.lba, data, s.piOf c b data)

/-- What a finished read completes with, and writes to host memory (R550): the status of its lowest-addressed failing block;
a Compare of served blocks fails with Compare Failure where they differ; a Verify transfers nothing. -/
def State.readResult (s : State) (c : Cmd) : NvmeStatus × List HostBlock × Option Nat :=
  let data := s.readData c
  let failed := c.blocks.find? fun b => b.phase == 2
  match c.op, failed with
  | .read _ _, some b => (⟨b.status / 256, b.status % 256, true⟩, data, some b.lba)
  | _, some b => (⟨b.status / 256, b.status % 256, true⟩, [], some b.lba)
  | .read _ _, none => (stOk, data, none)
  | .compare _ e ds, none =>
    let same := data.all fun (lba, d, _) => ds.getD (lba - e.slba) 0 == d
    (if same then stOk else stCompare, [], none)
  | _, none => (stOk, [], none)

/-- A read whose blocks are all resolved, and whose ledger entries are durable, completes. -/
def State.finishRead (s : State) (id : Nat) : State :=
  match s.cmd? id with
  | none => s
  | some c =>
    if c.phase != .running || c.waitsFor.isSome || c.blocks.any fun b => b.phase == 0 || b.phase == 3 then s
    else
      let (st, data, lba) := s.readResult c
      s.conclude id st data 0 lba

/-- Look again at the unresolved blocks of every read that satisfies `p`: after data arrived, a write became void, a zone or a
mast changed. -/
def State.retryReads (s : State) (p : Cmd → RBlock → Bool) : State :=
  let due := s.io.cmds.filter fun c => c.phase == .running && isRead c.op && c.blocks.any (p c)
  each due (fun s c => match s.cmd? c.id with
    | none => s
    | some c => (s.lookAll c).finishRead c.id) s
/-- Reads that wait for a write (R167). -/
def State.retryArriving (s : State) : State := s.retryReads fun _ b => b.phase == 3

/-- A completed wait for the journal: a read completes, any other command ends with the status kept for it, success unless an action
on one of its zones failed. -/
def State.journalled (s : State) (id : Nat) : State :=
  match s.cmd? id with
  | none => s
  | some c =>
    let s := s.modCmd id fun c => { c with waitsFor := none }
    if isRead c.op then s.finishRead id else s.conclude id (if c.sct == 0 && c.sc == 0 then stOk else ⟨c.sct, c.sc, c.dnr⟩) [] c.result

end Sys2Proof.Machine
end

