-- ==== Sys2Proof/Machine/Tree.lean ====
section
/-! DEFINITION. The Merkle tree of a zone over its sealed blocks (R265 to R268). -/

namespace Sys2Proof.Machine

/-- A leaf over up to 256 sealed blocks (R265). -/
def leafDigest (blocks : List (List Nat)) : Digest := sha256D (0x00 :: blocks.flatten)
/-- A parent node (R266). -/
def parentDigest (l r : Digest) : Digest := sha256D (0x01 :: (bytesLE 32 l.toNat ++ bytesLE 32 r.toNat))
/-- One level up: pairs from the left; a last node without a partner is carried unchanged (R266). -/
def levelUp (f : Digest → Digest → Digest) : List Digest → List Digest
  | l :: r :: rest => f l r :: levelUp f rest
  | l => l
/-- The stored nodes of a tree (R255): the leaves in order, then each higher level, the root last. A last
node that is carried is stored once, on the level where it arose (R266). -/
def nodesAbove : Nat → List Digest → List Digest
  | 0, _ => []
  | fuel + 1, l =>
    if l.length ≤ 1 then []
    else
      let up := levelUp parentDigest l
      up.take (l.length / 2) ++ nodesAbove fuel up
def treeNodes (leaves : List Digest) : List Digest := leaves ++ nodesAbove leaves.length leaves
def rootBy (f : Digest → Digest → Digest) : Nat → List Digest → Digest
  | _, [] => 0
  | _, [d] => d
  | 0, _ => 0
  | fuel + 1, l => rootBy f fuel (levelUp f l)
/-- Root of a tree of leaves; 32 zero bytes without any (R266). -/
def merkleRoot (leaves : List Digest) : Digest := rootBy parentDigest leaves.length leaves

/-- The stored blocks at zone offsets `[lo, lo + n)`, where all of them are sealed. -/
def State.sealedRange (s : State) (nsid zi lo n : Nat) : Option (List Stored) :=
  match s.ns? nsid with
  | none => none
  | some ns =>
    let base := zi * ns.zoneSize s.profile + lo
    (List.range n).foldl (fun acc i => match acc, s.block? nsid (base + i) with
      | some l, some b => if b.sealed then some (l ++ [b]) else none
      | _, _ => none) (some [])
/-- Every block below `written` is sealed. -/
def State.allSealed (s : State) (nsid zi written : Nat) : Bool := (s.sealedRange nsid zi 0 written).isSome
/-- Leaf `i` of a zone of which `w` blocks are covered; none while one of its blocks is not sealed. -/
def State.leafOf (s : State) (nsid zi w i : Nat) : Option Digest :=
  (s.sealedRange nsid zi (256 * i) (min 256 (w - 256 * i))).map fun l => leafDigest (l.map s.storedBytes)
/-- Leaves over the first `w` blocks of a zone: those already computed, the others recomputed from the blocks (R268, R269). -/
def State.treeLeaves (s : State) (nsid zi w : Nat) : List Digest :=
  let z := s.zone nsid zi
  (List.range (leavesOf w)).map fun i =>
    if (256 * (i + 1) ≤ w || w == z.written && z.fullDurable) && decide (i < z.leaves.length) then z.leaves.getD i 0 else (s.leafOf nsid zi w i).getD 0
/-- Root over the first `w` blocks. -/
def State.rootOver (s : State) (nsid zi w : Nat) : Digest := merkleRoot (s.treeLeaves nsid zi w)
/-- Root of a zone that takes no more writes: the root fixed before its Full state was durable, else one over its written blocks (R268, R269). -/
def State.treeRoot (s : State) (nsid zi : Nat) : Digest :=
  let z := s.zone nsid zi
  if z.fullDurable then z.root else s.rootOver nsid zi z.written
/-- The home mast completes the tree of a finished zone (R268). -/
def State.fixRoot (s : State) (nsid zi : Nat) : State :=
  let z := s.zone nsid zi
  let leaves := (List.range (leavesOf z.written)).map fun i =>
    if i < z.leaves.length then z.leaves.getD i 0 else (s.leafOf nsid zi z.written i).getD 0
  s.modZone nsid zi fun z => { z with leaves := leaves, root := merkleRoot leaves, stale := false }

/-- DIGEST_LEAF (R267): the next leaf of a zone, in leaf order, once all its blocks are sealed; a partial last leaf only after the zone
has been finished. -/
def execDigestLeaf (nsid zone : Nat) (s : State) : Res :=
  .next <|
    let z := s.zone nsid zone
    let i := z.leaves.length
    let done := z.state == .full
    let w := if done then z.written else z.wp
    if z.state == .empty || z.state == .offline || decide (leavesOf w ≤ i) || ! done && decide (w < 256 * (i + 1)) then s
    else match s.leafOf nsid zone w i with
      | none => s
      | some d => s.modZone nsid zone fun z => { z with leaves := z.leaves ++ [d], stale := z.stale && decide (i + 1 < leavesOf w) }

end Sys2Proof.Machine
end

