-- ==== Sys2Proof/Machine/Write.lean ====
section
/-! DEFINITION. The write path: arrival and settling of data, sealing and parity, program passes, die operations, journals,
parking, the self-test and the completion of restored rows (R52 to R56, R135 to R165, R214 to R219, R401, R405). -/

namespace Sys2Proof.Machine

/-! ## Units, deputies and rows (R82 to R84, R87, R136, R137) -/

/-- No mast can hold a unit of member `q`: an erasure of the header, or a mast or port that is down (R84). -/
def State.memberDown (s : State) (g : Segment) (q : Nat) : Bool := g.erasures.contains q || s.takesNone (s.memberGlun g q)
/-- The row's deputy: the mast of its lowest-numbered parity unit whose member is not erased (R84). -/
def State.deputy (s : State) (g : Segment) (row : Nat) : Nat :=
  match ((List.range g.width).drop (dataOf g.width)).find? fun u => ! s.memberDown g (memberOf g.width u row) with
  | some u => memberMast s.mastN (memberOf g.width u row)
  | none => s.lowestActive.getD 0
/-- The mast that holds, and whose dirty count takes, codeword unit `u` of a row. -/
def State.unitMast (s : State) (g : Segment) (u row : Nat) : Nat :=
  let q := memberOf g.width u row
  if s.memberDown g q then s.deputy g row else memberMast s.mastN q

def State.modRow (s : State) (seq r : Nat) (f : Row → Row) : State :=
  s.modSeg seq fun g => { g with rows := putBy Row.row (f (g.row r)) g.rows }
/-- Blocks stored at a unit of a segment's row. -/
def State.unitBlocks (s : State) (seq r u : Nat) : List Stored :=
  s.media.blocks.filter fun b => b.seg == seq && b.row == r && b.unit == u
/-- All 16 positions of a data unit are settled (R136): arrived, void or fill. -/
def State.unitSettled (s : State) (g : Segment) (r u : Nat) : Bool :=
  let fill := match (g.row r).fillFrom with
    | some f => 16 - min 16 (f - 16 * u)
    | none => 0
  countIf (·.arrived) (s.unitBlocks g.seq r u) + fill == 16
/-- The first settled and unsealed data unit that a mast's cipher engine is to seal: segment, row, unit. -/
def State.nextUnit (s : State) (m : Nat) : Option (Segment × Nat × Nat) :=
  s.media.segs.findSome? fun g => g.rows.findSome? fun r =>
    ((List.range (dataOf g.width)).find? fun u =>
      ! r.sealedUnits.contains u && s.unitSettled g r.row u && s.unitMast g u r.row == m).map fun u => (g, r.row, u)

/-! ## Sealing (R136, R137, R251, R300) -/

/-- Seal a unit of mast `m` in the engine of mast `e` (R136): each data block takes the next counter value of `e`'s reservation;
nothing happens while a value is lacking. When all k data units are sealed the row's parity goes to its members and its buffers are released (R137). -/
def State.sealUnitAt (s : State) (m e : Nat) (g : Segment) (r u : Nat) : State :=
  let bs := (s.unitBlocks g.seq r u).filter fun b => b.marker == .data && ! b.sealed && ! b.imported
  let got := bs.foldl (fun (st : Option (Mast × List (Nat × Nat))) b =>
    match st with
    | none => none
    | some (k, acc) => (k.takeIv b.keyRef).map fun (v, k') => (k', acc ++ [(b.lba, v)])) (some (s.mast e, []))
  match got with
  | none => s
  | some (k, ivs) =>
    let s := (s.modMast e fun _ => k).modMast m fun k => { k with sealFaults := 0 }
    let s := s.modBlocks (fun b => b.seg == g.seq && b.row == r && b.unit == u) fun b =>
      match ivs.find? (·.1 == b.lba) with
      | some (_, v) => s.sealed { b with sealKey := BitVec.ofNat 256 (ofBytesLE (s.keyBytes b.keyRef)) } m v
      | none => { b with sealed := true, place := if b.place == .openRow then .held else b.place, mast := m }
    let s := s.modRow g.seq r fun w => { w with sealedUnits := dedupN (w.sealedUnits ++ [u]) }
    let w := ((s.seg? g.seq).getD g).row r
    if (List.range (dataOf g.width)).all w.sealedUnits.contains then
      let gaps := (List.range g.width).filter fun q => s.memberDown g q && ! g.erasures.contains q
      let s := if gaps.isEmpty then s else s.log 8 (.gapRow g.seq r gaps)
      s.modRow g.seq r fun w => { w with
        parity := true, gaps := dedupN (w.gaps ++ gaps)
        portGaps := dedupN (w.portGaps ++ gaps.filter fun q => s.portOut (s.memberGlun g q)) }
    else s

/-- SEAL_UNIT (R136): the mast's cipher engine seals its next settled unit. A mast that is not active seals nothing. -/
def execSealUnit (mast : Nat) (s : State) : Res :=
  whenUnit (decide (mast < 8)) <|
    .next (if (s.mast mast).state != .active then s else
      match s.nextUnit mast with
      | none => s
      | some (g, r, u) => s.sealUnitAt mast (s.sealer mast) g r u)

/-! ## Arrival of host data (R139, R401, R405) -/

/-- A write whose blocks all lie in DRAM and passed their guard checks succeeds (R139), in synchronous mirroring once the partner
has acknowledged every block (R381). -/
def State.ackWrite (s : State) (id : Nat) : State :=
  match s.cmd? id with
  | none => s
  | some c =>
    let (nsid, lba, _) := c.range.getD (0, 0, 0)
    let sync := match s.ns? nsid with
      | none => false
      | some n =>
        match (n.zone (lba / max 1 (n.zoneSize s.profile))).mirror.bind s.mirror? with
        | some m => m.mode == 0 && ! m.broken && m.zones.any fun z => z.zone == lba / max 1 (n.zoneSize s.profile) && decide (z.ack < lba % max 1 (n.zoneSize s.profile) + c.range.elim 0 (·.2.2))
        | none => false
    if c.waiting.isEmpty && ! sync && c.phase == .running then s.conclude id stOk [] c.result else s

/-- The blocks of a write become void and its DMA stops (R118). -/
def State.voidBlocks (s : State) (c : Cmd) : State :=
  let s := s.modBlocks (·.cmd == c.id) fun b => { b with marker := .void, dirty := false, arrived := true, payload := 0, place := if b.place == .waiting then .openRow else b.place }
  (s.dropReqs c.id).modCmd c.id fun c => { c with waiting := [] }
/-- A write becomes void (R118), and its command ends with a status. -/
def State.voidWrite (s : State) (c : Cmd) (st : NvmeStatus) : State :=
  let (_, lba, _) := c.range.getD (0, 0, 0)
  ((s.voidBlocks c).conclude c.id st [] 0 (some lba)).retryArriving

/-- Complete a mailbox or MCTP command (R411, R416): BUSY falls, DONE rises with the response, and the interrupt goes out. -/
def State.respond (s : State) (via : Via) (r : Resp) : State :=
  match s.mbx.boxes.find? (·.via == via) with
  | none => s
  | some b =>
    let done (b : Mbx) : Mbx := { b with
      busy := false, done := b.via != .mctp, cmd := none, verdict := none, waiting := false, held := none, resp := some r
      effect := if b.waiting then b.effect else s.clk.frame }
    let s := s.modMbx fun m => { m with boxes := updIf (·.via == via) done m.boxes, order := m.order.filter (· != via) }
    match via with
    | .mctp => s.emit (.mctp b.opcode b.tag r)
    | .bar f mb => if b.intEn then s.interrupt f (s.dual && f == 0 && decide (2 ≤ mb)) b.vector else s

/-- The end of the descriptor walk, hop by hop (R399): more hops than the limit end it with 87h; a malformed chain with the status
NVMe assigns. -/
def State.walkHop (s : State) (c : Cmd) (hops : Nat) (bad : Bool) : State :=
  let n := c.hopsDone + 1
  let s := s.modCmd c.id fun c => { c with hopsDone := n }
  if n ≥ s.ctlValue ctlHopLimit && decide (s.ctlValue ctlHopLimit < hops) then
    (s.raise 483 1 1 [c.cid, c.sq] c.fn).conclude c.id stHopLimit
  else if n < hops then s.request { req := 0, fn := c.fn, port1 := c.port1, cmd := c.id, what := .walk, issued := 0 }
  else if bad then s.conclude c.id stBadChain
  else s.modCmd c.id fun c => { c with walked := true }

/-- A host-memory access of a command failed (R405): by what the request was for. -/
def State.dmaFailed (s : State) (r : DmaReq) (code : Nat) : State :=
  let c? := s.cmd? r.cmd
  let port1 := r.port1
  let q := match r.what with | .sqFetch q => q | _ => (c?.map (·.sq)).getD 0
  let s := (s.raise 482 code 2 [q, r.address] r.fn).errorLog r.fn port1 4 r.address
  match r.what, c? with
  | .walk, some c => s.conclude c.id stDataTransfer
  | .data _, some c => s.voidWrite c stDataTransfer
  | .readBack, some c => (s.modCmd c.id fun c => { c with sct := 0, sc := 4, dnr := true }).tryPost c.id
  | .sqFetch q, _ =>
    let s := s.modCtrl r.fn port1 fun c => { c with sqs := updIf (·.qid == q) (fun x => { x with stalled := true }) c.sqs }
    (s.raise 482 4 2 [q, r.address] r.fn).asyncEvent r.fn port1 0x010400
  | .ring i _, _ => s.ringFailed r.fn i
  | .mailbox mb, _ => s.respond (.bar r.fn mb) { status := 0x0106, argument := r.address }
  | _, _ => s
/-- A mailbox's response is visible in host memory: the command completes (R403). -/
def State.mailboxVisible (s : State) (via : Via) : State :=
  match (s.mbx.boxes.find? (·.via == via)).bind (·.verdict) with
  | some r => s.respond via r
  | none => s

/-- A completion for no outstanding request is discarded and reported through AER (R405). -/
def State.unexpected (s : State) (fn : Nat) : State := (s.raise 482 3 2 [0, 0] fn).emit (.aerUnexpected fn)

inductive WriteKind where
  | write | append | zeroes
  deriving DecidableEq, Repr
/-- The commands that write blocks. -/
def writeExtent : Instr → Option (WriteKind × Extent)
  | .write _ e => some (.write, e)
  | .zoneAppend _ e => some (.append, e)
  | .writeZeroes _ e => some (.zeroes, e)
  | _ => none
/-- The check of R101 and R121 that the protection information of a write's block `i` fails: its guard, whatever PRCHK says; then the tags that
PRCHK names, where the application tag does not turn that off. Reference tags count on Type 1; an append checks them with PIREMAP, and
without it does not. With PRACT none is transferred. -/
def piFails (n : Namespace) (k : WriteKind) (e : Extent) (i : Nat) (pi : HostPi) : Option NvmeStatus :=
  if n.lbaf != 1 || e.pract then none
  else if ! pi.guardOk then some stGuard
  else if pi.app == 0xFFFF then none
  else if e.prchkApp && pi.app != e.appTag then some stAppTag
  else if n.pi == 1 && (if k == .append then e.piremap else e.prchkRef) && pi.ref != (e.refTag + i) % 2 ^ 48 then some stRefTag
  else none
/-- A block with the tags that the host gave it (R101); with PIREMAP the reference tag is that of its address (R121). -/
def Stored.withPi (b : Stored) (n : Namespace) (k : WriteKind) (e : Extent) (pi : HostPi) : Stored :=
  if n.lbaf != 1 || e.pract then b
  else { b with appTag := pi.app, refTag := if k == .append && e.piremap && n.pi == 1 then b.refTag else pi.ref }
/-- A block of write data has arrived, with its protection information (R136): a mismatch voids the write; the last block acknowledges it. -/
def State.dataArrived (s : State) (c : Cmd) (i : Nat) (data : Block) (pi : HostPi) : State :=
  let (nsid, lba, _) := c.range.getD (0, 0, 0)
  let n := (s.ns? nsid).getD { nsid := nsid }
  let (k, e) := (writeExtent c.op).getD (.write, { slba := 0, nlb := 0 })
  match piFails n k e i pi with
  | some st => s.voidWrite c st
  | none =>
    let s := s.modBlocks (fun b => b.cmd == c.id && b.lba == lba + i && b.place == .waiting) fun b =>
      { b.withPi n k e pi with payload := data, arrived := true, place := .openRow }
    ((s.modCmd c.id fun c => { c with waiting := c.waiting.filter (· != i) }).ackWrite c.id).retryArriving

/-- A completion of an outstanding request (R401, R403, R405): data are placed, a walk advances, what was written is visible, or the access
fails. A completion for a tag that is retired or not in use is unexpected. -/
def State.dmaEnded (s : State) (req : Nat) (result : DmaEnd) (data : Block) (pi : HostPi) : State :=
  match s.io.reqs.find? (·.req == req) with
  | none => s.unexpected 0
  | some r =>
    if r.retiredUntil.isSome || result == .unexpected then s.unexpected r.fn
    else
      let s := s.modIo fun h => { h with reqs := h.reqs.filter (·.req != req) }
      match result, r.what, s.cmd? r.cmd with
      | .ok, .walk, some c =>
        let h := (nvmeHdr c.op).getD { fn := c.fn, sq := c.sq, cid := c.cid }
        s.walkHop c h.hops h.chainBad
      | .ok, .data i, some c => s.dataArrived c i data pi
      | .ok, .readBack, some c => s.tryPost c.id
      | .ok, .ring i due, _ => s.ringVisible r.fn i due
      | .ok, .mailbox mb, _ => s.mailboxVisible (.bar r.fn mb)
      | .ok, _, _ => s
      | .timeout, _, _ => s.dmaFailed r 1
      | _, _, _ => s.dmaFailed r 2

/-- HOST_MEMORY_READ_COMPLETION (R401, R405). -/
def execHostMemoryReadCompletion (req : Nat) (result : DmaEnd) (data : Block) (pi : HostPi) (s : State) : Res :=
  .next (s.dmaEnded req result data pi)

/-! ## Program passes (R52, R89 to R91, R138) -/

/-- A duration in frames as planned on a port: lengthened by 5/4 while it is degraded (R55). -/
def State.planned (s : State) (glun ns : Nat) : Nat :=
  if (s.port (portOfLun glun)).state == .degraded then framesOf (ceilDiv (ns * 5) 4) else framesOf ns

/-- Member index and group of a LUN in its stripe set of a width (R77, R78). -/
def lunSet (n w glun : Nat) : Nat × Nat :=
  let u := w / n
  (portOfLun glun % 4 / u, localOfLun glun)
/-- Starting non-suspendable work on the LUN keeps the budget of every complete stripe set it belongs to (R90, R91). -/
def State.budgetAllows (s : State) (glun : Nat) : Bool :=
  (widthsOf s.variant).all fun w =>
    let (g, l) := lunSet s.mastN w glun
    ! s.complete w g l ||
      decide (countIf s.nonSuspendable (s.setLuns w g l) + 1 ≤ max 1 (s.effBudget w g l))
/-- A program or erase that runs on the LUN can be suspended now: it is not non-suspendable, and its last allowed suspend keeps the
budget (R90, R174). -/
def State.canSuspend (s : State) (glun : Nat) : Bool :=
  match (s.lun glun).work with
  | none => true
  | some w => ! s.nonSuspendable glun && (decide (w.suspends + 1 < w.limit) || s.budgetAllows glun)
/-- A block's reads or reservations are outstanding on a LUN (R177). -/
def RBlock.holds (b : RBlock) (glun : Nat) : Bool :=
  b.phase == 0 && (b.failedAt == 0 && b.reads.contains glun || b.reserves.contains glun)
/-- The present step of a block still has reads to run on a LUN: they have not ended, and their bursts have not run. -/
def RBlock.pendingOn (b : RBlock) (frame glun : Nat) : Bool :=
  b.phase == 0 && b.failedAt == 0 && b.reads.contains glun && ! (b.planned && decide (b.burst ≤ frame))
/-- A command has a read pending on a LUN. -/
def Cmd.readsOn (c : Cmd) (frame glun : Nat) : Bool :=
  isRead c.op && (c.phase == .running || c.phase == .squashed) && c.blocks.any (·.pendingOn frame glun)
/-- A contracted read, one of an instance whose contract has class A or B, is pending on the LUN (R175). -/
def State.contractedOn (s : State) (glun : Nat) : Bool := s.io.cmds.any fun c => c.cls != .c && c.readsOn s.clk.frame glun
/-- Still to read in the lap: released segments are skipped (R204). -/
def State.lapLeft (s : State) : List Nat :=
  s.media.patrol.todo.filter fun q => decide (2 ^ 64 ≤ q) || (s.seg? q).isSome
/-- A slice that is due has reads pending on the LUN: its segment's members, or the LUN's system blocks (R179, R205). -/
def State.patrolOn (s : State) (glun : Nat) : Bool :=
  let p := s.media.patrol
  p.running && decide (p.done < p.issued) && (match s.lapLeft.head? with
    | none => false
    | some q => if 2 ^ 64 ≤ q then q - 2 ^ 64 == glun else match s.seg? q with
      | some g => (List.range g.width).any fun m => ! g.erasures.contains m && s.memberGlun g m == glun
      | none => false)
/-- A read is pending on the LUN: no program or erase starts there before it (R176, R179). -/
def State.readOn (s : State) (glun : Nat) : Bool := (s.io.cmds.any fun c => c.readsOn s.clk.frame glun) || s.patrolOn glun
/-- The effective budget is 0 in a set of the LUN: no erase starts on its members (R180). -/
def State.eraseBarred (s : State) (glun : Nat) : Bool :=
  (widthsOf s.variant).any fun w =>
    let (g, l) := lunSet s.mastN w glun
    s.complete w g l && s.effBudget w g l == 0

/-- Member `q`'s unit of a row is held by its mast: header, sealed data, parity, or nothing to hold past the last row (R138). -/
def unitHeld (g : Segment) (q r : Nat) : Bool :=
  let past := match g.lastRow with | some x => decide (x < r) | none => false
  if r == 0 || past then true
  else
    let u := unitOf g.width q r
    if u < dataOf g.width then (g.row r).sealedUnits.contains u else (g.row r).parity

/-- Wordlines whose pass `i` has completed on a member. -/
def Segment.passes (g : Segment) (q i : Nat) : Nat := (((g.progress.find? (·.1 == q)).map (·.2)).getD []).getD i 0
/-- Wordlines that a segment is programmed to. -/
def State.wordlinesOf (s : State) (g : Segment) : Nat := match g.lastRow with | some r => wordlineOf s.profile r + 1 | none => wordlines s.profile
/-- The next pass of a block, and its wordline, after those that have completed (R74, R138): the last pass that the profile's order permits. The
first pass of a wordline takes its units; pass i of wordline w follows pass i - 1 of wordline w + lag. -/
def State.nextPass (s : State) (n : Nat) (held : Nat → Bool) (passes : Nat → Nat) : Option (Nat × Nat) :=
  let p := s.profile
  let may (i : Nat) : Bool :=
    let w := passes i
    decide (w < n) && (if i == 0 then held w else decide (min n (w + 1 + p.passLag) ≤ passes (i - 1)))
  ((List.range p.passesPerWl).reverse.find? may).map fun i => (i, passes i)
/-- Every unit of a wordline on a member is held (R138). -/
def State.wordlineHeld (s : State) (g : Segment) (q w : Nat) : Bool :=
  let p := s.profile
  (List.range (rowsPerWl p)).all fun i => decide (rowsOf p ≤ w * rowsPerWl p + i) || unitHeld g q (w * rowsPerWl p + i)
/-- The segment whose units a segment takes: the destination of a relocation copies its source (R159). -/
def State.sourceOf (s : State) (g : Segment) : Segment := (s.media.segs.find? fun x => x.dest == some g.seq).getD g

/-- A pass that a LUN can take: segment, member, erase block, pass, wordline. -/
structure NextPass where
  seg : Segment
  member : Nat
  block : Nat
  pass : Nat
  wl : Nat
  deriving DecidableEq, Repr
/-- The next pass that a LUN can take: of a member rewrite under way, or of a segment, whose allocation record is durable; the block is erased. A
segment to be replaced takes no pass, except while none can be obtained (R138, R157, R211, R214). -/
def State.passOn (s : State) (glun : Nat) : Option NextPass :=
  s.media.segs.findSome? fun g =>
    match (List.range g.width).find? fun q => s.memberGlun g q == glun with
    | none => none
    | some q =>
      match g.moves.find? (·.member == q) with
      | some mv =>
        if (s.journal g.home).staged.contains (.allocation g.seq) then none
        else (s.nextPass (s.wordlinesOf g) (fun _ => true) (mv.passes.getD · 0)).map fun x =>
          { seg := g, member := q, block := mv.block, pass := x.1, wl := x.2 }
      | none =>
        let b := g.members.getD q 0
        let src := s.sourceOf g
        if g.erasures.contains q || (g.replace && (! s.media.readPreserve || g.dest.isSome)) ||
            (s.journal g.home).staged.contains (.allocation g.seq) || (! ((s.lun glun).block b).erased && g.passes q 0 == 0) then none
        else (s.nextPass (s.wordlinesOf src) (s.wordlineHeld src q) (g.passes q)).map fun x =>
          { seg := g, member := q, block := b, pass := x.1, wl := x.2 }
/-- Codewords of a wordline on every plane: the data-in bursts of a pass (R52, R183). -/
def passBursts (p : MediaProfile) : Nat := p.pagesPerWl * p.planes * (p.pageMain / 4096)
/-- A die operation that media core 0 is to start: its command, and a pass's data, are for the next plans (R51). -/
def State.dieWork (s : State) (glun : Nat) (k : DieOp) (block ns limit bursts : Nat) : DieWork := {
  kind := k, block := block, started := s.clk.frame, plannedEnd := s.clk.frame + 1 + s.planned glun ns, limit := limit, cmd := true
  dataLeft := bursts, dur := s.planned glun ns }

/-- PROGRAM_PASS_ISSUE (R138, R157): the mast issues the next pass that it holds every page of, on an idle LUN of a usable port. Non-suspendable
work keeps the budget (R90). -/
def execProgramPassIssue (glun : Nat) (s : State) : Res :=
  whenUnit (decide (glun < 1024)) <| .next <|
    let p := s.profile
    let port := s.port (portOfLun glun)
    if (s.mast (mastOfLun glun)).state != .active || port.state == .fenced || port.state == .failed || s.lunExcluded glun ||
        (s.lun glun).work.isSome || s.readOn glun || s.dumping then s
    else
      match s.passOn glun with
      | none => s
      | some x =>
        let final := x.pass + 1 == p.passesPerWl
        let kind : DieOp := if final then .finePass else .coarsePass
        let limit := suspendLimit p kind x.seg.archival
        if limit == 0 && ! s.budgetAllows glun then s
        else
          let ns := if final then (if x.seg.archival then p.fineArchNs else p.fineStdNs) else p.coarseNs
          s.modLun glun fun l => { l with work := some { s.dieWork glun kind x.block ns limit (passBursts p) with
            ref1 := x.seg.seq, ref2 := x.wl, pass := x.pass } }

/-- BLOCK_ERASE (R158, R159, R163, R219, R231): erase a pending-erase block whose records are durable, a taken pending-erase block, or a rescue
block whose rescue-retired record is durable, on an idle LUN, within the budget; never before the source's map commit. -/
def execBlockErase (glun block : Nat) (s : State) : Res :=
  whenUnit (decide (glun < 1024)) <| .next <|
    let p := s.profile
    let b := (s.lun glun).block block
    let due := b.state == .pendingErase && (s.lun glun).poolBlock p block || (b.state == .allocated && ! b.erased)
    let rescue := (s.mast (mastOfLun glun)).rescueRetired.contains (glun, block)
    let marked := ! (s.journal (mastOfLun glun)).staged.any fun r => match r with
      | .blockState g b _ _ => g == glun && b == block
      | _ => false
    let limit := suspendLimit p .erase false
    let ok := (s.lun glun).work.isNone && ! s.readOn glun && (limit != 0 || s.budgetAllows glun) && ! s.eraseBarred glun && ! s.dumping &&
      (s.mast (mastOfLun glun)).state == .active && ! s.lunErased glun && ! s.lunExcluded glun
    if ! ok then s
    else if (due && marked) || rescue then
      s.modLun glun fun l => { l with work := some (s.dieWork glun .erase block p.eraseNs limit 0) }
    else s

/-! ## Relocation of a segment (R159, R211, R214 to R216) -/

/-- Members whose report a row needs: all that are neither erased nor gaps (R158). -/
def State.rowMembers (s : State) (g : Segment) (r : Row) : List Nat :=
  (List.range g.width).filter fun q => ! s.memberDown g q && ! r.gaps.contains q
/-- Write a row's row-durable record once every member it needs has reported (R158). -/
def State.checkRow (s : State) (seq r : Nat) : State :=
  match s.seg? seq with
  | none => s
  | some g =>
    let x := g.row r
    if ! x.durable && x.parity && (s.rowMembers g x).all x.reported.contains then s.log 8 (.rowDurable seq r) else s

/-- Begin to copy a segment into a new one (R159, R214): the destination takes the source's rows, held in DRAM or read from flash; the source stays
mapped until the map record commits. None when no segment is obtainable. -/
def State.replaceSegment (s : State) (seq : Nat) : Option State :=
  match s.seg? seq with
  | none => none
  | some g =>
    match s.allocSegment { g with
      replaced := g.seq, erasures := [], candidates := [], lapCandidates := [], verified := [], triedLap := false, refresh := false
      wear := false, dest := none, revision := 0, replace := false, progress := [], finals := [], moves := [], headerSent := false
      portErasures := []
      rows := g.rows.map fun (r : Row) => { r with finals := [], reported := [], durable := false, gaps := [], portGaps := [] } } with
    | none => none
    | some (d, s) => some (s.modSeg seq fun g => { g with dest := some d })
/-- Wordlines of a member whose final pass is durable. -/
def Segment.finalsOf (g : Segment) (q : Nat) : Nat := ((g.finals.find? (·.1 == q)).map (·.2)).getD 0
/-- The copy has reached every row that the source has programmed, or has been finished at (R159, R214). -/
def State.copied (s : State) (g d : Segment) : Bool :=
  let need := if g.lastRow.isSome || g.full then s.wordlinesOf g else maxOf (g.finals.map (·.2))
  (List.range d.width).all fun q => d.erasures.contains q || decide (need ≤ d.finalsOf q)
/-- Once a copy is complete and its allocation record durable, its map record is written in the home mast's and the host complex's
journals (R157, R159). -/
def State.copyDone (s : State) (dst : Nat) : State :=
  match s.media.segs.find? fun g => g.dest == some dst with
  | none => s
  | some g =>
    match s.seg? dst with
    | none => s
    | some d =>
      let r := JRec.mapRecord 1 g.seq dst
      if ! s.copied g d || (s.journal d.home).staged.contains (.allocation dst) || (s.journal 8).staged.contains r ||
          (s.journal g.home).staged.contains r then s
      else (s.log g.home r).log 8 r

/-- Blocks that a relocation has copied and that the ledger names are loss blocks now (R212). -/
def State.markLoss (s : State) (p : Stored → Bool) : State :=
  s.modBlocks (fun b => p b && s.inLedger b.nsid b.lba) fun b => { b with
    marker := .loss, payload := BitVec.ofNat 32768 (s.lossCause b.nsid b.lba), tag := 0, sealKey := 0 }
/-- Commit of a segment replacement: the zone or region maps the destination and the source becomes pending-erase. Nothing happens
when the relocation has ended (R160). -/
def State.commitReplacement (s : State) (src dst : Nat) : State :=
  match s.seg? src, s.seg? dst with
  | some g, some d =>
    if g.dest != some dst then s
    else
      let s := each g.verified (fun s lba => s.removeLoss g.nsid lba) s
      let s := s.modBlocks (fun b => b.copyOf == some (g.nsid, src)) fun b => { b with copyOf := some (g.nsid, dst) }
      let s := s.markLoss fun b => b.seg == src && b.nsid == g.nsid
      let s := s.modBlocks (·.seg == src) fun b => { b with seg := dst, mast := s.unitMast d b.unit b.row }
      let sub (l : List Nat) : List Nat := l.map fun x => if x == src then dst else x
      let s := s.modNs g.nsid fun n => { n with
        zones := n.zones.map fun z => { z with segs := sub z.segs }
        map := n.map.map fun e => (e.1, if e.2 == src then dst else e.2)
        cseg := n.cseg.map fun x => if x == src then dst else x }
      let s := s.modSeg dst fun x => { x with
        rows := g.rows.map (fun (r : Row) => { r with finals := (x.row r.row).finals, reported := (x.row r.row).reported, durable := (x.row r.row).durable, gaps := [], portGaps := [] })
        full := g.full, lastRow := g.lastRow, headerSent := true, valid := g.valid }
      let s := s.modBlocks (fun b => b.seg == dst && b.nsid == g.nsid) fun b =>
        if (((s.seg? dst).getD d).row b.row).reported.contains (memberOf d.width b.unit b.row) then { b with place := .flash, dirty := false } else b
      let s := each ((s.seg? dst).elim [] (·.rows)) (fun s r => s.checkRow dst r.row) s
      s.releaseSegment src
  | _, _ => s

/-- A program pass failed (R214, R215): the block is retired; a failed destination of a segment or member starts again with a new one; a
segment is due for replacement and keeps the member as an erasure until then. -/
def State.programFailed (s : State) (glun block seq : Nat) : State :=
  let s := s.retire glun block 1
  let moved (g : Segment) (mv : Move) : Bool := s.memberGlun g mv.member == glun && mv.block == block
  match s.media.segs.find? fun g => g.dest == some seq with
  | some src => (s.modSeg src.seq fun g => { g with dest := none }).releaseSegment seq
  | none =>
    if (s.seg? seq).any fun g => g.moves.any (moved g) then s.modSeg seq fun g => { g with moves := g.moves.filter fun mv => ! moved g mv }
    else s.modSeg seq fun g => { g with
      replace := true
      erasures := dedupN (g.erasures ++ (List.range g.width).filter fun q => s.memberGlun g q == glun) }
/-- A member erase block becomes a rewrite candidate (R209); more of them in one lap than the busy budget make the segment due for
refresh (R210). -/
def State.candidate (s : State) (seq member : Nat) : State :=
  s.modSeg seq fun g =>
    let lap := dedupN (g.lapCandidates ++ [member])
    { g with candidates := dedupN (g.candidates ++ [member]), lapCandidates := lap
             refresh := g.refresh || decide (busyBudget g.width < lap.length) }
/-- What the reads of a relocation of a segment found (R209, R212, R225): identities that do not match raise their event, members become rewrite
candidates, and blocks that no copy provides are entered in the loss ledger, so that they are copied as loss blocks. -/
def State.copyFound (s : State) (g : Segment) (r : CopyReport) : State :=
  let here (lba : Nat) : Option Stored := (s.block? g.nsid lba).bind fun b => if b.seg == g.seq && b.place == .flash && b.marker == .data then some b else none
  let s := each (r.mismatched.filter fun l => (here l).isSome) (fun s l => s.raise 595 1 2 [g.nsid, l, 0]) s
  let s := each (r.decodes.filter fun x => decide (x.1 < g.width)) (fun s (q, refs) => s.memberTracked g q refs) s
  let s := each (r.members.filter fun x => decide (x.1 < g.width) && (decide (2 ≤ x.2.2) || decide (s.profile.rewriteBits < x.2.1)))
    (fun s x => s.candidate g.seq x.1) s
  each ((dedupN r.lost).filter fun l => (here l).isSome && ! s.inLedger g.nsid l) (fun s l =>
    match here l with
    | some b => s.enterLoss g.nsid l 1 g.gen 1 2 0 (mastOfLun (s.memberGlun g (memberOf g.width b.unit b.row)))
    | none => s) s

/-- A segment that is needed for data already admitted cannot be obtained: an active zone is finished, and the device enters
read-preserve (R214, R232, R233). -/
def State.noSegment (s : State) (g : Segment) : State :=
  match s.ns? g.nsid, g.zone with
  | some n, some zi => (if (n.zone zi).state.active then s.finishByDevice n zi else s).enterReadPreserve
  | _, _ => s.enterReadPreserve
/-! ## Ends of die operations (R52, R53, R138, R157, R214 to R216) -/

/-- A pass completed (R138, R157): it is journalled; the blocks of a final pass leave the dirty count at once. -/
def State.passDone (s : State) (glun : Nat) (w : DieWork) : State :=
  match s.seg? w.ref1 with
  | none => s
  | some g =>
    match (List.range g.width).find? fun q => s.memberGlun g q == glun with
    | none => s
    | some q =>
      let more (passes : Nat → Nat) : List Nat := (List.range s.profile.passesPerWl).map fun i => passes i + bitOf (i == w.pass) 0
      if w.block != g.members.getD q 0 then
        let mine (mv : Move) : Bool := mv.member == q && mv.block == w.block
        let next (mv : Move) : Move := { mv with passes := more fun i => mv.passes.getD i 0 }
        (s.modSeg g.seq fun g => { g with moves := updIf mine next g.moves }).log (mastOfLun glun) (.passComplete g.seq q w.ref2 (w.pass + 1) w.block)
      else
      let done := more (g.passes q)
      let s := s.modSeg g.seq fun g => { g with progress := (g.progress.filter (·.1 != q)) ++ [(q, done)], headerSent := true }
      let s := s.log (mastOfLun glun) (.passComplete g.seq q w.ref2 (w.pass + 1) w.block)
      if w.kind != .finePass then s
      else s.modBlocks (fun b => b.seg == g.seq && wordlineOf s.profile b.row == w.ref2 && memberOf g.width b.unit b.row == q)
        fun b => { b with dirty := false }

/-- An erase ended well: its record is written, and the block is erased and its count raised once that is durable, so that a lost record
brings a later erase, counted once (R157, R163). -/
def State.eraseDone (s : State) (glun block : Nat) : State :=
  s.log (mastOfLun glun) (.blockState glun block 3 (((s.lun glun).block block).erases + 1))
/-- A block's free record is durable: it is free and erased with its new count; one that a segment has taken stays allocated. A rescue block
returns its slots (R145). -/
def State.blockFree (s : State) (glun block erases : Nat) : State :=
  let s := s.modMast (mastOfLun glun) fun k => { k with rescue := k.rescue.filter fun (r : Nat × Nat × Nat) => ! (r.1 == glun && r.2.1 == block), rescueRetired := k.rescueRetired.filter (· != (glun, block)) }
  let b := (s.lun glun).block block
  let into : BlockState := if b.state != .pendingErase then b.state else if (s.lun glun).poolBlock s.profile block then .free else .system
  if b.state == .retired then s
  else s.modBlock glun block fun b => { b with erases := erases, erased := true, state := into, offsets := [] }

/-- A segment none of whose passes has begun gives way to its replacement at once (R216). -/
def State.wholeAllocation (s : State) (seq : Nat) : State :=
  match (s.seg? seq).bind (·.dest) with
  | some d => s.commitReplacement seq d
  | none => s
/-- An erase failed (R216): the block is retired; a segment that took it takes another block of the LUN, or moves as a whole before
its first program, or is served from rescue records while its zone is finished, until a segment can be obtained for it (R233). -/
def State.eraseFailed (s : State) (glun block : Nat) : State :=
  let taken := ((s.lun glun).block block).state == .allocated
  let owner := s.media.segs.find? fun g => (List.range g.width).any fun q => s.memberGlun g q == glun && g.members.getD q 0 == block && ! g.erasures.contains q
  let s := s.retire glun block 2
  match taken, owner with
  | true, some g =>
    match s.pickBlock glun with
    | some b =>
      let q := ((List.range g.width).find? fun q => s.memberGlun g q == glun).getD 0
      (s.modBlock glun b fun e => { e with state := .allocated, erased := e.state == .free }).modSeg g.seq fun g => { g with members := g.members.set q b }
    | none =>
      match s.replaceSegment g.seq with
      | some s' => s'.wholeAllocation g.seq
      | none => ((s.park g.nsid (g.zone.getD 0)).modSeg g.seq fun g => { g with replace := true }).noSegment g
  | _, _ => s

/-- A frame is an overrun frame of a port, which carries entries of it (R53, R54), with the reads that it meets (R195). -/
def State.overrun (s : State) (p entries cycles : Nat) : State :=
  (s.modPort p fun x => { x with overrunNow := true, carriedEntries := x.carriedEntries + entries, largest := max x.largest cycles }).modCmds
    (fun c => c.phase == .running && c.bounded && c.luns.any fun g => portOfLun g == p) fun c => { c with xOverrun := true }
/-- A port takes plans: it is normal or degraded, and its mast is active (R55). -/
def State.takesPlans (s : State) (p : Nat) : Bool :=
  (s.mast (mastOfPort p)).state == .active && ((s.port p).state == .normal || (s.port p).state == .degraded)
/-- Entries run from a cycle on in their order, none before its own first cycle: those that end by cycle 1,999, and those not started, which
are carried, the first that could not end and all after it (R53, R54). -/
def runEntries (from_ : Nat) (l : List PlanEntry) : List PlanEntry × List PlanEntry :=
  let r := l.foldl (fun (st : Nat × List PlanEntry × List PlanEntry) e =>
    let at_ := max st.1 e.start
    if st.2.2.isEmpty && decide (at_ + e.cycles ≤ 2000) then (at_ + e.cycles, st.2.1 ++ [{ e with start := at_ }], [])
    else (st.1, st.2.1, st.2.2 ++ [{ e with start := 0 }])) (from_, [], [])
  r.2
/-- The read block that an entry belongs to. -/
def State.modRef (s : State) (e : PlanEntry) (f : RBlock → RBlock) : State :=
  match e.ref with
  | none => s
  | some (id, i) => s.modCmd id fun c => { c with blocks := c.blocks.modify i f }
/-- The operation of a LUN. -/
def State.modWork (s : State) (glun : Nat) (f : DieWork → DieWork) : State :=
  s.modLuns fun l => l.map fun x => if x.glun == glun then { x with work := x.work.map f } else x
/-- An entry that was not in the complete part of its plan is for a later plan (R51). -/
def State.unplan (s : State) (e : PlanEntry) : State :=
  if e.ref.isSome then s.modRef e fun b =>
    if e.kind == 0 then { b with sent := false }
    else if e.kind == 2 then { b with planned := false, due := b.due ++ [e.lun] } else b
  else s.modWork e.lun fun w =>
    if e.kind == 0 then { w with cmd := true } else if e.kind == 1 then { w with dataLeft := w.dataLeft + 1 } else w
/-- An entry runs in the present frame: a read's time counts from its commands, an operation's from its command or its last data; a suspend
and a resume take place (R51, R52, R175). -/
def State.ranEntry (s : State) (e : PlanEntry) : State :=
  let f := s.clk.frame
  if e.ref.isSome then s.modRef e fun b =>
    if e.kind == 0 then { b with since := max b.since f } else if e.kind == 2 then { b with burst := max b.burst f } else b
  else s.modWork e.lun fun w =>
    if e.kind ≤ 1 then { w with plannedEnd := f + w.dur }
    else if e.kind == 4 && ! w.suspended then
      { w with suspended := true, suspends := w.suspends + 1, idleFrom := f + s.planned e.lun s.profile.suspendNs }
    else if e.kind == 5 then { w with suspended := false } else w
/-- An entry that is carried: a read's commands or bursts run in the next frame at the earliest. -/
def State.lateEntry (s : State) (e : PlanEntry) : State :=
  let f := s.clk.frame + 1
  s.modRef e fun b => if e.kind == 0 then { b with since := f } else if e.kind == 2 then { b with burst := f } else b
/-- In the present frame the entries of a LUN run `delay` cycles late, from its poll on, or from its first entry where it has none: the
entries after them are delayed in their order, and those that can no longer end are carried (R53). -/
def State.delayEntries (s : State) (glun delay : Nat) : State :=
  let p := portOfLun glun
  let x := s.port p
  let polls := x.run.any fun e => e.lun == glun && e.kind == 3
  let hit (e : PlanEntry) : Bool := e.lun == glun && (e.kind == 3 || ! polls)
  let before := x.run.takeWhile fun e => ! hit e
  match x.run.dropWhile fun e => ! hit e with
  | [] => s
  | e :: rest =>
    let t := maxOf (before.map fun e => e.start + e.cycles)
    let (run, carried) := runEntries t ({ e with start := e.start + delay } :: rest)
    let s := s.modPort p fun x => { x with run := before ++ run, carried := carried ++ x.carried }
    each carried (fun s e => s.lateEntry e) s

/-! ## Journals (R156 to R160) -/

/-- The row's deputy releases the units without a mast once every parity unit of a member that is not erased is durable (R84). -/
def State.releaseDeputy (s : State) (seq r : Nat) : State :=
  match s.seg? seq with
  | none => s
  | some g =>
    let x := g.row r
    let gone (q : Nat) : Bool := s.memberDown g q || x.gaps.contains q
    let parity := ((List.range g.width).drop (dataOf g.width)).map fun u => memberOf g.width u r
    if ! (x.parity && parity.all fun q => gone q || x.finals.contains q) then s
    else s.modBlocks (fun b => b.seg == seq && b.row == r && gone (memberOf g.width b.unit r)) fun b => { b with place := .flash, dirty := false }
/-- A durable final pass is reported to the host complex (R158): the member's blocks are served from flash, and a row that every
member has reported gets its row-durable record. -/
def State.reportFinal (s : State) (seq q wl : Nat) : State :=
  match s.seg? seq with
  | none => s
  | some g =>
    let p := s.profile
    let rows := (List.range (rowsPerWl p)).map (wl * rowsPerWl p + ·)
    let s := s.modBlocks (fun b => b.seg == seq && wordlineOf p b.row == wl && memberOf g.width b.unit b.row == q)
      fun b => { b with place := .flash, dirty := false }
    let s := s.modSeg seq fun g => { g with finals := g.finals.filter (·.1 != q) ++ [(q, max (g.finalsOf q) (wl + 1))] }
    each rows (fun s r =>
      let live := r != 0 && (s.sourceOf g).rows.any (·.row == r)
      if ! live then s
      else
        ((s.modRow seq r fun x => { x with finals := dedupN (x.finals ++ [q]), reported := dedupN (x.reported ++ [q]) }).releaseDeputy seq r).checkRow seq r) s

/-- A row is durable (R158): its deputy's copies and rescue copies are obsolete; the last row of a finished zone makes its trailer
durable. -/
def State.rowDurable (s : State) (seq r : Nat) : State :=
  match s.seg? seq with
  | none => s
  | some g =>
    let s := s.modRow seq r fun x => { x with durable := true }
    let s := s.modBlocks (fun b => b.seg == seq && b.row == r) fun b => { b with place := .flash, dirty := false, rlun := 0, rblk := 0, unindexed := false }
    let s := (s.dropBlocks fun b => b.nsid == 0 && b.seg == seq && b.row == r && b.copyOf.isNone).retireRescue
    let remap (nsid src : Nat) (b : Stored) : JRec := .convMap nsid b.lba src seq r b.unit b.idx
    let twice (s : State) (m : JRec) : State := (s.log g.home m).log 8 m
    let s := each (s.media.blocks.filter fun b => b.seg == seq && b.row == r && b.copyOf.isSome) (fun s b =>
      twice s (remap (b.copyOf.getD (0, 0)).1 (b.copyOf.getD (0, 0)).2 b)) s
    let s := if g.zone.isSome then s else each (s.media.blocks.filter fun b =>
      b.seg == seq && b.row == r && b.copyOf.isNone && b.marker == .data) (fun s b => twice s (remap b.nsid 0 b)) s
    match g.zone, g.lastRow with
    | some zi, some l => if l == r then s.modZone g.nsid zi fun z => { z with trailer := true } else s
    | _, _ => s

/-- Commit of a compaction copy (R223): the LBA moves to the copy if it still maps to the copied block; a source left without valid
blocks becomes pending-erase. -/
def State.commitRemap (s : State) (nsid lba src dst row unit idx : Nat) : State :=
  let copy (b : Stored) : Bool := b.nsid == 0 && b.copyOf == some (nsid, src) && b.lba == lba && b.seg == dst && b.row == row && b.unit == unit && b.idx == idx
  if ! s.media.blocks.any copy then s
  else
    let still := match s.ns? nsid, s.block? nsid lba with
      | some n, some b => n.map.contains (lba, src) && b.seg == src
      | _, _ => false
    let s := s.dropBlocks copy
    if ! still then s
    else
      let s := s.modNs nsid fun n => { n with map := n.map.map fun e => if e.1 == lba then (lba, dst) else e }
      let s := s.modBlocks (fun b => b.nsid == nsid && b.lba == lba) fun b => { b with seg := dst, row := row, unit := unit, idx := idx, place := .flash }
      let s := s.markLoss fun b => b.nsid == nsid && b.lba == lba
      let s := (s.modSeg src fun g => { g with valid := g.valid - 1 }).modSeg dst fun g => { g with valid := g.valid + 1 }
      match s.seg? src with
      | some g => if g.valid == 0 then (s.releaseSegment src).modNs nsid fun n => { n with csegsLeft := n.csegsLeft + 1 } else s
      | none => s

/-- Commit of a member rewrite (R211, R217): the segment maps the new erase block, which holds every unit of the member, and the old one becomes
pending-erase; the new header revision clears the member's erasure bit (R56, R254). -/
def State.commitMember (s : State) (seq q b : Nat) : State :=
  match s.seg? seq with
  | none => s
  | some g =>
    let x := s.memberGlun g q
    let old := g.members.getD q 0
    match g.moves.find? fun mv => mv.member == q && mv.block == b with
    | none => s
    | some mv =>
      let s := if g.erasures.contains q then s else
        (s.modBlock x old fun e => { e with state := .pendingErase, erased := false }).log (mastOfLun x) (.blockState x old 2 ((s.lun x).block old).erases)
      let here (lba : Nat) : Bool := match s.block? g.nsid lba with
        | some x => x.seg == seq && memberOf g.width x.unit x.row == q
        | none => false
      let s := each (g.verified.filter here) (fun s lba => s.removeLoss g.nsid lba) s
      let s := s.markLoss fun b => b.seg == seq && b.nsid == g.nsid && b.place == .flash && memberOf g.width b.unit b.row == q
      let s := s.modSeg seq fun g => { g with
        members := g.members.set q b, revision := g.revision + 1, erasures := g.erasures.filter (· != q), portErasures := g.portErasures.filter (· != q)
        verified := g.verified.filter (! here ·), moves := g.moves.filter (·.member != q)
        progress := g.progress.filter (·.1 != q) ++ [(q, mv.passes)]
        candidates := g.candidates.filter (· != q), rows := g.rows.map fun (r : Row) => { r with gaps := r.gaps.filter (· != q), portGaps := r.portGaps.filter (· != q) } }
      each (List.range mv.durable) (fun s wl => s.reportFinal seq q wl) s
/-- A final pass is durable: of a segment's member it is reported (R158); of a member rewrite it counts, and with the last one the rewrite's map
record is written (R159). -/
def State.finalDurable (s : State) (seq q wl block : Nat) : State :=
  match s.seg? seq with
  | none => s
  | some g =>
    if g.members.getD q 0 == block then (s.reportFinal seq q wl).copyDone seq
    else match g.moves.find? fun mv => mv.member == q && mv.block == block with
      | none => s
      | some mv =>
        let n := max mv.durable (wl + 1)
        let s := s.modSeg seq fun g => { g with moves := updIf (fun mv => mv.member == q && mv.block == block) (fun mv => { mv with durable := n }) g.moves }
        let r := JRec.memberMap seq q block
        if n == s.wordlinesOf g && mv.durable != n then (s.log g.home r).log 8 r else s

/-- What a record's durability brings about (R115, R117, R138, R150, R157 to R159, R219, R300). -/
def State.recordDurable (s : State) : JRec → State
  | .passComplete seq q wl pass block => if pass == s.profile.passesPerWl then s.finalDurable seq q wl block else s
  | .rowDurable seq r => s.rowDurable seq r
  | .zoneRelease nsid zi gen st => (s.commitRelease nsid zi gen (if st == 0xF then .offline else .empty)).retryArriving
  | .mapRecord kind src dst => if kind == 1 then s.commitReplacement src dst else s
  | .memberMap seq q b => s.commitMember seq q b
  | .convMap nsid lba src dst row unit idx => s.commitRemap nsid lba src dst row unit idx
  | .parkEnd m nsid zi =>
    let held := (s.heldOf nsid zi).filter fun b => b.sealed && b.mast == m && (b.rlun, b.rblk) != (0, 0)
    s.modBlocks (fun b => held.any fun h => h.nsid == b.nsid && h.lba == b.lba) fun b => { b with place := .parked, dirty := false, unindexed := false }
  | .blockState glun b st n => if st == 2 then s.endurance glun b else if st == 3 then s.blockFree glun b n else s
  | .allocation seq => s.copyDone seq
  | .zoneState nsid zi gen st _ =>
    let s := s.modZone nsid zi fun z => if z.gen == gen then { z with safe := ZoneState.ofValue st } else z
    if st == 0xE && (s.zone nsid zi).gen == gen then (s.fixRoot nsid zi).modZone nsid zi fun z => { z with fullDurable := true } else s
  | .reservation 3 ref m start stop =>
    s.modMast m fun k => { k with iv := (k.iv.filter fun r => decide (r.next < r.stop)) ++ [{ keyRef := ref, next := start, stop := stop }] }
  | .rescueRetired x b =>
    if s.enduranceLimit true ≤ ((s.lun x).block b).erases then
      (s.modMast (mastOfLun x) fun k => { k with rescue := k.rescue.filter fun (r : Nat × Nat × Nat) => ! (r.1 == x && r.2.1 == b) }).retire x b 3
    else s.modMast (mastOfLun x) fun k => { k with
      rescueRetired := if k.rescue.any fun r => r.1 == x && r.2.1 == b then k.rescueRetired.filter (· != (x, b)) ++ [(x, b)] else k.rescueRetired }
  | .rescueIndex m => s.modBlocks (fun b => b.mast == m && b.place == .parked) fun b => { b with unindexed := false }
  | .lastKnown _ _ => s.modMedia fun k => { k with ages := k.ages.map fun (a : AgeClock) => { a with recorded := a.written } }
  | .reservation _ _ _ _ _ | .gapRow _ _ _ | .capacitance _ | .lossEntry _ _ _
  | .checkpointEnd | .setting _ _ _ | .readPreserve _ | .powerOnCount _ | .gapCharge _ _
  | .cleanShutdown _ | .keyEntry _ | .lossRemoval _ _ _ | .formatRecord => s

/-- A zone's Full record waits until every block its root covers is sealed (R268). -/
def State.recordReady (s : State) : JRec → Bool
  | .zoneState nsid zi gen st _ => st != 0xE || (s.zone nsid zi).gen != gen || s.allSealed nsid zi (s.zone nsid zi).written
  | _ => true

/-- A log block whose erasure has brought it to the pSLC endurance is retired (R219). -/
def State.logWear (s t : State) (j : Nat) : State :=
  each (s.logLuns j) (fun t x => each ((s.lun x).logRing s.profile) (fun t b =>
    if ((s.lun x).block b).erases < ((t.lun x).block b).erases && decide (t.enduranceLimit true ≤ ((t.lun x).block b).erases) then t.retire x b 3 else t) t) t
/-- JOURNAL_RECORD_DURABLE (R93, R156): both copies of the journal's oldest staged record have completed their program. Commands that
wait for a host-complex record complete with it (R115, R117). -/
def execJournalRecordDurable (journal : Nat) (s : State) : Res :=
  whenUnit (decide (journal < 9)) <| .next <|
    let j := s.journal journal
    match j.staged with
    | [] => s
    | r :: rest =>
      if ! s.recordReady r then s else
      let seq := j.next - j.staged.length
      let s := s.modJournal journal fun j => { j with staged := rest, bytes := j.bytes + s.recordSize r }
      let s := s.logWear (s.journalPage journal) journal
      let s := s.recordDurable r
      if journal != 8 then s
      else
        let due := s.io.cmds.filter fun c => match c.waitsFor with | some n => decide (n ≤ seq) | none => false
        each due (fun s c => s.journalled c.id) s

/-- JOURNAL_CHECKPOINT (R157): after 32 MiB of records since the last checkpoint. -/
def execJournalCheckpoint (journal : Nat) (s : State) : Res :=
  whenUnit (decide (journal < 9)) <|
    .next (if 2 ^ 25 ≤ (s.journal journal).bytes then s.checkpoint journal else s)

/-! ## Parking and energy waits (R146, R150) -/

/-- PARK_DELAY (R150): no block has been admitted to an open zone for the park delay. -/
def execParkDelay (nsid zone : Nat) (s : State) : Res :=
  let z := s.zone nsid zone
  .next (if s.ready && z.state.isOpen && ! z.parked && decide (z.lastFrame + s.ctlValue ctlParkDelay ≤ s.clk.frame) then s.park nsid zone else s)

/-- ENERGY_WAIT_LIMIT (R146, R381): a write held by the energy test or by a mirror's lag for longer than the limit completes with
Namespace Not Ready; nothing is assigned to it. -/
def execEnergyWaitLimit (id : Nat) (s : State) : Res :=
  .next <|
    match s.cmd? id with
    | none => s
    | some c =>
      match c.phase, c.cause, c.heldSince with
      | .held, some .energy, some f | .held, some .mirror, some f =>
        if f + s.ctlValue ctlEnergyWait < s.clk.frame then s.conclude id stNotReady else s
      | _, _, _ => s

/-! ## Capacitance self-test (R148, R149, R523) -/

/-- Answer a Start Capacitance Self-Test that waits for its result (R148): kept with the mailboxes that wait. -/
def isSelfTest : Instr → Bool
  | .startCapacitanceSelfTest _ _ => true
  | _ => false

/-- Mailboxes whose command waits for its end and satisfies `p` (R412). -/
def State.waitingBoxes (s : State) (p : Instr → Bool) : List Via :=
  (s.mbx.boxes.filter fun b => b.waiting && (match b.cmd with | some c => p c | none => false)).map (·.via)
/-- Answer every waiting command that satisfies `p`. -/
def State.answerWaiting (s : State) (p : Instr → Bool) (r : Resp) : State :=
  each (s.waitingBoxes p) (fun s v => s.respond v r) s

/-- SELF_TEST_INTERVAL (R151): the interval has passed since the last test and a test can start. -/
def execSelfTestInterval (v1 : Nat) (s : State) : Res :=
  let due := match s.nrg.lastTest with
    | some f => decide (f + s.ctlValue ctlTestInterval ≤ s.clk.frame)
    | none => true
  .next (if s.ready && due && s.nrg.test.isNone && s.selfTestPasses (bankRaw s.record v1) then s.startSelfTest (bankRaw s.record v1) else s)

/-- HU_LOAD_RELEASE (R148): t_test frames after its assertion the load is released. -/
def execHuLoadRelease (s : State) : Res :=
  .next <|
    match s.nrg.test with
    | some (_, f) =>
      if s.nrg.huLoad && decide (f + s.record.tTest ≤ s.clk.frame) then
        s.modNrg fun n => { n with huLoad := false, released := some s.clk.frame }
      else s
    | none => s

/-- SELF_TEST_RESULT (R148, R149): 4 frames and 16 samples after the release, V2 gives the result. -/
def execSelfTestResult (v2 : Nat) (s : State) : Res :=
  .next <|
    match s.nrg.test, s.nrg.released with
    | some (v1, _), some f =>
      if f + 20 ≤ s.clk.frame then
        let s := s.endSelfTest (capacitanceResult s.record v1 (bankRaw s.record v2))
        s.answerWaiting isSelfTest { status := 0, fields := [s.nrg.result] }
      else s
    | _, _ => s

/-- SELF_TEST_RETRY (R149): 62,500 frames after an invalid result the test is repeated; while `c_meas` is held at 0 no energy is left to test
against, so it is repeated once nothing is dirty. -/
def execSelfTestRetry (v1 : Nat) (s : State) : Res :=
  .next <|
    match s.nrg.invalidFrame with
    | some f =>
      if s.ready && decide (f + 62500 ≤ s.clk.frame) && s.nrg.test.isNone && (s.selfTestPasses (bankRaw s.record v1) || (s.nrg.heldZero && s.dirty.all (· == 0))) then
        (s.startSelfTest (bankRaw s.record v1)).modNrg fun n => { n with invalidFrame := none }
      else s
    | none => s

/-- HU_LOAD_HARDWARE_RELEASE (R523): 6,266 frames after its assertion the hardware timer releases the load, whatever the firmware does; the test under way ends
without a valid result. -/
def execHuLoadHardwareRelease (s : State) : Res :=
  let late := match s.nrg.test with
    | some (_, f) => decide (f + 6266 ≤ s.clk.frame)
    | none => true
  .next <|
    if ! (s.nrg.huLoad && late) then s
    else
      let s := s.endSelfTest 0
      s.answerWaiting isSelfTest { status := 0, fields := [0] }

/-- RESTORED_UNIT_COMPLETION (R138, R162): a restored row is completed as background work: its whole units are loaded and their parity is
recomputed, from flash where they are durable; they are held again, to be programmed normally, unless replay found that the segment must
be replaced. -/
def execRestoredUnitCompletion (seq row : Nat) (s : State) : Res :=
  .next <|
    match s.seg? seq with
    | none => s
    | some g =>
      let w := g.row row
      let parked := s.media.blocks.any fun b => b.seg == seq && b.row == row && b.place == .parked
      let owing := g.rows.any (·.row == row) && ! w.durable && ! w.parity && (List.range (dataOf g.width)).all fun u => w.finals.contains (memberOf g.width u row)
      if ! parked && ! owing then s
      else
        if g.replace then
          (if g.dest.isSome then s else match s.replaceSegment seq with
            | some s' => s'
            | none => s)
        else
          let whole := (List.range (dataOf g.width)).filter fun u => s.unitSettled g row u && (s.unitBlocks seq row u).all (·.sealed)
          s.modRow seq row fun r => { r with sealedUnits := dedupN (r.sealedUnits ++ whole), parity := r.parity || whole.length == dataOf g.width }

end Sys2Proof.Machine
end

