-- ==== Sys2Proof/Machine/Read.lean ====
section
/-! DEFINITION. The read path: translation, decode, the retry ladder, rebuild and constant-time release (R88, R166 to R173, R189
to R197, R209, R299). -/

namespace Sys2Proof.Machine

/-- Zones that an I/O command's extent touches: their home masts. -/
def State.homesOf (s : State) (nsid lba count : Nat) : List Nat :=
  match s.ns? nsid with
  | none => []
  | some n =>
    if n.conv then [n.chome]
    else
      let zs := max 1 (n.zoneSize s.profile)
      dedupN ([lba / zs, (lba + count - 1) / zs].map fun zi => (n.zone zi).home)

/-- TRANSLATION (R166): the home masts of a fetched read return the positions of its blocks; a home mast that is not active returns
nothing. -/
def execTranslation (id : Nat) (s : State) : Res :=
  .next <|
    match s.cmd? id with
    | none => s
    | some c =>
      match readExtent c.op with
      | none => s
      | some e =>
        if (s.homesOf c.nsid e.slba e.nlb).all fun m => (s.mast m).state == .active then
          s.modCmd id fun c => { c with translated := true }
        else s

/-! ## Tracked offsets (R172, R173) -/

/-- The member whose block a read position uses: segment, member index, erase block. -/
def State.memberAt (s : State) (nsid lba : Nat) : Option (Segment × Nat × Nat) :=
  match s.viewOf nsid lba with
  | .media q row unit => (s.seg? q).map fun g =>
      let m := memberOf g.width unit row
      (g, m, g.members.getD m 0)
  | _ => none

def State.setBlockAt (s : State) (id index : Nat) (f : RBlock → RBlock) : State :=
  s.modCmd id fun c => { c with blocks := c.blocks.modify index f }

/-- The contents of a block were read and opened (R168): it is served, after its protection information checks. -/
def State.serveAt (s : State) (c : Cmd) (index : Nat) (b : RBlock) : State :=
  let e := (readExtent c.op).getD { slba := 0, nlb := 0 }
  (s.setBlockAt c.id index fun x => x.serve (s.piCheck e b.nsid b.lba)).finishRead c.id

/-- A block that step 5 could not recover (R169): it is entered in the ledger, and the command completes when that is durable. -/
def State.unrecovered (s : State) (c : Cmd) (index : Nat) (b : RBlock) : State :=
  let gen := match s.memberAt b.nsid b.lba with | some (g, _, _) => g.gen | none => 0
  ((s.readLoss c b 1 b.glun gen).setBlockAt c.id index fun x => x.fail 0x281).finishRead c.id

/-- A tag failure on a block that passed checks 1 to 3 (R168, R299). -/
def State.tagFailed (s : State) (c : Cmd) (index : Nat) (b : RBlock) : State :=
  let ref := match s.block? b.nsid b.lba with | some x => x.keyRef | none => 0
  let owner := (s.keys.slots.find? (·.keyRef == ref)).bind (·.owner)
  let s := (s.raise 596 2 2 [b.nsid, ref, b.lba] (owner.getD 0xFFFF)).modFn c.fn fun f =>
    { f with counters := { f.counters with tagFailures := f.counters.tagFailures + 1 } }
  (s.setBlockAt c.id index fun x => x.fail 0x785).finishRead c.id

/-- The bursts of a block's present step have run (R171). -/
def RBlock.arrived (b : RBlock) (frame : Nat) : Bool := b.planned && decide (b.burst ≤ frame)
/-- The present step reads members other than the target, for a rebuild. -/
def RBlock.rebuilds (b : RBlock) : Bool := b.reads.any (· != b.glun)
/-- The target's part of the present step, or its rebuild, has failed; with nothing left of it the step has failed, as of the frame of its last
data-out burst (R171). -/
def RBlock.failTarget (b : RBlock) : RBlock :=
  { b with tried := true, failedAt := if ! b.rebuilds || b.rebuilt then max 1 b.burst else 0 }
def RBlock.failRebuild (b : RBlock) : RBlock :=
  { b with rebuilt := true, failedAt := if ! b.reads.contains b.glun || b.tried then max 1 b.burst else 0 }
/-- The condition of the stripe sets that bounded reads still read has become worse in this frame (R194): each of them has the bound of the
new condition from now on, or none. -/
def State.recheckBounds (s : State) : State :=
  let due := s.io.cmds.filter fun c => c.phase == .running && c.bounded && c.cond != 0
  each due (fun s c =>
    let segs := (c.blocks.filter (·.phase == 0)).filterMap fun b => (s.memberAt b.nsid b.lba).map (·.1)
    let new := s.readBound c.cls segs
    let e := maxOf (segs.map fun g => s.setErasures g.width g.g g.l)
    if segs.isEmpty then s
    else if new == 0 then s.modCmd c.id fun c => { c with cond := 0, bound := 0, xCondition := true }
    else if c.cond < new || decide (c.condE < e) then
      s.modCmd c.id fun c => { c with cond := new, condE := e, bound := s.clk.frame - c.arrival + new, xCondition := true }
    else s) s

/-- What the decode of one member's block reports (R168, R172, R209): the tracked offsets of its erase block, an identity that does not match,
and whether the erase block becomes a rewrite candidate. -/
def State.memberDecoded (s : State) (g : Segment) (q step nsid lba : Nat) (res : DecodeEnd) : State :=
  let s := match res with
    | .ok bits refs =>
      let s := s.memberTracked g q refs
      if decide (s.profile.rewriteBits < bits) then s.candidate g.seq q else s
    | .identity => (s.memberTracked g q []).raise 595 1 2 [nsid, lba, 0]
    | .ldpc | .crc | .tag => s.memberTracked g q []
  if decide (2 ≤ step) then s.candidate g.seq q else s

/-- READ_DECODE (R168, R171, R172, R209): the result of reading a block from its member at its present step, by the checks in order, once its
bursts have run. Nothing that comes from an erased member is used (R36, R38). -/
def execReadDecode (id index : Nat) (res : DecodeEnd) (s : State) : Res :=
  .next <|
    match (s.cmd? id).bind fun c => (c.blocks[index]?).map fun b => (c, b) with
    | none => s
    | some (c, b) =>
      if (c.phase != .running && c.phase != .squashed) || b.phase != 0 || decide (3 < b.step) || b.failedAt != 0 || b.tried ||
          ! b.reads.contains b.glun || ! b.arrived s.clk.frame || s.lunErased b.glun then s
      else
        let s := match s.memberAt b.nsid b.lba with
          | some (g, m, _) => s.memberDecoded g m b.step b.nsid b.lba res
          | none => s
        if c.phase == .squashed then (s.setBlockAt id index fun x => { x with phase := 2 }).dropSquashed id
        else match res with
        | .ok _ _ => s.serveAt c index b
        | .ldpc | .crc => s.setBlockAt id index RBlock.failTarget
        | .identity =>
          s.setBlockAt id index fun x => { x.failTarget with step := if c.bounded && x.step == 1 then 1 else max x.step 3 }
        | .tag => s.tagFailed c index b

/-- Another contracted read or reservation is outstanding on a LUN (R177). -/
def State.otherOn (s : State) (id glun : Nat) : Bool :=
  s.io.cmds.any fun c => c.id != id && c.cls != .c && (c.phase == .running || c.phase == .squashed) &&
    c.blocks.any (·.holds glun)
/-- The step that follows a failed one (R169, R170, R190): in ladder order, for an erased target the rebuild and then the deep rebuild; the
rounds of a bounded read contain step 4. -/
def State.nextStep (s : State) (c : Cmd) (b : RBlock) (erased : Bool) : Nat :=
  let n := if erased then max 4 (b.step + 1) else if b.step == 2 && s.ctlValue ctlRetryDepth == 0 then 4 else b.step + 1
  if n == 4 && c.bounded then 5 else n
/-- The reads of a step, by LUN, one for each burst (R169): of the target, two more for the soft step and one for each retry entry; of the
other members, one for the rebuild; for the deep rebuild those of steps 2 and 3, of the members whose block is not held yet. -/
def State.stepReads (s : State) (g : Segment) (row m step : Nat) (b : RBlock) : List Nat :=
  let depth := s.ctlValue ctlRetryDepth
  if step ≤ 1 then [b.glun]
  else if step == 2 then [b.glun, b.glun]
  else if step == 3 then List.replicate depth b.glun
  else if step == 4 then s.rebuildLuns g row m
  else (List.range g.width).flatMap fun q =>
    if q == m || (s.rowErasures g row).contains q || b.got.contains (s.memberGlun g q) then []
    else List.replicate (2 + depth) (s.memberGlun g q)
/-- LADDER_STEP (R169 to R171, R177, R190): the next step of a block whose step failed, no earlier than the third frame after its last burst.
A class B read's reservations become reads, with a soft step on the target when no other contracted read is outstanding there; otherwise
a contracted soft step waits. Steps 2 and later of the target make its member a rewrite candidate, and the step's reads are charged to the
function. After step 5 the block is unrecovered. -/
def execLadderStep (id index : Nat) (s : State) : Res :=
  .next <|
    match (s.cmd? id).bind fun c => (c.blocks[index]?).map fun b => (c, b) with
    | none => s
    | some (c, b) =>
      if c.phase != .running || b.phase != 0 || b.failedAt == 0 || decide (s.clk.frame < b.failedAt + 3) then s
      else if 5 ≤ b.step then s.unrecovered c index b
      else match s.memberAt b.nsid b.lba with
      | none => s
      | some (g, m, _) =>
        let row := match s.block? b.nsid b.lba with | some x => x.row | none => 0
        let erased := (s.rowErasures g row).contains m
        let second := ! b.reserves.isEmpty
        let alone := ! s.otherOn id b.glun
        let step := if second then (if alone then 2 else b.step) else s.nextStep c b erased
        if ! second && step == 2 && c.cls != .c && ! alone then s
        else
          let reads := if second then b.reserves ++ (if alone then [b.glun, b.glun] else []) else s.stepReads g row m step b
          let cost : Cost := { units := 0, ports := s.portsOf (c.cls != .c) 1 reads }
          let s := s.modFn c.fn fun f => f.charge cost s.portN
          let past := c.bounded && ! second
          let s := if decide (2 ≤ step) && reads.contains b.glun then s.candidate g.seq m else s
          (s.modCmd id fun c => { c with xLadder := c.xLadder || past }).setBlockAt id index fun x => x.beginStep step s.clk.frame reads

/-- LUNs of the other members whose block is there for a rebuild: held, or read in the present step and decoded, and not erasures (R88, R168). -/
def State.intactOf (s : State) (g : Segment) (row m : Nat) (b : RBlock) (members : List (Nat × DecodeEnd)) : List Nat :=
  ((List.range g.width).filter fun q => q != m && ! (s.rowErasures g row).contains q && (b.got.contains (s.memberGlun g q) ||
    (b.reads.contains (s.memberGlun g q) && members.any fun x => x.1 == q && (match x.2 with
      | .ok _ _ => true
      | .ldpc | .crc | .identity | .tag => false)))).map (s.memberGlun g)
/-- The mast whose cipher engine opens a unit of a LUN (R25): its own, or where that is not active the lowest-numbered active one. -/
def State.opener (s : State) (glun : Nat) : Option Nat :=
  if (s.mast (mastOfLun glun)).state == .active then some (mastOfLun glun) else s.lowestActive
/-- Symbols that the rebuild needs (R88): k, and one more to check the result against unless it is the last possible path: in a bounded round,
in the deep rebuild, or where the step read no more. -/
def rebuildNeeds (g : Segment) (c : Cmd) (b : RBlock) : Nat :=
  let k := dataOf g.width
  if c.bounded || 5 ≤ b.step || (dedupN (b.reads.filter (· != b.glun))).length ≤ k then k else k + 1
/-- REBUILD (R24 to R26, R84, R88, R168, R169, R189, R190): once the bursts have run, the stripe engine decodes a block by erasures from the
blocks of the other members that the step read, which `members` reports; the check against the symbol left over, the CRC-64, the identity
and, in the engine that opens it, the GCM tag decide. In a class A round it follows the failure of the target. -/
def execRebuild (id index : Nat) (members : List (Nat × DecodeEnd)) (result : RebuildEnd) (s : State) : Res :=
  .next <|
    match (s.cmd? id).bind fun c => (c.blocks[index]?).map fun b => (c, b) with
    | none => s
    | some (c, b) =>
      match s.memberAt b.nsid b.lba with
      | none => s
      | some (g, m, _) =>
        let row := match s.block? b.nsid b.lba with | some x => x.row | none => 0
        let hedge := c.bounded && c.cls == .a && b.step == 1 && b.reads.contains b.glun && ! b.tried
        if (c.phase != .running && c.phase != .squashed) || b.phase != 0 || b.failedAt != 0 || b.rebuilt || ! b.rebuilds || hedge ||
            ! b.arrived s.clk.frame || (s.opener b.glun).isNone then s
        else
          let intact := s.intactOf g row m b members
          let read := members.filter fun x => decide (x.1 < g.width) && x.1 != m && b.reads.contains (s.memberGlun g x.1)
          let s := each read (fun s x => s.memberDecoded g x.1 (if b.step == 5 then 2 else 1) b.nsid b.lba x.2) s
          if c.phase == .squashed then (s.setBlockAt id index fun x => { x with phase := 2 }).dropSquashed id
          else if decide (rebuildNeeds g c b ≤ intact.length) && result == .ok then s.serveAt c index b
          else if decide (rebuildNeeds g c b ≤ intact.length) && result == .tag then s.tagFailed c index b
          else
            let s := if result == .identity then s.raise 595 1 2 [b.nsid, b.lba, 0] else s
            s.setBlockAt id index fun x => { x.failRebuild with
              got := intact, step := if ! c.bounded && x.step == 1 then 0 else x.step }

/-- Data that a command writes to host memory when it is delivered. -/
def State.dataOfCmd (s : State) (c : Cmd) : List HostBlock := if isRead c.op then (s.readResult c).2.1 else []

/-- CONSTANT_TIME_RELEASE (R196, R197): in a release frame the ready command's data go out and its completion follows; completions
with m > 1 are counted. What waits when constant-time completion is turned off goes out at once. -/
def execConstantTimeRelease (id : Nat) (s : State) : Res :=
  .next <|
    match s.cmd? id with
    | none => s
    | some c =>
      let k := (s.fn c.fn).contract
      let t := s.tEffect k
      if c.phase != .ready || c.sq == 0 || (s.delays c && ! constFrame c.arrival t s.clk.frame) then s
      else
        let s := if s.delays c && 1 < constM c.arrival t s.clk.frame then
            s.modFn c.fn fun f => { f with counters := { f.counters with late := f.counters.late + 1 } }
          else s
        s.deliver id (s.dataOfCmd c)

/-! ## Ends of die operations -/

/-- DIE_OPERATION_END (R52, R53): a poll finds a die ready or failed, no earlier than its planned end on a port that takes plans; a suspended
operation, and one whose command and data have not all gone out, does not end. The die may have been busy for `late` cycles past its planned
end, and transfers repeated for `repeated` cycles: the port's later entries of this frame then run late by both. -/
def execDieOperationEnd (glun : Nat) (ok : Bool) (late repeated : Nat) (s : State) : Res :=
  let delay := late + repeated
  whenUnit (decide (glun < 1024)) <| .next <|
    match (s.lun glun).work with
    | none => if delay == 0 then s else s.delayEntries glun delay
    | some w =>
      if w.suspended || w.cmd || w.dataLeft != 0 || (s.takesPlans (portOfLun glun) && decide (s.clk.frame < w.plannedEnd)) then s else
      let s := s.modLun glun fun l => { l with work := none }
      let s := if delay == 0 then s else s.delayEntries glun delay
      match w.kind, ok with
      | .coarsePass, true | .finePass, true => s.passDone glun w
      | .coarsePass, false | .finePass, false => s.programFailed glun w.block w.ref1
      | .erase, true => s.eraseDone glun w.block
      | .erase, false => s.eraseFailed glun w.block
      | .pslcProgram, false => s.retire glun w.block 1
      | .pslcProgram, true | .read, _ | .pslcRead, _ | .reset, _ | .feature, _ => s

end Sys2Proof.Machine
end

