-- ==== Sys2Proof/Machine/Masts.lean ====
section
/-! DEFINITION. Port states and training (R53 to R56, R71), mast faults and restarts (R34 to R41, R129, R217), the device fault
(R23, R499) and watchdogs (R501). -/

namespace Sys2Proof.Machine

/-! ## Units that a lost mast or port held unprogrammed (R36, R84, R217, R218) -/

/-- Member `q`'s unit of a row was delivered and its final pass has not completed. -/
def Row.unprogrammed (w : Row) (q u k : Nat) : Bool :=
  ! w.finals.contains q && ! w.gaps.contains q && (if u < k then w.sealedUnits.contains u else w.parity)

/-- A data unit of a row that a deputy, mast `gone`, holds for a member that has no mast of its own (R84). -/
def State.deputyHeld (s : State) (g : Segment) (w : Row) (q gone : Nat) : Bool :=
  decide (memberMast s.mastN q ≠ gone) && (s.unitBlocks g.seq w.row (unitOf g.width q w.row)).any fun b => b.mast == gone && b.sealed && b.place != .flash
/-- One row of a segment when LUNs that satisfy `lost`, and the units that mast `gone` holds as a deputy, are gone: units of a complete row become
gaps; units of an incomplete row are sealed again from the write-row buffers by their deputy. -/
def State.loseRow (s : State) (g : Segment) (w : Row) (lost : Nat → Bool) (gone : Option Nat) : State :=
  let k := dataOf g.width
  let hit := (List.range g.width).filter fun q =>
    (lost (s.memberGlun g q) && ! g.erasures.contains q && w.unprogrammed q (unitOf g.width q w.row) k) || gone.any fun m => s.deputyHeld g w q m
  if hit.isEmpty then s
  else
    let mine (b : Stored) : Bool := b.seg == g.seq && b.row == w.row && hit.any fun q => unitOf g.width q w.row == b.unit
    if w.parity then
      let ports := if gone.isSome then [] else hit
      let s := (s.modRow g.seq w.row fun w => { w with gaps := dedupN (w.gaps ++ hit), portGaps := dedupN (w.portGaps ++ ports) }).log 8 (.gapRow g.seq w.row hit)
      (s.modBlocks mine fun b => { b with place := .flash, dirty := false }).checkRow g.seq w.row
    else
      let s := s.modRow g.seq w.row fun w => { w with sealedUnits := w.sealedUnits.filter fun u => ! hit.any fun q => unitOf g.width q w.row == u }
      s.modBlocks mine fun b => { b with sealed := b.marker == .data && b.imported, place := .openRow, dirty := b.marker == .data, mast := s.unitMast g b.unit b.row }

/-- Every row of every segment. -/
def State.loseUnits (s : State) (lost : Nat → Bool) (gone : Option Nat) : State :=
  each (s.media.segs.flatMap fun g => g.rows.map fun w => (g, w)) (fun s (g, w) => s.loseRow g w lost gone) s

/-- Blocks of gap units on LUNs that satisfy `lost`, of rows in which units never programmed outnumber the parity: no copy of them is left, and the
loss of a port or a mast has found them lost (R217, R218, R224). -/
def State.enterGapLosses (s : State) (lost : Nat → Bool) (cause by_ : Nat) : State :=
  let due := s.media.segs.flatMap fun g => (g.rows.filter fun w => decide (parityOf g.width < (dedupN (g.erasures ++ w.gaps)).length)).map fun w => (g, w)
  each due (fun s (g, w) =>
    let gone (u : Nat) : Bool := (g.erasures ++ w.gaps).contains (memberOf g.width u w.row) && lost (s.memberGlun g (memberOf g.width u w.row))
    let bs := s.media.blocks.filter fun b => b.seg == g.seq && b.row == w.row && b.nsid == g.nsid && b.marker == .data && b.place == .flash &&
      gone b.unit && ! s.inLedger b.nsid b.lba
    each bs (fun s b => s.enterLoss b.nsid b.lba 1 g.gen cause by_ 0 (mastOfLun (s.memberGlun g (memberOf g.width b.unit b.row)))) s) s

/-! ## Ports -/

/-- A port state change and its event: source 60m + j (R55). -/
def State.setPort (s : State) (p : Nat) (into : PortState) (code severity : Nat) (f : Port → Port) : State :=
  let port := s.port p
  let s := (s.modPort p fun x => f { x with state := into, window := [], clearRun := 0 }).recheckBounds
  s.raise (60 * (p / 4) + p % 4) code severity [p, countIf id port.window]

/-- Apply the report of frame F−1 at step 3: the overrun window, counters and the transitions by overruns. -/
def State.portReport (s : State) (p : Nat) : State :=
  let x := s.port p
  let w := (x.overrunNow :: x.window).take 64
  let s := s.modPort p fun x => { x with
    window := w, clearRun := if x.overrunNow then 0 else x.clearRun + 1
    overruns := x.overruns + (if x.overrunNow then 1 else 0), overrunNow := false }
  let many := decide (s.ctlValue ctlOverrunD ≤ countIf id w)
  match x.state, many with
  | .normal, true => s.setPort p .degraded 1 1 fun x => { x with degradedEntries := x.degradedEntries + 1 }
  | .degraded, true =>
    let s := s.setPort p .fenced 3 2 fun x => { x with fencedEntries := x.fencedEntries + 1, fencedAt := some s.clk.frame, draining := decide (2 ≤ x.fencedBefore + x.fencedEntries) }
    s.retryReads fun _ b => b.phase == 0
  | _, _ => s

/-- A port becomes failed: its unprogrammed units are gap rows; the segments with a member on it are due for refresh while it stays
failed (R210, R218). -/
def State.failPort (s : State) (p : Nat) : State :=
  let s := s.setPort p .failed 4 3 fun x => { x with fencedAt := none, draining := false }
  let s := (s.loseUnits (fun x => portOfLun x == p) none).enterGapLosses (fun x => portOfLun x == p) 3 5
  s.retryReads fun _ b => b.phase == 0

/-- Exclude LUNs of a port after training (R71): those named with code and step, and the rest of each chip enable that did not
pass, whose step the report does not say. The LUNs of a port that fails training raise their events, and the port's state keeps them from
use. -/
def State.excludeAfter (s : State) (p ces : Nat) (named : List (Nat × Nat × Nat)) : State :=
  let mine := named.filter fun x => portOfLun x.1 == p
  let rest := ((List.range 32).filter fun l => populated s.record l && ! bit ces (l / 4) && ! mine.any fun x => localOfLun x.1 == l).map (glunOf p)
  let s := if ces == 0 then s else s.modPort p fun x => { x with excluded := dedupN (x.excluded ++ mine.map (localOfLun ·.1) ++ rest.map localOfLun) }
  let s := each mine (fun s x => s.raise (60 * (p / 4) + 4 + p % 4) x.2.1 2 [x.1, x.2.2]) s
  each rest (fun s x => (s.raise (60 * (p / 4) + 4 + p % 4) 1 2 [x, Config.freeNat s.fresh]).bump) s

/-- OVERRUN_RECOVERY_RUN (R55): after N consecutive frames without an overrun frame a degraded port is normal. -/
def execOverrunRecoveryRun (port : Nat) (s : State) : Res :=
  whenUnit (decide (port < 32)) <| .next <|
    let x := s.port port
    if x.state == .degraded && decide (s.ctlValue ctlOverrunN ≤ x.clearRun) then s.setPort port .normal 2 0 id else s

/-- RETRAINING_PASS (R55, R71): retraining of a fenced port passes within 6,250 frames, with at least one chip enable. -/
def execRetrainingPass (port cePassed : Nat) (excluded : List (Nat × Nat × Nat)) (s : State) : Res :=
  whenUnit (decide (port < 32)) <| .next <|
    let x := s.port port
    let ces := bitmap ((bitsOf cePassed 8).filter (bit s.record.ceBitmap))
    let inTime := match x.fencedAt with
      | some f => decide (s.clk.frame ≤ f + 6250)
      | none => false
    if x.state != .fenced || x.draining || ! inTime || ces == 0 then s
    else
      let s := s.setPort port .degraded 1 1 fun x => { x with degradedEntries := x.degradedEntries + 1, cePassed := ces, fencedAt := none }
      (s.excludeAfter port ces excluded).retryReads fun _ b => b.phase == 0

/-- RETRAINING_TIMEOUT (R55): a fenced port that has not passed retraining within 6,250 frames is failed. -/
def execRetrainingTimeout (port : Nat) (s : State) : Res :=
  whenUnit (decide (port < 32)) <| .next <|
    let x := s.port port
    match x.state, x.fencedAt with
    | .fenced, some f => if ! x.draining && decide (f + 6250 ≤ s.clk.frame) then s.failPort port else s
    | _, _ => s

/-- PORT_FAILED_AFTER_DRAIN (R55, R56): after its third entry into fenced a port fails once every started die operation has
ended. -/
def execPortFailedAfterDrain (port : Nat) (s : State) : Res :=
  whenUnit (decide (port < 32)) <| .next <|
    let busy := s.luns.any fun l => portOfLun l.glun == port && l.work.isSome
    if (s.port port).state == .fenced && (s.port port).draining && ! busy then s.failPort port else s

/-! ## Masts -/

/-- The nine domains of a mast (R419). -/
def mastDomains (m : Nat) : List Nat := (List.range 9).map (9 * m + ·)

/-- A mast leaves service: fence, furl without handshake, its held units, die operations and journal staging gone, reads turned
into reconstructions, zones rehomed or Read Only (R36, R38, R41, R129, R301). -/
def State.loseMast (s : State) (m : Nat) (into : MastState) : State :=
  let s := s.modMast m fun x => { x with state := into, fenced := true, iv := [], slots := [], cache := { disabled := x.cache.disabled } }
  let s := (s.modMem m fun u => { u with filled := false }).modMem (16 + m) fun u => { u with filled := false }
  let s := s.modPwr fun p => { p with
    furled := dedupN (p.furled ++ mastDomains m), off := dedupN (p.off ++ [9 * m + 8])
    entries := p.entries.filter fun e => e.kind != .mast m }
  let s := s.modLuns fun l => l.map fun x => if mastOfLun x.glun == m then { x with work := none } else x
  let s := s.modJournal m fun j => { j with staged := [], gens := s.gensWithout j j.staged }
  let s := s.modPorts fun l => l.zipIdx.map fun (x, p) => if mastOfPort p == m then { x with plan := [], run := [], carried := [] } else x
  let s := (s.loseUnits (fun x => mastOfLun x == m) (some m)).rehome m
  (s.loseMastZones.retryReads fun _ b => b.phase == 0).recheckBounds

/-- A mast becomes failed: what it held is lost for good (R37, R217, R224). -/
def State.mastFailed (s : State) (m item : Nat) : State :=
  let s := (s.modMast m fun x => { x with state := .failed, restartFrame := none }).modPwr fun p => { p with
    furled := dedupN (p.furled ++ mastDomains m), off := dedupN (p.off ++ [9 * m + 8]) }
  let s := (s.raise 592 3 3 [m, item]).enterGapLosses (fun x => mastOfLun x == m) 2 4
  s.retryReads fun _ b => b.phase == 0
/-- A mast fault (R35, R36): the first since power-up restarts the mast, with its domains powered again (R37); a further one makes it failed; a
fault during the restart is a step of it that failed. A mast that start-up has powered and not yet tested is failed. -/
def State.mastFault (s : State) (m item : Nat) : State :=
  let x := s.mast m
  let fault (into : MastState) : State :=
    let s := s.modMast m fun x => { x with
      faults := x.faults + 1, lastFault := item, lastFaultFrame := s.clk.frame, restartUsed := true
      restartFrame := if into == .restarting then some s.clk.frame else none }
    (s.loseMast m into).raise 592 1 2 [m, item]
  match x.state with
  | .active =>
    if x.restartUsed then (fault .failed).mastFailed m item
    else (fault .restarting).modPwr fun p => { p with
      furled := p.furled.filter fun d => ! (mastDomains m).contains d, off := p.off.filter (· != 9 * m + 8) }
  | .restarting => (s.modMast m fun x => { x with faults := x.faults + 1 }).mastFailed m x.lastFault
  | .furled => if s.pwr.furled.contains (9 * m) then s else (fault .failed).mastFailed m item
  | .failed | .absent => s

/-- MAST_PLL_LOSS_OF_LOCK (R33, R35 item 1). -/
def execMastPllLossOfLock (mast : Nat) (s : State) : Res := whenUnit (decide (mast < 8)) <| .next <| s.mastFault mast 1
/-- MISSING_HEARTBEAT (R35 item 2): the mast controller core has not updated its heartbeat for 64 consecutive frames. -/
def execMissingHeartbeat (mast : Nat) (s : State) : Res := whenUnit (decide (mast < 8)) <| .next <| s.mastFault mast 2
/-- FABRIC_PROTOCOL_ERROR (R35 item 4). -/
def execFabricProtocolError (mast : Nat) (s : State) : Res := whenUnit (decide (mast < 8)) <| .next <| s.mastFault mast 4

/-- Slots that every active mast's cipher engine holds: Active and Limited (R296). -/
def State.liveSlots (s : State) : List Nat :=
  (s.keys.slots.filter fun k => (k.state == .active || k.state == .limited) && decide (k.number < 4092)).map (·.number)
/-- A mast comes into service (R25, R296): powered, its slots loaded. -/
def State.mastUp (s : State) (m : Nat) : State :=
  let s := s.modMast m fun x => { x with state := .active, fenced := false, restartFrame := none, slots := s.liveSlots, lastWork := s.clk.frame }
  s.modPwr fun p => { p with furled := p.furled.filter fun d => ! (mastDomains m).contains d, off := p.off.filter (· != 9 * m + 8) }

/-- MAST_RESTART_SUCCESS (R37): fill, self-test and journal replay complete within 62,500 frames; its memories have been filled. -/
def execMastRestartSuccess (mast : Nat) (s : State) : Res :=
  whenUnit (decide (mast < 8)) <| .next <|
    let x := s.mast mast
    match x.state, x.restartFrame with
    | .restarting, some f =>
      if decide (s.clk.frame ≤ f + 62500) && (s.mem mast).filled && (s.mem (16 + mast)).filled then
        ((s.mastUp mast).raise 592 2 0 [mast, x.lastFault]).retryReads fun _ b => b.phase == 0
      else s
    | _, _ => s

/-- MAST_RESTART_TIMEOUT (R37): a step of the restart fails, or the 62,500 frames run out. -/
def execMastRestartTimeout (mast : Nat) (stepFailed : Bool) (s : State) : Res :=
  whenUnit (decide (mast < 8)) <| .next <|
    let x := s.mast mast
    match x.state, x.restartFrame with
    | .restarting, some f =>
      if stepFailed || decide (f + 62500 ≤ s.clk.frame) then s.mastFailed mast x.lastFault else s
    | _, _ => s

/-! ## Device fault and watchdogs -/

/-- A device fault (R23, R499): every controller reports fatal status, `HU_LOAD` is low (R523), and each active mast dumps its own
staging and held units. -/
def State.deviceFault (s : State) : State :=
  let fatal (c : Ctrl) : Ctrl := { c with cfs := true, rdy := false }
  let s := s.modStart fun x => { x with fault := true }
  let s := (s.modFns fun l => l.map fun f => { f with ctrl := fatal f.ctrl }).modCtrl1 fatal
  let s := s.modNrg fun n => { n with huLoad := false, test := none, released := none }
  if s.dumping || s.pwr.dev == .unpowered then s
  else if s.clk.dark then s.modPwr fun p => { p with dev := .dumped, thermalDump := false }
  else s.modPwr fun p => { p with dev := .dumping, dumpFrame := some s.clk.frame, rounds := 0, thermalDump := false, stopped := true }

/-- DEVICE_FAULT (R23): an uncorrectable fault in a block that exists once. -/
def execDeviceFault (s : State) : Res := .next s.deviceFault

/-- WATCHDOG_EXPIRY (R501): a mast core's is a mast fault, a host, management or key store core's a device fault; a port sequencer
is restarted and its two missed frames are overrun frames. -/
def execWatchdogExpiry (engine : Engine) (index : Nat) (s : State) : Res :=
  match engine with
  | .mastCore => whenUnit (decide (index < 8)) <| .next <| s.mastFault index 5
  | .centralCore => .next s.deviceFault
  | .portSequencer => whenUnit (decide (index < 32)) <| .next <|
      (s.overrun index 0 0).modPort index fun p => { p with window := (true :: p.window).take 64, overruns := p.overruns + 1, clearRun := 0 }

end Sys2Proof.Machine
end

