-- ==== Sys2Proof/Machine/Thermal.lean ====
section
/-! DEFINITION. Temperature: inputs, samples, failed inputs and their substitutes, throttle stages and the thermal level (R199,
R475 to R480). Readings are in 1/16 °C. -/

namespace Sys2Proof.Machine

/-- A mast's domains are powered. -/
def State.mastPowered (s : State) (m : Nat) : Bool :=
  decide (m < s.mastN) && ! s.pwr.furled.contains (9 * m)
/-- An input that is sampled (R475): a `TD` input whose mode is not off, an on-die sensor of a powered mast, the host complex's. -/
def State.inputOn (s : State) (i : Nat) : Bool :=
  if i < 16 then s.ctlValue ctlInputMode i != 0
  else if i < 24 then s.mastPowered (i - 16)
  else i == 24
/-- An input with a reading that may be used. -/
def State.inputGood (s : State) (i : Nat) : Bool :=
  s.inputOn i && (s.thermIn i).sampled && ! (s.thermIn i).failed
def maxInt : List Int → Option Int
  | [] => none
  | x :: xs =>
    match maxInt xs with
    | none => some x
    | some y => some (max x y)
/-- Neighbours of an input (R483). -/
def State.neighbours (s : State) (i : Nat) : List Nat := (bitsOf (s.ctlValue ctlNeighbours i) 25).filter (· != i)
/-- The value of an input (R476): its reading, or, while it has failed, the highest reading of its unfailed neighbours, or of all
inputs. -/
def State.inputValue (s : State) (i : Nat) : Option Int :=
  if s.inputGood i then some (s.thermIn i).raw
  else
    let near := (s.neighbours i).filter s.inputGood
    let pool := if near.isEmpty then (List.range 25).filter s.inputGood else near
    maxInt (pool.map fun j => (s.thermIn j).raw)

/-- Temperature inputs of a LUN (R199): the assigned one, or the highest configured `TD` inputs, or the mast sensors. -/
def State.lunInputs (s : State) (glun : Nat) : List Nat :=
  let a := s.record.lunInputs.getD glun 0xFF
  if a < 16 then [a]
  else if a == 0x20 then [16 + mastOfLun glun]
  else
    let td := (List.range 16).filter fun i => s.ctlValue ctlInputMode i != 0
    if td.isEmpty then (s.mastIds.filter s.mastPowered).map (16 + ·) else td
/-- `TD` inputs assigned to some LUN. -/
def State.flashInputs (s : State) : List Nat :=
  dedupN ((s.gluns.map fun g => s.record.lunInputs.getD g 0xFF).filter (· < 16))
/-- Hottest value of a list of inputs. -/
def State.hottestOf (s : State) (l : List Nat) : Option Int := maxInt (l.filterMap s.inputValue)

/-- A thermistor's temperature from its resistance in Ω (R475), in 1/16 °C rounded down; none where the formula leaves the range. -/
def thermistor (r25 b ohms : Nat) : Option Int :=
  if ohms == 0 then none
  else
    let l : Int := if r25 ≤ ohms then (lnRatio ohms r25 : Nat) else -((lnRatio r25 ohms : Nat) : Int)
    let den : Int := 100 * b * (one64 : Nat) + 29815 * l
    if den ≤ 0 then none
    else some ((160 * 29815 * b * ((one64 : Nat) : Int) / den - 43704) / 10)

/-- The reading of an input from its sample: a thermistor input gives its resistance, which is open above 2 MΩ and shorted below 50 Ω (R524). -/
def State.reading (s : State) (i : Nat) (raw : Int) : Option Int :=
  if i < 16 && s.ctlValue ctlInputMode i == 2 then
    if raw < 50 || 2000000 < raw then none else thermistor (100 * s.ctlValue ctlR25 i) (s.ctlValue ctlB i) raw.toNat
  else some raw
def inRange (t : Int) : Bool := decide (-880 ≤ t) && decide (t ≤ 2400)

/-- Twice the median of a non-empty list. -/
def median2 (l : List Int) : Int :=
  let o := sortBy (fun a b => a ≤ b) l
  o.getD ((o.length - 1) / 2) 0 + o.getD (o.length / 2) 0
/-- Twice the median of an input's usable neighbours. -/
def State.neighbourMedian (s : State) (i : Nat) : Option Int :=
  let l := ((s.neighbours i).filter s.inputGood).map fun j => (s.thermIn j).raw
  if l.isEmpty then none else some (median2 l)

/-- Latch one sample (R475): out of range, open or shorted makes the input failed at once. -/
def State.latchInput (s : State) (i : Nat) (raw : Int) (bad : Bool) : State :=
  if ! s.inputOn i then s
  else
    let r := s.reading i raw
    let ok := ! bad && (match r with | some t => inRange t | none => false)
    let was := (s.thermIn i).failed
    let s := s.modThermIn i fun x => { x with
      raw := if ok then r.getD x.raw else x.raw, sampled := true, badNow := ! ok, failed := x.failed || ! ok }
    if ! ok && ! was then s.raise 605 1 1 [i] else s

/-- Compare one latched sample with its neighbours' median (R476). -/
def State.judgeInput (s : State) (i : Nat) : State :=
  if ! s.inputOn i then s
  else
    let x := s.thermIn i
    let med := s.neighbourMedian i
    let far := match med with
      | some m => decide (480 < 2 * x.raw - m) || decide (480 < m - 2 * x.raw)
      | none => false
    if x.failed then
      let run := if x.badNow || far then 0 else x.inRun + 1
      if 8 ≤ run then (s.modThermIn i fun x => { x with failed := false, inRun := 0, outRun := 0 }).raise 605 2 1 [i]
      else s.modThermIn i fun x => { x with inRun := run }
    else
      let run := if far then x.outRun + 1 else 0
      if 8 ≤ run then (s.modThermIn i fun x => { x with failed := true, inRun := 0, outRun := 0 }).raise 605 1 1 [i]
      else s.modThermIn i fun x => { x with outRun := run }

/-! ## Throttle (R478, R479) -/

/-- Threshold of a stage for a base threshold in °C. -/
def stageAt (base stage : Nat) : Int := 16 * ((base + 5 * (stage - 1) : Nat) : Int)
/-- Counts of consecutive samples at least 3 °C below each stage's threshold. -/
def coolCounts (base : Nat) (hot : Option Int) (l : List Nat) : List Nat :=
  [1, 2, 3, 4].map fun k =>
    match hot with
    | none => l.getD (k - 1) 0
    | some t => if t ≤ stageAt base k - 48 then l.getD (k - 1) 0 + 1 else 0
/-- The stage by the hottest value and the counts. -/
def stageOf (base : Nat) (hot : Option Int) (cool : List Nat) (now : Nat) : Nat :=
  let entered := match hot with
    | none => 0
    | some t => countIf (fun k => decide (stageAt base k ≤ t)) [1, 2, 3, 4]
  max entered (maxOf ([1, 2, 3, 4].filter fun k => decide (k ≤ now) && decide (cool.getD (k - 1) 0 < 8)))
def junctionInputs : List Nat := (List.range 9).map (16 + ·)
/-- Requested rate of a stage in 1/1024; all of it at stage 0. -/
def requestedRate : Nat → Nat
  | 0 => 1024
  | 1 => 819
  | 2 => 614
  | 3 => 409
  | _ => 204

/-- THERMAL_SAMPLE (R475, R476): one sample of every input, every 256 frames: °C × 16, or Ω of a thermistor; `bad` marks an open or
shorted input. -/
def execThermalSample (raws : List Int) (bad : List Bool) (s : State) : Res :=
  .next <|
    if s.clk.dark || decide (s.clk.frame < s.therm.lastSample + 256) && s.therm.inputs.any (·.sampled) then s
    else
      let s := s.modTherm fun t => { t with lastSample := s.clk.frame }
      let s := each (List.range 25) (fun s i => s.latchInput i (raws.getD i 0) (bad.getD i (decide (raws.length ≤ i)))) s
      let s := each (List.range 25) State.judgeInput s
      let s := s.modTherm fun t => { t with inputs := t.inputs.zipIdx.map fun (x, i) =>
        { x with hottest := maxInt (x.hottest.toList ++ (s.inputValue i).toList) } }
      s.modTherm fun t => { t with
        flashCool := coolCounts (s.ctlValue ctlTf) (s.hottestOf s.flashInputs) t.flashCool
        junctionCool := coolCounts (s.ctlValue ctlTj) (s.hottestOf junctionInputs) t.junctionCool }

/-- Step 5 of R49: the throttle stages, their events and times (R478 to R480). -/
def State.throttle (s : State) : State :=
  let t := s.therm
  let fl := stageOf (s.ctlValue ctlTf) (s.hottestOf s.flashInputs) t.flashCool t.flashStage
  let ju := stageOf (s.ctlValue ctlTj) (s.hottestOf junctionInputs) t.junctionCool t.junctionStage
  let stage := max fl ju
  let s := s.modTherm fun t => { t with
    flashStage := fl, junctionStage := ju, stage := stage
    warnFrames := t.warnFrames + (if 1 ≤ stage then 1 else 0), critFrames := t.critFrames + (if stage == 4 then 1 else 0) }
  if stage == t.stage then s
  else if stage == 0 then
    (s.modTherm fun t => { t with grace := none, enforced := false, level := 0 }).raise 606 3 0 [requestedRate 0]
  else
    let s := s.modTherm fun x => { x with
      grace := if t.stage == 0 then some s.clk.frame else x.grace, level := if x.enforced then stage else x.level }
    s.raise 606 1 1 [requestedRate stage]

/-- GRACE_TIME_END (R479): the grace time ends with the stage above 0; the thermal level is enforced. -/
def execGraceTimeEnd (s : State) : Res :=
  .next <|
    match s.therm.grace with
    | none => s
    | some f =>
      if f + 62500 * s.ctlValue ctlGrace ≤ s.clk.frame && decide (0 < s.therm.stage) && ! s.therm.enforced then
        (s.modTherm fun t => { t with enforced := true, level := t.stage, grace := none }).raise 606 2 2 [requestedRate s.therm.stage]
      else s

/-- Composite temperature in kelvin, rounded down (R480). -/
def State.compositeK (s : State) : Nat :=
  match s.hottestOf (s.flashInputs ++ junctionInputs.filter s.inputOn) with
  | none => 0
  | some t => ((t + 4368) / 16).toNat
/-- Temperature sensor of mast `m` in kelvin: 0 for an absent or furled mast. -/
def State.sensorK (s : State) (m : Nat) : Nat :=
  if ! s.mastPowered m then 0
  else match s.inputValue (16 + m) with
    | none => 0
    | some t => ((t + 4368) / 16).toNat

end Sys2Proof.Machine
end

