-- ==== Sys2Proof/Machine/Health.lean ====
section
/-! DEFINITION. Retention-equivalent age, patrol, member rewrite, segment refresh, wear levelling and compaction (R198 to R213, R217
to R223, R227, R228, R270, R271). Ages are in 1/1024 s. -/

namespace Sys2Proof.Machine

/-! ## Age (R198 to R203) -/

/-- Every stripe set of every width. -/
def State.allSets (s : State) : List (Nat × Nat × Nat) :=
  (widthsOf s.variant).flatMap fun w => (s.stripeSets w).map fun (g, l) => (w, g, l)
/-- Acceleration factor at a reading: raised to a whole degree, limited to −40 and +125 °C (R200). -/
def State.factorAt (s : State) (t16 : Int) : Nat :=
  accelFactor (s.ctlValue ctlActivation) s.profile.refTemp16 (max (-40) (min 125 ((t16 + 15) / 16)))
/-- Temperature of a stripe set (R199) from a reading of each input: the highest of its members' inputs. -/
def State.setTemp (s : State) (inputs : Nat → Option Int) (w g l : Nat) : Int :=
  (maxInt (((s.setLuns w g l).flatMap s.lunInputs).filterMap inputs)).getD (Config.noReading 0)
/-- Highest value of an input since the last advance; its present value where it has not been sampled. -/
def State.latched (s : State) (i : Nat) : Option Int :=
  match (s.thermIn i).hottest with
  | some t => some t
  | none => s.inputValue i
/-- Add an age to every clock (R201, R202). -/
def State.addAge (s : State) (f : Nat → Nat → Nat → Nat) : State :=
  s.modMedia fun m => { m with ages := s.allSets.map fun (w, g, l) =>
    let a := s.ageClock w g l
    { a with age := a.age + f w g l } }
def State.ageOf (s : State) (g : Segment) : Nat := (s.ageClock g.width g.g g.l).age - g.stamp
/-- Refresh age of a grade in 1/1024 s, without the scale (R203). -/
def refreshAge (p : MediaProfile) (archival : Bool) : Nat :=
  (if archival then p.refreshArchDays else p.refreshStdDays) * 86400 * 1024
/-- Segments whose age has reached the refresh age times the scale become due for refresh (R210). -/
def State.refreshByAge (s : State) : State :=
  s.modMedia fun m => { m with segs := updIf (fun g =>
    decide (refreshAge s.profile g.archival * s.ctlValue ctlRefreshScale ≤ 16 * s.ageOf g)) (fun g => { g with refresh := true }) m.segs }
/-- Charge the same age to every clock (R65, R66, R202). -/
def State.chargeAll (s : State) (age : Nat) : State := (s.addAge fun _ _ _ => age).refreshByAge

/-- AGE_CLOCK_ADVANCE (R201): every 62,500 frames each clock advances by one second times the factor of its highest reading. -/
def execAgeClockAdvance (s : State) : Res :=
  .next <|
    if s.clk.dark || decide (s.clk.frame < s.media.ageFrame + 62500) then s
    else
      let s := (s.addAge fun w g l => s.factorAt (s.setTemp s.latched w g l)).refreshByAge
      (s.modTherm fun t => { t with inputs := t.inputs.map fun x => { x with hottest := none } }).modMedia fun m =>
        { m with ageFrame := m.ageFrame + 62500 }

/-! ## Laps (R204 to R208) -/

/-- System blocks of a LUN as an item of a lap. -/
def systemItem (glun : Nat) : Nat := 2 ^ 64 + glun
/-- Lap target in effect, in frames (R206, R237). -/
def State.lapTarget (s : State) : Nat :=
  5400000000 * s.ctlValue (if s.pwr.dev == .crowsNest then ctlLapCrow else ctlLapPowered)
/-- The designated LUNs (R257): the lowest populated LUN of ports 0, 3, 4n - 4 and 4n - 1. -/
def State.designated (s : State) : List Nat :=
  [0, 3, s.portN - 4, s.portN - 1].filterMap fun p => ((List.range 32).map (glunOf p)).find? s.lunUsed
/-- A system block of a LUN holds a live log segment, a rescue record, the drive record or the media profile (R204). -/
def State.systemLive (s : State) (x : Nat) : Bool :=
  s.media.journals.any (fun j => j.live.any fun e => e.1 == x) || (s.mast (mastOfLun x)).rescue.any (fun (r : Nat × Nat × Nat) => r.1 == x) || s.designated.contains x
/-- The items of a lap in the order of R204. -/
def State.lapItems (s : State) : List Nat :=
  (sortBy (fun a b => s.ageOf b < s.ageOf a || (s.ageOf a == s.ageOf b && decide (a.seq ≤ b.seq))) s.media.segs).map (·.seq) ++
    (s.gluns.filter s.systemLive).map systemItem
/-- Begin a lap. -/
def State.startLap (s : State) (raised : Bool) : State :=
  let items := s.lapItems
  let s := s.modMedia fun m => { m with
    segs := m.segs.map fun g => { g with lapCandidates := [], triedLap := false }
    patrol := { m.patrol with
      running := true, lapStart := s.clk.frame, total := items.length, done := 0, issued := 0, base := s.clk.frame, baseIssued := 0
      target := s.lapTarget, raised := raised, late := false, todo := items, markedNow := []
      roomAtStart := decide (m.ledger.length < ledgerLimit), batch := 0 } }
  s.modNss fun l => l.map fun n => { n with zones := n.zones.map fun z => { z with lapFailed := false, lapIncomplete := false } }

/-- Wear levelling at the end of a lap (R220): per LUN whose spread exceeds the limit, the segment on its least-worn block that holds
finished data becomes due for refresh. -/
def State.wearPick (s : State) (glun : Nat) : Option Nat :=
  let l := s.lun glun
  let good := l.blocks.filter fun b => b.state != .retired
  let fullSeg (g : Segment) : Bool := match g.zone with
    | some zi => (s.zone g.nsid zi).state == .full
    | none => g.full
  let held := s.media.segs.filterMap fun g =>
    if ! fullSeg g then none
    else (((List.range g.width).find? fun q => s.memberGlun g q == glun && ! g.erasures.contains q).map fun q =>
      ((l.block (g.members.getD q 0)).erases, g.seq))
  match minBy (fun (x : Nat × Nat) => x.1 * 2 ^ 64 + x.2) held with
  | none => none
  | some (low, seq) =>
    let high := maxOf (good.map (·.erases))
    if s.ctlValue ctlWearSpread * s.profile.endurance < 100 * (high - low) then some seq else none

/-- The end of a lap (R208, R220, R228). -/
def State.endLap (s : State) : State :=
  let p := s.media.patrol
  let picks := if s.media.readPreserve then [] else s.gluns.filterMap s.wearPick
  let s := each picks (fun s q => s.modSeg q fun g => { g with wear := true }) s
  let again (nsid zi : Nat) : Bool := p.markedNow.contains (nsid, zi)
  let s := if ! p.roomAtStart then s
    else (s.modNss fun l => l.map fun n => { n with zones := n.zones.map fun z => { z with overflow := z.overflow && again n.nsid z.zi } }).modMedia fun m =>
      { m with marked := m.marked.filter fun n => again n regionMark }
  s.modMedia fun m => { m with patrol := { m.patrol with
    running := false, raised := false, todo := [], lastLap := s.clk.frame - p.lapStart } }

/-- Spread what is left over the rest of a target that has changed (R206). -/
def State.respread (s : State) : State :=
  if s.media.patrol.target == s.lapTarget then s
  else s.modMedia fun m => { m with patrol := { m.patrol with
    base := s.clk.frame, baseIssued := m.patrol.issued, target := s.lapTarget } }
/-- Slices due by now. -/
def Patrol.dueBy (p : Patrol) (frame : Nat) : Nat :=
  if p.raised then p.total
  else
    let left := p.lapStart + p.target - p.base
    max p.issued (if left ≤ frame - p.base then p.total else p.baseIssued + (p.total - p.baseIssued) * (frame - p.base) / left)
/-- Step 9 of R49: laps begin, slices fall due, a lap with nothing left ends. -/
def State.patrolStep (s : State) : State :=
  if s.provision != .formatted || ! s.ready then s
  else if ! s.media.patrol.running then s.startLap false
  else
    let s := s.respread
    let s := s.modMedia fun m => { m with patrol := { m.patrol with issued := min m.patrol.total (m.patrol.dueBy s.clk.frame) } }
    if s.lapLeft.isEmpty then s.endLap else s

/-! ## Slices -/

/-- Runs of consecutive numbers, from an ascending list. -/
def runsOf (l : List Nat) : List (Nat × Nat) :=
  l.foldl (fun acc x => match acc.getLast? with
    | some (a, n) => if a + n == x then acc.dropLast ++ [(a, n + 1)] else acc ++ [(x, 1)]
    | none => [(x, 1)]) []

/-- The tree check of a slice (R270, R271): the leaves that did not match; with the zone's last segment the zone's fixity state. -/
def State.sliceTree (s : State) (g : Segment) (zi : Nat) (r : SliceReport) : State :=
  let z := s.zone g.nsid zi
  if z.state != .full || s.ctlValue ctlTreeCheck == 0 then s
  else
    let s := each r.badLeaves (fun s leaf => s.raise 595 4 2 [g.nsid, zi, leaf]) s
    let last := maxOf (z.segs.filterMap fun q => (s.seg? q).map (·.index)) == g.index
    let lost := ! r.lost.isEmpty || s.media.blocks.any fun b => b.seg == g.seq && b.nsid == g.nsid && s.inLedger b.nsid b.lba
    let bad := z.lapFailed || ! r.badLeaves.isEmpty || last && ! r.rootOk
    let inc := z.lapIncomplete || lost
    s.modZone g.nsid zi fun z =>
      if last then { z with
        lapFailed := false, lapIncomplete := false, fixPoc := s.clk.poc, fixFrame := s.clk.frame
        fixity := if bad then .failed else if inc then .incomplete else .passed }
      else { z with lapFailed := bad, lapIncomplete := inc }

/-- What a slice of a segment found: codeword counts, tracked offsets, identities that do not match, rewrite candidates, losses, verified ledger blocks, the tree (R205, R209, R224,
R225, R227). -/
def State.sliceSegment (s : State) (g : Segment) (r : SliceReport) : State :=
  let live := (List.range g.width).filter fun q => ! (s.segErasures g).contains q
  let s := each live (fun s q =>
    match r.members[q]? with
    | none => s
    | some (bits, step) =>
      let s := s.modBlock (s.memberGlun g q) (g.members.getD q 0) fun e => { e with bits := bits, step := step }
      if decide (2 ≤ step) || decide (s.profile.rewriteBits < bits) then s.candidate g.seq q else s) s
  let at_ (lba : Nat) : Option Stored := match s.block? g.nsid lba with
    | some b => if b.seg == g.seq && b.place == .flash then some b else none
    | none => none
  let s := each (r.decodes.filter fun x => live.contains x.1) (fun s (q, refs) => s.memberTracked g q refs) s
  let s := each (r.mismatched.filter fun lba => (at_ lba).isSome) (fun s lba => s.raise 595 1 2 [g.nsid, lba, 0]) s
  let lost := (sortBy (fun a b => a ≤ b) (dedupN r.lost)).filter fun lba => (at_ lba).isSome && ! s.inLedger g.nsid lba
  let s := each (runsOf lost) (fun s (lba, n) =>
    let m := match at_ lba with
      | some b => mastOfLun (s.unitGlun g b.row b.unit)
      | none => g.home
    s.enterLoss g.nsid lba n g.gen 1 2 0 m) s
  let again := r.verified.filter fun lba => (at_ lba).isSome &&
    s.media.ledger.any fun e => e.nsid == g.nsid && decide (e.lba ≤ lba) && decide (lba < e.lba + e.count) && decide (e.cause ≤ 3)
  let s := each again (fun s lba =>
    match at_ lba with
    | some b => (s.candidate g.seq (memberOf g.width b.unit b.row)).modSeg g.seq fun x => { x with verified := dedupN (x.verified ++ [lba]) }
    | none => s) s
  match g.zone with
  | some zi => s.sliceTree g zi r
  | none => s

/-- A LUN's system blocks as patrolled. -/
def State.sliceSystem (s : State) (glun : Nat) (r : SliceReport) : State :=
  r.members.zipIdx.foldl (fun s (x, b) => s.modBlock glun b fun e =>
    { e with bits := x.1, step := x.2, state := if e.state == .pendingErase then .system else e.state }) s

/-- LATE_LAP (R208): a lap whose target has elapsed is late; it goes on at raised priority. -/
def execLateLap (s : State) : Res :=
  .next <|
    let p := s.media.patrol
    if p.running && ! p.late && decide (p.lapStart + s.lapTarget ≤ s.clk.frame) then
      (s.modMedia fun m => { m with patrol := { m.patrol with late := true, raised := true } }).raise 595 3 1 []
    else s

/-! ## Relocation (R209 to R213, R217, R218) -/

/-- A segment still receives writes (R160). -/
def State.receives (s : State) (g : Segment) : Bool :=
  match g.zone with
  | some zi => (s.zone g.nsid zi).state.active && ! g.full
  | none => match s.ns? g.nsid with
    | some n => n.cseg == some g.seq
    | none => false
/-- Free erased block of a LUN with the lowest erase count (R80). -/
def State.freeBlock (s : State) (glun : Nat) : Option Nat :=
  match s.pickBlock glun with
  | some b => if ((s.lun glun).block b).state == .free then some b else none
  | none => none
/-- A member has work to move, on a mast and port in use: it is a candidate or holds a gap row (R209, R217, R218), or the header records it as an
erasure because of its port (R56). -/
def State.memberDue (s : State) (g : Segment) (q : Nat) : Bool :=
  ! s.lunErased (s.memberGlun g q) && (g.portErasures.contains q ||
    ! g.erasures.contains q && (g.candidates.contains q || g.rows.any fun w => w.gaps.contains q))
/-- A member lies on a failed port that the header does not record (R210). -/
def State.onFailedPort (s : State) (g : Segment) : Bool :=
  (List.range g.width).any fun q => ! g.erasures.contains q && (s.port (portOfLun (s.memberGlun g q))).state == .failed
/-- A segment is due for refresh (R210): by age or candidates, by a member on a failed port, or by wear levelling, which stops in
read-preserve (R234). -/
def State.refreshDue (s : State) (g : Segment) : Bool := g.refresh || (g.wear && ! s.media.readPreserve) || s.onFailedPort g
/-- The retirement record of a failed block of a segment is not durable yet (R214). -/
def State.retiring (s : State) (g : Segment) : Bool :=
  (List.range g.width).any fun q =>
    let x := s.memberGlun g q
    (s.journal (mastOfLun x)).staged.any fun r => match r with
      | .blockState y b 1 _ => y == x && b == g.members.getD q 0
      | _ => false
/-- Each kind of relocation of a segment can begin (R160, R210, R211, R214). -/
def State.mayReplace (s : State) (g : Segment) : Bool := g.replace && g.dest.isNone && ! s.retiring g
def State.mayRefresh (s : State) (g : Segment) : Bool := s.refreshDue g && ! g.replace && g.dest.isNone && ! g.triedLap && ! s.receives g
def State.mayRewrite (s : State) (g : Segment) (q : Nat) : Bool :=
  s.memberDue g q && ! s.refreshDue g && ! g.replace && g.dest.isNone && ! s.receives g && decide (q < g.width) && ! g.moves.any fun mv => mv.member == q

/-! ## Conventional segments and their compaction (R132, R134, R221 to R223, R297) -/

/-- Close the segment a region is writing: the open row is completed with fill blocks and nothing more is written there (R297). -/
def State.closeConv (s : State) (n : Namespace) : State :=
  match n.cseg with
  | none => s
  | some q =>
    let per := perRow n.cwidth
    let s := s.modSeg q fun g => { g with full := true, lastRow := some ((n.cpos + per - 1) / per) }
    let s := if n.cpos % per == 0 then s else s.modRow q (1 + n.cpos / per) fun w => { w with fillFrom := some (n.cpos % per) }
    s.modNs n.nsid fun n => { n with cseg := none, cpos := 0 }

/-- The next position of a region's writing segment, under a key reference: a new segment when there is none, it is full, or its key
reference differs. None when the reservation has no segment left or none is obtainable. -/
def State.convNext (s : State) (nsid ref : Nat) : Option (Nat × Nat × Nat × Nat) × State :=
  match s.ns? nsid with
  | none => (none, s)
  | some n =>
    let fits := match n.cseg.bind s.seg? with
      | some g => g.keyRef == ref && decide (n.cpos < perSeg s.profile n.cwidth)
      | none => false
    let got : Option State :=
      if fits then some s
      else
        let s := s.closeConv n
        if n.csegsLeft == 0 then none
        else
          let (gen, s) := s.takeGen
          match s.allocSegment { seq := 0, gen := gen, nsid := nsid, width := n.cwidth, archival := n.carch, home := n.chome, keyRef := ref, cls := n.cls } with
          | none => none
          | some (q, s) => some (s.modNs nsid fun n => { n with cseg := some q, cpos := 0, csegsLeft := n.csegsLeft - 1 })
    match got with
    | none => (none, s)
    | some s =>
      match s.ns? nsid with
      | none => (none, s)
      | some n =>
        let q := n.cseg.getD 0
        let o := n.cpos
        let per := perRow n.cwidth
        let s := s.modNs nsid fun n => { n with cpos := o + 1 }
        let s := if o + 1 == perSeg s.profile n.cwidth then s.modSeg q fun g => { g with full := true, lastRow := some (o / per + 1) } else s
        (some (q, 1 + o / per, o % per / 16, o % 16), s)

/-- Compaction score (R221). -/
def compactionScore (cap valid age refresh meanErase endurance : Nat) : Nat :=
  let u := valid * 1024 / max 1 cap
  let a := min (age * 1024 / max 1 refresh) 1024
  let w := min (meanErase * 1024 / max 1 endurance) 1024
  (1024 - u) * (1024 + a) / (1024 + u) * (2048 - w) / 2048
def State.scoreOf (s : State) (g : Segment) : Nat :=
  let luns := s.setLuns g.width g.g g.l
  let kept := (luns.zip g.members).zipIdx.filter fun (_, q) => ! g.erasures.contains q
  let mean := sumOf (fun ((x, b), _) => ((s.lun x).block b).erases) kept / max 1 kept.length
  compactionScore (perSeg s.profile g.width) g.valid (s.ageOf g) (refreshAge s.profile g.archival) mean s.profile.endurance
/-- The full conventional segment with the highest score, ties to the lowest sequence; one with every block valid is never taken. A
segment with valid blocks of another key reference than the region's current one stays (R254). -/
def State.compactionPick (s : State) (n : Namespace) : Option (Segment × Nat) :=
  let ref := s.currentKey n
  let segs := s.media.segs.filter fun g => g.nsid == n.nsid && g.zone.isNone && g.full && n.cseg != some g.seq && ! s.refreshDue g && ! g.replace && g.dest.isNone &&
    decide (g.valid < perSeg s.profile g.width) && (g.valid == 0 || some g.keyRef == ref) &&
    ! s.media.blocks.any fun b => b.copyOf == some (n.nsid, g.seq)
  let best := maxOf (segs.map s.scoreOf)
  (minBy (·.seq) (segs.filter fun g => s.scoreOf g == best)).map fun g => (g, best)

/-- Copy one valid block to the region's writing segment: the copy holds a position until its row is durable (R223). -/
def State.compactBlock (s : State) (nsid src ref : Nat) (b : Stored) : State :=
  match s.convNext nsid ref with
  | (none, s) => s
  | (some (q, row, unit, idx), s) =>
    let copy : Stored := { b with
      nsid := 0, copyOf := some (nsid, src), seg := q, row := row, unit := unit, idx := idx, place := .openRow, dirty := false
      arrived := true, sealed := true, imported := true }
    (s.modMedia fun m => { m with blocks := m.blocks ++ [copy] }).modRow q row id

/-- Compaction of a region is due (R222, R234): what it takes. -/
def State.compactionDue (s : State) (n : Namespace) : Option Segment :=
  if ! n.conv || s.media.readPreserve then none
  else match s.compactionPick n with
    | some (g, score) => if decide (n.csegsLeft ≤ 2) || decide (s.ctlValue ctlCompaction ≤ score) then some g else none
    | none => none

/-! ## The order of internal work (R213) -/

/-- Ranks of R213, and of a fixity job's reads (R286), the first ones first. -/
def rankReplace : Nat := 1
def rankRaised : Nat := 2
def rankRewrite : Nat := 3
def rankAge : Nat := 4
def rankPatrol : Nat := 5
def rankFixity : Nat := 6
def rankCompact : Nat := 7
def rankWear : Nat := 8
def State.refreshRank (s : State) (g : Segment) : Nat := if s.onFailedPort g then rankRaised else if g.refresh then rankAge else rankWear
/-- A rewrite of a member with a gap row is at raised priority (R217). -/
def rewriteRank (g : Segment) (q : Nat) : Nat := if g.rows.any fun w => w.gaps.contains q then rankRaised else rankRewrite
def compactRank (n : Namespace) : Nat := if n.csegsLeft == 1 then rankRaised else rankCompact
/-- Work of a segment that is due and can begin: its rank, and the segment's placement sequence. -/
def State.segWork (s : State) (g : Segment) : List (Nat × Nat) :=
  (if s.mayReplace g && (s.chooseSet g.width).isSome then [(rankReplace, g.seq)] else []) ++
  (if s.mayRefresh g then [(s.refreshRank g, g.seq)] else []) ++
  ((List.range g.width).filter (s.mayRewrite g)).map fun q => (rewriteRank g q, g.seq)
/-- Work of a region. -/
def State.regionWork (s : State) (n : Namespace) : List (Nat × Nat) :=
  match s.compactionDue n with
  | some g => [(compactRank n, g.seq)]
  | none => []
/-- Rank of the patrol slice that is due. -/
def State.patrolRank (s : State) : Option Nat :=
  let p := s.media.patrol
  if p.running && decide (p.done < p.issued) && ! s.lapLeft.isEmpty then some (if p.raised then rankRaised else rankPatrol) else none
/-- Internal work waits behind work that is due at a lower-numbered rank; within a rank, work of the lowest placement sequence, which is the
oldest, goes first (R213). -/
def State.behind (s : State) (rank seq : Nat) : Bool :=
  (s.media.segs.flatMap s.segWork ++ s.nss.flatMap s.regionWork).any (fun x => decide (x.1 < rank) || (x.1 == rank && decide (x.2 < seq))) ||
    s.patrolRank.any fun r => decide (r < rank)

/-- MEMBER_REWRITE (R56, R211, R217, R218): one member erase block is copied to a free block of its LUN, with what the reads of the copy found;
the missing units are rebuilt, and the map record that follows the last durable pass commits it. Without a free block the segment is due
for refresh instead. -/
def execMemberRewrite (source : CopySource) (member : Nat) (s : State) : Res :=
  .next <|
    match s.seg? source.num with
    | none => s
    | some g =>
      if ! s.mayRewrite g member || s.behind (rewriteRank g member) source.num then s
      else
        let x := s.memberGlun g member
        match s.freeBlock x with
        | none => s.modSeg source.num fun g => { g with refresh := true }
        | some b =>
          let s := s.modBlock x b fun e => { e with state := .allocated }
          ((s.modSeg source.num fun g => { g with moves := g.moves ++ [{ member := member, block := b }] }).log g.home (.allocation source.num)).copyFound g source.found

/-- SEGMENT_REFRESH (R211): a segment due for refresh is copied whole to a new segment, with what the reads of the copy found; when none is
obtainable it stays, with an event of its home mast, until the next lap. -/
def execSegmentRefresh (source : CopySource) (s : State) : Res :=
  .next <|
    match s.seg? source.num with
    | none => s
    | some g =>
      if ! s.mayRefresh g || s.behind (s.refreshRank g) source.num then s
      else match s.replaceSegment source.num with
        | some s' => s'.copyFound g source.found
        | none => (s.modSeg source.num fun g => { g with triedLap := true }).raise (60 * g.home + 13) 1 1 [source.num]

/-- PROGRAM_FAILURE_REPLACEMENT (R212, R214): once the retirement record is durable the segment is copied into a new one, with what the reads of
the copy found. -/
def execProgramFailureReplacement (source : CopySource) (s : State) : Res :=
  .next <|
    match s.seg? source.num with
    | none => s
    | some g =>
      if ! s.mayReplace g || s.behind rankReplace source.num then s
      else match s.replaceSegment source.num with
        | some s' => s'.copyFound g source.found
        | none => s.noSegment g

/-- COMPACTION (R222, R223): the valid blocks of the highest-scoring segment of a region are copied into its writing segment, with what the reads
of the copy found; a segment without valid blocks is released. -/
def execCompaction (source : CopySource) (s : State) : Res :=
  .next <|
    match s.ns? source.num with
    | none => s
    | some n =>
      match s.compactionDue n with
      | none => s
      | some g =>
        if s.behind (compactRank n) g.seq then s
        else if g.valid == 0 then (s.releaseSegment g.seq).modNs source.num fun n => { n with csegsLeft := n.csegsLeft + 1 }
        else
          let s := s.copyFound g source.found
          let mine := s.media.blocks.filter fun b => b.nsid == source.num && b.seg == g.seq && n.map.contains (b.lba, g.seq)
          each mine (fun s b => s.compactBlock source.num g.seq g.keyRef b) s

/-- PATROL_SLICE (R205, R213): the next item of the lap, when a slice is due. -/
def execPatrolSlice (r : SliceReport) (s : State) : Res :=
  .next <|
    let p := s.media.patrol
    if ! p.running || s.lapLeft.head? != some r.seq || decide (p.issued ≤ p.done) || ! s.ready || s.behind (if p.raised then rankRaised else rankPatrol) 0 then s
    else
      let s := match s.seg? r.seq with
        | some g => s.sliceSegment g r
        | none => s.sliceSystem (r.seq - 2 ^ 64) r
      let s := s.modMedia fun m => { m with patrol := { m.patrol with
        done := m.patrol.done + 1, batch := m.patrol.batch - 1, todo := (m.patrol.todo.dropWhile (· != r.seq)).drop 1 } }
      if s.lapLeft.isEmpty then s.endLap else s

end Sys2Proof.Machine
end

