-- ==== Sys2Proof/Machine/Clocks.lean ====
section
/-! DEFINITION. The archive clock, the second mark and the unpowered gap (R44, R46, R47, R59 to R66). -/

namespace Sys2Proof.Machine

/-- Advance the archive clock by a number of `AON32K` ticks: a tick is 2^17 units of the 32-bit fraction. -/
def Clock.tick (c : Clock) (n : Nat) : Clock :=
  if ! c.aonRuns then c
  else
    let t := c.secs * 2 ^ 32 + c.frac + n * 2 ^ 17
    { c with ticks := c.ticks + n, secs := if c.isSet then t / 2 ^ 32 else c.secs, frac := if c.isSet then t % 2 ^ 32 else c.frac }
/-- Dark frames between two tick counts, and the number of the first frame after them (R44). -/
def darkFrames (t0 t1 : Nat) : Nat := (t1 - t0) * 15625 / 8192
def firstFrame (last t0 t1 : Nat) : Nat := last + 1 + darkFrames t0 t1

/-- Record the archive clock as the last known time, with the age clocks (R63, R202). -/
def State.recordTime (s : State) : State :=
  if ! s.clk.isSet then s
  else (s.modClk fun c => { c with lastKnown := some (c.secs, c.frac), lastKnownFrame := some c.frame }).modMedia (fun m => { m with ages := m.ages.map fun (a : AgeClock) => { a with written := a.age } })
    |>.log 8 (.lastKnown s.clk.secs s.clk.frac)

/-- SECOND_MARK (R47): at a UTC second boundary the frame number and the seconds are captured together. -/
def execSecondMark (s : State) : Res :=
  .next <|
    if s.clk.dark || ! s.clk.isSet || s.clk.markSecs == s.clk.secs then s
    else s.modClk fun c => { c with markFrame := c.frame, markSecs := c.secs }

/-- LAST_KNOWN_TIME (R63): 2^22 frames after the last record, while the clock is set. -/
def execLastKnownTime (s : State) : Res :=
  let due := match s.clk.lastKnownFrame with
    | some f => decide (f + 2 ^ 22 ≤ s.clk.frame)
    | none => true
  .next (if ! s.clk.dark && due then s.recordTime else s)

/-- AON32K_RUNNING (R64): the oscillator runs again; the clock stays unset until it is set. -/
def execAon32kRunning (s : State) : Res :=
  .next (if s.clk.aonRuns then s else (s.modClk fun c => { c with aonRuns := true }).raise 604 2 0 [])

/-! ## The gap (R65, R66) -/

/-- Age charged for `secs` seconds at the unpowered age factor, in 1/1024 s. -/
def State.gapAge (s : State) (secs : Nat) : Nat := secs * 1024 * s.ctlValue ctlGapFactor / 16
/-- The charge of R65, made once for a power-on count, with the raised-priority lap. -/
def State.chargeGap (s : State) : State :=
  let age := s.gapAge (s.ctlValue ctlGap * 86400)
  let done := match s.clk.gapCharge with
    | some (p, _) => p == s.clk.poc
    | none => false
  let s := if done then s
    else ((s.chargeAll age).modClk fun c => { c with gapCharge := some (c.poc, age) }).log 8 (.gapCharge s.clk.poc age)
  s.startLap true

/-- A raised lap goes back to normal priority with its remaining slices (R66, R207); a late one does not. -/
def State.lapNormal (s : State) : State :=
  if s.media.patrol.late then s
  else s.modMedia fun m => { m with patrol := { m.patrol with
    raised := false, issued := m.patrol.done, base := s.clk.frame, baseIssued := m.patrol.done } }

/-- What the first Set Time from unset does (R66): `last` is the last known time before it. -/
def State.measureGap (s : State) (secs : Nat) (last : Option Nat) : State :=
  match last with
  | none => s
  | some t =>
    let p := s.clk.frame * 16 / 1000000
    let g : Int := (secs : Int) - t - p
    let s := s.modClk fun c => { c with lastG := g }
    if g < 0 then s.raise 593 3 1 [t, secs]
    else
      let charged := match s.clk.gapCharge with
        | some (_, a) => a
        | none => 0
      let age := s.gapAge g.toNat
      if charged < age then s.chargeAll (age - charged) else s.lapNormal

/-- Set the archive clock (R60, R63, R66). -/
def State.setClock (s : State) (secs frac : Nat) : State :=
  let old := s.clk.secs * 2 ^ 32 + s.clk.frac
  let new := secs * 2 ^ 32 + frac
  let wasSet := s.clk.isSet
  let last := s.clk.lastKnown.map (·.1)
  let first := ! wasSet && ! s.clk.measured
  let oldSecs := s.clk.secs
  let s := s.modClk fun c => { c with isSet := true, secs := secs, frac := frac, measured := true }
  let s := if ! wasSet then s.raise 593 1 0 [0, secs]
    else if decide (old + 2 ^ 32 < new) || decide (new + 2 ^ 32 < old) then s.raise 593 2 1 [oldSecs, secs]
    else s
  let s := if first then s.measureGap secs last else s
  s.recordTime

/-- Lowest seconds value of Set Time (R60). -/
def minSetTime : Nat := 1735689600

end Sys2Proof.Machine
end

