-- ==== Sys2Proof/Machine/Mbox.lean ====
section
/-! DEFINITION. What every mailbox command shares: responses, callers, and the numbers of object states (R409, R413, R414, R419,
R420, R549). -/

namespace Sys2Proof

/-! Object states numbered by the row order of their state tables, from 0 (R419). -/

def InstState.num : InstState → Nat
  | .offline => 0
  | .online => 1
  | .resetting => 2
def SlotState.num : SlotState → Nat
  | .empty => 0
  | .active => 1
  | .limited => 2
  | .awaiting => 3
  | .draining => 4
def MastState.num : MastState → Nat
  | .active => 0
  | .furled => 1
  | .restarting => 2
  | .failed => 3
  | .absent => 4
def PortState.num : PortState → Nat
  | .normal => 0
  | .degraded => 1
  | .fenced => 2
  | .failed => 3
def LinkState.num : LinkState → Nat
  | .down => 0
  | .training => 1
  | .hailing => 2
  | .authenticating => 3
  | .known => 4
  | .paired => 5
  | .quarantined => 6
def JobState.num : JobState → Nat
  | .offered => 0
  | .running => 1
  | .suspended => 2
  | .complete => 3
  | .stopped => 4
def FixityState.num : FixityState → Nat
  | .unchecked => 0
  | .passed => 1
  | .failed => 2
  | .incomplete => 3

end Sys2Proof

namespace Sys2Proof.Machine

/-- Success with response fields in the order of R419. -/
def okR (fields : List Nat := []) : Resp := { status := 0, fields := fields }
/-- An error status with its argument and detail. -/
def errR (status : Nat) (argument : Nat := 0) (detail : Nat := 0) : Resp := { status := status, detail := detail, argument := argument }
/-- Success with warning (0x0001). -/
def warnR (detail : Nat) (fields : List Nat := []) : Resp := { status := 1, detail := detail, fields := fields }

/-- The function a command comes from; 0xFFFF over MCTP (R414). -/
def callerOf : Via → Nat
  | .bar fn _ => fn
  | .mctp => 0xFFFF
/-- The manager, or a command with its rights (R414). -/
def isManager : Via → Bool
  | .bar fn _ => fn == 0
  | .mctp => true
/-- The caller is the manager or a function to which the namespace is attached. -/
def Namespace.visibleTo (n : Namespace) (v : Via) : Bool := isManager v || n.attached.contains (callerOf v)

/-- The effect of a mailbox command at step 4: the state after, and its response. -/
abbrev Eff := State × Resp

/-- A command that changes nothing: a query or a refusal. -/
def State.answer (s : State) (r : Resp) : Eff := (s, r)

end Sys2Proof.Machine
end

