-- ==== Sys2Proof/Machine/Fixity.lean ====
section
/-! DEFINITION. Fixity jobs, range digests, attestation keys and attestation records (R271 to R286, R419 group 0x05xx). -/

namespace Sys2Proof.Machine

/-! ## Attestation records (R280) -/

/-- The private and public part of a signing key: 1 the device identity key, 2 the owner attestation key of a slot. -/
def State.signer (s : State) (key slot : Nat) : Option (Nat × PubKey) :=
  if key == 1 then some (s.fuses.identityPriv.toNat, pubFromPriv s.fuses.identityPriv.toNat)
  else (s.keys.ownerKeys.find? (·.slot == slot)).map fun k => (k.priv.toNat, k.pub)
/-- Bytes 0 to 127 of a record. -/
def State.recordHead (s : State) (kind key slot fn : Nat) (pub : PubKey) (nonce : Digest) : List Nat :=
  ascii "MATT" ++ [0x10, kind, key, if key == 2 then slot else 0xFF] ++ bytesLE 32 (keyPrint pub).toNat ++
  bytesLE 20 s.record.serial.toNat ++ bytesLE 4 s.clk.poc ++ bytesLE 8 s.clk.frame ++ bytesLE 8 s.utc ++
  bytesLE 32 nonce.toNat ++ bytesLE 2 fn ++ List.replicate 14 0
/-- Body of kinds 1 and 2. -/
def zoneBody (nsid : Nat) (z : Zone) (written : Nat) (root : Digest) : List Nat :=
  padTo 112 (bytesLE 4 nsid ++ bytesLE 4 z.zi ++ bytesLE 8 z.gen ++ bytesLE 4 written ++ bytesLE 4 (leavesOf written) ++
    bytesLE 32 root.toNat ++ [z.segs.length, z.width, z.cls, if z.archival then 1 else 0] ++ bytesLE 8 z.utcFinish ++
    bytesLE 2 z.keyRef ++ [z.fixity.num, z.state.value] ++ bytesLE 4 z.fixPoc ++ bytesLE 8 z.fixFrame)
/-- An extent as requested (R274). -/
def extentBytes (e : DigestExtent) : List Nat := bytesLE 8 e.lba ++ bytesLE 2 e.offset ++ List.replicate 6 0 ++ bytesLE 8 e.bytes
/-- Body of kind 3. -/
def rangeBody (nsid alg : Nat) (ex : List DigestExtent) (digest : List Nat) : List Nat :=
  padTo 112 (bytesLE 4 nsid ++ [alg, ex.length, 0, 0] ++ bytesLE 8 (sumOf (·.bytes) ex) ++
    bytesLE 32 (sha256D (ex.flatMap extentBytes)).toNat ++ digest)
/-- Body of kind 4. -/
def bindingBody (slot : Nat) (pub : PubKey) : List Nat := padTo 112 (slot :: pointBytes pub)
/-- Sign a record (R280, R283): the key store draws the signature's nonce. -/
def State.sign (s : State) (priv : Nat) (head body : List Nat) : State × BitVec 2688 :=
  let msg := head ++ body
  (s.modKeys fun k => { k with draws := k.draws + 1, requests := k.requests + 1 },
   BitVec.ofNat 2688 (ofBytesLE (msg ++ ecdsaSign priv (Config.drbgScalar s.keys.draws).toNat msg)))
def State.signWith (s : State) (kind key slot fn : Nat) (nonce : Digest) (body : List Nat) : State × Option (BitVec 2688) :=
  match s.signer key slot with
  | none => (s, none)
  | some (priv, pub) =>
    let (s, r) := s.sign priv (s.recordHead kind key slot fn pub nonce) body
    (s, some r)

/-! ## Starting a job (R272 to R283) -/

/-- Zones that an extent list covers. -/
def Namespace.zonesOf (n : Namespace) (p : MediaProfile) (ex : List DigestExtent) : List Nat :=
  if n.conv then []
  else
    let zs := max 1 (n.zoneSize p)
    dedupN (ex.flatMap fun e =>
      let last := e.lba + (e.offset + e.bytes - 1) / 4096
      (List.range (last / zs + 1 - e.lba / zs)).map (e.lba / zs + ·))
/-- Blocks of an extent list in list order. -/
def extentLbas (ex : List DigestExtent) : List Nat :=
  ex.flatMap fun e => (List.range (ceilDiv (e.offset + e.bytes) 4096)).map (e.lba + ·)
/-- The lowest offset of a zone at which a block is not settled (R281). -/
def State.settledBelow (s : State) (n : Namespace) (z : Zone) : Nat :=
  let base := z.zi * n.zoneSize s.profile
  ((List.range z.wp).find? fun i => match s.block? n.nsid (base + i) with
    | some b => ! b.arrived
    | none => true).getD z.wp
/-- Unended jobs, of a function, and those that sign without work before. -/
def Fixity.live (f : Fixity) : List FixJob := f.jobs.filter (! ·.ended)
def FixJob.signsNow (j : FixJob) : Bool := j.kind == .keyBinding || j.kind == .zoneAttestation && ! j.verify
/-- Queue a job: its number, or 0x0305 when the function has 8, the device 256, or the signing queue 32 waiting behind one. -/
def State.startJob (s : State) (j : FixJob) : Eff :=
  let live := s.fix.live
  if 8 ≤ countIf (·.fn == j.fn) live || 256 ≤ live.length || (j.signsNow && decide (33 ≤ countIf FixJob.signsNow live)) then
    (s, errR 0x0305)
  else
    let n := s.fix.next
    (s.modFix fun f => { jobs := f.jobs ++ [{ j with job := n }], next := n + 1 }, okR [n])

/-- A signing key that is an empty owner slot fails the request (R283). -/
def State.signerMissing (s : State) (key slot : Nat) : Bool := key == 2 && (s.signer 2 slot).isNone

/-- The zone checks of a tree check or zone attestation: the namespace, that it is visible, the zone, and that it holds data. -/
def State.zoneJob (s : State) (v : Via) (nsid zi : Nat) (k : Namespace → Zone → Eff) : Eff :=
  match s.ns? nsid with
  | none => (s, errR 0x0105 nsid)
  | some n =>
    if ! n.visibleTo v then (s, errR 0x0405 nsid)
    else if n.conv || decide (n.zoneCount ≤ zi) then (s, errR 0x0105 zi)
    else
      let z := n.zone zi
      if z.state == .empty || z.state == .offline then (s, errR 0x0201 zi z.state.value) else k n z

def effTreeCheck (v : Via) (nsid zi : Nat) (own : Bool) (s : State) : Eff :=
  s.zoneJob v nsid zi fun _ z =>
    s.startJob { job := 0, kind := .treeCheck, via := v, fn := callerOf v, nsid := nsid, zone := zi, ownShare := own, gens := [(zi, z.gen)] }

def effZoneAttestation (v : Via) (nsid zi key slot : Nat) (verify own : Bool) (nonce : Digest) (s : State) : Eff :=
  s.zoneJob v nsid zi fun n z =>
    if s.signerMissing key slot then (s, errR 0x0201 slot)
    else s.startJob { job := 0, kind := .zoneAttestation, via := v, fn := callerOf v, nsid := nsid, zone := zi, signKey := key, signSlot := slot
                      verify := verify, ownShare := own, nonce := nonce, gens := [(zi, z.gen)]
                      covered := if z.fullDurable then z.written else s.settledBelow n z }

/-- The checks of a range request (R274, R275). -/
def State.rangeJob (s : State) (v : Via) (nsid : Nat) (ex : List DigestExtent) (k : Namespace → Eff) : Eff :=
  match s.ns? nsid with
  | none => (s, errR 0x0105 nsid)
  | some n =>
    let mine := n.attached.contains (callerOf v) || (callerOf v == 0 && n.attached.all (· == 0))
    if ! mine || (callerOf v == 0 && n.attached.any (· != 0)) then (s, errR 0x0405 nsid)
    else match ex.zipIdx.find? fun (e, _) => decide (n.blocks s.profile * 4096 < e.lba * 4096 + e.offset + e.bytes) with
      | some (_, i) => (s, errR 0x0104 (48 + 24 * i))
      | none => k n

def State.rangeJobOf (s : State) (v : Via) (n : Namespace) (ex : List DigestExtent) : FixJob :=
  { job := 0, kind := .rangeDigest, via := v, fn := callerOf v, nsid := n.nsid, extents := ex
    gens := (n.zonesOf s.profile ex).map fun zi => (zi, (n.zone zi).gen)
    maps := if n.conv then n.map.filter fun e => (extentLbas ex).contains e.1 else [] }

def effRangeDigest (v : Via) (nsid alg : Nat) (ex : List DigestExtent) (own : Bool) (s : State) : Eff :=
  s.rangeJob v nsid ex fun n => s.startJob { s.rangeJobOf v n ex with alg := alg, ownShare := own }

def effRangeAttestation (v : Via) (nsid alg : Nat) (ex : List DigestExtent) (key slot : Nat) (own : Bool) (nonce : Digest) (s : State) : Eff :=
  s.rangeJob v nsid ex fun n =>
    if s.signerMissing key slot then (s, errR 0x0201 slot)
    else s.startJob { s.rangeJobOf v n ex with
      kind := .rangeAttestation, alg := alg, ownShare := own, signKey := key, signSlot := slot, nonce := nonce }

def effKeyBinding (v : Via) (slot : Nat) (nonce : Digest) (s : State) : Eff :=
  if s.signerMissing 2 slot then (s, errR 0x0201 slot)
  else s.startJob { job := 0, kind := .keyBinding, via := v, fn := callerOf v, signKey := 1, signSlot := slot, nonce := nonce }

/-! ## The end of a job -/

/-- End a job with what `f` says, and its event (R272). -/
def State.closeJob (s : State) (job : Nat) (f : FixJob → FixJob) : State :=
  match s.fix.jobs.find? fun j => j.job == job && ! j.ended with
  | none => s
  | some j =>
    let j' := { f j with ended := true, endFrame := s.clk.frame }
    (s.modFix fun x => { x with jobs := updIf (·.job == job) (fun _ => j') x.jobs }).raise 486 1 0 [job, j'.status] j.fn
/-- End every unended job that satisfies `p` with a status of the 0x08xx group (R273). -/
def State.abortJobs (s : State) (p : FixJob → Bool) (status : Nat) : State :=
  each (s.fix.live.filter p) (fun s j => s.closeJob j.job fun j => { j with status := status }) s

def FixJob.failed (j : FixJob) (status argument : Nat) (detail : Nat := 0) : FixJob :=
  { j with status := status, argument := argument, detail := detail, record := none }
/-- A covered zone has been reset since the job started (R277, R282). -/
def State.jobChanged (s : State) (j : FixJob) : Option Nat :=
  (j.gens.find? fun (zi, g) => (s.zone j.nsid zi).gen != g || (s.zone j.nsid zi).state == .empty || (s.zone j.nsid zi).state == .offline).map (·.1)

/-- A tree check of a zone (R271): losses are entered, leaves that did not match raise events, and the fixity state is set. -/
def State.treeResult (s : State) (nsid zi : Nat) (mismatched lost : List Nat) (nodesOk : Bool) : State :=
  let z := s.zone nsid zi
  let zs := match s.ns? nsid with | some n => n.zoneSize s.profile | none => 0
  let hit := (dedupN lost).filter fun lba => lba / max 1 zs == zi && (s.block? nsid lba).isSome && ! s.inLedger nsid lba
  let s := each (runsOf (sortBy (fun a b => a ≤ b) hit)) (fun s (lba, n) => s.enterLoss nsid lba n z.gen 1 2 0 z.home) s
  let s := each mismatched (fun s leaf => s.raise 595 4 2 [nsid, zi, leaf]) s
  let inc := s.media.blocks.any fun b => b.nsid == nsid && b.lba / max 1 zs == zi && s.inLedger b.nsid b.lba
  let bad := ! mismatched.isEmpty || ! nodesOk
  s.modZone nsid zi fun z => { z with
    fixity := if bad then .failed else if inc then .incomplete else .passed, fixPoc := s.clk.poc, fixFrame := s.clk.frame }

/-- Sign at the end of a job, or fail it when the key has gone. -/
def State.signJob (s : State) (j : FixJob) (kind : Nat) (body : List Nat) (f : FixJob → FixJob) : State :=
  let (s, r) := s.signWith kind j.signKey j.signSlot j.fn j.nonce body
  match r with
  | none => s.closeJob j.job fun j => j.failed 0x0201 j.signSlot
  | some r => s.closeJob j.job fun j => { f j with record := some r }

/-- Sign a zone record: kind 1 for a zone whose Full state is durable and whose leaves need no recomputation, else the provisional kind 2
(R268, R281). -/
def State.signZone (s : State) (j : FixJob) (f : FixJob → FixJob) : State :=
  let z := s.zone j.nsid j.zone
  if z.fullDurable && ! z.stale then s.signJob j 1 (zoneBody j.nsid z z.written z.root) f
  else s.signJob j 2 (zoneBody j.nsid z j.covered (s.rootOver j.nsid j.zone j.covered)) f

/-- The first block of a range digest that ends the job, in list order (R276): its status and LBA. -/
def State.rangeFault (s : State) (j : FixJob) (lost tagBad : List Nat) : Option (Nat × Nat) :=
  (extentLbas j.extents).findSome? fun lba =>
    match s.viewOf j.nsid lba with
    | .offline | .unwritten | .void => some (0x0501, lba)
    | .lost => some (0x0502, lba)
    | .arriving => none
    | .dram | .media _ _ _ =>
      if lost.contains lba then some (0x0502, lba)
      else match s.ns? j.nsid, s.block? j.nsid lba with
        | some n, some b =>
          if (s.openCheck n b.keyRef).isSome then some (0x0603, b.keyRef)
          else if tagBad.contains lba then some (0x0604, lba) else none
        | _, _ => none
/-- The plaintext of an extent (R274). -/
def State.extentPlain (s : State) (nsid : Nat) (e : DigestExtent) : List Nat :=
  (((List.range (ceilDiv (e.offset + e.bytes) 4096)).flatMap fun i => match s.block? nsid (e.lba + i) with
    | some b => blockBytes (s.plain b)
    | none => []).drop e.offset).take e.bytes
/-- Digest of an extent list. -/
def State.rangeHash (s : State) (j : FixJob) : List Nat :=
  let m := j.extents.flatMap (s.extentPlain j.nsid)
  if j.alg == 1 then sha256 m else sha512 m

/-- The end of a range job (R276, R277). `changed` reports a conventional LBA that was remapped after it had been read: the digest is
of data the device no longer holds, a free value. -/
def State.endRange (s : State) (j : FixJob) (lost tagBad : List Nat) (changed : Bool) : State :=
  if (extentLbas j.extents).any fun lba => s.viewOf j.nsid lba == .arriving then s
  else match s.jobChanged j, s.rangeFault j lost tagBad with
    | some zi, _ => s.closeJob j.job fun j => j.failed 0x0204 zi
    | none, some (st, arg) =>
      let gone := st == 0x0502 && ! s.inLedger j.nsid arg
      let s := if gone then
          match s.block? j.nsid arg with
          | some b => s.enterLoss j.nsid arg 1 b.gen 1 1 (if j.fn == 0xFFFF then 0 else j.fn) b.mast
          | none => s
        else s
      let s := if st == 0x0604 then s.raise 596 2 2 [j.nsid, ((s.block? j.nsid arg).map (·.keyRef)).getD 0, arg] j.fn else s
      s.closeJob j.job fun j => j.failed st arg
    | none, none =>
      let moved := changed && j.maps.any fun e => match s.ns? j.nsid with
        | some n => ! n.map.contains e
        | none => true
      let hash := if moved then bytesLE (if j.alg == 1 then 32 else 64) (Config.freeNat s.fresh) else s.rangeHash j
      let s := if moved then s.bump else s
      let set (j : FixJob) : FixJob := { j with
        digest := BitVec.ofNat 512 (ofBytesLE hash), status := if moved then 1 else 0, detail := if moved then 2 else 0, changed := moved }
      if j.kind == .rangeAttestation then s.signJob j 3 (rangeBody j.nsid j.alg j.extents hash) set
      else s.closeJob j.job set

/-- FIXITY_JOB_END (R272): the job's work is done: leaves that did not match, blocks no ladder step recovered, blocks whose tag failed,
and whether every node of the tree matched. -/
def execFixityJobEnd (job : Nat) (mismatched lost tagBad : List Nat) (nodesOk changed : Bool) (s : State) : Res :=
  .next <|
    match s.fix.jobs.find? fun j => j.job == job && ! j.ended with
    | none => s
    | some j =>
      match j.kind with
      | .treeCheck =>
        match s.jobChanged j with
        | some zi => s.closeJob job fun j => j.failed 0x0204 zi
        | none => (s.treeResult j.nsid j.zone mismatched lost nodesOk).closeJob job fun j => { j with mismatched := mismatched }
      | .zoneAttestation =>
        match s.jobChanged j with
        | some zi => s.closeJob job fun j => j.failed 0x0204 zi
        | none =>
          if ! j.verify then s.signZone j id
          else
            let s := s.treeResult j.nsid j.zone mismatched lost nodesOk
            let st := (s.zone j.nsid j.zone).fixity
            if st == .failed || st == .incomplete then
              s.closeJob job fun j => { j.failed 0x0503 j.zone st.num with mismatched := mismatched }
            else s.signZone j fun j => { j with mismatched := mismatched }
      | .rangeDigest | .rangeAttestation => s.endRange j lost tagBad changed
      | .keyBinding =>
        match s.signer 2 j.signSlot with
        | none => s.closeJob job fun j => j.failed 0x0201 j.signSlot
        | some (_, pub) => s.signJob j 4 (bindingBody j.signSlot pub) id

/-- Get Fixity Result: to the requester only; a result that has been read is dropped. -/
def effGetFixityResult (v : Via) (job : Nat) (s : State) : Eff :=
  match s.fix.jobs.find? (·.job == job) with
  | none => (s, errR 0x0105 job)
  | some j =>
    if callerOf j.via != callerOf v then (s, errR 0x0402)
    else
      let rec_ : Nat := match j.record with
        | some r => r.toNat
        | none => 0
      let r := okR ([bitOf j.ended, j.status, j.argument, j.mismatched.length, j.digest.toNat, rec_] ++ j.mismatched.take 904)
      (if j.ended then s.modFix fun f => { f with jobs := f.jobs.filter (·.job != job) } else s, r)

/-- FIXITY_RESULT_EXPIRY: 2^26 frames after a job's end its result is dropped (R419, group 0x05xx). -/
def execFixityResultExpiry (job : Nat) (s : State) : Res :=
  .next (s.modFix fun f => { f with jobs := f.jobs.filter fun j => ! (j.job == job && j.ended && decide (j.endFrame + 2 ^ 26 ≤ s.clk.frame)) })

/-! ## Attestation keys (R278, R279) -/

def effGetIdentityCertificate (s : State) : Eff := (s, okR [Config.certificates 0])
/-- Create Owner Attestation Key: a key pair of the key store's own, and the record that binds it. -/
def effCreateOwnerAttestationKey (v : Via) (slot : Nat) (s : State) : Eff :=
  if s.keys.ownerKeys.any (·.slot == slot) then (s, errR 0x0203 slot)
  else
    let d := 1 + (Config.drbgScalar s.keys.draws).toNat % (pN - 1)
    let pub := pubFromPriv d
    let s := s.modKeys fun k => { k with
      draws := k.draws + 1, requests := k.requests + 1, ownerKeys := k.ownerKeys ++ [{ slot := slot, priv := BitVec.ofNat 384 d, pub := pub }] }
    let s := s.log 8 (.setting 0x00F00001 (4092 + slot) 0)
    let (s, r) := s.signWith 4 1 0xFF (callerOf v) 0 (bindingBody slot pub)
    let rec_ : Nat := match r with
      | some r => r.toNat
      | none => 0
    (s, okR [pub.toNat, rec_])
def effDeleteOwnerAttestationKey (slot : Nat) (s : State) : Eff :=
  if s.keys.ownerKeys.any (·.slot == slot) then
    ((s.modKeys fun k => { k with ownerKeys := k.ownerKeys.filter (·.slot != slot) }).log 8 (.setting 0x00F00001 (4092 + slot) 1), okR)
  else (s, errR 0x0201 slot)

end Sys2Proof.Machine
end

