-- ==== Sys2Proof/Machine/Keys.lean ====
section
/-! DEFINITION. Key slots, key-encryption keys, the key register, counter reservations, cipher faults and the commands of group 0x03xx
(R252, R279, R288 to R308, R365, R366). -/

namespace Sys2Proof.Machine

/-! ## Slots (R294 to R297) -/

/-- A data-key slot number (R288). -/
def dataSlot (n : Nat) : Bool := decide (1 ≤ n) && decide (n ≤ 4091)
/-- Slots of a function, ascending (R316). -/
def State.slotsOf (s : State) (fn : Nat) : List Nat :=
  sortBy (fun a b => a ≤ b) ((s.keys.slots.filter fun k => k.owner == some fn && dataSlot k.number).map (·.number))
/-- Key reference of an admitted command's blocks. -/
def State.cmdUses (s : State) (c : Cmd) (ref : Nat) : Bool :=
  c.admitted.isSome && (
    (c.blocks.any fun b => match s.block? b.nsid b.lba with
      | some x => x.keyRef == ref
      | none => false) ||
    s.media.blocks.any fun b => b.cmd == c.id && b.keyRef == ref && b.marker == .data)
/-- Reference count of a slot (R294): admitted commands, unended fixity jobs and unsealed write blocks under its key reference. -/
def State.refCount (s : State) (n : Nat) : Nat :=
  let ref := (s.slot n).keyRef
  if ref == 0xFFFF then 0
  else
    countIf (fun c => s.cmdUses c ref) s.io.cmds +
    countIf (fun j => (j.kind == .rangeDigest || j.kind == .rangeAttestation) && (extentLbas j.extents).any fun l =>
      match s.block? j.nsid l with
      | some b => b.keyRef == ref
      | none => false) s.fix.live +
    s.unsealed ref
/-- The cipher engines of the active masts hold every Active and Limited slot (R296). -/
def State.syncSlots (s : State) : State :=
  let live := s.liveSlots
  s.modMasts fun l => l.map fun m => if m.state == .active then { m with slots := live } else m
/-- A key reference whose high-water is within 2^24 of its limit (R303, R365). -/
def State.refLimited (s : State) (ref : Nat) : Bool :=
  ref != 0 && decide ((s.keyRef ref).limit - 2 ^ 24 < (s.keyRef ref).high)
/-- The slots that hold a limited key reference become Limited (R303). -/
def State.limitSlots (s : State) : State :=
  (s.modKeys fun k => { k with slots := k.slots.map fun x =>
    if x.state == .active && s.refLimited x.keyRef then { x with state := .limited } else x }).syncSlots
/-- The state a slot takes with a key reference. -/
def State.keyedState (s : State) (ref : Nat) : SlotState := if s.refLimited ref then .limited else .active

/-- End a drain (R294, R295): the old key is zeroised; the slot has its new key or is Empty; the event names slot and key. -/
def State.endDrain (s : State) (n : Nat) : State :=
  let k := s.slot n
  if k.state != .draining then s
  else
    let st : SlotState := match k.newKey with
      | some _ => s.keyedState k.newRef
      | none => .empty
    let s := s.modSlot n fun k => { k with
      state := st, key := k.newKey.getD 0, keyRef := k.newRef, persistent := k.newPersistent
      newKey := none, newRef := 0xFFFF, newPersistent := false }
    (s.syncSlots.raise 596 1 0 [n, k.newRef] (k.owner.getD 0xFFFF))

/-- DRAIN_END (R295): the reference count of a Draining slot is 0. -/
def execDrainEnd (slot : Nat) (s : State) : Res :=
  .next (if (s.slot slot).state == .draining && s.refCount slot == 0 then (s.endDrain slot).log 8 (.setting 0x00F00001 slot (s.slot slot).generation) else s)

/-- Volatile keys and KEKs are lost (R305): a drain in progress ends, volatile slots are Awaiting. -/
def State.loseVolatile (s : State) : State :=
  let s := each ((s.keys.slots.filter (·.state == .draining)).map (·.number)) (fun s n => s.endDrain n) s
  let s := s.modKeys fun k => { k with
    slots := k.slots.map fun x => if (x.state == .active || x.state == .limited) && ! x.persistent then { x with state := .awaiting, key := 0 } else x
    exports := [], challenges := [] }
  (s.modFns fun l => l.map fun f => { f with keks := f.keks.filter (·.persistent) }).syncSlots

/-- Assign the lowest-numbered unassigned slots to a function until it owns `count` (R316); none when too few are free. -/
def State.raiseSlots (s : State) (fn count : Nat) : State :=
  let need := count - (s.slotsOf fn).length
  let free := ((List.range 4092).drop 1).filter fun n => match s.slot? n with
    | some k => k.owner.isNone
    | none => true
  each (free.take need) (fun s n => s.modSlot n fun k => { k with owner := some fn, state := .empty }) s
def State.freeSlots (s : State) : Nat := 4091 - countIf (fun k => k.owner.isSome && dataSlot k.number) s.keys.slots
/-- A namespace is bound to a slot. -/
def State.slotBound (s : State) (n : Nat) : Bool := s.nss.any fun x => x.bound == .slot n
/-- The slots that lowering a function's allocation to `count` releases, and the first that is in use (R316). -/
def State.slotsToDrop (s : State) (fn count : Nat) : List Nat := (s.slotsOf fn).drop count
def State.slotInUse (s : State) (l : List Nat) : Option Nat := l.find? fun n => (s.slot n).state != .empty || s.slotBound n
/-- Release slots: unowned and Empty; bindings that name them lapse (R297). -/
def State.releaseSlots (s : State) (l : List Nat) : State :=
  let s := each l (fun s n => s.modSlot n fun k => { k with
    owner := none, state := .empty, key := 0, keyRef := 0xFFFF, newKey := none, newRef := 0xFFFF, persistent := false, newPersistent := false
    generation := if k.state == .empty then k.generation else k.generation + 1 }) s
  (s.modNss fun x => x.map fun n => match n.bound with
    | .slot k => if l.contains k then { n with bound := .lapsed } else n
    | _ => n).syncSlots

/-! ## Key-encryption keys and loading (R291 to R293, R304, R306) -/

/-- The one-step KDF of R291. -/
def kekOf (s : State) (fn index : Nat) (point : PubKey) : BitVec 256 :=
  let z := ecdh s.fuses.transportPriv.toNat point
  let info := ascii "BEYTRIAK-KEK" ++ bytesLE 2 fn ++ [index] ++ sha256 (pointBytes point)
  BitVec.ofNat 256 (ofBytesLE ((sha384 ([0, 0, 0, 1] ++ z ++ info)).take 32))
/-- Record a slot image (R306). -/
def State.logImage (s : State) (n value : Nat) : State := s.log 8 (.setting 0x00F00001 n value)

def effGetTransportKey (s : State) : Eff := (s, okR [Config.certificates 1])
def effEstablishKek (v : Via) (index : Nat) (persistent : Bool) (point : PubKey) (s : State) : Eff :=
  if ! onCurve point then (s, errR 0x0601)
  else
    let fn := callerOf v
    let k : Kek := { index := index, key := kekOf s fn index point, persistent := persistent }
    ((s.modFn fn fun f => { f with keks := (f.keks.filter (·.index != index)) ++ [k] }).logImage (0x8000 + 4 * fn + index) 0, okR)

/-- Register number of a fingerprint. -/
def State.refOf (s : State) (fp : Digest) : Option Nat :=
  if fp == zeroEntry.fp then some 0 else (s.keys.register.find? (·.fp == fp)).map (·.number)
/-- The next free register number, none when all up to 0xFFFE are taken. -/
def State.nextRef (s : State) : Option Nat := if 0xFFFE ≤ s.keys.register.length then none else some (s.keys.register.length + 1)
/-- Another slot that holds a key reference, an incoming key included; slot 0 always holds reference 0 (R288, R293). -/
def State.refHolder (s : State) (ref slot : Nat) : Option Nat :=
  if ref == 0 then some 0 else ((s.keys.slots.filter fun k => k.number != slot && k.state != .empty && (k.keyRef == ref || (k.newKey.isSome && k.newRef == ref))).map (·.number)).head?
/-- Make a register entry durable (R293). -/
def State.addEntry (s : State) (e : KeyEntry) : State :=
  (s.modKeys fun k => { k with register := k.register ++ [e] }).log 8 (.keyEntry e.number)
/-- Raise a counter high-water to a floor (R304). -/
def State.raiseFloor (s : State) (ref floor : Nat) : State :=
  (s.modKeyRef ref fun k => { k with high := max k.high floor }).limitSlots

/-- Put a key with a known reference into a slot (R294). -/
def State.putKey (s : State) (slot : Nat) (key : BitVec 256) (ref : Nat) (persistent : Bool) : State :=
  let k := s.slot slot
  let s := match k.state, k.keyRef == ref with
    | .empty, _ => s.modSlot slot fun k => { k with state := s.keyedState ref, key := key, keyRef := ref, persistent := persistent }
    | .awaiting, true => s.modSlot slot fun k => { k with state := s.keyedState ref, key := key, persistent := persistent }
    | .awaiting, false => s.modSlot slot fun k => { k with
        state := s.keyedState ref, key := key, keyRef := ref, persistent := persistent, generation := k.generation + 1 }
    | .active, false | .limited, false => s.modSlot slot fun k => { k with
        state := .draining, newKey := some key, newRef := ref, newPersistent := persistent, generation := k.generation + 1 }
    | .active, true | .limited, true | .draining, _ => s
  (s.logImage slot (s.slot slot).generation).syncSlots

/-- The key that a load brings, into its slot under a reference. -/
def State.takeLoad (s : State) (slot : Nat) (persistent floorGiven : Bool) (floor : Nat) (key : BitVec 256) (ref : Nat) : Eff :=
  let s := if floorGiven then s.raiseFloor ref floor else s
  let s := s.putKey slot key ref persistent
  let k := s.slot slot
  (s, okR [ref, k.state.num, k.generation])
/-- Load Key once the key is out of its wrap: the reference of its fingerprint, or the next one with a new entry (R293, R304). -/
def State.loadKeyAs (s : State) (slot : Nat) (persistent saltGiven floorGiven : Bool) (salt : BitVec 32) (floor : Nat)
    (key : BitVec 256) (fp : Digest) : Eff :=
  match s.refOf fp with
  | some ref =>
    match s.refHolder ref slot with
    | some other => (s, errR 0x0203 other)
    | none => s.takeLoad slot persistent floorGiven floor key ref
  | none =>
    match s.nextRef with
    | none => (s, errR 0x0306)
    | some ref =>
      let drawn := BitVec.ofNat 32 (Config.drbg s.keys.draws).toNat
      let s := if saltGiven then s else s.modKeys fun k => { k with draws := k.draws + 1, requests := k.requests + 1 }
      (s.addEntry { number := ref, tenant := true, salt := if saltGiven then salt else drawn, fp := fp }).takeLoad
        slot persistent floorGiven floor key ref
/-- Load Key (R292, R293, R304). -/
def effLoadKey (v : Via) (slot kek : Nat) (persistent saltGiven floorGiven : Bool) (salt : BitVec 32) (floor : Nat)
    (wrapped : BitVec 320) (s : State) : Eff :=
  if (s.slot slot).owner != some (callerOf v) then (s, errR 0x0402 slot)
  else if (s.slot slot).state == .draining then (s, errR 0x0201 slot SlotState.draining.num)
  else match (s.fn (callerOf v)).keks.find? (·.index == kek) with
    | none => (s, errR 0x0603 slot)
    | some k =>
      match kwUnwrap (bytesLE 32 k.key.toNat) (bytesLE 40 wrapped.toNat) with
      | none => (s, errR 0x0602)
      | some raw => s.loadKeyAs slot persistent saltGiven floorGiven salt floor (BitVec.ofNat 256 (ofBytesLE raw)) (keyFingerprint raw)

/-- Erase a slot (R294). -/
def State.eraseSlot (s : State) (slot : Nat) : State :=
  let s := match (s.slot slot).state with
    | .active | .limited => s.modSlot slot fun k => { k with state := .draining, newKey := none, newRef := 0xFFFF, generation := k.generation + 1 }
    | .awaiting => s.modSlot slot fun k => { k with state := .empty, key := 0, keyRef := 0xFFFF, persistent := false, generation := k.generation + 1 }
    | .empty | .draining => s
  (s.logImage slot (s.slot slot).generation).syncSlots
def effEraseKey (v : Via) (slot : Nat) (s : State) : Eff :=
  let k := s.slot slot
  if ! isManager v && k.owner != some (callerOf v) then (s, errR 0x0402 slot)
  else if k.owner.isNone then (s, errR 0x0105 slot)
  else if k.state == .draining then (s, errR 0x0201 slot SlotState.draining.num)
  else
    let s := s.eraseSlot slot
    (s, okR [(s.slot slot).state.num, (s.slot slot).generation])

/-- Bind Namespace Key (R297). -/
def effBindNamespaceKey (v : Via) (nsid slot : Nat) (s : State) : Eff :=
  match s.ns? nsid with
  | none => (s, errR 0x0105 nsid)
  | some n =>
    if ! n.attached.contains (callerOf v) then (s, errR 0x0405 nsid)
    else if slot != 0 && ! dataSlot slot then (s, errR 0x0104 4)
    else if slot != 0 && (s.slot slot).owner != some (callerOf v) then (s, errR 0x0402 slot)
    else
      let b : Binding := if slot == 0 then .none else .slot slot
      let s := (s.modNs nsid fun n => { n with bound := b }).log 8 (.setting 0x00F0000A nsid slot)
      let ref : Nat := match (s.ns? nsid).bind s.currentKey with
        | some r => r
        | none => 0xFFFF
      (s, okR [ref])

/-- Get Slot. Slot 0 is the published zero key (R288); 4,092 to 4,095 are the owner attestation keys. -/
def effGetSlot (v : Via) (slot : Nat) (s : State) : Eff :=
  if slot == 0 then (s, okR [SlotState.active.num, 1, 0xFFFF, 1, 0, s.refCount 0, (s.keyRef 0).high])
  else if 4092 ≤ slot then
    let has := s.keys.ownerKeys.any (·.slot == slot - 4092)
    if ! isManager v then (s, errR 0x0402 slot)
    else (s, okR [if has then SlotState.active.num else SlotState.empty.num, bitOf has, 0xFFFF, 1, 0xFFFF, 0, 0])
  else
    let k := s.slot slot
    match k.owner with
    | none => (s, if isManager v then errR 0x0105 slot else errR 0x0402 slot)
    | some f =>
      if ! isManager v && f != callerOf v then (s, errR 0x0402 slot)
      else (s, okR [k.state.num, bitOf k.persistent, f, k.generation, k.keyRef, s.refCount slot, if k.keyRef == 0xFFFF then 0 else (s.keyRef k.keyRef).high])

/-- Export Key (R366): a consent that names the destination's fingerprint. -/
def effExportKey (v : Via) (slot : Nat) (dest : Digest) (s : State) : Eff :=
  let k := s.slot slot
  if k.owner != some (callerOf v) then (s, errR 0x0402 slot)
  else if k.state == .empty || k.state == .awaiting || k.state == .draining then (s, errR 0x0201 slot k.state.num)
  else (s.modKeys fun x => { x with exports := (x.exports.filter fun e => ! (e.1 == slot && e.2.1 == dest)) ++ [(slot, dest, s.clk.frame)] }, okR)
/-- EXPORT_CONSENT_LAPSE (R366): after 62,500 frames, unless a job that sends the key reference is Running. -/
def execExportConsentLapse (slot : Nat) (s : State) : Res :=
  let ref := (s.slot slot).keyRef
  let running (dest : Digest) : Bool := s.peer.jobs.any fun j => j.source && j.state == .running && j.partner == dest &&
    j.zones.any fun z => (s.zone j.nsid z.zone).keyRef == ref
  .next (s.modKeys fun k => { k with exports := k.exports.filter fun e =>
    ! (e.1 == slot && decide (e.2.2 + 62500 ≤ s.clk.frame) && ! running e.2.1) })

/-- Get Key Register: entries from a number on; the zero key's entry is number 0. -/
def effGetKeyRegister (first count : Nat) (s : State) : Eff :=
  let all := (zeroEntry :: s.keys.register).filter fun e => decide (first ≤ e.number)
  let shown := all.take count
  let fields := shown.length :: shown.map fun e => ofBytesLE (entryBytes e)
  (s, if shown.length < all.length then warnR 3 fields else okR fields)

/-! ## Counters and the random bit generator (R290, R300 to R303) -/

/-- COUNTER_RESERVATION (R300, R303): a mast that has used three quarters of its reservation of a key reference is granted the next 2^20
values, cut at the limit; a Limited reference only for blocks already admitted. -/
def execCounterReservation (mast keyRef : Nat) (s : State) : Res :=
  whenUnit (decide (mast < 8)) <| .next <|
    let left := sumOf (fun r => if r.keyRef == keyRef then r.stop - r.next else 0) (s.mast mast).iv
    let asked := (s.journal 8).staged.any fun r => match r with
      | .reservation 3 k m _ _ => k == keyRef && m == mast
      | _ => false
    let known := keyRef == 0 || s.keys.register.any (·.number == keyRef)
    let k := s.keyRef keyRef
    let stop := if keyRef == 0 then k.high + 2 ^ 20 else min (k.high + 2 ^ 20) k.limit
    if (s.mast mast).state != .active || asked || ! known || decide (2 ^ 18 < left) || decide (stop ≤ k.high) ||
        (s.refLimited keyRef && s.unsealed keyRef == 0) then s
    else ((s.modKeyRef keyRef fun k => { k with high := stop }).log 8 (.reservation 3 keyRef mast k.high stop)).limitSlots

/-- DRBG_RESEED (R290): after 2^20 requests. -/
def execDrbgReseed (s : State) : Res :=
  .next (if 2 ^ 20 ≤ s.keys.requests then s.modKeys fun k => { k with requests := 0, reseeds := k.reseeds + 1 } else s)

/-! ## Cipher faults (R307) -/

/-- A unit that cannot be sealed: a write not yet completed becomes void with 83h; an acknowledged block is lost and stored as a loss
block. -/
def State.giveUpUnit (s : State) (mast : Nat) (g : Segment) (r u : Nat) : State :=
  let bs := (s.unitBlocks g.seq r u).filter fun b => b.marker == .data && ! b.imported
  let live := s.io.cmds.filter fun c => bs.any fun b => b.cmd == c.id
  let s := each live (fun s c => s.voidWrite c stCipherFault) s
  let done := bs.filter fun b => ! live.any (·.id == b.cmd)
  let s := each done (fun s b => s.enterLoss b.nsid b.lba 1 b.gen 1 4 0 mast) s
  let s := s.modBlocks (fun b => done.any fun d => d.nsid == b.nsid && d.lba == b.lba) fun b => { b with marker := .loss, payload := 1, dirty := false }
  s.modMast mast fun k => { k with sealFaults := 0 }
/-- Consume `n` counter values of a mast that a discarded unit had taken (R301). -/
def Mast.skipIv (m : Mast) (ref : Nat) : Nat → Mast
  | 0 => m
  | n + 1 => match m.takeIv ref with
    | some (_, m') => m'.skipIv ref n
    | none => m

/-- A fault while sealing the mast's next unit, `n` of whose blocks were sealed already. -/
def State.sealFault (s : State) (mast n : Nat) : State :=
  match s.nextUnit mast with
  | none => s
  | some (g, r, u) =>
    let bs := (s.unitBlocks g.seq r u).filter fun b => b.marker == .data && ! b.sealed && ! b.imported
    let ref := ((bs.head?).map (·.keyRef)).getD 0
    let e := s.sealer mast
    let slot := match s.keys.slots.find? (·.keyRef == ref) with
      | some k => k.number
      | none => 0
    let s := s.modMast e fun k => { k.skipIv ref (min n bs.length) with cipherFaults := k.cipherFaults + 1 }
    let s := s.raise (60 * e + 16) 1 2 [slot]
    let times := (s.mast mast).sealFaults + 1
    let s := s.modMast mast fun k => { k with sealFaults := times }
    let e' := s.sealer mast
    let left := sumOf (fun r => if r.keyRef == ref then r.stop - r.next else 0) (s.mast e').iv
    let dry := ref != 0 && decide (left < bs.length) && decide ((s.keyRef ref).limit ≤ (s.keyRef ref).high)
    if decide (3 ≤ times) || (times == 2 && e' == mast) || dry then s.giveUpUnit mast g r u else s

/-- A fault of the cipher engine that opens block `i` of a read (R25): it is opened again; a second fault fails it with 83h (R299, R307). -/
def State.openFault (s : State) (mast id i : Nat) : State :=
  match (s.cmd? id).bind fun c => (c.blocks[i]?).map fun b => (c, b) with
  | none => s
  | some (c, b) =>
    if c.phase != .running || b.phase != 0 || s.opener b.glun != some mast then s
    else
      let ref := ((s.block? b.nsid b.lba).map (·.keyRef)).getD 0
      let slot := match s.keys.slots.find? (·.keyRef == ref) with
        | some k => k.number
        | none => 0
      let s := (s.modMast mast fun k => { k with cipherFaults := k.cipherFaults + 1 }).raise (60 * mast + 16) 2 2 [slot]
      if b.cipher == 0 then s.setBlockAt id i fun x => { x with cipher := 1 }
      else (s.setBlockAt id i fun x => { x.fail 0x783 with cipher := 2 }).finishRead id

/-- CIPHER_FAULT (R307): sealing, where `index` blocks of the unit were already sealed; or opening, block `index` of command `item`. -/
def execCipherFault (mast : Nat) (opening : Bool) (item index : Nat) (s : State) : Res :=
  whenUnit (decide (mast < 8)) <| .next <|
    if (s.mast mast).state != .active then s
    else if opening then s.openFault mast item index else s.sealFault mast index

end Sys2Proof.Machine
end

