-- ==== Sys2Proof/Machine/Pool.lean ====
section
/-! DEFINITION. The buffer pool of the host complex: classes, floors and thresholds, and the requests of its manager (R431 to
R439). The use of a class follows from what holds buffers: reads admitted, rows whose parity is not delivered, mailbox commands,
and the ownership records of the manager's own requests (notes/assumptions/11.md). -/

namespace Sys2Proof.Machine

/-! ## Classes and floors (R431 to R433) -/

/-- Class floor (R432). -/
def classFloor (v : Variant) : BufClass → Nat
  | .writeRows => match v with | .btk8208 => 65536 | .btk8416 => 131072 | .btk8832 => 262144
  | .readReturn => match v with | .btk8208 => 32768 | .btk8416 => 65536 | .btk8832 => 131072
  | .parity => match v with | .btk8208 => 16384 | .btk8416 => 32768 | .btk8832 => 65536
  | .migration => 16384
  | .mailbox => 2048
/-- Buffers of the shared region (R432). -/
def sharedTotal : Variant → Nat
  | .btk8208 => 325632
  | .btk8416 => 669696
  | .btk8832 => 1357824
/-- Buffers of the pool (R431). -/
def poolSize : Variant → Nat
  | .btk8208 => 458752
  | .btk8416 => 917504
  | .btk8832 => 1835008
/-- Sum limit of the buffer floors: the floors of the write-row and read-return classes (R433). -/
def floorTotal (v : Variant) : Nat := classFloor v .writeRows + classFloor v .readReturn
/-- The classes, in the order of R432; a class's number in events and in responses is its place in it. -/
def bufClasses : List BufClass := [.writeRows, .readReturn, .parity, .migration, .mailbox]
def classNum : BufClass → Nat
  | .writeRows => 0
  | .readReturn => 1
  | .parity => 2
  | .migration => 3
  | .mailbox => 4

/-- A stored block whose payload lies in a write-row buffer: its row has not delivered its parity, and it is not parked (R137, R432). -/
def State.buffered (s : State) (b : Stored) : Bool :=
  (b.place == .waiting || b.place == .openRow || b.place == .held) && ! (match s.seg? b.seg with
    | some g => (g.row b.row).parity
    | none => false)
/-- Buffers in use by a class. Buffers awaiting zeroing count (R435); the four mailboxes of function 0 hold 256 each (R434). -/
def State.classUse (s : State) (c : BufClass) : Nat :=
  countIf (fun b => b.cls == c && b.state != .free) s.pool.bufs +
  match c with
  | .writeRows => countIf s.buffered s.media.blocks
  | .readReturn => sumOf Cmd.readBufs s.charged
  | .parity => sumOf Cmd.parityBufs s.charged
  | .migration => 0
  | .mailbox => 1024 + sumOf (fun b => if b.busy then b.bufs else 0) s.mbx.boxes
/-- Free buffers of the shared region: what no class has drawn beyond its floor (R432). -/
def State.sharedFree (s : State) : Nat :=
  sharedTotal s.variant - sumOf (fun c => s.classUse c - classFloor s.variant c) bufClasses
/-- A class can take `n` more buffers. -/
def State.classRoom (s : State) (c : BufClass) (n : Nat) : Bool :=
  decide (s.classUse c + n ≤ classFloor s.variant c + s.sharedFree) || n == 0
/-- Buffers of the write-row and read-return classes in use by a function (R433). -/
def State.bufUse (s : State) (fn : Nat) : Nat :=
  sumOf (fun c => if c.fn == fn then c.readBufs else 0) s.charged +
  countIf (fun b => b.fn == fn && s.buffered b) s.media.blocks +
  countIf (fun b => b.fn == fn && b.state != .free && (b.cls == .writeRows || b.cls == .readReturn)) s.pool.bufs
/-- Buffer floor of a function. -/
def State.bufFloor (s : State) (fn : Nat) : Nat := (s.fn fn).alloc.getD 7 0
/-- A function can be given `n` more buffers: within its floor always, beyond it from what no floor claims and the shared region,
and not at back-pressure (R433, R435). -/
def State.fnRoom (s : State) (fn n : Nat) : Bool :=
  let beyond (f : Nat) (more : Nat) : Nat := s.bufUse f + more - s.bufFloor f
  if beyond fn n == 0 then true
  else
    let claimed := sumOf (fun f => f.alloc.getD 7 0) s.fns
    let drawn := sumOf (fun f => beyond f.fn (if f.fn == fn then n else 0)) s.fns
    decide (s.pool.level < 2) && decide (drawn ≤ floorTotal s.variant - claimed + s.sharedFree)
/-- Nothing is left in the pool that a furl would lose: read data, mailbox payloads and buffers of the manager's requests. -/
def State.poolBusy (s : State) : Bool :=
  s.pool.bufs.any (fun b => b.state != .free) || s.io.cmds.any (fun c => decide (0 < c.readBufs)) ||
    s.mbx.boxes.any fun b => b.busy && decide (0 < b.bufs)

/-! ## Thresholds (R435) -/

/-- Free shared buffers at or below which a level is entered. -/
def State.threshold (s : State) (level : Nat) : Nat :=
  s.ctlValue (ctlBufWarn + (level - 1)) * sharedTotal s.variant / 1024
/-- The level that the free count stands at: 1 warn, 2 back-pressure, 3 critical. -/
def State.levelNow (s : State) : Nat :=
  if s.sharedFree ≤ s.threshold 3 then 3 else if s.sharedFree ≤ s.threshold 2 then 2
  else if s.sharedFree ≤ s.threshold 1 then 1 else 0
/-- The zone or conventional region with held data in no rescue record whose last admitted write is oldest (R147, R150). -/
def State.oldestHeld (s : State) : Option (Nat × Nat) :=
  let zones := s.nss.flatMap fun n =>
    if n.conv then (if (s.toPark n.nsid 0).isEmpty then [] else [(maxOf ((s.heldOf n.nsid 0).map (·.order)), n.nsid, 0)])
    else (n.zones.filter fun z => ! (s.toPark n.nsid z.zi).isEmpty).map fun z => (z.lastWrite, n.nsid, z.zi)
  (minBy (fun (x : Nat × Nat × Nat) => x.1) zones).map (·.2)
/-- Parking in order of oldest last admitted write, one zone in a frame (R150). -/
def State.parkOldest (s : State) : State :=
  match s.oldestHeld with
  | some (nsid, zi) => s.park nsid zi
  | none => s
/-- Step 3: each level newly entered raises source 487; at critical, held data are parked (R435). -/
def State.bufferThresholds (s : State) : State :=
  let now := s.levelNow
  let s := each ((List.range 4).filter fun l => decide (s.pool.level < l) && decide (l ≤ now)) (fun s l =>
    s.raise 487 l (if l == 3 then 2 else 1) [classNum s.pool.lastCls, s.sharedFree]) s
  let s := s.modPool fun p => { p with level := now }
  if now == 3 then s.parkOldest else s

/-! ## Requests of the manager (R436 to R438) -/

/-- Engines that may hold a buffer (R436): command, DMA, stripe and digest engine, mast fabric port of masts 0 to 7, Halyard ports 0
to 2, host cores, management cores. -/
def engineCount : Nat := 17
def Pool.buf (p : Pool) (n : Nat) : Buf := (p.bufs.find? (·.number == n)).getD { number := n }
def State.putBuf (s : State) (b : Buf) : State := s.modPool fun p => { p with bufs := putBy Buf.number b p.bufs }
/-- A rejected request changes nothing in the buffer; it is reported and counted by its requester (R437). -/
def State.rejectBuf (s : State) (b : Buf) (engine : Nat) : State :=
  let count := ((s.pool.rejected.find? (·.1 == engine)).map (·.2)).getD 0 + 1
  let s := s.modPool fun p => { p with rejected := putBy (fun (x : Nat × Nat) => x.1) (engine, count) p.rejected }
  s.raise 487 4 1 [classNum b.cls, s.sharedFree]
def State.holdBuf (s : State) (n : Nat) (c : BufClass) (fn engine item : Nat) : State :=
  (s.putBuf { number := n, state := .held, cls := c, fn := fn, holders := [engine], item := item }).modPool fun p => { p with lastCls := c }
/-- Buffers of the parity floor kept for hedge and rebuild staging (R432). -/
def stagingFloor : Nat := 16384
/-- A request of the manager can be granted: its class has room; internal work takes no buffer of the hedge and rebuild staging (R432), and from
back-pressure on none of the shared region (R435). -/
def State.grantRoom (s : State) (c : BufClass) (fn : Nat) : Bool :=
  let internal := countIf (fun b => b.cls == c && b.state != .free && b.fn == 0xFF) s.pool.bufs
  s.classRoom c 1 && (fn != 0xFF ||
    (decide (s.pool.level < 2) || decide (s.classUse c < classFloor s.variant c)) &&
    (c != .parity || decide (internal + stagingFloor < classFloor s.variant c + s.sharedFree)))
/-- The operands name a buffer and an engine of the family. -/
def bufUnit (v : Variant) (buffer engine : Nat) : Bool := decide (buffer < poolSize v) && decide (engine < engineCount)

/-- BUFFER_ALLOCATE (R437, R438): a free buffer is held by its requester; where the class has none the request waits. The manager
gives no buffer that is held or zeroing. -/
def execBufferAllocate (buffer : Nat) (cls : BufClass) (fn engine item : Nat) (s : State) : Res :=
  whenUnit (bufUnit .btk8832 buffer engine) <|
    .next (if poolSize s.variant ≤ buffer || (s.pool.buf buffer).state != .free then s
      else if s.grantRoom cls fn then s.holdBuf buffer cls fn engine item
      else s.modPool fun p => { p with waiting := p.waiting ++ [(cls, fn, engine, item)] })
/-- BUFFER_SHARE (R437). -/
def execBufferShare (buffer engine : Nat) (s : State) : Res :=
  whenUnit (bufUnit .btk8832 buffer engine) <|
    let b := s.pool.buf buffer
    .next (if b.state == .held && decide (b.holders.length < 4) && ! b.holders.contains engine then
        s.putBuf { b with holders := b.holders ++ [engine] }
      else s.rejectBuf b engine)
/-- BUFFER_DROP (R437): the last holder's drop sends the buffer to zeroing. -/
def execBufferDrop (buffer engine : Nat) (s : State) : Res :=
  whenUnit (bufUnit .btk8832 buffer engine) <|
    let b := s.pool.buf buffer
    .next (if b.state == .held && b.holders.contains engine then
        let left := b.holders.filter (· != engine)
        s.putBuf { b with holders := left, dropped := b.dropped ++ [engine], state := if left.isEmpty then .zeroing else .held }
      else s.rejectBuf b engine)
/-- The first waiting request that can be granted takes the buffer (R438). -/
def State.grantWaiting (s : State) (buffer : Nat) : State :=
  match s.pool.waiting.find? fun (c, fn, _) => s.grantRoom c fn with
  | none => s
  | some (c, fn, e, item) =>
    (s.modPool fun p => { p with waiting := p.waiting.erase (c, fn, e, item) }).holdBuf buffer c fn e item
/-- BUFFER_ZEROED (R437): the buffer and its side slot are zeros, and it is free. -/
def execBufferZeroed (buffer : Nat) (s : State) : Res :=
  whenUnit (bufUnit .btk8832 buffer 0) <|
    let b := s.pool.buf buffer
    .next (if b.state == .zeroing then
        (s.putBuf { b with state := .free, fn := 0xFF, holders := [], dropped := [], item := 0 }).grantWaiting buffer
      else s)

end Sys2Proof.Machine
end

