-- ==== Sys2Proof/Machine/Instances.lean ====
section
/-! DEFINITION. Instances: resources and allocations, contracts, Expert enable, bringing an instance online, and the resets that end
an instance's work (R8, R181 to R187, R309 to R317, R321 to R328, R422, R433, R543, R548). -/

namespace Sys2Proof.Machine

/-! ## Resources (R315, R433, R548) -/

/-- Device total of a resource, by row of R315. -/
def State.resourceTotal (s : State) (res : Nat) : Nat :=
  match res with
  | 1 | 2 => 4096
  | 3 => 1024
  | 4 => s.availableBlocks
  | 5 => maxActive s.variant
  | 6 => maxOpen s.variant
  | 7 => 4091
  | _ => floorTotal s.variant
/-- Largest allocation of one instance, none where the remainder alone limits it. -/
def resourceMax (res : Nat) : Option Nat :=
  match res with
  | 1 => some 256
  | 2 => some 257
  | 3 => some 1024
  | 7 => some 256
  | 8 => some 65536
  | _ => none
/-- Namespaces whose origin is a function, the origin not having been deleted. -/
def State.originNs (s : State) (fn : Nat) : List Namespace := s.nss.filter fun n => n.origin == fn && ! n.deleted
/-- The instances' allocations of a resource. -/
def State.instanceSum (s : State) (res : Nat) : Nat := sumOf (fun f => if f.fn == 0 then 0 else f.alloc.getD (res - 1) 0) s.fns
/-- Allocation of a function; function 0 has the device total less the instances' for resources 3 to 6 (R548). -/
def State.allocOf (s : State) (fn res : Nat) : Nat :=
  if fn == 0 && res == 1 then 64
  else if fn == 0 && res == 2 then 65
  else if fn == 0 && decide (3 ≤ res) && decide (res ≤ 6) then s.resourceTotal res - s.instanceSum res
  else (s.fn fn).alloc.getD (res - 1) 0
/-- Use of a resource by a function (R317, R318). -/
def State.useOf (s : State) (fn res : Nat) : Nat :=
  let f := s.fn fn
  let mine := s.originNs fn
  match res with
  | 1 => countIf (fun q => q.qid != 0) f.ctrl.sqs
  | 2 => (dedupN (f.ctrl.cqs.map (·.vector))).length
  | 3 => mine.length
  | 4 => sumOf Namespace.reserved mine
  | 5 => sumOf (fun n => if n.conv then 0 else n.active) mine
  | 6 => sumOf (fun n => if n.conv then 0 else n.open_) mine
  | 7 => countIf (fun n => (s.slot n).state != .empty) (s.slotsOf fn)
  | _ => s.bufUse fn
/-- What a function may still be given of a resource beyond the other functions' allocations: the unallocated remainder and its own
allocation (R548). -/
def State.available (s : State) (fn res : Nat) : Nat :=
  let others := sumOf (fun f => if f.fn == fn then 0 else
    if f.fn == 0 then (if res == 1 then 64 else if res == 2 then 65 else if res ≤ 6 then s.useOf 0 res else f.alloc.getD (res - 1) 0)
    else f.alloc.getD (res - 1) 0) s.fns
  s.resourceTotal res - others
/-- Room left in an origin's allocation of a resource (R318). -/
def State.roomOf (s : State) (fn res : Nat) : Nat := s.allocOf fn res - s.useOf fn res
def State.putAlloc (s : State) (fn res v : Nat) : State :=
  (s.modFn fn fun f => { f with alloc := f.alloc.set (res - 1) v }).log 8 (.setting 0x00F00009 fn v)

/-- Set Allocation (R315 to R317, R433, R548). -/
def effSetAllocation (fn res value : Nat) (s : State) : Eff :=
  let f := s.fn fn
  if fn == 0 && decide (res ≤ 6) then (s, errR 0x0104 2)
  else if (match resourceMax res with | some m => decide (m < value) | none => false) then (s, errR 0x0104 8)
  else if (res == 1 || res == 2) && f.state != .offline then (s, errR 0x0201 fn f.state.num)
  else if s.allocOf fn res < value && decide (s.available fn res < value) then (s, errR 0x0301 res)
  else if decide (3 ≤ res) && decide (res ≤ 6) && decide (value < s.useOf fn res) then (s, errR 0x0203 res)
  else if res == 6 && decide (s.allocOf fn 5 < value) then (s, errR 0x0104 8)
  else if res == 5 && decide (value < s.allocOf fn 6) then
    if value < s.useOf fn 6 then (s, errR 0x0203 6)
    else ((s.putAlloc fn 5 value).putAlloc fn 6 value, okR [value])
  else if res == 7 then
    let drop := s.slotsToDrop fn value
    match s.slotInUse drop with
    | some n => (s, errR 0x0203 n)
    | none => (((s.releaseSlots drop).raiseSlots fn value).putAlloc fn 7 value, okR [value])
  else (s.putAlloc fn res value, okR [value])

/-- Defaults of R315 for instance `fn`, each capped by the remainder. -/
def State.defaultAlloc (s : State) (fn : Nat) : State :=
  let s := s.modFn fn fun f => { f with alloc := [0, 0, 0, 0, 0, 0, 0, 0] }
  let active := min 64 (s.available fn 5)
  let vals := [(3, min 16 (s.available fn 3)), (5, active), (6, min (min 32 active) (s.available fn 6)), (7, min 4 s.freeSlots), (8, min 256 (s.available fn 8))]
  (each vals (fun s (r, v) => s.putAlloc fn r v) s).raiseSlots fn ((vals.getD 3 (7, 0)).2)

/-- Get Instance. -/
def effGetInstance (fn : Nat) (s : State) : Eff :=
  let f := s.fn fn
  let slots := s.slotsOf fn
  (s, okR ([f.state.num, bitOf f.expert, s.ctlValue ctlResetPolicy fn, s.ctlValue ctlDrainLimit fn] ++
    (((List.range 8).map (· + 1)).flatMap fun r => [s.allocOf fn r, s.useOf fn r]) ++ [slots.length] ++ slots))

/-! ## Contracts (R181, R182, R187, R195, R196) -/

def classOf (n : Nat) : LatClass := if n == 0 then .a else if n == 1 then .b else .c
def classCode : LatClass → Nat
  | .a => 0
  | .b => 1
  | .c => 2
/-- T after a Set Contract that carries `t`: none for the default; an explicit T below the class's bound only where it repeats the one
in effect, and then it is raised. -/
def State.newT (s : State) (old : Contract) (cls : LatClass) (t : Nat) : Option (Option Nat) :=
  let lo := if cls == .c then 1 else s.normalBound cls
  if t == 0 then some none
  else if lo ≤ t then some (some t)
  else if old.t == some t then some (some lo) else none

/-- Set Contract (R181, R182, R187, R196). -/
def effSetContract (fn cls : Nat) (constantTime : Bool) (reserved burst t ceiling : Nat) (s : State) : Eff :=
  let k := classOf cls
  let old := (s.fn fn).contract
  let others := sumOf (fun f => if f.fn == fn then 0 else f.contract.reserved) s.fns
  if 960 < reserved || (k != .c && reserved == 0) then (s, errR 0x0104 4)
  else if burst < reserved || decide (1024 < burst) then (s, errR 0x0104 6)
  else if 65535 < t then (s, errR 0x0104 8)
  else match s.newT old k t with
    | none => (s, errR 0x0104 8)
    | some nt =>
      if ceiling == 0 || decide (1024 < ceiling) then (s, errR 0x0104 12)
      else if 960 < others + reserved then (s, errR 0x0304 (others + reserved - 960))
      else
        let c : Contract := { cls := k, constantTime := constantTime, reserved := reserved, burst := burst, t := nt, ceiling := ceiling }
        ((s.modFn fn fun f => ({ f with contract := c }).cutCredit s.capUnits s.capCycles).log 8 (.setting 0x00F00008 fn reserved), okR)

/-- Get Contract. -/
def effGetContract (fn : Nat) (s : State) : Eff :=
  let f := s.fn fn
  let c := f.contract
  let k := f.counters
  (s, okR ([fn, classCode c.cls, bitOf c.constantTime + bitOf c.t.isNone 1, c.reserved, c.burst, s.tEffect c, c.ceiling] ++ s.boundRows ++
    [k.bounded, k.within, k.ladder, k.overrun, k.condition, k.hShare, k.hEnergy, k.hTranslation, k.hLun, k.hPort, k.hMirror, k.late]))

/-- Set Expert Enable (R8). -/
def effSetExpertEnable (fn : Nat) (enable : Bool) (s : State) : Eff :=
  ((s.modFn fn fun f => { f with expert := enable }).log 8 (.setting 0x00F0000C fn (bitOf enable)), okR)

/-! ## Resets of controllers, mailboxes and rings (R422, R425, R497, R537, R538, R540, R543) -/

/-- A controller's queues and admin state return to their initial state. -/
def Ctrl.initial (c : Ctrl) : Ctrl := { c with
  ccEn := false, rdy := false, shst := 0, sqs := [], cqs := [], features := [], aer := [], aen := [], errors := [], masked := [], pba := []
  coalesce := [], changedNs := [], lastSq := 0 }
/-- The window's latches and GSTS return to 0. -/
def Ctrl.windowReset (c : Ctrl) : Ctrl := { c with
  frameHi := 0, markFhi := 0, markUlo := 0, markUhi := 0, utcHi := 0, utcFrac := 0, gstsExpert := false, gstsSize := false, gstsRing := false }
/-- A controller whose port or power is reset: its window too, no fault, and no pause. -/
def Ctrl.portReset (c : Ctrl) : Ctrl := { c.initial.windowReset with cfs := false, pBme := false, pPme := false, pCmd := false }
/-- Function 0's controller after a reset (R407, R497): the pauses that a host ends have ended, at `PERST#` that of the port too. -/
def Ctrl.afterReset (cause : ResetCause) (c : Ctrl) : Ctrl :=
  if cause == .perst then c.portReset else { c.initial with pBme := false, pCmd := false }
/-- A mailbox after a reset that reaches it (R543): a command not yet in effect completes with the status, without a message; one in
effect keeps its effect and its response is lost; without a command DONE is cleared. -/
def Mbx.resetBox (b : Mbx) (status frame : Nat) : Mbx :=
  let early := b.cmd.isSome && ! b.waiting
  { b with
    busy := false, done := early, goWhileBusy := false, intEn := false, vector := 0, cmd := none, verdict := none, waiting := false
    resp := if early then some (errR status) else none, effect := if early then frame else b.effect }
/-- Reset the mailboxes that satisfy `p`. -/
def State.resetBoxes (s : State) (p : Via → Bool) (status : Nat) : State :=
  s.modMbx fun m => { m with
    boxes := updIf (fun b => p b.via) (fun b => b.resetBox status s.clk.frame) m.boxes, order := m.order.filter (! p ·) }
def boxOf (fn : Nat) : Via → Bool
  | .bar f _ => f == fn
  | .mctp => false
/-- Mailboxes of function 0 in the window of a port (R387). -/
def State.portBox (s : State) (port1 : Bool) : Via → Bool
  | .bar f mb => f == 0 && (! s.dual || decide (2 ≤ mb) == port1)
  | .mctp => false
/-- Rings of a function return to reset: of function 0 those of one port, ring 1 being port 1's in dual mode (R425). -/
def State.resetRings (s : State) (fn : Nat) (port1 : Bool) : State :=
  let s := s.modIo fun h => { h with reqs := h.reqs.map fun r => match r.what with
    | .ring i _ => if r.fn == fn && (fn != 0 || ! s.dual || (i == 1) == port1) then { r with what := .dropped } else r
    | _ => r }
  s.modFn fn fun f => { f with rings := f.rings.zipIdx.map fun (r, i) =>
    if fn != 0 || ! s.dual || (i == 1) == port1 then ({} : Ring) else r }

/-! ## Ending work (R322 to R328) -/

/-- The 0x08xx status of a cause (R420). -/
def resetStatus : ResetCause → Nat
  | .resetInstance | .offline | .vfGone => 0x0801
  | .flr | .ccReset => 0x0802
  | .perst | .deep => 0x0803
/-- State that a cause leads to (R312). -/
def resetTarget : ResetCause → InstState
  | .offline | .vfGone => .offline
  | .resetInstance | .flr | .ccReset | .perst | .deep => .online

/-- End one command under squash (R323): held work is cancelled; a read runs its planned entries and drops their results; a write
that is not wholly in DRAM is void; anything else is dropped and keeps its effect. -/
def State.squashCmd (s : State) (c : Cmd) : State :=
  if c.phase == .squashed then s
  else if isRead c.op && c.phase == .running then
    let s := s.modCmd c.id fun c => { c with
      phase := .squashed, waitsFor := none, blocks := c.blocks.map fun b => if b.phase == 0 && b.failedAt == 0 && b.sent && ! s.lunErased b.glun then b else { b with phase := 2 } }
    (s.dropReqs c.id).dropSquashed c.id
  else if ! c.waiting.isEmpty then (s.voidBlocks c).dropCmd c
  else s.dropCmd c
/-- Zones of the namespaces attached to a function that are open become Closed (R113, R323). -/
def State.closeOpened (s : State) (fn : Nat) : State :=
  let zs := (s.nss.filter fun n => n.attached.contains fn).flatMap fun n => (n.zones.filter (·.state.isOpen)).map fun z => (n.nsid, z.zi)
  each zs (fun s (nsid, zi) => s.closeZone nsid zi) s
/-- Squash the work of a function's controller: entries not fetched are forgotten, fixity jobs end, open zones close. -/
def State.squash (s : State) (fn : Nat) (port1 : Bool) (status : Nat) : State :=
  let mine := s.io.cmds.filter fun c => c.fn == fn && c.port1 == port1
  let s := s.modIo fun h => { h with submitted := h.submitted.filter fun (f, _, p, _, _) => ! (f == fn && p == port1) }
  let s := (each mine State.squashCmd s).retryArriving
  (s.abortJobs (fun j => j.fn == fn && j.via != .mctp) status).closeOpened fn
/-- Begin a drain (R324): held commands are posted with Command Abort Requested. -/
def State.drain (s : State) (fn : Nat) : State :=
  let s := s.modIo fun h => { h with submitted := h.submitted.filter fun (f, _, _, _, _) => f != fn }
  each (s.io.cmds.filter fun c => c.fn == fn && c.phase == .held) (fun s c => s.conclude c.id stAborted) s
/-- Completions that constant-time completion held go out when a drain begins (R324). -/
def State.releaseDrained (s : State) (fn : Nat) : State :=
  each (s.io.cmds.filter fun c => c.fn == fn && c.phase == .ready && c.sq != 0 && ! s.paused fn c.port1) (fun s c => s.deliver c.id (s.dataOfCmd c)) s

/-- What returns to its initial state when an instance leaves resetting (R326). -/
def State.instanceInitial (s : State) (fn : Nat) : State :=
  (s.modFn fn fun f => { f with expert := false, ctrl := f.ctrl.initial.windowReset }).resetRings fn false
/-- A mailbox reset or offline command of an instance. -/
def isResetOf (fn : Nat) : Instr → Bool
  | .resetInstance _ f | .instanceOffline _ f => f == fn
  | _ => false
/-- Secondary Controller Offline of an instance. -/
def isOfflineOf (fn : Nat) : Instr → Bool
  | .secondaryControllerOffline _ f => f == fn
  | _ => false

/-- Begin a reset of an instance at step 4 (R322, R324, R327). -/
def State.beginReset (s : State) (fn : Nat) (cause : ResetCause) : State :=
  let f := s.fn fn
  let byMbx := cause == .resetInstance || cause == .offline
  match f.state with
  | .offline => s.instanceInitial fn
  | .resetting =>
    let into := if cause == .vfGone then some cause else f.resetCause
    let s := s.modFn fn fun f => { f with resetCause := into, inFlr := f.inFlr || cause == .flr }
    if f.draining then (s.modFn fn fun f => { f with draining := false }).squash fn false (resetStatus cause) else s
  | .online =>
    let s := s.resetBoxes (boxOf fn) (resetStatus cause)
    let dr := byMbx && s.ctlValue ctlResetPolicy fn == 0
    let s := s.modFn fn fun f => { f with
      state := .resetting, resetCause := some cause, draining := dr, resetFrame := s.clk.frame, retired := false, inFlr := cause == .flr
      ctrl := { f.ctrl with rdy := false, pBme := f.ctrl.pBme && byMbx, pCmd := f.ctrl.pCmd && byMbx } }
    if dr then ((s.drain fn).releaseDrained fn).abortJobs (fun j => j.fn == fn && j.via != .mctp) (resetStatus cause) else s.squash fn false (resetStatus cause)

/-- Function 0's controllers and an event's reset of an instance begin at the next step 4 (R322); a wider cause replaces one that
waits (R500). -/
def State.queueReset (s : State) (fn : Nat) (cause : ResetCause) : State :=
  s.modFn fn fun f => { f with queuedReset := if f.queuedReset == some .vfGone then f.queuedReset else some cause }
/-- Step 4 of R49: resets queued by events. A function-level reset of function 0 is completed at once. -/
def State.startResets (s : State) : State :=
  let due := s.fns.filter fun f => f.queuedReset.isSome
  let s := each due (fun s f =>
    let cause := f.queuedReset.getD .ccReset
    let s := s.modFn f.fn fun f => { f with queuedReset := none }
    if f.fn == 0 then (s.squash 0 false (resetStatus cause)).modCtrl 0 false (Ctrl.afterReset cause) else s.beginReset f.fn cause) s
  match s.io.reset1 with
  | none => s
  | some cause => ((s.squash 0 true (resetStatus cause)).modCtrl1 (Ctrl.afterReset cause)).modIo fun h => { h with reset1 := none }

/-- Nothing of a reset instance's work is left (R326). -/
def State.workEnded (s : State) (fn : Nat) : Bool :=
  ! s.io.cmds.any (·.fn == fn) && ! s.io.reqs.any (fun r => r.fn == fn && r.retiredUntil.isNone) &&
  ! s.pool.bufs.any fun b => b.fn == fn && b.state == .zeroing
/-- The instance leaves resetting (R326, R312), and the commands that wait for it are answered. -/
def State.leaveResetting (s : State) (fn : Nat) : State :=
  let f := s.fn fn
  let gone := decide (s.io.numVfs < fn) || ! s.io.vfEnable
  let into := if gone then .offline else resetTarget (f.resetCause.getD .offline)
  let s := (s.instanceInitial fn).closeOpened fn
  let s := s.modFn fn fun f => { f with state := into, resetCause := none, draining := false, retired := false, inFlr := false }
  let s := s.answerWaiting (isResetOf fn) okR
  each (s.io.cmds.filter fun c => isOfflineOf fn c.op && c.phase == .running) (fun s c => s.conclude c.id stOk) s
/-- Step 3 of R49: instances whose reset retired in an earlier frame leave resetting. -/
def State.leaveRetired (s : State) : State :=
  each (s.fns.filter fun f => f.state == .resetting && f.retired) (fun s f => s.leaveResetting f.fn) s

/-- DRAIN_LIMIT (R324): work that remains at the end of frame R + drain limit − 1 is squashed from step 4 of the next frame. -/
def execDrainLimit (fn : Nat) (s : State) : Res :=
  whenUnit (decide (fn ≤ 128)) <| .next <|
    let f := s.fn fn
    if f.state == .resetting && f.draining && decide (f.resetFrame + s.ctlValue ctlDrainLimit fn ≤ s.clk.frame) then
      (s.modFn fn fun f => { f with draining := false }).squash fn false (resetStatus (f.resetCause.getD .resetInstance))
    else s

/-- RESET_RETIRE (R326): every media entry, engine item and DMA transaction of the instance has ended and its buffers are zeroed. -/
def execResetRetire (fn : Nat) (s : State) : Res :=
  whenUnit (decide (fn ≤ 128)) <| .next <|
    if (s.fn fn).state == .resetting && s.workEnded fn then s.modFn fn fun f => { f with retired := true } else s

/-- VF_ENABLE_CHANGE (R309, R314): instances that no longer exist are reset and go offline. -/
def execVfEnableChange (enable : Bool) (numVfs : Nat) (s : State) : Res :=
  .next <|
    let n := min 128 numVfs
    let s := s.modIo fun h => { h with vfEnable := enable, numVfs := n }
    let gone := s.fns.filter fun f => f.fn != 0 && (f.state != .offline || f.expert) && (! enable || decide (n < f.fn))
    each gone (fun s f => s.queueReset f.fn .vfGone) s
/-- VF Enable is cleared by a reset of function 0's port (R497). -/
def State.clearVfEnable (s : State) : State :=
  let s := s.modIo fun h => { h with vfEnable := false, numVfs := 0 }
  each (s.fns.filter fun f => f.fn != 0 && (f.state != .offline || f.expert)) (fun s f => s.queueReset f.fn .vfGone) s

/-! ## Commands (R310, R313, R322, R327) -/

/-- A function exists (R309). -/
def State.fnExists (s : State) (fn : Nat) : Bool := fn == 0 || (s.io.vfEnable && decide (fn ≤ s.io.numVfs) && decide (fn ≤ 128))
/-- The conditions of R313. -/
def State.canGoOnline (s : State) (fn : Nat) : Bool :=
  fn != 0 && (s.fn fn).state == .offline && decide (1 ≤ s.allocOf fn 1) && decide (1 ≤ s.allocOf fn 2) && s.fnExists fn
def State.goOnline (s : State) (fn : Nat) : State := s.modFn fn fun f => { f with state := .online }

/-- Instance Online. -/
def effInstanceOnline (fn : Nat) (s : State) : Eff :=
  if s.canGoOnline fn then (s.goOnline fn, okR) else (s, errR 0x0201 fn (s.fn fn).state.num)
/-- Reset Instance and Instance Offline: no answer yet while the reset runs (R412). -/
def effReset (fn : Nat) (cause : ResetCause) (s : State) : State × Option Resp :=
  match (s.fn fn).state with
  | .resetting => (s, some (errR 0x0201 fn 2))
  | .offline => (s.beginReset fn cause, some okR)
  | .online => if fn == 0 then (s, some (errR 0x0104 0)) else (s.beginReset fn cause, none)
def effResetInstance (fn : Nat) (s : State) : State × Option Resp := effReset fn .resetInstance s
def effInstanceOffline (fn : Nat) (s : State) : State × Option Resp := effReset fn .offline s

end Sys2Proof.Machine
end

