-- ==== Sys2Proof/Machine/Assign.lean ====
section
/-! DEFINITION. Assignment of logical blocks to positions: in a zone at its assigned pointer, and in a conventional region at the next
position of its writing segment (R80, R108, R110, R118, R132, R135). -/

namespace Sys2Proof.Machine

/-- The segment that a zone takes for index `i`. -/
def zoneProto (n : Namespace) (z : Zone) (i : Nat) : Segment := {
  seq := 0, gen := z.gen, nsid := n.nsid, zone := some z.zi, index := i, width := z.width, cls := z.cls, archival := z.archival
  home := z.home, keyRef := z.keyRef }
/-- Allocate the segments that `count` blocks at the zone's pointer need and it does not hold; none when one is not obtainable. -/
def State.ensureSegments (s : State) (n : Namespace) (zi count : Nat) : Option State :=
  let z := n.zone zi
  let per := perSeg s.profile z.width
  let need := if count == 0 then [] else (List.range ((z.wp + count - 1) / per + 1)).filter fun i =>
    decide (z.wp / per ≤ i) && (s.zoneSeg z i).isNone
  need.foldl (fun acc i => acc.bind fun s => (s.allocSegment (zoneProto n z i)).map fun (q, s) =>
    s.modZone n.nsid zi fun z => { z with segs := z.segs ++ [q] }) (some s)

/-- Put a block at zone offset `o`, whose segment the zone holds. -/
def State.placeAt (s : State) (nsid zi o : Nat) (b : Stored) : State :=
  let z := s.zone nsid zi
  let p := posOf s.profile z.width o
  match s.zoneSeg z p.seg with
  | none => s
  | some g =>
    let b := { b with nsid := nsid, gen := z.gen, keyRef := z.keyRef, seg := g.seq, row := p.row, unit := p.unit, idx := p.idx
                      mast := s.unitMast g p.unit p.row, order := s.media.order }
    let s := s.modMedia fun m => { m with blocks := m.blocks ++ [b], order := m.order + 1 }
    let s := s.modRow g.seq p.row id
    if o + 1 == (p.seg + 1) * perSeg s.profile z.width then s.modSeg g.seq fun g => { g with full := true } else s

/-- Assign `count` blocks of a zone at its pointer (R118): the blocks, the pointer, and Full at the zone capacity. None when a
segment is not obtainable (R231). -/
def State.assignZone (s : State) (nsid zi count : Nat) (mk : Nat → Stored) : Option State :=
  match s.ns? nsid with
  | none => none
  | some n =>
    (s.ensureSegments n zi count).map fun s =>
      let wp := (n.zone zi).wp
      let base := zi * n.zoneSize s.profile
      let s := each (List.range count) (fun s i => s.placeAt nsid zi (wp + i) { mk i with lba := base + wp + i }) s
      let s := s.modZone nsid zi fun z => { z with
        wp := wp + count, lastWrite := s.media.order, lastFrame := s.clk.frame, parked := false }
      match s.ns? nsid with
      | none => s
      | some n => if (n.zone zi).wp == s.zoneCap n (n.zone zi) then s.finishZone n zi false else s.logZone nsid zi

/-- A conventional LBA no longer maps its block: the block holds its position until its row is durable, and its segment has one valid
block less (R132). -/
def State.unmapConv (s : State) (nsid lba : Nat) : State :=
  let s := s.modNs nsid fun n => { n with map := n.map.filter (·.1 != lba) }
  match s.ns? nsid, s.block? nsid lba with
  | some _, some b =>
    let durable := match s.seg? b.seg with | some g => (g.row b.row).durable | none => true
    let mine (x : Stored) : Bool := x.nsid == nsid && x.lba == lba
    let s := if durable then s.dropBlocks mine else s.modBlocks mine fun x => { x with nsid := 0, copyOf := none }
    let s := s.modSeg b.seg fun g => { g with valid := g.valid - 1 }
    if s.inLedger nsid lba then s.removeLoss nsid lba else s
  | _, _ => if s.inLedger nsid lba then s.removeLoss nsid lba else s

/-- Assign one conventional LBA (R132); none when no position can be obtained (R222, R231). -/
def State.assignConv (s : State) (nsid lba ref : Nat) (b : Stored) : Option State :=
  match s.convNext nsid ref with
  | (none, _) => none
  | (some (q, row, unit, idx), s) =>
    (s.seg? q).map fun g =>
      let s := s.unmapConv nsid lba
      let b := { b with nsid := nsid, lba := lba, gen := g.gen, keyRef := ref, seg := q, row := row, unit := unit, idx := idx
                        mast := s.unitMast g unit row, order := s.media.order }
      let s := s.modMedia fun m => { m with blocks := m.blocks ++ [b], order := m.order + 1 }
      let s := (s.modRow q row id).modSeg q fun g => { g with valid := g.valid + 1 }
      s.modNs nsid fun n => { n with map := n.map ++ [(lba, q)] }

end Sys2Proof.Machine
end

