-- ==== Sys2Proof/Machine/Jobs.lean ====
section
/-! DEFINITION. The states of peer operations and what a lost path does to them (R343, R355, R358, R362, R365, R368, R376, R377, R379,
R382, R384). -/

namespace Sys2Proof.Machine

/-! ## Looking for a path (R343, R358) -/

/-- Fingerprint of this device's identity key (R278). -/
def State.ownFp (s : State) : Digest := keyPrint (pubFromPriv s.fuses.identityPriv.toNat)
/-- Port enable of R360. -/
def State.portEnabled (s : State) (port : Nat) : Bool := s.ctlValue ctlHalPort port == 1
/-- The neighbour of a port is marked asleep (R354). -/
def State.neighbourAsleep (s : State) (port : Nat) : Bool :=
  match (s.hport port).neighbour.bind s.partner? with
  | some p => p.asleep && ! p.departed
  | none => false
/-- Begin to send the wake pattern on a port (R358). -/
def State.wakePort (s : State) (port : Nat) : State :=
  if (s.hport port).waking.isSome || ! s.portEnabled port then s
  else (s.modHport port fun p => { p with waking := some (s.clk.frame, s.clk.frame) }).emit (.wakePattern port)
/-- Send one copy of a probe on a port; with the wake flag, a neighbour that sleeps is woken first and the copy held (R358). -/
def State.probeOn (s : State) (port : Nat) (target origin : Digest) (number latency hops : Nat) (wake : Bool) : State :=
  if wake && s.neighbourAsleep port then
    (s.wakePort port).modHal fun h => { h with heldProbes := h.heldProbes ++ [(port, target, origin, number, latency, hops)] }
  else if (s.hport port).state == .paired then
    s.tx port { seq := 0, ptype := 0x07, hops := hops, args := [target.toNat, origin.toNat, number, latency, bitOf wake] }
  else s
/-- Look for a remote partner with a probe of this device's own (R343). -/
def State.sendProbe (s : State) (target : Digest) (wake : Bool) : State :=
  let n := s.hal.nextProbe
  let s := s.modHal fun h => { h with
    nextProbe := (n + 1) % 2 ^ 32, probes := h.probes ++ [{ number := n, target := target, sent := s.clk.frame, wake := wake }] }
  each [0, 1, 2] (fun s port => s.probeOn port target s.ownFp n 0 0 wake) s
/-- A peer operation needs a path to a partner: a neighbour that sleeps is woken, a remote partner is looked for. -/
def State.reach (s : State) (fp : Digest) : State :=
  if (s.bestPath fp).isSome then s
  else match [0, 1, 2].find? fun i => (s.hport i).neighbour == some fp with
    | some i => if s.neighbourAsleep i then s.wakePort i else s
    | none => if s.hal.probes.any (·.target == fp) then s else s.sendProbe fp false

/-! ## Requests (R340) -/

/-- Remove requests; the places still reserved for their responses are released. -/
def State.dropHReqs (s : State) (p : HReq → Bool) : State :=
  let gone := s.hal.reqs.filter fun r => p r && r.sent
  let s := s.modHal fun h => { h with reqs := h.reqs.filter (! p ·) }
  each gone (fun s r => s.modHport r.port fun x => { x with reserved := x.reserved - (r.declared - r.received) }) s
/-- Requests of this device's own operation `ident`. -/
def ofOp (ident : Nat) (r : HReq) : Bool := r.mine && r.ident == ident

/-! ## Jobs (R368, R376, R377) -/

/-- A job that has not ended. -/
def Job.live (j : Job) : Bool := j.state == .offered || j.state == .running || j.state == .suspended
/-- Record a job's state (R376): its control-setting record and its event. -/
def State.setJob (s : State) (id : Nat) (st : JobState) (cause : Nat) : State :=
  ((s.modJob id fun j => { j with
    state := st, cause := cause, changed := s.clk.frame
    suspendedAt := if st == .suspended then some s.clk.frame else none }).raise 597 2 0 [id, 0]).log 8 (.setting 0x00F00004 (id % 2 ^ 32) st.num)
/-- The landing namespace of an ended operation becomes an ordinary namespace (R362). -/
def State.releaseLanding (s : State) (nsid : Nat) : State := s.modNs nsid fun n => { n with landing := false }
/-- Return a landing zone to Empty (R374, R376). -/
def State.returnZone (s : State) (nsid zi : Nat) : State :=
  let z := s.zone nsid zi
  if z.state == .empty || z.state == .offline then s else s.requestRelease nsid zi .empty
/-- A zone of a job is settled: cut over, withdrawn or refused. -/
def JobZone.settled (z : JobZone) : Bool := z.phase == 2 || z.phase == 3 || z.phase == 4
/-- What this end keeps of a job that ends in Complete or Stopped (R362, R376): the destination returns every zone that is not cut
over, and the landing namespace is released. -/
def State.closePeerJob (s : State) (j : Job) : State :=
  let s := (s.dropHReqs (ofOp j.ident)).modJob j.ident fun j => { j with streams := [] }
  if j.source then s
  else (each (j.zones.filter fun z => z.phase == 1 || z.phase == 5) (fun s z => s.returnZone j.nsid z.zone) s).releaseLanding j.nsid
/-- Stop a job (R376); `tell` sends the end to the other drive. -/
def State.stopJob (s : State) (id cause : Nat) (tell : Bool := true) : State :=
  match s.job? id with
  | none => s
  | some j =>
    if ! j.live then s
    else
      let s := if tell then s.sendOp j.partner 0x09 [3, JobState.stopped.num, cause, id] else s
      (s.closePeerJob j).setJob id .stopped cause
/-- Complete (R376): every listed zone is cut over, withdrawn or refused. A destination whose Offer listed no zones takes the end from
the source. -/
def State.completeJob (s : State) (id : Nat) : State :=
  match s.job? id with
  | none => s
  | some j =>
    if j.state != .running || ! j.zones.all JobZone.settled || ! j.source && j.all then s
    else
      let s := if j.source then s.sendOp j.partner 0x09 [3, JobState.complete.num, 0, id] else s
      (s.closePeerJob j).setJob id .complete 0
/-- Suspend a Running job (R377); blocks received and not yet placed are given up. -/
def State.suspendJob (s : State) (id cause : Nat) : State :=
  match s.job? id with
  | none => s
  | some j =>
    if j.state != .running then s
    else ((s.dropHReqs (ofOp id)).modJob id fun j => { j with
      streams := [], zones := j.zones.map fun z => { z with stream := none, pieces := [] } }).setJob id .suspended cause
/-- Divide the zones not yet started evenly among the streams (R368). -/
def Job.divide (j : Job) : Job :=
  let waiting := (j.zones.filter (·.phase == 0)).map (·.zone)
  let n := j.streams.length
  if n == 0 then j
  else { j with zones := j.zones.map fun z =>
    if z.phase == 0 then { z with stream := j.streams[waiting.idxOf z.zone % n]? } else z }
/-- A stream's path has ended (R377): its requests end, its zones pass to the remaining streams from their last checkpoints; without
a stream the job is Suspended. -/
def State.loseStream (s : State) (id : Nat) (path : Nat × Nat) : State :=
  match s.job? id with
  | none => s
  | some j =>
    let left := j.streams.filter (· != path)
    if j.state != .running || ! j.streams.contains path then s
    else if left.isEmpty then s.suspendJob id 0x0705
    else
      let s := s.dropHReqs fun r => ofOp id r && r.port == path.1 && r.label == path.2
      (s.modJob id fun j => { j with
        streams := left
        zones := j.zones.map fun z => if z.stream == some path then { z with stream := left.head?, pieces := [] } else z }).modJob id Job.divide
/-- Paths for the streams of a job: the best, then the best that leaves on another port, up to `max` (R368). -/
def State.chooseStreams : Nat → List Path → List (Nat × Nat)
  | 0, _ => []
  | k + 1, l =>
    match bestOf l with
    | none => []
    | some p => (p.port, p.label) :: chooseStreams k (l.filter (·.port != p.port))
/-- Paths to a partner within the latency budget (R344). -/
def State.goodPaths (s : State) (fp : Digest) : List Path := (s.pathsTo fp).filter fun p => decide (p.latency ≤ s.pathBudget)

/-- The Offer of a migration job (R371). -/
def State.sendOffer (s : State) (j : Job) : State :=
  match s.ns? j.nsid with
  | none => s
  | some n =>
    let zones := if j.all then [] else j.zones.map (·.zone)
    s.sendOp j.partner 0x01 ([1, j.maxStreams, j.ident, j.nsid, zones.length, s.media.genEnd, n.lbaf, n.pi, 0x10] ++ zones)
      (ceilDiv (32 + 4 * zones.length) 512)
/-- Loss policy in effect of a relationship: 0 stop, 1 degrade (R385). -/
def Mirror.lossPolicy (m : Mirror) : Nat := m.policy.getD (if m.mode == 0 then 0 else 1)
/-- The Offer of a mirror relationship (R371). -/
def State.sendMirrorOffer (s : State) (m : Mirror) : State :=
  match s.ns? m.nsid with
  | none => s
  | some n => s.sendOp m.other 0x01 [2, 1, m.ident, m.nsid, 0, s.media.genEnd, n.lbaf, n.pi, 0x10, m.firstZone, m.zoneCount, m.mode, m.lossPolicy, m.lagLimit]
/-- A partner has become Paired with a path: Offers that wait are sent. -/
def State.partnerUp (s : State) (fp : Digest) : State :=
  let s := each (s.peer.jobs.filter fun j => j.source && j.state == .offered && j.partner == fp) State.sendOffer s
  each (s.peer.mirrors.filter fun m => m.source && ! m.accepted && ! m.ended && m.other == fp) State.sendMirrorOffer s

/-! ## Mirror relationships (R381, R382, R384) -/

/-- Writes that waited for the partner of a relationship complete under R139 (R382). -/
def State.ackMirrored (s : State) (m : Mirror) : State :=
  let mine (c : Cmd) : Bool := c.phase == .running && (match c.range with
    | some (nsid, _, _) => nsid == m.nsid
    | none => false)
  each (s.io.cmds.filter mine) (fun s c => s.ackWrite c.id) s
/-- The partner has become unreachable (R382): the relationship is broken. One record for each mirrored zone carries its mirror pointer. -/
def State.breakMirror (s : State) (id : Nat) : State :=
  match s.mirror? id with
  | none => s
  | some m =>
    if m.broken || m.ended || ! m.accepted then s
    else
      let s := (s.dropHReqs (ofOp id)).modMirror id fun m => { m with
        broken := true, catchingUp := false, brokenAt := s.clk.frame, pulls := []
        zones := m.zones.map fun z => { z with next := z.ack } }
      let s := if m.zones.isEmpty then s.raise 597 3 2 [id, 0]
        else each m.zones (fun s z => s.raise 597 3 2 [id, z.zone, z.ack]) s
      if m.source then s.ackMirrored m else s
/-- Break every relationship with a partner that no path reaches. -/
def State.breakMirrors (s : State) (fp : Digest) : State :=
  if (s.bestPath fp).isSome && s.isPaired fp then s
  else each ((s.peer.mirrors.filter (·.other == fp)).map (·.ident)) (fun s id => s.breakMirror id) s
/-- End a relationship at its source (R384): its zones are no longer mirrored, and writes that waited complete. -/
def State.endMirrorSource (s : State) (m : Mirror) : State :=
  let s := (s.dropHReqs (ofOp m.ident)).modPeer fun p => { p with mirrors := p.mirrors.filter (·.ident != m.ident) }
  let s := s.modNs m.nsid fun n => { n with zones := n.zones.map fun z => if z.mirror == some m.ident then { z with mirror := none } else z }
  (s.ackMirrored m).log 8 (.setting 0x00F00007 (m.ident % 2 ^ 32) 0)
/-- Release the landing namespace of a relationship at the partner (R384): Full zones stay Full, every other mirrored zone becomes
Closed at its mirror pointer, or Empty when that is the zone start. -/
def State.releaseMirrorZones (s : State) (m : Mirror) : State :=
  let s := s.dropHReqs (ofOp m.ident)
  let s := each m.zones (fun s z =>
    match (s.zone m.nsid z.zone).state with
    | .full => s
    | _ => if z.ack == 0 then s.returnZone m.nsid z.zone else s.setZone m.nsid z.zone .closed) s
  ((s.releaseLanding m.nsid).modPeer fun p => { p with mirrors := p.mirrors.filter (·.ident != m.ident) }).log 8
    (.setting 0x00F00007 (m.ident % 2 ^ 32) 0)

/-- A partner marked asleep that a suspended job or a relationship needs is woken (R358, R377). -/
def State.wakeAsleep (s : State) (fp : Digest) : State :=
  let needed := (s.peer.jobs.any fun j => j.state == .suspended && j.partner == fp) ||
    s.peer.mirrors.any fun m => m.accepted && ! m.ended && m.other == fp
  match [0, 1, 2].find? fun i => (s.hport i).neighbour == some fp && s.neighbourAsleep i with
  | some i => if needed && (s.bestPath fp).isNone then s.wakePort i else s
  | none => s
/-- Peer operations over a path that has ended (R355, R377, R382). -/
def State.pathLost (s : State) (fp : Digest) (path : Nat × Nat) : State :=
  let s := s.dropHReqs fun r => r.mine && r.port == path.1 && r.label == path.2
  let s := each ((s.peer.jobs.filter fun j => j.partner == fp).map (·.ident)) (fun s id => s.loseStream id path) s
  (s.breakMirrors fp).wakeAsleep fp

end Sys2Proof.Machine
end

