-- ==== Sys2Proof/Machine/Halyard.lean ====
section
/-! DEFINITION. Halyard links (R332 to R360): training, Hail, authentication and rekeying, acceptance of packets, paths and their loss,
departures, quarantine and the wake pattern. -/

namespace Sys2Proof.Machine

/-! ## Records of partners (R342, R347, R356) -/

/-- Event sources of a Halyard port. -/
def halSrc (port o : Nat) : Nat := 544 + 16 * port + o
/-- Set the state of a partner's record; leaving Known and Paired for another state is an exit (R356). -/
def State.setPartner (s : State) (fp : Digest) (st : LinkState) : State :=
  s.modPartner fp fun p =>
    let was := p.state == .known || p.state == .paired
    let is_ := st == .known || st == .paired || st == .training
    let p := if was && ! is_ then { p with exits := p.exits ++ [s.clk.frame], exitCount := p.exitCount + 1 } else p
    { p with state := st, downSince := if st == .down then s.clk.frame else p.downSince }
/-- Find or make a partner's record (R342); none when all 256 are in use and none can be dropped. -/
def State.ensurePartner (s : State) (fp : Digest) : Option State :=
  let fresh (s : State) : State := s.modHal fun h => { h with partners := h.partners ++ [{ fp := fp, downSince := s.clk.frame }] }
  if (s.partner? fp).isSome then some s
  else if s.hal.partners.length < 256 then some (fresh s)
  else
    let droppable := s.hal.partners.filter fun p =>
      p.state == .down && ! s.hasPairing p.fp && ! s.hal.quarantine.any (·.1 == p.fp)
    (minBy Partner.downSince droppable).map fun p => fresh (s.modHal fun h => { h with partners := h.partners.filter (·.fp != p.fp) })

/-- Change a link's state and the record of its neighbour (R347). -/
def State.setLink (s : State) (port : Nat) (st : LinkState) : State :=
  let fp := (s.hport port).neighbour
  let s := s.modHport port fun p => { p with state := st, since := s.clk.frame }
  let s := match fp with
    | some f => if st == LinkState.down || st == LinkState.known || st == LinkState.paired || st == LinkState.quarantined then s.setPartner f st else s
    | none => s
  s.raise (halSrc port 0) (st.num + 1) 0 [fp8 (fp.getD 0)]

/-! ## Loss of a path (R355) -/

/-- Label at the other side of a relayed path. -/
def State.relayOf (s : State) (port label : Nat) : Option (Nat × Nat) :=
  s.hal.labels.findSome? fun l =>
    match l.outPort, l.outLabel with
    | some q, some m =>
      if l.inPort == port && l.inLabel == label then some (q, m)
      else if q == port && m == label then some (l.inPort, l.inLabel) else none
    | _, _ => none
/-- A label that ends here. -/
def State.endOf (s : State) (port label : Nat) : Option Label :=
  s.hal.labels.find? fun l => l.outPort.isNone && l.inPort == port && l.inLabel == label
/-- The device at the other end of a path. -/
def State.peerOf (s : State) (port label : Nat) : Option Digest :=
  if label == 0 then (s.hport port).neighbour else (s.endOf port label).map (·.partner)
/-- Drop a label; at an end the paths of its partner are counted again (R347, R355). -/
def State.dropLabel (s : State) (l : Label) : State :=
  let s := s.modHal fun h => { h with labels := h.labels.filter (· != l) }
  match l.outPort with
  | some q =>
    s.dropHReqs fun r => ! r.mine && (r.port == l.inPort && r.label == l.inLabel || r.port == q && some r.label == l.outLabel)
  | none =>
    let s := if (s.pathsTo l.partner).isEmpty && s.hal.partners.any (fun p => p.fp == l.partner && p.state != .quarantined) then
        (s.setPartner l.partner .down).modPartner l.partner fun p => { p with auth := {} } else s
    s.pathLost l.partner (l.inPort, l.inLabel)
/-- End every path over a link (R355): Path down goes to the far ends, own requests end, responses in production are dropped, and every
reservation and label is released. -/
def State.linkEnds (s : State) (port reason : Nat) : State :=
  let fp := (s.hport port).neighbour
  let hit := s.hal.labels.filter fun l => l.inPort == port || l.outPort == some port
  let s := each hit (fun s l =>
    let other := match l.outPort with
      | some q => if l.inPort == port then l.outLabel.map fun m => (q, m) else some (l.inPort, l.inLabel)
      | none => none
    let s := match other with
      | some (q, m) => if q == port then s else s.tx q { seq := 0, ptype := 0x09, label := m, args := [reason, s.ownFp.toNat] }
      | none => s
    s.dropLabel l) s
  let s := s.dropHReqs fun r => r.port == port || r.relay.any (·.1 == port)
  let s := s.modHport port fun p => { p with reserved := 0 }
  match fp with
  | some f => s.pathLost f (port, 0)
  | none => s
/-- What a port forgets when its link is not up: sequences, queues, credits and the session. -/
def HPort.clear (p : HPort) : HPort := { p with
  before := none, auth := {}, txSeq := 0, rxNext := 0, txq := [], oldq := [], wait := [], nakRun := 0, nakSeq := none
  fails := 0, silent := 0, heard := false, ctlCredits := 0, reqCredits := 0, freedCtl := 0, freedReq := 0, echoOut := none }
/-- A link goes to Down (R347, R355). -/
def State.goDown (s : State) (port : Nat) (reason : Nat := 1) : State :=
  if (s.hport port).state == .down then s
  else ((s.modHport port HPort.clear).setLink port .down).linkEnds port reason

/-! ## Spurious wakes (R359) -/

/-- A spurious wake of a port (R359): the sixteenth in a day disables its wake. -/
def State.spuriousWake (s : State) (port : Nat) : State :=
  let recent := ((s.hport port).spurious.filter fun f => decide (s.clk.frame < f + 5400000000)) ++ [s.clk.frame]
  let s := s.modHport port fun p => { p with spurious := recent, wokenAt := none }
  if 16 ≤ recent.length && s.ctlValue ctlHalWake port == 1 then
    ((s.setCtl ctlHalWake port 0).modHport port fun p => { p with spurious := [] }).raise (halSrc port 8) 1 1 [recent.length]
  else s
/-- The neighbour that woke this device on a port is Quarantined: the wake was spurious. -/
def State.wakeRefused (s : State) (port : Nat) : State := if (s.hport port).wokenAt.isSome then s.spuriousWake port else s

/-! ## Quarantine (R352) -/

def State.inQuarantine (s : State) (fp : Digest) : Bool := s.hal.quarantine.any (·.1 == fp)
/-- Send a Refuse packet (R336). -/
def State.refuse (s : State) (port label reason tag : Nat) : State :=
  s.tx port { seq := 0, ptype := 0x0C, label := label, args := [reason, tag, s.ownFp.toNat] }
/-- Quarantine a fingerprint on every port and path; a full table loses the entry that ends soonest. Jobs with the partner stop (R376). -/
def State.quarantine (s : State) (fp : Digest) (cause port : Nat) : State :=
  let stop := s.clk.frame + s.ctlValue ctlQuarantine
  let rest := s.hal.quarantine.filter (·.1 != fp)
  let rest := if rest.length < 64 then rest else match minBy (·.2) rest with
    | some e => rest.filter (· != e)
    | none => rest
  let s := (s.modHal fun h => { h with quarantine := rest ++ [(fp, stop)] }).log 8 (.setting 0x00F00003 (fp8 fp) stop)
  let ports := [0, 1, 2].filter fun i => (s.hport i).neighbour == some fp && (s.hport i).state != .down
  let s := each ports (fun s i => (((s.modHport i HPort.clear).setLink i .quarantined).linkEnds i 2).wakeRefused i) s
  let s := each (s.hal.labels.filter fun l => l.outPort.isNone && l.partner == fp) (fun s l =>
    (s.tx l.inPort { seq := 0, ptype := 0x09, label := l.inLabel, args := [2, s.ownFp.toNat] }).dropLabel l) s
  let s := (s.setPartner fp .quarantined).modPartner fp fun p => { p with auth := {} }
  let s := each ((s.peer.jobs.filter (·.partner == fp)).map (·.ident)) (fun s id => s.stopJob id 0x0701) s
  (s.breakMirrors fp).raise (halSrc port 4) cause 2 [fp8 fp]
/-- Quarantine of the neighbour on a port, for a violation that a packet shows. -/
def State.violation (s : State) (port : Nat) : State :=
  match (s.hport port).neighbour with
  | some f => s.quarantine f 4 port
  | none => s
/-- The quarantine of a fingerprint is over: its links go to Down (R347). -/
def State.endQuarantine (s : State) (fp : Digest) : State :=
  let s := (s.modHal fun h => { h with quarantine := h.quarantine.filter (·.1 != fp) }).log 8 (.setting 0x00F00003 (fp8 fp) 0)
  let s := s.setPartner fp .down
  each ([0, 1, 2].filter fun i => (s.hport i).neighbour == some fp && (s.hport i).state == .quarantined) (fun s i => s.goDown i) s
/-- QUARANTINE_END (R352): the quarantine time has passed. -/
def execQuarantineEnd (fp : Digest) (s : State) : Res :=
  .next (if s.hal.quarantine.any fun e => e.1 == fp && decide (e.2 ≤ s.clk.frame) then s.endQuarantine fp else s)

/-! ## Training (R333, R338, R347) -/

/-- Begin training. -/
def State.train (s : State) (port : Nat) : State := s.setLink port .training
/-- A port whose domain is powered and whose link may leave Down (R347, R360, R486): not while the PLLs run on the internal oscillator (R45). -/
def State.portRuns (s : State) (port : Nat) : Bool :=
  s.portEnabled port && ! s.pwr.furled.contains (75 + port) && ! s.clk.dark && ! s.clk.internalOsc && ! s.dumping &&
    (s.ready || (s.pwr.dev == .starting && decide (6 ≤ s.start.stage)))
/-- RECEIVER_DETECTION (R347). -/
def execReceiverDetection (port : Nat) (found : Bool) (s : State) : Res :=
  whenUnit (decide (port < 3)) <| .next <|
    let p := s.hport port
    let due := match p.lastDetect with
      | some f => decide (f + 62500 ≤ s.clk.frame)
      | none => true
    if p.state != .down || ! s.portRuns port || ! due || p.foreignUntil.isSome then s
    else
      let s := s.modHport port fun p => { p with lastDetect := some s.clk.frame }
      if found then s.train port else s
/-- FOREIGN_LINK_NUMBER (R333). -/
def execForeignLinkNumber (port number : Nat) (s : State) : Res :=
  whenUnit (decide (port < 3)) <| .next <|
    if (s.hport port).state != .training || number == 0x48 then s
    else ((s.goDown port).modHport port fun p => { p with foreignUntil := some (s.clk.frame + 62500) }).raise (halSrc port 1) 1 1 [number]
/-- FOREIGN_LINK_RETRY (R333). -/
def execForeignLinkRetry (port : Nat) (s : State) : Res :=
  whenUnit (decide (port < 3)) <| .next <|
    match (s.hport port).foreignUntil with
    | some f =>
      if f ≤ s.clk.frame && s.portRuns port then (s.modHport port fun p => { p with foreignUntil := none }).train port else s
    | none => s

/-- The Hail of this device (R348), as the fields of its payload that a partner reads. -/
def State.ownHail (s : State) (port : Nat) : Hail := {
  version := 0x10, sendPort := port, fingerprint := s.ownFp, serial := s.record.serial
  part := BitVec.ofNat 64 (ofBytesLE (ascii (match s.variant with
    | .btk8208 => "BTK8208"
    | .btk8416 => "BTK8416"
    | .btk8832 => "BTK8832")))
  relaying := s.ctlValue ctlRelaying == 1, wake := s.ctlValue ctlHalWake port == 1, powerOn := s.clk.poc }
/-- The 128 bytes of a Hail payload (R348). -/
def hailBytes (h : Hail) : List Nat :=
  padTo 128 (ascii "HAIL" ++ [h.version, h.sendPort, 0, 0] ++ bytesLE 32 h.fingerprint.toNat ++ bytesLE 20 h.serial.toNat ++
    bytesLE 8 h.part.toNat ++ bytesLE 2 h.rom.toNat ++ [h.memusum, bitOf h.relaying 0 + bitOf h.wake 1] ++ bytesLE 2 h.ctlCredits ++
    bytesLE 2 h.reqCredits ++ bytesLE 2 h.respPool ++ [0, 0] ++ bytesLE 4 h.powerOn)
/-- Resend every packet that is not acknowledged (R337, R338). -/
def State.resend (s : State) (port : Nat) : State :=
  let p := s.hport port
  each (p.oldq ++ p.txq) (fun s k => s.emit (.halyard port k.ptype (k.label :: k.hops :: k.args))) s
/-- TRAINING_COMPLETE (R332, R338, R347), within its time: to Hailing, with both sequences at 0, or back to the earlier state with its session. -/
def execTrainingComplete (port rate width : Nat) (s : State) : Res :=
  whenUnit (decide (port < 3)) <| .next <|
    let p := s.hport port
    if p.state != .training || decide (p.since + (if p.before.isSome then 6250 else 12500) < s.clk.frame) then s
    else
      let s := s.modHport port fun p => { p with rate := rate, width := width, silent := 0 }
      match p.before with
      | some st =>
        let s := s.modHport port fun p => { p with before := none, nakRun := 0, nakSeq := none }
        ((s.setLink port st).raise (halSrc port 6) 1 1 [(p.txq.head?.map (·.seq)).getD p.txSeq - 1]).resend port
      | none =>
        let s := (s.modHport port HPort.clear).setLink port .hailing
        (s.modHport port fun p => { p with auth := { p.auth with hailSent := true } }).tx port
          { seq := 0, ptype := 0x01, args := hailBytes (s.ownHail port) }
/-- A link that has been in a state for `n` frames goes to Down. -/
def State.timeout (s : State) (port : Nat) (st : LinkState) (n : Nat) : State :=
  let p := s.hport port
  if p.state == st && decide (p.since + n ≤ s.clk.frame) then s.goDown port else s
/-- TRAINING_TIMEOUT (R347). -/
def execTrainingTimeout (port : Nat) (s : State) : Res :=
  whenUnit (decide (port < 3)) <| .next (if (s.hport port).before.isSome then s else s.timeout port .training 12500)
/-- HAIL_TIMEOUT (R347). -/
def execHailTimeout (port : Nat) (s : State) : Res :=
  whenUnit (decide (port < 3)) <| .next (s.timeout port .hailing 625)
/-- AUTHENTICATION_TIMEOUT (R347). -/
def execAuthenticationTimeout (port : Nat) (s : State) : Res :=
  whenUnit (decide (port < 3)) <| .next (s.timeout port .authenticating 6250)
/-- RETRAIN_TIMEOUT (R338): retraining has not ended within 6,250 frames. -/
def execRetrainTimeout (port : Nat) (s : State) : Res :=
  whenUnit (decide (port < 3)) <| .next <|
    let p := s.hport port
    if p.state == .training && p.before.isSome && decide (p.since + 6250 ≤ s.clk.frame) then
      (s.goDown port).raise (halSrc port 6) 2 1 [(p.txq.head?.map (·.seq)).getD p.txSeq - 1]
    else s
/-- LINK_SILENCE (R338): the receiver has accepted no packet in four consecutive frames. -/
def execLinkSilence (port : Nat) (s : State) : Res :=
  whenUnit (decide (port < 3)) <| .next <|
    let p := s.hport port
    if (p.state == .authenticating || p.up) && decide (4 ≤ p.silent) then s.goDown port else s
/-- Retrain a link (R338): its session and queues stay. -/
def State.retrain (s : State) (port : Nat) : State :=
  let p := s.hport port
  if p.state == .down || p.state == .training then s
  else (s.modHport port fun q => { q with before := some p.state, nakRun := 0, nakSeq := none, fails := 0 }).train port

/-! ## Acceptance of packets (R335, R337, R339) -/

/-- A packet reaches a port with a sequence (R337): only the next one is accepted; any other is discarded with a Nak. A control or
request packet without a credit is a violation (R352). A type that the link's state does not carry is accepted and discarded. -/
def State.rx (s : State) (port seq ptype packets : Nat) (k : State → State) : State :=
  let p := s.hport port
  if p.state == .down || p.state == .training then s
  else if seq != p.rxNext then s.sendNak port 2
  else
    let s := s.modHport port fun p => { p with rxNext := p.rxNext + packets, heard := true }
    let beyond := ptype == 0x20 && decide (1024 < p.freedReq + packets) ||
      ptype != 0x20 && ptype != 0x30 && ! freePacket ptype && decide (64 < p.freedCtl + packets)
    if beyond then s.violation port
    else
      let s := if ptype == 0x20 then s.modHport port fun p => { p with freedReq := p.freedReq + packets }
        else if ptype == 0x30 || freePacket ptype then s
        else s.modHport port fun p => { p with freedCtl := p.freedCtl + packets }
      let refusing := p.state == .quarantined && (ptype == 0x01 || ptype == 0x07)
      if refusing then s.refuse port 0 2 0
      else if carries p.state ptype then k s else s
/-- A command of a Halyard port that receives a packet. -/
def received (port seq ptype : Nat) (s : State) (k : State → State) (packets : Nat := 1) : Res :=
  whenUnit (decide (port < 3)) <| .next (s.rx port seq ptype packets k)

/-- Packets up to `accepted` are acknowledged; before the other side's done packet that is the old numbering (R337, R353). -/
def HPort.ack (p : HPort) (accepted : Nat) : HPort :=
  let keep (l : List TxPkt) : List TxPkt := l.filter fun k => accepted == noneAccepted || decide (accepted < k.seq + k.count - 1)
  if p.auth.doneSent && ! p.auth.doneGot then { p with oldq := keep p.oldq } else { p with txq := keep p.txq }
/-- ACK_AND_CREDIT (R337, R339). -/
def execAckAndCredit (port seq accepted ctl req : Nat) (s : State) : Res :=
  received port seq 0x03 s fun s =>
    let s := s.modHport port fun p => { p.ack accepted with ctlCredits := p.ctlCredits + ctl, reqCredits := p.reqCredits + req }
    State.flushPort (s.hport port).wait.length port s
/-- NAK (R337, R338): everything after the packet named is sent again; the eighth in a row that names the same one retrains. -/
def execNak (port seq accepted _reason : Nat) (s : State) : Res :=
  received port seq 0x04 s fun s =>
    let p := s.hport port
    let run := if p.nakSeq == some accepted then p.nakRun + 1 else 1
    let s := s.modHport port fun p => { p.ack accepted with nakRun := run, nakSeq := some accepted }
    if 8 ≤ run then s.retrain port else s.resend port
/-- TAG_OR_CRC_FAILURE (R337, R338): the packet and every later one is discarded, and a Nak is sent. -/
def execTagOrCrcFailure (port _seq : Nat) (outOfSequence : Bool) (s : State) : Res :=
  whenUnit (decide (port < 3)) <| .next <|
    let p := s.hport port
    if p.state == .down || p.state == .training then s
    else if outOfSequence then s.sendNak port 2
    else
      let fresh := p.fails == 0 || decide (p.failFrom + 62500 ≤ s.clk.frame)
      let n := if fresh then 1 else p.fails + 1
      let s := (s.modHport port fun p => { p with fails := n, failFrom := if fresh then s.clk.frame else p.failFrom }).sendNak port 1
      if 1024 < n then s.retrain port else s
/-- RESERVED_PACKET_TYPE (R335): under a session a violation, before one discarded. -/
def execReservedPacketType (port seq ptype : Nat) (s : State) : Res :=
  received port seq ptype s fun s => if (s.hport port).auth.session then s.violation port else s

/-! ## Hail and authentication (R348 to R351) -/

/-- The authentication of a link, or of the partner at the end of a path. -/
def State.authOf (s : State) (port : Nat) (path : Option Nat) : Auth :=
  match path with
  | none => (s.hport port).auth
  | some l => (((s.peerOf port l).bind s.partner?).map (·.auth)).getD {}
def State.modAuth (s : State) (port : Nat) (path : Option Nat) (f : Auth → Auth) : State :=
  match path with
  | none => s.modHport port fun p => { p with auth := f p.auth }
  | some l => match s.peerOf port l with
    | some fp => s.modPartner fp fun p => { p with auth := f p.auth }
    | none => s
/-- Send a Hail or Auth packet: on the link, or end to end in type 0x10 packets (R347, R351). -/
def State.sendAuth (s : State) (port : Nat) (path : Option Nat) (ptype : Nat) (args : List Nat) : State :=
  match path with
  | none => s.tx port { seq := 0, ptype := ptype, args := args }
  | some l => s.tx port { seq := 0, ptype := 0x10, label := l, args := ptype :: args }
/-- The fingerprint compares as lower, as an unsigned big-endian number (R349). -/
def fpLess (a b : Digest) : Bool := decide (ofBytesBE (bytesLE 32 a.toNat) < ofBytesBE (bytesLE 32 b.toNat))
/-- The bytes of a key share: point and random value, and in a rekey the last sequences sent and accepted (R336). -/
def shareBytes (share : PubKey × Digest) (rekey : Bool) (last : Nat × Nat) : List Nat :=
  pointBytes share.1 ++ bytesLE 32 share.2.toNat ++ (if rekey then bytesLE 8 last.1 ++ bytesLE 8 last.2 else [])
/-- This side is L: its fingerprint is the lower one. -/
def State.isL (s : State) (a : Auth) : Bool := fpLess s.ownFp ((a.hail.map (·.fingerprint)).getD 0)
/-- T of R349: SHA-384 over L's Hail, H's Hail, L's key share and H's key share. -/
def State.transcript (s : State) (port : Nat) (a : Auth) : List Nat :=
  let own := hailBytes (s.ownHail port)
  let other := hailBytes (a.hail.getD { version := 0, sendPort := 0, fingerprint := 0 })
  let mine := shareBytes (pubFromPriv a.priv.toNat, a.random) a.rekey a.ownLast
  let theirs := shareBytes (a.share.getD (0, 0)) a.rekey a.shareLast
  sha384 (if s.isL a then own ++ other ++ mine ++ theirs else other ++ own ++ theirs ++ mine)
/-- What is signed (R349 step 4). -/
def authMessage (t : List Nat) : List Nat := ascii "BEYTRIAK-HALYARD-AUTH" ++ t
/-- Keys of the session (R349 step 6): those of L's packets and of H's. -/
def sessionKeys (priv : Nat) (point : PubKey) (t : List Nat) : BitVec 288 × BitVec 288 :=
  let block (c : Nat) : BitVec 288 :=
    BitVec.ofNat 288 (ofBytesLE ((sha384 (bytesBE 4 c ++ ecdh priv point ++ ascii "BEYTRIAK-HALYARD" ++ t)).take 36))
  (block 1, block 2)
/-- Draw an ephemeral key pair and a random value, and send the key share (R349 step 2). -/
def State.sendShare (s : State) (port : Nat) (path : Option Nat) (ptype : Nat) (last : Nat × Nat) : State :=
  let n := s.keys.draws
  let s := s.modKeys fun k => { k with draws := n + 2, requests := k.requests + 2 }
  let priv := Config.drbgScalar n
  let random := Config.drbg (n + 1)
  let s := s.modAuth port path fun a => { a with priv := priv, random := random, ownLast := last, shareSent := true }
  s.sendAuth port path ptype ([2, (pubFromPriv priv.toNat).toNat, random.toNat] ++ (if ptype == 0x0B then [last.1, last.2] else []))
/-- The signature over the transcript, with the nonce of draw n (R349 step 4). -/
def State.signatureArgs (s : State) (port : Nat) (a : Auth) (n : Nat) : List Nat :=
  let sig := ecdsaSign s.fuses.identityPriv.toNat (Config.drbgScalar n).toNat (authMessage (s.transcript port a))
  [3, ofBytesBE (sig.take 48), ofBytesBE (sig.drop 48)]
/-- The session keys for sending and for accepting, as this side is L or H (R349 step 6). -/
def State.nextKeys (s : State) (port : Nat) (a : Auth) (point : PubKey) : BitVec 288 × BitVec 288 :=
  let k := sessionKeys a.priv.toNat point (s.transcript port a)
  if s.isL a then k else (k.2, k.1)
/-- Both shares are there: sign T (R349 steps 3 and 4), and prepare the session's keys (step 6). -/
def State.sendSignature (s : State) (port : Nat) (path : Option Nat) (ptype : Nat) : State :=
  let a := s.authOf port path
  match a.share with
  | none => s
  | some (point, _) =>
    if ! a.shareSent || a.sigSent then s
    else
      let n := s.keys.draws
      let sig := s.signatureArgs port a n
      let k := s.nextKeys port a point
      let s := s.modKeys fun k => { k with draws := n + 1, requests := k.requests + 1 }
      (s.modAuth port path fun a => { a with sigSent := true, nextOut := k.1, nextIn := k.2 }).sendAuth port path ptype sig
/-- A quarantine found in an authentication binds the partner that it is with. -/
def State.quarantineAt (s : State) (port : Nat) (path : Option Nat) (cause : Nat) : State :=
  match (match path with
    | none => (s.hport port).neighbour
    | some l => s.peerOf port l) with
  | some fp => s.quarantine fp cause port
  | none => s
/-- Send the done packet once this side has signed and the other's signature has been verified (R349 step 7): on a link it is sequence 0
of the new session. -/
def State.sendDone (s : State) (port : Nat) (path : Option Nat) (ptype : Nat) : State :=
  let a := s.authOf port path
  if ! a.sigOk || ! a.sigSent || a.doneSent then s
  else
    let s := s.modAuth port path fun a => { a with doneSent := true }
    match path with
    | none =>
      (s.modHport port fun p => { p with oldq := p.oldq ++ p.txq, txq := [], txSeq := 0 }).put port { seq := 0, ptype := ptype, args := [4] }
    | some _ => s.sendAuth port path ptype [4]
/-- Measure a link's flight time with an Echo request (R344). -/
def State.sendEcho (s : State) (port : Nat) : State :=
  let p := s.hport port
  if p.echoSent || ! p.up then s
  else (s.modHport port fun p => { p with echoOut := some s.clk.frame, echoSent := true, measured := s.clk.frame }).tx port
    { seq := 0, ptype := 0x05, args := [s.clk.frame] }
/-- A partner becomes Known, or Paired when a pairing record or the allowlist says so (R350). -/
def State.admitPartner (s : State) (fp : Digest) : State × LinkState :=
  if s.hasPairing fp then (s, .paired)
  else if s.hal.allowlist.contains fp && decide (s.hal.pairings.length < 64) then
    ((s.modHal fun h => { h with pairings := h.pairings ++ [(fp, true)] }).log 8 (.setting 0x00F00002 (fp8 fp) 1), .paired)
  else (s, .known)
/-- What becoming Paired sets going: held probes and Offers leave, and the wake pattern ends (R350, R358). -/
def State.paired (s : State) (port : Nat) (fp : Digest) : State :=
  let held := s.hal.heldProbes.filter (·.1 == port)
  let s := s.modHal fun h => { h with heldProbes := h.heldProbes.filter (·.1 != port) }
  let s := s.modHport port fun p => { p with waking := none, wokenAt := none }
  let s := each held (fun s (_, target, origin, number, latency, hops) => s.probeOn port target origin number latency hops true) s
  s.partnerUp fp
/-- The session is in force once both done packets are accepted (R349 step 7, R353): the ephemeral keys go, and the link or the
partner's record is Known or Paired. -/
def State.sessionUp (s : State) (port : Nat) (path : Option Nat) : State :=
  let a := s.authOf port path
  if ! a.doneSent || ! a.doneGot then s
  else
    let s := s.modAuth port path fun a => { a with
      session := true, sessionFrame := s.clk.frame, keyOut := a.nextOut, keyIn := a.nextIn, nextOut := 0, nextIn := 0, priv := 0
      share := none, shareSent := false, sigSent := false, sigOk := false, doneSent := false, doneGot := false, rekey := false }
    if a.rekey then s.modHport port fun p => { p with oldq := [] }
    else match (match path with
      | none => (s.hport port).neighbour
      | some l => s.peerOf port l) with
      | none => s
      | some fp =>
        let (s, st) := s.admitPartner fp
        let s := s.modPartner fp fun p => { p with asleep := false, departed := false, port := port }
        let s := match path with
          | none => (s.modHport port fun p => { p with oldq := [] }).setLink port st
          | some _ => s.setPartner fp st
        let s := if path.isNone then s.sendEcho port else s
        if st == .paired then s.paired port fp else s

/-- Send the certificate chain and the key share on entry to Authenticating (R349 steps 1 and 2). -/
def State.startAuth (s : State) (port : Nat) (path : Option Nat) : State :=
  (s.sendAuth port path 0x02 [1, 1, 0, Config.certificates 0]).sendShare port path 0x02 (0, 0)
/-- HAIL (R347, R348, R350, R352, R356). -/
def execHail (port seq : Nat) (path : Option Nat) (hl : Hail) (s : State) : Res :=
  received port seq (if path.isSome then 0x10 else 0x01) s fun s =>
    let fp := hl.fingerprint
    let down (s : State) : State := if path.isNone then s.goDown port else s
    if path.isSome && (path.bind (s.peerOf port ·)) != some fp then s
    else if hl.version / 16 != 1 then (down s).raise (halSrc port 3) 1 1 [hl.version, fp8 fp]
    else if fp == s.ownFp then
      if hl.powerOn == s.clk.poc then (down s).raise (halSrc port 2) 1 1 [hl.sendPort]
      else match s.ensurePartner fp with
        | some s => (if path.isNone then s.modHport port fun p => { p with neighbour := some fp } else s).quarantine fp 3 port
        | none => s
    else if s.inQuarantine fp then
      let s := if path.isNone then s.modHport port fun p => { p with neighbour := some fp } else s
      if path.isNone then ((s.setLink port .quarantined).refuse port 0 2 0).wakeRefused port else s.refuse port (path.getD 0) 2 0
    else match s.ensurePartner fp with
      | none => (down ((s.modHport port fun p => { p with neighbour := none }).refuse port (path.getD 0) 3 0)).raise (halSrc port 5) 1 1 [fp8 fp]
      | some s =>
        let s := s.modPartner fp fun p => { p with poc := hl.powerOn, memusum := hl.memusum, port := port }
        match path with
        | none =>
          let s := s.modHport port fun p => { p with
            neighbour := some fp, auth := { p.auth with hail := some hl }, ctlCredits := hl.ctlCredits, reqCredits := hl.reqCredits }
          (s.setLink port .authenticating).startAuth port none
        | some l =>
          let first := ((s.partner? fp).map (! ·.auth.hailSent)).getD false
          let s := s.modPartner fp fun p => { p with state := .authenticating, auth := { p.auth with hail := some hl, hailSent := true } }
          let s := if first then s.sendAuth port (some l) 0x01 (hailBytes (s.ownHail port)) else s
          s.startAuth port (some l)

/-- AUTH_CERTIFICATE_CHAIN (R349 steps 1 and 5, R352): the chain is checked with its last fragment, whatever its dates. -/
def execAuthCertificateChain (port seq : Nat) (path : Option Nat) (_fragment : Nat) (last : Bool) (key : PubKey) (chainOk : Bool) (s : State) : Res :=
  received port seq (if path.isSome then 0x10 else 0x02) s fun s =>
    if ! last then s
    else if ! chainOk then s.quarantineAt port path 1
    else if keyPrint key != (((s.authOf port path).hail.map (·.fingerprint)).getD 0) then s.quarantineAt port path 2
    else s.modAuth port path fun a => { a with key := some key }
/-- A key share of the other side is there. -/
def State.gotShare (s : State) (port : Nat) (path : Option Nat) (ptype cause : Nat) (point : PubKey) (random : Digest) (last : Nat × Nat) : State :=
  if ! onCurve point then s.quarantineAt port path cause
  else (s.modAuth port path fun a => { a with share := some (point, random), shareLast := last }).sendSignature port path ptype
/-- AUTH_KEY_SHARE (R349 steps 2 to 4). -/
def execAuthKeyShare (port seq : Nat) (path : Option Nat) (point : PubKey) (random : Digest) (s : State) : Res :=
  received port seq (if path.isSome then 0x10 else 0x02) s fun s => s.gotShare port path 0x02 1 point random (0, 0)
/-- Verify the other side's signature (R349 step 5). -/
def State.gotSignature (s : State) (port : Nat) (path : Option Nat) (ptype cause r sg : Nat) : State :=
  let a := s.authOf port path
  match a.key with
  | none => s.quarantineAt port path cause
  | some key =>
    if a.share.isSome && a.shareSent && ecdsaVerify key (authMessage (s.transcript port a)) r sg then
      (s.modAuth port path fun a => { a with sigOk := true }).sendDone port path ptype
    else s.quarantineAt port path cause
/-- AUTH_SIGNATURE (R349 steps 4 to 7, R352). -/
def execAuthSignature (port seq : Nat) (path : Option Nat) (r sg : Nat) (s : State) : Res :=
  received port seq (if path.isSome then 0x10 else 0x02) s fun s => s.gotSignature port path 0x02 1 r sg
/-- A done packet of a link: sequence 0 of the new session. -/
def State.gotDone (s : State) (port seq : Nat) : State :=
  let p := s.hport port
  if p.state == .down || p.state == .training then s
  else if seq != 0 || ! p.auth.doneSent then s.sendNak port 2
  else ((s.modHport port fun p => { p with rxNext := 1, heard := true, freedCtl := p.freedCtl + 1 }).modAuth port none fun a => { a with doneGot := true }).sessionUp port none
/-- AUTH_DONE (R349 step 7, R350). -/
def execAuthDone (port seq : Nat) (path : Option Nat) (s : State) : Res :=
  match path with
  | none => whenUnit (decide (port < 3)) <| .next (if (s.hport port).state == .authenticating then s.gotDone port seq else s)
  | some l => received port seq 0x10 s fun s =>
    if (s.authOf port (some l)).doneSent then (s.modAuth port (some l) fun a => { a with doneGot := true }).sessionUp port (some l) else s

/-! ## Rekeying (R353) -/

/-- REKEY_INTERVAL (R353): L starts a rekey after the interval, or when a sequence reaches 2^39. -/
def execRekeyInterval (port : Nat) (s : State) : Res :=
  whenUnit (decide (port < 3)) <| .next <|
    let p := s.hport port
    let due := decide (p.auth.sessionFrame + s.ctlValue ctlRekey ≤ s.clk.frame) || decide (2 ^ 39 ≤ p.txSeq) || decide (2 ^ 39 ≤ p.rxNext)
    if ! p.up || p.auth.rekey || ! s.isL p.auth || ! due then s
    else (s.modAuth port none fun a => { a with rekey := true }).sendShare port none 0x0B (p.txSeq - 1, p.lastAccepted)
/-- REKEY_KEY_SHARE (R353): H answers with a share of its own. -/
def execRekeyKeyShare (port seq : Nat) (point : PubKey) (random : Digest) (lastSent lastAccepted : Nat) (s : State) : Res :=
  received port seq 0x0B s fun s =>
    let p := s.hport port
    let s := if p.auth.rekey then s
      else (s.modAuth port none fun a => { a with rekey := true }).sendShare port none 0x0B (p.txSeq - 1, p.lastAccepted)
    s.gotShare port none 0x0B 5 point random (lastSent, lastAccepted)
/-- REKEY_SIGNATURE (R353). -/
def execRekeySignature (port seq r sg : Nat) (s : State) : Res :=
  received port seq 0x0B s fun s => if (s.hport port).auth.rekey then s.gotSignature port none 0x0B 5 r sg else s
/-- REKEY_DONE (R353): once both are accepted the old keys are zeroised. -/
def execRekeyDone (port seq : Nat) (s : State) : Res :=
  whenUnit (decide (port < 3)) <| .next (if (s.hport port).up && (s.hport port).auth.rekey then s.gotDone port seq else s)

/-! ## Flight time (R344) -/

/-- ECHO_REQUEST (R344): the turnaround is the device's own. -/
def execEchoRequest (port seq number : Nat) (s : State) : Res :=
  received port seq 0x05 s fun s => (s.tx port { seq := 0, ptype := 0x06, args := [number, Config.freeNat s.fresh] }).bump
/-- ECHO_REPLY (R344): half the round trip, less the partner's turnaround. -/
def execEchoReply (port seq number turnaround roundTrip : Nat) (s : State) : Res :=
  received port seq 0x06 s fun s => s.modHport port fun p =>
    if p.echoOut == some number then { p with echoOut := none, flight := (roundTrip - turnaround) / 2 } else p
/-- FLIGHT_TIME_MEASURE (R344). -/
def execFlightTimeMeasure (port : Nat) (s : State) : Res :=
  whenUnit (decide (port < 3)) <| .next (if decide ((s.hport port).measured + 62500 ≤ s.clk.frame) then s.sendEcho port else s)

/-! ## Paths (R343 to R346, R355) -/

/-- The lowest free label of a link; label 0 is the link itself. -/
def State.freeLabel (s : State) (port : Nat) : Option Nat :=
  ((List.range 4096).drop 1).find? fun l =>
    ! s.hal.labels.any fun x => x.inPort == port && x.inLabel == l || x.outPort == some port && x.outLabel == some l
/-- PATH_PROBE (R343, R352, R358): the target answers the first that reaches it; a relay forwards it on every other Paired link. -/
def execPathProbe (port seq _label hops : Nat) (target origin : Digest) (number latency : Nat) (wake : Bool) (s : State) : Res :=
  received port seq 0x07 s fun s =>
    let lat := latency + (s.hport port).hopNs
    let known := s.hal.seen.any fun e => e.1 == origin && e.2.1 == number && decide (s.clk.frame < e.2.2 + 64)
    if s.inQuarantine target || s.inQuarantine origin then s.refuse port 0 2 0
    else if known then s
    else if target == s.ownFp then
      match s.freeLabel port, s.ensurePartner origin with
      | some l, some s =>
        let k : Label := { inPort := port, inLabel := l, origin := origin, number := number, partner := origin, latency := lat, hops := hops }
        let s := s.modHal fun h => { h with seen := h.seen ++ [(origin, number, s.clk.frame)], labels := h.labels ++ [k] }
        s.tx port { seq := 0, ptype := 0x08, label := l, args := [target.toNat, origin.toNat, number, lat, hops] }
      | _, _ => s
    else if s.ctlValue ctlRelaying != 1 || (s.hport port).state != .paired || decide (255 ≤ hops) || decide (s.pathBudget < lat) then s
    else
      let s := s.modHal fun h => { h with
        seen := (h.seen.filter fun e => decide (s.clk.frame < e.2.2 + 64)) ++ [(origin, number, s.clk.frame)] }
      each ([0, 1, 2].filter fun i => i != port && ((s.hport i).state == .paired || wake && s.neighbourAsleep i)) (fun s q =>
        match s.freeLabel port with
        | none => s
        | some l =>
          let k : Label := { inPort := port, inLabel := l, outPort := some q, origin := origin, number := number, latency := lat, hops := hops }
          (s.modHal fun h => { h with labels := h.labels ++ [k] }).probeOn q target origin number lat (hops + 1) wake) s
/-- PATH_REPLY (R343, R345): at the origin the path is there, and an end-to-end Hail opens its session (R351); at a relay the labels
of both sides are joined and the reply returns. -/
def execPathReply (port seq label : Nat) (target origin : Digest) (number latency hops : Nat) (s : State) : Res :=
  received port seq 0x08 s fun s =>
    if origin == s.ownFp then
      if ! s.hal.probes.any (fun p => p.number == number && p.target == target) then s
      else match s.ensurePartner target with
        | none => s
        | some s =>
          let k : Label := { inPort := port, inLabel := label, origin := origin, number := number, partner := target, latency := latency, hops := hops }
          let s := s.modHal fun h => { h with probes := h.probes.filter (·.number != number), labels := h.labels ++ [k] }
          let p := (s.partner? target).getD { fp := target }
          if p.auth.session then s.partnerUp target
          else if p.auth.hailSent then s
          else
            let s := s.modPartner target fun p => { p with state := .hailing, port := port, auth := { p.auth with hailSent := true } }
            s.sendAuth port (some label) 0x01 (hailBytes (s.ownHail port))
    else match s.hal.labels.find? fun l => l.outPort == some port && l.outLabel.isNone && l.origin == origin && l.number == number with
      | none => s
      | some l =>
        let s := s.modHal fun h => { h with labels := updIf (· == l) (fun l => { l with outLabel := some label }) h.labels }
        s.tx l.inPort { seq := 0, ptype := 0x08, label := l.inLabel, args := [target.toNat, origin.toNat, number, latency, hops] }
/-- PATH_DOWN (R355). -/
def execPathDown (port seq label reason : Nat) (sender : Digest) (s : State) : Res :=
  received port seq 0x09 s fun s =>
    let s := s.raise (halSrc port 10) 1 1 [label]
    match s.hal.labels.find? fun l => l.inPort == port && l.inLabel == label || l.outPort == some port && l.outLabel == some label with
    | none => s
    | some l =>
      let s := match s.relayOf port label with
        | some (q, m) => s.tx q { seq := 0, ptype := 0x09, label := m, args := [reason, sender.toNat] }
        | none => s
      s.dropLabel l
/-- Operations that waited for a path to a partner end with a status (R343). -/
def State.noPath (s : State) (fp : Digest) (cause : Nat) : State :=
  let s := each ((s.peer.jobs.filter fun j => j.state == .offered && j.partner == fp).map (·.ident)) (fun s id => s.stopJob id cause false) s
  s.breakMirrors fp
/-- PROBE_TIMEOUT (R343): one more probe with the wake flag, and then the operation ends. -/
def execProbeTimeout (number : Nat) (s : State) : Res :=
  .next <|
    match s.hal.probes.find? fun p => p.number == number && decide (p.sent + 62500 ≤ s.clk.frame) with
    | none => s
    | some p =>
      let s := s.modHal fun h => { h with
        probes := h.probes.filter (·.number != number)
        labels := h.labels.filter fun l => ! (l.outPort.isSome && l.outLabel.isNone && l.number == number) }
      if p.wake then s.noPath p.target 0x0702 else s.sendProbe p.target true
/-- DEPARTURE (R354, R377): asleep for crow's-nest mode, departed for every other reason; operations with the partner are suspended. -/
def execDeparture (port seq reason powerOn : Nat) (s : State) : Res :=
  received port seq 0x0A s fun s =>
    match (s.hport port).neighbour with
    | none => s
    | some fp =>
      let s := s.modPartner fp fun p => { p with asleep := reason == 2, departed := reason != 2, poc := powerOn }
      let s := s.raise (halSrc port 9) reason 0 [fp8 fp]
      each ((s.peer.jobs.filter fun j => j.partner == fp).map (·.ident)) (fun s id => s.suspendJob id 0x0705) s
/-- REFUSE (R350): the refused request ends. -/
def execRefuse (port seq label reason tag : Nat) (sender : Digest) (s : State) : Res :=
  received port seq 0x0C s fun s =>
    let here (r : HReq) : Bool := r.port == port && r.label == label && r.tag == tag && tag != 0
    match s.hal.reqs.find? here with
    | some r =>
      let s := s.dropHReqs here
      match r.relay with
      | some (q, m) => s.tx q { seq := 0, ptype := 0x0C, label := m, args := [reason, tag, sender.toNat] }
      | none => s.loseStream r.ident (port, label)
    | none =>
      match s.relayOf port label with
      | some (q, m) => s.tx q { seq := 0, ptype := 0x0C, label := m, args := [reason, tag, sender.toNat] }
      | none => s

/-! ## Departures and the wake pattern (R354, R357 to R359) -/

/-- Send Departure on every Known or Paired link (R354). -/
def State.departures (s : State) (reason : Nat) : State :=
  each [0, 1, 2] (fun s i => if (s.hport i).up then s.tx i { seq := 0, ptype := 0x0A, args := [reason, s.clk.poc] } else s) s
/-- WAKE_PATTERN_REPEAT (R358): every 62,500 frames until the link is Paired or the wake timeout has passed. -/
def execWakePatternRepeat (port : Nat) (s : State) : Res :=
  whenUnit (decide (port < 3)) <| .next <|
    match (s.hport port).waking with
    | some (began, last) =>
      if s.clk.frame < last + 62500 || decide (began + s.ctlValue ctlWakeTimeout ≤ s.clk.frame) then s
      else (s.modHport port fun p => { p with waking := some (began, s.clk.frame) }).emit (.wakePattern port)
    | none => s
/-- WAKE_TIMEOUT (R358, R359): the neighbour that was to be woken, or that woke this device, has not become Paired. -/
def execWakeTimeout (port : Nat) (s : State) : Res :=
  whenUnit (decide (port < 3)) <| .next <|
    let p := s.hport port
    let t := s.ctlValue ctlWakeTimeout
    let s := match p.waking with
      | some (began, _) =>
        if began + t ≤ s.clk.frame then
          let s := (s.modHport port fun p => { p with waking := none }).modHal fun h => { h with heldProbes := h.heldProbes.filter (·.1 != port) }
          match p.neighbour with
          | some fp => s.noPath fp 0x0702
          | none => s
        else s
      | none => s
    match p.wokenAt with
    | some f => if f + t ≤ s.clk.frame && p.state != .paired then s.spuriousWake port else s
    | none => s

/-! ## Mailbox commands of group 0x06xx (R350, R352, R360) -/

def effGetHalyardPort (port : Nat) (s : State) : Eff :=
  let p := s.hport port
  let fp := p.neighbour.getD 0
  let exits := ((p.neighbour.bind s.partner?).map (·.exitCount)).getD 0
  (s, okR [p.state.num, p.rate, p.width, bitOf (s.portEnabled port) 0 + bitOf (s.ctlValue ctlHalWake port == 1) 1, fp.toNat, p.flight, exits])
def State.partnerRecord (s : State) (p : Partner) : List Nat :=
  let path := (s.bestPath p.fp).getD ⟨0, 0, 0, 0⟩
  let quar := s.hal.quarantine.find? (·.1 == p.fp)
  [p.fp.toNat, p.state.num, bitOf (s.hasPairing p.fp) 0 + bitOf p.asleep 1 + bitOf p.departed 2 + bitOf (s.hal.allowlist.contains p.fp) 3 +
    bitOf quar.isSome 4, path.hops, path.latency, p.exitCount, p.poc, (quar.map (·.2)).getD 0]
def effListPartners (first count : Nat) (s : State) : Eff :=
  let all := s.hal.partners.drop first
  let shown := all.take count
  let fields := shown.length :: shown.flatMap s.partnerRecord
  (s, if shown.length < all.length then warnR 3 fields else okR fields)
/-- A Known partner becomes Paired, on its link or at the end of its path. -/
def State.pairNow (s : State) (fp : Digest) : State :=
  match [0, 1, 2].find? fun i => (s.hport i).neighbour == some fp && (s.hport i).state == .known with
  | some i => (s.setLink i .paired).paired i fp
  | none => match s.partner? fp with
    | some p => if p.state == .known then (s.setPartner fp .paired).partnerUp fp else s
    | none => s
/-- Pair Partner (R350). -/
def effPairPartner (fp : Digest) (s : State) : Eff :=
  if s.ctlValue ctlPairPolicy == 1 then (s, errR 0x0404)
  else match s.partner? fp with
    | none => (s, errR 0x0701)
    | some p =>
      if s.hasPairing fp then (s, okR)
      else if p.state != .known then (s, errR 0x0201 0 p.state.num)
      else if 64 ≤ s.hal.pairings.length then (s, errR 0x0302)
      else (((s.modHal fun h => { h with pairings := h.pairings ++ [(fp, false)] }).log 8 (.setting 0x00F00002 (fp8 fp) 1)).pairNow fp, okR)
/-- A Paired partner returns to Known (R350); the operations with it lose their paths. -/
def State.unpairNow (s : State) (fp : Digest) : State :=
  let ports := [0, 1, 2].filter fun i => (s.hport i).neighbour == some fp && (s.hport i).state == .paired
  let s := each ports (fun s i => (s.setLink i .known).linkEnds i 3) s
  let s := if ports.isEmpty && s.isPaired fp then s.setPartner fp .known else s
  s.breakMirrors fp
/-- Unpair Partner (R350). -/
def effUnpairPartner (fp : Digest) (s : State) : Eff :=
  if ! s.hasPairing fp then (s, errR 0x0701)
  else (((s.modHal fun h => { h with pairings := h.pairings.filter (·.1 != fp) }).log 8 (.setting 0x00F00002 (fp8 fp) 0)).unpairNow fp, okR)
/-- Release Quarantine (R352). -/
def effReleaseQuarantine (fp : Digest) (s : State) : Eff :=
  if s.inQuarantine fp then (s.endQuarantine fp, okR) else (s, errR 0x0105)
/-- Set Allowlist (R350): removing a fingerprint unpairs nothing; a Known partner that is added becomes Paired at once. -/
def effSetAllowlist (fps : List Digest) (s : State) : Eff :=
  let s := (s.modHal fun h => { h with allowlist := fps }).log 8 (.setting 0x000C0009 deviceScope fps.length)
  (each fps (fun s fp =>
    if (s.partner? fp).any (·.state == .known) && ! s.hasPairing fp && decide (s.hal.pairings.length < 64) then
      ((s.modHal fun h => { h with pairings := h.pairings ++ [(fp, true)] }).log 8 (.setting 0x00F00002 (fp8 fp) 1)).pairNow fp
    else s) s, okR)
def effGetAllowlist (s : State) : Eff := (s, okR (s.hal.allowlist.length :: s.hal.allowlist.map (·.toNat)))
/-- Disabling a port sends its Departure and takes its link to Down (R347, R354). -/
def State.portDisabled (s : State) (port : Nat) : State :=
  let s := if (s.hport port).up then s.tx port { seq := 0, ptype := 0x0A, args := [5, s.clk.poc] } else s
  s.goDown port

/-! ## Steps 6 and 8 of a frame (R337, R339, R341) -/

/-- Step 6: each side's Ack and credit packet returns the credits of the buffers freed in the previous frame. -/
def State.halyardCredits (s : State) : State :=
  each [0, 1, 2] (fun s i =>
    let p := s.hport i
    if ! carries p.state 0x03 then s
    else (s.modHport i fun p => { p with freedCtl := 0, freedReq := 0 }).tx i
      { seq := 0, ptype := 0x03, args := [p.lastAccepted, p.freedCtl, p.freedReq] }) s
/-- The start of a frame for the Halyard ports: the once-a-frame packets, the packet count and the silence count. -/
def State.halyardFrame (s : State) : State :=
  s.modHal fun h => { h with ports := h.ports.map fun p => { p with
    nakSent := false, echoSent := false, sentNow := 0, heard := false, silent := if p.heard then 0 else p.silent + 1 } }

end Sys2Proof.Machine
end

