-- ==== Sys2Proof/Machine/Migration.lean ====
section
/-! DEFINITION. Migration and mirroring (R361 to R385): requests and responses, control messages, the import of zones, key export and
import, mirror relationships, and the mailbox commands of group 0x07xx. -/

namespace Sys2Proof.Machine

/-! ## Requests (R340, R341, R369) -/

/-- Request packets of a request: a mirror write carries its blocks after the header (R369). -/
def HReq.packets (r : HReq) : Nat := if r.op == 3 then ceilDiv (32 + 4160 * r.count) 512 else 1
/-- Response packets of a chunk read and of a tree read (R369). -/
def chunkPackets (count : Nat) : Nat := ceilDiv (4160 * count) 512
def treePackets (leaves : Nat) : Nat := ceilDiv (32 * (2 * leaves - 1)) 512
/-- The blocks of a zone at `[lo, lo + n)` as they are stored (R248): sealed bytes; past the written blocks fill blocks; a block of the
ledger as a loss block with its cause (R372). None where one is not sealed. -/
def State.sealedBlocks (s : State) (n : Namespace) (zi lo count : Nat) : Option (List (Block × Wide)) :=
  let z := n.zone zi
  let zs := n.zoneSize s.profile
  (List.range count).foldr (fun i acc => acc.bind fun l =>
    let lba := zi * zs + lo + i
    let b? : Option Stored :=
      if (z.state == .full || z.state == .readOnly) && decide (z.written ≤ lo + i) then
        some { nsid := n.nsid, lba := lba, gen := z.gen, marker := .fill, sealed := true }
      else (s.block? n.nsid lba).map fun b =>
        if s.inLedger n.nsid lba then
          { b with marker := .loss, payload := BitVec.ofNat 32768 (s.lossCause n.nsid lba), tag := 0, iv := 0, sealed := true } else b
    match b? with
    | some b =>
      if ! b.sealed then none
      else
        let y := s.storedBytes b
        some ((blockOf (y.take 4096), BitVec.ofNat 512 (ofBytesLE (y.drop 4096))) :: l)
    | none => none) (some [])
/-- Send a request on its link: credits and reservation are taken (R339, R340); a mirror write carries its blocks. -/
def State.sendHReq (s : State) (r : HReq) : State :=
  let s := s.modHal fun h => { h with reqs := updIf (· == r) (fun r => { r with sent := true }) h.reqs }
  let s := s.modHport r.port fun p =>
    { p with reqCredits := p.reqCredits - r.packets, reserved := p.reserved + r.declared }
  let s := s.put r.port { seq := 0, ptype := 0x20, label := r.label, count := r.packets, args := [r.op, r.tag, r.ident, r.zone, r.offset, r.count, r.declared] }
  if r.op != 3 || ! r.mine then s
  else match (s.mirror? r.ident).bind fun m => (s.ns? m.nsid).bind fun n => s.sealedBlocks n r.zone r.offset r.count with
    | some l => s.emit (.mirror r.port r.label r.tag r.ident r.zone r.offset (l.map (·.1)) (l.map (·.2)))
    | none => s
/-- A request can leave: the link is Paired, holds the credits, and the response has places (R340, R341, R458). -/
def State.canSend (s : State) (r : HReq) : Bool :=
  let p := s.hport r.port
  p.state == .paired && decide (r.packets ≤ p.reqCredits) && decide (p.reserved + r.declared ≤ 4096) &&
    decide (p.sentNow < reefPackets s.pwr.level)
/-- Held requests of a port leave in the order of admission (R341). -/
def State.admitPort : Nat → Nat → State → State
  | 0, _, s => s
  | fuel + 1, port, s =>
    match s.hal.reqs.find? fun r => r.port == port && ! r.sent && (r.mine || r.relay.isSome) with
    | none => s
    | some r => if s.canSend r then admitPort fuel port (s.sendHReq r) else s
def State.admitHalyard (s : State) : State := each [0, 1, 2] (fun s i => State.admitPort s.hal.reqs.length i s) s
/-- A request of this device's own, held until step 8. -/
def State.newReq (s : State) (path : Nat × Nat) (op ident zone offset count declared : Nat) : State :=
  s.modHal fun h => { h with
    nextTag := (h.nextTag + 1) % 2 ^ 32
    reqs := h.reqs ++ [{ port := path.1, label := path.2, tag := h.nextTag, op := op, ident := ident, zone := zone, offset := offset, count := count, declared := declared }] }
/-- Response packets go out on a path. -/
def State.respondPath (s : State) (port label tag packets : Nat) (blocks : List Block) (metas : List Wide) (nodes : List Digest)
    (status pointer : Nat) : State :=
  (s.modHport port (·.push { seq := 0, ptype := 0x30, label := label, count := packets, args := [tag] })).emit
    (.response port label tag blocks metas nodes status pointer)
/-- A request is answered by a Request status message in place of a response (R369, R371). -/
def State.failReq (s : State) (port label status tag ident : Nat) : State :=
  match s.peerOf port label with
  | some fp => s.sendOp fp 0x07 [status, tag, ident]
  | none => s
/-- A request that reaches this device (R340, R346, R350): refused from a partner that is not Paired, forwarded on a relayed path, or
served. -/
def State.requestAt (s : State) (port label : Nat) (r : HReq) (serve : State → Digest → State) : State :=
  if (s.hport port).state != .paired then s.refuse port label 1 r.tag
  else match s.relayOf port label with
    | some (q, m) =>
      if s.ctlValue ctlRelaying != 1 || (s.hport q).state != .paired then s.refuse port label 1 r.tag
      else
        let s := s.modHal fun h => { h with reqs := h.reqs ++ [{ r with port := q, label := m, mine := false, relay := some (port, label) }] }
        State.admitPort s.hal.reqs.length q s
    | none =>
      match s.peerOf port label with
      | none => s
      | some fp => if s.isPaired fp then serve s fp else s.refuse port label 1 r.tag

/-! ## Serving at the source (R369, R375, R383) -/

/-- The namespace whose zones an operation serves: a Running job of this source, or a broken relationship in catch-up. -/
def State.served (s : State) (fp : Digest) (ident zone : Nat) : Option Namespace :=
  match s.job? ident with
  | some j =>
    if j.source && j.state == .running && j.partner == fp && j.zones.any (fun z => z.zone == zone && z.phase != 3 && z.phase != 4) then s.ns? j.nsid else none
  | none => (s.mirror? ident).bind fun m => if m.source && m.other == fp && m.zones.any (·.zone == zone) then s.ns? m.nsid else none
/-- CHUNK_READ (R369). -/
def execChunkRead (port seq label tag job zone offset count declared : Nat) (s : State) : Res :=
  received port seq 0x20 s fun s =>
    let r : HReq := { port := port, label := label, tag := tag, op := 1, ident := job, zone := zone, offset := offset, count := count, declared := declared }
    s.requestAt port label r fun s fp =>
      if count % 16 != 0 || count == 0 || decide (256 < offset % 256 + count) then s.failReq port label 0x0104 tag job
      else if declared < chunkPackets count then s.failReq port label 0x0107 tag job
      else match s.served fp job zone with
        | none => s.failReq port label 0x0105 tag job
        | some n =>
          match s.sealedBlocks n zone offset count with
          | none => s.failReq port label 0x0501 tag job
          | some l =>
            let s := s.modJob job fun j => { j with bytes := j.bytes + 4160 * count }
            let s := s.modMirror job fun m => { m with zones := updIf (·.zone == zone) (fun z => { z with next := max z.next (offset + count) }) m.zones }
            s.respondPath port label tag (chunkPackets count) (l.map (·.1)) (l.map (·.2)) [] 0 0
/-- TREE_READ (R369). -/
def execTreeRead (port seq label tag job zone declared : Nat) (s : State) : Res :=
  received port seq 0x20 s fun s =>
    let r : HReq := { port := port, label := label, tag := tag, op := 2, ident := job, zone := zone, declared := declared }
    s.requestAt port label r fun s fp =>
      match s.served fp job zone with
      | none => s.failReq port label 0x0105 tag job
      | some n =>
        let leaves := s.treeLeaves n.nsid zone (n.zone zone).written
        let nodes := treeNodes leaves
        if declared < treePackets leaves.length then s.failReq port label 0x0107 tag job
        else s.respondPath port label tag (treePackets leaves.length) [] [] nodes 0 0

/-! ## Importing at the destination (R363, R365, R372, R373, R377) -/

/-- A generation is free (R363): no zone record, no segment and no record of the journals since their last checkpoint names it. -/
def State.genFree (s : State) (gen : Nat) : Bool :=
  ! (s.nss.any fun n => n.zones.any (·.gen == gen)) && ! s.media.segs.any (·.gen == gen) &&
  ! s.media.journals.any (·.gens.contains gen)
/-- Take a key's register entry and counter floor (R293, R304, R365): its reference; none on a salt conflict or a full register. -/
def State.takeEntry (s : State) (fp : Digest) (salt : BitVec 32) (floor : Nat) : Option (Nat × State) :=
  if fp == 0 then some (0, s)
  else match s.refOf fp with
    | some ref =>
      let same := ref == 0 || s.keys.register.any fun e => e.number == ref && e.salt == salt
      if same then some (ref, s.raiseFloor ref floor) else none
    | none => match s.nextRef with
      | some ref => some (ref, (s.addEntry { number := ref, tenant := true, salt := salt, fp := fp }).raiseFloor ref floor)
      | none => none
/-- A received block: its metadata split (R248), checked against zone, generation and offset (R372 step 1). -/
def State.receivedBlock (_s : State) (gen zi offset : Nat) (b : Block) (m : Wide) : Option Stored :=
  let y := bytesLE 64 m.toNat
  let part (i n : Nat) : List Nat := (y.drop i).take n
  let code := ofBytesLE (part 44 4) / 2 ^ 28
  let marker? : Option Marker := match code with
    | 0 => some .data
    | 1 => some .fill
    | 2 => some .void
    | 3 => some .loss
    | _ => none
  marker?.bind fun mk =>
    let whole := blockBytes b ++ y
    let iv := ofBytesLE (part 16 8)
    if part 32 16 == identityBytes gen offset zi code && whole == sealedBytes (blockBytes b) (part 0 16) iv (part 32 16) (part 48 8) then
      some {
        nsid := 0, lba := 0, gen := gen, marker := mk, payload := b, imported := true, sealed := true
        tag := BitVec.ofNat 128 (ofBytesLE (part 0 16)), iv := iv, appTag := ofBytesBE (part 48 2), refTag := ofBytesBE (part 50 6)
        place := .held, arrived := true }
    else none
/-- A landing zone leaves Empty with the generation and key of its manifest (R363). -/
def State.openLanding (s : State) (n : Namespace) (zi cls gen ref : Nat) : State :=
  match s.classFields n cls with
  | none => s
  | some k =>
    let (home, out) := s.chooseHome k.affinity
    (s.modZone n.nsid zi fun _ => { zi := zi, state := .implicitOpen, cls := cls, width := k.width, archival := k.archival,
                                     affinity := k.affinity, gen := gen, keyRef := ref, home := home, affinityOut := out }).logZone n.nsid zi
/-- Place received blocks at a landing zone's pointer, those already held skipped (R373, R377); none while energy does not admit them
(R145) or no segment can be obtained (R231). -/
def State.landBlocks (s : State) (nsid zi offset : Nat) (bs : List Stored) : Option State :=
  let z := s.zone nsid zi
  let fresh := (bs.zipIdx.filter fun (_, i) => decide (z.wp ≤ offset + i)).map (·.1)
  if fresh.isEmpty then some s
  else if ! s.energyAdmits [(z.home, fresh.length)] then none
  else s.assignZone nsid zi fresh.length fun i => fresh.getD i default
/-- Loss blocks of a chunk are entered in the ledger, found by migration (R372). -/
def State.enterLosses (s : State) (nsid zi offset : Nat) (bs : List Stored) : State :=
  let zs := match s.ns? nsid with
    | some n => n.zoneSize s.profile
    | none => 0
  each bs.zipIdx (fun s (b, i) =>
    let lba := zi * zs + offset + i
    if b.marker != .loss || s.inLedger nsid lba then s
    else s.enterLoss nsid lba 1 b.gen (b.payload.toNat % 256) 6 0 (s.zone nsid zi).home) s
/-- Refuse or end a zone's import with a reason (R363, R372): the landing zone returns to Empty. -/
def State.refuseZone (s : State) (j : Job) (zone reason : Nat) : State :=
  let s := s.modJob j.ident fun j => { j with
    zones := updIf (·.zone == zone) (fun z => { z with phase := 4, reason := reason, pieces := [] }) j.zones, changed := s.clk.frame }
  let s := if (j.zones.any fun z => z.zone == zone && (z.phase == 1 || z.phase == 5)) then s.returnZone j.nsid zone else s
  (s.sendOp j.partner 0x08 [2, reason, j.ident, zone]).completeJob j.ident
/-- Blocks of chunk `c` of a zone of `written` blocks. -/
def chunkLen (written c : Nat) : Nat := min 256 (written - 256 * c)
/-- The pieces of chunk `c` put together, once all are there: blocks with their metadata. -/
def JobZone.chunk (z : JobZone) (written c : Nat) : Option (List (Block × Wide)) :=
  let n := chunkLen written c
  (List.range (ceilDiv n 64)).foldl (fun acc i => acc.bind fun l =>
    (z.pieces.find? (·.offset == 256 * c + 64 * i)).map fun p => l ++ (p.blocks.zip p.metas).take (n - 64 * i)) (some [])
/-- Check the next chunk of a zone and place it (R372, R373, R377). `leaf?` is its stored leaf; without one only step 1 is checked.
The outcome: nothing yet, failed, the chunk to be imported again from 0, or placed. -/
inductive Landed where
  | wait | failed | again | noSegment | placed (s : State)

def State.landChunk (s : State) (nsid : Nat) (z : JobZone) (gen written : Nat) (leaf? : Option Digest) : Landed :=
  match z.chunk written z.chunks with
  | none => .wait
  | some l =>
    let lo := 256 * z.chunks
    let got := l.zipIdx.map fun ((b, m), i) => s.receivedBlock gen z.zone (lo + i) b m
    if got.any Option.isNone then .failed
    else
      let bs := got.filterMap id
      let loss := bs.any (·.marker == .loss)
      let held := (s.zone nsid z.zone).wp - lo
      let bytes := l.zipIdx.map fun ((b, m), i) =>
        if i < held then ((s.sealedRange nsid z.zone (lo + i) 1).getD []).flatMap s.storedBytes else blockBytes b ++ bytesLE 64 m.toNat
      let good := loss || (match leaf? with
        | some d => leafDigest bytes == d
        | none => true)
      if ! good then (if 0 < held then .again else .failed)
      else match s.landBlocks nsid z.zone lo bs with
        | some t => .placed (t.enterLosses nsid z.zone lo bs)
        | none => if s.energyAdmits [((s.zone nsid z.zone).home, bs.length)] then .noSegment else .wait

/-- The end of a zone's last chunk: the zone is finished, and its trailer holds the received tree and the manifest's time (R373). -/
def State.finishLanding (s : State) (nsid zi : Nat) (m : Manifest) (leaves : List Digest) : State :=
  let s := match s.ns? nsid with
    | some n => if (n.zone zi).state == ZoneState.full then s else s.finishZone n zi false
    | none => s
  s.modZone nsid zi fun z => { z with leaves := leaves, root := m.root, utcFinish := m.utcFinish }
def State.setJobZone (s : State) (id zone : Nat) (f : JobZone → JobZone) : State :=
  s.modJob id fun j => { j with zones := updIf (·.zone == zone) f j.zones }
/-- Replace a landing zone's segments (R159, R377): the zone is to be imported again from its start. -/
def State.restartLanding (s : State) (nsid zone : Nat) : State :=
  let s := each (s.zone nsid zone).segs State.releaseSegment s
  let zs := match s.ns? nsid with
    | some n => n.zoneSize s.profile
    | none => 1
  (s.dropBlocks fun b => b.nsid == nsid && b.lba / max 1 zs == zone).modZone nsid zone fun x => { x with segs := [], wp := 0, leaves := [] }
/-- Advance the import of one zone of a job by its next chunk (R372, R373). -/
def State.importChunk (s : State) (id zone : Nat) : State :=
  match s.job? id with
  | none => s
  | some j =>
    match j.zones.find? (·.zone == zone) with
    | some z =>
      match z.manifest with
      | none => s
      | some m =>
        if z.phase != 1 || ! z.treeGot || decide (m.leaves ≤ z.chunks) then s
        else match s.landChunk j.nsid z m.generation m.written z.leaves[z.chunks]? with
          | .wait => s
          | .noSegment => (s.enterReadPreserve).stopJob id 0x0202
          | .again =>
            (s.restartLanding j.nsid zone).setJobZone id zone fun z => { z with chunks := 0, pieces := [], retried := false }
          | .failed =>
            if z.retried then s.refuseZone j zone 6
            else s.setJobZone id zone fun z => { z with
              retried := true, pieces := z.pieces.filter fun p => p.offset / 256 != z.chunks }
          | .placed t =>
            let done := z.chunks + 1
            let t := t.setJobZone id zone fun z => { z with
              chunks := done, retried := false, pieces := z.pieces.filter fun p => p.offset / 256 != z.chunks }
            let t := t.modJob id fun j => { j with bytes := j.bytes + 4160 * chunkLen m.written z.chunks }
            let t := (t.log 8 (.setting 0x00F00005 zone done)).sendOp j.partner 0x05 [id, zone, done]
            if done == m.leaves then t.finishLanding j.nsid zone m z.leaves else t
    | none => s

/-- The lowest piece of a zone that has neither come nor been asked for. -/
def State.nextPiece (s : State) (ident : Nat) (z : JobZone) (written : Nat) : Option Nat :=
  let out (o : Nat) : Bool := s.hal.reqs.any fun r => ofOp ident r && r.op == 1 && r.zone == z.zone && r.offset == o
  ((List.range (ceilDiv (written - 256 * z.chunks) 64)).find? fun i =>
    let o := 256 * z.chunks + 64 * i
    ! z.pieces.any (·.offset == o) && ! out o).map fun i => 256 * z.chunks + 64 * i
/-- Keep up to seven pieces outstanding on a stream (R368): the tree of a zone first, then its pieces. -/
def State.pull : Nat → Nat → Nat × Nat → State → State
  | 0, _, _, s => s
  | fuel + 1, id, path, s =>
    match s.job? id with
    | none => s
    | some j =>
      let out := countIf (fun r => ofOp id r && r.op == 1 && r.port == path.1 && r.label == path.2) s.hal.reqs
      let mine := j.zones.filter fun z => z.stream == some path && z.manifest.isSome && (z.phase == 0 || z.phase == 1)
      if 7 ≤ out || 3 ≤ s.pool.level then s
      else match mine.findSome? (fun z => z.manifest.bind fun m =>
        let asked := s.hal.reqs.any fun r => ofOp id r && r.op == 2 && r.zone == z.zone
        if z.phase == 0 then some (z, m, none)
        else if ! z.treeGot then (if asked then none else some (z, m, none))
        else (s.nextPiece id z m.written).map fun o => (z, m, some o)) with
        | none => s
        | some (z, m, some o) =>
          let count := min 64 (ceilDiv (m.written - o) 16 * 16)
          pull fuel id path (s.newReq path 1 id z.zone o count (chunkPackets count))
        | some (z, m, none) =>
          let s := if z.phase == 0 then
              (match s.ns? j.nsid, s.refOf m.keyFp with
              | some n, ref => s.openLanding n z.zone j.cls m.generation (if m.keyFp == 0 then 0 else ref.getD 0)
              | none, _ => s).setJobZone id z.zone fun z => { z with phase := 1 }
            else s
          if m.leaves == 0 then
            pull fuel id path ((s.setJobZone id z.zone fun z => { z with treeGot := true }).finishLanding j.nsid z.zone m [])
          else pull fuel id path (s.newReq path 2 id z.zone 0 0 (treePackets m.leaves))
/-- A zone whose Full state is durable is ready for cut-over (R374). -/
def State.announceReady (s : State) (j : Job) : State :=
  each j.zones (fun s z =>
    match z.manifest with
    | some m =>
      let x := s.zone j.nsid z.zone
      if z.phase == 1 && z.treeGot && z.chunks == m.leaves && x.state == .full && x.fullDurable then
        (s.setJobZone j.ident z.zone fun z => { z with phase := 5 }).sendOp j.partner 0x06 [1, j.ident, z.zone, m.generation]
      else s
    | none => s) s

/-! ## Keys (R365, R366) -/

/-- Counter floor that the source sends with a key reference: the ceiling of an active export, or 2^48 (R365). `job` makes an active
export the first time the reference is sent to any partner. -/
def State.exportFloor (s : State) (ref : Nat) (job : Bool) : Nat × State :=
  let k := s.keyRef ref
  if ref == 0 then (0, s)
  else if job && ! k.exported then
    let x := min (k.high + s.ctlValue ctlExportHeadroom) (2 ^ 48)
    (x, ((s.modKeyRef ref fun k => { k with exported := true, ceiling := some x }).log 8 (.setting 0x00F00006 ref x)).limitSlots)
  else (2 ^ 48, s)
/-- Register entry of a key reference. -/
def State.entryOf (s : State) (ref : Nat) : KeyEntry := (s.keys.register.find? (·.number == ref)).getD zeroEntry
/-- The wrapping key of R366. -/
def importKey (z : List Nat) (dst src : Digest) : List Nat :=
  (sha384 ([0, 0, 0, 1] ++ z ++ ascii "BEYTRIAK-IMPORT" ++ bytesLE 32 dst.toNat ++ bytesLE 32 src.toNat)).take 32
/-- Send the data key of a reference for which a consent names the destination (R366). -/
def State.carryKey (s : State) (j : Job) (ref : Nat) : State :=
  match s.keys.slots.find? fun k => k.keyRef == ref && s.keys.exports.any fun e => e.1 == k.number && e.2.1 == j.partner with
  | none => s
  | some k =>
    let n := s.keys.draws
    let s := s.modKeys fun k => { k with draws := n + 1, requests := k.requests + 1 }
    let d := Config.drbgScalar n
    let wk := importKey (ecdh d.toNat (Config.transportKeyOf j.partner)) j.partner s.ownFp
    s.sendOp j.partner 0x04 [(s.entryOf ref).fp.toNat, (pubFromPriv d.toNat).toNat, ofBytesLE (kwWrap wk (bytesLE 32 k.key.toNat)), j.ident]
/-- Export Key (R366): a job that is Running to the destination named and sends the slot's key reference carries the key at once. -/
def effExportKeyTo (v : Via) (slot : Nat) (dest : Digest) (s : State) : Eff :=
  let (t, r) := effExportKey v slot dest s
  if r.status != 0 then (t, r)
  else
    let ref := (t.slot slot).keyRef
    (each (t.peer.jobs.filter fun j => j.source && j.state == .running && j.partner == dest &&
      j.zones.any fun z => z.phase ≤ 1 && (t.zone j.nsid z.zone).keyRef == ref) (fun s j => s.carryKey j ref) t, r)
/-- KEY_CARRY (R366): the destination loads the key into the lowest Empty slot of the landing namespace's origin function. -/
def execKeyCarry (partner fp : Digest) (point : PubKey) (wrapped : BitVec 320) (job : Nat) (s : State) : Res :=
  .next <|
    match s.job? job with
    | none => s
    | some j =>
      if j.source || j.partner != partner || j.state != .running || ! onCurve point then s
      else
        let wk := importKey (ecdh s.fuses.transportPriv.toNat point) s.ownFp partner
        let origin := ((s.ns? j.nsid).map (·.origin)).getD 0
        match kwUnwrap wk (bytesLE 40 wrapped.toNat), s.refOf fp, (s.slotsOf origin).find? fun n => (s.slot n).state == .empty with
        | some raw, some ref, some slot =>
          if ref == 0 || keyFingerprint raw != fp || (s.refHolder ref slot).isSome then s
          else s.putKey slot (BitVec.ofNat 256 (ofBytesLE raw)) ref false
        | _, _, _ => s

/-! ## Starting and answering (R361 to R364, R376) -/

/-- The identifier that this device, as the source, gives an operation. -/
def State.newIdent (s : State) : Nat × State :=
  (s.record.serial.toNat % 2 ^ 31 * 2 ^ 32 + s.peer.next, s.modPeer fun p => { p with next := p.next + 1 })
/-- Why no operation can start with a partner now (R344, R350); a sleeping or remote partner is looked for instead. -/
def State.noStart (s : State) (fp : Digest) : Option Resp :=
  if ! (s.isPaired fp || s.hasPairing fp) then some (errR 0x0701)
  else match s.bestPath fp with
    | some p => if p.latency ≤ s.pathBudget then none else some (errR 0x0703 p.latency)
    | none =>
      let asleep := [0, 1, 2].any fun i => (s.hport i).neighbour == some fp && s.neighbourAsleep i
      let remote := ! ([0, 1, 2].any fun i => (s.hport i).neighbour == some fp) && [0, 1, 2].any fun i => (s.hport i).state == .paired
      if asleep || remote then none else some (errR 0x0702)
/-- A zone may be sent: Full or Read Only (R363). -/
def Zone.sendable (z : Zone) : Bool := z.state == .full || z.state == .readOnly
/-- Start Migration (R361, R376). -/
def effStartMigration (dest : Digest) (nsid : Nat) (charge : Bool) (streams : Nat) (zones : List Nat) (s : State) : Eff :=
  match s.noStart dest with
  | some r => (s, r)
  | none =>
    match s.ns? nsid with
    | none => (s, errR 0x0105 nsid)
    | some n =>
      if n.conv || n.landing then (s, errR 0x0201 nsid)
      else match zones.findIdx? fun z => decide (n.zoneCount ≤ z) with
        | some i => (s, errR 0x0104 (44 + 4 * i))
        | none =>
          let list := if zones.isEmpty then (n.zones.filter Zone.sendable).map (·.zi) else dedupN zones
          let (id, s) := s.newIdent
          let job : Job := {
            ident := id, source := true, partner := dest, nsid := nsid, charge := charge, maxStreams := if streams == 0 then 3 else streams
            all := zones.isEmpty, offeredAt := s.clk.frame
            zones := list.map fun z => if (n.zone z).sendable then { zone := z } else { zone := z, phase := 4, reason := 1 } }
          let s := (s.modPeer fun p => { p with jobs := p.jobs ++ [job] }).setJob id .offered 0
          ((s.reach dest).sendOffer job, okR [id])
/-- Whether a namespace can be a landing namespace (R362). -/
def State.landable (s : State) (nsid : Nat) : Option Resp :=
  match s.ns? nsid with
  | none => some (errR 0x0105 nsid)
  | some n =>
    if n.conv || n.landing || ! n.attached.isEmpty || n.zones.any (·.state != .empty) then some (errR 0x0201 nsid) else none
/-- The landing namespace fits the source's (R362). -/
def State.formatFits (s : State) (nsid lbaf pi : Nat) : Bool := (s.ns? nsid).any fun n => n.lbaf == lbaf && n.pi == pi
/-- Raise the zone generation counter to the end of the source's reservation (R363). -/
def State.raiseGen (s : State) (stop : Nat) : State :=
  if s.media.nextGen < stop then
    (s.modMedia fun m => { m with nextGen := stop, genEnd := max m.genEnd stop }).log 8 (.reservation 1 0 0 stop (max s.media.genEnd stop))
  else s
def State.setLanding (s : State) (nsid : Nat) : State := s.modNs nsid fun n => { n with landing := true }
/-- The destination accepts a job's Offer (R363, R368, R371). -/
def State.acceptJob (s : State) (id nsid cls : Nat) : State :=
  match s.job? id with
  | none => s
  | some j =>
    let s := (s.raiseGen j.offer.1).setLanding nsid
    let s := s.modJob id fun j => { j with nsid := nsid, cls := cls, streams := State.chooseStreams (min 3 (max 1 j.maxStreams)) (s.goodPaths j.partner) }
    (s.sendOp j.partner 0x02 [1, 0, id, nsid, cls]).setJob id .running 0
/-- Accept Migration (R362): at once when the Offer is there. -/
def effAcceptMigration (source : Digest) (nsid cls : Nat) (s : State) : Eff :=
  if ! (s.isPaired source || s.hasPairing source) then (s, errR 0x0701)
  else match s.landable nsid with
    | some r => (s, r)
    | none =>
      if ((s.ns? nsid).bind fun n => s.classFields n cls).isNone then (s, errR 0x0105 cls)
      else match s.peer.jobs.find? fun j => ! j.source && j.state == .offered && j.partner == source with
        | some j => if s.formatFits nsid j.offer.2.1 j.offer.2.2.1 then (s.acceptJob j.ident nsid cls, okR [j.ident]) else (s, errR 0x0201 nsid)
        | none =>
          let l : Landing := { source := source, nsid := nsid, cls := cls }
          ((s.setLanding nsid).modPeer fun p => { p with landings := p.landings ++ [l] }, okR [0])
/-- A mirror relationship is accepted by the partner (R379). -/
def State.acceptMirror (s : State) (id nsid cls : Nat) : State :=
  match s.mirror? id with
  | none => s
  | some m =>
    (((s.raiseGen m.offer.1).setLanding nsid).modMirror id fun m => { m with nsid := nsid, cls := cls, accepted := true }).sendOp m.other 0x02 [1, 0, id, nsid, cls]
/-- OFFER (R363, R364, R370): kept until the manager names a landing namespace, or answered at once. -/
def execOffer (partner : Digest) (kind streams ident _nsid : Nat) (zones : List Nat) (genEnd lbaf pi version mode policy lag firstZone zoneCount : Nat) (s : State) : Res :=
  .next <|
    let refuse (st : Nat) (s : State) : State := s.sendOp partner 0x02 [0, st, ident, 0, 0]
    if ! s.isPaired partner then s
    else if version / 16 != 1 then refuse 0x0706 s
    else if kind == 1 then
      match s.job? ident with
      | some j => if j.live && ! j.source && j.state != .offered then s.sendOp partner 0x02 [1, 0, ident, j.nsid, j.cls] else s
      | none =>
        let j : Job := {
          ident := ident, source := false, partner := partner, nsid := 0, maxStreams := streams, all := zones.isEmpty, offeredAt := s.clk.frame
          offer := (genEnd, lbaf, pi, version), zones := zones.map fun z => { zone := z } }
        let s := s.modPeer fun p => { p with jobs := p.jobs ++ [j] }
        match s.peer.landings.find? fun l => ! l.mirror && l.source == partner with
        | none => s
        | some l =>
          let s := s.modPeer fun p => { p with landings := p.landings.filter (· != l) }
          if s.formatFits l.nsid lbaf pi then (s.acceptJob ident l.nsid l.cls).raise 597 6 0 [ident, 0]
          else refuse 0x0704 ((s.releaseLanding l.nsid).stopJob ident 0x0704 false)
    else if (s.mirror? ident).isSome || 64 ≤ s.peer.mirrors.length then s
    else
      let m : Mirror := {
        ident := ident, source := false, other := partner, nsid := 0, firstZone := firstZone, zoneCount := zoneCount, mode := mode
        policy := some policy, lagLimit := lag, offer := (genEnd, lbaf, pi) }
      let s := s.modPeer fun p => { p with mirrors := p.mirrors ++ [m] }
      match s.peer.landings.find? fun l => l.mirror && l.source == partner with
      | none => s
      | some l =>
        let s := s.modPeer fun p => { p with landings := p.landings.filter (· != l) }
        if s.formatFits l.nsid lbaf pi then (s.acceptMirror ident l.nsid l.cls).raise 597 6 0 [ident, 0]
        else refuse 0x0704 ((s.releaseLanding l.nsid).modPeer fun p => { p with mirrors := p.mirrors.filter (·.ident != ident) })

/-- The manifest of a zone (R370). -/
def State.sendManifest (s : State) (j : Job) (zi : Nat) : State :=
  match s.ns? j.nsid with
  | none => s
  | some n =>
    let z := n.zone zi
    let e := s.entryOf z.keyRef
    let floor := ((j.floors.find? (·.1 == z.keyRef)).map (·.2)).getD 0
    s.sendOp j.partner 0x03 [0x10, zi, z.gen, z.written, leavesOf z.written, (s.treeRoot j.nsid zi).toNat, z.utcFinish, if z.archival then 1 else 0,
      if z.keyRef == 0 then 0 else e.fp.toNat, if z.keyRef == 0 then 0 else e.salt.toNat, floor, j.ident]
/-- ANSWER (R368, R370, R376): an accepting Answer starts the job: floors are fixed, manifests and keys are sent. -/
def execAnswer (partner : Digest) (accept : Bool) (status ident _nsid _cls : Nat) (s : State) : Res :=
  .next <|
    match s.job? ident, s.mirror? ident with
    | some j, _ =>
      if ! j.source || j.partner != partner || j.state != .offered then s
      else if ! accept then s.stopJob ident (if status == 0 then 0x0704 else status) false
      else
        let refs := dedupN ((j.zones.filter fun z => z.phase == 0).map fun z => (s.zone j.nsid z.zone).keyRef)
        let (floors, s) := refs.foldl (fun (acc : List (Nat × Nat) × State) ref =>
          let (x, t) := acc.2.exportFloor ref true
          (acc.1 ++ [(ref, x)], t)) ([], s)
        let s := s.modJob ident fun j => { j with
          floors := floors, streams := State.chooseStreams (min 3 (max 1 j.maxStreams)) (s.goodPaths partner) }
        let s := (s.modJob ident Job.divide).setJob ident .running 0
        match s.job? ident with
        | none => s
        | some j =>
          let s := each ((j.zones.filter (·.phase == 0)).map (·.zone)) (fun s z => s.sendManifest j z) s
          (each refs (fun s ref => if ref == 0 then s else s.carryKey j ref) s).completeJob ident
    | none, some m =>
      if ! m.source || m.other != partner then s
      else if accept then s.modMirror ident fun m => { m with accepted := true }
      else (s.endMirrorSource m).raise 597 2 0 [ident, 0]
    | none, none => s

/-- Reason for which a manifest's zone is not importable (R363, R364, R365). -/
def State.refusal (s : State) (j : Job) (n : Namespace) (m : Manifest) : Option Nat :=
  let cap := match s.classFields n j.cls with
    | some k => zoneCapacity s.profile k.width n.segsPerZone
    | none => 0
  if m.version / 16 != 1 then some 8
  else if n.zoneCount ≤ m.zone then some 2
  else if cap < m.written then some 3
  else if ! s.genFree m.generation then some 4
  else if (s.takeEntry m.keyFp m.salt m.floor).isNone then some 5
  else none
/-- ZONE_MANIFEST (R363, R365, R370): the zone is taken into the job, or refused with a reason. -/
def execZoneManifest (partner : Digest) (m : Manifest) (s : State) : Res :=
  .next <|
    match s.job? m.job with
    | none => s
    | some j =>
      if j.source || j.partner != partner || j.state != .running || j.zones.any (fun z => z.zone == m.zone && (z.phase != 0 || z.manifest.isSome)) then s
      else match s.ns? j.nsid with
        | none => s
        | some n =>
          let s := s.modJob j.ident fun x => { x with zones := putBy JobZone.zone { zone := m.zone, manifest := some m } x.zones }
          match s.refusal j n m, s.takeEntry m.keyFp m.salt m.floor with
          | none, some (_, s) => s.modJob j.ident Job.divide
          | some r, _ => s.refuseZone j m.zone r
          | none, none => s

/-! ## Responses (R340, R369, R372, R380, R383) -/

/-- A whole response to a request of this device's own. -/
def State.consume (s : State) (r : HReq) (blocks : List Block) (metas : List Wide) (nodes : List Digest) (status pointer : Nat) : State :=
  match r.op, s.job? r.ident with
  | 1, some j =>
    if j.zones.any (fun z => z.zone == r.zone && z.settled) then s
    else (s.setJobZone r.ident r.zone fun z => { z with pieces := z.pieces ++ [{ offset := r.offset, blocks := blocks, metas := metas }] }).importChunk r.ident r.zone
  | 2, some j =>
    match (j.zones.find? fun z => z.zone == r.zone && ! z.settled).bind (·.manifest) with
    | none => s
    | some m =>
      let leaves := nodes.take m.leaves
      if nodes == treeNodes leaves && merkleRoot leaves == m.root && leaves.length == m.leaves then
        s.setJobZone r.ident r.zone fun z => { z with leaves := leaves, treeGot := true }
      else s.refuseZone j r.zone 6
  | 1, none =>
    s.modMirror r.ident fun m => { m with pulls := updIf (·.zone == r.zone) (fun z =>
      { z with pieces := z.pieces ++ [{ offset := r.offset, blocks := blocks, metas := metas }] }) m.pulls }
  | 3, _ =>
    if status != 0 then s.modMirror r.ident fun m => { m with zones := updIf (·.zone == r.zone) (fun z => { z with next := z.ack }) m.zones }
    else
      let s := s.modMirror r.ident fun m => { m with zones := updIf (·.zone == r.zone) (fun z => { z with ack := max z.ack pointer }) m.zones }
      match s.mirror? r.ident with
      | some m => s.ackMirrored m
      | none => s
  | _, _ => s
/-- RESPONSE (R340, R346, R352, R355): one packet; a relayed one is forwarded, the last one of this device's own request hands over its
data. A response to no request on a label in use, or beyond the declared length, is a violation; on a released label it is discarded. -/
def execResponse (port seq label tag : Nat) (lastPacket : Bool) (blocks : List Block) (metas : List Wide) (nodes : List Digest) (status pointer : Nat) (s : State) : Res :=
  received port seq 0x30 s fun s =>
    let here (r : HReq) : Bool := r.port == port && r.label == label && r.tag == tag && r.sent
    match s.hal.reqs.find? here with
    | none =>
      let known := label == 0 || s.hal.labels.any fun l => l.inPort == port && l.inLabel == label || l.outPort == some port && l.outLabel == some label
      if known then s.violation port else s
    | some r =>
      if r.declared ≤ r.received then s.violation port
      else
        let s := s.modHal fun h => { h with reqs := updIf here (fun r => { r with received := r.received + 1 }) h.reqs }
        let s := s.modHport port fun p => { p with reserved := p.reserved - 1 }
        let s := match r.relay with
          | some (q, m) => s.respondPath q m tag 1 blocks metas nodes status pointer
          | none => s
        if ! lastPacket then s
        else
          let s := s.dropHReqs here
          if r.relay.isSome then s else s.consume r blocks metas nodes status pointer
/-- REQUEST_STATUS (R369, R371): the request ends; a piece is asked for once more, and a second failure ends the zone's import. In
catch-up an unwritten offset is the source's pointer. -/
def execRequestStatus (partner : Digest) (status tag ident : Nat) (s : State) : Res :=
  .next <|
    match s.hal.reqs.find? fun r => ofOp ident r && r.tag == tag && s.peerOf r.port r.label == some partner with
    | none => s
    | some r =>
      let s := s.dropHReqs (· == r)
      match r.op, s.job? ident, s.mirror? ident with
      | 3, _, some _ => s.modMirror ident fun m => { m with zones := updIf (·.zone == r.zone) (fun z => { z with next := z.ack }) m.zones }
      | _, some j, _ =>
        if j.zones.any (fun z => z.zone == r.zone && z.settled) then s
        else if j.zones.any (fun z => z.zone == r.zone && z.retried) then s.refuseZone j r.zone 6
        else s.setJobZone ident r.zone fun z => { z with retried := true }
      | 1, none, some _ =>
        if status == 0x0501 then s.modMirror ident fun m => { m with pulls := updIf (·.zone == r.zone) (fun z => { z with phase := 2 }) m.pulls } else s
      | _, _, _ => s

/-! ## Other messages of a job (R373, R374, R376, R377) -/

/-- CHECKPOINT (R373, R376): the source keeps the zone's checkpoint. -/
def execCheckpoint (partner : Digest) (job zone chunks : Nat) (s : State) : Res :=
  .next <|
    match s.job? job with
    | some j =>
      if j.source && j.partner == partner then
        (s.setJobZone job zone fun z => { z with chunks := max z.chunks chunks, phase := if z.phase == 0 then 1 else z.phase }).log 8 (.setting 0x00F00005 zone chunks)
      else s
    | none => s
/-- CUT_OVER_READY (R374, R378): the source records the zone, confirms and raises the event; a repeated one is confirmed again. -/
def execCutOverReady (partner : Digest) (job zone generation : Nat) (s : State) : Res :=
  .next <|
    match s.job? job with
    | some j =>
      let z? := j.zones.find? (·.zone == zone)
      if ! j.source || j.partner != partner || (s.zone j.nsid zone).gen != generation then s
      else if z?.any (·.phase == 2) then s.sendOp partner 0x06 [2, job, zone, generation]
      else if j.live && z?.any (fun z => z.phase == 0 || z.phase == 1) then
        let s := (s.setJobZone job zone fun z => { z with phase := 2 }).modJob job fun j => { j with changed := s.clk.frame }
        (((s.log 8 (.setting 0x00F00005 zone 0xFFFFFFFF)).sendOp partner 0x06 [2, job, zone, generation]).raise 597 1 0 [job, zone]).completeJob job
      else s
    | none => s
/-- CUT_OVER_CONFIRMED (R374): the destination's zone is the job's finished copy. -/
def execCutOverConfirmed (partner : Digest) (job zone generation : Nat) (s : State) : Res :=
  .next <|
    match s.job? job with
    | some j =>
      if j.source || j.partner != partner || ! j.zones.any (fun z => z.zone == zone && z.phase == 5 && z.manifest.any (·.generation == generation)) then s
      else (((s.setJobZone job zone fun z => { z with phase := 2 }).modJob job fun j => { j with changed := s.clk.frame }).log 8
        (.setting 0x00F00005 zone 0xFFFFFFFF)).completeJob job
    | none => s
/-- ZONE_WITHDRAWN (R374): the destination returns its landing zone to Empty. -/
def execZoneWithdrawn (partner : Digest) (reason ident zone : Nat) (s : State) : Res :=
  .next <|
    match s.job? ident with
    | some j =>
      if j.partner != partner || ! j.live || ! j.zones.any (fun z => z.zone == zone && ! z.settled) then s
      else
        let s := if j.source then s else s.returnZone j.nsid zone
        let s := s.dropHReqs fun r => ofOp ident r && r.zone == zone && ! r.sent
        ((s.setJobZone ident zone fun z => { z with phase := 3, reason := reason, pieces := [] }).modJob ident fun j => { j with changed := s.clk.frame }).completeJob ident
    | none => s
/-- ZONE_REFUSED (R363, R372, R379): the job goes on with its other zones; a zone refused by a mirror partner is not mirrored. -/
def execZoneRefused (partner : Digest) (reason ident zone : Nat) (s : State) : Res :=
  .next <|
    match s.job? ident, s.mirror? ident with
    | some j, _ =>
      if j.partner != partner || ! j.live then s
      else ((s.setJobZone ident zone fun z => { z with phase := 4, reason := reason, pieces := [] }).modJob ident fun j => { j with changed := s.clk.frame }).completeJob ident
    | none, some m =>
      if ! m.source || m.other != partner then s
      else
        let s := s.modMirror ident fun m => { m with zones := m.zones.filter (·.zone != zone) }
        ((s.modZone m.nsid zone fun z => { z with mirror := none }).raise 597 4 1 [ident, zone]).ackMirrored m
    | none, none => s
/-- SUSPEND (R377). -/
def execSuspend (partner : Digest) (_state cause ident : Nat) (s : State) : Res :=
  .next (if (s.job? ident).any (·.partner == partner) then s.suspendJob ident cause else s)
/-- A suspended job runs again over the paths given (R377); a destination repeats a Cut-over (ready) that has not been confirmed (R378). -/
def State.resumeJob (s : State) (id : Nat) (streams : List (Nat × Nat)) : State :=
  (s.modJob id fun j => { j with streams := streams, zones := j.zones.map fun z =>
    if z.settled then z
    else { z with stream := streams.head?, phase := if ! j.source && z.phase == 5 then 1 else z.phase } }).modJob id Job.divide |>.setJob id .running 0
/-- JOB_RESUME (R377): the partner is Paired again on a path within the budget. -/
def execJobResume (job port label : Nat) (s : State) : Res :=
  .next <|
    match s.job? job with
    | some j =>
      if j.state != .suspended || ! s.isPaired j.partner || ! (s.goodPaths j.partner).any (fun p => p.port == port && p.label == label) then s
      else (s.resumeJob job [(port, label)]).sendOp j.partner 0x09 [2, JobState.running.num, 0, job]
    | none => s
/-- RESUME (R377, R383): the other end has resumed; an unknown job is ended; at the source of a broken relationship catch-up is over. -/
def execResume (partner : Digest) (_state _cause ident : Nat) (s : State) : Res :=
  .next <|
    match s.job? ident, s.mirror? ident with
    | some j, _ =>
      if j.partner != partner then s
      else match j.state with
        | .suspended => s.resumeJob ident (State.chooseStreams (min 3 (max 1 j.maxStreams)) (s.goodPaths partner))
        | .stopped | .complete => s.sendOp partner 0x09 [3, j.state.num, j.cause, ident]
        | .offered | .running => s
    | none, some m =>
      if m.source && m.broken && m.other == partner then
        s.modMirror ident fun m => { m with broken := false, catchingUp := false, zones := m.zones.map fun z => { z with ack := z.next } }
      else s
    | none, none => s.sendOp partner 0x09 [3, JobState.stopped.num, 0x0105, ident]
/-- END (R376, R384): the other end's job is Complete or Stopped, or its relationship has ended. -/
def execEndOp (partner : Digest) (state cause ident : Nat) (s : State) : Res :=
  .next <|
    match s.job? ident, s.mirror? ident with
    | some j, _ =>
      if j.partner != partner || ! j.live then s
      else if state == JobState.complete.num then (s.closePeerJob j).setJob ident .complete 0
      else s.stopJob ident cause false
    | none, some m =>
      if m.other != partner then s
      else if m.source then (s.endMirrorSource m).raise 597 2 0 [ident, 0]
      else (s.dropHReqs (ofOp ident)).modMirror ident fun m => { m with ended := true }
    | none, none => s
/-- Frames of the resume window (R385). -/
def State.resumeWindow (s : State) : Nat := s.ctlValue ctlResumeWindow * 86400 * 62500
/-- RESUME_WINDOW (R376, R382): the window has passed for an Offered or Suspended job, or for a broken relationship. -/
def execResumeWindow (ident : Nat) (s : State) : Res :=
  .next <|
    match s.job? ident, s.mirror? ident with
    | some j, _ =>
      let since := if j.state == .offered then some j.offeredAt else j.suspendedAt
      if j.live && (since.any fun f => decide (f + s.resumeWindow ≤ s.clk.frame)) then s.stopJob ident 0x0702 else s
    | none, some m =>
      if ! m.broken || decide (s.clk.frame < m.brokenAt + s.resumeWindow) then s
      else if m.source then (s.endMirrorSource m).raise 597 2 0 [ident, 0]
      else s.modMirror ident fun m => { m with ended := true }
    | none, none => s
/-- STREAM_ADD (R368): another path that shares no link with those in use; the zones not yet started are divided again. -/
def execStreamAdd (job port label : Nat) (s : State) : Res :=
  .next <|
    match s.job? job with
    | some j =>
      if j.state != .running || decide (min 3 j.maxStreams ≤ j.streams.length) || j.streams.any (·.1 == port) ||
          ! (s.goodPaths j.partner).any (fun p => p.port == port && p.label == label) then s
      else (s.modJob job fun j => { j with streams := j.streams ++ [(port, label)] }).modJob job Job.divide
    | none => s

/-! ## Mirroring (R379 to R384) -/

/-- MIRROR_OPEN (R234, R365, R379): the partner's zone takes the generation and the key entry, or the zone is not mirrored; read-preserve
refuses it for want of capacity. -/
def execMirrorOpen (partner : Digest) (rel zone generation : Nat) (entry : KeyEntry) (s : State) : Res :=
  .next <|
    match s.mirror? rel with
    | none => s
    | some m =>
      if m.source || m.other != partner || ! m.accepted || m.ended then s
      else match s.ns? m.nsid with
        | none => s
        | some n =>
          let fp := if entry.number == 0 then 0 else entry.fp
          let floor := if entry.number == 0 then 0 else 2 ^ 48
          let refuse (reason : Nat) : State := s.sendOp partner 0x08 [2, reason, rel, zone]
          if n.zoneCount ≤ zone || (n.zone zone).state != .empty then refuse 2
          else if s.media.readPreserve then refuse 3
          else if ! s.genFree generation then refuse 4
          else match s.takeEntry fp entry.salt floor with
            | none => refuse 5
            | some (ref, s) =>
              (s.openLanding n zone m.cls generation ref).modMirror rel fun m => { m with
                zones := putBy MirZone.zone { zone := zone, gen := generation } m.zones }
/-- Take a mirror write at the partner (R380): blocks at the mirror pointer, those before it skipped; none while energy does not admit. -/
def State.takeMirror (s : State) (m : Mirror) (zone : Nat) (p : Piece) : Option (Option State) :=
  match m.zones.find? (·.zone == zone) with
  | none => some none
  | some z =>
    let got := (p.blocks.zip p.metas).zipIdx.map fun ((b, w), i) => s.receivedBlock z.gen zone (p.offset + i) b w
    if z.ack < p.offset || got.any Option.isNone then some none
    else (s.landBlocks m.nsid zone p.offset (got.filterMap id)).map fun t =>
      some (t.modMirror m.ident fun m => { m with zones := updIf (·.zone == zone) (fun z => { z with ack := max z.ack (p.offset + p.blocks.length) }) m.zones })
/-- The partner's mirror pointer of a zone. -/
def State.mirrorPointer (s : State) (rel zone : Nat) : Nat :=
  (((s.mirror? rel).bind fun m => m.zones.find? (·.zone == zone)).map (·.ack)).getD 0
/-- Take a mirror write and answer it; one that energy does not admit waits (R373, R380), and read-preserve refuses it (R234). -/
def State.mirrorIn (s : State) (rel port label tag zone : Nat) (p : Piece) : State :=
  match s.mirror? rel with
  | none => s.failReq port label 0x0105 tag rel
  | some m =>
    if s.media.readPreserve then s.failReq port label 0x0202 tag rel else
    match s.takeMirror m zone p with
    | none => s.modMirror rel fun m => { m with held := m.held ++ [(port, label, tag, zone, p)] }
    | some none => s.failReq port label 0x0504 tag rel
    | some (some t) => t.respondPath port label tag 1 [] [] [] 0 (t.mirrorPointer rel zone)
/-- MIRROR_WRITE (R369, R380). -/
def execMirrorWrite (port seq label tag rel zone offset : Nat) (blocks : List Block) (metas : List Wide) (s : State) : Res :=
  let r : HReq := { port := port, label := label, tag := tag, op := 3, ident := rel, zone := zone, offset := offset, count := blocks.length, declared := 1 }
  received port seq 0x20 s (packets := r.packets) fun s =>
    s.requestAt port label r fun s fp =>
      if (s.mirror? rel).any fun m => ! m.source && m.other == fp && m.accepted && ! m.ended then
        s.mirrorIn rel port label tag zone { offset := offset, blocks := blocks, metas := metas }
      else s.failReq port label 0x0105 tag rel
/-- MIRROR_FINISH (R380): the partner finishes the zone and compares roots; a mismatch ends mirroring of the zone. -/
def execMirrorFinish (partner : Digest) (rel zone generation written : Nat) (root : Digest) (s : State) : Res :=
  .next <|
    match s.mirror? rel with
    | none => s
    | some m =>
      match s.ns? m.nsid with
      | none => s
      | some n =>
        if m.source || m.other != partner || (n.zone zone).gen != generation || ! (m.zones.any (·.zone == zone)) then s
        else
          let s := if (n.zone zone).state.isOpen then s.finishZone n zone false else s
          if (s.zone m.nsid zone).written == written && s.rootOver m.nsid zone written == root then s
          else (s.raise 597 5 2 [rel, zone]).modMirror rel fun m => { m with zones := m.zones.filter (·.zone != zone) }
/-- MIRROR_RESET (R380): the partner returns its zone to Empty. -/
def execMirrorReset (partner : Digest) (rel zone generation : Nat) (s : State) : Res :=
  .next <|
    match s.mirror? rel with
    | none => s
    | some m =>
      if m.source || m.other != partner || (s.zone m.nsid zone).gen != generation then s
      else (s.returnZone m.nsid zone).modMirror rel fun m => { m with zones := m.zones.filter (·.zone != zone) }
/-- MIRROR_PROMOTE (R384): the source ends the relationship and raises an event. -/
def execMirrorPromote (partner : Digest) (rel : Nat) (s : State) : Res :=
  .next <|
    match s.mirror? rel with
    | some m => if m.source && m.other == partner then (s.endMirrorSource m).raise 597 2 0 [rel, 0] else s
    | none => s
/-- CATCH_UP (R383): the partner of a broken relationship is Paired again; the mirror partner pulls each zone from its last whole chunk. -/
def execCatchUp (rel : Nat) (s : State) : Res :=
  .next <|
    match s.mirror? rel with
    | none => s
    | some m =>
      if ! m.broken || m.catchingUp || m.ended || ! s.isPaired m.other || (s.goodPaths m.other).isEmpty then s
      else s.modMirror rel fun m => { m with
        catchingUp := true
        zones := if m.source then m.zones.map fun z => { z with next := z.ack } else m.zones
        pulls := if m.source then [] else m.zones.map fun z => { zone := z.zone, phase := 1, chunks := 4 * (z.ack / 256) } }
/-- The blocks of a piece that the partner already holds are the bytes received (R377, R383). -/
def State.pieceAgrees (s : State) (m : Mirror) (zone : Nat) (p : Piece) : Bool :=
  let held := s.mirrorPointer m.ident zone - p.offset
  ((p.blocks.zip p.metas).take held).zipIdx.all fun ((b, w), i) =>
    match s.sealedRange m.nsid zone (p.offset + i) 1 with
    | some l => l.flatMap s.storedBytes == blockBytes b ++ bytesLE 64 w.toNat
    | none => false
/-- One zone of a catch-up at the partner (R383): pieces in order, from the last whole chunk below its mirror pointer. Blocks already held
are checked; where they differ the zone is taken again from its start. `chunks` counts the pieces passed. -/
def State.pullMirror (s : State) (rel : Nat) (path : Nat × Nat) (z : JobZone) : State :=
  match s.mirror? rel with
  | none => s
  | some m =>
    let setPull (f : JobZone → JobZone) (s : State) : State :=
      s.modMirror rel fun m => { m with pulls := updIf (·.zone == z.zone) f m.pulls }
    match z.pieces.find? (·.offset == 64 * z.chunks) with
    | some p =>
      if ! s.pieceAgrees m z.zone p then
        ((s.restartLanding m.nsid z.zone).modMirror rel fun m => { m with
          zones := updIf (·.zone == z.zone) (fun x => { x with ack := 0 }) m.zones }) |> setPull fun x => { x with chunks := 0, pieces := [] }
      else match s.takeMirror m z.zone p with
        | some (some t) => setPull (fun x => { x with chunks := x.chunks + 1, pieces := x.pieces.filter (·.offset != p.offset) }) t
        | some none => setPull (fun x => { x with pieces := [] }) s
        | none => s
    | none =>
      if z.phase != 1 || s.hal.reqs.any (fun r => ofOp rel r && r.zone == z.zone) then s
      else s.newReq path 1 rel z.zone (64 * z.chunks) 64 (chunkPackets 64)
/-- Catch-up at the partner; once every zone is at the source's pointer the relationship is restored (R382, R383). -/
def State.catchUpStep (s : State) (m : Mirror) : State :=
  match s.bestPath m.other with
  | none => s
  | some p =>
    if m.pulls.all (·.phase == 2) then
      (s.modMirror m.ident fun m => { m with broken := false, catchingUp := false, pulls := [] }).sendOp m.other 0x09 [2, 0, 0, m.ident]
    else each m.pulls (fun s z => s.pullMirror m.ident (p.port, p.label) z) s
/-- Mirror writes of a zone's sealed blocks, in zone-offset order, up to 64 each; Mirror finish once all of a Full zone are acknowledged
(R380, R381). -/
def State.feedZone (s : State) (m : Mirror) (path : Nat × Nat) (z : MirZone) : State :=
  match s.ns? m.nsid with
  | none => s
  | some n =>
    let x := n.zone z.zone
    let upto := if x.state == .full then x.written else x.wp
    let run := ((List.range (min 64 (upto - z.next))).takeWhile fun i => (s.sealedRange m.nsid z.zone (z.next + i) 1).isSome).length
    if 0 < run then
      (s.newReq path 3 m.ident z.zone z.next run 1).modMirror m.ident fun m => { m with
        zones := updIf (·.zone == z.zone) (fun z => { z with next := z.next + run }) m.zones }
    else if x.state == .full && x.fullDurable && decide (x.written ≤ z.ack) && ! z.finSent then
      (s.sendOp m.other 0x11 [m.ident, z.zone, x.gen, x.written, x.root.toNat]).modMirror m.ident fun m => { m with
        zones := updIf (·.zone == z.zone) (fun z => { z with finSent := true }) m.zones }
    else s
/-- The lag of a relationship: blocks admitted to its zones and not yet acknowledged (R381). -/
def State.mirrorLag (s : State) (m : Mirror) : Nat := sumOf (fun z => (s.zone m.nsid z.zone).wp - z.ack) m.zones
/-- Step 8 for the peer operations (R341, R368, R380): mirror writes, imports and pulls are admitted, and the requests leave. -/
def State.peerFrame (s : State) : State :=
  let s := if s.media.readPreserve then
      each ((s.peer.jobs.filter fun j => ! j.source && j.live).map (·.ident)) (fun s id => s.stopJob id 0x0202) s
    else s
  let s := each s.peer.mirrors (fun s m =>
    if ! m.accepted || m.ended then s
    else if m.broken then (if m.catchingUp && ! m.source then s.catchUpStep m else s)
    else match s.bestPath m.other with
      | none => s
      | some p =>
        if m.source then
          let zs (lba : Nat) : Nat := match s.ns? m.nsid with
            | some n => lba / max 1 (n.zoneSize s.profile)
            | none => 0
          let s := if m.mode == 0 then s.sealHeld fun b => b.nsid == m.nsid && m.zones.any (·.zone == zs b.lba) else s
          each m.zones (fun s z => s.feedZone m (p.port, p.label) z) s
        else each m.held (fun s (port, label, tag, zone, k) => s.mirrorIn m.ident port label tag zone k)
          (s.modMirror m.ident fun m => { m with held := [] })) s
  let s := each (s.peer.jobs.filter fun j => ! j.source && j.state == .running) (fun s j =>
    let s := each (j.zones.map (·.zone)) (fun s z => s.importChunk j.ident z) s
    let s := each j.streams (fun s p => State.pull 16 j.ident p s) s
    match s.job? j.ident with
    | some j => s.announceReady j
    | none => s) s
  s.admitHalyard

/-! ## Mailbox commands of group 0x07xx -/

/-- Cancel Migration (R376). -/
def effCancelMigration (id : Nat) (s : State) : Eff :=
  match s.job? id with
  | none => (s, errR 0x0105 id)
  | some j => if j.live then (s.stopJob id 0, okR) else (s, errR 0x0201 id j.state.num)
def effGetMigrationJob (id : Nat) (s : State) : Eff :=
  match s.job? id with
  | none => (s, errR 0x0105 id)
  | some j =>
    let n (k : Nat) : Nat := countIf (fun z => z.phase == k) j.zones
    (s, okR [j.state.num, bitOf (! j.source), j.streams.length, j.partner.toNat, j.zones.length, n 2, n 4, n 3, j.bytes, j.changed, j.cause])
/-- Set Mirror (R379, R385): at the source the relationship is offered; at the partner it names the landing namespace. -/
def effSetMirror (role mode policy cls lag nsid firstZone zoneCount : Nat) (other : Digest) (s : State) : Eff :=
  let pol : Option Nat := if policy == 0xFF then none else some policy
  let limit := if lag == 0 then 262144 else lag
  if role == 0 then
    match s.noStart other with
    | some r => (s, r)
    | none => match s.ns? nsid with
      | none => (s, errR 0x0105 nsid)
      | some n =>
        if n.conv || n.landing then (s, errR 0x0201 nsid)
        else if n.zoneCount < firstZone + zoneCount || zoneCount == 0 then (s, errR 0x0104 12)
        else if 64 ≤ s.peer.mirrors.length then (s, errR 0x0302)
        else
          let (id, s) := s.newIdent
          let m : Mirror := {
            ident := id, source := true, other := other, nsid := nsid, cls := cls, firstZone := firstZone, zoneCount := zoneCount
            mode := mode, policy := pol, lagLimit := limit }
          let s := (s.modPeer fun p => { p with mirrors := p.mirrors ++ [m] }).log 8 (.setting 0x00F00007 (id % 2 ^ 32) 1)
          ((s.reach other).sendMirrorOffer m, okR [id])
  else if ! (s.isPaired other || s.hasPairing other) then (s, errR 0x0701)
  else match s.landable nsid with
    | some r => (s, r)
    | none =>
      if ((s.ns? nsid).bind fun n => s.classFields n cls).isNone then (s, errR 0x0105 cls)
      else match s.peer.mirrors.find? fun m => ! m.source && ! m.accepted && m.other == other with
        | some m => if s.formatFits nsid m.offer.2.1 m.offer.2.2 then (s.acceptMirror m.ident nsid cls, okR [m.ident]) else (s, errR 0x0201 nsid)
        | none =>
          let l : Landing := {
            source := other, nsid := nsid, cls := cls, mirror := true, mode := mode, policy := policy, lag := limit
            firstZone := firstZone, zoneCount := zoneCount }
          ((s.setLanding nsid).modPeer fun p => { p with landings := p.landings ++ [l] }, okR [0])
/-- End Mirror (R384): on the source the relationship ends; on the partner it releases the zones of one that has ended. -/
def effEndMirror (rel : Nat) (s : State) : Eff :=
  match s.mirror? rel with
  | none => (s, errR 0x0105 rel)
  | some m =>
    if m.source then ((s.sendOp m.other 0x09 [3, 0, 0, rel]).endMirrorSource m, okR)
    else if m.ended then (s.releaseMirrorZones m, okR) else (s, errR 0x0201 rel)
/-- Promote Mirror (R384), on the partner. -/
def effPromoteMirror (rel : Nat) (s : State) : Eff :=
  match s.mirror? rel with
  | none => (s, errR 0x0105 rel)
  | some m => if m.source then (s, errR 0x0201 rel) else ((s.sendOp m.other 0x13 [rel]).releaseMirrorZones m, okR)
def effGetMirror (rel : Nat) (s : State) : Eff :=
  match s.mirror? rel with
  | none => (s, errR 0x0105 rel)
  | some m =>
    (s, okR [bitOf (! m.source), m.mode, m.policy.getD 0xFF, m.cls, m.lagLimit, m.nsid, m.firstZone, m.zoneCount, m.other.toNat,
      bitOf m.broken 0 + bitOf m.catchingUp 1, s.mirrorLag m, m.brokenAt])
/-- A setting of a relationship's mode, loss policy or lag limit (R385). -/
def State.mirrorSetting (s : State) (ident scope value : Nat) : State :=
  s.modPeer fun p => { p with mirrors := updIf (fun m => m.ident % 2 ^ 32 == scope) (fun m =>
    if ident == ctlMirrorMode then { m with mode := value }
    else if ident == ctlLossPolicy then { m with policy := some value }
    else if ident == ctlLagLimit then { m with lagLimit := value } else m) p.mirrors }

/-- A namespace is deleted (R320, R376): jobs over it stop, and relationships end. -/
def State.peerNsDeleted (s : State) (nsid : Nat) : State :=
  let s := each ((s.peer.jobs.filter fun j => j.nsid == nsid && j.live).map (·.ident)) (fun s id => s.stopJob id 0x0105) s
  let s := each (s.peer.mirrors.filter (·.nsid == nsid)) (fun s m =>
    if m.source then (s.sendOp m.other 0x09 [3, 0, 0x0105, m.ident]).endMirrorSource m
    else (s.sendOp m.other 0x13 [m.ident]).releaseMirrorZones m) s
  s.modPeer fun p => { p with landings := p.landings.filter (·.nsid != nsid) }
/-- Crypto Erase stops every job and ends every relationship (R308, R376). -/
def State.peerErased (s : State) : State :=
  let s := each (s.peer.jobs.map (·.ident)) (fun s id => s.stopJob id 0x0805) s
  s.modPeer fun p => { p with landings := [], mirrors := [] }

end Sys2Proof.Machine
end

