-- ==== Sys2Proof/Machine/Namespaces.lean ====
section
/-! DEFINITION. Namespaces, placement classes, attachment and the deletion of an instance (R100, R103 to R107, R122 to R132, R317 to
R320, R329). -/

namespace Sys2Proof.Machine

/-! ## Placement classes (R103, R124, R125) -/

/-- Widest stripe width of the variant. -/
def State.widest (s : State) : Nat := maxOf (widthsOf s.variant)
/-- Width of a class for a namespace of maximum width `wmax`; none when it is not defined. -/
def State.classWidth (s : State) (wmax c : Nat) : Option Nat := if c ≤ 1 then some wmax else (s.class? c).map (·.width)
/-- The checks of R103 on a default and a permitted set: the error, with the byte offsets of the two fields. -/
def State.classSetBad (s : State) (wmax dflt : Nat) (permitted : List Nat) (offDflt offPerm : Nat) : Option Resp :=
  if ! permitted.contains dflt then some (errR 0x0104 offDflt)
  else permitted.findSome? fun c =>
    match s.classWidth wmax c with
    | none => some (errR 0x0105 c)
    | some w => if wmax < w then some (errR 0x0104 offPerm) else none

/-- Lowest namespace of which a class is the default and that satisfies `p`. -/
def State.defaultOf (s : State) (c : Nat) (p : Namespace → Bool) : Option Nat :=
  minBy id ((s.nss.filter fun n => ! n.conv && ! n.deleted && n.cls == c && p n).map (·.nsid))
/-- Define Class (R124, R125). -/
def effDefineClass (c width grade affinity : Nat) (s : State) : Eff :=
  if c < 2 || decide (63 < c) then (s, errR 0x0104 0)
  else if ! (widthsOf s.variant).contains width then (s, errR 0x0104 1)
  else if 1 < grade then (s, errR 0x0104 2)
  else if affinity == 0 || decide (2 ^ s.mastN ≤ affinity) then (s, errR 0x0104 3)
  else match s.defaultOf c fun n => decide (n.wmax < width) with
    | some n => (s, errR 0x0203 n)
    | none =>
      ((s.modClasses fun l => putBy PClass.number { number := c, width := width, archival := grade == 1, affinity := affinity } l).log 8
        (.setting 0x00F0000B c width), okR)
/-- Delete Class (R125). -/
def effDeleteClass (c : Nat) (s : State) : Eff :=
  if c < 2 || decide (63 < c) then (s, errR 0x0104 0)
  else if (s.class? c).isNone then (s, errR 0x0105 c)
  else match s.defaultOf c fun _ => true with
    | some n => (s, errR 0x0203 n)
    | none => ((s.modClasses fun l => l.filter (·.number != c)).log 8 (.setting 0x00F0000B c 0), okR)

/-! ## Creation (R103 to R107, R130, R131, R134, R318) -/

/-- A creation request; 0 takes the default where R103 gives one. -/
structure NsRequest where
  origin : Nat
  lbaf : Nat
  pi : Nat := 0
  zones : Nat
  segs : Nat := 0
  wmax : Nat := 0
  cls : Nat := 0
  pie : Bool := false
  permitted : Nat := 0
  active : Nat := 0
  open_ : Nat := 0
  conv : Nat := 0
  deriving DecidableEq, Repr

/-- Default limits of a namespace of an origin (R103). -/
def State.activeDefault (s : State) (origin : Nat) : Nat := min 64 (s.roomOf origin 5)
def State.openDefault (s : State) (origin active : Nat) : Nat := min (min 32 active) (s.roomOf origin 6)
/-- Lowest unused namespace identifiers. -/
def State.freeNsids (s : State) (count : Nat) : List Nat :=
  (((List.range (s.nss.length + count)).map (· + 1)).filter fun i => ! s.nss.any (·.nsid == i)).take count
/-- Namespaces that count, companions included. -/
def State.nsCount (s : State) : Nat := countIf (fun n => ! n.deleted) s.nss

/-- Create a zoned namespace and, with a region size, its companion: the identifiers, or the error. -/
def State.createNs (s : State) (r : NsRequest) : State × Except Resp (Nat × Nat) :=
  let p := s.profile
  let pi := if r.pi == 0 then 1 else r.pi
  let segs := if r.segs == 0 then 1 else r.segs
  let wmax := if r.wmax == 0 then s.widest else r.wmax
  let permitted := if r.permitted == 0 then [0, 1] else bitsOf r.permitted 64
  let room := s.roomOf r.origin 5
  let active := if r.active == 0 then s.activeDefault r.origin else r.active
  let opn := if r.open_ == 0 then s.openDefault r.origin active else r.open_
  let count := if r.conv == 0 then 1 else 2
  let bad (e : Resp) : State × Except Resp (Nat × Nat) := (s, .error e)
  if 1 < r.lbaf then bad (errR 0x0104 2)
  else if pi != 1 && pi != 3 then bad (errR 0x0104 3)
  else if r.zones == 0 then bad (errR 0x0104 4)
  else if 16 < segs then bad (errR 0x0104 8)
  else if ! (widthsOf s.variant).contains wmax then bad (errR 0x0104 9)
  else match s.classSetBad wmax r.cls permitted 10 12 with
    | some e => bad e
    | none =>
      let home := s.classFields { nsid := 0, wmax := wmax } r.cls
      let cw := (home.map (·.width)).getD wmax
      let blocks := r.zones * segs * wmax
      let convBlocks := convSegments p cw r.conv * cw
      if nominalCapacity p r.zones wmax segs / 64 < r.conv then bad (errR 0x0104 28)
      else if active == 0 || decide (room < active) then bad (errR 0x0301 5)
      else if opn == 0 || decide (active < opn) then bad (errR 0x0104 24)
      else if s.roomOf r.origin 6 < opn then bad (errR 0x0301 6)
      else if s.roomOf r.origin 3 < count then bad (errR 0x0301 3)
      else if s.roomOf r.origin 4 < blocks + convBlocks then bad (errR 0x0301 4)
      else if 1024 < s.nsCount + count then bad (errR 0x0302)
      else if s.availableBlocks < s.reservedBlocks + blocks + convBlocks then
        bad (errR 0x0303 (s.reservedBlocks + blocks + convBlocks - s.availableBlocks))
      else
        let ids := s.freeNsids count
        let id := ids.getD 0 1
        let comp := if r.conv == 0 then none else some (ids.getD 1 2)
        let n : Namespace := {
          nsid := id, origin := r.origin, companion := comp, lbaf := r.lbaf, pi := pi, zoneCount := r.zones, segsPerZone := segs, wmax := wmax
          cls := r.cls, permitted := permitted, pie := r.pie, active := active, open_ := opn, reserved := blocks }
        let s := s.modNss (· ++ [n])
        let k : Namespace := {
          nsid := comp.getD 0, origin := r.origin, companion := some id, conv := true, lbaf := r.lbaf, pi := pi, wmax := wmax, size := r.conv
          reserved := convBlocks, cwidth := cw, carch := (home.map (·.archival)).getD false
          chome := (s.chooseHome ((home.map (·.affinity)).getD (2 ^ s.mastN - 1))).1, csegsLeft := convSegments p cw r.conv }
        let s := if comp.isNone then s else s.modNss (· ++ [k])
        ((s.log 8 (.setting 0x00F0000A id 1)).shrink, .ok (id, comp.getD 0))

/-- Create Namespace. -/
def effCreateNamespace (r : NsRequest) (s : State) : Eff :=
  match s.createNs r with
  | (s, .error e) => (s, e)
  | (s, .ok (id, comp)) =>
    let n := (s.ns? id).getD { nsid := id }
    let conv := ((s.ns? comp).map (·.reserved)).getD 0
    (s, okR [id, comp, n.zoneSize s.profile, zoneCapacity s.profile n.wmax n.segsPerZone, n.reserved + conv])
/-- Namespace Management create (R100, R103, R105, R318): every attribute below its data structure takes its default. -/
def State.nvmeCreate (s : State) (csi nsze ncap lbaf pi : Nat) : State × NvmeStatus × Nat :=
  let size := zoneSizeOf s.profile s.widest 1
  if csi != 2 || nsze == 0 || nsze % max 1 size != 0 || decide (nsze < ncap) then (s, stInvalidField, 0)
  else match s.createNs { origin := 0, lbaf := lbaf, pi := pi, zones := nsze / size } with
    | (s, .ok (id, _)) => (s, stOk, id)
    | (s, .error e) =>
      (s, if e.status == 0x0104 then stInvalidField else if e.status == 0x0302 then stNsId else stNsCapacity, 0)

/-! ## Attachment (R317, R319, R320, R362) -/

/-- A namespace attribute changed: the changed list and the Namespace Attribute Notices event of a function. -/
def State.noticeNs (s : State) (fn nsid : Nat) : State :=
  let mark (c : Ctrl) : Ctrl := { c with changedNs := dedupN (c.changedNs ++ [nsid]) }
  let s := (s.modCtrl fn false mark).asyncEvent fn false 0x040002
  if fn == 0 && s.dual then (s.modCtrl1 mark).asyncEvent 0 true 0x040002 else s
/-- The namespace and its companion. -/
def Namespace.pair (n : Namespace) : List Nat := n.nsid :: n.companion.toList
/-- A consent of the origin that is still good (R319). -/
def State.consented (s : State) (n : Namespace) (fn : Nat) : Bool :=
  fn == n.origin || n.origin == 0 || (s.fn n.origin).consents.any fun (id, f, at_) =>
    n.pair.contains id && f == fn && decide (s.clk.frame ≤ at_ + 62500)
/-- The namespace may be attached to a function. -/
def State.attachable (s : State) (n : Namespace) (fn : Nat) : Bool := ! n.landing && s.consented n fn
def State.attachPair (s : State) (n : Namespace) (fn : Nat) : State :=
  let s := each n.pair (fun s id => (s.modNs id fun n => { n with attached := dedupN (n.attached ++ [fn]) }).noticeNs fn id) s
  s.log 8 (.setting 0x00F0000A n.nsid fn)
/-- Detach a pair: fixity jobs of the function over it end. -/
def State.detachPair (s : State) (n : Namespace) (fn : Nat) : State :=
  let s := each n.pair (fun s id => (s.modNs id fun n => { n with attached := n.attached.filter (· != fn) }).noticeNs fn id) s
  (s.abortJobs (fun j => j.fn == fn && n.pair.contains j.nsid) 0x0801).log 8 (.setting 0x00F0000A n.nsid fn)

/-- Attach Namespace. -/
def effAttachNamespace (nsid fn : Nat) (s : State) : Eff :=
  match s.ns? nsid with
  | none => (s, errR 0x0105 nsid)
  | some n =>
    if n.attached.contains fn then (s, okR)
    else if ! s.attachable n fn then (s, errR 0x0405 nsid)
    else (s.attachPair n fn, okR)
/-- Detach Namespace. -/
def effDetachNamespace (nsid fn : Nat) (s : State) : Eff :=
  match s.ns? nsid with
  | none => (s, errR 0x0105 nsid)
  | some n => if n.attached.contains fn then (s.detachPair n fn, okR) else (s, errR 0x0405 nsid)
/-- Consent to Attach (R319): from the origin only. -/
def effConsentToAttach (v : Via) (nsid fn : Nat) (s : State) : Eff :=
  match s.ns? nsid with
  | none => (s, errR 0x0105 nsid)
  | some n =>
    if n.origin != callerOf v then (s, errR 0x0405 nsid)
    else (s.modFn (callerOf v) fun f => { f with consents := (f.consents.filter fun (id, g, _) => ! (id == nsid && g == fn)) ++ [(nsid, fn, s.clk.frame)] }, okR)

/-- The function of a controller identifier (R391). -/
def State.fnOfCtrl (s : State) (c : Nat) : Option Nat := if c ≤ 128 then some c else if c == 129 && s.dual then some 0 else none
/-- Namespace Attachment attach (R319): all the controllers or none. -/
def State.nvmeAttach (s : State) (nsid : Nat) (ctrls : List Nat) : State × NvmeStatus :=
  match s.ns? nsid with
  | none => (s, stInvalidNs)
  | some n =>
    let fns := ctrls.map s.fnOfCtrl
    if fns.isEmpty || fns.any Option.isNone then (s, stCtrlList)
    else
      let fns := dedupN (fns.map (·.getD 0))
      if fns.any n.attached.contains then (s, stNsAttached)
      else if ! fns.all (s.attachable n) then (s, stNsPrivate)
      else (each fns (fun s f => s.attachPair n f) s, stOk)
/-- Namespace Attachment detach. -/
def State.nvmeDetach (s : State) (nsid : Nat) (ctrls : List Nat) : State × NvmeStatus :=
  match s.ns? nsid with
  | none => (s, stInvalidNs)
  | some n =>
    let fns := ctrls.map s.fnOfCtrl
    if fns.isEmpty || fns.any Option.isNone then (s, stCtrlList)
    else
      let fns := dedupN (fns.map (·.getD 0))
      if ! fns.all n.attached.contains then (s, stNsNotAttached)
      else (each fns (fun s f => s.detachPair n f) s, stOk)

/-! ## Deletion (R320) -/

/-- Give up a deleted namespace once no admitted command names it but writes of its zones: its zones are released as Reset Zone releases them,
and those writes end as they do there (R115, R320). -/
def State.purgeNs (s : State) (nsid : Nat) : State :=
  match s.ns? nsid with
  | none => s
  | some n =>
    if ! n.deleted || s.io.cmds.any fun c => c.admitted.isSome && c.nsid == nsid && (n.conv || (writeExtent c.op).isNone) then s
    else
      let s := each n.zones (fun s z => s.commitRelease nsid z.zi z.gen .empty) s
      let s := each ((s.media.segs.filter fun g => g.nsid == nsid).map (·.seq)) State.releaseSegment s
      let s := s.dropBlocks (·.nsid == nsid)
      let s := s.modMedia fun m => { m with ledger := m.ledger.filter (·.nsid != nsid), marked := m.marked.filter (· != nsid) }
      s.modNss fun l => l.filter (·.nsid != nsid)
/-- Step 3 of R49: deleted namespaces whose admitted commands have ended. -/
def State.purgeDeleted (s : State) : State := each ((s.nss.filter (·.deleted)).map (·.nsid)) State.purgeNs s
/-- Delete a namespace and its companion. -/
def State.deleteNs (s : State) (n : Namespace) : State :=
  let s := each n.attached (fun s f => each n.pair (fun s id => s.noticeNs f id) s) s
  let s := s.abortJobs (fun j => n.pair.contains j.nsid) 0x0801
  let s := s.peerNsDeleted n.nsid
  let s := each n.pair (fun s id => s.modNs id fun n => { n with deleted := true, attached := [], reserved := 0, bound := .none, landing := false }) s
  let s := s.modFns fun l => l.map fun f => { f with consents := f.consents.filter fun (id, _, _) => ! n.pair.contains id }
  let s := s.log 8 (.setting 0x00F0000A n.nsid 0)
  (each n.pair State.purgeNs s).shrink
/-- Delete Namespace. A companion cannot be deleted alone (R130). -/
def effDeleteNamespace (nsid : Nat) (s : State) : Eff :=
  match s.ns? nsid with
  | none => (s, errR 0x0105 nsid)
  | some n => if n.conv then (s, errR 0x0201 nsid) else (s.deleteNs n, okR)
/-- Namespace Management delete; the broadcast identifier names every namespace. -/
def State.nvmeDelete (s : State) (nsid : Nat) : State × NvmeStatus :=
  if nsid == 0xFFFFFFFF then (each (s.nss.filter fun n => ! n.conv && ! n.deleted) State.deleteNs s, stOk)
  else match s.ns? nsid with
    | none => (s, stInvalidNs)
    | some n => if n.conv then (s, stInvalidField) else (s.deleteNs n, stOk)

/-! ## Attributes and records -/

/-- Set Namespace Attributes (R103, R317): the default class alone may change to any usable class of the recorded set, whatever became of the
others. -/
def effSetNamespaceAttributes (nsid : Nat) (setCls setPerm setLimits : Bool) (cls permitted active opn : Nat) (s : State) : Eff :=
  match s.ns? nsid with
  | none => (s, errR 0x0105 nsid)
  | some n =>
    if n.conv then (s, errR 0x0201 nsid)
    else
      let c := if setCls then cls else n.cls
      let per := if setPerm then bitsOf permitted 64 else n.permitted
      let alone := if per.contains c then s.classSetBad n.wmax c [c] 5 5 else some (errR 0x0104 5)
      match if setPerm then s.classSetBad n.wmax c per 5 8 else if setCls then alone else none with
      | some e => (s, e)
      | none =>
        let put (s : State) : State := s.modNs nsid fun n => { n with cls := c, permitted := per }
        if ! setLimits then ((put s).log 8 (.setting 0x00F0000A nsid c), okR)
        else if active == 0 then (s, errR 0x0104 16)
        else if s.roomOf n.origin 5 + n.active < active then (s, errR 0x0301 5)
        else if opn == 0 || decide (active < opn) then (s, errR 0x0104 20)
        else if s.roomOf n.origin 6 + n.open_ < opn then (s, errR 0x0301 6)
        else
          let s := ((put s).modNs nsid fun n => { n with active := active, open_ := opn }).log 8 (.setting 0x00F0000A nsid c)
          (each n.attached (fun s f => s.noticeNs f nsid) s, okR)

/-- Get Namespace. -/
def effGetNamespace (v : Via) (nsid : Nat) (s : State) : Eff :=
  match s.ns? nsid with
  | none => (s, errR 0x0105 nsid)
  | some n =>
    if ! n.visibleTo v then (s, errR 0x0405 nsid)
    else
      let region := if n.conv then n.size else ((n.companion.bind s.ns?).map (·.size)).getD 0
      (s, okR [n.origin, n.lbaf, n.pi, n.zoneCount, n.segsPerZone, n.wmax, n.cls, bitOf n.pie, bitmap n.permitted, n.active, n.open_, region,
        n.companion.getD 0, if n.conv then 0 else n.zoneSize s.profile, countIf (fun z => z.state == .offline) n.zones, n.activeZones,
        n.openZones, bitmap n.attached, bitOf n.landing])

/-- Get Zone Record. -/
def effGetZoneRecord (v : Via) (nsid zone : Nat) (s : State) : Eff :=
  match s.ns? nsid with
  | none => (s, errR 0x0105 nsid)
  | some n =>
    if ! n.visibleTo v then (s, errR 0x0405 nsid)
    else if n.zoneCount ≤ zone then (s, errR 0x0105 zone)
    else
      let z := n.zone zone
      (s, okR [z.state.value, z.width, z.cls, bitOf z.archival, z.home, bitOf z.affinityOut + bitOf z.overflow 1, z.keyRef, z.gen, z.wp,
        z.segs.length, z.fixity.num, z.fixPoc, z.fixFrame])

/-! ## Deleting an instance (R329) -/

/-- Delete Instance: its namespaces with the flag, then its slots, KEKs, allocations, contract, controls and Expert enable. -/
def effDeleteInstance (fn : Nat) (deleteNamespaces : Bool) (s : State) : Eff :=
  let f := s.fn fn
  if fn == 0 then (s, errR 0x0104 0)
  else if f.state != .offline then (s, errR 0x0201 fn f.state.num)
  else
    let mine := (s.originNs fn).filter (! ·.conv)
    match minBy id (mine.map (·.nsid)), deleteNamespaces with
    | some n, false => (s, errR 0x0203 n)
    | _, _ =>
      let s := each mine State.deleteNs s
      let slots := s.slotsOf fn
      let s := s.releaseSlots slots
      let s := each slots (fun s n => s.logImage n (s.slot n).generation) s
      let s := s.modFn fn fun f => ({ f with
        keks := [], alloc := [0, 0, 0, 0, 0, 0, 0, 0], contract := {}, expert := false, consents := [] } : Fn).zeroCredit
      let s := s.modCtl fun l => l.filter fun (i, sc, _) => ! ((i == ctlResetPolicy || i == ctlDrainLimit) && sc == fn)
      (s.log 8 (.setting 0x00F00009 fn 0), okR)

/-! ## NVMe Virtualization Management (R310, R313, R315, R322) -/

/-- Secondary Controller Online. -/
def State.nvmeOnline (s : State) (ctrl : Nat) : State × NvmeStatus :=
  if ctrl ≤ 128 && s.canGoOnline ctrl then (s.goOnline ctrl, stOk) else (s, stCtrlId)
/-- Secondary Controller Offline: none while the reset runs (R326). -/
def State.nvmeOffline (s : State) (ctrl : Nat) : State × Option NvmeStatus :=
  if ctrl == 0 || decide (128 < ctrl) then (s, some stCtrlId)
  else match (s.fn ctrl).state with
    | .resetting => (s, some stSecondaryState)
    | .offline => (s.beginReset ctrl .offline, some stOk)
    | .online => (s.beginReset ctrl .offline, none)
/-- Secondary Controller Assign: resource type 0 queue pairs, 1 interrupt vectors. -/
def State.nvmeAssign (s : State) (ctrl resource count : Nat) : State × NvmeStatus :=
  if ctrl == 0 || decide (128 < ctrl) then (s, stCtrlId)
  else if 1 < resource then (s, stResourceId)
  else match effSetAllocation ctrl (resource + 1) count s with
    | (s, r) => (s, if r.status == 0 then stOk else if r.status == 0x0201 then stSecondaryState else stResourceCount)

end Sys2Proof.Machine
end

