-- ==== Sys2Proof/Machine/Restart.lean ====
section
/-! DEFINITION. What the loss of the switched domains leaves, the AON power-on reset, dark time, wakes and restarts, and the frame
PLL (R27, R43 to R45, R154, R201, R305, R327, R468, R472, R473, R497, R517, R526). -/

namespace Sys2Proof.Machine

/-! ## The cut (R27, R28) -/

/-- The 80 switched domains (R27, R419). -/
def switched : List Nat := List.range 80
/-- DRAM domains: the masts' and the host complex's. -/
def dramDomains : List Nat := (List.range 8).map (9 * · + 8) ++ [74]
/-- Domains powered in stage 1: all but the Halyard ports, which stage 6 powers (R486). -/
def startFurled : List Nat := [75, 76, 77]

/-- The links are gone: sessions, paths, requests and probes. Nothing is sent. -/
def State.linksLost (s : State) : State :=
  let o := s.out
  let e := s.evt
  let s := each [0, 1, 2] (fun s i => s.goDown i) s
  let s := s.modHal fun h => { h with
    ports := h.ports.map fun p => { spurious := p.spurious, wokenAt := p.wokenAt }
    labels := [], probes := [], seen := [], heldProbes := [], reqs := [] }
  let s := s.modPeer fun p => { p with
    jobs := p.jobs.map fun j => { j with zones := j.zones.map fun z => { z with pieces := [], retried := false } }
    mirrors := p.mirrors.map fun m => { m with held := [] } }
  { s with out := o, evt := e }

/-- A block that lost work had taken is to be erased again, or is free where no record tells of its taking and it is still blank (R163). -/
def State.giveBack (s : State) (x b : Nat) (blank : Bool) : State :=
  let e := (s.lun x).block b
  if e.state != .allocated then s
  else if blank && e.erased then s.modBlock x b fun e => { e with state := .free }
  else (s.modBlock x b fun e => { e with state := .pendingErase, erased := false }).log (mastOfLun x) (.blockState x b 2 e.erases)
/-- A segment that no map record names is forgotten: its blocks are an orphan's, or were never taken where its allocation record is lost too
(R163). -/
def State.orphan (s : State) (seq : Nat) (unknown : Bool) : State :=
  match s.seg? seq with
  | none => s
  | some g =>
    (each ((List.range g.width).filter fun q => ! g.erasures.contains q)
      (fun s q => s.giveBack (s.memberGlun g q) (g.members.getD q 0) (unknown && g.passes q 0 == 0)) s).releaseSegment seq
/-- A member rewrite that has not committed gives its block back (R163). -/
def State.dropMove (s : State) (g : Segment) (v : Move) (unknown : Bool) : State :=
  (s.giveBack (s.memberGlun g v.member) v.block (unknown && v.passes.isEmpty)).modSeg g.seq fun g => { g with moves := g.moves.filter (·.member != v.member) }
/-- A record of which one copy is durable is accepted, and its other copy is written (R163): those staged in `j` and in no other journal that holds
them. -/
def onceDurable (staged : List (List JRec)) (j : Nat) : List JRec :=
  let here := staged.getD j []
  let others := (staged.zipIdx.filter fun x => x.2 != j && (j == 8 || x.2 == 8)).flatMap (·.1)
  here.filter fun r => match r with
    | .mapRecord _ _ _ | .memberMap _ _ _ | .convMap _ _ _ _ _ _ _ | .zoneRelease _ _ _ _ => ! others.contains r
    | _ => false
/-- A zone whose last state record is lost is as the last durable one left it (R161), but for a zone that kept blocks, which R120 opens again. -/
def State.lostZone (s : State) (n : Namespace) (z : Zone) : State :=
  let zs := n.zoneSize s.profile
  let kept := s.media.blocks.any fun b => b.nsid == n.nsid && b.marker != .void && decide (z.zi * zs ≤ b.lba) && decide (b.lba < (z.zi + 1) * zs)
  if z.safe == .empty then
    if kept then s
    else (each z.segs (fun s q => s.orphan q false) s).modZone n.nsid z.zi fun z => { zi := z.zi, cls := n.cls, gen := z.gen }
  else s.modZone n.nsid z.zi fun z => { z with state := z.safe }

/-- The end of a key reference's counter reservations as the durable records tell it (R301): a reservation whose record is lost was never
given out. -/
def KeyRef.durableHigh (staged : List JRec) (k : KeyRef) : KeyRef :=
  let mine := staged.filterMap fun r => match r with
    | .reservation 3 n _ start stop => if n == k.number then some (start, stop) else none
    | _ => none
  match minBy (·.1) mine with
  | some (start, _) => if maxOf (mine.map (·.2)) == k.high then { k with high := start } else k
  | none => k

/-- Media work cut off in the middle (R161 to R163), and what only records told that were not yet durable: a segment with a pass that no record
completes is to be replaced, a destination without a durable map record is an orphan, a compaction copy that has not committed only
holds its position, and a zone has the state of its last durable record. Units that only mast DRAM held are to be loaded again from
their rescue records, and their parity is to be recomputed (R138). -/
def State.cutMedia (s : State) : State :=
  let staged := s.media.journals.map (·.staged)
  let all := staged.flatten
  let moving (seq glun block : Nat) : Bool := match s.seg? seq with
    | some g => g.moves.any fun v => s.memberGlun g v.member == glun && v.block == block
    | none => false
  let cut := s.luns.filterMap fun l => l.work.bind fun w =>
    if (w.kind == .coarsePass || w.kind == .finePass) && ! w.cmd && ! moving w.ref1 l.glun w.block then some w.ref1 else none
  let unrecorded := all.filterMap fun r => match r with
    | .passComplete seq q _ _ b => if ((s.seg? seq).map fun g => g.members.getD q 0) == some b then some seq else none
    | _ => none
  let lostZones := s.nss.flatMap fun n => (n.zones.filter fun z => all.any fun r => match r with
    | .zoneState nsid zi gen _ _ => nsid == n.nsid && zi == z.zi && gen == z.gen
    | _ => false).map fun z => (n, z)
  let s := s.modMedia fun m => { m with journals := m.journals.zipIdx.map fun (j, i) => { j with
    staged := onceDurable staged i, gens := s.gensWithout j (j.staged.filter fun r => ! (onceDurable staged i).contains r) } }
  let s := each (dedupN (cut ++ unrecorded)) (fun s q => s.modSeg q fun g => { g with replace := true }) s
  let s := each (s.media.segs.filter (·.dest.isSome)) (fun s g =>
    let d := g.dest.getD 0
    (s.orphan d (all.contains (.allocation d))).modSeg g.seq fun g => { g with dest := none }) s
  let s := each s.media.segs (fun s g => each g.moves (fun s v => s.dropMove g v (all.contains (.allocation g.seq))) s) s
  let kept (g : Segment) (w : Row) : Row := if w.durable then w else { w with
    sealedUnits := w.sealedUnits.filter fun u => w.finals.contains (memberOf g.width u w.row)
    parity := w.parity && ((List.range g.width).drop (dataOf g.width)).all fun u => w.finals.contains (memberOf g.width u w.row) || w.gaps.contains (memberOf g.width u w.row) }
  let s := s.modMedia fun m => { m with segs := m.segs.map fun g => { g with rows := g.rows.map (kept g) } }
  let s := s.modBlocks (·.copyOf.isSome) fun b => { b with copyOf := none, marker := .void, dirty := false, arrived := true, payload := 0 }
  let s := each lostZones (fun s (n, z) => s.lostZone n z) s
  let s := s.modKeys fun k => { k with refs := k.refs.map (KeyRef.durableHigh (staged.getD 8 [])) }
  s.modLuns fun l => l.map fun x => { x with work := none }

/-- A function after the loss of the host port's configuration: VF Enable is clear, so every instance is offline (R314, R327). Its bound counters
of R195 are kept (DESIGN CHOICE, log 60). -/
def Fn.cut (f : Fn) : Fn := { f with
  expert := f.expert && f.fn == 0
  state := if f.fn == 0 then .online else .offline
  resetCause := none, draining := false, queuedReset := none, retired := false
  resAdm := 0, burAdm := 0, resMed := [], burMed := []
  ctrl := f.ctrl.portReset, rings := [{}, {}], consents := []
  inFlr := false }

/-- Every switched domain is off, with the DRAMs: what only they held is lost, the advances of the age clocks since their last record among it
(R202). Flash, fuses and the always-on block are unchanged (R27, R28, R497). -/
def State.powerCut (s : State) : State :=
  let o := s.out
  let s := each (s.io.cmds.filter fun c => ! c.waiting.isEmpty) State.voidBlocks s
  let s := s.linksLost
  let n := s.evt.raised.length
  let s := s.loseVolatile
  let s := s.modEvt fun e => { e with later := e.later ++ e.raised.drop n, raised := [] }
  let s := s.cutMedia.modMedia fun m => { m with ages := m.ages.map fun (a : AgeClock) => { a with age := a.recorded } }
  let s := s.modMasts fun l => l.map fun m => match m.state with
    | .absent => m
    | .failed => { m with iv := [], slots := [], cache := {}, sealFaults := 0 }
    | .active | .furled | .restarting => { m with
        state := .furled, iv := [], slots := [], cache := {}, sealFaults := 0, restartFrame := none, fenced := false }
  let s := s.modPorts fun l => l.map fun p => { p with
    overrunNow := false, plan := [], run := [], carried := [], trained := false, draining := false }
  let s := s.modMems fun l => l.zipIdx.map fun (x, i) => if i == 27 then x else { retiredBanks := x.retiredBanks }
  let s := s.modNrg fun n => { n with
    samples := [], raws := [], lastTest := none, v := 0, eUse := 0, budget := 0, eNeed := 0, u := [], deficit := false, critical := false, test := none
    huLoad := false, released := none, firstDone := false }
  let s := s.modTherm fun t => { inputs := t.inputs.map fun _ => {}, warnFrames := t.warnFrames, critFrames := t.critFrames, lastSample := t.lastSample }
  let s := s.modIo fun h => { nextId := h.nextId, nextReq := h.nextReq, ports := h.ports.map fun p =>
    { perst := p.perst, link := if p.link == .l23 then .l23 else .noLink } }
  let s := (s.modFns fun l => l.map Fn.cut).modCtrl1 Ctrl.portReset
  let s := s.modMbx fun m => { boxes := m.boxes.map fun b => { via := b.via } }
  let s := s.modFix fun f => { f with jobs := [] }
  let s := (s.modPool fun _ => {}).modObj fun b => { b with heldDrive := none, heldMedia := none }
  let s := s.modPwr fun p => { p with
    furled := switched, off := dramDomains, entries := [], holdOff := [], watts := [], halvings := 0, coolFrames := 0, stopped := true
    pwrLatch := false, dumpFrame := none, dumpBegun := false, rounds := 0, poweringDown := false, prep := 0 }
  let s := s.modStart fun x => { x with vddqf := false, released := false }
  { s with out := o }

/-- Frames become dark: t0 is latched (R44). -/
def State.goDark (s : State) : State := s.modClk fun c => { c with dark := true, t0 := c.ticks }

/-! ## Dark time (R44, R199, R201) -/

/-- Values of the 25 inputs at the last powered reading. -/
def State.lastReadings (s : State) : List (Option Int) := (List.range 25).map s.inputValue
/-- Temperature of a stripe set in dark time: a LUN without an assigned input, with no `TD` input configured, takes the hottest mast
sensor's last reading raised by the crow's-nest allowance (R199). -/
def State.darkTemp (s : State) (temps : List (Option Int)) (w g l : Nat) : Int :=
  let noTd := ! (List.range 16).any fun i => s.ctlValue ctlInputMode i != 0
  let at_ (i : Nat) : Option Int := temps.getD i none
  let allowance : Int := 16 * (s.ctlValue ctlCrowAllowance : Nat)
  let ofLun (x : Nat) : Option Int :=
    let a := s.record.lunInputs.getD x 0xFF
    if a < 16 then at_ a
    else if a == 0x20 then at_ (16 + mastOfLun x)
    else if noTd then (maxInt (s.mastIds.filterMap fun m => at_ (16 + m))).map (· + allowance)
    else maxInt (((List.range 16).filter fun i => s.ctlValue ctlInputMode i != 0).filterMap at_)
  (maxInt ((s.setLuns w g l).filterMap ofLun)).getD (Config.noReading 0)
/-- Charge `ticks` of dark time at the hotter of two samples (R201), rounded up. -/
def State.chargeDark (s : State) (ticks : Nat) (a b : List (Option Int)) : State :=
  if ticks == 0 then s
  else (s.addAge fun w g l => ceilDiv (ticks * s.factorAt (max (s.darkTemp a w g l) (s.darkTemp b w g l))) 32768).refreshByAge

/-- Furl of `HCX`: the age clocks are recorded with the last powered readings, and frames become dark (R44, R201, R202). -/
def State.hcxOff (s : State) : State :=
  let temps := s.lastReadings
  let on := (List.range 16).filter fun i => s.ctlValue ctlInputMode i != 0 && ! (s.thermIn i).failed
  let s := s.modMedia fun m => { m with ages := m.ages.map fun (a : AgeClock) => { a with written := a.age, recorded := a.age } }
  (s.goDark).modPwr fun p => { p with sampleTick := s.clk.ticks, sampled := temps, watched := on }

/-! ## Start-up after the always-on block has kept running (R154, R473, R487, R498) -/

/-- The start-up sequence from stage 2. A deep reset tests failed masts and ports again, clears a device fault (R497, R499) and starts the
counts of the status page again (R535). -/
def State.restart (s : State) (deep wake : Bool) : State :=
  let s := s.modStart fun x => { x with
    stage := 2, retest := x.retest || deep, fromWake := wake, clean := x.clean && (wake || deep), failed := false, fault := x.fault && ! deep, nssrLatched := false
    deepWanted := false, deepDump := false, deepWaits := false, configReady := x.configReady && ! deep }
  let s := s.modPwr fun p => { p with dev := .starting, furled := startFurled, off := [], thermalDump := false }
  if ! deep then s
  else
    let s := s.modMasts fun l => l.map fun m => { m with state := (if m.state == .failed then .furled else m.state), cipherFaults := 0 }
    let s := s.modPorts fun l => l.map fun p => { p with
      overruns := 0, carriedEntries := 0, degradedEntries := 0
      fencedBefore := p.fencedBefore + p.fencedEntries, fencedEntries := 0 }
    let s := s.modPwr fun p => { p with refused := 0, aborted := 0 }
    s.modFn 0 fun f => { f with expert := false }
/-- The limit on the time to ready (R487). -/
def State.startLimit (s : State) : Nat := if s.start.fromWake || s.start.clean then 125000 else 1250000
/-- A deep reset during a start-up (R490, R500): it begins again at stage 2. -/
def State.startAgain (s : State) : State := (s.hcxOff.powerCut).restart true false

/-- A wake source ends crow's-nest mode, or the powered-down state for sources 3, 4, 5 and 9 (R457, R468, R469, R473, R474). -/
def State.wake (s : State) (source : Nat) : State :=
  let host := source == 3 || source == 4 || source == 5 || source == 9
  if s.pwr.dev == .crowsNest || (s.pwr.dev == .poweredDown && host) then
    let s := s.restart false true
    let s := s.modPwr fun p => { p with
      lastWake := source, armed := if host then none else p.armed, wokenBy := if host then none else some source }
    s.modEvt fun e => { e with later := e.later ++ [{ frame := 0, source := 607, code := source, severity := 0 }] }
  else s

/-- FRAME_PLL_RELOCK (R44): the frame PLL locks again when `HCX` is powered. The first frame's number counts the dark frames, the
archive clock has run on, and the rest of the dark time is charged at the last sample (R201); the powered frames since the last
advance of the age clocks count towards the next. Records of the wake are raised. -/
def execFramePllRelock (aonTicks : Nat) (s : State) : Res :=
  .next <|
    if ! s.clk.dark || s.pwr.dev != .starting then s
    else
      let t1 := max aonTicks s.clk.ticks
      let s := s.chargeDark (t1 - s.pwr.sampleTick) s.pwr.sampled s.pwr.sampled
      let last := s.clk.frame
      let s := s.modClk fun c => { c.tick (t1 - c.ticks) with frame := firstFrame c.frame c.t0 t1, dark := false }
      let f := s.clk.frame
      let s := s.modStart fun x => { x with begin := f }
      let s := s.modMedia fun m => { m with ageFrame := f - (last - m.ageFrame) }
      s.modEvt fun e => { e with raised := e.raised ++ e.later.map fun r => { r with frame := f, held := true }, later := [] }

/-! ## Wake sources (R468) -/

/-- Whether the windows of a quantity are left: input, bank and VIN (R472). -/
def State.excursions (s : State) (vin bank : Nat) (temps : List (Option Int)) : List Nat :=
  let kelvin (v : Nat) : Int := 16 * ((v : Int) - 273)
  let td := (List.range 16).filter fun i =>
    s.pwr.watched.contains i && match (temps.getD i none : Option Int) with
      | some t => decide (t < kelvin (s.ctlValue ctlTempLow)) || decide (kelvin (s.ctlValue ctlTempHigh) < t)
      | none => false
  td ++ (if bankRaw s.record bank < s.record.vMin + s.ctlValue ctlBankMargin then [16] else []) ++
    (if vin < s.ctlValue ctlVinLow || decide (s.ctlValue ctlVinHigh < vin) then [17] else [])

/-- Readings of the 25 inputs at an always-on sample (R199, R472, R476): those it takes; for a `TD` input that is off or was failed at entry the
highest new reading of its neighbours, or of all inputs sampled; for a die sensor the last before entry. -/
def State.darkReadings (s : State) (temps : List Int) : List (Option Int) :=
  let took := s.pwr.sampled.zipIdx.map fun (x, i) => if s.pwr.watched.contains i then (match temps[i]? with
    | some t => s.reading i t
    | none => x) else x
  let of (l : List Nat) : Option Int := maxInt ((l.filter s.pwr.watched.contains).filterMap fun i => took.getD i none)
  took.zipIdx.map fun (x, i) =>
    if 16 ≤ i || s.pwr.watched.contains i then x
    else match of (s.neighbours i), of (List.range 16) with
      | some t, _ => some t
      | none, some t => some t
      | none, none => x
/-- SAMPLER_WAKE (R201, R472, R474): one always-on sample, a sampling interval of ticks after the last. The interval since the last one is charged at the hotter of the two; an
excursion wakes the device, unless its window caused the last wake and the quantity has not been back inside. -/
def execSamplerWake (vin bank : Nat) (temps : List Int) (s : State) : Res :=
  .next <|
    if s.pwr.dev != .crowsNest then s
    else
      let old := s.pwr.sampled
      let due := s.pwr.sampleTick + 32768 * s.pwr.armed.getD 0
      let s := s.modClk fun c => c.tick (due - c.ticks)
      let now := s.darkReadings temps
      let s := s.chargeDark (s.clk.ticks - s.pwr.sampleTick) old now
      let s := s.modPwr fun p => { p with sampleTick := s.clk.ticks, sampled := now }
      let ex := s.excursions vin bank now
      let fresh := ex.filter fun w => ! s.pwr.excluded.contains w
      let s := s.modPwr fun p => { p with excluded := p.excluded.filter ex.contains }
      if fresh.isEmpty then s
      else (s.wake 1).modPwr fun p => { p with excluded := dedupN (p.excluded ++ fresh) }

/-- PATROL_BATCH_DUE (R206): a batch of 1/1024 of the lap's slices, rounded up, falls due in crow's-nest mode, at its place in the time that is left
of the crow's-nest lap target; a sample that falls due first comes first. -/
def execPatrolBatchDue (s : State) : Res :=
  .next <|
    let due := s.media.patrol.batchTick
    let sampleFirst := match s.pwr.armed with
      | some k => decide (s.pwr.sampleTick + 32768 * k < due)
      | none => false
    if s.pwr.dev != .crowsNest || ! s.media.patrol.running || sampleFirst then s
    else
      let s := s.modClk fun c => c.tick (due - c.ticks)
      let s := s.modMedia fun m => { m with patrol := { m.patrol with
        batch := ceilDiv m.patrol.total 1024
        issued := min m.patrol.total (m.patrol.done + ceilDiv m.patrol.total 1024) } }
      s.wake 2

/-- WAKE_PIN (R526): `WAKE#` sensed low; the device ignores its own drive. -/
def execWakePin (s : State) : Res := .next (if s.pwr.wakeDriven then s else s.wake 3)
/-- HOST_RECEIVER_BEACON (R468). -/
def execHostReceiverBeacon (port : Nat) (s : State) : Res := whenUnit (decide (port < 2)) <| .next (s.wake 4)

/-- WAKE_PATTERN_RECEIVED (R347, R357, R359): in crow's-nest mode an enabled port wakes the device, which trains it from Down; a
working device trains a port that is Down. -/
def execWakePatternReceived (port : Nat) (s : State) : Res :=
  whenUnit (decide (port < 3)) <| .next <|
    if s.ctlValue ctlHalWake port == 0 || ! s.portEnabled port then s
    else if s.pwr.dev == .crowsNest then
      ((s.wake (6 + port)).modHport port fun p => { p with wokenAt := some s.clk.frame }).modEvt fun e => { e with
        later := e.later ++ [{ frame := 0, source := halSrc port 7, code := 1, severity := 0 }] }
    else if s.ready && (s.hport port).state == .down && s.portRuns port then s.train port
    else s

/-- AON32K_STOPPED (R64, R468): the archive clock becomes unset; in crow's-nest mode the device wakes. -/
def execAon32kStopped (s : State) : Res :=
  .next <|
    if ! s.clk.aonRuns then s
    else
      let crow := s.pwr.dev == .crowsNest
      let s := s.modClk fun c => { c with aonRuns := false, isSet := false, secs := 0, frac := 0 }
      if crow then (s.wake 10).modEvt fun e => { e with
        later := { frame := 0, source := 604, code := 1, severity := 2 } :: e.later }
      else s.raise 604 1 2 []

/-! ## Loss and return of power -/

/-- LOW_VIN (R517): VIN below 1.66 V for 1 µs is latched as a `PWRFAIL#` sampled low. -/
def execLowVin (ns : Nat) (s : State) : Res :=
  .next (if ns < 1000 || s.pwr.dev == .unpowered then s else s.modPwr fun p => { p with pwrLatch := true })

/-- PWRFAIL (R521): a low of 200 ns or more is latched, one below 50 ns is rejected; between the two a free value decides. -/
def execPwrfail (lowNs : Nat) (s : State) : Res :=
  .next <|
    if lowNs < 50 || s.pwr.dev == .unpowered then s
    else if lowNs < 200 then
      (s.modPwr fun p => { p with pwrLatch := p.pwrLatch || Config.freeNat s.fresh % 2 == 1 }).bump
    else s.modPwr fun p => { p with pwrLatch := true }

/-- BROWN_OUT (R517): VIN below 1.55 V for 2 µs stops the always-on block; nothing but flash and fuses remains (R457). -/
def execBrownOut (ns : Nat) (s : State) : Res :=
  .next <|
    if ns < 2000 || s.pwr.dev == .unpowered then s
    else (s.powerCut.modClk fun c => { c with dark := true }).modPwr fun p => { p with dev := .unpowered }

/-- VDDQF level that the VQSEL resistance selects (R518), in mV; none where it is undefined. -/
def vqselLevel (ohms : Nat) : Option Nat :=
  if ohms ≤ 100 then some 600
  else if 9900 ≤ ohms ∧ ohms ≤ 10100 then some 900
  else if 1000000 < ohms then some 1200
  else none

/-- Frames counted in an earlier power-on: intervals that began in one start again with the new one, ends keep what was left, and
counts back in frames take frame 0 (R62, R352, R430). -/
def State.rebase (s : State) : State :=
  let old := s.clk.frame
  let s := s.modHal fun h => { h with
    quarantine := h.quarantine.map fun (d, e) => (d, e - old)
    ports := h.ports.map fun p => { p with spurious := p.spurious.map fun _ => 0, wokenAt := none }
    partners := h.partners.map fun p => { p with exits := p.exits.map (fun _ => 0), downSince := 0 } }
  let s := s.modPeer fun p => { p with
    jobs := p.jobs.map fun j => { j with suspendedAt := j.suspendedAt.map (fun _ => 0), offeredAt := 0, changed := 0 }
    mirrors := p.mirrors.map fun m => { m with brokenAt := 0 } }
  let s := s.modEvt fun e => { e with losses := e.losses.map fun (n, _, k) => (n, 0, k) }
  let s := s.modNss fun l => l.map fun n => { n with zones := n.zones.map fun z => { z with lastFrame := 0 } }
  s.modMedia fun m => { m with ageFrame := 0, patrol := { m.patrol with lapStart := 0, base := 0, baseIssued := m.patrol.issued } }

/-- AON_POWER_ON_RESET (R43, R457, R459, R486, R497, R530): VIN has risen through the power-on threshold. Only flash and fuses are
unchanged; the burnt fuses come into effect, frame 0 begins, and so does stage 1. -/
def execAonPowerOnReset (vqselOhms : Nat) (s : State) : Res :=
  .next <|
    let s := s.powerCut.rebase
    let f := s.fuses
    let s := s.modFuses fun x => { x with makerKeyEff := f.makerKey, dual := f.hostPort, lockEff := f.lock }
    let s := s.modJtag fun _ => {}
    let s := s.modClk fun c => { poc := c.poc, ref100 := c.ref100, lastKnown := c.lastKnown, gapCharge := c.gapCharge }
    let s := s.modStart fun x => { clean := x.clean, sanitize := x.sanitize, sanitized := x.sanitized, vqsel := (vqselLevel vqselOhms).getD (Config.freeNat s.fresh) }
    let s := (s.modPwr fun _ => { furled := startFurled }).bump
    let s := s.modMasts fun l => l.map fun m =>
      if m.state == .absent then { state := .absent } else { state := .furled, rescue := m.rescue, rescueRetired := m.rescueRetired }
    let s := s.modPorts fun l => l.map fun p => { state := if p.state == .failed then .failed else .normal }
    let s := s.modNrg fun n => { recorded := n.recorded }
    let s := s.modMems fun l => l.map fun _ => {}
    let s := s.modKeys fun k => { k with requests := 0, reseeds := k.reseeds + 1 }
    let s := (s.modSide fun _ => {}).modFn 0 fun x => { x with expert := false, pmeEn := false }
    let s := s.modFns fun l => l.map fun x => { x with counters := {} }
    s.modEvt fun e => { e with later := [], raised := e.later.map fun r => { r with frame := 0, held := true } }

/-- REF100_LOSS (R45): every PLL that takes it runs on the internal oscillator, and each Halyard link that is not Down goes Down. -/
def execRef100Loss (s : State) : Res :=
  .next <|
    if ! s.clk.ref100 then s
    else
      let s := s.modClk fun c => { c with ref100 := false }
      if s.clk.dark then s
      else each [0, 1, 2] (fun s i => s.goDown i) ((s.modClk fun c => { c with internalOsc := true }).raise 480 1 1 [])
/-- REF100_RETURN (R45): every PLL is switched back together. -/
def execRef100Return (s : State) : Res :=
  .next <|
    if s.clk.ref100 then s
    else
      let s := s.modClk fun c => { c with ref100 := true }
      if ! s.clk.internalOsc then s
      else (s.modClk fun c => { c with internalOsc := false }).raise 480 2 0 []

end Sys2Proof.Machine
end

