-- ==== Sys2Proof/Machine/Dump.lean ====
section
/-! DEFINITION. The dump (R120, R144, R148, R152 to R155, R477, R498 to R500): its beginning, its rounds, its end in the dumped state, and
the restarts that follow. -/

namespace Sys2Proof.Machine

/-- A dump begins, with `f` as the frame F of R152. -/
def State.dumpFrom (s : State) (f : Nat) : State :=
  s.modPwr fun p => { p with dev := .dumping, dumpFrame := some f, dumpBegun := false, rounds := 0, stopped := true }
/-- A dump begins: frame F is the present one. -/
def State.startDump (s : State) : State := s.dumpFrom s.clk.frame

/-- The dumped state: every domain except `AON` is off (R152, R457). A deep reset, and one latched in the dump of a device fault,
begins stage 2 at once (R498, R499), unless `PWRFAIL#` was sampled low in its dump (R500). A stop under R531 lasts until a power cycle. -/
def State.enterDumped (s : State) : State :=
  let deep := ! s.start.untilPowerCycle && ((s.start.deepDump && ! s.start.deepWaits && ! s.pwr.pwrLatch) || s.start.nssrLatched)
  let thermal := s.pwr.thermalDump
  let s := s.hcxOff.powerCut
  let s := s.modPwr fun p => { p with dev := .dumped, thermalDumps := p.thermalDumps + (if thermal then 1 else 0) }
  if deep then s.restart true false else s

/-- `PWRFAIL#` sampled low during start-up (R490): every domain except `AON` is furled, and nothing is dumped. -/
def State.stopStart (s : State) : State := (s.hcxOff.powerCut).modPwr fun p => { p with dev := .dumped, thermalDump := false }

/-- Steps 1 and 2 of a frame in which the latch reads low, or in which an NSSR write was decoded (R49, R490, R498, R500, R521): the low
arrived in the frame before, which is frame F of R152; a deep reset sends its Departures and takes this frame as F. The latch clears when it
has been read. -/
def State.latchPower (s : State) : State :=
  let low := s.pwr.pwrLatch
  let deep := s.start.deepWanted
  let s := (s.modPwr fun p => { p with pwrLatch := false }).modStart fun x => { x with deepWanted := false }
  match s.pwr.dev with
  | .starting => if deep then s.startAgain else if low then s.stopStart else s
  | .dumping => s.modStart fun x => { x with
      nssrLatched := x.nssrLatched || (deep && x.fault), deepWaits := x.deepWaits || (low && x.deepDump) }
  | .working =>
    if deep then (s.departures 4).modStart fun x => { x with deepDump := true, deepWaits := low }
    else if low then (s.modPwr fun p => { p with thermalDump := false }).dumpFrom (s.clk.frame - 1)
    else s
  | .crowsNest | .poweredDown | .dumped | .unpowered => s

/-- A write that a power failure keeps (R120, R152): admitted, and its data wholly in DRAM. -/
def Cmd.keptWrite (c : Cmd) : Bool := c.range.isSome && c.waiting.isEmpty && c.phase != .held && c.phase != .squashed && ! isRead c.op
/-- Post a command's entry in frame F+1: success for a kept write, its own status if it has one, else Commands Aborted due to Power
Loss Notification. A paused function posts nothing (R406). -/
def State.postAtDump (s : State) (c : Cmd) : State :=
  if s.paused c.fn c.port1 || c.phase == .squashed then s.dropCmd c
  else
    let st : NvmeStatus := if ! c.keptWrite then stPowerLoss else if c.phase == .running then stOk else ⟨c.sct, c.sc, c.dnr⟩
    s.post { c with sct := st.sct, sc := st.sc, dnr := st.dnr }
/-- Outstanding Asynchronous Event Requests are outstanding commands. -/
def State.abortAers (s : State) (f : Nat) (port1 : Bool) : State :=
  let l := (s.ctrl f port1).aer
  let s := s.modCtrl f port1 fun c => { c with aer := [] }
  each l (fun s cid => s.postEntry f port1 { sq := 0, cid := cid, sct := stPowerLoss.sct, sc := stPowerLoss.sc, dnr := false }) s

/-- What the device does in frame F+1 of a dump (R148, R152): writes not wholly in DRAM become void, completions go out, mailbox
commands and fixity jobs end, passes run on, erases stop, and unsealed kept blocks are sealed. After a device fault only the masts
act (R499). -/
def State.dumpActions (s : State) : State :=
  let code := if s.start.deepDump then 0x0803 else 0x0804
  let s := s.modPwr fun p => { p with dumpBegun := true, entries := [], holdOff := [] }
  let tests := s.waitingBoxes isSelfTest
  let s := s.modNrg fun n => { n with huLoad := false, test := none, released := none }
  let s := each (s.io.cmds.filter fun c => ! c.waiting.isEmpty) State.voidBlocks s
  let s := if s.start.fault then s else
    let s := each tests (fun s v => s.respond v (errR 0x0804)) s
    let s := each (s.mbx.boxes.filter fun b => b.cmd.isSome && ! b.waiting) (fun s b => s.respond b.via (errR code)) s
    let s := s.abortJobs (fun _ => true) code
    let s := each s.io.cmds State.postAtDump s
    let s := each ((s.fns.map fun f => (f.fn, false)) ++ [(0, true)]) (fun s (f, p) => s.abortAers f p) s
    let s := if s.start.deepDump then s else s.departures 3
    s.sealHeld (·.dirty)
  let s := s.modIo fun h => { h with cmds := [], submitted := [], reqs := [] }
  s.modLuns fun l => l.map fun x => { x with work := x.work.bind fun w => match w.kind with
    | .coarsePass | .finePass | .pslcProgram => if w.cmd then none else some { w with suspended := false, dataLeft := 0 }
    | .read | .pslcRead | .erase | .reset | .feature => none }

/-- Frame F+2 (R152): `HPHY` and the Halyard domains are furled. -/
def State.dumpFurl (s : State) : State :=
  let s := s.linksLost
  let s := s.modPwr fun p => { p with furled := dedupN (p.furled ++ [72, 75, 76, 77]) }
  s.modIo fun h => { h with ports := h.ports.map fun p => { p with link := .noLink, rate := 0, width := 0 } }

/-- Steps 1 and 2 of a frame of a dump (R49, R152). -/
def State.dumpFrameStep (s : State) : State :=
  match s.pwr.dev, s.pwr.dumpFrame with
  | .dumping, some f =>
    if s.pwr.dumpBegun then (if s.clk.frame == f + 2 then s.dumpFurl else s)
    else if f < s.clk.frame then s.dumpActions else s
  | _, _ => s

/-! ## Rounds (R144, R152, R153) -/

/-- Make the oldest staged records of a journal durable, as many as fit in `blocks` blocks of 4,160 bytes. -/
def State.flushJournal (s : State) (j blocks : Nat) : State :=
  let (keep, rest, _) := (s.journal j).staged.foldl (fun (acc : List JRec × List JRec × Nat) r =>
    let (keep, rest, used) := acc
    let n := used + s.recordSize r
    if rest.isEmpty && decide (n ≤ 4160 * blocks) then (keep ++ [r], rest, n) else (keep, rest ++ [r], used)) ([], [], 0)
  let s := s.modJournal j fun x => { x with staged := rest }
  each keep State.recordDurable s
/-- Blocks that a mast still has to dump, in admission order (R153): its dirty sealed ones without a rescue record of this dump. -/
def State.undumped (s : State) (m : Nat) : List Stored :=
  if (s.mast m).state != .active then []
  else sortBy (fun a b => decide (a.order ≤ b.order)) (s.media.blocks.filter fun b =>
    b.mast == m && b.dirty && b.sealed && b.place != .parked && b.place != .flash)
/-- Kept blocks that wait to be sealed. -/
def State.unsealedKept (s : State) : Bool :=
  ! s.start.fault && s.media.blocks.any fun b =>
    b.dirty && b.marker == .data && b.arrived && ! b.sealed && ! b.imported && (s.mast b.mast).state == .active
/-- A LUN can be added to those of a round: every budget of every width holds (R90, R91, R144). -/
def State.roundAllows (s : State) (l : List Nat) (x : Nat) : Bool :=
  (widthsOf s.variant).all fun w =>
    let (g, n) := lunSet s.mastN w x
    ! s.complete w g n || decide (countIf (fun y => l.contains y || s.nonSuspendable y) (s.setLuns w g n) + 1 ≤ max 1 (s.effBudget w g n))
/-- The LUNs on which a round's programs run (R144): u[m] of each mast, on idle LUNs in use whose ports are not out, taken in ascending local LUN number
and then port. -/
def State.roundLuns (s : State) : List Nat :=
  let order := (List.range 32).flatMap fun n => (List.range s.portN).map fun p => glunOf p n
  order.foldl (fun l x =>
    let m := mastOfLun x
    if s.lunUsed x && ! s.portOut x && (s.lun x).work.isNone && decide (countIf (fun y => mastOfLun y == m) l < s.nrg.u.getD m 0) && s.roundAllows l x
    then l ++ [x] else l) []
/-- One mast's share of a round: its journal staging first, then blocks, in programs of 16 blocks on its LUNs of the round (R144, R153). The first
round opens the run on each LUN (R261). -/
def State.dumpMast (s : State) (luns : List Nat) (m : Nat) : State :=
  let mine := luns.filter fun x => mastOfLun x == m
  let room := 16 * mine.length
  let stage := s.stagingBlocks m
  let s := s.flushJournal m room
  let take := (s.undumped m).take (room - stage)
  let s := s.rescueRun mine (s.clk.poc, s.pwr.dumpFrame.getD 0) (s.pwr.rounds == 0) take
  s.modBlocks (fun c => take.any c.same) fun c => { c with place := .parked }
/-- The frame in which the next round may begin. -/
def State.roundAt (s : State) : Nat := s.pwr.dumpFrame.getD 0 + 2 + s.pwr.rounds * roundLen s.profile

/-- DUMP_ROUND (R152, R153): one round of `round_len` frames, from frame F+2 on. -/
def execDumpRound (s : State) : Res :=
  .next <|
    if s.pwr.dev != .dumping || ! s.pwr.dumpBegun || decide (s.clk.frame < s.roundAt) then s
    else
      let s := if s.start.fault then s else s.sealHeld (·.dirty)
      let s := s.flushJournal 8 (16 * sumOf id s.nrg.u)
      let luns := if s.mastIds.any fun m => ! (s.undumped m).isEmpty || ! (s.journal m).staged.isEmpty then s.roundLuns else []
      let s := each s.mastIds (fun s m => s.dumpMast luns m) s
      s.modPwr fun p => { p with rounds := p.rounds + 1 }

/-- A program pass of the dump is still running. -/
def State.passRuns (s : State) : Bool := s.luns.any fun l => l.work.isSome
/-- FINAL_ROUND (R152, R153): once every pass has ended and nothing is left to dump, each mast programs its rescue index with the
pass-complete records of the passes that ended in the dump, on two LUNs of different ports, and the device is dumped. -/
def execFinalRound (s : State) : Res :=
  .next <|
    let left := s.mastIds.any fun m => ! (s.undumped m).isEmpty && decide (0 < s.nrg.u.getD m 0) && s.roundLuns.any fun x => mastOfLun x == m
    if s.pwr.dev != .dumping || ! s.pwr.dumpBegun || decide (s.clk.frame < s.roundAt) || s.passRuns || left || s.unsealedKept then s
    else
      let all (s : State) (j : Nat) : State := s.flushJournal j (sumOf s.recordSize (s.journal j).staged)
      let act := s.mastIds.filter fun m => (s.mast m).state == .active
      let s := each act (fun s m => (s.log m (.rescueIndex m)).journalPage m) s
      let s := each (act ++ [8]) all s
      s.enterDumped

/-! ## Thermal dumps and restarts (R154, R477) -/

/-- THERMAL_COMPARATOR (R477): a mast's or the host complex's comparator acts, having seen 125 °C in two consecutive samples. The
device performs a thermal dump with this frame as F; during start-up there is nothing to dump. -/
def execThermalComparator (input : Nat) (s : State) : Res :=
  whenUnit (decide (16 ≤ input) && decide (input ≤ 24)) <| .next <|
    if s.clk.dark || ! s.inputOn input then s
    else match s.pwr.dev with
      | .working => (s.modPwr fun p => { p with thermalDump := true }).startDump
      | .starting => (s.stopStart).modPwr fun p => { p with thermalDump := true, thermalDumps := p.thermalDumps + 1 }
      | .dumping => if s.start.deepDump || s.start.fault then s else s.modPwr fun p => { p with thermalDump := true }
      | .dumped | .crowsNest | .poweredDown | .unpowered => s

/-- The end of frame D of a deep reset: the dump goes on from it (R498). -/
def State.deepBegins (s : State) : State := if s.start.deepDump && s.ready then s.startDump else s
/-- DUMP_RESTART (R154, R500): VIN and `PWRFAIL#` have been good for 1 s in the dumped state. A device fault stays (R499), and a thermal
dump restarts under R477. -/
def execDumpRestart (s : State) : Res :=
  .next (if s.pwr.dev == .dumped && ! s.start.fault && ! s.pwr.thermalDump then s.restart s.start.deepDump false else s)
/-- THERMAL_DUMP_RESTART (R477): 3,750,000 dark frames after a thermal dump, unless it was the third in this power-on. -/
def execThermalDumpRestart (s : State) : Res :=
  .next (if s.pwr.dev == .dumped && ! s.start.fault && s.pwr.thermalDump && decide (s.pwr.thermalDumps < 3) then s.restart false false
    else s)

/-- VDDQF_LOW (R519): below 90 % of its level for 16 consecutive frames is a device fault. -/
def execVddqfLow (s : State) : Res := .next (if s.start.vddqf then s.deviceFault else s)

/-- NVM_SUBSYSTEM_RESET (R497 to R500): the always-on block decodes 0x4E56_4D65 on function 0. In a dump it is ignored, except that
of a device fault, where it is latched; in the dumped state the link is down. -/
def execNvmSubsystemReset (fn : Nat) (value : Word) (s : State) : Res :=
  whenUnit (decide (fn ≤ 128)) <| .next <|
    if fn != 0 || value != 0x4E564D65 then s
    else match s.pwr.dev with
      | .working | .starting => s.modStart fun x => { x with deepWanted := true }
      | .dumping => if s.start.fault then s.modStart fun x => { x with nssrLatched := true } else s
      | .dumped | .crowsNest | .poweredDown | .unpowered => s

end Sys2Proof.Machine
end

