-- ==== Sys2Proof/Machine/Power.lean ====
section
/-! DEFINITION. Furls, the entry handshake, wakes of domains, crow's-nest mode, power-down, clean shutdown and the power correction
(R27 to R30, R165, R458 to R474). -/

namespace Sys2Proof.Machine

/-! ## Domains (R27, R419) -/

/-- A domain of a mast that the variant lacks. -/
def State.domainAbsent (s : State) (d : Nat) : Bool := decide (d < 72) && decide (s.mastN ≤ d / 9)
/-- A domain is off. -/
def State.domainOff (s : State) (d : Nat) : Bool := s.domainAbsent d || s.pwr.furled.contains d
/-- The domain that a domain requires; 80 is `AON`. -/
def requires (d : Nat) : Nat :=
  if d < 72 then
    let b := 9 * (d / 9)
    if d == b then 73 else if d < b + 2 then b else if d < b + 6 then b + 1 else b
  else if d == 73 || d == 78 || d == 79 then 80 else 73
/-- Domains that require a domain. -/
def requirers (d : Nat) : List Nat := switched.filter fun x => requires x == d
/-- A domain and those it requires, the required ones first. -/
def wakeChain (d : Nat) : List Nat :=
  let a := requires d
  let b := requires a
  let c := requires b
  dedupN ([c, b, a, d].filter (· < 80))
/-- Domains that an entry asks (R463). -/
def State.entryDomains (s : State) : EntryKind → List Nat
  | .mast m => mastDomains m
  | .port p => [9 * (p / 4) + 2 + p % 4]
  | .halyard p => [75 + p]
  | .hostLink _ => [72]
  | .crowsNest | .powerDown => switched.filter fun d => ! s.domainAbsent d
def EntryKind.whole : EntryKind → Bool
  | .crowsNest | .powerDown => true
  | .mast _ | .port _ | .halyard _ | .hostLink _ => false

/-! ## Answers (R465) -/

inductive Answer where
  | agree | delay | refuse
  deriving DecidableEq, Repr

/-- Die work or a bus entry of a flash port has not ended. -/
def State.portBusy (s : State) (p : Nat) : Bool :=
  ! (s.port p).carried.isEmpty || s.luns.any fun l => portOfLun l.glun == p && l.work.isSome
/-- The mast holds a unit before its final pass without a durable rescue record, or staging that is not durable. -/
def State.mastHolds (s : State) (m : Nat) : Bool :=
  ! (s.journal m).staged.isEmpty || s.media.blocks.any fun b => b.mast == m && b.dirty && b.place != .waiting
/-- The mast is home to a zone of a function whose contract is of class A or B. -/
def State.homeOfClass (s : State) (m : Nat) : Bool :=
  s.nss.any fun n => (n.attached.any fun f => (s.fn f).contract.cls != .c) && n.zones.any fun z => z.homed && z.home == m
/-- A migration job Running or Offered, or a mirror relationship, uses a Halyard port. -/
def State.peerUses (s : State) (p : Nat) : Bool :=
  let onPort (fp : Digest) : Bool := (s.hport p).neighbour == some fp || s.hal.labels.any fun l => l.partner == fp && l.inPort == p
  s.peer.jobs.any (fun j => (j.state == .running || j.state == .offered) && onPort j.partner) ||
    s.peer.mirrors.any fun m => ! m.broken && ! m.ended && onPort m.other
/-- A migration job is Running or Offered: the Halyard domains are not furled (R376). -/
def State.jobActive (s : State) : Bool := s.peer.jobs.any fun j => j.state == .running || j.state == .offered
/-- Host ports that exist (R387). -/
def State.hostPorts (s : State) : List Nat := if s.dual then [0, 1] else [0]
/-- A domain's answer in the frame (R465). `HCX` delays for every other domain but `MGT`. -/
def State.domainAnswer (s : State) (whole : Bool) (d : Nat) : Answer :=
  if d < 72 then
    let m := d / 9
    let k := d % 9
    let ports := (List.range 4).map (4 * m + ·)
    if k == 0 then
      if s.homeOfClass m then .refuse
      else if (s.mast m).cache.lines.any (·.dirty) || ! (s.mast m).cache.evict.isEmpty then .delay else .agree
    else if k == 1 then (if ports.any fun p => ! ((s.port p).run ++ (s.port p).plan).isEmpty then .delay else .agree)
    else if k < 6 then (if s.portBusy (4 * m + (k - 2)) then .delay else .agree)
    else if k == 6 then
      if s.io.cmds.any fun c => c.blocks.any fun b => b.phase == 0 && mastOfLun b.glun == m && c.phase != .held then .delay else .agree
    else if k == 7 then (if (s.nextUnit m).isSome && (s.mast m).state == .active then .delay else .agree)
    else if s.mastHolds m then .refuse else .agree
  else if d == 72 then
    if s.hostPorts.any fun p => (s.hostPort p).link == .l0 || (s.hostPort p).link == .l0p || (s.hostPort p).link == .l1 then .refuse
    else if s.io.reqs.any (·.retiredUntil.isNone) then .delay else .agree
  else if d == 73 then (if switched.any fun x => x != 73 && x != 78 && ! s.domainOff x then .delay else .agree)
  else if d == 74 then
    if s.media.blocks.any fun b => b.place == .openRow && b.marker == .data && b.dirty then .refuse
    else if s.poolBusy || ! (s.journal 8).staged.isEmpty then .delay else .agree
  else if d < 78 then
    let p := s.hport (d - 75)
    if s.jobActive || s.peerUses (d - 75) then .refuse
    else if p.state != .down && ! (p.txq.isEmpty && p.wait.isEmpty) then .delay else .agree
  else if d == 78 then (if s.mbx.boxes.any fun b => b.cmd.isSome && (b.waiting || b.busy) then .delay else .agree)
  else if whole then .agree else .refuse

/-! ## Entries (R463 to R467, R469) -/

/-- Every host port is in L2/L3 Ready, has `PERST#` asserted, or has no link (R469). -/
def State.hostQuiet (s : State) : Bool :=
  s.hostPorts.all fun p => (s.hostPort p).link == .l23 || (s.hostPort p).link == .noLink || (s.hostPort p).perst
/-- What refuses arming, or holds a crow's-nest entry back (R469): the detail of 0x0202. -/
def State.crowBarred (s : State) : Option Nat :=
  if ! s.clk.aonRuns then some 0x24 else if ! s.clk.isSet then some 0x25 else if s.nrg.deficit then some 0x26 else none
/-- The re-entry conditions after a wake (R474). -/
def State.mayReenter (s : State) : Bool :=
  match s.pwr.wokenBy with
  | none => true
  | some src =>
    decide (s.pwr.readyFrame + s.ctlValue ctlReentry * 62500 ≤ s.clk.frame) &&
    (if src == 2 then s.media.patrol.batch == 0
     else if src == 6 || src == 7 || src == 8 then (s.hport (src - 6)).wokenAt.isNone && ! s.peerUses (src - 6)
     else if src == 10 then s.clk.aonRuns && s.clk.isSet
     else true)
/-- Conditions of a mast furl (R464), the mast idle delay among them. -/
def State.mastFurlable (s : State) (m : Nat) : Bool :=
  s.ctlValue ctlMastFurl == 1 && ! s.fns.any (fun f => f.contract.cls != .c) && (s.mast m).state == .active &&
  ! (s.mastIds.any fun k => k != m && (s.mast k).state == .furled) &&
  ! (s.pwr.entries.any fun e => match e.kind with
    | .mast k => k != m
    | _ => false) &&
  ! s.mastHolds m && decide ((s.mast m).lastWork + s.ctlValue ctlMastIdle ≤ s.clk.frame)
/-- The cause of an entry stands (R463). -/
def State.causeStands (s : State) : EntryKind → Bool
  | .mast m => s.mastFurlable m
  | .port p => decide (p < s.portN) && ((s.port p).state == .failed || ! (List.range 32).any fun l => populated s.record l)
  | .halyard p => decide (p < 3) && ! s.portEnabled p
  | .hostLink p => s.hostPorts.contains p && ((s.hostPort p).link == .l23 || (s.hostPort p).perst)
  | .crowsNest => s.pwr.armed.isSome && s.hostQuiet && s.crowBarred.isNone && s.mayReenter
  | .powerDown => s.pwr.poweringDown && s.pwr.prep == 4
/-- Begin the steps of R165: admission stops, and commands that are held end (R470). -/
def State.beginPrep (s : State) : State :=
  let s := s.modPwr fun p => { p with stopped := true, prep := 1 }
  each (s.io.cmds.filter fun c => c.phase == .held) (fun s c => s.conclude c.id stAborted) s
/-- Start an entry whose cause stands; one of the same kind under way goes on (R463). -/
def State.startEntry (s : State) (k : EntryKind) : State :=
  let off := (s.entryDomains k).all s.domainOff
  if ! s.ready || ! s.causeStands k || off || (s.pwr.entries.any fun e => e.kind == k) then s
  else
    let s := s.modPwr fun p => { p with
      entries := p.entries ++ [{ kind := k, prepared := k != .crowsNest }], holdOff := p.holdOff.filter fun (x, _) => x != k }
    if k == .crowsNest then s.beginPrep else s

/-- MAST_FURL (R464). -/
def execMastFurl (mast : Nat) (s : State) : Res := whenUnit (decide (mast < 8)) <| .next (s.startEntry (.mast mast))
/-- PORT_FURL (R463): the port is failed, or has no populated chip enable. -/
def execPortFurl (port : Nat) (s : State) : Res := whenUnit (decide (port < 32)) <| .next (s.startEntry (.port port))
/-- HALYARD_FURL (R463): the port is disabled. -/
def execHalyardFurl (port : Nat) (s : State) : Res := whenUnit (decide (port < 3)) <| .next (s.startEntry (.halyard port))
/-- HOST_LINK_FURL (R463): the link is in L2/L3 Ready, or `PERST#` is asserted. -/
def execHostLinkFurl (port : Nat) (s : State) : Res := whenUnit (decide (port < 2)) <| .next (s.startEntry (.hostLink port))
/-- CROWS_NEST_ENTRY (R469, R470). -/
def execCrowsNestEntry (s : State) : Res := .next (s.startEntry .crowsNest)
/-- POWER_DOWN_ENTRY (R471): at shutdown complete of a Power Down command. -/
def execPowerDownEntry (s : State) : Res := .next (s.startEntry .powerDown)
/-- REENTRY_DELAY (R474): the delay has passed since ready, and every cause of the wake has ended. -/
def execReentryDelay (s : State) : Res := .next (if s.pwr.wokenBy.isSome then s.startEntry .crowsNest else s)

/-- An entry ends without its furl (R467): the event, the counters, the last refuser and the hold-off. A crow's-nest entry that ends
lets admission go on. -/
def State.entryEnds (s : State) (e : Entry) (aborted : Bool) (refuser : Nat) : State :=
  let s := s.modPwr fun p => { p with
    refused := p.refused + (if aborted then 0 else 1), aborted := p.aborted + (if aborted then 1 else 0), lastRefuser := some refuser
    holdOff := p.holdOff ++ [(e.kind, s.clk.frame)] }
  let s := s.raise 601 (if aborted then 2 else 1) 0 [refuser]
  if e.kind == .crowsNest then s.modPwr fun p => { p with stopped := false, prep := 0 } else s
/-- Step 3 for one entry (R465, R467): each asked domain answers; a refusal refuses or aborts the entry. The management domain refuses a crow's-nest
entry while the archive clock is stopped or unset (R64). -/
def State.answerEntry (s : State) (e : Entry) : State :=
  match e.asked with
  | none => s
  | some g =>
    if e.waking || decide (s.clk.frame ≤ g) then s
    else
      let open_ := (s.entryDomains e.kind).filter fun d => ! s.domainOff d && ! e.agreed.contains d
      let ans (d : Nat) : Answer :=
        match s.domainAnswer e.kind.whole d with
        | .delay => if e.timedOut && d != 73 then .refuse else .delay
        | a => a
      let ansOf (d : Nat) : Answer := if e.demanded == some d then .refuse else ans d
      let barred := e.kind == .crowsNest && ! (s.clk.aonRuns && s.clk.isSet)
      let demand := (e.demanded.toList.filter fun d => ! s.domainOff d) ++ (if barred then [79] else [])
      match (demand ++ open_).find? fun d => demand.contains d || ansOf d == .refuse with
      | some r =>
        let some_ := ! e.agreed.isEmpty || ! e.furls.isEmpty
        let s := s.entryEnds e some_ r
        let rest (p : Power) : List Entry := p.entries.filter fun x => x.kind != e.kind
        if e.furls.isEmpty then s.modPwr fun p => { p with entries := rest p }
        else s.modPwr fun p => { p with entries := rest p ++ [{ e with waking := true, agreed := [], demanded := none }] }
      | none =>
        let yes := open_.filter fun d => ansOf d == .agree
        s.modPwr fun p => { p with entries := updIf (fun x => x.kind == e.kind) (fun x => { x with agreed := x.agreed ++ yes }) p.entries }
/-- Step 3 of R49: the answers of every entry. -/
def State.answerEntries (s : State) : State := each s.pwr.entries State.answerEntry s

/-- A mast whose nine domains are off is furled (R34, R129): core state, loaded slots, reservations and cache contents are lost, and
its zones are rehomed. -/
def State.mastFurled (s : State) (m : Nat) : State :=
  if (s.mast m).state == .active && (mastDomains m).all s.domainOff then
    (s.modMast m fun x => { x with state := .furled, iv := [], slots := [], cache := { disabled := x.cache.disabled } }).rehome m |>.recheckBounds
  else s
/-- Furl a domain (R27, R305, R466). -/
def State.furlDomain (s : State) (d : Nat) : State :=
  let s := if d == 79 then s.loseVolatile else if 75 ≤ d && d < 78 then s.goDown (d - 75) else s
  let s := s.modPwr fun p => { p with furled := dedupN (p.furled ++ [d]) }
  if d < 72 then s.mastFurled (d / 9) else s
/-- A furled mast comes into service with its slots reloaded (R34, R296), once its core domain runs and its DRAM is filled (R28). -/
def State.enterService (s : State) (m : Nat) : State :=
  if (s.mast m).state == .furled && ! s.domainOff (9 * m) && ! s.pwr.off.contains (9 * m + 8) && (s.mem m).filled then
    s.modMast m fun x => { x with state := .active, slots := s.liveSlots, lastWork := s.clk.frame }
  else s
/-- Wake a domain (R468): a DRAM from off depth is to be filled before it is used (R28). -/
def State.wakeDomain (s : State) (d : Nat) : State :=
  let dram := d == 74 || (decide (d < 72) && d % 9 == 8)
  let s := if dram && s.pwr.off.contains d then s.modMem (if d == 74 then 8 else d / 9) fun x => { x with filled := false } else s
  let s := s.modPwr fun p => { p with furled := p.furled.filter (· != d), off := p.off.filter (· != d) }
  if d < 72 then s.enterService (d / 9) else s
/-- Domains that are furled last in a crow's-nest or power-down entry (R466). -/
def lastDomains : List Nat := [73, 78, 79]
/-- The end of a crow's-nest or power-down entry: `HCX` and `MGT` are furled, and frames are dark (R466, R470, R471). The patrol batches that are left
of the lap are spread over what is left of the crow's-nest lap target (R206). -/
def State.enterDark (s : State) (k : EntryKind) : State :=
  let p := s.media.patrol
  let left := p.lapStart + 5400000000 * s.ctlValue ctlLapCrow - s.clk.frame
  let batches := ceilDiv (p.total - p.done) (max 1 (ceilDiv p.total 1024))
  let tick := s.clk.ticks + ceilDiv (left * 32768) (62500 * max 1 batches)
  let s := (s.hcxOff.powerCut).modMedia fun m => { m with patrol := { m.patrol with target := 0, batchTick := tick } }
  s.modPwr fun p => { p with
    dev := if k == .powerDown then .poweredDown else .crowsNest, wokenBy := none, prep := 0, thermalDump := false }
/-- Step 5 for one entry (R465 to R467, R470): it is asked; agreed domains are furled once every domain that requires them is; an
abort wakes the furled ones, one furl step a frame. -/
def State.furlEntry (s : State) (e : Entry) : State :=
  let put (f : Entry → Entry) (s : State) : State :=
    s.modPwr fun p => { p with entries := updIf (fun x => x.kind == e.kind) f p.entries }
  let drop (s : State) : State := s.modPwr fun p => { p with entries := p.entries.filter fun x => x.kind != e.kind }
  if e.waking then
    match e.furls with
    | [] => drop s
    | b :: rest =>
      let s := (each b State.wakeDomain s).modPwr fun p => { p with lastWake := 12 }
      if rest.isEmpty then drop s else put (fun x => { x with furls := rest }) s
  else if ! e.prepared then
    if s.pwr.prep == 4 then put (fun x => { x with prepared := true, asked := some s.clk.frame }) (s.departures 2) else s
  else if e.asked.isNone then put (fun x => { x with asked := some s.clk.frame }) s
  else
    let whole := e.kind.whole
    let due := e.agreed.filter fun d => ! s.domainOff d && (requirers d).all s.domainOff
    let batch := if whole then due.filter fun d => ! lastDomains.contains d else due
    if ! batch.isEmpty then
      let s := put (fun x => { x with agreed := x.agreed.filter fun d => ! batch.contains d, furls := batch :: x.furls }) (each batch State.furlDomain s)
      if (s.entryDomains e.kind).all s.domainOff then drop s else s
    else if ! whole then (if (s.entryDomains e.kind).all s.domainOff then drop s else s)
    else if (switched.filter fun d => ! lastDomains.contains d).all s.domainOff then
      if ! s.domainOff 79 then
        if e.agreed.contains 79 && s.media.journals.all (·.staged.isEmpty) && ! s.mastIds.any s.mastHolds then
          put (fun x => { x with furls := [79] :: x.furls }) ((s.furlDomain 79).modPwr fun p => { p with off := dramDomains })
        else s
      else if e.agreed.contains 73 && e.agreed.contains 78 then s.enterDark e.kind
      else s
    else s
/-- Step 5 of R49 for every entry. -/
def State.furlEntries (s : State) : State := each s.pwr.entries (fun s e =>
  match s.pwr.entries.find? fun x => x.kind == e.kind with
  | some e => s.furlEntry e
  | none => s) s

/-- HANDSHAKE_TIMEOUT (R465): the timeout has passed since G while a domain still delays, and it refuses. `entry` counts the entries
in progress from 0. -/
def execHandshakeTimeout (entry : Nat) (s : State) : Res :=
  .next <|
    match s.pwr.entries[entry]? with
    | none => s
    | some e =>
      match e.asked with
      | some g =>
        if g + s.ctlValue ctlHandshake ≤ s.clk.frame && ! e.waking then
          (s.modPwr fun p => { p with entries := updIf (fun x => x.kind == e.kind) (fun x => { x with timedOut := true }) p.entries }).answerEntry
            { e with timedOut := true }
        else s
      | none => s
/-- ABORT_HOLD_OFF (R467): after the hold-off the entry starts again if its cause still stands. `entry` counts the entries held off
from 0. -/
def execAbortHoldOff (entry : Nat) (s : State) : Res :=
  .next <|
    match s.pwr.holdOff[entry]? with
    | none => s
    | some (k, f) =>
      if f + s.ctlValue ctlHoldOff ≤ s.clk.frame && ! s.pwr.entries.any fun e => e.kind == k then
        (s.modPwr fun p => { p with holdOff := p.holdOff.filter fun (x, _) => x != k }).startEntry k
      else s
/-- DOMAIN_WAKE (R467, R468): work needs a domain. In an entry under way that is the domain's refusal; a furled domain is woken with
those it requires first, a furled mast whole; a furled mast whose wake fails is failed (R34). -/
def execDomainWake (wake : WakeEnd) (cause : Nat) (s : State) : Res :=
  let domain := wake.domain
  whenUnit (decide (domain < 80)) <| .next <|
    let hit (e : Entry) : Bool := ! e.waking && (s.entryDomains e.kind).contains domain
    let down := decide (domain < 72) && ((s.mast (domain / 9)).state == .failed || (s.mast (domain / 9)).state == .restarting)
    if ! s.ready || s.domainAbsent domain || down then s
    else if s.pwr.entries.any hit then
      s.modPwr fun p => { p with entries := updIf hit (fun e => { e with demanded := some domain }) p.entries }
    else if ! s.domainOff domain then s
    else
      let m := domain / 9
      let whole := decide (domain < 72) && (s.mast m).state == .furled
      if whole && ! wake.ok then (s.mastFailed m 0).modPwr fun p => { p with lastWake := if 1 ≤ cause ∧ cause ≤ 12 then cause else 11 } else
      let chain := if whole then dedupN (wakeChain (9 * m) ++ mastDomains m) else wakeChain domain
      let s := (each (chain.filter s.domainOff) State.wakeDomain s).modPwr fun p => { p with
        lastWake := if 1 ≤ cause ∧ cause ≤ 12 then cause else 11 }
      s.retryReads fun _ b => b.phase == 0

/-! ## Clean shutdown (R165, R470) -/

/-- Outstanding commands have ended; those a pause keeps from posting do not count (R470). -/
def State.commandsDone (s : State) : Bool := s.io.cmds.all fun c => c.phase == .ready && s.paused c.fn c.port1
/-- Park every zone and region with held data. -/
def State.parkAll (s : State) : State :=
  each (s.nss.flatMap fun n => if n.conv then [(n.nsid, 0)] else n.zones.map fun z => (n.nsid, z.zi))
    (fun s (n, z) => if (s.heldOf n z).isEmpty then s else s.park n z) s
/-- Held data are on flash or in rescue records, and no journal has staging left. -/
def State.allDurable (s : State) : Bool :=
  ! s.media.blocks.any (fun b => b.dirty && b.marker == .data) && s.media.journals.all (·.staged.isEmpty)
/-- The steps of R165 that a frame can take; a crow's-nest entry writes no clean-shutdown record. When they are over, controllers
report shutdown complete and a Power Down command its status. -/
def State.prepStep (s : State) : State :=
  let crow := s.pwr.entries.any fun e => e.kind == .crowsNest
  match s.pwr.prep with
  | 1 => if s.commandsDone then s.parkAll.modPwr fun p => { p with prep := 2 } else s
  | 2 =>
    if ! s.allDurable then
      if s.media.blocks.any (fun b => b.dirty && b.marker == .data && (b.rlun, b.rblk) == (0, 0)) then s.parkAll else s
    else
      let js := (s.mastIds.filter fun m => (s.mast m).state == .active) ++ [8]
      let s := each js State.checkpoint s.recordTime
      let s := if crow then s else each js (fun s j => s.log j (.cleanShutdown s.clk.frame)) s
      s.modPwr fun p => { p with prep := 3 }
  | 3 =>
    if ! s.media.journals.all (·.staged.isEmpty) then s
    else
      let s := s.modPwr fun p => { p with prep := 4 }
      if crow then s
      else
        let fin (c : Ctrl) : Ctrl := if c.shst == 1 then { c with shst := 2 } else c
        let s := s.modStart fun x => { x with clean := true }
        let s := (s.modFn 0 fun f => { f with ctrl := fin f.ctrl }).modCtrl1 fin
        s.answerWaiting (fun c => match c with | .powerDown _ => true | _ => false) okR
  | _ => s
/-- Step 5 of R49: shutdown of single instances and the steps of R165. -/
def State.shutdownStep (s : State) : State :=
  let s := s.modFns fun l => l.map fun f =>
    if f.fn != 0 && f.ctrl.shst == 1 && ! s.io.cmds.any (·.fn == f.fn) then { f with ctrl := { f.ctrl with shst := 2 } } else f
  s.prepStep

/-- SHUTDOWN_NOTIFICATION (R165, R354): on function 0 the device takes the steps of R165; on an instance they are taken for its own
commands. Normal and abrupt notifications are answered alike. -/
def execShutdownNotification (fn : Nat) (_abrupt : Bool) (s : State) : Res :=
  whenUnit (decide (fn ≤ 128)) <| .next <|
    if ! s.ready || ! (s.fn fn).ctrl.ccEn || (s.fn fn).ctrl.shst != 0 then s
    else
      let s := s.modFn fn fun f => { f with ctrl := { f.ctrl with shst := 1 } }
      if fn == 0 then (s.departures 1).beginPrep
      else each (s.io.cmds.filter fun c => c.fn == fn && c.phase == .held) (fun s c => s.conclude c.id stAborted) s

/-! ## Power correction (R461) -/

/-- Package power cap of a level in mW (R458). -/
def capOf : Nat → Nat
  | 0 => 12500
  | 1 => 10000
  | 2 => 8000
  | 3 => 6000
  | _ => 4000
/-- Sum of the input power over the last 64 frames, and 64 times the cap. -/
def State.wattSum (s : State) : Nat := s.pwr.watts.foldl (· + ·) 0
/-- Step 1: one frame's package input power; the run of frames at or below 7/8 of the cap goes on or ends. -/
def State.measurePower (s : State) (mw : Nat) : State :=
  let s := s.modPwr fun p => { p with watts := (mw :: p.watts).take 64 }
  let cool := decide (64 ≤ s.pwr.watts.length) && decide (8 * s.wattSum ≤ 7 * 64 * capOf s.reef)
  s.modPwr fun p => { p with coolFrames := if cool then p.coolFrames + 1 else 0 }
/-- POWER_CORRECTION_CHECK (R461): at a 64-frame check with the mean above the cap, the limit is halved, down to one eighth. -/
def execPowerCorrectionCheck (s : State) : Res :=
  .next <|
    let due := match s.pwr.lastHalving with
      | some f => decide (f + 64 ≤ s.clk.frame)
      | none => true
    if due && decide (64 ≤ s.pwr.watts.length) && decide (64 * capOf s.reef < s.wattSum) then
      s.modPwr fun p => { p with halvings := min 3 (p.halvings + 1), coolFrames := 0, lastHalving := some s.clk.frame }
    else s
/-- POWER_CORRECTION_RECOVERY (R461): after 4,096 consecutive frames at or below 7/8 of the cap the limit is doubled once. -/
def execPowerCorrectionRecovery (s : State) : Res :=
  .next <|
    if 4096 ≤ s.pwr.coolFrames && decide (0 < s.pwr.halvings) then
      s.modPwr fun p => { p with halvings := p.halvings - 1, coolFrames := 0 }
    else s

/-! ## Mailbox commands (R165, R419, R469) -/

/-- Enter Crow's-Nest: arms the device with a sampling interval. -/
def effEnterCrowsNest (interval : Nat) (s : State) : Eff :=
  match s.crowBarred with
  | some d => (s, errR 0x0202 0 d)
  | none => (s.modPwr fun p => { p with armed := some interval }, okR)
/-- Power Down: its status follows at shutdown complete. -/
def effPowerDown (s : State) : State × Option Resp :=
  if s.pwr.poweringDown then (s, some (errR 0x0202 0 0x22))
  else (((s.departures 1).modPwr fun p => { p with poweringDown := true }).beginPrep, none)
/-- Set Reef Limit (R459, R482): a limit shallower than the thermal level is kept and reported not in effect. -/
def effSetReefLimit (level : Nat) (s : State) : Eff :=
  let s := s.modPwr fun p => { p with hostLimit := level }
  (s, if level < s.reef then warnR 1 [s.reef] else okR [s.reef])

end Sys2Proof.Machine
end

