-- ==== Sys2Proof/Machine/Events.lean ====
section
/-! DEFINITION. Delivery of event records to the rings, the ring registers and the early warnings (R423 to R430, R539, R540). -/

namespace Sys2Proof.Machine

/-! ## Who receives a record (R424) -/

/-- Delivery classes. -/
inductive Delivery where
  /-- function 0 -/
  | d
  /-- the function of the record, and function 0 -/
  | f
  /-- the function of the record -/
  | r
  /-- function 0 and every function to which the namespace is attached -/
  | n
  /-- every function with an enabled ring -/
  | w
  deriving DecidableEq, Repr

/-- The class of a source and code, by the source tables. -/
def deliveryOf (source code : Nat) : Delivery :=
  if source < 480 then (if source % 60 == 14 then .n else .d)
  else if 482 ≤ source && source ≤ 484 then .f
  else if source == 485 then .w
  else if source == 486 then .r
  else if source == 594 then .n
  else if source == 595 then (if code == 3 || code == 5 then .d else .n)
  else if source == 596 then .f
  else if source == 598 then (if code == 3 then .n else if code == 7 then .f else if code == 8 then .w else .d)
  else if source == 599 || source == 600 || source == 606 then .w
  else .d

/-- The namespace in the arguments of a record of class N. -/
def Event.nsArg (e : Event) : Nat := if e.source == 598 then e.args.getD 2 0 else e.args.headD 0
/-- Functions that receive a record. -/
def State.receivers (s : State) (e : Event) : List Nat :=
  match deliveryOf e.source e.code with
  | .d => [0]
  | .f => if e.fn ≤ 128 then dedupN [0, e.fn] else [0]
  | .r => if e.fn ≤ 128 then [e.fn] else []
  | .n => dedupN (0 :: ((s.ns? e.nsArg).map (·.attached)).getD [])
  | .w => (s.fns.filter fun f => f.rings.any (·.enabled)).map (·.fn)

/-! ## Rings (R425 to R429) -/

/-- Records that a ring holds. -/
def Ring.size (x : Ring) : Nat := 128 * 2 ^ x.sizeCode
/-- R426. -/
def Ring.full (x : Ring) : Bool := (x.tail + 1) % x.size == x.head
/-- Count an undelivered record; while the ring is enabled the first sets the overflow flag (R428). -/
def Ring.miss (x : Ring) (e : Event) : Ring :=
  let m := match x.missed.find? (·.source == e.source) with
    | some m => { m with count := m.count + 1, severity := max m.severity e.severity }
    | none => { source := e.source, count := 1, first := e.frame, severity := e.severity }
  { x with missed := putBy Missed.source m x.missed, overflow := x.overflow || x.enabled }
/-- Write a record at the tail, with the phase of the pass (R426). -/
def Ring.write (x : Ring) (e : Event) : Ring :=
  let t := (x.tail + 1) % x.size
  { x with records := x.records ++ [{ e with phase := x.phase }], tail := t, phase := if t == 0 then ! x.phase else x.phase }
/-- A record reaches a ring: written, staged behind summaries that are pending, or counted. A held record is staged while the ring is
disabled (R473). -/
def Ring.take (paused : Bool) (x : Ring) (e : Event) : Ring :=
  let blocked := ! x.enabled || x.full || paused
  let stage := if blocked then e.held && ! x.enabled else ! x.missed.isEmpty || ! x.staged.isEmpty
  if stage && decide (x.staged.length < 64) then { x with staged := x.staged ++ [e] }
  else if blocked || stage then x.miss e
  else x.write e
/-- The summary record of a source (R428). -/
def Missed.summary (m : Missed) (frame : Nat) : Event :=
  { frame := frame, source := m.source, code := 0xFFFF, severity := m.severity, summary := true
    args := [min m.count (2 ^ 32 - 1), m.first] }
/-- Write records while the ring has room. Returns the ring and those that found none. -/
def Ring.writeAll (x : Ring) : List Event → Ring × List Event
  | [] => (x, [])
  | e :: es => if x.full then (x, e :: es) else (x.write e).writeAll es
/-- Write the summaries, in ascending source, and then what is staged (R428). -/
def Ring.flush (x : Ring) (frame : Nat) : Ring :=
  let ms := sortBy (fun a b => decide (a.source ≤ b.source)) x.missed
  let (x, left) := x.writeAll (ms.map (·.summary frame))
  let x := { x with missed := ms.drop (ms.length - left.length) }
  if ! left.isEmpty then x
  else
    let (x, left) := x.writeAll x.staged
    { x with staged := left }

/-- Replace a ring by what it is after writes: they are read back, and a message is due if a record has the ring's severity (R403,
R427). -/
def State.putRing (s : State) (fn r : Nat) (x : Ring) : State :=
  let old := s.ring fn r
  let new := x.records.drop old.records.length
  let s := s.modRing fn r fun _ => x
  if new.isEmpty then s
  else s.request { req := 0, fn := fn, port1 := s.ringPort1 fn r, what := .ring r (new.any fun e => decide (x.severity ≤ e.severity)), issued := 0 }
/-- Deliver the records raised in the frame (R427). -/
def State.deliverEvents (s : State) : State :=
  let es := s.evt.raised
  if es.isEmpty then s
  else
    let into := es.map fun e => (s.receivers e, e)
    let s := s.modEvt fun e => { e with raised := [] }
    each s.fns (fun s f =>
      let mine := (into.filter fun x => x.1.contains f.fn).map (·.2)
      if mine.isEmpty then s
      else each (if f.fn == 0 then [0, 1] else [0]) (fun s r =>
        s.putRing f.fn r (mine.foldl (Ring.take (s.paused f.fn (s.ringPort1 f.fn r))) (s.ring f.fn r))) s) s
/-- Flush a ring that can take records. -/
def State.flushRing (s : State) (fn r : Nat) : State :=
  let x := s.ring fn r
  if ! x.enabled || s.paused fn (s.ringPort1 fn r) then s else s.putRing fn r (x.flush s.clk.frame)

/-! ## The ring registers (R539, R540) -/

/-- The BARs of a function can be reached: the host complex and the port run, and configuration requests are no longer retried (R488,
R536). -/
def State.barOpen (s : State) (fn : Nat) (port1 : Bool) : Bool :=
  s.hcxOn && s.start.configReady && ! s.pwr.furled.contains 72 && ! (s.hostPort (if port1 then 1 else 0)).perst &&
    s.fnExists fn && (! port1 || (fn == 0 && s.dual))
/-- A function has the ring in the window that is written. -/
def State.hasRing (s : State) (fn r : Nat) : Bool :=
  s.barOpen fn (s.ringPort1 fn r) && (if fn == 0 then decide (r < 2) else r == 0)
/-- A write that is ignored sets the ring-write bit of GSTS (R540). -/
def State.ringIgnored (s : State) (fn r : Nat) : State := s.modCtrl fn (s.ringPort1 fn r) fun c => { c with gstsRing := true }

/-- A write of RCTL (R425, R540). -/
def State.writeRctl (s : State) (fn r size severity vector : Nat) (enable : Bool) : State :=
  let x := s.ring fn r
  if 8 < size || s.vectors fn (s.ringPort1 fn r) ≤ vector || (x.enabled && size != x.sizeCode) then s.ringIgnored fn r
  else
    let x' := { x with sizeCode := size, severity := severity % 4, vector := vector, enabled := enable }
    if enable && ! x.enabled then
      (s.modRing fn r fun _ => { x' with head := 0, tail := 0, phase := true, records := [] }).flushRing fn r
    else s.modRing fn r fun _ => x'

def ringUnit (fn ring : Nat) : Bool := decide (fn ≤ 128) && decide (ring < 2)

/-- RING_ENABLE (R425, R428, R540). -/
def execRingEnable (fn ring size severity vector : Nat) (s : State) : Res :=
  whenUnit (ringUnit fn ring) <| .next (if s.hasRing fn ring then s.writeRctl fn ring size severity vector true else s)
/-- RING_DISABLE (R540). -/
def execRingDisable (fn ring size severity vector : Nat) (s : State) : Res :=
  whenUnit (ringUnit fn ring) <| .next (if s.hasRing fn ring then s.writeRctl fn ring size severity vector false else s)
/-- RBASE_WRITE (R425, R539): bits [11:0] of the base are reserved. -/
def execRbaseWrite (fn ring : Nat) (high : Bool) (value : Word) (s : State) : Res :=
  whenUnit (ringUnit fn ring) <| .next <|
    if ! s.hasRing fn ring then s
    else if (s.ring fn ring).enabled then s.ringIgnored fn ring
    else s.modRing fn ring fun x => if high then { x with baseHi := value } else { x with baseLo := value &&& 0xFFFFF000 }
/-- RHEAD_WRITE (R425, R540): the host reports what it has consumed. -/
def execRheadWrite (fn ring head : Nat) (s : State) : Res :=
  whenUnit (ringUnit fn ring) <| .next <|
    if ! s.hasRing fn ring then s
    else
      let x := s.ring fn ring
      if x.size ≤ head then s.ringIgnored fn ring
      else s.modRing fn ring fun x => { x with head := head, records := x.records.drop ((head + x.size - x.head) % x.size) }
/-- RSTS_CLEAR (R539): bits 0 and 1 clear where 1 is written. -/
def execRstsClear (fn ring : Nat) (value : Word) (s : State) : Res :=
  whenUnit (ringUnit fn ring) <| .next <|
    if ! s.hasRing fn ring then s
    else s.modRing fn ring fun x => { x with
      overflow := x.overflow && ! bit value.toNat 0, failedWrite := x.failedWrite && ! bit value.toNat 1 }
/-- SUMMARY_RECORD (R428): space has returned. -/
def execSummaryRecord (fn ring : Nat) (s : State) : Res :=
  whenUnit (ringUnit fn ring) <| .next (if s.hcxOn then s.flushRing fn ring else s)

/-! ## Early warnings (R430) -/

/-- 5,400,000,000 frames: a day. -/
def warnWindow : Nat := 5400000000
/-- Non-excluded LUNs with their spare counts, now and at first format. -/
def State.spareCounts (s : State) : List (Nat × Nat) := s.gluns.map fun g => (s.spares g, s.sparesFirst g)
/-- Available Spare (R236): of the first LUN with the fewest spares (DESIGN CHOICE, log 60), as a share of its first count in percent; a LUN formatted without
spares stands at 100. -/
def State.availableSpare (s : State) : Nat :=
  match minBy (·.1) s.spareCounts with
  | some (n, first) => if first == 0 then 100 else n * 100 / first
  | none => 100
/-- Percentage Used (R236). -/
def State.percentageUsed (s : State) : Nat :=
  min 255 (maxOf (s.luns.flatMap fun l => (l.blocks.filter (·.state != .retired)).map (·.erases)) * 100 / max 1 s.profile.endurance)
/-- LUNs without spares, as a share of all non-excluded LUNs in percent. -/
def State.spentLuns (s : State) : Nat × Nat := let l := s.spareCounts; (countIf (fun x => x.1 == 0) l, l.length)

/-- The conditions that hold: row, object, value, threshold, further arguments and function. -/
def State.warnings (s : State) : List (Nat × Nat × List Nat × Nat) :=
  let th (row : Nat) : Nat := s.ctlValue (ctlWarn row)
  let now := s.clk.frame
  let media := s.provision == .formatted
  let spareLow (share : Nat) : Bool := match minBy (·.1) s.spareCounts with
    | some (n, first) => first != 0 && decide (n * 100 ≤ share * first)
    | none => false
  let spare := s.availableSpare
  let used := s.percentageUsed
  let (spent, luns) := s.spentLuns
  let lost (nsid : Nat) : Nat := sumOf (fun (n, f, k) => if n == nsid && decide (now ≤ f + warnWindow) then k else 0) s.evt.losses
  let failed := countIf (·.failed) s.therm.inputs
  let flaps (p : Partner) : Nat := countIf (fun f => decide (now ≤ f + warnWindow)) p.exits
  (if media && spareLow (th 1) then [(1, 0, [spare, th 1], 0xFFFF)] else []) ++
  (if media && decide (th 2 ≤ used) then [(2, 0, [used, th 2], 0xFFFF)] else []) ++
  (if media then (s.nss.filter fun n => ! n.deleted && decide (th 3 ≤ lost n.nsid)).map fun n =>
    (3, n.nsid, [lost n.nsid, th 3, n.nsid], 0xFFFF) else []) ++
  (if media && decide (s.nrg.cMeas * 100 ≤ th 4 * s.record.cCfg) then
    [(4, 0, [s.nrg.cMeas * 100 / max 1 s.record.cCfg, th 4], 0xFFFF)] else []) ++
  (if th 5 ≤ failed then [(5, 0, [failed, th 5], 0xFFFF)] else []) ++
  ((s.hal.partners.filter fun p => decide (th 6 ≤ flaps p)).map fun p =>
    (6, p.fp.toNat, [flaps p, th 6, fp8 p.fp], 0xFFFF)) ++
  ((s.keys.refs.filter fun k => decide (2 ^ 47 < k.high)).map fun k =>
    (7, k.number, [k.high, 2 ^ 47], (((s.keys.slots.find? fun x => x.keyRef == k.number).bind (·.owner)).getD 0xFFFF))) ++
  (if media && s.media.shrinkExhausted then [(8, 1, [spent * 100 / max 1 luns, th 8], 0xFFFF)] else []) ++
  (if media && decide (0 < luns) && decide (th 8 * luns ≤ spent * 100) then [(8, 0, [spent * 100 / max 1 luns, th 8], 0xFFFF)] else [])
/-- Raise source 598 for each condition that has become true; row 8 once for its two conditions, and on every entry into shrink exhausted. -/
def State.earlyWarnings (s : State) : State :=
  let w := s.warnings
  let exhausted := s.media.shrinkExhausted || s.evt.warned.contains (8, 1)
  let fresh := w.filter fun (row, o, _, _) => ! s.evt.warned.contains (row, o) && ! (row == 8 && o == 0 && exhausted)
  let s := each fresh (fun s (row, _, args, fn) => s.raise 598 row 1 args fn) s
  s.modEvt fun e => { e with
    warned := w.map fun (row, o, _, _) => (row, o), losses := e.losses.filter fun (_, f, _) => decide (s.clk.frame ≤ f + warnWindow) }

end Sys2Proof.Machine
end

