-- ==== Sys2Proof/Machine/Startup.lean ====
section
/-! DEFINITION. The start-up stages (R46, R65, R71, R75, R120, R155, R161, R164, R202, R263, R308, R486 to R492): verification of the signed
objects, training and self-tests, journal replay and restore, and the time limit. -/

namespace Sys2Proof.Machine

/-- A start-up is in this stage, and it goes on. -/
def State.inStage (s : State) (n : Nat) : Bool :=
  s.pwr.dev == .starting && s.hcxOn && s.start.stage == n && ! s.start.failed && ! s.start.fault

/-! ## Signed objects (R75, R140, R491, R518) -/

/-- An interface that a die can be used on, with its rate in MT/s (R68, R69): 1 NV-DDR3, 2 NV-LPDDR4, 3 Toggle DDR. SDR, 0, is for power-up only. -/
def interfaceOk (p : MediaProfile) : Bool :=
  (p.interface == 1 && decide (200 ≤ p.rate) && decide (p.rate ≤ 1600)) || (p.interface == 2 && decide (800 ≤ p.rate) && decide (p.rate ≤ 3600)) ||
    (p.interface == 3 && decide (200 ≤ p.rate) && decide (p.rate ≤ 3600))
/-- A media profile verifies: interface, geometry, system blocks (R93), code, and VCCQ level as strapped. -/
def State.profileOk (s : State) (p : MediaProfile) : Bool :=
  let w := p.pageMain * p.planes
  interfaceOk p && decide (8 ≤ p.sysBlocks) &&
  [4096, 8192, 16384].contains p.pageMain && decide (65536 ≤ w) && w % 65536 == 0 &&
    decide (1 ≤ p.pagesPerWl) && p.pagesPerBlock % p.pagesPerWl == 0 && codeFits p && s.start.vqsel == p.vccq
/-- A LUN or bank temperature input (R262): a `TD` input, the mast sensor, none. -/
def inputCode (x : Nat) : Bool := decide (x < 16) || x == 0x20 || x == 0xFF
/-- A drive record verifies: its values are within their ranges and its population fits (R72, R140). -/
def recordOk (r : DriveRecord) : Bool :=
  decide (1 ≤ r.ceBitmap) && decide (r.ceBitmap ≤ 0xFF) && decide (1 ≤ r.lunsPerCe) && decide (r.lunsPerCe ≤ 4) &&
    decide (1 ≤ r.sparePct) && decide (r.sparePct ≤ 10) && decide (1 ≤ r.eta) && decide (r.eta ≤ 1000) &&
    decide (16 ≤ r.tTest) && decide (r.tTest ≤ 6250) && r.bankInput.all (fun i => decide (i < 16)) &&
    decide (1 ≤ r.derate.length) && decide (r.derate.length ≤ 8) && r.lunInputs.all inputCode
/-- Of a newer object and the current one, the current one after verification and the one kept for a later start-up. -/
def pickObject {α : Type} (ok : α → Bool) (next cur : Option α) : Option α × Option α :=
  match next, cur with
  | some n, c => if ok n then (some n, none) else if c.any ok then (c, some n) else (none, some n)
  | none, some c => if ok c then (some c, none) else (none, some c)
  | none, none => (none, none)

/-! ## Ready (R487, R488) -/

/-- A controller is ready when CC.EN is set, the device is ready and an instance is online (R488). -/
def State.readyCtrls (s : State) : State :=
  let up (on : Bool) (c : Ctrl) : Ctrl := { c with rdy := c.ccEn && on && ! c.cfs }
  (s.modFns fun l => l.map fun f => { f with ctrl := up (f.fn == 0 || f.state == .online) f.ctrl }).modCtrl1 (up true)
/-- The device is ready. It drives `WAKE#` after a wake by the sampler with PME enabled and the port in L2 (R526). -/
def State.becomeReady (s : State) : State :=
  let pin := s.pwr.lastWake == 1 && s.start.fromWake && (s.fn 0).pmeEn && (s.hostPort 0).link == .l23
  let s := s.modStart fun x => { x with stage := 8, clean := false, retest := false }
  let s := if s.pwr.lastWake == 9 && s.start.fromWake && s.side.dynamic.isSome then s.emit .inBandInterrupt else s
  (s.modPwr fun p => { p with dev := .working, stopped := false, prep := 0, poweringDown := false, readyFrame := s.clk.frame, wakeDriven := pin }).readyCtrls

/-! ## Stages 3 to 6 -/

/-- STAGE_ROM (R486, R490): the cores are released and check their ROM images. -/
def execStageRom (badCore : Bool) (s : State) : Res :=
  .next <|
    if ! s.inStage 3 then s
    else if badCore then (s.modStart fun x => { x with released := true }).deviceFault
    else s.modStart fun x => { x with released := true, stage := 4 }
/-- STAGE_OTP (R486, R490, R519): fuses read; VDDQF rises at the start of stage 5. -/
def execStageOtp (bad : Bool) (s : State) : Res :=
  .next <|
    if ! s.inStage 4 then s
    else if bad then s.deviceFault
    else s.modStart fun x => { x with stage := 5, vddqf := true }
/-- STAGE_OBJECTS (R389, R486, R490 to R493): the signed objects are verified; objects written since take effect, and source 485 reports each row of bounds that a new profile changes (R195). Without both, the
device is unprovisioned and stages 6 and 7 are skipped. -/
def execStageObjects (s : State) : Res :=
  .next <|
    if ! s.inStage 5 then s
    else
      let (d, nd) := pickObject recordOk s.obj.nextDrive s.obj.drive
      let (m, nm) := pickObject s.profileOk s.obj.nextMedia s.obj.media
      let old := s
      let s := s.modObj fun b => { b with drive := d, nextDrive := nd, media := m, nextMedia := nm }
      let s := if old.obj.media.isNone || m.isNone then s
        else each ([1, 2, 3, 4].filter fun r => old.rowAt old.reef r != s.rowAt s.reef r) (fun s r =>
          s.raise 485 1 0 [r, (s.rowAt s.reef r).1, (s.rowAt s.reef r).2]) s
      let s := s.modStart fun x => { x with configReady := true, stage := 6 }
      if d.isNone || m.isNone then s.becomeReady else s

/-- Train one port (R55, R71): at least one chip enable passes, or the port fails. -/
def State.trainPort (s : State) (p ces : Nat) (named : List (Nat × Nat × Nat)) : State :=
  let ok := bitmap ((bitsOf ces 8).filter (bit s.record.ceBitmap))
  let was := (s.port p).state
  let s := s.modPort p fun x => { x with cePassed := ok, trained := ok != 0, excluded := [] }
  let s := if ok == 0 then (if was == .failed then s else s.failPort p)
    else
      let s := s.modPort p fun x => { x with window := [], clearRun := 0, fencedAt := none, draining := false }
      if was == .normal then s else s.setPort p .normal 2 0 id
  s.excludeAfter p ok named
/-- An incomplete stripe set found at power-up raises an event of the mast of its first missing member (R79). -/
def State.reportIncomplete (s : State) (w g l : Nat) : State :=
  match (List.range w).find? fun q => ! s.lunUsed (memberLun s.mastN w g l q) with
  | none => s
  | some q => s.raise (60 * memberMast s.mastN q + 12) 1 1 [w, g, l, s.missing w g l]
/-- STAGE_MEDIA (R71, R347, R486, R490): masts test themselves, the ports of those in service are trained, and the enabled Halyard
ports are powered. `mastFail` are the masts whose self-test fails, `portCes` the chip enables of each port that pass every step,
`excluded` the LUNs that fail, with code and step. -/
def execStageMedia (mastFail : List Nat) (portCes : List Nat) (excluded : List (Nat × Nat × Nat)) (s : State) : Res :=
  .next <|
    if ! s.inStage 6 then s
    else
      let s := each (s.mastIds.filter fun m => (s.mast m).state == .furled) (fun s m =>
        if mastFail.contains m then
          let s := (s.modMast m fun x => { x with state := .failed }).modPwr fun p => { p with
            furled := dedupN (p.furled ++ mastDomains m), off := dedupN (p.off ++ [9 * m + 8]) }
          let e : Event := { frame := s.clk.frame, source := 592, code := 3, severity := 3, args := [m, 0], held := true }
          s.modEvt fun v => { v with raised := v.raised ++ [e] }
        else s.mastUp m) s
      let ports := (List.range s.portN).filter fun p => ((s.port p).state != .failed || s.start.retest) && (s.mast (mastOfPort p)).state == .active
      let s := each ports (fun s p => s.trainPort p (portCes.getD p 0) excluded) s
      let s := s.modPwr fun p => { p with furled := p.furled.filter fun d => ! ([75, 76, 77].contains d && s.portEnabled (d - 75)) }
      let s := each (widthsOf s.variant) (fun s w => each (s.stripeSets w) (fun s (g, l) => s.reportIncomplete w g l) s) s
      s.modStart fun x => { x with stage := 7 }

/-! ## Replay (R161) -/

/-- A kept block that no flash copy and no rescue record holds (R155): its record was not written, or belongs to a run that no index closes and does
not verify. -/
def Stored.lostAt (missing : List (Nat × Nat)) (b : Stored) : Bool :=
  b.dirty && b.marker == .data && b.place != .flash && ((b.rlun, b.rblk) == (0, 0) || b.unindexed && missing.contains (b.nsid, b.lba))
/-- Enter a stored block as lost (R155, R164). -/
def State.loseStored (s : State) (b : Stored) (cause : Nat) : State :=
  let s := s.modBlocks (fun x => x.nsid == b.nsid && x.lba == b.lba && x.seg == b.seg && x.row == b.row && x.unit == b.unit) fun x => { x with
    marker := .loss, payload := 0, dirty := false, arrived := true, place := if x.place == .flash then .flash else if x.sealed then .held else .openRow }
  s.enterLoss b.nsid b.lba 1 b.gen cause 3 0 b.mast
/-- The recovered write pointer of an active zone is the end of its highest kept write (R120); positions above it are free again, and
a segment that had programmed one of them is replaced. -/
def State.recoverPointer (s : State) (n : Namespace) (z : Zone) : State :=
  let base := z.zi * n.zoneSize s.profile
  let mine := s.media.blocks.filter fun b => b.nsid == n.nsid && decide (base ≤ b.lba) && decide (b.lba < base + z.wp)
  let wp := maxOf ((mine.filter (·.marker != .void)).map fun b => b.lba - base + 1)
  if z.wp ≤ wp then s
  else
    let gone := mine.filter fun b => decide (base + wp ≤ b.lba)
    let s := s.dropBlocks fun b => b.nsid == n.nsid && decide (base + wp ≤ b.lba) && decide (b.lba < base + z.wp)
    let s := each gone (fun s b => s.modSeg b.seg fun g => { g with
      replace := g.replace || b.place == .flash
      rows := updIf (·.row == b.row) (fun w => { w with sealedUnits := w.sealedUnits.filter (· != b.unit), parity := false }) g.rows }) s
    s.modZone n.nsid z.zi fun z => { z with wp := wp, leaves := z.leaves.take (wp / 256) }
/-- Records that a lost staging held are written again: complete rows and Full zones (R158, R281). -/
def State.relog (s : State) : State :=
  let s := each s.media.segs (fun s g => each g.rows (fun s w => s.checkRow g.seq w.row) s) s
  let s := s.retireRescue
  each (s.nss.flatMap fun n => (n.zones.filter fun z => z.state == .full && ! z.fullDurable).map fun z => (n.nsid, z.zi))
    (fun s (nsid, zi) => s.logZone nsid zi) s

/-- Without pass continuation, a segment is to be replaced that holds a restored unit of a wordline whose passes have begun (R162). -/
def State.noContinuation (s : State) : State :=
  let begun (g : Segment) (b : Stored) : Bool :=
    let q := memberOf g.width b.unit b.row
    let wl := wordlineOf s.profile b.row
    let done := (List.range s.profile.passesPerWl).filter fun i => decide (wl < g.passes q i)
    b.seg == g.seq && b.place != .flash && b.marker == .data && ! done.isEmpty && decide (done.length < s.profile.passesPerWl)
  if s.record.passContinuation then s
  else s.modMedia fun m => { m with segs := updIf (fun g => m.blocks.any (begun g)) (fun g => { g with replace := true }) m.segs }
/-- The age of frames that were never recorded, 2^22 frames at +125 °C (R202). -/
def State.uncleanAge (s : State) : Nat := ceilDiv (2 ^ 22 * s.factorAt 2000) 62500
/-- Steps 1 to 5 of R161, with R46 and R65, and the sanitize that a power loss interrupted (R308). A zone
that a voided write had made Full stays Full at its pointer: R120 recovers active zones (DESIGN CHOICE, log 60). -/
def State.replay (s : State) (missing : List (Nat × Nat)) (disagree : List (Nat × List Nat)) : State :=
  let unclean := ! s.start.clean && ! s.start.fromWake
  let s := if unclean then
      let s := s.modMedia fun m => { m with nextGen := max m.nextGen m.genEnd, nextSeq := max m.nextSeq m.seqEnd }
      s.chargeAll s.uncleanAge
    else s
  let s := if s.clk.pocCounted then s
    else
      let s := s.modClk fun c => { c with poc := (c.poc + 1) % 2 ^ 32, pocCounted := true }
      (s.log 8 (.powerOnCount s.clk.poc)).chargeGap
  let s := each (s.media.blocks.filter (Stored.lostAt missing)) (fun s b => s.loseStored b 4) s
  let s := each disagree (fun s (seq, lost) =>
    match s.seg? seq with
    | none => s
    | some g =>
      let s := s.raise 595 2 2 [g.nsid, g.zone.getD 0, 0]
      each (s.media.blocks.filter fun b => b.seg == g.seq && b.nsid == g.nsid && b.marker == .data && lost.contains b.lba) (fun s b => s.loseStored b 5) s) s
  let s := s.modBlocks (fun b => b.place != .flash) fun b => { b with
    dirty := false, unindexed := false, place := if b.sealed && (b.rlun, b.rblk) != (0, 0) then .parked else if b.place == .waiting then .openRow else b.place }
  let s := if s.start.fromWake then s else s.noContinuation
  let zs := s.nss.flatMap fun n => (n.zones.filter (·.state.active)).map fun z => (n, z)
  let s := each zs (fun s (n, z) => s.recoverPointer n z) s
  let s := if unclean then s.modNss fun l => l.map fun n => { n with zones := n.zones.map Zone.forgetLeaves } else s
  let s := each (zs.filter fun (_, z) => z.state.isOpen) (fun s (n, z) => s.closeZone n.nsid z.zi) s
  let s := s.relog.loseMastZones
  if s.start.sanitize.isNone then s
  else
    let s := each (s.start.sanitize.getD []) (fun s (g, b) => s.eraseDone g b) s
    s.modStart fun x => { x with sanitize := none, sanitized := true }

/-- STAGE_REPLAY (R46, R65, R148, R149, R161, R263, R430, R490): journal replay and restore, the power-up capacitance test, and ready.
`missing` are the blocks, by namespace and LBA, whose records in runs without an index do not verify (R155), `disagree` the segments whose headers contradict the map, with the LBAs that the
media scan finds in no copy. -/
def execStageReplay (journalOk newerMajor : Bool) (missing : List (Nat × Nat)) (disagree : List (Nat × List Nat)) (s : State) : Res :=
  .next <|
    if ! s.inStage 7 then s
    else if ! journalOk then s.modStart fun x => { x with failed := true }
    else if newerMajor then
      let s := ((s.modMedia fun m => { m with newerMajor := true }).raise 595 5 3 []).enterReadPreserve
      s.earlyWarnings.becomeReady
    else
      let s := (s.modMedia fun m => { m with newerMajor := false }).replay missing disagree
      let s := s.modNrg fun n => { n with cMeas := n.recorded.getD s.record.cCfg, firstDone := false, heldZero := false, invalid := 0 }
      let v1 := s.nrg.raws.foldl (· + ·) 0 / 16
      let s := if s.nrg.raws.length == 16 && s.nrg.test.isNone && s.selfTestPasses v1 then s.startSelfTest v1 else s
      s.earlyWarnings.becomeReady

/-- STARTUP_LIMIT (R487, R490): the limit on the time to ready has passed; the first expiry in a power-on is a deep reset, the second
a device fault. The erasures of a sanitize are not counted. -/
def execStartupLimit (s : State) : Res :=
  .next <|
    if s.pwr.dev != .starting || ! s.hcxOn || s.start.failed || s.start.fault || s.start.sanitize.isSome ||
        decide (s.clk.frame < s.start.begin + s.startLimit) then s
    else if s.start.expiries == 0 then
      let s := s.startAgain
      s.modStart fun x => { x with expiries := 1 }
    else s.deviceFault

end Sys2Proof.Machine
end

