-- ==== Sys2Proof/Machine/Provision.lean ====
section
/-! DEFINITION. Settings of controls, signed objects, ownership, formatting of the media, Format NVM and the Crypto Erase (R16, R95, R308,
R354, R360, R385, R417, R492 to R496). -/

namespace Sys2Proof.Machine

/-! ## Controls (R16, R417) -/

/-- Whether an identifier is a per-relationship control (R385). -/
def perRelationship (ident : Nat) : Bool := ident == ctlMirrorMode || ident == ctlLossPolicy || ident == ctlLagLimit
/-- The relationship that a scope names. -/
def State.mirrorOf (s : State) (scope : Nat) : Option Mirror := s.peer.mirrors.find? (·.ident % 2 ^ 32 == scope)
/-- Value in effect of any control. -/
def State.settingOf (s : State) (ident scope : Nat) : Nat :=
  match (if perRelationship ident then s.mirrorOf scope else none) with
  | some m => if ident == ctlMirrorMode then m.mode else if ident == ctlLossPolicy then m.lossPolicy else m.lagLimit
  | none => s.ctlValue ident scope
/-- A Halyard port is disabled: Departure on a live link, which goes Down (R347, R354); or enabled again: its domain is woken. -/
def State.switchPort (s : State) (port : Nat) (on : Bool) : State :=
  if on then (if s.ready then s.wakeDomain (75 + port) else s)
  else
    let s := if (s.hport port).up then s.tx port { seq := 0, ptype := 0x0A, args := [5, s.clk.poc] } else s
    s.goDown port
/-- A setting takes effect (R50). -/
def State.applySetting (s : State) (ident scope value : Nat) : State :=
  match (if perRelationship ident then s.mirrorOf scope else none) with
  | some m =>
    (s.modMirror m.ident fun m =>
      if ident == ctlMirrorMode then { m with mode := value }
      else if ident == ctlLossPolicy then { m with policy := some value }
      else { m with lagLimit := value }).log 8 (.setting ident scope value)
  | none =>
    let old := s.ctlValue ident scope
    let s := s.setCtl ident scope value
    if ident == ctlHalPort && old != value then s.switchPort scope (value == 1) else s

/-- What Get Control and Set Control refuse before the setting is looked at (R417, R418). -/
def State.controlRefused (s : State) (ident scope : Nat) : Option Resp :=
  match controlSpec s ident scope with
  | none => some (errR 0x0101)
  | some c =>
    if ! scopeOk c.scope scope then some (errR 0x0104 4)
    else if perRelationship ident && (s.mirrorOf scope).isNone then some (errR 0x0105 scope)
    else none
/-- Get Control. -/
def effGetControl (ident scope : Nat) (s : State) : Eff :=
  match s.controlRefused ident scope, controlSpec s ident scope with
  | some r, _ => (s, r)
  | none, some c => (s, okR [s.settingOf ident scope, c.dflt, c.lo, c.hi, bitOf c.expert, bitOf c.owner])
  | none, none => (s, errR 0x0101)
/-- Set Control (R95, R417, R549); on an input of an absent mast it is accepted and has no effect (R3). -/
def effSetControl (ident scope value : Nat) (s : State) : Eff :=
  match s.controlRefused ident scope, controlSpec s ident scope with
  | some r, _ => (s, r)
  | none, none => (s, errR 0x0101)
  | none, some c =>
    if ident == ctlAllowlist || ident == ctlCharge0 then (s, errR 0x0104 0)
    else if value < c.lo || c.hi < value || settingCombinationBad s ident scope value then (s, errR 0x0104 8)
    else if ident == ctlSpare && s.nss.any (! ·.deleted) then
      (s, errR 0x0203 (((minBy id ((s.nss.filter (! ·.deleted)).map (·.nsid))).getD 0)))
    else if absentInput s c.scope scope then (s, okR [s.settingOf ident scope])
    else
      let s := s.applySetting ident scope value
      (s, okR [s.settingOf ident scope])

/-- Groups of R417. -/
def controlGroups : List Nat := [0x0002, 0x0003, 0x0005, 0x0006, 0x0007, 0x0009, 0x000B, 0x000C, 0x000D, 0x000E, 0x0010, 0x0011, 0x0012]
/-- Restore Default Controls (R496): of a group, or of all. -/
def effRestoreDefaultControls (group : Nat) (s : State) : Eff :=
  if group != 0 && ! controlGroups.contains group then (s, errR 0x0104 0)
  else
    let hit (g : Nat) : Bool := group == 0 || group == g
    let off := [0, 1, 2].filter fun p => ! s.portEnabled p
    let mine := s.ctl.filter fun (i, _, _) => hit (i / 65536)
    let s := each mine (fun s (i, sc, _) => s.unsetCtl i sc) s
    let s := if hit 0x000C then (each off (fun s p => s.switchPort p true) s).modHal fun h => { h with allowlist := [] } else s
    let s := if hit 0x000D then s.modPeer fun p => { p with
        mirrors := p.mirrors.map fun m => { m with mode := 1, policy := none, lagLimit := 262144 } } else s
    (s, okR)

/-! ## Signed objects (R491 to R493) -/

def driveMessage (r : DriveRecord) : List Nat := objectBytes "MDRV" 0x10 r.revision (driveBody r)
def mediaMessage (p : MediaProfile) : List Nat := objectBytes "MPRF" 0x10 p.revision (mediaBody p)
/-- Signature by the maker key fuses. -/
def State.makerSigned (s : State) (msg : List Nat) (r sg : Nat) : Bool := ecdsaVerify s.fuses.makerKeyEff msg r sg
/-- Get Signed Object: the current object, as its bytes with the signature. -/
def effGetSignedObject (object : Nat) (s : State) : Eff :=
  let bytes := if object == 1 then s.obj.drive.map fun r => driveMessage r ++ bytesBE 48 r.sigR ++ bytesBE 48 r.sigS
    else s.obj.media.map fun p => mediaMessage p ++ bytesBE 48 p.sigR ++ bytesBE 48 p.sigS
  match bytes with
  | some b => (s, okR b)
  | none => (s, errR 0x0105 object)

/-- Formatted: what a new profile may not change (R493). -/
def profileKeeps (a b : MediaProfile) : Bool :=
  let fixed (l : List (Nat × List Nat)) := l.filter fun x => ! [5, 6, 8, 11].contains (x.1 / 256)
  fixed a.others == fixed b.others &&
  { b with
    others := a.others, revision := a.revision, version := a.version, sigR := a.sigR, sigS := a.sigS
    readNs := a.readNs, pslcReadNs := a.pslcReadNs, coarseNs := a.coarseNs, fineStdNs := a.fineStdNs, fineArchNs := a.fineArchNs
    pslcProgNs := a.pslcProgNs, eraseNs := a.eraseNs, suspendNs := a.suspendNs, suspendable := a.suspendable, maxSuspends := a.maxSuspends
    cmdCycles := a.cmdCycles, pollCycles := a.pollCycles, suspendCycles := a.suspendCycles, retryEntries := a.retryEntries
    trackingLimit := a.trackingLimit, endurance := a.endurance, endurancePslc := a.endurancePslc, refTemp16 := a.refTemp16
    refreshStdDays := a.refreshStdDays, refreshArchDays := a.refreshArchDays, rewriteBits := a.rewriteBits } == a
def recordKeeps (a b : DriveRecord) : Bool := a.ceBitmap == b.ceBitmap && a.lunsPerCe == b.lunsPerCe
/-- Both objects verify, held or current: the ports are trained with them, and the device is Unformatted (R493). How the training ends is left
to a free value, port by port. -/
def State.assemble (s : State) : State :=
  match s.obj.heldDrive <|> s.obj.drive, s.obj.heldMedia <|> s.obj.media with
  | some d, some m =>
    let s := s.modObj fun b => { b with drive := some d, media := some m, heldDrive := none, heldMedia := none }
    let s := each (s.mastIds.filter fun m => (s.mast m).state == .furled) State.mastUp s
    let ports := (List.range s.portN).filter fun p => (s.mast (mastOfPort p)).state == .active
    let s := each ports (fun s p => (s.trainPort p (Config.freeNat s.fresh) []).bump) s
    s.modPwr fun p => { p with furled := p.furled.filter fun d => ! ([75, 76, 77].contains d && s.portEnabled (d - 75)) }
  | _, _ => s
/-- Write Signed Object (R493). -/
def effWriteSignedObject (object : Nat) (record : DriveRecord) (profile : MediaProfile) (r sg : Nat) (s : State) : Eff :=
  let record := { record with sigR := r, sigS := sg }
  let profile := { profile with sigR := r, sigS := sg }
  let drive := object == 1
  let rev := if drive then record.revision else profile.revision
  let have_ := if drive then max ((s.obj.drive.map (·.revision)).getD 0) ((s.obj.nextDrive.map (·.revision)).getD 0)
    else max ((s.obj.media.map (·.revision)).getD 0) ((s.obj.nextMedia.map (·.revision)).getD 0)
  let ok := if drive then recordOk record && s.makerSigned (driveMessage record) r sg
    else s.profileOk profile && s.makerSigned (mediaMessage profile) r sg
  let keeps := s.provision != .formatted ||
    (if drive then recordKeeps s.record record else profileKeeps s.profile profile)
  if s.provision == .unassembled then (s, errR 0x0608)
  else if rev ≤ have_ then (s, errR 0x0104 12)
  else if ! ok then (s, errR 0x0608)
  else if ! keeps then (s, errR 0x0201 object)
  else if s.provision == .unprovisioned then
    ((s.modObj fun b => if drive then { b with heldDrive := some record } else { b with heldMedia := some profile }).assemble, okR [rev])
  else (s.modObj fun b => if drive then { b with nextDrive := some record } else { b with nextMedia := some profile }, okR [rev])

/-! ## Ownership (R494) -/

/-- The owner key: the highest burnt bank. -/
def State.ownerKey (s : State) : Option PubKey := s.fuses.ownerBanks.getLast?
/-- Burn a bank; the previous owner's challenges lapse. -/
def State.burnOwner (s : State) (key : PubKey) : State :=
  (s.modFuses fun f => { f with ownerBanks := f.ownerBanks ++ [key] }).modKeys fun k => { k with challenges := [] }
/-- Take Ownership burns bank 0. -/
def effTakeOwnership (key : PubKey) (s : State) : Eff :=
  if ! s.fuses.ownerBanks.isEmpty then (s, errR 0x0201 0)
  else if ! onCurve key then (s, errR 0x0601)
  else (s.burnOwner key, okR [(keyPrint key).toNat])
/-- Transfer Ownership burns the next bank, of 16. -/
def effTransferOwnership (key : PubKey) (s : State) : Eff :=
  if 16 ≤ s.fuses.ownerBanks.length then (s, errR 0x0302)
  else if ! onCurve key then (s, errR 0x0601)
  else (s.burnOwner key, okR [(keyPrint key).toNat])

/-! ## Format Media (R94, R495) -/

/-- A LUN as a format leaves it: every good block but the retired and the system blocks is pending-erase, with its count. -/
def Lun.formatted (l : Lun) : Lun := { l with
  blocks := l.blocks.map fun b =>
    { b with
      state := if b.state == .free || b.state == .allocated then .pendingErase else b.state
      erased := false, offsets := [], bits := 0, step := 0 } }
/-- LUNs with too few good blocks (R94). -/
def State.shortLuns (s : State) : List Nat :=
  (List.range (32 * s.portN)).filter fun g =>
    populated s.record (localOfLun g) && decide (s.goodFirst g < s.profile.sysBlocks + s.media.segBlocks + 1)
/-- The format itself; function 0's key slots and buffer floor and every instance take the defaults of R315 at the first one. -/
def State.formatMedia (s : State) : State :=
  let first := ! s.obj.formatted
  let s := s.modMedia fun m => { m with
    segBlocks := segBlocksOf s.profile (s.ctlValue ctlSpare), segs := [], blocks := [], ledger := [], marked := [] }
  let s := s.modLuns fun l => l.map Lun.formatted
  let s := each s.shortLuns (fun s g => s.raise (60 * mastOfLun g + 4 + portOfLun g % 4) 4 2 [g, 0]) s
  let s := s.modObj fun b => { b with formatted := true }
  if ! first then s
  else
    let s := ((s.putAlloc 0 7 4).raiseSlots 0 4).putAlloc 0 8 256
    each ((List.range 128).map (· + 1)) State.defaultAlloc s
/-- Format Media: the format record is written, and the format is made once it is durable (R495). -/
def effFormatMedia (s : State) : Eff :=
  match s.provision with
  | .unassembled => (s, errR 0x0202 0 0x10)
  | .unprovisioned => (s, errR 0x0202 0 0x11)
  | .unformatted | .formatted =>
    match s.peer.jobs.find? Job.live, s.peer.mirrors.head?, minBy id ((s.nss.filter (! ·.deleted)).map (·.nsid)) with
    | some j, _, _ => (s, errR 0x0203 j.ident)
    | none, some m, _ => (s, errR 0x0203 m.ident)
    | none, none, some n => (s, errR 0x0203 n)
    | none, none, none =>
      if s.media.readPreserve then (s, errR 0x0202 0 0x20) else (s.log 8 .formatRecord, okR)

/-! ## Emptying namespaces: Format NVM and the Crypto Erase (R308) -/

/-- Every zone of a namespace goes to Empty, and its conventional region is deallocated; segments become pending-erase. Zones in Read Only and
Offline, which are final (R114), take part in a Crypto Erase only. -/
def State.emptyNamespace (final : Bool) (s : State) (n : Namespace) : State :=
  let s := each (n.zones.filter fun z => z.state != .empty && (final || z.state != .readOnly && z.state != .offline)) (fun s z =>
    if z.state == .offline then
      (s.modNs n.nsid fun n => { n with reserved := n.reserved + n.segsPerZone * n.wmax }).modZone n.nsid z.zi fun z =>
        { zi := z.zi, cls := n.cls, gen := z.gen }
    else (s.commitRelease n.nsid z.zi z.gen .empty).logZone n.nsid z.zi) s
  if ! n.conv then s
  else
    let s := each ((s.media.segs.filter fun g => g.nsid == n.nsid && g.zone.isNone).map (·.seq)) State.releaseSegment s
    let s := s.dropBlocks (·.nsid == n.nsid)
    let s := s.modMedia fun m => { m with ledger := m.ledger.filter (·.nsid != n.nsid), marked := m.marked.filter (· != n.nsid) }
    s.modNs n.nsid fun n => { n with map := [], cseg := none, cpos := 0, csegsLeft := convSegments s.profile n.cwidth n.size }
/-- A namespace other than those named keeps its data. -/
def State.emptyAll (s : State) (final : Bool) (p : Namespace → Bool) : State :=
  (each (s.nss.filter fun n => ! n.deleted && p n) (State.emptyNamespace final) s).shrink
/-- Abort a command that has not its status yet. -/
def State.abortCmd (s : State) (c : Cmd) (st : NvmeStatus := stAborted) : State :=
  match c.phase with
  | .readBack | .ready | .squashed => s
  | .held | .running | .step4 =>
    let s := if c.waiting.isEmpty then s else s.voidBlocks c
    ((s.dropReqs c.id).modCmd c.id fun c => { c with blocks := [], waitsFor := none }).conclude c.id st

/-- Format NVM on function 0: the format of a namespace is fixed at its creation (R103), so its data are all that changes; an erase
by key is what Sanitize does. -/
def State.formatNvm (s : State) (nsid lbaf ses : Nat) : State × NvmeStatus :=
  let mine (n : Namespace) : Bool := nsid == 0xFFFFFFFF || n.nsid == nsid
  let l := s.nss.filter fun n => ! n.deleted && mine n
  if s.media.readPreserve then (s, stWriteProtected)
  else if l.isEmpty then (s, stInvalidNs)
  else if 2 ≤ ses then (s, stInvalidField)
  else if l.any fun n => n.lbaf != lbaf then (s, stFormat)
  else (s.emptyAll false mine, stOk)

/-- Crypto Erase (R308). -/
def State.cryptoErase (s : State) (self : Nat) : State × NvmeStatus :=
  if 32 ≤ s.fuses.vaultEpoch then (s, stInvalidField)
  else if s.start.sanitize.isSome then (s, stSanitize)
  else
    let s := s.modPwr fun p => { p with stopped := true }
    let s := each (s.io.cmds.filter (·.id != self)) (fun s c => s.abortCmd c) s
    let s := s.abortJobs (fun _ => true) 0x0805
    let s := each s.mbx.order (fun s v => s.respond v (errR 0x0805)) s
    let s := each (s.peer.jobs.filter Job.live) (fun s j => s.stopJob j.ident 0x0805) s
    let used := s.keys.slots.filter fun k => dataSlot k.number && k.state != .empty
    let s := s.modKeys fun k => { k with
      slots := k.slots.map fun x => if dataSlot x.number && x.state != .empty then
        { number := x.number, owner := x.owner, generation := x.generation + 1 } else x
      exports := [] }
    let s := (s.modFns fun l => l.map fun f => { f with keks := [] }).modMasts fun l => l.map fun m => { m with slots := m.slots.filter (4092 ≤ ·) }
    let s := s.modFuses fun f => { f with vaultEpoch := f.vaultEpoch + 1 }
    let s := each s.keys.ownerKeys (fun s k => s.logImage (4092 + k.slot) 1) s
    let s := each used (fun s k => s.logImage k.number (k.generation + 1)) s
    let old := (s.media.segs.filter (·.keyRef == 0)).flatMap fun g => (s.setLuns g.width g.g g.l).zip g.members
    let s := s.emptyAll true fun _ => true
    let left := old.filter fun (g, b) => ((s.lun g).block b).state == .pendingErase
    (s.modStart fun x => { x with sanitize := some left, sanitized := false }, stOk)
/-- Step 3 of R49: the erasures of a sanitize; when all have ended it is complete, and commands are admitted again. -/
def State.sanitizeStep (s : State) : State :=
  match s.start.sanitize with
  | none => s
  | some l =>
    let left := l.filter fun (g, b) => ((s.lun g).block b).state == .pendingErase
    if ! left.isEmpty then s.modStart fun x => { x with sanitize := some left }
    else (s.modStart fun x => { x with sanitize := none, sanitized := true }).modPwr fun p => { p with stopped := s.pwr.prep != 0 }

/-- Leave Read-Preserve (R235): reserved blocks within the available ones and a segment of every width obtainable. -/
def effLeaveReadPreserve (s : State) : Eff :=
  if ! s.media.readPreserve then (s, okR)
  else if s.media.newerMajor || decide (s.availableBlocks < s.reservedBlocks) || ! (widthsOf s.variant).all s.obtainable then (s, errR 0x0202 0 0x20)
  else (((s.modMedia fun m => { m with readPreserve := false }).log 8 (.readPreserve false)).raise 599 2 0 [], okR)

end Sys2Proof.Machine
end

