-- ==== Sys2Proof/Machine/HostPort.lean ====
section
/-! DEFINITION. The host port: links, controllers' enable and resets, configuration requests, queues and doorbells, the fetch,
outstanding requests, pauses and interrupts (R386 to R407, R441, R488, R497 to R499). -/

namespace Sys2Proof.Machine

/-- A controller of the family: function 0 to 128, or the port 1 function of function 0. -/
def ctrlUnit (fn : Nat) (port1 : Bool) : Bool := decide (fn ≤ 128) && (! port1 || fn == 0)
/-- The controller exists now, and its configuration space answers (R309, R387, R488). -/
def State.configOpen (s : State) (fn : Nat) (port1 : Bool) : Bool := s.barOpen fn port1 && ! (s.fn fn).inFlr

/-! ## Configuration space (R388 to R390, R488) -/

/-- Device identifier of a function (R389). -/
def State.deviceId (s : State) (fn : Nat) (port1 : Bool) : Nat :=
  if port1 then 0x88F1 else if fn != 0 then 0x88F0 else match s.variant with
    | .btk8208 => 0x8208
    | .btk8416 => 0x8416
    | .btk8832 => 0x8832
def plynham : Nat := 0x1F5B
/-- A register of configuration space that the spec gives (R389): identifiers, class code, subsystem identifiers. The others are PCI
Express's, and their values are left open. -/
def State.configRead (s : State) (fn : Nat) (port1 : Bool) (offset : Nat) : Nat :=
  let dev := s.deviceId fn port1
  if offset == 0x00 then plynham + dev * 65536
  else if offset == 0x08 then 0x01080200 + Config.freeNat s.fresh % 256
  else if offset == 0x2C then s.record.subsysVendor.getD plynham + s.record.subsysDevice.getD dev * 65536
  else Config.freeNat s.fresh
/-- CONFIGURATION_REQUEST (R389, R488): Configuration Request Retry Status until stage 5 has completed and during a function-level reset;
then the register's value. A port that is in reset or off answers nothing. -/
def execConfigurationRequest (fn : Nat) (port1 : Bool) (offset : Nat) (s : State) : Res :=
  whenUnit (ctrlUnit fn port1) <|
    .next (if ! s.hcxOn || s.pwr.furled.contains 72 || (s.hostPort (if port1 then 1 else 0)).perst || (port1 && ! s.dual) then s
      else if ! s.configOpen fn port1 then s.emit (.config fn true 0)
      else (s.emit (.config fn false (s.configRead fn port1 offset))).bump)

/-! ## Controllers and resets (R322, R391, R488, R497, R499) -/

/-- Entries of the admin queues: the host sets the size, which no command carries (notes/assumptions/10.md). -/
def adminSize : Nat := 4096
/-- CC_EN_SET (R312, R488): the admin queues stand, and CSTS.RDY rises when the device is ready. On an instance that is not online the
write is ignored. -/
def execCcEnSet (fn : Nat) (port1 : Bool) (s : State) : Res :=
  whenUnit (ctrlUnit fn port1) <|
    let c := s.ctrl fn port1
    let resetting := if port1 then s.io.reset1.isSome else (s.fn fn).queuedReset.isSome
    .next (if ! s.configOpen fn port1 || c.ccEn || resetting || (fn != 0 && (s.fn fn).state != .online) then s
      else s.modCtrl fn port1 fun c => { c with
        ccEn := true, rdy := s.ready && ! c.cfs, shst := 0
        sqs := [{ qid := 0, size := adminSize, cq := 0 }], cqs := [{ qid := 0, size := adminSize, vector := 0 }] })
/-- Admission goes on after a shutdown that its controller's reset ends. -/
def State.resumeAdmission (s : State) : State :=
  if s.pwr.prep != 0 && ! s.pwr.poweringDown && ! (s.pwr.entries.any fun e => e.kind == .crowsNest) then
    s.modPwr fun p => { p with stopped := false, prep := 0 }
  else s
/-- CC_EN_CLEAR (R322, R497): the controller reset begins at the next step 4. -/
def execCcEnClear (fn : Nat) (port1 : Bool) (s : State) : Res :=
  whenUnit (ctrlUnit fn port1) <|
    let c := s.ctrl fn port1
    .next (if ! s.configOpen fn port1 || ! c.ccEn then s
      else
        let s := s.modCtrl fn port1 fun c => { c with ccEn := false }
        let s := if fn == 0 && c.shst != 0 then s.resumeAdmission else s
        if port1 then s.modIo fun h => { h with reset1 := some .ccReset } else s.queueReset fn .ccReset)
/-- Function 0's Expert enable is cleared (R8). -/
def State.noExpert (s : State) : State := s.modFn 0 fun f => { f with expert := false }
/-- FUNCTION_LEVEL_RESET (R8, R322, R422, R497, R540): of an instance the procedure of R322; of function 0 its controller, its mailboxes and
rings of the port, and on port 0 VF Enable. -/
def execFunctionLevelReset (fn : Nat) (port1 : Bool) (s : State) : Res :=
  whenUnit (ctrlUnit fn port1) <|
    .next (if ! s.configOpen fn port1 then s
      else if fn != 0 then s.queueReset fn .flr
      else
        let s := (s.resetBoxes (s.portBox port1) 0x0802).resetRings 0 port1
        let s := s.modCtrl 0 port1 Ctrl.windowReset
        if port1 then s.modIo fun h => { h with reset1 := some .flr } else (s.clearVfEnable.noExpert).queueReset 0 .flr)
/-- PERST (R8, R422, R497, R499): the port's link, configuration space, controllers, mailboxes and rings are reset; on port 0 VF Enable is
cleared. While the host complex is off only the pin is seen. -/
def execPerst (port : Nat) (s : State) : Res :=
  whenUnit (decide (port < 2)) <|
    .next (if port == 1 && ! s.dual then s
      else
        let s := (s.modHostPort port fun p => { p with perst := true, link := .noLink, rate := 0, width := 0, pmeOff := false, acked := false, cto := 0 }).noExpert
        if ! s.hcxOn then s
        else
          let port1 := port == 1
          let s := (s.resetBoxes (s.portBox port1) 0x0803).resetRings 0 port1
          let s := s.modCtrl 0 port1 Ctrl.windowReset
          if port1 then s.modIo fun h => { h with reset1 := some .perst }
          else
            let s := each ((List.range 128).map (· + 1)) (fun s f => s.resetRings f false) s
            (s.clearVfEnable).queueReset 0 .perst)
/-- PERST_RELEASE (R468, R488, R499, R526): wake source 5; the device lets go of `WAKE#`; in the dumped state that follows a device fault
the release starts a deep reset. -/
def execPerstRelease (port : Nat) (s : State) : Res :=
  whenUnit (decide (port < 2)) <|
    let was := (s.hostPort port).perst
    .next (if ! was || (port == 1 && ! s.dual) then s
      else
        let s := s.modHostPort port fun p => { p with perst := false }
        let s := if port == 0 then s.modPwr fun p => { p with wakeDriven := false } else s
        if s.start.fault && s.pwr.dev == .dumped && ! s.start.untilPowerCycle then s.startAgain else s.wake 5)

/-- A port below its full rate or width (R388): 64 GT/s, ×8 alone and ×4 in dual mode. -/
def State.belowFull (s : State) (rate width : Nat) : Bool := decide (rate < 64) || decide (width < if s.dual then 4 else 8)
/-- HOST_LINK_STATE_CHANGE (R388, R463, R469): a link that reaches L0 clears arming, and reports a rate or width below full; L2/L3 Ready
arms crow's-nest mode under the crow's-nest on L2 control. -/
def execHostLinkStateChange (port : Nat) (link : HostLink) (rate width : Nat) (s : State) : Res :=
  whenUnit (decide (port < 2)) <|
    let p := s.hostPort port
    .next (if ! s.hcxOn || p.perst || ! s.hostPorts.contains port then s
      else
        let s := s.modHostPort port fun p => { p with link := link, rate := rate, width := width }
        if link == .l0 then
          let s := s.modPwr fun q => { q with armed := none }
          if s.belowFull rate width && (p.link == .noLink || p.rate != rate || p.width != width) then s.raise 481 1 1 [port, rate, width] else s
        else if link == .l23 && s.ctlValue ctlCrowOnL2 == 1 && s.pwr.armed.isNone then
          s.modPwr fun q => { q with armed := some (s.ctlValue ctlSampling) }
        else s)

/-! ## Queues, doorbells and the fetch (R395, R396, R441) -/

/-- Free entries of a completion queue less the commands fetched and not yet posted by the queues that name it (R441). -/
def State.cqRoom (s : State) (fn : Nat) (port1 : Bool) (cq : Cq) : Nat :=
  let c := s.ctrl fn port1
  let mine := c.sqs.filter (·.cq == cq.qid)
  let out := countIf (fun k => k.fn == fn && k.port1 == port1 && mine.any (·.qid == k.sq)) s.io.cmds
  cq.size - 1 - cq.entries.length - out - (if cq.qid == 0 then c.aer.length else 0)
/-- The engine may fetch from a queue (R186, R312, R396, R405, R406, R441). -/
def State.mayFetch (s : State) (fn : Nat) (port1 : Bool) (qid : Nat) : Bool :=
  let c := s.ctrl fn port1
  let room := match c.sqs.find? (·.qid == qid) with
    | none => false
    | some q => ! q.stalled && ((c.cqs.find? (·.qid == q.cq)).any fun cq => decide (0 < s.cqRoom fn port1 cq))
  s.configOpen fn port1 && ! s.dumping && ! s.halted && c.ccEn && c.rdy && ! s.paused fn port1 &&
    (fn == 0 || (s.fn fn).state == .online) && room && decide (s.io.fetched < 128) &&
    decide (countIf (fun k => k.fn == fn && k.phase == .held) s.io.cmds < 256)
/-- Non-posted requests outstanding at most, across all functions (R386). -/
def tagLimit : Nat := 1024
/-- Fetch an entry: a new held command whose descriptor walk begins (R185, R399). -/
def State.fetchEntry (s : State) (fn sq : Nat) (port1 : Bool) (op : Instr) (cid : Nat) : State :=
  let id := s.io.nextId
  let c : Cmd := { id := id, fn := fn, sq := sq, cid := cid, port1 := port1, op := op, arrival := s.clk.frame }
  let s := s.modIo fun h => { h with cmds := h.cmds ++ [c], nextId := id + 1, fetched := h.fetched + 1, lastFetch := fn }
  let next (q : Sq) : Sq := { q with head := (q.head + 1) % max 1 q.size }
  let s := s.modCtrl fn port1 fun c => { c with lastSq := sq, sqs := updIf (·.qid == sq) next c.sqs }
  match nvmeHdr op with
  | none => s
  | some h =>
    if h.hops == 0 then (if h.chainBad then s.conclude id stBadChain else s.modCmd id fun c => { c with walked := true })
    else if s.io.reqs.length < tagLimit then s.request { req := 0, fn := fn, port1 := port1, cmd := id, what := .walk, issued := 0 }
    else s
/-- An entry of a queue that was written earlier and waits. -/
def waitsIn (fn sq : Nat) (port1 : Bool) (x : Nat × Nat × Bool × Instr × Nat) : Bool := x.1 == fn && x.2.1 == sq && x.2.2.1 == port1
/-- A host writes a submission queue entry and its doorbell: it is fetched when its turn comes, which is at once where the engine may
fetch from the queue and nothing waits in it. An entry for a queue that does not stand, or that is full, reaches nothing. -/
def State.submit (s : State) (h : NvmeHdr) (op : Instr) : State :=
  let c := s.ctrl h.fn h.port1
  match c.sqs.find? (·.qid == h.sq) with
  | none => s
  | some q =>
    let tail := (q.tail + 1) % max 1 q.size
    if ! s.configOpen h.fn h.port1 || ! c.ccEn || tail == q.head then s
    else
      let s := s.modCtrl h.fn h.port1 fun c => { c with sqs := updIf (·.qid == h.sq) (fun q => { q with tail := tail, stalled := false }) c.sqs }
      if s.mayFetch h.fn h.port1 h.sq && ! s.io.submitted.any (waitsIn h.fn h.sq h.port1) then s.fetchEntry h.fn h.sq h.port1 op h.cid
      else s.modIo fun i => { i with submitted := i.submitted ++ [(h.fn, h.sq, h.port1, op, h.cid)] }
/-- The effect of every NVMe command row: its entry is submitted. -/
def submitted (h : NvmeHdr) (op : Instr) (s : State) : Res := whenUnit (ctrlUnit h.fn h.port1) <| .next (s.submit h op)

/-- SQ_TAIL_DOORBELL (R396, R405): a valid value ends a stall; an invalid one raises its asynchronous event and is ignored. -/
def execSqTailDoorbell (fn : Nat) (port1 : Bool) (sq tail : Nat) (s : State) : Res :=
  whenUnit (ctrlUnit fn port1) <|
    let c := s.ctrl fn port1
    .next (if ! s.configOpen fn port1 || ! c.ccEn then s
      else match c.sqs.find? (·.qid == sq) with
        | none => s.asyncEvent fn port1 0x010000
        | some q =>
          if q.size ≤ tail then s.asyncEvent fn port1 0x010100
          else s.modCtrl fn port1 fun c => { c with sqs := updIf (·.qid == sq) (fun q => { q with tail := tail, stalled := false }) c.sqs })
/-- CQ_HEAD_DOORBELL (R396, R441): the entries consumed leave the queue. -/
def execCqHeadDoorbell (fn : Nat) (port1 : Bool) (cq head : Nat) (s : State) : Res :=
  whenUnit (ctrlUnit fn port1) <|
    let c := s.ctrl fn port1
    .next (if ! s.configOpen fn port1 || ! c.ccEn then s
      else match c.cqs.find? (·.qid == cq) with
        | none => s.asyncEvent fn port1 0x010000
        | some q =>
          let taken := (head + q.size - q.head) % max 1 q.size
          if q.size ≤ head || q.entries.length < taken then s.asyncEvent fn port1 0x010100
          else s.modCtrl fn port1 fun c => { c with
            cqs := updIf (·.qid == cq) (fun q => { q with head := head, entries := q.entries.drop taken }) c.cqs })

/-- Arbitration Burst (feature 01h): entries of one queue before the next; 7 is without limit. -/
def Ctrl.burst (c : Ctrl) : Nat := let b := c.feature 0x01 0 % 8; if b == 7 then 65536 else 2 ^ b
/-- The queue whose turn it is: the function next after the one served last, and in it the queue next after its last. -/
def State.fetchTurn (s : State) : Option (Nat × Nat × Bool) :=
  let ready := s.io.submitted.filter fun x => s.mayFetch x.1 x.2.2.1 x.2.1
  (minBy (fun x : Nat × Nat × Bool × Instr × Nat =>
    let d := (x.1 + 258 - s.io.lastFetch - 1) % 129
    let q := (x.2.1 + 131072 - (s.ctrl x.1 x.2.2.1).lastSq - 1) % 65536
    (d * 2 + (if x.2.2.1 then 1 else 0)) * 65536 + q) ready).map fun x => (x.1, x.2.1, x.2.2.1)
/-- Take up to `n` entries of one queue. -/
def State.fetchFrom : Nat → Nat → Nat → Bool → State → State
  | 0, _, _, _, s => s
  | n + 1, fn, sq, port1, s =>
    match s.io.submitted.find? (waitsIn fn sq port1) with
    | none => s
    | some x =>
      if ! s.mayFetch fn port1 sq then s
      else
        let s := s.modIo fun h => { h with submitted := h.submitted.erase x }
        fetchFrom n fn sq port1 (s.fetchEntry fn sq port1 x.2.2.2.1 x.2.2.2.2)
/-- COMMAND_FETCH (R396, R405): one turn of the fetch. `failed` is how the read of the queue ended; a failure stalls the queue. -/
def execCommandFetch (failed : DmaEnd) (s : State) : Res :=
  .next <|
    match s.fetchTurn with
    | none => s
    | some (fn, sq, port1) =>
      if failed == .ok then s.fetchFrom (min 128 (s.ctrl fn port1).burst) fn sq port1
      else s.dmaFailed { req := 0, fn := fn, port1 := port1, what := .sqFetch sq, issued := s.clk.frame } (if failed == .timeout then 1 else 2)

/-! ## Outstanding requests (R403 to R405) -/

/-- Device timeout of a Completion Timeout Value, in frames (R404); 1,000 for a value without a row. -/
def timeoutOf : Nat → Nat
  | 0x1 => 6
  | 0x2 => 625
  | 0x5 => 3125
  | 0x6 => 12500
  | 0x9 => 50000
  | 0xA => 187500
  | 0xD => 750000
  | 0xE => 3750000
  | _ => 1000
/-- COMPLETION_TIMEOUT (R404, R405, R407): the request's tag is retired for twice the timeout, and its command fails, at resume where its
function is paused. -/
def execCompletionTimeout (req : Nat) (s : State) : Res :=
  .next <|
    match s.io.reqs.find? (·.req == req) with
    | none => s
    | some r =>
      let t := timeoutOf (s.hostPort (if r.port1 then 1 else 0)).cto
      if r.retiredUntil.isSome || s.clk.frame < r.issued + t then s
      else
        let wait := s.paused r.fn r.port1
        let gone (x : DmaReq) : DmaReq := if wait then { x with retiredUntil := some (s.clk.frame + 2 * t), expired := true }
          else { x with retiredUntil := some (s.clk.frame + 2 * t), what := .dropped, cmd := 0 }
        let s := s.modIo fun h => { h with reqs := updIf (·.req == req) gone h.reqs }
        if wait then s else s.dmaFailed r 1
/-- TIMED_OUT_TAG_REUSE (R405): twice the timeout has passed, and the tag returns to use. -/
def execTimedOutTagReuse (req : Nat) (s : State) : Res :=
  .next (s.modIo fun h => { h with reqs := h.reqs.filter fun r => ! (r.req == req && ! r.expired && r.retiredUntil.any fun f => decide (f ≤ s.clk.frame)) })
/-- READ_BACK (R403): the read-back of a command, a mailbox response or ring records ends. -/
def execReadBack (req : Nat) (result : DmaEnd) (s : State) : Res :=
  .next <|
    match s.io.reqs.find? (·.req == req) with
    | none => s.unexpected 0
    | some r =>
      match r.what with
      | .readBack | .mailbox _ | .ring _ _ | .dropped => s.dmaEnded req result 0 {}
      | .walk | .data _ | .sqFetch _ => s

/-! ## Pause and resume (R406, R407) -/

/-- Issue the reads of write data that are due and not outstanding, and a walk that has not begun. -/
def State.issueReads (s : State) (id : Nat) : State :=
  match s.cmd? id with
  | none => s
  | some c =>
    if s.paused c.fn c.port1 then s
    else
      let mine := s.io.reqs.filter fun r => r.cmd == id && r.retiredUntil.isNone
      let new (w : ReqFor) : DmaReq := { req := 0, fn := c.fn, port1 := c.port1, cmd := id, what := w, issued := 0 }
      let s := each (c.waiting.filter fun i => ! mine.any fun r => r.what == .data i) (fun s i =>
        if s.io.reqs.length < tagLimit then s.request (new (.data i)) else s) s
      let h := nvmeHdr c.op
      if c.phase == .held && ! c.walked && h.any (fun h => decide (c.hopsDone < h.hops)) && ! mine.any (fun r => r.what == .walk) &&
          decide (s.io.reqs.length < tagLimit) then
        s.request (new .walk)
      else s
/-- A function that is not paused goes on from where it stood: requests that timed out fail their commands, reads are issued, finished
commands are delivered, pending interrupts and ring records go out. -/
def State.resumeFn (s : State) (fn : Nat) (port1 : Bool) : State :=
  if s.paused fn port1 then s
  else
    let old := s.io.reqs.filter fun r => r.fn == fn && r.port1 == port1 && r.expired
    let s := each old (fun s r =>
      let s := s.modIo fun h => { h with reqs := updIf (·.req == r.req) (fun x => { x with expired := false, what := .dropped, cmd := 0 }) h.reqs }
      s.dmaFailed r 1) s
    let mine := s.io.cmds.filter fun c => c.fn == fn && c.port1 == port1
    let s := each mine (fun s c => s.issueReads c.id) s
    let s := each (mine.filter fun c => c.phase == .ready && ! s.delays c) (fun s c => s.deliver c.id (s.dataOfCmd c)) s
    let c := s.ctrl fn port1
    let due := c.pba.filter fun v => ! c.masked.contains v
    let s := (s.modCtrl fn port1 fun c => { c with pba := c.pba.filter fun v => ! due.contains v })
    let s := each due (fun s v => s.interrupt fn port1 v) s
    each ((List.range (if fn == 0 then 2 else 1)).filter fun r => s.ringPort1 fn r == port1) (fun s r => s.flushRing fn r) s
/-- Step 3 of R49: reads and walks that found no tag are issued as tags return. -/
def State.issueWaiting (s : State) : State :=
  each (s.io.cmds.filter fun c => ! c.waiting.isEmpty || (c.phase == .held && ! c.walked)) (fun s c => s.issueReads c.id) s
/-- The functions of a port, each with its window: port 0 has function 0 and the instances, port 1 the port 1 function. -/
def portFns (port : Nat) : List (Nat × Bool) := if port == 1 then [(0, true)] else (List.range 129).map fun f => (f, false)
/-- A paused function's pause is drained: none of its reads is outstanding (R406). -/
def State.drained (s : State) (fn : Nat) (port1 : Bool) : Bool :=
  s.paused fn port1 && ! s.io.reqs.any fun r => r.fn == fn && r.port1 == port1 && r.retiredUntil.isNone
/-- PME_TO_Ack is sent once every function of the port is drained. -/
def State.ackPme (s : State) (port : Nat) : State :=
  let p := s.hostPort port
  if p.pmeOff && ! p.acked && (portFns port).all fun (f, b) => s.drained f b then
    (s.modHostPort port fun p => { p with acked := true }).emit (.pmeToAck port)
  else s

/-- BUS_MASTER_ENABLE_CLEAR (R406). -/
def execBusMasterEnableClear (fn : Nat) (port1 : Bool) (s : State) : Res :=
  whenUnit (ctrlUnit fn port1) <|
    .next (if s.configOpen fn port1 then s.modCtrl fn port1 fun c => { c with pBme := true } else s)
/-- BUS_MASTER_ENABLE_SET (R406, R407). -/
def execBusMasterEnableSet (fn : Nat) (port1 : Bool) (s : State) : Res :=
  whenUnit (ctrlUnit fn port1) <|
    .next (if s.configOpen fn port1 && (s.ctrl fn port1).pBme then
        (s.modCtrl fn port1 fun c => { c with pBme := false }).resumeFn fn port1
      else s)
/-- PME_TURN_OFF (R406): every function of the port is paused until a reset; PME_TO_Ack follows once all are drained. -/
def execPmeTurnOff (port : Nat) (s : State) : Res :=
  whenUnit (decide (port < 2)) <|
    .next (if ! s.hcxOn || (s.hostPort port).perst || ! s.hostPorts.contains port then s
      else
        let s := s.modHostPort port fun p => { p with pmeOff := true }
        (each (portFns port) (fun s (f, b) => s.modCtrl f b fun c => { c with pPme := true }) s).ackPme port)
/-- PAUSE_DRAINED (R406). The window reports it from the outstanding requests. -/
def execPauseDrained (fn : Nat) (port1 : Bool) (s : State) : Res :=
  whenUnit (ctrlUnit fn port1) <|
    .next (if s.drained fn port1 then s.ackPme (if port1 then 1 else 0) else s)
/-- Functions named by a bitmap of 129 bits, both controllers of function 0 (R387). -/
def fnsOf (map : Nat) : List (Nat × Bool) := (bitsOf map 129).flatMap fun f => if f == 0 then [(0, false), (0, true)] else [(f, false)]
/-- Pause Host DMA. -/
def effPauseHostDma (fns : Nat) (s : State) : Eff :=
  (each (fnsOf fns) (fun s (f, b) => s.modCtrl f b fun c => { c with pCmd := true }) s, okR)
/-- Resume Host DMA: a function without another cause resumes. -/
def effResumeHostDma (fns : Nat) (s : State) : Eff :=
  (each (fnsOf fns) (fun s (f, b) => (s.modCtrl f b fun c => { c with pCmd := false }).resumeFn f b) s, okR)
/-- Step 3 of R49: functions whose last cause, a handshake, has ended go on. -/
def State.resumeAll (s : State) : State :=
  let waits (f : Nat) (b : Bool) : Bool := s.io.cmds.any (fun c => c.fn == f && c.port1 == b && (c.phase == .ready || ! c.waiting.isEmpty)) ||
    ! (s.ctrl f b).pba.isEmpty || s.io.reqs.any fun r => r.fn == f && r.port1 == b && r.expired
  each (((portFns 0) ++ (portFns 1)).filter fun (f, b) => waits f b) (fun s (f, b) => s.resumeFn f b) s

/-! ## Interrupts (R398) -/

/-- INTERRUPT_COALESCING (R398): the coalescing time of a vector has elapsed. -/
def execInterruptCoalescing (fn : Nat) (port1 : Bool) (vector : Nat) (s : State) : Res :=
  whenUnit (ctrlUnit fn port1) <|
    .next (if (s.ctrl fn port1).coalesce.any fun x => x.1 == vector && decide (x.2 ≤ s.clk.frame) then
        (s.modCtrl fn port1 fun c => { c with coalesce := c.coalesce.filter (·.1 != vector) }).interrupt fn port1 vector
      else s)
/-- MSIX_UNMASK (R398): the mask bit of a vector is written; one that is unmasked with its PBA bit set sends its message. -/
def execMsixUnmask (fn : Nat) (port1 : Bool) (vector : Nat) (mask : Bool) (s : State) : Res :=
  whenUnit (ctrlUnit fn port1) <|
    .next (if ! s.barOpen fn port1 then s
      else if mask then s.modCtrl fn port1 fun c => { c with masked := dedupN (c.masked ++ [vector]) }
      else
        let s := s.modCtrl fn port1 fun c => { c with masked := c.masked.filter (· != vector) }
        let c := s.ctrl fn port1
        if c.pba.contains vector && ! s.paused fn port1 then
          (s.modCtrl fn port1 fun c => { c with pba := c.pba.filter (· != vector) }).interrupt fn port1 vector
        else s)

end Sys2Proof.Machine
end

