-- ==== Sys2Proof/Machine/Admission.lean ====
section
/-! DEFINITION. Admission of I/O commands at step 8 of a frame: their checks, what they reserve, their cost, the order of the functions and
the effect of each command (R96 to R128, R145, R174 to R190, R222, R231 to R234, R298, R381, R382, R439, R440). -/

namespace Sys2Proof.Machine

/-- What admission makes of a command that is presented to it. -/
inductive Judged where
  /-- it stays held, with a cause -/
  | hold (cause : HoldCause)
  /-- a check fails: it is assigned nothing and ends with a status -/
  | fail (s : State) (st : NvmeStatus) (lba : Option Nat)
  /-- its cost, and the state once it is admitted -/
  | go (s : State) (cost : Cost)

/-! ## Checks that every I/O command shares (R96, R320, R391) -/

/-- Largest transfer, 2 MiB (R391), and largest Zone Append, 1 MiB (R121), in blocks. -/
def mdts : Nat := 512
def zasl : Nat := 256
/-- The namespace of an I/O command, attached to its function. -/
def State.ioNs (s : State) (c : Cmd) : Option Namespace :=
  (s.ns? c.nsid).bind fun n => if ! n.deleted && n.attached.contains c.fn then some n else none
/-- The checks of an extent: a namespace attached to the function, a length, the range. -/
def State.extentBad (s : State) (c : Cmd) (e : Extent) (transfers : Bool) : Option NvmeStatus :=
  match s.ioNs c with
  | none => some stInvalidNs
  | some n =>
    if e.nlb == 0 || (transfers && decide (mdts < e.nlb)) then some stInvalidField
    else if n.blocks s.profile < e.slba + e.nlb then some stLbaRange
    else none
/-- Internal completion slots of a function (R440). -/
def State.slotRoom (s : State) (fn : Nat) : Bool :=
  decide (countIf (fun k => k.fn == fn && k.admitted.isSome) s.charged < 32 * (s.allocOf fn 1 + 1))
/-- A command is admitted in this frame, after those admitted before it (R177). -/
def State.markAdmitted (s : State) (id : Nat) (k : LatClass) (reserved : Bool) : State :=
  (s.modCmd id fun c => { c with
    phase := .running, admitted := some s.clk.frame, cls := k, onReserved := reserved, cause := none, heldSince := none, order := s.io.nextAdmit }).modIo
    fun h => { h with nextAdmit := h.nextAdmit + 1 }

/-! ## Reads (R166, R174, R177, R178, R183, R188 to R190, R298, R439) -/

/-- A member LUN is usable for a contracted read (R174). -/
def State.usable (s : State) (g : Segment) (q : Nat) : Bool :=
  ! (s.segErasures g).contains q && ! s.nonSuspendable (s.memberGlun g q) && s.canSuspend (s.memberGlun g q)
/-- Commands whose reads are contracted (R175). -/
def State.contractedCmds (s : State) : List Cmd :=
  s.io.cmds.filter fun c => (c.phase == .running || c.phase == .squashed) && c.cls != .c
/-- Contracted reads and reservations outstanding on a LUN (R177): those of one unit of a command are one. -/
def State.outstanding (s : State) (glun : Nat) : Nat :=
  sumOf (fun c => (dedupN ((c.blocks.filter fun b => b.holds glun).map (·.key))).length) s.contractedCmds
/-- LUNs that a block of a read still reads in its present step, or may still turn to. -/
def RBlock.load (b : RBlock) : List Nat := if b.phase != 0 then [] else (if b.failedAt == 0 then b.reads else []) ++ b.reserves
/-- Planned cycles of the outstanding contracted reads on a port (R178). -/
def State.contractedCycles (s : State) (port : Nat) : Nat :=
  sumOf (fun c => sumOf (fun b => sumOf (fun x => if portOfLun x == port then s.readCycles x true 1 1 else 0) (RBlock.load b)) c.blocks) s.contractedCmds

/-- The media blocks of a read that lie in one unit. -/
structure Part where
  seg : Segment
  row : Nat
  unit : Nat
  count : Nat
/-- The parts of a read: its blocks that need media, by unit. -/
def State.parts (s : State) (c : Cmd) : List Part :=
  (c.blocks.filter (·.phase == 0)).foldl (fun l b =>
    match s.viewOf b.nsid b.lba with
    | .media q row unit =>
      match s.seg? q with
      | none => l
      | some g =>
        if l.any fun p => p.seg.seq == q && p.row == row && p.unit == unit then
          l.map fun p => if p.seg.seq == q && p.row == row && p.unit == unit then { p with count := p.count + 1 } else p
        else l ++ [{ seg := g, row := row, unit := unit, count := 1 }]
    | _ => l) []
def Part.member (p : Part) : Nat := memberOf p.seg.width p.unit p.row
/-- What a part reads and reserves: LUNs that it reads, at a ladder step, and LUNs on which it takes reservations. -/
structure Picked where
  reads : List Nat
  reserves : List Nat := []
  step : Nat := 1
/-- A read of the part's member waits for it: it is in non-suspendable work, and nothing may be read around it (R91). -/
def State.waitsBusy (s : State) (p : Part) : Bool :=
  let g := p.seg
  s.nonSuspendable (s.memberGlun g p.member) && ! (s.rowErasures g p.row).contains p.member && s.effBudget g.width g.g g.l == 0
/-- The members a bounded part uses (R189, R190), lowest numbers first: none when R177 does not let it choose them. -/
def State.pickBounded (s : State) (k : LatClass) (p : Part) : Option Picked :=
  let g := p.seg
  let lim := if k == .a then 0 else 1
  let lun (q : Nat) : Nat := s.memberGlun g q
  let target := p.member
  let direct := s.usable g target || s.waitsBusy p
  let others := (List.range g.width).filter fun q => q != target && s.usable g q
  let free := others.filter fun q => decide (s.outstanding (lun q) ≤ lim)
  let need := min (dataOf g.width + 1) others.length
  if lim < s.outstanding (lun target) || decide (free.length < need) || (! direct && decide (need < dataOf g.width)) then none
  else
    let set := (free.take need).map lun
    if ! direct then some { reads := set }
    else if k == .a then some { reads := lun target :: set }
    else some { reads := [lun target], reserves := set }
/-- The members an unbounded part reads: its target, or the members that rebuild it when it is an erasure or busy; none when R177 does not let a
contracted read have them. A class C read is read around only when k + 1 other members are idle or reading; otherwise it waits for its
target (R179). -/
def State.pickPlain (s : State) (k : LatClass) (p : Part) : Option Picked :=
  let g := p.seg
  let target := p.member
  let lun (q : Nat) : Nat := s.memberGlun g q
  let room (x : Nat) : Bool := k == .c || decide (s.outstanding x ≤ if k == .a then 0 else 1)
  let first (ok : Nat → Bool) : List Nat := (((List.range g.width).filter fun q => q != target && ok q).take (dataOf g.width + 1)).map lun
  let idle := first fun q => ! (s.rowErasures g p.row).contains q && ! s.nonSuspendable (lun q) && (match (s.lun (lun q)).work with
    | none => true
    | some w => w.kind == DieOp.read || w.kind == DieOp.pslcRead)
  let around := if k == .c then idle else first fun q => s.usable g q && room (lun q)
  let direct : Option Picked := if room (lun target) then some { reads := [lun target] } else none
  if (s.unserved g p.row target).isSome then direct
  else if (s.rowErasures g p.row).contains target then
    let l := s.rebuildLuns g p.row target
    if l.all room then some { reads := l, step := 4 } else none
  else if ! s.nonSuspendable (lun target) || s.waitsBusy p then direct
  else if k == .c then (if dataOf g.width < idle.length then some { reads := idle } else direct)
  else if dataOf g.width ≤ around.length then some { reads := around } else none
/-- The read of a block begins as picked for its unit. -/
def Picked.start (x : Picked) (frame : Nat) (b : RBlock) : RBlock := { b.beginStep x.step frame x.reads with reserves := x.reserves }

/-- Blocks that a bounded read of a class may have (R188). -/
def boundedBlocks : LatClass → Nat
  | .a => 4
  | .b => 8
  | .c => 0
/-- Opcodes that transfer what they name. -/
def transfersData : Instr → Bool
  | .read _ _ | .compare _ _ _ | .write _ _ | .zoneAppend _ _ => true
  | _ => false
/-- Class under which a command is judged: its function's, but C for a read that R186 has demoted. -/
def State.judgeClass (s : State) (c : Cmd) : LatClass := if c.demoted then .c else (s.fn c.fn).contract.cls
/-- A read has been held for LUN contention or port budget longer than its class bound: it is a class C read from now on (R186). -/
def State.demoteReads (s : State) : State :=
  let due (c : Cmd) : Bool :=
    let k := (s.fn c.fn).contract.cls
    c.phase == .held && isRead c.op && k != .c && (c.cause == some .lunContention || c.cause == some .portBudget) &&
      c.heldSince.any fun f => decide (f + s.normalBound k < s.clk.frame)
  s.modCmds due fun c => { c with demoted := true }

/-- Judge a read (R166, R177, R178, R188, R298, R439). -/
def State.judgeRead (s : State) (c : Cmd) (e : Extent) (reserved : Bool) : Judged :=
  match s.extentBad c e (transfersData c.op) with
  | some st => .fail s st none
  | none =>
    if ! c.translated then .hold .translation
    else
      let n := (s.ioNs c).getD { nsid := 0 }
      let lbas := (List.range e.nlb).map (e.slba + ·)
      let refs := lbas.filterMap fun l => (s.block? n.nsid l).bind fun b => if b.marker == .data then some b.keyRef else none
      match (dedupN refs).findSome? (s.openCheck n) with
      | some st => .fail s st none
      | none =>
        let k := s.judgeClass c
        let s1 := (s.markAdmitted c.id k reserved).modCmd c.id fun c => { c with blocks := lbas.map fun l => { nsid := n.nsid, lba := l, since := s.clk.frame } }
        let s1 := s1.lookAll ((s1.cmd? c.id).getD c)
        let c1 := (s1.cmd? c.id).getD c
        let parts := s1.parts c1
        let bound := s.readBound k (parts.map (·.seg))
        let isBounded : Bool := reserved && (match c.op with | .read _ _ | .compare _ _ _ => true | _ => false) && decide (e.nlb ≤ boundedBlocks k) &&
          s.clk.frame == c.arrival + 1 && ! parts.isEmpty && ! (c1.blocks.any fun b => b.phase == 3) && bound != 0 &&
          parts.all fun p => (s.unserved p.seg p.row p.member).isNone
        let contracted := k != .c
        let picks := parts.map fun p => (p, if isBounded then s.pickBounded k p else s.pickPlain k p)
        if picks.any fun x => x.2.isNone then .hold .lunContention
        else
          let started := c1.blocks.map fun b =>
            match if b.phase == 0 then picks.find? fun x => unitKey x.1.seg.seq x.1.row x.1.unit == b.key else none with
            | some (_, some x) => x.start s.clk.frame b
            | _ => b
          let ports := s.portsOf contracted 1 (started.flatMap fun b => if b.phase == 0 then b.reads else [])
          let whole := s.portsOf true 1 (started.flatMap RBlock.load)
          if contracted && whole.any fun x => decide (1600 < s.contractedCycles x.1 + x.2) then .hold .portBudget
          else
            let parity := if isBounded then sumOf (fun p : Part => p.count * (dataOf p.seg.width + 1)) parts else 0
            if ! (s.fnRoom c.fn e.nlb && s.classRoom .readReturn e.nlb && s.classRoom .parity parity && s.slotRoom c.fn) then .hold .share
            else
              let s2 := s1.modCmd c.id fun c => { c with
                bounded := isBounded, bound := if isBounded then bound else 0, cond := if isBounded then bound else 0
                condE := maxOf (parts.map fun p => s.setErasures p.seg.width p.seg.g p.seg.l), parity := parity, blocks := started
                luns := if contracted then dedupN (started.flatMap RBlock.load) else [] }
              let s2 := if isBounded then s2.modFn c.fn fun f => { f with counters := { f.counters with bounded := f.counters.bounded + 1 } } else s2
              .go (s2.finishRead c.id) { units := if transfersData c.op then e.nlb else 1, ports := ports }

/-! ## Writes (R110, R111, R118, R121, R132, R145, R231 to R234, R298, R381, R382) -/

/-- The block at position `i` of a write (R101, R121), with the tags that the device gives it: reference tags count on Type 1, and follow the
assigned LBA with PIREMAP. Tags that the host transfers replace them as the block arrives. -/
def blockOfWrite (n : Namespace) (c : Cmd) (k : WriteKind) (e : Extent) (lba i : Nat) : Stored :=
  let tag := if n.lbaf != 1 then 0
    else if k == .append && e.piremap && n.pi == 1 then lba % 2 ^ 48
    else if n.pi == 1 then (e.refTag + i) % 2 ^ 48 else e.refTag
  { nsid := n.nsid, lba := lba, gen := 0, appTag := if n.lbaf == 1 then e.appTag else 0, refTag := tag
    place := if k == .zeroes then .openRow else .waiting, arrived := k == .zeroes, cmd := c.id, fn := c.fn }
/-- The blocks assigned between two states. -/
def State.newBlocks (s t : State) : List Stored := t.media.blocks.filter fun b => decide (s.media.order ≤ b.order)
/-- Blocks that a write adds to each mast's dirty count (R145). -/
def addedDirty (l : List Stored) : List (Nat × Nat) := l.map fun b => (b.mast, 1)
/-- Media cost of assigned blocks: the data-in bursts of every pass, on the members' ports (R183). -/
def State.writePorts (t : State) (l : List Stored) (times : Nat) : List (Nat × Nat) :=
  l.foldl (fun acc b =>
    match t.seg? b.seg with
    | none => acc
    | some g => addPort (portOfLun (t.memberGlun g (memberOf g.width b.unit b.row))) (times * t.profile.passesPerWl * burstCycles t.profile) acc) []
/-- Masts that a command needs are asked for (R38, R129). -/
def State.demandFor (s : State) (ms : List Nat) : State := each (dedupN ms) State.demandMast s
/-- An assigned write is admitted when its buffers, its slot and its energy are there. `held` is set once a write of this frame has failed the
energy test (R145). -/
def State.admitWrite (s t : State) (c : Cmd) (n : Namespace) (k : WriteKind) (e : Extent) (lba times : Nat) (held : Bool) : Judged :=
  let new := s.newBlocks t
  if ! (s.fnRoom c.fn e.nlb && s.classRoom .writeRows e.nlb && s.slotRoom c.fn) then .hold .share
  else if held || ! s.nrg.firstDone || ! s.energyAdmits (addedDirty new) then .hold .energy
  else
    let t := (t.markAdmitted c.id (s.fn c.fn).contract.cls c.onReserved).modCmd c.id fun c => { c with
      range := some (n.nsid, lba, e.nlb), waiting := if k == .zeroes then [] else List.range e.nlb
      result := if k == .append then lba else 0 }
    let t := t.demandFor ((new.filterMap fun b => t.seg? b.seg).flatMap fun g => (t.zone g.nsid (g.zone.getD 0)).home :: (t.setLuns g.width g.g g.l).map mastOfLun)
    .go ((t.issueReads c.id).ackWrite c.id) { units := if k == .zeroes then 1 else e.nlb, ports := t.writePorts new times }

/-- The checks of a zone's relationship (R381, R382): Mirror Unavailable while it is broken with the policy stop; a lag beyond the limit
holds. -/
def State.mirrorCheck (s : State) (n : Namespace) (z : Zone) : Option (Option NvmeStatus) :=
  match if z.state == .empty then s.mirrorFor n.nsid z.zi else z.mirror.bind s.mirror? with
  | none => none
  | some m =>
    if m.broken then (if m.lossPolicy == 0 then some (some stMirrorUnavailable) else none)
    else if m.lagLimit < s.mirrorLag m then some none
    else none
/-- Judge a write of a zone: the checks of R111 in order, then R298, the mirror, and what it reserves. The size limits and the LBA range are checked
before them, and an implicit close of check 6 is undone when a later check fails (DESIGN CHOICE, log 60). -/
def State.judgeZoneWrite (s : State) (c : Cmd) (n : Namespace) (k : WriteKind) (e : Extent) (held : Bool) : Judged :=
  let zs := max 1 (n.zoneSize s.profile)
  let zi := e.slba / zs
  let z := n.zone zi
  let lba := zi * zs + z.wp
  if k == .append && decide (zasl < e.nlb) then .fail s stInvalidField none
  else if z.state == .full then .fail s stZoneFull none
  else if z.state == .readOnly then .fail s stZoneReadOnly none
  else if z.state == .offline then .fail s stZoneOffline none
  else if k == .append && e.slba % zs != 0 then .fail s stInvalidField none
  else if k != .append && e.slba != lba then .fail s stZoneWrite none
  else if s.zoneCap n z < z.wp + e.nlb then .fail s stBoundary none
  else
    let empty := z.state == .empty
    match if empty then s.classCheck n (n.zoneClass z) else none with
    | some st => .fail s st none
    | none =>
      match s.takeResources n empty (! z.state.isOpen) true with
      | (_, some st) => .fail s st none
      | (s1, none) =>
        if s.media.readPreserve then .fail s stWriteProtected none
        else if ! empty && s.needsBarred z e.nlb then .fail s stClassUnavailable none
        else
          let n1 := (s1.ns? n.nsid).getD n
          let s2 := if empty then s1.leaveEmpty n1 zi (n1.zoneClass z) .implicitOpen
            else if z.state == .closed then s1.setZone n.nsid zi .implicitOpen else s1
          let base := zi * zs
          match s2.assignZone n.nsid zi e.nlb (fun i => blockOfWrite n c k e (base + z.wp + i) i) with
          | none => .fail ((s.finishByDevice n zi).enterReadPreserve) stCapacity none
          | some t =>
            match s.sealCheck n (if empty then s.currentKey n else some z.keyRef) e.nlb with
            | some st => .fail s st none
            | none =>
              match s.mirrorCheck n z with
              | some (some st) => .fail s st none
              | some none => .hold .mirror
              | none => s.admitWrite t c n k e lba 1 held

/-- Assign a run of conventional LBAs: the state, or whether the reservation is used up. -/
def State.assignRun (n : Namespace) (ref : Nat) (mk : Nat → Stored) : List Nat → State → Except Bool State
  | [], s => .ok s
  | l :: ls, s =>
    match s.assignConv n.nsid l ref (mk l) with
    | some t => assignRun n ref mk ls t
    | none => .error (((s.ns? n.nsid).map (·.csegsLeft)).getD 0 == 0)
/-- Judge a write of a conventional region (R132, R222, R231 to R234, R298). -/
def State.judgeConvWrite (s : State) (c : Cmd) (n : Namespace) (k : WriteKind) (e : Extent) (held : Bool) : Judged :=
  if k == .append then .fail s stInvalidOpcode none
  else if s.media.readPreserve then .fail s stWriteProtected none
  else
    let key := s.currentKey n
    match State.assignRun n (key.getD 0) (fun l => blockOfWrite n c k e l (l - e.slba)) ((List.range e.nlb).map (e.slba + ·)) s with
    | .error used =>
      if ! used && s.widthBarred n.cwidth then .fail s stClassUnavailable none
      else .fail (if used then s else s.enterReadPreserve) stCapacity none
    | .ok t =>
      match s.sealCheck n key e.nlb with
      | some st => .fail s st none
      | none => s.admitWrite t c n k e e.slba (if n.csegsLeft == 1 then 2 else 1) held
def State.judgeWrite (s : State) (c : Cmd) (k : WriteKind) (e : Extent) (held : Bool) : Judged :=
  match s.ioNs c with
  | none => .fail s stInvalidNs none
  | some n =>
    if n.conv && k == .append then .fail s stInvalidOpcode none
    else match s.extentBad c e (k != .zeroes) with
      | some st => .fail s st none
      | none => if n.conv then s.judgeConvWrite c n k e held else s.judgeZoneWrite c n k e held

/-! ## Zone management and the other commands (R96, R97, R110, R112, R115, R117) -/

/-- The zone named by its start; none when the address names none. -/
def State.zoneAt (s : State) (n : Namespace) (slba : Nat) : Except NvmeStatus Nat :=
  let zs := max 1 (n.zoneSize s.profile)
  if n.blocks s.profile ≤ slba then .error stLbaRange
  else if slba % zs != 0 then .error stInvalidField
  else .ok (slba / zs)
/-- A zoned namespace attached to the function: Zone Management is not of a conventional region's command set. -/
def State.zonedNs (s : State) (c : Cmd) : Except NvmeStatus Namespace :=
  match s.ioNs c with
  | none => .error stInvalidNs
  | some n => if n.conv then .error stInvalidOpcode else .ok n
/-- An admitted command ends with a status now, or, where it wrote a zone's record, once that is durable. -/
def State.endZoneCmd (s t : State) (id : Nat) (st : NvmeStatus) (wait : Bool) : State :=
  if wait && (t.journal 8).next != (s.journal 8).next then
    t.modCmd id fun c => { c with sct := st.sct, sc := st.sc, dnr := st.dnr, waitsFor := some ((t.journal 8).next - 1) }
  else t.conclude id st
/-- Zone Management Send with an action of R110. -/
def State.zoneSend (s : State) (c : Cmd) (a : ZoneAction) (slba : Nat) (sel : Bool) : State :=
  let wait := a == .finish || a == .reset || a == .offline
  match s.zonedNs c with
  | .error st => s.conclude c.id st
  | .ok n =>
    if sel then
      let (t, st) := (s.demandFor ((n.zones.filter (·.homed)).map (·.home))).zoneActionAll n.nsid a
      s.endZoneCmd t c.id st wait
    else match s.zoneAt n slba with
      | .error st => s.conclude c.id st
      | .ok zi =>
        let (t, st) := (s.demandFor (if (n.zone zi).homed then [(n.zone zi).home] else [])).zoneAction n.nsid zi a
        s.endZoneCmd t c.id st wait
/-- Zone Management Send, Set Zone Descriptor Extension. -/
def State.zoneExtension (s : State) (c : Cmd) (slba : Nat) (ext : Wide) : State :=
  match s.zonedNs c with
  | .error st => s.conclude c.id st
  | .ok n =>
    match s.zoneAt n slba with
    | .error st => s.conclude c.id st
    | .ok zi =>
      let (t, st) := (s.demandFor (if (n.zone zi).homed then [(n.zone zi).home] else [])).setExtension n.nsid zi ext
      t.conclude c.id st
/-- A zone management command with an action that the device does not support, or with Select All where it has none (R97). -/
def State.zoneInvalid (s : State) (c : Cmd) : State :=
  match s.zonedNs c with
  | .error st => s.conclude c.id st
  | .ok _ => s.conclude c.id stInvalidField
/-- A command that returns a data structure. -/
def State.giveData (s : State) (id : Nat) (fields : List Nat) (result : Nat := 0) : State :=
  (s.modCmd id fun c => { c with fields := fields }).conclude id stOk [] result
/-- Zone Management Receive. -/
def State.zoneReceive (s : State) (c : Cmd) (slba filter : Nat) (part : Bool) (limit : Nat) (extended : Bool) : State :=
  match s.zonedNs c with
  | .error st => s.conclude c.id st
  | .ok n =>
    if n.blocks s.profile ≤ slba then s.conclude c.id stLbaRange
    else if 7 < filter then s.conclude c.id stInvalidField
    else s.giveData c.id (s.reportZones n slba filter part limit extended)
/-- Dataset Management (R96, R132, R234). -/
def State.dataset (s : State) (c : Cmd) (deallocate : Bool) (ranges : List (Nat × Nat)) : State :=
  match s.ioNs c with
  | none => s.conclude c.id stInvalidNs
  | some n =>
    if ! deallocate then s.conclude c.id stOk
    else if ! n.conv then s.conclude c.id stInvalidField
    else if ranges.any fun (l, k) => decide (n.blocks s.profile < l + k) then s.conclude c.id stLbaRange
    else if s.media.readPreserve then s.conclude c.id stWriteProtected
    else
      let hit := (n.map.map (·.1)).filter fun l => ranges.any fun (a, k) => decide (a ≤ l) && decide (l < a + k)
      let s := each hit (fun s l => s.unmapConv n.nsid l) s
      let gone := ((s.ns? n.nsid).map (·.map.isEmpty)).getD false
      let s := if gone then s.modMedia fun m => { m with marked := m.marked.filter (· != n.nsid) } else s
      s.conclude c.id stOk
/-- Flush (R96): no media work. -/
def State.flushCmd (s : State) (c : Cmd) : State :=
  s.conclude c.id (if c.nsid == 0xFFFFFFFF || (s.ioNs c).isSome then stOk else stInvalidNs)

/-- The effect of an I/O command other than a read or a write. -/
def State.runOther (s : State) (c : Cmd) : State :=
  match c.op with
  | .flush _ => s.flushCmd c
  | .datasetManagement _ d r => s.dataset c d r
  | .closeZone _ l a => s.zoneSend c .close l a
  | .finishZone _ l a => s.zoneSend c .finish l a
  | .openZone _ l a => s.zoneSend c .openZ l a
  | .resetZone _ l a => s.zoneSend c .reset l a
  | .offlineZone _ l a => s.zoneSend c .offline l a
  | .setZoneDescriptorExtension _ l x a => if a then s.zoneInvalid c else s.zoneExtension c l x
  | .reportZones _ l f p k => s.zoneReceive c l f p k false
  | .extendedReportZones _ l f p k => s.zoneReceive c l f p k true
  | .invalidCommandOpcode _ op => if op == 0x79 || op == 0x7A then s.zoneInvalid c else s.conclude c.id stInvalidOpcode
  | _ => s.conclude c.id stInvalidOpcode

/-- Judge a command that is presented to admission: a write, a read, or any other command, which costs one unit. -/
def State.judge (s : State) (c : Cmd) (reserved held : Bool) : Judged :=
  match writeExtent c.op, readExtent c.op with
  | some (k, e), _ => s.judgeWrite { c with onReserved := reserved } k e held
  | none, some e => s.judgeRead c e reserved
  | none, none =>
    if ! s.slotRoom c.fn then .hold .share
    else
      let t := s.markAdmitted c.id (s.fn c.fn).contract.cls reserved
      .go (t.runOther ((t.cmd? c.id).getD c)) { units := 1 }

/-! ## The order of admission (R185) -/

/-- Capacity left in the frame covers an amount; an amount larger than a whole frame's capacity needs that capacity untouched. -/
def covers (need left whole : Nat) : Bool := decide (need ≤ left) || (decide (whole < need) && decide (whole ≤ left))
def State.capCovers (s : State) (c : Cost) : Bool :=
  covers c.units s.io.capAdm s.capUnits && c.ports.all fun x => covers x.2 (s.io.capMed.getD x.1 0) s.capCycles
/-- Deduct a cost from a function's credits and from the frame's capacity. -/
def State.charge (s : State) (fn : Nat) (c : Cost) : State :=
  (s.modFn fn fun f => f.charge c s.portN).modIo fun h => { h with
    capAdm := h.capAdm - c.units, capMed := c.ports.foldl (fun l x => l.modify x.1 (· - x.2)) h.capMed }
/-- Count a held command by its cause (R195). -/
def Counters.held (k : Counters) : HoldCause → Counters
  | .share => { k with hShare := k.hShare + 1 }
  | .energy => { k with hEnergy := k.hEnergy + 1 }
  | .translation => { k with hTranslation := k.hTranslation + 1 }
  | .lunContention => { k with hLun := k.hLun + 1 }
  | .portBudget => { k with hPort := k.hPort + 1 }
  | .mirror => { k with hMirror := k.hMirror + 1 }
/-- Causes whose time of holding counts (R146, R186, R381). -/
def timedCause : HoldCause → Nat
  | .energy | .mirror => 1
  | .lunContention | .portBudget => 2
  | .share | .translation => 0
/-- Record why a command is held; a new cause is counted. -/
def State.holdFor (s : State) (c : Cmd) (k : HoldCause) : State :=
  if c.cause == some k then s
  else
    let since := if timedCause k == 0 then none else if (c.cause.map timedCause) == some (timedCause k) then c.heldSince else some s.clk.frame
    (s.modCmd c.id fun c => { c with cause := some k, heldSince := since }).modFn c.fn fun f => { f with counters := f.counters.held k }

/-- A pass of admission under way: functions passed over, the function served last, whether the round admitted something, and whether a write
has failed the energy test. -/
structure Pass where
  s : State
  passed : List Nat := []
  last : Nat := 0
  moved : Bool := false
  held : Bool := false

/-- Commands that may be admitted: fetched in an earlier frame, and presented (R58, R166, R399). -/
def State.presented (s : State) (c : Cmd) : Bool :=
  c.phase == .held && c.sq != 0 && decide (c.arrival < s.clk.frame) && c.walked && (c.translated || ! isRead c.op || (s.ioNs c).isNone)
/-- One command for one function's turn, the oldest that is held, so that commands stay in fetch order (R185). Causes are recorded in the burst pass only, where a command's fate in the frame is settled. -/
def Pass.turn (reserved : Bool) (ok : State → Cmd → Bool) (p : Pass) (fn : Nat) : Pass :=
  if p.passed.contains fn then p
  else
    let beyond := { p with passed := p.passed ++ [fn] }
    let stop (c : Cmd) (k : HoldCause) : Pass := { beyond with
      s := if reserved then p.s else p.s.holdFor c k, held := p.held || k == .energy }
    match p.s.io.cmds.find? fun c => c.fn == fn && c.phase == .held && c.sq != 0 && decide (c.arrival < p.s.clk.frame) with
    | none => beyond
    | some c =>
      if ! p.s.presented c then { beyond with s := if reserved then p.s else p.s.holdFor c .translation }
      else if ! ok p.s c then beyond
      else match p.s.judge c reserved p.held with
      | .hold k => stop c k
      | .fail t st lba => { p with s := t.conclude c.id st [] 0 lba, moved := true }
      | .go t cost =>
        if ! (p.s.fn fn).fits reserved cost || ! p.s.capCovers cost then stop c .share
        else { p with s := t.charge fn cost, last := fn, moved := true }
/-- Rounds over the functions until a whole round admits nothing. -/
def Pass.rounds (reserved : Bool) (ok : State → Cmd → Bool) (fns : List Nat) : Nat → Pass → Pass
  | 0, p => p
  | n + 1, p =>
    let q := fns.foldl (Pass.turn reserved ok) { p with moved := false }
    if q.moved then rounds reserved ok fns n q else q
/-- Functions in turn, starting after the one served last. -/
def afterLast (last : Nat) (l : List Nat) : List Nat := (l.filter (last < ·)) ++ (l.filter (· ≤ last))
/-- A pass over the presented commands that satisfy `ok`. -/
def State.pass (s : State) (reserved : Bool) (ok : State → Cmd → Bool) (last : Nat) (held : Bool) : Pass :=
  let cands := s.io.cmds.filter fun c => s.presented c && ok s c
  let fns := (List.range 129).filter fun f => cands.any (·.fn == f)
  Pass.rounds reserved ok (afterLast last fns) (cands.length + 1) { s := s, last := last, held := held }

/-- The I/O part of step 8: reserved credit, class A, then B, then C; burst credit; then every command that is left has a cause. A frame in
which a write is held by the energy test, or the device is in deficit, parks held data (R150). -/
def State.admitIo (s : State) : State :=
  let s := s.demoteReads.modIo fun h => { h with capAdm := s.capUnits, capMed := List.replicate s.portN s.capCycles }
  let ofClass (k : LatClass) (s : State) (c : Cmd) : Bool := s.judgeClass c == k
  let a := s.pass true (ofClass .a) s.io.lastA false
  let b := a.s.pass true (ofClass .b) s.io.lastB a.held
  let c := b.s.pass true (ofClass .c) s.io.lastC b.held
  let d := c.s.pass false (fun _ _ => true) s.io.lastBurst c.held
  let s := d.s.modIo fun h => { h with lastA := a.last, lastB := b.last, lastC := c.last, lastBurst := d.last }
  let left := s.io.cmds.filter fun c => c.phase == .held && c.sq != 0 && decide (c.arrival < s.clk.frame)
  let s := each left (fun s c =>
    if ! s.presented c then s.holdFor c .translation else if c.cause.isNone || c.cause == some .translation then s.holdFor c .share else s) s
  if d.held || s.nrg.deficit then s.parkOldest else s

end Sys2Proof.Machine
end

