-- ==== Sys2Proof/Machine/Admin.lean ====
section
/-! DEFINITION. NVMe admin commands: Identify, log pages, features, queues, abort and event requests, namespaces and secondary controllers
(R61, R98, R99, R236, R308, R318, R391 to R396, R421, R460, R480). Of a returned data structure the model gives the fields whose
contents the spec gives, in the order of the definitions below (notes/assumptions/8.md). -/

namespace Sys2Proof.Machine

/-! ## Identify (R98, R100, R318, R391, R460, R480) -/

/-- Controller identifier of a controller (R391). -/
def ctrlId (fn : Nat) (port1 : Bool) : Nat := if port1 then 129 else fn
/-- Identify Controller: vendor, subsystem vendor, serial number, ROM revision, MDTS, controller identifier, abort and event request limits,
power states less one, capacity and unallocated capacity in bytes of an instance (else 0), warning and critical temperature, whether
Crypto Erase is supported, the number of namespaces, and the optional NVM commands (Compare, Write Zeroes, Dataset Management, Timestamp). -/
def State.identifyController (s : State) (fn : Nat) (port1 : Bool) : List Nat :=
  let bytes (blocks : Nat) : Nat := blocks * (rowsOf s.profile - 1) * 65536
  [plynham, s.record.subsysVendor.getD plynham, s.record.serial.toNat, 0x3141, 9, ctrlId fn port1, 3, 7, 4,
    if fn == 0 then 0 else bytes (s.allocOf fn 4), if fn == 0 then 0 else bytes (s.roomOf fn 4),
    s.ctlValue ctlTf + 273, s.ctlValue ctlTf + 288, bitOf (fn == 0 && decide (s.fuses.vaultEpoch < 32)), 1024,
    bitOf true 0 + bitOf true 2 + bitOf true 3 + bitOf true 6]
/-- Identify Namespace: size, capacity, formats less one, format, protection capabilities and type, of one with protection. -/
def State.identifyNamespace (s : State) (n : Namespace) : List Nat :=
  let size := n.blocks s.profile
  let cap := if n.conv then n.size else sumOf (fun zi => if (n.zone zi).state == .offline then 0 else s.zoneCap n (n.zone zi)) (List.range n.zoneCount)
  [size, cap, 1, n.lbaf, bitOf true 0 + bitOf true 2, if n.lbaf == 1 then n.pi else 0]
/-- I/O command set specific Identify Namespace of a zoned namespace (R98). -/
def State.identifyZoned (s : State) (n : Namespace) : List Nat := [1, 1, n.active - 1, n.open_ - 1, 0, 0, n.zoneSize s.profile, n.zoneSize s.profile, 1]
/-- Namespaces attached to a function, from above an identifier, of a command set: 0 NVM, 2 zoned, none for all. -/
def State.activeNs (s : State) (fn above : Nat) (csi : Option Nat) : List Nat :=
  sortBy (fun a b => a ≤ b) ((s.nss.filter fun n => ! n.deleted && n.attached.contains fn && decide (above < n.nsid) &&
    (match csi with | none => true | some 0 => n.conv | some k => k == 2 && ! n.conv)).map (·.nsid))
/-- Controllers: function 0, the functions that exist, and the port 1 function. -/
def State.controllers (s : State) : List Nat := ((List.range 129).filter fun f => s.fnExists f) ++ (if s.dual then [129] else [])
/-- Identify: the data structure, or the status. -/
def State.identify (s : State) (c : Cmd) (cns csi : Nat) : Except NvmeStatus (List Nat) :=
  let id := c.nsid
  let mine := (s.ns? id).bind fun n => if ! n.deleted && n.attached.contains c.fn then some n else none
  let any := (s.ns? id).bind fun n => if ! n.deleted then some n else none
  let manager := c.fn == 0
  match cns with
  | 0x00 => .ok ((mine.map s.identifyNamespace).getD [])
  | 0x01 => .ok (s.identifyController c.fn c.port1)
  | 0x02 => .ok (s.activeNs c.fn id none)
  | 0x05 =>
    match mine, csi with
    | some n, 2 => if n.conv then .error stInvalidField else .ok (s.identifyZoned n)
    | some _, 0 => .ok []
    | none, 0 | none, 2 => .ok []
    | _, _ => .error stInvalidField
  | 0x06 => if csi == 2 then .ok [8] else if csi == 0 then .ok [] else .error stInvalidField
  | 0x07 => if csi == 2 || csi == 0 then .ok (s.activeNs c.fn id (some csi)) else .error stInvalidField
  | 0x10 => if manager then .ok (sortBy (fun a b => a ≤ b) ((s.nss.filter fun n => ! n.deleted && decide (id < n.nsid)).map (·.nsid))) else .error stInvalidField
  | 0x11 => if manager then .ok ((any.map s.identifyNamespace).getD []) else .error stInvalidField
  | 0x12 =>
    if ! manager then .error stInvalidField
    else .ok ((any.map fun n => sortBy (fun a b => a ≤ b) (n.attached ++ (if s.dual && n.attached.contains 0 then [129] else []))).getD [])
  | 0x13 => if manager then .ok s.controllers else .error stInvalidField
  | 0x14 => if manager then .ok [s.resourceTotal 1, s.instanceSum 1, 64, s.resourceTotal 2, s.instanceSum 2, 65] else .error stInvalidField
  | 0x15 =>
    if manager then .ok (((List.range 128).map (· + 1)).flatMap fun f => [f, bitOf ((s.fn f).state == .online), s.allocOf f 1, s.allocOf f 2])
    else .error stInvalidField
  | 0x1C => .ok [bitOf true 0 + bitOf true 2]
  | _ => .error stInvalidField

/-! ## Log pages (R99, R236, R308, R393, R480) -/

/-- A temperature threshold of any controller is crossed (R480): sensor 0 is the composite temperature, 1 to 8 the masts. -/
def thresholdKey (sensor under : Nat) : Nat := 0x04 + sensor * 0x100 + under * 0x1000
def State.crossed (s : State) (c : Ctrl) : Bool :=
  (List.range 9).any fun i =>
    let t := if i == 0 then s.compositeK else s.sensorK (i - 1)
    let beyond := c.feature (thresholdKey i 0) (if i == 0 then s.ctlValue ctlTf + 273 else 0xFFFF)
    let under := c.feature (thresholdKey i 1) 0
    t != 0 && (decide (beyond ≤ t) || (under != 0 && decide (t ≤ under)))
/-- Critical Warning (R236, R480). -/
def State.criticalWarning (s : State) (c : Ctrl) : Nat :=
  bitOf (decide (s.availableSpare < 10)) 0 + bitOf (s.crossed c || decide (0 < s.therm.stage)) 1 + bitOf s.media.readPreserve 3
/-- Minutes of a number of frames. -/
def minutesOf (frames : Nat) : Nat := frames * 16 / 60000000
/-- SMART / Health Information: critical warning, composite temperature, spare, threshold, percentage used, media errors, warning and critical
time, sensors 1 to 8. -/
def State.smartLog (s : State) (c : Ctrl) : List Nat :=
  [s.criticalWarning c, s.compositeK, s.availableSpare, 10, s.percentageUsed, s.media.lossTotal, minutesOf s.therm.warnFrames,
    minutesOf s.therm.critFrames] ++ (List.range 8).map s.sensorK
/-- Admin and I/O opcodes supported by a controller (R96, R392). -/
def adminOpcodes (manager : Bool) : List Nat :=
  [0x00, 0x01, 0x02, 0x04, 0x05, 0x06, 0x08, 0x09, 0x0A, 0x0C] ++ (if manager then [0x0D, 0x15, 0x1C, 0x1D, 0x1E, 0x80, 0x84] else [])
def ioOpcodes : List Nat := [0x00, 0x01, 0x02, 0x05, 0x08, 0x09, 0x0C, 0x79, 0x7A, 0x7D]
/-- Get Log Page: the page, and the state after reading it. The Changed Zone List is the namespace's: the first read clears it for every controller
(DESIGN CHOICE, log 60). -/
def State.logPage (s : State) (c : Cmd) (lid : Nat) : Except NvmeStatus (State × List Nat) :=
  let k := s.ctrl c.fn c.port1
  match lid with
  | 0x01 => .ok (s, k.errors.flatMap fun (st, what) => [st, what])
  | 0x02 => .ok (s, s.smartLog k)
  | 0x03 => .ok (s, [1, 0x3141])
  | 0x04 => .ok (s.modCtrl c.fn c.port1 fun k => { k with changedNs := [] }, sortBy (fun a b => a ≤ b) k.changedNs)
  | 0x05 => .ok (s, adminOpcodes (c.fn == 0) ++ ioOpcodes)
  | 0x81 => .ok (s, [if s.start.sanitize.isSome then 2 else if s.start.sanitized then 1 else 0, (s.start.sanitize.map (·.length)).getD 0])
  | 0xBF =>
    match s.ioNs c with
    | none => .error stInvalidNs
    | some n =>
      if n.conv then .error stInvalidField
      else .ok (s.modNs n.nsid fun n => { n with changed := [] }, (sortBy (fun a b => a ≤ b) n.changed).map (· * n.zoneSize s.profile))
  | _ => .error stLogPage

/-! ## Features (R61, R393, R460) -/

/-- Queue pairs of a controller (R315, R387). -/
def State.pairsOf (s : State) (fn : Nat) (port1 : Bool) : Nat := if fn == 0 && s.dual then (if port1 then 32 else 32) else s.allocOf fn 1
/-- Set Time (R60, R64, R66): the refusal, or the clock set; the answer is g, or 0 where the request measures nothing. -/
def State.setTime (s : State) (secs frac : Nat) : Eff :=
  if secs < minSetTime then (s, errR 0x0104 0)
  else if ! s.clk.aonRuns then (s, errR 0x0202 0 0x24)
  else
    let first := ! s.clk.isSet && ! s.clk.measured && s.clk.lastKnown.isSome
    let old := if s.clk.isSet then s.clk.secs else 0
    let t := s.setClock secs frac
    (t, okR [old, if first then (t.clk.lastG % 2 ^ 64).toNat else 0])
/-- A feature value held by a controller. -/
def Ctrl.setFeature (c : Ctrl) (fid value : Nat) : Ctrl := { c with features := putBy (fun (x : Nat × Nat) => x.1) (fid, value) c.features }
/-- Set Features with an identifier of R393: the state after, the status, and the result. -/
def State.setFeature (s : State) (c : Cmd) (fid value : Nat) : State × NvmeStatus × Nat :=
  let put (key v : Nat) : State := s.modCtrl c.fn c.port1 fun k => k.setFeature key v
  let pairs := s.pairsOf c.fn c.port1
  match fid with
  | 0x01 => (put 0x01 (value % 8), stOk, 0)
  | 0x02 =>
    if c.fn != 0 then (s, stNotChangeable, 0)
    else if 4 < value % 32 then (s, stInvalidField, 0)
    else ((effSetReefLimit (value % 32) s).1, stOk, 0)
  | 0x04 =>
    let sel := value / 2 ^ 16 % 16
    let side := value / 2 ^ 20 % 4
    if 1 < side || (8 < sel && sel != 15) then (s, stInvalidField, 0)
    else
      let sensors := if sel == 15 then List.range 9 else [sel]
      (each sensors (fun s i => s.modCtrl c.fn c.port1 fun k => k.setFeature (thresholdKey i side) (value % 2 ^ 16)) s, stOk, 0)
  | 0x05 => (put 0x05 (value % 2 ^ 17), stOk, 0)
  | 0x07 =>
    if (s.ctrl c.fn c.port1).sqs.any (fun q => q.qid != 0) || (s.ctrl c.fn c.port1).cqs.any (fun q => q.qid != 0) then (s, stSequence, 0)
    else if value % 2 ^ 16 == 0xFFFF || value / 2 ^ 16 == 0xFFFF then (s, stInvalidField, 0)
    else (s, stOk, (pairs - 1) + (pairs - 1) * 2 ^ 16)
  | 0x08 => (put 0x08 (value % 2 ^ 16), stOk, 0)
  | 0x09 =>
    let v := value % 2 ^ 16
    if s.vectors c.fn c.port1 ≤ v then (s, stInvalidField, 0)
    else
      let others (k : Ctrl) : List (Nat × Nat) := k.features.filter fun x => x != (0x09, 0x10000 + v)
      (s.modCtrl c.fn c.port1 fun k => { k with features := others k ++ (if bit value 16 then [(0x09, 0x10000 + v)] else []) }, stOk, 0)
  | 0x0B => (put 0x0B value, stOk, 0)
  | 0x0E => (s, if c.fn == 0 then stInvalidField else stNotChangeable, 0)
  | _ => (s, stInvalidField, 0)
/-- The archive clock in ms with the Timestamp Origin, or the time since the AON power-on reset while it is unset (R61). The fraction of a second is
rounded down, here and where it is set (DESIGN CHOICE, log 60). -/
def State.timestamp (s : State) : List Nat :=
  if s.clk.isSet then [s.clk.secs * 1000 + s.clk.frac * 1000 / 2 ^ 32, 1] else [s.clk.frame * 16 / 1000, 0]
/-- Get Features: the result, and the data of Timestamp. -/
def State.getFeature (s : State) (c : Cmd) (fid : Nat) : Except NvmeStatus (Nat × List Nat) :=
  let k := s.ctrl c.fn c.port1
  let pairs := s.pairsOf c.fn c.port1
  match fid with
  | 0x01 => .ok (k.feature 0x01 0, [])
  | 0x02 => .ok (s.pwr.hostLimit, [])
  | 0x04 => .ok (k.feature (thresholdKey 0 0) (s.ctlValue ctlTf + 273), [])
  | 0x05 => .ok (k.feature 0x05 0, [])
  | 0x07 => .ok ((pairs - 1) + (pairs - 1) * 2 ^ 16, [])
  | 0x08 => .ok (k.feature 0x08 0, [])
  | 0x09 => .ok (bitmap ((k.features.filter fun x => x.1 == 0x09).map fun x => x.2 - 0x10000), [])
  | 0x0B => .ok (k.feature 0x0B 0x080001FF, [])
  | 0x0E => .ok (0, s.timestamp)
  | _ => .error stInvalidField

/-! ## Queues, Abort and event requests (R392, R395) -/

/-- Create I/O Completion Queue. -/
def State.createCq (s : State) (c : Cmd) (qid size vector : Nat) (ien contiguous aligned : Bool) : State × NvmeStatus :=
  let k := s.ctrl c.fn c.port1
  if qid == 0 || decide (s.pairsOf c.fn c.port1 < qid) || k.cqs.any (·.qid == qid) then (s, stQid)
  else if size < 2 || decide (65536 < size) then (s, stQueueSize)
  else if ! contiguous || ! aligned then (s, stInvalidField)
  else if s.vectors c.fn c.port1 ≤ vector then (s, stVector)
  else (s.modCtrl c.fn c.port1 fun k => { k with cqs := k.cqs ++ [{ qid := qid, size := size, vector := vector, ien := ien }] }, stOk)
/-- Create I/O Submission Queue. -/
def State.createSq (s : State) (c : Cmd) (qid size cqid : Nat) (contiguous aligned : Bool) : State × NvmeStatus :=
  let k := s.ctrl c.fn c.port1
  if cqid == 0 || ! (k.cqs.any (·.qid == cqid)) then (s, stCqInvalid)
  else if qid == 0 || decide (s.pairsOf c.fn c.port1 < qid) || k.sqs.any (·.qid == qid) then (s, stQid)
  else if size < 2 || decide (65536 < size) then (s, stQueueSize)
  else if ! contiguous || ! aligned then (s, stInvalidField)
  else (s.modCtrl c.fn c.port1 fun k => { k with sqs := k.sqs ++ [{ qid := qid, size := size, cq := cqid }] }, stOk)
/-- Delete I/O Submission Queue: its commands end. -/
def State.deleteSq (s : State) (c : Cmd) (qid : Nat) : State × NvmeStatus :=
  let k := s.ctrl c.fn c.port1
  if qid == 0 || ! (k.sqs.any (·.qid == qid)) then (s, stQid)
  else
    let mine (x : Cmd) : Bool := x.fn == c.fn && x.port1 == c.port1 && x.sq == qid
    let s := s.modIo fun h => { h with submitted := h.submitted.filter (! waitsIn c.fn qid c.port1 ·) }
    let s := each (s.io.cmds.filter mine) (fun s x => s.abortCmd x stSqDeleted) s
    let s := each (s.io.cmds.filter mine) State.dropCmd s
    (s.modCtrl c.fn c.port1 fun k => { k with sqs := k.sqs.filter (·.qid != qid) }, stOk)
/-- Delete I/O Completion Queue. -/
def State.deleteCq (s : State) (c : Cmd) (qid : Nat) : State × NvmeStatus :=
  let k := s.ctrl c.fn c.port1
  if qid == 0 || ! (k.cqs.any (·.qid == qid)) then (s, stQid)
  else if k.sqs.any (·.cq == qid) then (s, stQueueDeletion)
  else (s.modCtrl c.fn c.port1 fun k => { k with cqs := k.cqs.filter (·.qid != qid) }, stOk)
/-- Abort: only a command that is fetched and not admitted; the result is 0 when it was aborted, else 1. -/
def State.abortOf (s : State) (c : Cmd) (sq cid : Nat) : State × Nat :=
  match s.io.cmds.find? fun x => x.fn == c.fn && x.port1 == c.port1 && x.sq == sq && x.cid == cid && x.phase == .held && x.id != c.id with
  | some x => (s.abortCmd x, 0)
  | none => (s, 1)
/-- Asynchronous Event Request: at most 8 outstanding; it completes at once with an event that waits. -/
def State.eventRequest (s : State) (c : Cmd) : State :=
  let k := s.ctrl c.fn c.port1
  match k.aen with
  | e :: rest => (s.modCtrl c.fn c.port1 fun k => { k with aen := rest }).conclude c.id stOk [] e
  | [] =>
    if 8 ≤ k.aer.length then s.conclude c.id stAerLimit
    else (s.dropCmd c).modCtrl c.fn c.port1 fun k => { k with aer := k.aer ++ [c.cid] }

/-! ## Running an admin command (R311, R392, R421) -/

/-- Commands that change state that the mailbox also governs: they take effect at step 4 of the frame after their admission (R421). -/
def atStep4 : Instr → Bool
  | .namespaceManagementCreate _ _ _ _ _ _ | .namespaceManagementDelete _ | .namespaceAttachmentAttach _ _ | .namespaceAttachmentDetach _ _
  | .secondaryControllerOnline _ _ | .secondaryControllerOffline _ _ | .secondaryControllerAssign _ _ _ _
  | .setFeatures _ _ _ | .setFeaturesTimestamp _ _ | .setFeaturesPowerManagement _ _ => true
  | _ => false
/-- Commands of function 0 and the port 1 function only (R311, R392). -/
def managerOnly : Instr → Bool
  | .namespaceManagementCreate _ _ _ _ _ _ | .namespaceManagementDelete _ | .namespaceAttachmentAttach _ _ | .namespaceAttachmentDetach _ _
  | .secondaryControllerOnline _ _ | .secondaryControllerOffline _ _ | .secondaryControllerAssign _ _ _ _ | .formatNvm _ _ _ | .cryptoErase _ => true
  | _ => false
/-- End an admin command with the status that its effect gave. -/
def endAdmin (c : Cmd) (r : State × NvmeStatus) : State := r.1.conclude c.id r.2
/-- The effect of an admitted admin command. Set Features Timestamp turns milliseconds into a fraction rounded down (DESIGN CHOICE, log 60). -/
def State.runAdmin (s : State) (c : Cmd) : State :=
  if managerOnly c.op && c.fn != 0 then s.conclude c.id stInvalidOpcode
  else match c.op with
  | .identify _ cns csi =>
    match s.identify c cns csi with
    | .ok l => s.giveData c.id l
    | .error st => s.conclude c.id st
  | .getLogPage _ lid =>
    match s.logPage c lid with
    | .ok (t, l) => t.giveData c.id l
    | .error st => s.conclude c.id st
  | .getFeatures _ fid =>
    match s.getFeature c fid with
    | .ok (r, l) => s.giveData c.id l r
    | .error st => s.conclude c.id st
  | .setFeatures _ fid v =>
    let (t, st, r) := s.setFeature c fid v
    t.conclude c.id st [] r
  | .setFeaturesPowerManagement _ ps =>
    let (t, st, r) := s.setFeature c 0x02 ps
    t.conclude c.id st [] r
  | .setFeaturesTimestamp _ ms =>
    if c.fn != 0 then s.conclude c.id stNotChangeable
    else
      let (t, r) := s.setTime (ms / 1000) (ms % 1000 * 2 ^ 32 / 1000)
      t.conclude c.id (if r.status == 0 then stOk else stInvalidField)
  | .createIoSubmissionQueue _ q z cq k a => endAdmin c (s.createSq c q z cq k a)
  | .createIoCompletionQueue _ q z v i k a => endAdmin c (s.createCq c q z v i k a)
  | .deleteIoSubmissionQueue _ q => endAdmin c (s.deleteSq c q)
  | .deleteIoCompletionQueue _ q => endAdmin c (s.deleteCq c q)
  | .abort _ sq cid =>
    let (t, r) := s.abortOf c sq cid
    t.conclude c.id stOk [] r
  | .asynchronousEventRequest _ => s.eventRequest c
  | .namespaceManagementCreate _ csi z k l p =>
    let (t, st, r) := s.nvmeCreate csi z k l p
    t.conclude c.id st [] r
  | .namespaceManagementDelete _ => endAdmin c (s.nvmeDelete c.nsid)
  | .namespaceAttachmentAttach _ l => endAdmin c (s.nvmeAttach c.nsid l)
  | .namespaceAttachmentDetach _ l => endAdmin c (s.nvmeDetach c.nsid l)
  | .secondaryControllerOnline _ k => endAdmin c (s.nvmeOnline k)
  | .secondaryControllerOffline _ k =>
    match s.nvmeOffline k with
    | (t, some st) => t.conclude c.id st
    | (t, none) => t.modCmd c.id fun c => { c with phase := .running }
  | .secondaryControllerAssign _ k r n => endAdmin c (s.nvmeAssign k r n)
  | .formatNvm _ l e => if s.start.sanitize.isSome then s.conclude c.id stSanitize else endAdmin c (s.formatNvm c.nsid l e)
  | .cryptoErase _ => endAdmin c (s.cryptoErase c.id)
  | _ => s.conclude c.id stInvalidOpcode
/-- Admission of admin commands (R421): in fetch order, without the tests that govern I/O. -/
def State.admitAdmin (s : State) : State :=
  let due := s.io.cmds.filter fun c => c.phase == .held && c.sq == 0 && decide (c.arrival < s.clk.frame)
  each due (fun s d =>
    match s.cmd? d.id with
    | none => s
    | some c =>
      if c.phase != .held then s
      else if ! c.walked then s.holdFor c .translation
      else
        let s := s.markAdmitted c.id c.cls false
        if atStep4 c.op && ! (managerOnly c.op && c.fn != 0) then s.modCmd c.id fun c => { c with phase := .step4 }
        else s.runAdmin ((s.cmd? c.id).getD c)) s
/-- Step 4: admin commands admitted in an earlier frame that change what the mailbox governs (R421). -/
def State.adminStep4 (s : State) : State :=
  each (s.io.cmds.filter fun c => c.phase == .step4 && c.admitted.any fun f => decide (f < s.clk.frame)) (fun s d =>
    match s.cmd? d.id with
    | none => s
    | some c => if c.phase == .step4 then s.runAdmin c else s) s

/-- Step 8 of R49: admission. While it is stopped nothing is admitted, but a sanitize leaves admin commands served. -/
def State.admission (s : State) : State :=
  if s.pwr.stopped && s.start.sanitize.isNone then s
  else
    let s := s.admitAdmin
    if s.pwr.stopped then s else s.admitIo

end Sys2Proof.Machine
end

