-- ==== Sys2Proof/Machine/TableCache.lean ====
section
/-! DEFINITION. The table cache of a mast: fills, the eviction buffer, maintenance operations, locked lines and disabled ways
(R443 to R448). A line address is the mast DRAM address divided by 128: the set is its low 12 bits, the tag the rest. -/

namespace Sys2Proof.Machine

def lineSet (line : Nat) : Nat := line % 4096
def CacheLine.line (l : CacheLine) : Nat := l.tag * 4096 + l.set
def setGroup (set : Nat) : Nat := set / 256
/-- Lockable ways (R443). -/
def lockable (way : Nat) : Bool := decide (12 ≤ way) && decide (way < 16)
/-- Lines of the eviction buffer (R443). -/
def evictSize : Nat := 32

def State.modCache (s : State) (m : Nat) (f : Cache → Cache) : State := s.modMast m fun x => { x with cache := f x.cache }
/-- A way takes fills in a set: it is not disabled in the set's group (R448). -/
def Cache.wayOn (c : Cache) (set way : Nat) : Bool := ! c.disabled.contains (setGroup set, way)
def Cache.lineAt (c : Cache) (set way : Nat) : Option CacheLine := c.lines.find? fun l => l.set == set && l.way == way
def Cache.find (c : Cache) (line : Nat) : Option CacheLine := c.lines.find? (·.line == line)
def Cache.put (c : Cache) (l : CacheLine) : Cache :=
  { c with lines := (c.lines.filter fun x => ! (x.set == l.set && x.way == l.way)) ++ [l] }
def Cache.drop (c : Cache) (p : CacheLine → Bool) : Cache := { c with lines := c.lines.filter (! p ·) }

/-! ## Replacement (R443) -/

def Cache.tree (c : Cache) (set : Nat) : Nat := ((c.lru.find? (·.1 == set)).map (·.2)).getD 0
def setBit (w i : Nat) (b : Bool) : Nat := w - bitOf (bit w i) i + bitOf b i
/-- After an access to a way every node above it points away from it. -/
def touchTree : Nat → Nat → Nat → Nat → Nat
  | 0, _, _, w => w
  | d + 1, node, way, w =>
    let right := bit way d
    touchTree d (2 * node + (if right then 1 else 0)) way (setBit w node (! right))
def Cache.touch (c : Cache) (set way : Nat) : Cache :=
  { c with lru := putBy (fun (x : Nat × Nat) => x.1) (set, touchTree 4 1 way (c.tree set)) c.lru }
/-- The way that the tree points to among those that satisfy `ok`; where a side has none, the other side. -/
def victimTree (ok : Nat → Bool) (w : Nat) : Nat → Nat → Nat → Nat
  | 0, _, base => base
  | d + 1, node, base =>
    let any (b : Nat) : Bool := (List.range (2 ^ d)).any fun i => ok (b + i)
    let right := if bit w node then any (base + 2 ^ d) else ! any base
    victimTree ok w d (2 * node + (if right then 1 else 0)) (base + if right then 2 ^ d else 0)
/-- The way that a fill of a set takes: an enabled way that holds no line, else the tree's choice among the enabled ways that are not
locked. -/
def Cache.victim (c : Cache) (set : Nat) : Option Nat :=
  let on := (List.range 16).filter (c.wayOn set)
  match on.find? fun w => (c.lineAt set w).isNone with
  | some w => some w
  | none =>
    let ok (w : Nat) : Bool := c.wayOn set w && ((c.lineAt set w).any fun l => ! l.locked)
    if (List.range 16).any ok then some (victimTree ok (c.tree set) 4 1 0) else none

/-! ## Fills and the eviction buffer (R445) -/

/-- Put a line into a way, the line there going to the eviction buffer if it is dirty. -/
def Cache.place (c : Cache) (l : CacheLine) : Cache :=
  let out := (c.lineAt l.set l.way).filter (·.dirty)
  { (c.put l).touch l.set l.way with evict := c.evict ++ (out.map fun x => (x.line, false)).toList }
/-- Fill a line, or access it where it is present; none where the fill waits for room in the eviction buffer. A line in the buffer
returns: dirty while its write-back has not started, which is cancelled, otherwise clean. -/
def Cache.fill (c : Cache) (line : Nat) (write : Bool) : Option Cache :=
  match c.find line with
  | some l => some ((c.put { l with dirty := l.dirty || write }).touch l.set l.way)
  | none =>
    let back := c.evict.find? (·.1 == line)
    let c := { c with evict := c.evict.filter (·.1 != line) }
    let dirty := write || (match back with
      | some (_, started) => ! started
      | none => false)
    match c.victim (lineSet line) with
    | none => some c
    | some w =>
      let full := ((c.lineAt (lineSet line) w).any (·.dirty)) && decide (evictSize ≤ c.evict.length)
      if full then none else some (c.place { set := lineSet line, way := w, tag := line / 4096, dirty := dirty })
/-- Waiting fills are tried again in order. -/
def Cache.retry (c : Cache) : Cache :=
  c.fills.foldl (fun c (x : Nat × Bool) => match c.fill x.1 x.2 with
    | some c => c
    | none => { c with fills := c.fills ++ [x] }) { c with fills := [] }
/-- The oldest entry of the eviction buffer has been written back, and the write-back of the next one starts. -/
def Cache.writeBack (c : Cache) : Cache :=
  match c.evict.drop 1 with
  | [] => { c with evict := [] }
  | (l, _) :: rest => { c with evict := (l, true) :: rest }
/-- Run a cache operation of a mast in service. -/
def State.onCache (s : State) (m : Nat) (f : Cache → Cache) : State :=
  if (s.mast m).state == .active then s.modCache m f else s

/-- CACHE_FILL (R445). -/
def execCacheFill (mast line : Nat) (write : Bool) (s : State) : Res :=
  whenUnit (decide (mast < 8) && decide (line < 2 ^ 25)) <|
    .next (s.onCache mast fun c => match c.fill line write with
      | some c => c
      | none => { c with fills := c.fills ++ [(line, write)] })
/-- EVICTION_WRITE_BACK (R445). -/
def execEvictionWriteBack (mast : Nat) (s : State) : Res :=
  whenUnit (decide (mast < 8)) <| .next (s.onCache mast fun c => c.writeBack.retry)

/-! ## Maintenance (R446, R447) -/

/-- The lines that an operation acts on: by range of line addresses, or one set and way. -/
def CacheLine.covered (byRange : Bool) (a b : Nat) (l : CacheLine) : Bool :=
  if byRange then decide (a ≤ l.line) && decide (l.line ≤ b) else l.set == a && l.way == b
/-- Fills in progress on the lines of a range complete first, written-back entries making room (R447). -/
def Cache.settle (a b : Nat) : Nat → Cache → Cache
  | 0, c => c
  | n + 1, c => if c.fills.any fun x => decide (a ≤ x.1) && decide (x.1 ≤ b) then settle a b n c.writeBack.retry else c
/-- What an operation meets before it applies: fills of its lines complete, and write-backs of them that have started. -/
def Cache.ready (c : Cache) (byRange : Bool) (a b : Nat) : Cache :=
  if byRange then
    let c := c.settle a b (evictSize + 1)
    { c with evict := c.evict.filter fun x => ! (decide (a ≤ x.1) && decide (x.1 ≤ b)) }
  else c
/-- Clean: dirty lines are written back and stay valid. -/
def Cache.clean (c : Cache) (byRange : Bool) (a b : Nat) : Cache :=
  let c := c.ready byRange a b
  { c with lines := c.lines.map fun l => if l.covered byRange a b then { l with dirty := false } else l, skipped := if byRange then 0 else c.skipped }
/-- Invalidate by set and way: dropped without write-back, and unlocked. -/
def Cache.dropWay (c : Cache) (set way : Nat) : Cache := c.drop (·.covered false set way)
/-- Clean and invalidate, and invalidate by range: written back if dirty, then dropped; a locked line is skipped by a range, which
counts it, unless locked lines are included. -/
def Cache.flush (c : Cache) (byRange : Bool) (a b : Nat) (withLocked : Bool) : Cache :=
  let c := c.clean byRange a b
  let kept := c.lines.filter fun l => l.covered byRange a b && l.locked && ! withLocked
  { c.drop (fun l => l.covered byRange a b && (! l.locked || withLocked)) with skipped := if byRange then kept.length else c.skipped }

/-- Whether the operands of an operation name lines of the cache. -/
def cacheUnit (mast : Nat) (byRange : Bool) (a b : Nat) : Bool :=
  decide (mast < 8) && (if byRange then decide (a < 2 ^ 25) && decide (b < 2 ^ 25) else decide (a < 4096) && decide (b < 16))
def State.includeLocked (s : State) : Bool := s.ctlValue ctlIncludeLocked == 1
/-- CLEAN (R446). -/
def execClean (mast : Nat) (byRange : Bool) (first last : Nat) (s : State) : Res :=
  whenUnit (cacheUnit mast byRange first last) <| .next (s.onCache mast (·.clean byRange first last))
/-- INVALIDATE_BY_SET_AND_WAY (R446). -/
def execInvalidateBySetAndWay (mast set way : Nat) (s : State) : Res :=
  whenUnit (cacheUnit mast false set way) <| .next (s.onCache mast (·.dropWay set way))
/-- INVALIDATE_BY_RANGE (R446). -/
def execInvalidateByRange (mast first last : Nat) (s : State) : Res :=
  whenUnit (cacheUnit mast true first last) <| .next (s.onCache mast (·.flush true first last s.includeLocked))
/-- CLEAN_AND_INVALIDATE (R446). -/
def execCleanAndInvalidate (mast : Nat) (byRange : Bool) (first last : Nat) (s : State) : Res :=
  whenUnit (cacheUnit mast byRange first last) <| .next (s.onCache mast (·.flush byRange first last s.includeLocked))

/-! ## Locked lines (R444) and disabled ways (R448) -/

/-- Lines of the zone records that belong in locked ways of a mast: of its zones that have left Empty, in namespaces attached to a
class A function. Where a record lies is not given: Config.recordLine. -/
def State.lockedRecords (s : State) (m : Nat) : List Nat :=
  (s.nss.filter fun n => ! n.conv && n.attached.any fun f => (s.fn f).contract.cls == .a).flatMap fun n =>
    (n.zones.filter fun z => z.state != .empty && z.home == m).map fun z => Config.recordLine n.nsid z.zi % 2 ^ 25
/-- Lock a line in an enabled lockable way of its set that is not locked; with none left it is not locked. -/
def Cache.lock (c : Cache) (line : Nat) : Cache :=
  let set := lineSet line
  if (c.find line).any (·.locked) then c
  else
    let free (w : Nat) : Bool := lockable w && c.wayOn set w && ! ((c.lineAt set w).any (·.locked))
    let here := (c.find line).filter fun l => free l.way
    let way := match here with
      | some l => some l.way
      | none => ((List.range 16).filter free).find? fun _ => true
    match way with
    | none => c
    | some w =>
      let old := c.find line
      let stay := (c.evict.find? (·.1 == line)).any fun x => ! x.2
      let dirty := (old.any (·.dirty)) || stay
      let c := { c.drop (·.line == line) with evict := c.evict.filter (·.1 != line) }
      c.place { set := set, way := w, tag := line / 4096, dirty := dirty, locked := true }
/-- Lock the lines that belong there and unlock the others. -/
def Cache.relock (lines : List Nat) (c : Cache) : Cache :=
  let c := { c with lines := c.lines.map fun l => if l.locked && ! lines.contains l.line then { l with locked := false } else l }
  lines.foldl Cache.lock c
def State.relockRecords (s : State) : State :=
  each s.mastIds (fun s m => s.onCache m (Cache.relock (s.lockedRecords m))) s

/-- A corrected error in a way of a set group is counted, within a window of 2^22 frames (R448). -/
def Cache.corrected (c : Cache) (group way frame : Nat) : Cache :=
  let (n, from_) := match c.errors.find? fun x => x.1 == group && x.2.1 == way with
    | some (_, _, n, f) => if f + 2 ^ 22 ≤ frame then (1, frame) else (n + 1, f)
    | none => (1, frame)
  { c with errors := (c.errors.filter fun x => ! (x.1 == group && x.2.1 == way)) ++ [(group, way, n, from_)] }
/-- The count of a way has reached the threshold, at most 8 ways of the group being disabled. -/
def State.wayDue (s : State) (m group way : Nat) : Bool :=
  let c := (s.mast m).cache
  ! c.disabled.contains (group, way) && decide (countIf (fun x => x.1 == group) c.disabled < 8) &&
    c.errors.any fun x => x.1 == group && x.2.1 == way && decide (s.ctlValue ctlWayDisable ≤ x.2.2.1) && decide (s.clk.frame < x.2.2.2 + 2 ^ 22)
/-- WAY_DISABLE (R448): the way's lines of the group are cleaned and dropped, it takes no more, and the records locked there are locked
again. -/
def execWayDisable (mast group way : Nat) (s : State) : Res :=
  whenUnit (decide (mast < 8) && decide (group < 16) && decide (way < 16)) <|
    .next (if (s.mast mast).state == .active && s.wayDue mast group way then
        let s := s.modCache mast fun c => { c.drop (fun l => setGroup l.set == group && l.way == way) with disabled := c.disabled ++ [(group, way)] }
        (s.raise (60 * mast + 17) 1 1 [group, way]).onCache mast (Cache.relock (s.lockedRecords mast))
      else s)

end Sys2Proof.Machine
end

