-- ==== Sys2Proof/Machine/Memory.lean ====
section
/-! DEFINITION. Memory protection: corrections, uncorrectable errors, page and bank retirement, and the fill (R449 to R455).
Memories are numbered as MemUnit says; 32 to 39 are the masts' table caches, whose addresses are 4096 × way + set. -/

namespace Sys2Proof.Machine

/-- A memory of the family. -/
def memUnit (i : Nat) : Bool := decide (i < 9) || (decide (16 ≤ i) && decide (i < 28)) || (decide (32 ≤ i) && decide (i < 40))
/-- The mast that a memory belongs to. -/
def memMast (i : Nat) : Option Nat :=
  if i < 8 then some i else if 16 ≤ i && i < 24 then some (i - 16) else if 32 ≤ i && i < 40 then some (i - 32) else none
/-- A memory of the part. -/
def State.memPresent (s : State) (i : Nat) : Bool := memUnit i && (memMast i).all fun m => decide (m < s.mastN)
def isDram (i : Nat) : Bool := decide (i < 9)
/-- Bytes of a DRAM (R2): 4 GiB of a mast, 2 to 8 GiB of the host complex. -/
def dramBytes (v : Variant) (i : Nat) : Nat :=
  if i < 8 then 2 ^ 32 else match v with
    | .btk8208 => 2 ^ 31
    | .btk8416 => 2 ^ 32
    | .btk8832 => 2 ^ 33
/-- Bytes of a word with its check bits: 128 data bits in DRAM, 64 in SRAM (R449). -/
def wordBytes (i : Nat) : Nat := if isDram i then 16 else 8
/-- Pages of a bank, a bank being 1/32 of the die (R454). -/
def bankPages (v : Variant) (i : Nat) : Nat := dramBytes v i / 4096 / 32
/-- Source of a memory's events: offset 18 of its mast, or 488 (R452, R454). -/
def memSource (i : Nat) : Nat := match memMast i with
  | some m => 60 * m + 18
  | none => 488

/-- Retire a bank whose 32nd page has been retired, if the reserve takes it (R454, R455). -/
def State.retireBank (s : State) (i bank : Nat) : State :=
  let u := s.mem i
  let pages := bankPages s.variant i
  let inBank (p : Nat) : Bool := p / max 1 pages == bank
  let left := u.retiredPages.filter (! inBank ·)
  if countIf inBank u.retiredPages < 32 || 2 * pages < left.length + pages * (u.retiredBanks.length + 1) then s
  else (s.modMem i fun u => { u with retiredPages := left, retiredBanks := u.retiredBanks ++ [bank] }).raise (memSource i) 4 1 [bank * pages * 4096]
/-- Retire a page of a DRAM, if the reserve takes it (R454, R455). -/
def State.retirePage (s : State) (i page : Nat) : State :=
  let u := s.mem i
  let pages := bankPages s.variant i
  if u.retiredPages.contains page || u.retiredBanks.contains (page / max 1 pages) ||
      decide (2 * pages < u.retiredPages.length + 1 + pages * u.retiredBanks.length) then s
  else ((s.modMem i fun u => { u with retiredPages := u.retiredPages ++ [page] }).raise (memSource i) 3 1 [page * 4096]).retireBank i (page / max 1 pages)

/-- Report a correction, at most once per 62,500 frames for each memory (R452). -/
def State.reportCorrection (s : State) (i address : Nat) : State :=
  let due := match (s.mem i).lastEvent with
    | some f => decide (f + 62500 ≤ s.clk.frame)
    | none => true
  if due then
    (s.modMem i fun u => { u with lastEvent := some s.clk.frame }).raise (memSource i) (if isDram i then 2 else 1) 0 [address]
  else s

/-- CORRECTABLE_ERROR (R448, R452, R454): the corrected word is written back and the address logged; a DRAM word corrected in two
different laps retires its page; a table cache counts the error in its way. -/
def execCorrectableError (memory address : Nat) (s : State) : Res :=
  whenUnit (memUnit memory) <|
    .next (if ! s.memPresent memory then s
      else if 32 ≤ memory then
        (s.modCache (memory - 32) (·.corrected (setGroup (address % 4096)) (address / 4096 % 16) s.clk.frame)).reportCorrection memory address
      else
        let word := address / wordBytes memory
        let again := (s.mem memory).corrected.any fun x => x.1 == word && Config.scrubLap memory x.2 != Config.scrubLap memory s.clk.frame
        let s := s.modMem memory fun u => { u with
          corrected := if u.corrected.any (·.1 == word) then u.corrected else u.corrected ++ [(word, s.clk.frame)] }
        let s := s.reportCorrection memory address
        if again && isDram memory then s.retirePage memory (address / 4096) else s)

/-- A held unit's block fails its CRC-64 and is rebuilt from its row; where too few positions of the row are intact it is lost with
cause 0x01 (R88, R453). Until its parity is delivered the row's own buffers hold the block. -/
def State.unitLost (s : State) (b : Stored) : State :=
  match s.seg? b.seg with
  | none => s
  | some g =>
    let w := g.row b.row
    let bad := dedupN (s.rowErasures g b.row ++ [memberOf g.width b.unit b.row])
    if w.parity && decide (parityOf g.width < bad.length) then s.loseStored b 0x01 else s
/-- What a DRAM can hold (R19, R28, R436): a mast's its own tables and units, the host complex's the command buffers and mailboxes. -/
def holdsIn (s : State) (memory : Nat) : MemHolds → Bool
  | .tables | .parity => true
  | .unit nsid lba => (s.block? nsid lba).any fun b => b.mast == memory
  | .readReturn _ _ | .writeRow _ _ | .migration _ | .mailbox _ => memory == 8
/-- The effect of an uncorrectable error in a DRAM, by what the word held (R453). -/
def State.dramError (s : State) : MemHolds → State
  | .tables | .parity => s
  | .unit nsid lba => match s.block? nsid lba with
    | some b => if b.place == .held then s.unitLost b else s
    | none => s
  | .readReturn id index => match s.cmd? id with
    | some c => if c.phase == .running || c.phase == .ready && ! c.delivered then
        s.modCmd id fun c => { c with phase := .running, blocks := c.blocks.modify index fun b => if b.phase == 1 then { b with phase := 0, step := 1 } else b }
      else s
    | none => s
  | .writeRow nsid lba => match s.block? nsid lba with
    | some b =>
      if ! s.buffered b then s
      else match s.cmd? b.cmd with
        | some c => if c.phase == .running then s.voidWrite c stInternal else s.loseStored b 0x01
        | none => s.loseStored b 0x01
    | none => s
  | .migration port =>
    let p := s.hport port
    if p.state == .down || p.state == .training then s else s.sendNak port 1
  | .mailbox via =>
    if s.mbx.boxes.any fun b => b.via == via && b.busy then s.respond via (errR 0x0106) else s

/-- UNCORRECTABLE_ERROR (R453): in a mast's SRAM or table cache a mast fault, in any other SRAM a device fault; in a DRAM by what the
word held, and its page is retired. -/
def execUncorrectableError (memory address : Nat) (holds : MemHolds) (s : State) : Res :=
  whenUnit (memUnit memory) <|
    .next (if ! s.memPresent memory then s
      else if isDram memory then (if holdsIn s memory holds then s.dramError holds else s).retirePage memory (address / 4096)
      else match memMast memory with
        | some m => s.mastFault m 3
        | none => s.deviceFault)

/-- Memories that the start-up fill covers: DRAMs and SRAMs of the masts present and of the other complexes. -/
def State.fillList (s : State) : List Nat := ((List.range 9) ++ (List.range 12).map (· + 16)).filter s.memPresent
/-- A memory is filled in start-up, at the restart of its mast, or after its off depth (R451). -/
def State.fillDue (s : State) (i : Nat) : Bool :=
  ! (s.mem i).filled || (s.inStage 1 || s.inStage 2) || (memMast i).any fun m => (s.mast m).state == .restarting

/-- MEMORY_FILL (R451): every word is zero with valid check bits. `failed` are the addresses whose check failed, recorded for
retirement; corrections and retired pages of before are forgotten, retired banks stay (R455). The last memory of the start-up
fill ends stage 2. -/
def execMemoryFill (memory : Nat) (failed : List Nat) (s : State) : Res :=
  whenUnit (memUnit memory && decide (memory < 32)) <|
    .next (if ! s.memPresent memory || ! s.fillDue memory then s
      else
        let s := s.modMem memory fun u => { retiredBanks := u.retiredBanks, filled := true }
        let s := match memMast memory with
          | some m => s.modCache m fun c => { c with disabled := [], errors := [] }
          | none => s
        let s := if isDram memory then each (dedupN (failed.map (· / 4096))) (fun s p => s.retirePage memory p) s else s
        if s.ready then
          match memMast memory with
          | some m => s.enterService m
          | none => s
        else if s.inStage 1 || s.inStage 2 then
          s.modStart fun x => { x with stage := if s.fillList.all fun i => (s.mem i).filled then 3 else 2 }
        else s)

end Sys2Proof.Machine
end

