-- ==== Sys2Proof/Machine/NvmeCmds.lean ====
section
/-! DEFINITION. The NVMe command rows: each is the submission of its entry (R96, R392, R396), whose effect is that of `State.judge` and
`State.runAdmin` once the entry has been fetched and admitted; and the NVMe-MI commands (R394). -/

namespace Sys2Proof.Machine

/-! ## I/O and admin commands -/

/-- READ (R166). -/
def execRead (h : NvmeHdr) (e : Extent) (s : State) : Res := submitted h (.read h e) s
/-- WRITE (R118). -/
def execWrite (h : NvmeHdr) (e : Extent) (s : State) : Res := submitted h (.write h e) s
/-- ZONE_APPEND (R121). -/
def execZoneAppend (h : NvmeHdr) (e : Extent) (s : State) : Res := submitted h (.zoneAppend h e) s
/-- WRITE_ZEROES (R96). -/
def execWriteZeroes (h : NvmeHdr) (e : Extent) (s : State) : Res := submitted h (.writeZeroes h e) s
/-- FLUSH (R96). -/
def execFlush (h : NvmeHdr) (s : State) : Res := submitted h (.flush h) s
/-- COMPARE (R96). -/
def execCompare (h : NvmeHdr) (e : Extent) (data : List Block) (s : State) : Res := submitted h (.compare h e data) s
/-- VERIFY (R96). -/
def execVerify (h : NvmeHdr) (e : Extent) (s : State) : Res := submitted h (.verify h e) s
/-- DATASET_MANAGEMENT (R96). -/
def execDatasetManagement (h : NvmeHdr) (deallocate : Bool) (ranges : List (Nat × Nat)) (s : State) : Res := submitted h (.datasetManagement h deallocate ranges) s
/-- CLOSE_ZONE (R110). -/
def execCloseZone (h : NvmeHdr) (slba : Nat) (all : Bool) (s : State) : Res := submitted h (.closeZone h slba all) s
/-- FINISH_ZONE (R117). -/
def execFinishZone (h : NvmeHdr) (slba : Nat) (all : Bool) (s : State) : Res := submitted h (.finishZone h slba all) s
/-- OPEN_ZONE (R112). -/
def execOpenZone (h : NvmeHdr) (slba : Nat) (all : Bool) (s : State) : Res := submitted h (.openZone h slba all) s
/-- RESET_ZONE (R115). -/
def execResetZone (h : NvmeHdr) (slba : Nat) (all : Bool) (s : State) : Res := submitted h (.resetZone h slba all) s
/-- OFFLINE_ZONE (R114). -/
def execOfflineZone (h : NvmeHdr) (slba : Nat) (all : Bool) (s : State) : Res := submitted h (.offlineZone h slba all) s
/-- SET_ZONE_DESCRIPTOR_EXTENSION (R127). -/
def execSetZoneDescriptorExtension (h : NvmeHdr) (slba : Nat) (ext : Wide) (all : Bool) (s : State) : Res := submitted h (.setZoneDescriptorExtension h slba ext all) s
/-- REPORT_ZONES (R97). -/
def execReportZones (h : NvmeHdr) (slba filter : Nat) (isPartial : Bool) (limit : Nat) (s : State) : Res := submitted h (.reportZones h slba filter isPartial limit) s
/-- EXTENDED_REPORT_ZONES (R97). -/
def execExtendedReportZones (h : NvmeHdr) (slba filter : Nat) (isPartial : Bool) (limit : Nat) (s : State) : Res := submitted h (.extendedReportZones h slba filter isPartial limit) s
/-- INVALID_COMMAND_OPCODE (R96). -/
def execInvalidCommandOpcode (h : NvmeHdr) (opcode : Nat) (s : State) : Res := submitted h (.invalidCommandOpcode h opcode) s
/-- IDENTIFY (R392). -/
def execIdentify (h : NvmeHdr) (cns csi : Nat) (s : State) : Res := submitted h (.identify h cns csi) s
/-- GET_LOG_PAGE (R393). -/
def execGetLogPage (h : NvmeHdr) (lid : Nat) (s : State) : Res := submitted h (.getLogPage h lid) s
/-- SET_FEATURES (R393). -/
def execSetFeatures (h : NvmeHdr) (fid value : Nat) (s : State) : Res := submitted h (.setFeatures h fid value) s
/-- GET_FEATURES (R393). -/
def execGetFeatures (h : NvmeHdr) (fid : Nat) (s : State) : Res := submitted h (.getFeatures h fid) s
/-- SET_FEATURES_TIMESTAMP (R61). -/
def execSetFeaturesTimestamp (h : NvmeHdr) (ms : Nat) (s : State) : Res := submitted h (.setFeaturesTimestamp h ms) s
/-- SET_FEATURES_POWER_MANAGEMENT (R460). -/
def execSetFeaturesPowerManagement (h : NvmeHdr) (ps : Nat) (s : State) : Res := submitted h (.setFeaturesPowerManagement h ps) s
/-- CREATE_IO_SUBMISSION_QUEUE (R395). -/
def execCreateIoSubmissionQueue (h : NvmeHdr) (qid size cqid : Nat) (contiguous aligned : Bool) (s : State) : Res := submitted h (.createIoSubmissionQueue h qid size cqid contiguous aligned) s
/-- CREATE_IO_COMPLETION_QUEUE (R395). -/
def execCreateIoCompletionQueue (h : NvmeHdr) (qid size vector : Nat) (ien contiguous aligned : Bool) (s : State) : Res := submitted h (.createIoCompletionQueue h qid size vector ien contiguous aligned) s
/-- DELETE_IO_SUBMISSION_QUEUE (R392). -/
def execDeleteIoSubmissionQueue (h : NvmeHdr) (qid : Nat) (s : State) : Res := submitted h (.deleteIoSubmissionQueue h qid) s
/-- DELETE_IO_COMPLETION_QUEUE (R392). -/
def execDeleteIoCompletionQueue (h : NvmeHdr) (qid : Nat) (s : State) : Res := submitted h (.deleteIoCompletionQueue h qid) s
/-- ABORT (R392). -/
def execAbort (h : NvmeHdr) (sq cid : Nat) (s : State) : Res := submitted h (.abort h sq cid) s
/-- ASYNCHRONOUS_EVENT_REQUEST (R392). -/
def execAsynchronousEventRequest (h : NvmeHdr) (s : State) : Res := submitted h (.asynchronousEventRequest h) s
/-- NAMESPACE_MANAGEMENT_CREATE (R103). -/
def execNamespaceManagementCreate (h : NvmeHdr) (csi nsze ncap lbaf pi : Nat) (s : State) : Res := submitted h (.namespaceManagementCreate h csi nsze ncap lbaf pi) s
/-- NAMESPACE_MANAGEMENT_DELETE (R320). -/
def execNamespaceManagementDelete (h : NvmeHdr) (s : State) : Res := submitted h (.namespaceManagementDelete h) s
/-- NAMESPACE_ATTACHMENT_ATTACH (R319). -/
def execNamespaceAttachmentAttach (h : NvmeHdr) (ctrls : List Nat) (s : State) : Res := submitted h (.namespaceAttachmentAttach h ctrls) s
/-- NAMESPACE_ATTACHMENT_DETACH (R320). -/
def execNamespaceAttachmentDetach (h : NvmeHdr) (ctrls : List Nat) (s : State) : Res := submitted h (.namespaceAttachmentDetach h ctrls) s
/-- SECONDARY_CONTROLLER_ONLINE (R313). -/
def execSecondaryControllerOnline (h : NvmeHdr) (ctrl : Nat) (s : State) : Res := submitted h (.secondaryControllerOnline h ctrl) s
/-- SECONDARY_CONTROLLER_OFFLINE (R322). -/
def execSecondaryControllerOffline (h : NvmeHdr) (ctrl : Nat) (s : State) : Res := submitted h (.secondaryControllerOffline h ctrl) s
/-- SECONDARY_CONTROLLER_ASSIGN (R315). -/
def execSecondaryControllerAssign (h : NvmeHdr) (ctrl resource count : Nat) (s : State) : Res := submitted h (.secondaryControllerAssign h ctrl resource count) s
/-- FORMAT_NVM (R392). -/
def execFormatNvm (h : NvmeHdr) (lbaf ses : Nat) (s : State) : Res := submitted h (.formatNvm h lbaf ses) s
/-- CRYPTO_ERASE (R308). -/
def execCryptoErase (h : NvmeHdr) (s : State) : Res := submitted h (.cryptoErase h) s

/-! ## NVMe-MI (R394, R489) -/

/-- Statuses of NVMe-MI responses (notes/assumptions/8.md). -/
def miOk : Nat := 0x00
def miInvalidOpcode : Nat := 0x03
def miInvalidParameter : Nat := 0x04
/-- Serve an NVMe-MI command: in band on function 0 and on the port 1 function, out of band by the management endpoint. Nothing answers while
the host complex is off or stopped. -/
def State.mi (s : State) (inBand : Bool) (fn : Nat) (k : State → State × Nat × List Nat) : State :=
  if ! s.hcxOn || s.halted || s.dumping then s
  else if inBand && fn != 0 then s.emit (.mi miInvalidOpcode [])
  else
    let (t, st, l) := k s
    t.emit (.mi st l)
/-- Controllers by identifier: ready, fault, shutdown status (R489). -/
def State.ctrlOfId (s : State) (id : Nat) : Option Ctrl :=
  if id == 129 then (if s.dual then some s.ctrl1 else none) else if s.fnExists id then some (s.fn id).ctrl else none
/-- READ_NVME_MI_DATA_STRUCTURE (R394): 0 the subsystem, 1 ports (two PCIe ports in dual mode, and the sideband), 2 the controller list, 3
controller information, 4 the commands supported. -/
def execReadNvmeMiDataStructure (inBand : Bool) (fn dtyp : Nat) (s : State) : Res :=
  .next (s.mi inBand fn fun s =>
    match dtyp with
    | 0 => (s, miOk, [if s.dual then 2 else 1, 1, 2])
    | 1 => (s, miOk, [if s.dual then 2 else 1, 0x1D, s.side.mtu])
    | 2 => (s, miOk, s.controllers)
    | 3 => (s, miOk, [0, plynham, s.deviceId 0 false])
    | 4 => (s, miOk, [0x00, 0x01, 0x02, 0x03, 0x04])
    | _ => (s, miInvalidParameter, []))
/-- NVM_SUBSYSTEM_HEALTH_STATUS_POLL (R394, R489): drive functional, critical warning, composite temperature in °C, percentage used, controllers
ready. The clear flag clears changes, of which the device keeps none. -/
def execNvmSubsystemHealthStatusPoll (inBand : Bool) (fn : Nat) (_clear : Bool) (s : State) : Res :=
  .next (s.mi inBand fn fun s =>
    let c := (s.fn 0).ctrl
    let ready := s.controllers.any fun i => (s.ctrlOfId i).any (·.rdy)
    (s, miOk, [bitOf s.ready, s.criticalWarning c, s.compositeK - 273, s.percentageUsed, bitOf (ready && s.ready)]))
/-- CONTROLLER_HEALTH_STATUS_POLL (R394, R489): of `count` controllers from `first`, the identifier, status, temperature, percentage used, spare
and critical warning. -/
def execControllerHealthStatusPoll (inBand : Bool) (fn first count : Nat) (s : State) : Res :=
  .next (s.mi inBand fn fun s =>
    let ids := (s.controllers.filter (first ≤ ·)).take count
    (s, miOk, ids.flatMap fun i =>
      let c := (s.ctrlOfId i).getD {}
      [i, bitOf (c.rdy && s.ready) 0 + bitOf c.cfs 1 + c.shst * 4, s.compositeK - 273, s.percentageUsed, s.availableSpare, s.criticalWarning c]))
/-- CONFIGURATION_GET (R394): 1 SMBus frequency, 2 Health Status Change, 3 MCTP transmission unit size. -/
def execConfigurationGet (inBand : Bool) (fn ident : Nat) (s : State) : Res :=
  .next (s.mi inBand fn fun s =>
    match ident with
    | 1 => (s, miOk, [s.side.freq])
    | 2 => (s, miOk, [])
    | 3 => (s, miOk, [s.side.mtu])
    | _ => (s, miInvalidParameter, []))
/-- CONFIGURATION_SET (R394, R527): frequencies of 100 kHz, 400 kHz and 1 MHz; a transmission unit of 64 bytes or more. -/
def execConfigurationSet (inBand : Bool) (fn ident value : Nat) (s : State) : Res :=
  .next (s.mi inBand fn fun s =>
    match ident with
    | 1 => if 1 ≤ value && value ≤ 3 then (s.modSide fun x => { x with freq := value }, miOk, []) else (s, miInvalidParameter, [])
    | 2 => (s, miOk, [])
    | 3 => if 64 ≤ value && value ≤ 250 then (s.modSide fun x => { x with mtu := value }, miOk, []) else (s, miInvalidParameter, [])
    | _ => (s, miInvalidParameter, []))

end Sys2Proof.Machine
end

