-- ==== Sys2Proof/Machine/Queries.lean ====
section
/-! DEFINITION. Mailbox commands of groups 0x00xx, 0x04xx, 0x08xx and 0x09xx: identity, time, health, power, temperature and internal
resources (R60, R66, R148, R206, R224, R415, R419, R437). The fields of a response stand in the order of the response column of
R419; where the caller asked for a list, its entries follow. -/

namespace Sys2Proof.Machine

/-! ## 0x00xx -/

/-- Part number, 8 ASCII bytes (R1, R419). -/
def partNumber (v : Variant) : Nat :=
  ofBytesLE (ascii (match v with
    | .btk8208 => "BTK8208"
    | .btk8416 => "BTK8416"
    | .btk8832 => "BTK8832"))
/-- The caller has Expert (R8): function 0 and every transport with its rights take function 0's setting. -/
def State.callerExpert (s : State) (v : Via) : Bool := (s.fn (match v with | .bar f _ => f | .mctp => 0)).expert
/-- Get Identity. -/
def effGetIdentity (v : Via) (s : State) : Eff :=
  (s, okR [partNumber s.variant, 0x3141, 0x10, s.mastN, bitOf s.dual, bitOf (s.callerExpert v), callerOf v, s.record.serial.toNat,
    s.ownFp.toNat, s.clk.poc, bitOf s.ownerKey.isSome])
/-- Get Time (R47, R59, R63): what is not set reads 0. -/
def effGetTime (s : State) : Eff :=
  let c := s.clk
  (s, okR [if c.isSet then c.secs else 0, if c.isSet then c.frac else 0, bitOf c.isSet, c.frame, c.markFrame, c.markSecs,
    (c.lastKnown.map (·.1)).getD 0])
/-- Set Time (R60, R66). -/
def effSetTime (secs frac : Nat) (s : State) : Eff := s.setTime secs frac
/-- Get Owner Challenge (R415): a new challenge replaces the one of the same mailbox or endpoint. -/
def effGetOwnerChallenge (v : Via) (s : State) : Eff :=
  let x := Config.drbg s.keys.draws
  let frame := s.clk.frame
  (s.modKeys fun k => { k with
    draws := k.draws + 1, requests := k.requests + 1, challenges := (v, x, frame) :: k.challenges.filter (·.1 != v) }, okR [x.toNat])

/-! ## 0x04xx -/

/-- Get Patrol Status (R206, R228): slices fall due one at a time, `done` of them are read. -/
def effGetPatrolStatus (s : State) : Eff :=
  let p := s.media.patrol
  let marked := sumOf (fun n => countIf (·.overflow) n.zones) s.nss + s.media.marked.length
  (s, okR [p.lapStart, p.total, p.done, bitOf p.raised + bitOf p.late 1, p.lastLap, maxOf (s.media.segs.map s.ageOf), marked])
/-- The fields of a ledger entry (R260, type 0x12). -/
def Loss.fields (e : Loss) : List Nat := [e.nsid, e.count, e.lba, e.gen, e.cause, e.foundBy, e.fn, e.poc, e.frame, e.utc]
/-- Get Loss Ledger (R224): the entries of one namespace, or of all that the caller sees. -/
def effGetLossLedger (v : Via) (nsid first count : Nat) (s : State) : Eff :=
  if 83 < count then (s, errR 0x0104 8)
  else if nsid != 0 && (s.ns? nsid).isNone then (s, errR 0x0105 nsid)
  else if nsid != 0 && (s.ns? nsid).all (fun n => ! n.visibleTo v) then (s, errR 0x0405 nsid)
  else
    let seen := s.media.ledger.filter fun e =>
      if nsid != 0 then e.nsid == nsid else isManager v || (s.ns? e.nsid).any (·.visibleTo v)
    let l := (seen.drop first).take count
    let fields := seen.length :: l.length :: l.flatMap Loss.fields
    (s, if first + l.length < seen.length then warnR 3 fields else okR fields)
/-- Get LUN Health (R94, R229, R419). -/
def effGetLunHealth (glun : Nat) (s : State) : Eff :=
  if 32 * s.portN ≤ glun || ! populated s.record (localOfLun glun) then (s, errR 0x0105 glun)
  else
    let l := s.lun glun
    let pool := (List.range s.profile.nominalBlocks).filter (l.poolBlock s.profile)
    let counts := pool.map fun b => (l.block b).erases
    (s, okR [bitOf (s.lunExcluded glun), (s.port (portOfLun glun)).state.num, (s.mast (mastOfLun glun)).state.num, s.spares glun,
      s.sparesFirst glun, s.segBlocks glun, l.retired, maxOf counts, lowest counts, s.freeBlocks glun, s.pendingBlocks glun])

/-! ## 0x08xx -/

/-- Get Power Status (R143, R144, R457, R459, R467, R468). -/
def effGetPowerStatus (s : State) : Eff :=
  let p := s.pwr
  (s, okR [s.reef, p.hostLimit, bitOf s.nrg.deficit, s.wattSum / 64, bitmap p.furled, p.refused, p.aborted, p.lastRefuser.getD 0,
    p.lastWake, s.nrg.v, s.nrg.cMeas, s.nrg.eUse, s.nrg.budget, s.nrg.eNeed, s.dirty.foldl (· + ·) 0])
/-- Get Thermal (R475, R476, R479). -/
def effGetThermal (s : State) : Eff :=
  (s, okR (s.therm.inputs.map (fun i => (i.raw % 65536).toNat) ++
    [bitmap ((List.range 25).filter fun i => (s.thermIn i).failed), bitOf (decide (0 < s.therm.stage)) + bitOf s.therm.enforced 1]))

/-! ## 0x09xx -/

/-- Get Port Statistics (R54, R55, R71). -/
def effGetPortStatistics (port : Nat) (s : State) : Eff :=
  if s.portN ≤ port then (s, errR 0x0105 port)
  else
    let p := s.port port
    (s, okR [p.state.num, p.overruns, p.carriedEntries, p.largest, p.degradedEntries, p.fencedEntries, p.cePassed, bitmap p.excluded])
/-- Get Incomplete Stripe Sets (R79). -/
def effGetIncompleteStripeSets (width first count : Nat) (s : State) : Eff :=
  if ! (widthsOf s.variant).contains width then (s, errR 0x0104 0)
  else if 670 < count then (s, errR 0x0104 8)
  else
    let sets := (s.stripeSets width).filter fun (x : Nat × Nat) => s.missing width x.1 x.2 != 0
    let l := (sets.drop first).take count
    let fields := sets.length :: l.length :: l.flatMap fun (x : Nat × Nat) => [x.1, x.2, s.missing width x.1 x.2]
    (s, if first + l.length < sets.length then warnR 3 fields else okR fields)
/-- Get Mast Status (R34 to R37, R307). -/
def effGetMastStatus (m : Nat) (s : State) : Eff :=
  if 8 ≤ m then (s, errR 0x0104 0)
  else
    let x := s.mast m
    (s, okR [x.state.num, x.faults, bitOf x.restartUsed, x.lastFault, x.lastFaultFrame, x.cipherFaults])
/-- Start Capacitance Self-Test (R148): it waits for a test that runs, or starts one and waits, or fails at once. -/
def effStartCapacitanceSelfTest (v1 : Nat) (s : State) : State × Option Resp :=
  if s.nrg.test.isSome then (s, none)
  else if s.selfTestPasses (bankRaw s.record v1) then (s.startSelfTest (bankRaw s.record v1), none)
  else (s, some (errR 0x0202 0 0x26))
/-- Get Internal Resources (R432, R437, R448, R452, R454): a class's free buffers are those of its floor that it does not use, and those
of the shared region. -/
def effGetInternalResources (s : State) : Eff :=
  let cls (c : BufClass) : List Nat := [s.classUse c, classFloor s.variant c - s.classUse c + s.sharedFree, classFloor s.variant c]
  let pages (i : Nat) : Nat := (s.mem i).retiredPages.length + (s.mem i).retiredBanks.length * bankPages s.variant i
  (s, okR ([Config.scrubLapLength 24 s.clk.frame, Config.scrubLapLength 8 s.clk.frame] ++ bufClasses.flatMap cls ++
    [sumOf pages ((List.range 9).filter s.memPresent), sumOf (fun m => (s.mast m).cache.disabled.length) s.mastIds]))

end Sys2Proof.Machine
end

