-- ==== Sys2Proof/Machine/Operands.lean ====
section
/-! DEFINITION. The request forms of the mailbox commands: opcode, actors, layout lengths, Expert fields, value ranges and the bytes that
an owner signature covers (R311, R408 to R419, R549). -/

namespace Sys2Proof.Machine

/-- Actors of a command (R413): manager, MCTP, tenant, any function, owner. -/
inductive Actor where
  | m | x | t | a | o
  deriving DecidableEq, Repr

/-- What the tables of R419 say of one command, with its operands put in. -/
structure MForm where
  op : Nat
  actors : List Actor
  /-- length of the request payload without an owner trailer -/
  len : Nat := 0
  /-- length of the response payload, of the response fields -/
  rlen : List Nat → Nat := fun _ => 0
  /-- it changes nothing that another command governs, and reports the state after the changes of its step (R412) -/
  query : Bool := false
  /-- function that the command names for a tenant, which must be the caller (R414) -/
  fn : Option Nat := none
  /-- namespace that the command names (R414) -/
  ns : Option Nat := none
  /-- an Expert command, or one with an Expert field that carries another value than the one in effect (R413) -/
  expert : Bool := false
  /-- a tenant may not carry this (R419) -/
  managerPart : Bool := false
  /-- byte offset of the first field out of its range (R549) -/
  bad : Option Nat := none
  /-- payload bytes before an owner trailer (R415), for a command that takes one -/
  payload : List Nat := []

/-- The first offset whose value is out of range. -/
def firstBad (l : List (Bool × Nat)) : Option Nat := (l.find? (·.1)).map (·.2)
/-- A function field holds 0 to 128 (R7). -/
def fnBad (fn off : Nat) : List (Bool × Nat) := [(decide (128 < fn), off)]
/-- An instance is a function from 1 to 128. -/
def instBad (fn : Nat) : List (Bool × Nat) := [(fn == 0 || decide (128 < fn), 0)]
/-- A tenant slot is 1 to 4,091 (R288). -/
def slotBad (slot off : Nat) : List (Bool × Nat) := [(! dataSlot slot, off)]
/-- A list response: a head, then entries of `size` bytes, each of `fields` response fields after the first `skip`. -/
def listLen (head size fields skip : Nat) (l : List Nat) : Nat := head + size * ((l.length - skip) / max 1 fields)
/-- Ranges of the extents of a digest (R274): each within a block and not empty, 2^44 bytes at most in all. -/
def extentsBad (l : List DigestExtent) : List (Bool × Nat) :=
  (l.length == 0 || decide (64 < l.length), 5) ::
  (l.zipIdx.flatMap fun (x : DigestExtent × Nat) => [(decide (4096 ≤ x.1.offset), 56 + 24 * x.2), (x.1.bytes == 0, 64 + 24 * x.2)]) ++
  [(decide (2 ^ 44 < sumOf DigestExtent.bytes l), 64)]
/-- Layout of Start Fixity Job (R419): kind 2 and kind 4 are not accepted over MCTP. -/
def jobForm (kind count : Nat) (ns : Option Nat) (own : Bool) (bad : List (Bool × Nat)) : MForm := {
  op := 0x0502, actors := [.m, .t] ++ (if kind == 2 || kind == 4 then [] else [.x]), len := 48 + 24 * count, rlen := fun _ => 8
  ns := ns, expert := own, bad := firstBad bad }
/-- Signing key 1 or 2, and owner slots 0 to 3 (R279, R419). -/
def signBad (key slot : Nat) : List (Bool × Nat) := [(key != 1 && key != 2, 3), (key == 2 && decide (3 < slot), 4)]

/-- Expert fields of Set Contract (R413): constant time, T and ceiling. T of 0, the default, changes a T that was set (R9). -/
def State.contractExpert (s : State) (fn : Nat) (constantTime : Bool) (t ceiling : Nat) : Bool :=
  let c := (s.fn fn).contract
  constantTime != c.constantTime || (if t == 0 then c.t.isSome else t != s.tEffect c) || ceiling != c.ceiling
/-- Expert fields of Create Namespace (R413): a field that takes its default, written or as 0, passes. -/
def State.createExpert (s : State) (origin segs wmax permitted active opn : Nat) (pie : Bool) : Bool :=
  let a := s.activeDefault origin
  decide (1 < segs) || (wmax != 0 && wmax != s.widest) || pie || (permitted != 0 && permitted != 3) ||
    (active != 0 && active != a) || (opn != 0 && opn != s.openDefault origin a)

/-- The form of a mailbox command, with its header; none for what is no mailbox command. -/
def mbxForm (s : State) : Instr → Option (MbxHdr × MForm)
  | .getIdentity m => some (m, { op := 0x0001, actors := [.a, .x], rlen := fun _ => 73, query := true })
  | .getTime m => some (m, { op := 0x0002, actors := [.a, .x], rlen := fun _ => 48, query := true })
  | .setTime m _ _ => some (m, { op := 0x0003, actors := [.m, .x], len := 12, rlen := fun _ => 16 })
  | .getControl m _ _ => some (m, { op := 0x0004, actors := [.m, .x], len := 8, rlen := fun _ => 34, query := true })
  | .setControl m ident scope value =>
    let c := controlSpec s ident scope
    let own := c.any (·.owner)
    some (m, {
      op := 0x0005, actors := if own then [.o] else [.m, .x], len := 16, rlen := fun _ => 8, expert := c.any (·.expert)
      payload := bytesLE 4 ident ++ bytesLE 4 scope ++ bytesLE 8 value })
  | .getOwnerChallenge m => some (m, { op := 0x0006, actors := [.m, .x], rlen := fun _ => 32 })
  | .setAllocation m fn res v =>
    some (m, {
      op := 0x0101, actors := [.m], len := 16, rlen := fun _ => 8, expert := res == 8 && v != s.allocOf fn 8
      bad := firstBad (fnBad fn 0 ++ [(res == 0 || decide (8 < res), 2)]) })
  | .getInstance m fn =>
    some (m, { op := 0x0102, actors := [.m, .t], len := 2, rlen := listLen 138 2 1 21, query := true, fn := some fn, bad := firstBad (fnBad fn 0) })
  | .instanceOnline m fn => some (m, { op := 0x0103, actors := [.m], len := 2, bad := firstBad (instBad fn) })
  | .instanceOffline m fn => some (m, { op := 0x0104, actors := [.m], len := 2, bad := firstBad (instBad fn) })
  | .resetInstance m fn => some (m, { op := 0x0105, actors := [.m], len := 2, bad := firstBad (instBad fn) })
  | .deleteInstance m fn _ => some (m, { op := 0x0106, actors := [.m], len := 3, bad := firstBad (instBad fn) })
  | .setContract m fn cls ct _ _ t ceiling =>
    some (m, {
      op := 0x0107, actors := [.m], len := 16, expert := s.contractExpert fn ct t ceiling
      bad := firstBad (fnBad fn 0 ++ [(decide (2 < cls), 2)]) })
  | .getContract m fn =>
    some (m, { op := 0x0108, actors := [.m, .t], len := 2, rlen := fun _ => 144, query := true, fn := some fn, bad := firstBad (fnBad fn 0) })
  | .setExpertEnable m fn _ => some (m, { op := 0x0109, actors := [.m], len := 3, bad := firstBad (fnBad fn 0) })
  | .consentToAttach m nsid fn => some (m, { op := 0x010A, actors := [.t], len := 6, ns := some nsid, bad := firstBad (fnBad fn 4) })
  | .createNamespace m origin _ _ _ segs wmax _ pie permitted active opn _ =>
    some (m, {
      op := 0x0201, actors := [.m], len := 36, rlen := fun _ => 32, expert := s.createExpert origin segs wmax permitted active opn pie
      bad := firstBad (fnBad origin 0) })
  | .deleteNamespace m nsid => some (m, { op := 0x0202, actors := [.m], len := 4, ns := some nsid })
  | .attachNamespace m nsid fn => some (m, { op := 0x0203, actors := [.m], len := 6, ns := some nsid, bad := firstBad (fnBad fn 4) })
  | .detachNamespace m nsid fn => some (m, { op := 0x0204, actors := [.m], len := 6, ns := some nsid, bad := firstBad (fnBad fn 4) })
  | .getNamespace m nsid => some (m, { op := 0x0205, actors := [.m, .t], len := 4, rlen := fun _ => 78, query := true, ns := some nsid })
  | .setNamespaceAttributes m nsid _ perm limits _ _ _ _ =>
    some (m, { op := 0x0206, actors := [.m, .t], len := 24, ns := some nsid, expert := perm || limits, managerPart := perm || limits })
  | .defineClass m _ _ _ _ => some (m, { op := 0x0207, actors := [.m], len := 4, expert := true })
  | .deleteClass m _ => some (m, { op := 0x0208, actors := [.m], len := 1, expert := true })
  | .getZoneRecord m nsid _ => some (m, { op := 0x0209, actors := [.m, .t], len := 8, rlen := fun _ => 36, query := true, ns := some nsid })
  | .getTransportKey m => some (m, { op := 0x0301, actors := [.a], rlen := fun _ => 2, query := true })
  | .establishKek m index _ _ => some (m, { op := 0x0302, actors := [.t, .m], len := 101, bad := firstBad [(decide (3 < index), 0)] })
  | .loadKey m slot kek _ salt floor _ _ _ =>
    some (m, {
      op := 0x0303, actors := [.t], len := 56, rlen := fun _ => 8, expert := salt || floor
      bad := firstBad (slotBad slot 0 ++ [(decide (3 < kek), 2)]) })
  | .eraseKey m slot => some (m, { op := 0x0304, actors := [.t, .m], len := 2, rlen := fun _ => 8, bad := firstBad (slotBad slot 0) })
  | .bindNamespaceKey m nsid slot =>
    some (m, { op := 0x0305, actors := [.t], len := 6, rlen := fun _ => 2, ns := some nsid, bad := firstBad [(slot != 0 && ! dataSlot slot, 4)] })
  | .getSlot m _ => some (m, { op := 0x0306, actors := [.t, .m], len := 2, rlen := fun _ => 24, query := true })
  | .exportKey m slot _ => some (m, { op := 0x0307, actors := [.t], len := 36, bad := firstBad (slotBad slot 0) })
  | .getKeyRegister m _ count =>
    some (m, {
      op := 0x0308, actors := [.t, .m], len := 4, rlen := listLen 2 40 1 1, query := true, bad := firstBad [(decide (100 < count), 2)] })
  | .getPatrolStatus m => some (m, { op := 0x0401, actors := [.m, .x, .t], rlen := fun _ => 52, query := true })
  | .getLossLedger m nsid _ count =>
    some (m, {
      op := 0x0402, actors := [.m, .x, .t], len := 12, rlen := listLen 8 48 10 2, query := true, ns := if nsid == 0 then none else some nsid
      bad := firstBad [(decide (83 < count), 8)] })
  | .getLunHealth m _ => some (m, { op := 0x0403, actors := [.m, .x], len := 2, rlen := fun _ => 36, query := true })
  | .leaveReadPreserve m => some (m, { op := 0x0404, actors := [.o] })
  | .getIdentityCertificate m => some (m, { op := 0x0501, actors := [.a, .x], rlen := fun _ => 2, query := true })
  | .treeCheck m nsid _ own => some (m, jobForm 1 0 (some nsid) own [])
  | .rangeDigest m nsid alg l own => some (m, jobForm 2 l.length (some nsid) own ((alg != 1 && alg != 2, 2) :: extentsBad l))
  | .zoneAttestation m nsid _ key slot _ own _ => some (m, jobForm 3 0 (some nsid) own (signBad key slot))
  | .rangeAttestation m nsid alg l key slot own _ =>
    some (m, jobForm 4 l.length (some nsid) own ((alg != 1 && alg != 2, 2) :: signBad key slot ++ extentsBad l))
  | .keyBinding m slot _ => some (m, jobForm 5 0 none false [(decide (3 < slot), 4)])
  | .getFixityResult m _ => some (m, { op := 0x0503, actors := [.m, .t, .x], len := 8, rlen := listLen 416 4 1 6, query := true })
  | .createOwnerAttestationKey m slot =>
    some (m, { op := 0x0504, actors := [.o], len := 1, rlen := fun _ => 436, bad := firstBad [(decide (3 < slot), 0)], payload := [slot] })
  | .deleteOwnerAttestationKey m slot =>
    some (m, { op := 0x0505, actors := [.o], len := 1, bad := firstBad [(decide (3 < slot), 0)], payload := [slot] })
  | .getHalyardPort m port =>
    some (m, { op := 0x0601, actors := [.m, .x], len := 1, rlen := fun _ => 44, query := true, bad := firstBad [(decide (2 < port), 0)] })
  | .listPartners m _ count =>
    some (m, { op := 0x0602, actors := [.m, .x], len := 4, rlen := listLen 4 64 8 1, query := true, bad := firstBad [(decide (62 < count), 2)] })
  | .pairPartner m _ => some (m, { op := 0x0603, actors := [.m], len := 32 })
  | .unpairPartner m fp => some (m, { op := 0x0604, actors := [.m, .o], len := 32, payload := bytesLE 32 fp.toNat })
  | .releaseQuarantine m _ => some (m, { op := 0x0605, actors := [.m], len := 32 })
  | .setAllowlist m fps =>
    some (m, {
      op := 0x0606, actors := [.o], len := 4 + 32 * fps.length, bad := firstBad [(decide (64 < fps.length), 0)]
      payload := [fps.length, 0, 0, 0] ++ fps.flatMap fun d => bytesLE 32 d.toNat })
  | .getAllowlist m => some (m, { op := 0x0607, actors := [.m, .x], rlen := listLen 4 32 1 1, query := true })
  | .startMigration m _ _ charge streams zones =>
    some (m, {
      op := 0x0701, actors := [.m, .x], len := 44 + 4 * zones.length, rlen := fun _ => 8, expert := charge
      bad := firstBad [(decide (3 < streams), 37)] })
  | .acceptMigration m _ _ _ => some (m, { op := 0x0702, actors := [.m, .x], len := 37, rlen := fun _ => 8 })
  | .cancelMigration m _ => some (m, { op := 0x0703, actors := [.m, .x], len := 8 })
  | .getMigrationJob m _ => some (m, { op := 0x0704, actors := [.m, .x], len := 8, rlen := fun _ => 70, query := true })
  | .setMirror m role mode policy _ lag _ _ _ _ =>
    some (m, {
      op := 0x0705, actors := [.m, .x], len := 52, rlen := fun _ => 8, expert := lag != 0 && lag != 262144
      bad := firstBad [(decide (1 < role), 0), (decide (1 < mode), 1), (policy != 0 && policy != 1 && policy != 0xFF, 2),
        (lag != 0 && (decide (lag < 4096) || decide (4194304 < lag)), 4)] })
  | .endMirror m _ => some (m, { op := 0x0706, actors := [.m, .x], len := 8 })
  | .promoteMirror m _ => some (m, { op := 0x0707, actors := [.m, .x], len := 8 })
  | .getMirror m _ => some (m, { op := 0x0708, actors := [.m, .x], len := 8, rlen := fun _ => 72, query := true })
  | .getPowerStatus m => some (m, { op := 0x0801, actors := [.m, .x], rlen := fun _ => 76, query := true })
  | .setReefLimit m level => some (m, { op := 0x0802, actors := [.m, .x], len := 1, rlen := fun _ => 1, bad := firstBad [(decide (4 < level), 0)] })
  | .enterCrowsNest m interval =>
    some (m, { op := 0x0803, actors := [.m, .x], len := 4, bad := firstBad [(interval == 0 || decide (3600 < interval), 0)] })
  | .powerDown m => some (m, { op := 0x0804, actors := [.m, .x] })
  | .getThermal m => some (m, { op := 0x0805, actors := [.m, .x, .t], rlen := fun _ => 57, query := true })
  | .getPortStatistics m _ => some (m, { op := 0x0901, actors := [.m, .x], len := 1, rlen := fun _ => 40, query := true })
  | .getIncompleteStripeSets m _ _ count =>
    some (m, {
      op := 0x0902, actors := [.m, .x], len := 12, rlen := listLen 8 6 3 2, query := true, bad := firstBad [(decide (670 < count), 8)] })
  | .getMastStatus m _ => some (m, { op := 0x0903, actors := [.m, .x], len := 1, rlen := fun _ => 20, query := true })
  | .pauseHostDma m fns => some (m, { op := 0x0904, actors := [.m], len := 17, expert := true, bad := firstBad [(decide (2 ^ 129 ≤ fns), 16)] })
  | .resumeHostDma m fns => some (m, { op := 0x0905, actors := [.m], len := 17, expert := true, bad := firstBad [(decide (2 ^ 129 ≤ fns), 16)] })
  | .startCapacitanceSelfTest m _ => some (m, { op := 0x0906, actors := [.m], rlen := fun _ => 4, expert := true })
  | .getInternalResources m => some (m, { op := 0x0907, actors := [.m, .x], rlen := fun _ => 76, query := true })
  | .takeOwnership m _ => some (m, { op := 0x0A01, actors := [.m], len := 97, rlen := fun _ => 32 })
  | .transferOwnership m key => some (m, { op := 0x0A02, actors := [.o], len := 97, rlen := fun _ => 32, payload := pointBytes key })
  | .getSignedObject m object =>
    some (m, {
      op := 0x0A03, actors := [.m, .x], len := 1, rlen := fun l => l.length, query := true
      bad := firstBad [(object != 1 && object != 2, 0)] })
  | .writeSignedObject m object record profile _ _ =>
    let bytes := if object == 1 then driveMessage record else mediaMessage profile
    some (m, {
      op := 0x0A04, actors := [.m], len := 4 + bytes.length + 96, rlen := fun _ => 4, bad := firstBad [(object != 1 && object != 2, 0)] })
  | .formatMedia m => some (m, { op := 0x0A05, actors := [.o] })
  | .restoreDefaultControls m group => some (m, { op := 0x0A06, actors := [.o], len := 4, payload := bytesLE 4 group })
  | .unknownOpcode m op => some (m, { op := op, actors := [.a, .x], len := m.len })
  | _ => none

end Sys2Proof.Machine
end

