-- ==== Sys2Proof/Machine/Mailbox.lean ====
section
/-! DEFINITION. The management mailboxes and the MCTP endpoint: GO, validation, the effect at step 4 of the next frame, and the
responses (R408 to R416, R421, R434, R489, R492, R542). -/

namespace Sys2Proof.Machine

/-! ## Validation (R410 to R416) -/

/-- Whether the actor entry admits the transport or function a command comes from (R311, R414). -/
def admits (l : List Actor) : Via → Option Resp
  | .mctp => if l.contains .x || l.contains .o then none else some (errR 0x0403)
  | .bar f _ => if f == 0 || l.contains .t || l.contains .a then none else some (errR 0x0402)
/-- Commands accepted before ready (R489). -/
def earlyOp (op : Nat) : Bool := op == 0x0001 || op == 0x0002 || op == 0x0A03 || op / 256 == 0x09
/-- What the state of the device as a whole refuses (R420, R489, R492). -/
def State.deviceRefuses (s : State) (c : MForm) : Option Resp :=
  let no (d : Nat) : Option Resp := some (errR 0x0202 0 d)
  if s.pwr.dev == .starting then (if earlyOp c.op then none else no s.start.stage)
  else if s.provision != .formatted && ! earlyOp c.op && c.op / 256 != 0x0A then
    no (match s.provision with
      | .unassembled => 0x10
      | .unprovisioned => 0x11
      | .unformatted | .formatted => 0x12)
  else if c.query || c.op == 0x0904 || c.op == 0x0905 then none
  else if s.start.sanitize.isSome then no 0x21
  else if s.pwr.entries.any (fun e => e.kind == .crowsNest) then no 0x23
  else if 0 < s.pwr.prep && s.pwr.prep < 4 then no 0x22
  else none
/-- Payload length that the layout asks for: with the owner trailer where the command ends in one (R413, R415). -/
def wantedLen (m : MbxHdr) (c : MForm) : Nat := c.len + if c.actors == [.o] || (c.actors.contains .o && m.trailer.isSome) then 128 else 0
/-- The extended buffer and the lengths (R410, R413). -/
def lengthRefuses (m : MbxHdr) (c : MForm) : Option Resp :=
  let ext := m.extReq || m.extResp
  let want := if c.actors == [.o] && m.trailer.isNone then c.len else wantedLen m c
  if ! m.extReq && 4032 < m.len then some (errR 0x0107 m.len)
  else if ext && (m.extLen < 64 || 1048576 < m.extLen) then some (errR 0x0106 m.extAddr)
  else if m.extReq && m.extLen < m.len then some (errR 0x0107 m.len)
  else if m.extReq && m.extFails then some (errR 0x0106 m.extAddr)
  else if m.len != want then some (errR 0x0102 (wantedLen m c))
  else none
/-- Reserved header flags and payload bytes (R15). -/
def reservedRefuses (m : MbxHdr) : Option Resp :=
  if m.rsvdFlags then some (errR 0x0103 2) else m.rsvd.map fun o => errR 0x0103 o
/-- What a tenant may name (R414): itself, and namespaces attached to it; a consent names one of which it is the origin (R319). -/
def State.tenantRefuses (s : State) (m : MbxHdr) (c : MForm) : Option Resp :=
  if isManager m.via then none
  else
    let f := callerOf m.via
    if c.managerPart || c.fn.any (· != f) then some (errR 0x0402)
    else match c.ns with
      | some id => if c.op == 0x010A || (s.ns? id).any (fun n => n.attached.contains f) then none else some (errR 0x0405 id)
      | none => none
/-- Header bytes 0 to 11 (R409). -/
def headerBytes (m : MbxHdr) (op : Nat) : List Nat :=
  bytesLE 2 op ++ bytesLE 2 (bitOf m.extReq 0 + bitOf m.extResp 1 + bitOf m.ownerFlag 2) ++ bytesLE 4 m.tag ++ bytesLE 4 m.len
/-- The owner trailer verifies (R415): a challenge not older than 62,500 frames, and the owner key's signature. -/
def State.ownerOk (s : State) (m : MbxHdr) (c : MForm) : Bool :=
  match m.trailer, s.ownerKey with
  | some t, some k =>
    m.ownerFlag && s.keys.challenges.any (fun x => x.2.1 == t.challenge && decide (s.clk.frame ≤ x.2.2 + 62500)) &&
    ecdsaVerify k (headerBytes m c.op ++ c.payload ++ bytesLE 32 t.challenge.toNat) t.r t.s
  | _, _ => false
/-- Owner authorisation (R414, R415): needed where the owner alone may act, and over MCTP where the manager's right does not extend there. -/
def State.ownerRefuses (s : State) (m : MbxHdr) (c : MForm) : Option Resp :=
  let needs := c.actors.contains .o && (c.actors == [.o] || m.trailer.isSome || m.ownerFlag || (m.via == .mctp && ! c.actors.contains .x))
  if needs && ! s.ownerOk m c then some (errR 0x0607) else none
/-- Mailbox-class buffers of a command outside function 0's own (R434): one for the payload, and those of its extended buffer. -/
def bufsOf (m : MbxHdr) : Nat :=
  match m.via with
  | .bar 0 _ => 0
  | _ => 1 + if m.extReq || m.extResp then ceilDiv m.extLen 4096 else 0
/-- The verdict of validation: the status the command fails with, or none. -/
def State.validate (s : State) (m : MbxHdr) (c : MForm) (known : Bool) : Option Resp :=
  [if known then none else some (errR 0x0101), s.deviceRefuses c, admits c.actors m.via,
    if m.via == .mctp && (m.extReq || m.extResp) then some (errR 0x0403) else none,
    lengthRefuses m c, reservedRefuses m, s.tenantRefuses m c,
    if c.expert && ! s.callerExpert m.via then some (errR 0x0401) else none,
    s.ownerRefuses m c, c.bad.map fun o => errR 0x0104 o,
    if m.extResp && m.extLen < c.rlen [] then some (errR 0x0107 (c.rlen [])) else none,
    if s.classRoom .mailbox (bufsOf m) then none else some (errR 0x0301 8)].findSome? id

/-! ## GO (R411, R412, R416, R542) -/

/-- The transport takes commands: the function's window is reachable and, of an instance, not resetting (R322, R390); the endpoint runs
with the management complex (R416). -/
def State.takesCommands (s : State) : Via → Bool
  | .bar f mb => s.barOpen f (s.dual && f == 0 && decide (2 ≤ mb)) && (s.fn f).state != .resetting && ! s.dumping && ! s.halted
  | .mctp => s.hcxOn && s.start.released && ! s.dumping && ! s.halted
def State.mbxAt (s : State) (v : Via) : Option Mbx := s.mbx.boxes.find? (·.via == v)
def State.modMbxAt (s : State) (v : Via) (f : Mbx → Mbx) : State := s.modMbx fun x => { x with boxes := updIf (·.via == v) f x.boxes }
/-- A challenge is good for one command (R415); a command refused for its form or for Expert has no side effect (R8, R15), so it does not spend
one. -/
def sparesChallenge : Option Resp → Bool
  | some r => r.status == 0x0103 || r.status == 0x0401
  | none => false
/-- Spend the challenge that a command carries. -/
def State.spendChallenge (s : State) (m : MbxHdr) : State :=
  match m.ownerFlag, m.trailer with
  | true, some t => s.modKeys fun k => { k with challenges := k.challenges.filter (·.2.1 != t.challenge) }
  | _, _ => s
/-- GO with a command in a free mailbox, or the last packet of an MCTP request: the command is validated and waits for step 4 of the
next frame. In a mailbox that is not free it is ignored and sets GO-while-busy; the busy endpoint answers 0x0205. -/
def State.goWith (s : State) (m : MbxHdr) (i : Instr) (c : MForm) (known : Bool) : State :=
  match s.mbxAt m.via with
  | none => s
  | some b =>
    if ! s.takesCommands m.via then s
    else if b.busy || b.done then
      match m.via with
      | .mctp => s.emit (.mctp c.op m.tag (errR 0x0205))
      | .bar _ _ => s.modMbxAt m.via fun b => { b with goWhileBusy := true }
    else
      let v := s.validate m c known
      let s := (if sparesChallenge v then s else s.spendChallenge m).modMbxAt m.via fun b => { b with
        busy := true, cmd := some i, verdict := v, validated := s.clk.frame, waiting := false, opcode := c.op, tag := m.tag
        bufs := if v == some (errR 0x0301 8) then 0 else bufsOf m }
      s.modMbx fun x => { x with order := x.order ++ [m.via] }
/-- A mailbox command (R408, R411): a mailbox that no function has is no unit of the device. -/
def State.go (s : State) (i : Instr) : Res :=
  match mbxForm s i with
  | none => .next s
  | some (m, c) =>
    let known := match i with
      | .unknownOpcode _ _ => false
      | _ => true
    whenUnit (match m.via with
      | .mctp => true
      | .bar f mb => decide (f ≤ 128) && decide (mb < if f == 0 then 4 else 1)) (.next (s.goWith m i c known))

/-! ## Effects at step 4 (R50, R412, R421) -/

/-- The effect of a command, its response, and none while it waits for its end. -/
def applyMbx (i : Instr) (s : State) : State × Option Resp :=
  let now (e : Eff) : State × Option Resp := (e.1, some e.2)
  match i with
  | .getIdentity m => now (effGetIdentity m.via s)
  | .getTime _ => now (effGetTime s)
  | .setTime _ a b => now (effSetTime a b s)
  | .getControl _ a b => now (effGetControl a b s)
  | .setControl _ a b c => now (effSetControl a b c s)
  | .getOwnerChallenge m => now (effGetOwnerChallenge m.via s)
  | .setAllocation _ a b c => now (effSetAllocation a b c s)
  | .getInstance _ f => now (effGetInstance f s)
  | .instanceOnline _ f => now (effInstanceOnline f s)
  | .instanceOffline _ f => effInstanceOffline f s
  | .resetInstance _ f => effResetInstance f s
  | .deleteInstance _ f b => now (effDeleteInstance f b s)
  | .setContract _ f a b c d e g => now (effSetContract f a b c d e g s)
  | .getContract _ f => now (effGetContract f s)
  | .setExpertEnable _ f b => now (effSetExpertEnable f b s)
  | .consentToAttach m n f => now (effConsentToAttach m.via n f s)
  | .createNamespace _ o l p z sg w k e pm ac op cv =>
    let r : NsRequest := {
      origin := o, lbaf := l, pi := p, zones := z, segs := sg, wmax := w, cls := k, pie := e, permitted := pm, active := ac, open_ := op
      conv := cv }
    now (effCreateNamespace r s)
  | .deleteNamespace _ n => now (effDeleteNamespace n s)
  | .attachNamespace _ n f => now (effAttachNamespace n f s)
  | .detachNamespace _ n f => now (effDetachNamespace n f s)
  | .getNamespace m n => now (effGetNamespace m.via n s)
  | .setNamespaceAttributes _ n a b c d e f g => now (effSetNamespaceAttributes n a b c d e f g s)
  | .defineClass _ a b c d => now (effDefineClass a b c d s)
  | .deleteClass _ a => now (effDeleteClass a s)
  | .getZoneRecord m n z => now (effGetZoneRecord m.via n z s)
  | .getTransportKey _ => now (effGetTransportKey s)
  | .establishKek m a b p => now (effEstablishKek m.via a b p s)
  | .loadKey m sl k p sg fg salt fl w => now (effLoadKey m.via sl k p sg fg salt fl w s)
  | .eraseKey m a => now (effEraseKey m.via a s)
  | .bindNamespaceKey m n a => now (effBindNamespaceKey m.via n a s)
  | .getSlot m a => now (effGetSlot m.via a s)
  | .exportKey m a d => now (effExportKeyTo m.via a d s)
  | .getKeyRegister _ a b => now (effGetKeyRegister a b s)
  | .getPatrolStatus _ => now (effGetPatrolStatus s)
  | .getLossLedger m n a b => now (effGetLossLedger m.via n a b s)
  | .getLunHealth _ g => now (effGetLunHealth g s)
  | .leaveReadPreserve _ => now (effLeaveReadPreserve s)
  | .getIdentityCertificate _ => now (effGetIdentityCertificate s)
  | .treeCheck m n z o => now (effTreeCheck m.via n z o s)
  | .rangeDigest m n a l o => now (effRangeDigest m.via n a l o s)
  | .zoneAttestation m n z k sl v o x => now (effZoneAttestation m.via n z k sl v o x s)
  | .rangeAttestation m n a l k sl o x => now (effRangeAttestation m.via n a l k sl o x s)
  | .keyBinding m a x => now (effKeyBinding m.via a x s)
  | .getFixityResult m j => now (effGetFixityResult m.via j s)
  | .createOwnerAttestationKey m a => now (effCreateOwnerAttestationKey m.via a s)
  | .deleteOwnerAttestationKey _ a => now (effDeleteOwnerAttestationKey a s)
  | .getHalyardPort _ p => now (effGetHalyardPort p s)
  | .listPartners _ a b => now (effListPartners a b s)
  | .pairPartner _ d => now (effPairPartner d s)
  | .unpairPartner _ d => now (effUnpairPartner d s)
  | .releaseQuarantine _ d => now (effReleaseQuarantine d s)
  | .setAllowlist _ l => now (effSetAllowlist l s)
  | .getAllowlist _ => now (effGetAllowlist s)
  | .startMigration _ d n c st z => now (effStartMigration d n c st z s)
  | .acceptMigration _ d n c => now (effAcceptMigration d n c s)
  | .cancelMigration _ j => now (effCancelMigration j s)
  | .getMigrationJob _ j => now (effGetMigrationJob j s)
  | .setMirror _ a b c d e f g h o => now (effSetMirror a b c d e f g h o s)
  | .endMirror _ r => now (effEndMirror r s)
  | .promoteMirror _ r => now (effPromoteMirror r s)
  | .getMirror _ r => now (effGetMirror r s)
  | .getPowerStatus _ => now (effGetPowerStatus s)
  | .setReefLimit _ l => now (effSetReefLimit l s)
  | .enterCrowsNest _ n => now (effEnterCrowsNest n s)
  | .powerDown _ => effPowerDown s
  | .getThermal _ => now (effGetThermal s)
  | .getPortStatistics _ p => now (effGetPortStatistics p s)
  | .getIncompleteStripeSets _ w a b => now (effGetIncompleteStripeSets w a b s)
  | .getMastStatus _ a => now (effGetMastStatus a s)
  | .pauseHostDma _ f => now (effPauseHostDma f s)
  | .resumeHostDma _ f => now (effResumeHostDma f s)
  | .startCapacitanceSelfTest _ v => effStartCapacitanceSelfTest v s
  | .getInternalResources _ => now (effGetInternalResources s)
  | .takeOwnership _ k => now (effTakeOwnership k s)
  | .transferOwnership _ k => now (effTransferOwnership k s)
  | .getSignedObject _ o => now (effGetSignedObject o s)
  | .writeSignedObject _ o r p x y => now (effWriteSignedObject o r p x y s)
  | .formatMedia _ => now (effFormatMedia s)
  | .restoreDefaultControls _ g => now (effRestoreDefaultControls g s)
  | _ => now (s, errR 0x0101)

/-- Deliver a response: into the window, or into the extended buffer, after whose read-back DONE is set (R403, R410). A response too long
for its place is 0x0107. -/
def State.finishMbx (s : State) (m : MbxHdr) (c : MForm) (r : Resp) : State :=
  let n := if r.status < 0x100 then c.rlen r.fields else 0
  let r := if (! m.extResp && 4032 < n) || (m.extResp && m.extLen < n) then errR 0x0107 n else r
  match m.extResp && decide (r.status < 0x100) && decide (0 < n), m.via with
  | true, .bar f mb =>
    if m.extFails then s.respond m.via (errR 0x0106 m.extAddr)
    else
      let s := s.modMbxAt m.via fun b => { b with verdict := some r, waiting := true, effect := s.clk.frame }
      s.request { req := 0, fn := f, port1 := s.dual && f == 0 && decide (2 ≤ mb), what := .mailbox mb, issued := 0, address := m.extAddr }
  | _, _ => s.respond m.via r
/-- Load Key, Erase Key and Establish KEK: their status follows the durable slot image (R306); that of Format Media follows the durable format
record (R495). -/
def endsDurable : Instr → Bool
  | .loadKey _ _ _ _ _ _ _ _ _ | .eraseKey _ _ | .establishKek _ _ _ _ | .formatMedia _ => true
  | _ => false
/-- What is left of such a command once its record is durable: the format itself, which a namespace created meanwhile refuses. -/
def State.heldEffect (s : State) (i : Instr) (r : Resp) : State × Resp :=
  match i with
  | .formatMedia _ => match s.nss.find? (! ·.deleted) with
    | some n => (s, errR 0x0203 n.nsid)
    | none => (s.formatMedia, r)
  | _ => (s, r)
/-- Post the statuses that waited for a record which is durable now (R306, R495). -/
def State.answerHeld (s : State) : State :=
  let first := (s.journal 8).next - (s.journal 8).staged.length
  each (s.mbx.boxes.filter fun b => b.held.any (· < first)) (fun s b =>
    match b.cmd, b.verdict with
    | some i, some r => match mbxForm s i with
      | some (m, c) =>
        let (s, r) := s.heldEffect i r
        (s.modMbxAt b.via fun b => { b with held := none }).finishMbx m c r
      | none => s
    | _, _ => s) s
/-- One validated command takes effect, if it is of the given kind (R412): a failed one with its status, one that names a deleted
namespace with 0x0105. -/
def State.takeEffect (queries : Bool) (s : State) (v : Via) : State :=
  match s.mbxAt v with
  | none => s
  | some b =>
    match b.busy && ! b.waiting, b.cmd.bind fun i => (mbxForm s i).map fun x => (i, x) with
    | true, some (i, m, c) =>
      if c.query != queries then s
      else match b.verdict with
        | some r => s.respond v r
        | none =>
          if c.ns.any fun id => (s.ns? id).any (·.deleted) then s.respond v (errR 0x0105 (c.ns.getD 0))
          else
            match applyMbx i s with
            | (s, some r) =>
              if r.status < 0x100 && endsDurable i then s.modMbxAt v fun b => { b with
                verdict := some r, waiting := true, effect := s.clk.frame, held := some ((s.journal 8).next - 1) }
              else s.finishMbx m c r
            | (s, none) => s.modMbxAt v fun b => { b with waiting := true, effect := s.clk.frame }
    | _, _ => s
/-- Step 4 of R49: the commands validated in earlier frames take effect in order of receipt, and the queries among them are answered
after every change (R412, R421). -/
def State.mailboxChanges (s : State) : State :=
  let s := s.answerHeld
  let due := s.mbx.order.filter fun v => (s.mbxAt v).any fun b => decide (b.validated < s.clk.frame)
  each due (State.takeEffect false) s
def State.mailboxQueries (s : State) : State :=
  let due := s.mbx.order.filter fun v => (s.mbxAt v).any fun b => decide (b.validated < s.clk.frame)
  let s := each due (State.takeEffect true) s
  s.modMbx fun x => { x with order := x.order.filter (! due.contains ·) }

/-- DONE_CLEAR (R542): a write of 1 to DONE, judged before a GO of the same write. The command of such a GO is the next one of its
mailbox; where one is under way the GO sets GO-while-busy (R411). -/
def execDoneClear (fn mb : Nat) (goToo : Bool) (s : State) : Res :=
  whenUnit (decide (fn ≤ 128) && decide (mb < if fn == 0 then 4 else 1)) <| .next <|
    if ! s.barOpen fn (s.dual && fn == 0 && decide (2 ≤ mb)) then s
    else s.modMbxAt (.bar fn mb) fun b => { b with done := false, goWhileBusy := b.goWhileBusy || (goToo && b.busy) }

end Sys2Proof.Machine
end

