-- ==== Sys2Proof/Machine/Frame.lean ====
section
/-! DEFINITION. FRAME_START: the ten steps of R49, the frame plans of R51 and R52, and the events that a frame itself raises (R195,
R427, R459). -/

namespace Sys2Proof.Machine

/-! ## Frame plans (R48, R51, R52, R90, R175 to R179) -/

/-- Cycles of the plan window, from its first cycle on (R48). -/
def planWindow : Nat := 1680
def slackCycles : Nat := 320
/-- Cycles that a plan already holds. -/
def planUsed (l : List PlanEntry) : Nat := sumOf PlanEntry.cycles l
/-- Add an entry to its port's plan, after those that it holds, if it ends within the plan window (R48, R52). -/
def State.planTry (s : State) (e : PlanEntry) : Option State :=
  let p := portOfLun e.lun
  let used := planUsed (s.port p).plan
  if s.takesPlans p && decide (used + e.cycles ≤ planWindow) then
    some (s.modPort p fun x => { x with plan := x.plan ++ [{ e with start := slackCycles + used }] })
  else none
/-- An entry that does not fit is for a later plan. -/
def State.planAdd (s : State) (e : PlanEntry) : State := (s.planTry e).getD s
/-- All of some entries, or none of them. -/
def State.planAll (s : State) : List PlanEntry → Option State
  | [] => some s
  | e :: es => (s.planTry e).bind fun t => t.planAll es
/-- An entry of a LUN at the planned cycles of its port. -/
def State.entry (s : State) (glun kind cycles : Nat) (contracted : Bool) : PlanEntry :=
  { lun := glun, kind := kind, cycles := s.planCycles (portOfLun glun) cycles, contracted := contracted }
/-- LUNs with an operation. -/
def State.working (s : State) : List Nat := (s.luns.filter fun l => l.work.isSome).map (·.glun)
/-- The operation has its command and its data: it runs on the die. -/
def DieWork.runs (w : DieWork) : Bool := ! w.cmd && w.dataLeft == 0

/-- PLANNED_SUSPEND (R175): a contracted read is pending on a LUN whose program or erase can be suspended. -/
def State.planSuspends (s : State) : State :=
  each s.working (fun s g =>
    let due := match (s.lun g).work with
      | some w => w.runs && ! w.suspended && ! s.suspendPlanned g && s.contractedOn g && s.canSuspend g
      | none => false
    if due then s.planAdd (s.entry g 4 s.profile.suspendCycles true) else s) s

/-- A LUN can take a read command in the next frame: nothing runs there, or for a contracted read an operation suspended long enough ago. -/
def State.lunOpen (s : State) (contracted : Bool) (glun : Nat) : Bool :=
  match (s.lun glun).work with
  | none => true
  | some w => ! w.runs || (contracted && w.suspended && decide (w.idleFrom ≤ s.clk.frame + 1))
/-- The read of another unit is under way on a LUN: its commands are in a plan, and not all of its bursts are. -/
def State.lunReading (s : State) (key glun : Nat) : Bool :=
  s.io.cmds.any fun c => c.blocks.any fun b => b.phase == 0 && b.failedAt == 0 && b.sent && ! b.planned && b.key != key && b.reads.contains glun
/-- A contracted read of another unit that was admitted earlier has still to start on a LUN (R177). -/
def State.earlierOn (s : State) (order key glun : Nat) : Bool :=
  s.io.cmds.any fun c => c.cls != .c && decide (c.order < order) && c.blocks.any fun b =>
    b.phase == 0 && b.failedAt == 0 && ! b.sent && b.key != key && b.reads.contains glun
/-- Address of the page that a block's position reads on a LUN of its segment (R73, R241). -/
def State.readAddress (s : State) (b : RBlock) (glun : Nat) : Nat × Nat :=
  match s.memberAt b.nsid b.lba, s.block? b.nsid b.lba with
  | some (g, _, _), some x =>
    let q := ((List.range g.width).find? fun q => s.memberGlun g q == glun).getD 0
    let (page, plane) := pagePlane s.profile (pageIndexOf s.profile x.row x.idx).1
    dieAddress s.profile glun (g.members.getD q 0) plane page
  | _, _ => (0, 0)
/-- Commands of a block's step: all of them together, once each LUN can take its own. -/
def State.sendReads (s : State) (c : Cmd) (i : Nat) (b : RBlock) : State :=
  let k := c.cls != .c
  let free (x : Nat) : Bool := s.lunOpen k x && ! s.lunReading b.key x && (! k || ! s.earlierOn c.order b.key x) && (k || ! s.contractedOn x)
  let cmds := b.reads.map fun x => { s.entry x 0 s.profile.cmdCycles k with ref := some (c.id, i), addr := s.readAddress b x }
  if ! b.reads.all free then s
  else match s.planAll cmds with
    | some t => t.setBlockAt c.id i fun b => { b with sent := true, since := s.clk.frame + 1 }
    | none => s
/-- Polls and data-out bursts of a block's step, one burst for each codeword, from the frame on in which its reads have ended at their maximum. -/
def State.burstReads (s : State) (c : Cmd) (i : Nat) (b : RBlock) : State :=
  let k := c.cls != .c
  let luns := dedupN b.reads
  let ends := b.since + maxOf (luns.map fun x => countIf (· == x) b.reads * s.planned x s.profile.readNs)
  if s.clk.frame + 1 < ends then s
  else
    let s := if b.due.length == b.reads.length then each luns (fun s x => s.planAdd { s.entry x 3 s.profile.pollCycles k with ref := some (c.id, i) }) s else s
    each b.due (fun s x =>
      match s.planTry { s.entry x 2 (burstCycles s.profile) k with ref := some (c.id, i) } with
      | some t => t.setBlockAt c.id i fun b =>
          let due := b.due.erase x
          { b with due := due, planned := due.isEmpty, burst := s.clk.frame + 1 }
      | none => s) s
/-- The reads of the blocks under way, in the order of their admission: contracted ones, with those that a contracted read waits for, or the
others (R51, R176 to R179). -/
def State.planReads (s : State) (contracted : Bool) : State :=
  let cmds := sortBy (fun a b => decide (a.order ≤ b.order)) (s.io.cmds.filter fun c => isRead c.op && (c.phase == .running || c.phase == .squashed))
  each cmds (fun s c => each c.blocks.zipIdx (fun s (b, i) =>
    let first := c.cls != .c || (b.sent && b.reads.any s.contractedOn)
    if b.phase != 0 || b.failedAt != 0 || b.planned || b.reads.isEmpty || first != contracted then s
    else if b.sent then s.burstReads c i b else s.sendReads c i b) s) s

/-- Polls of the operations whose planned end is reached (R52). -/
def State.planPolls (s : State) : State :=
  each s.working (fun s g =>
    match (s.lun g).work with
    | none => s
    | some w => if w.runs && ! w.suspended && decide (w.plannedEnd ≤ s.clk.frame + 1) then s.planAdd (s.entry g 3 s.profile.pollCycles false) else s) s
/-- Address of an operation's command: its block, at the first page of its wordline. -/
def State.workAddress (s : State) (glun : Nat) (w : DieWork) : Nat × Nat :=
  dieAddress s.profile glun w.block 0 (if w.kind == .erase then 0 else w.ref2 * s.profile.pagesPerWl)
/-- Data-in bursts of an operation, one for each codeword, as many as fit. -/
def State.planData (s : State) (glun : Nat) : State :=
  each (List.range (((s.lun glun).work.map (·.dataLeft)).getD 0)) (fun s _ =>
    match s.planTry (s.entry glun 1 (burstCycles s.profile) false) with
    | some t => t.modWork glun fun w => { w with dataLeft := w.dataLeft - 1, plannedEnd := s.clk.frame + 1 + w.dur }
    | none => s) s
/-- Resumes, once no contracted read is pending on the LUN (R175); and the commands and data of the operations to start, once no read is
pending there (R176, R179). -/
def State.planDies (s : State) : State :=
  each s.working (fun s g =>
    match (s.lun g).work with
    | none => s
    | some w =>
      if w.suspended then (if s.contractedOn g then s else s.planAdd (s.entry g 5 s.profile.suspendCycles false))
      else if w.runs || s.readOn g then s
      else if ! w.cmd then s.planData g
      else match s.planTry { s.entry g 0 s.profile.cmdCycles false with addr := s.workAddress g w } with
        | some t => (t.modWork g fun w => { w with cmd := false, plannedEnd := s.clk.frame + 1 + w.dur }).planData g
        | none => s) s
/-- PLAN_BUILD (R51): the plans of F+1, from the work dispatched at step 10 of F and the operations that run. -/
def State.buildPlans (s : State) : State :=
  let s := s.modPorts fun l => l.map fun p => { p with plan := [] }
  ((((s.planSuspends).planReads true).planPolls).planReads false).planDies

/-- The operations of a port that takes no plans (R55, R56): the sequencer completes those that were started, and the others do not start. -/
def State.drainPort (s : State) (p : Nat) : State :=
  let s := s.modPort p fun x => { x with plan := [], run := [], carried := [] }
  let drain (w : DieWork) : Option DieWork := if w.cmd then none else some { w with suspended := false, dataLeft := 0 }
  s.modLuns fun l => l.map fun x => if portOfLun x.glun == p then { x with work := x.work.bind drain } else x
/-- FRAME_PLAN of a port (R48, R51 to R54): the entries carried from the frame before run first, from cycle 0 in their order, with the polls that
found a die busy past its planned end; then the complete part of the plan. A suspended operation's planned end moves with the frames. -/
def State.runPort (s : State) (cuts : List (Nat × Nat)) (p : Nat) : State :=
  let x := s.port p
  let busy := x.run.filter fun e => e.kind == 3 && e.ref.isNone && (match (s.lun e.lun).work with
    | some w => w.runs && ! w.suspended && decide (w.plannedEnd < s.clk.frame)
    | none => false)
  let first := x.carried ++ busy.map fun e => { e with start := 0 }
  let s := if first.isEmpty then s else s.overrun p first.length (planUsed first)
  if ! s.takesPlans p then s.drainPort p
  else
    let n := match cuts.find? (·.1 == p) with
      | some c => c.2
      | none => x.plan.length
    let plan := (x.plan.take n).filter fun e => ! (e.kind == 3 && busy.any fun b => b.lun == e.lun)
    let (run, late) := runEntries 0 (first ++ plan)
    let s := s.modLuns fun l => l.map fun y => if portOfLun y.glun != p then y else
      { y with work := y.work.map fun w => if w.suspended then { w with plannedEnd := w.plannedEnd + 1 } else w }
    let s := s.modPort p fun x => { x with plan := [], run := run, carried := late }
    each late (fun s e => s.lateEntry e) (each run (fun s e => s.ranEntry e) (each (x.plan.drop n) (fun s e => s.unplan e) s))
/-- The plans of the frame run on every port. -/
def State.runPlans (s : State) (cuts : List (Nat × Nat)) : State := each (List.range s.portN) (fun s p => s.runPort cuts p) s

/-! ## Events of a frame -/

/-- BOUND_EXCEEDED (R195) for one function and cause: the count since its last record, at most once per 62,500 frames. -/
def State.reportBound (s : State) (fn code : Nat) (count last : Counters → Nat) (at_ : Counters → Option Nat)
    (mark : Nat → Counters → Counters) : State :=
  let k := (s.fn fn).counters
  let due := match at_ k with
    | some f => decide (f + 62500 ≤ s.clk.frame)
    | none => true
  if last k < count k && due then
    (s.modFn fn fun f => { f with counters := mark s.clk.frame f.counters }).raise 484 code 1 [count k - last k] fn
  else s
/-- Step 3: source 484 for every function whose counts have grown. -/
def State.reportBounds (s : State) : State :=
  let grown := s.fns.filter fun f =>
    let k := f.counters
    decide (k.rLadder < k.ladder) || decide (k.rOverrun < k.overrun) || decide (k.rCondition < k.condition)
  each grown (fun s f =>
    let s := s.reportBound f.fn 1 Counters.ladder Counters.rLadder Counters.fLadder fun n k => { k with rLadder := k.ladder, fLadder := some n }
    let s := s.reportBound f.fn 2 Counters.overrun Counters.rOverrun Counters.fOverrun fun n k => { k with rOverrun := k.overrun, fOverrun := some n }
    s.reportBound f.fn 3 Counters.condition Counters.rCondition Counters.fCondition fun n k => { k with rCondition := k.condition, fCondition := some n }) s

/-- Step 5: the reef level in effect (R459). A change raises source 600 with its cause, and source 485 for each row of bounds that it
changes (R195, R462). -/
def State.applyReef (s : State) : State :=
  let p := s.pwr
  let new := s.reef
  let therm := if s.therm.enforced then s.therm.level else 0
  let cause := if p.levelHost != p.hostLimit && max p.hostLimit p.levelTherm == new then 1 else if therm == 0 then 3 else 2
  let s := s.modPwr fun p => { p with level := new, levelHost := p.hostLimit, levelTherm := therm }
  if new == p.level then s
  else
    let s := s.raise 600 (new + 1) 0 [new, cause]
    each ([1, 2, 3, 4].filter fun r => s.rowAt p.level r != s.rowAt new r) (fun s r =>
      s.raise 485 1 0 [r, (s.rowAt new r).1, (s.rowAt new r).2]) s

/-! ## The steps -/

/-- Run a step; the records it raises are put in ascending source (R427). -/
def State.stepOf (f : State → State) (s : State) : State := (f s).settleEvents s.evt.raised.length

/-- Step 1: the frame number advances, and the inputs of the frame before are latched (R42, R143, R148, R461). The plan built for this
frame and the fetch begin anew. -/
def State.latchInputs (inp : FrameIn) (s : State) : State :=
  let s := s.modClk fun c => { (c.tick inp.ticks) with frame := c.frame + 1 }
  let r := s.record
  let s := s.modNrg fun n => { n with
    samples := (bankSample r inp.huSense :: n.samples).take 64, raws := (bankRaw r inp.huSense :: n.raws).take 16 }
  let s := (s.measurePower inp.power).modIo fun h => { h with fetched := 0 }
  (s.runPlans inp.cuts).halyardFrame
/-- Step 3: what completed in F−1 releases its slots and buffers (R58); reports of F−1, port states (R55), pauses that have ended, deletions and sanitize, buffer thresholds (R435), early warnings
(R430), domain answers (R465), resets that have retired (R326), bounds exceeded (R195). -/
def State.collect (s : State) : State :=
  let s := each (List.range s.portN) State.portReport (s.modIo fun h => { h with released := [] })
  let s := s.resumeAll.issueWaiting.purgeDeleted.sanitizeStep
  if s.ready then s.bufferThresholds.earlyWarnings.answerEntries.leaveRetired.reportBounds else s.leaveRetired
/-- Step 4: mailbox changes in order of receipt, admin commands of the same kind, queries after them, and resets (R50, R322, R421). -/
def State.changes (s : State) : State := s.mailboxChanges.adminStep4.mailboxQueries.startResets
/-- Step 5: throttle stages (R478), the reef level (R459), furls (R466) and the steps of R165. -/
def State.decisions (s : State) : State :=
  let s := s.throttle.applyReef
  if s.ready then s.furlEntries.shutdownStep else s
/-- Step 6: share credits (R184) and Halyard credits (R339). -/
def State.refreshCredits (s : State) : State :=
  let units := s.capUnits
  let cycles := s.capCycles
  (s.modFns fun l => l.map fun f => f.refresh units cycles s.portN).halyardCredits
/-- Step 10: peer work, the locks of zone records, and the plans of F+1 (R51, R341, R444). -/
def State.dispatchWork (s : State) : State := (s.peerFrame.relockRecords).buildPlans

/-- Steps 3 to 10 of a frame of a device that is starting or working. From step 5 on, frames may have become dark. -/
def State.frameSteps (s : State) : State :=
  let s := s.stepOf State.collect
  let s := s.stepOf State.changes
  let s := s.stepOf State.decisions
  if ! s.hcxOn then s
  else
    let s := s.stepOf State.refreshCredits
    let s := if s.ready then (((s.stepOf State.energyBudget).stepOf State.admission).stepOf State.patrolStep).stepOf State.dispatchWork else s
    s.deepBegins

/-- FRAME_START (R49): while `HCX` is furled or the device is unpowered no frame begins (R44). In a dump only steps 1 and 2 are taken
(R152). At the end the frame's records go to the rings (R427) and the status page is published (R536). -/
def execFrameStart (inp : FrameIn) (s : State) : Res :=
  .next <|
    if ! s.hcxOn then s
    else
      let s := s.stepOf (State.latchInputs inp)
      let s := s.stepOf State.latchPower
      let s := s.stepOf State.dumpFrameStep
      let s := if s.pwr.dev == .starting || s.ready then s.frameSteps else s
      if ! s.hcxOn then s
      else
        let s := s.deliverEvents
        { s with stseq := s.stseq + 1 }

end Sys2Proof.Machine
end

