-- ==== Sys2Proof/Machine/MailboxCmds.lean ====
section
/-! DEFINITION. The mailbox commands: each is written into its mailbox and issued with GO. What it does at step 4 of the next frame is its
effect function, through applyMbx (R411, R412, R419). -/

namespace Sys2Proof.Machine

/-- GET_IDENTITY (R419). -/
def execGetIdentity (m : MbxHdr) (s : State) : Res := s.go (.getIdentity m)
/-- GET_TIME (R419). -/
def execGetTime (m : MbxHdr) (s : State) : Res := s.go (.getTime m)
/-- SET_TIME (R60). -/
def execSetTime (m : MbxHdr) (seconds fraction : Nat) (s : State) : Res := s.go (.setTime m seconds fraction)
/-- GET_CONTROL (R417). -/
def execGetControl (m : MbxHdr) (ident scope : Nat) (s : State) : Res := s.go (.getControl m ident scope)
/-- SET_CONTROL (R417). -/
def execSetControl (m : MbxHdr) (ident scope value : Nat) (s : State) : Res := s.go (.setControl m ident scope value)
/-- GET_OWNER_CHALLENGE (R415). -/
def execGetOwnerChallenge (m : MbxHdr) (s : State) : Res := s.go (.getOwnerChallenge m)
/-- SET_ALLOCATION (R317). -/
def execSetAllocation (m : MbxHdr) (fn resource value : Nat) (s : State) : Res := s.go (.setAllocation m fn resource value)
/-- GET_INSTANCE (R419). -/
def execGetInstance (m : MbxHdr) (fn : Nat) (s : State) : Res := s.go (.getInstance m fn)
/-- INSTANCE_ONLINE (R313). -/
def execInstanceOnline (m : MbxHdr) (fn : Nat) (s : State) : Res := s.go (.instanceOnline m fn)
/-- INSTANCE_OFFLINE (R322). -/
def execInstanceOffline (m : MbxHdr) (fn : Nat) (s : State) : Res := s.go (.instanceOffline m fn)
/-- RESET_INSTANCE (R322). -/
def execResetInstance (m : MbxHdr) (fn : Nat) (s : State) : Res := s.go (.resetInstance m fn)
/-- DELETE_INSTANCE (R329). -/
def execDeleteInstance (m : MbxHdr) (fn : Nat) (deleteNamespaces : Bool) (s : State) : Res := s.go (.deleteInstance m fn deleteNamespaces)
/-- SET_CONTRACT (R187). -/
def execSetContract (m : MbxHdr) (fn cls : Nat) (constantTime : Bool) (reserved burst t ceiling : Nat) (s : State) : Res := s.go (.setContract m fn cls constantTime reserved burst t ceiling)
/-- GET_CONTRACT (R419). -/
def execGetContract (m : MbxHdr) (fn : Nat) (s : State) : Res := s.go (.getContract m fn)
/-- SET_EXPERT_ENABLE (R8). -/
def execSetExpertEnable (m : MbxHdr) (fn : Nat) (enable : Bool) (s : State) : Res := s.go (.setExpertEnable m fn enable)
/-- CONSENT_TO_ATTACH (R319). -/
def execConsentToAttach (m : MbxHdr) (nsid fn : Nat) (s : State) : Res := s.go (.consentToAttach m nsid fn)
/-- CREATE_NAMESPACE (R103). -/
def execCreateNamespace (m : MbxHdr) (origin lbaf pi zones segs wmax cls : Nat) (pie : Bool) (permitted active open_ conv : Nat) (s : State) : Res := s.go (.createNamespace m origin lbaf pi zones segs wmax cls pie permitted active open_ conv)
/-- DELETE_NAMESPACE (R320). -/
def execDeleteNamespace (m : MbxHdr) (nsid : Nat) (s : State) : Res := s.go (.deleteNamespace m nsid)
/-- ATTACH_NAMESPACE (R319). -/
def execAttachNamespace (m : MbxHdr) (nsid fn : Nat) (s : State) : Res := s.go (.attachNamespace m nsid fn)
/-- DETACH_NAMESPACE (R320). -/
def execDetachNamespace (m : MbxHdr) (nsid fn : Nat) (s : State) : Res := s.go (.detachNamespace m nsid fn)
/-- GET_NAMESPACE (R419). -/
def execGetNamespace (m : MbxHdr) (nsid : Nat) (s : State) : Res := s.go (.getNamespace m nsid)
/-- SET_NAMESPACE_ATTRIBUTES (R103). -/
def execSetNamespaceAttributes (m : MbxHdr) (nsid : Nat) (setCls setPerm setLimits : Bool) (cls permitted active open_ : Nat) (s : State) : Res := s.go (.setNamespaceAttributes m nsid setCls setPerm setLimits cls permitted active open_)
/-- DEFINE_CLASS (R125). -/
def execDefineClass (m : MbxHdr) (cls width grade affinity : Nat) (s : State) : Res := s.go (.defineClass m cls width grade affinity)
/-- DELETE_CLASS (R125). -/
def execDeleteClass (m : MbxHdr) (cls : Nat) (s : State) : Res := s.go (.deleteClass m cls)
/-- GET_ZONE_RECORD (R419). -/
def execGetZoneRecord (m : MbxHdr) (nsid zone : Nat) (s : State) : Res := s.go (.getZoneRecord m nsid zone)
/-- GET_TRANSPORT_KEY (R289). -/
def execGetTransportKey (m : MbxHdr) (s : State) : Res := s.go (.getTransportKey m)
/-- ESTABLISH_KEK (R291). -/
def execEstablishKek (m : MbxHdr) (index : Nat) (persistent : Bool) (point : PubKey) (s : State) : Res := s.go (.establishKek m index persistent point)
/-- LOAD_KEY (R292). -/
def execLoadKey (m : MbxHdr) (slot kek : Nat) (persistent saltGiven floorGiven : Bool) (salt : BitVec 32) (floor : Nat) (wrapped : BitVec 320) (s : State) : Res := s.go (.loadKey m slot kek persistent saltGiven floorGiven salt floor wrapped)
/-- ERASE_KEY (R294). -/
def execEraseKey (m : MbxHdr) (slot : Nat) (s : State) : Res := s.go (.eraseKey m slot)
/-- BIND_NAMESPACE_KEY (R297). -/
def execBindNamespaceKey (m : MbxHdr) (nsid slot : Nat) (s : State) : Res := s.go (.bindNamespaceKey m nsid slot)
/-- GET_SLOT (R419). -/
def execGetSlot (m : MbxHdr) (slot : Nat) (s : State) : Res := s.go (.getSlot m slot)
/-- EXPORT_KEY (R366). -/
def execExportKey (m : MbxHdr) (slot : Nat) (destination : Digest) (s : State) : Res := s.go (.exportKey m slot destination)
/-- GET_KEY_REGISTER (R419). -/
def execGetKeyRegister (m : MbxHdr) (first count : Nat) (s : State) : Res := s.go (.getKeyRegister m first count)
/-- GET_PATROL_STATUS (R419). -/
def execGetPatrolStatus (m : MbxHdr) (s : State) : Res := s.go (.getPatrolStatus m)
/-- GET_LOSS_LEDGER (R419). -/
def execGetLossLedger (m : MbxHdr) (nsid first count : Nat) (s : State) : Res := s.go (.getLossLedger m nsid first count)
/-- GET_LUN_HEALTH (R419). -/
def execGetLunHealth (m : MbxHdr) (glun : Nat) (s : State) : Res := s.go (.getLunHealth m glun)
/-- LEAVE_READ_PRESERVE (R235). -/
def execLeaveReadPreserve (m : MbxHdr) (s : State) : Res := s.go (.leaveReadPreserve m)
/-- GET_IDENTITY_CERTIFICATE (R278). -/
def execGetIdentityCertificate (m : MbxHdr) (s : State) : Res := s.go (.getIdentityCertificate m)
/-- TREE_CHECK (R272). -/
def execTreeCheck (m : MbxHdr) (nsid zone : Nat) (ownShare : Bool) (s : State) : Res := s.go (.treeCheck m nsid zone ownShare)
/-- RANGE_DIGEST (R274). -/
def execRangeDigest (m : MbxHdr) (nsid alg : Nat) (extents : List DigestExtent) (ownShare : Bool) (s : State) : Res := s.go (.rangeDigest m nsid alg extents ownShare)
/-- ZONE_ATTESTATION (R281). -/
def execZoneAttestation (m : MbxHdr) (nsid zone key slot : Nat) (verify ownShare : Bool) (nonce : Digest) (s : State) : Res := s.go (.zoneAttestation m nsid zone key slot verify ownShare nonce)
/-- RANGE_ATTESTATION (R272). -/
def execRangeAttestation (m : MbxHdr) (nsid alg : Nat) (extents : List DigestExtent) (key slot : Nat) (ownShare : Bool) (nonce : Digest) (s : State) : Res := s.go (.rangeAttestation m nsid alg extents key slot ownShare nonce)
/-- KEY_BINDING (R272). -/
def execKeyBinding (m : MbxHdr) (slot : Nat) (nonce : Digest) (s : State) : Res := s.go (.keyBinding m slot nonce)
/-- GET_FIXITY_RESULT (R419). -/
def execGetFixityResult (m : MbxHdr) (job : Nat) (s : State) : Res := s.go (.getFixityResult m job)
/-- CREATE_OWNER_ATTESTATION_KEY (R279). -/
def execCreateOwnerAttestationKey (m : MbxHdr) (slot : Nat) (s : State) : Res := s.go (.createOwnerAttestationKey m slot)
/-- DELETE_OWNER_ATTESTATION_KEY (R279). -/
def execDeleteOwnerAttestationKey (m : MbxHdr) (slot : Nat) (s : State) : Res := s.go (.deleteOwnerAttestationKey m slot)
/-- GET_HALYARD_PORT (R419). -/
def execGetHalyardPort (m : MbxHdr) (port : Nat) (s : State) : Res := s.go (.getHalyardPort m port)
/-- LIST_PARTNERS (R419). -/
def execListPartners (m : MbxHdr) (first count : Nat) (s : State) : Res := s.go (.listPartners m first count)
/-- PAIR_PARTNER (R350). -/
def execPairPartner (m : MbxHdr) (fp : Digest) (s : State) : Res := s.go (.pairPartner m fp)
/-- UNPAIR_PARTNER (R350). -/
def execUnpairPartner (m : MbxHdr) (fp : Digest) (s : State) : Res := s.go (.unpairPartner m fp)
/-- RELEASE_QUARANTINE (R352). -/
def execReleaseQuarantine (m : MbxHdr) (fp : Digest) (s : State) : Res := s.go (.releaseQuarantine m fp)
/-- SET_ALLOWLIST (R350). -/
def execSetAllowlist (m : MbxHdr) (fps : List Digest) (s : State) : Res := s.go (.setAllowlist m fps)
/-- GET_ALLOWLIST (R419). -/
def execGetAllowlist (m : MbxHdr) (s : State) : Res := s.go (.getAllowlist m)
/-- START_MIGRATION (R361). -/
def execStartMigration (m : MbxHdr) (destination : Digest) (nsid : Nat) (charge : Bool) (streams : Nat) (zones : List Nat) (s : State) : Res := s.go (.startMigration m destination nsid charge streams zones)
/-- ACCEPT_MIGRATION (R362). -/
def execAcceptMigration (m : MbxHdr) (source : Digest) (nsid cls : Nat) (s : State) : Res := s.go (.acceptMigration m source nsid cls)
/-- CANCEL_MIGRATION (R376). -/
def execCancelMigration (m : MbxHdr) (job : Nat) (s : State) : Res := s.go (.cancelMigration m job)
/-- GET_MIGRATION_JOB (R419). -/
def execGetMigrationJob (m : MbxHdr) (job : Nat) (s : State) : Res := s.go (.getMigrationJob m job)
/-- SET_MIRROR (R379). -/
def execSetMirror (m : MbxHdr) (role mode policy cls lag nsid firstZone zoneCount : Nat) (other : Digest) (s : State) : Res := s.go (.setMirror m role mode policy cls lag nsid firstZone zoneCount other)
/-- END_MIRROR (R384). -/
def execEndMirror (m : MbxHdr) (rel : Nat) (s : State) : Res := s.go (.endMirror m rel)
/-- PROMOTE_MIRROR (R384). -/
def execPromoteMirror (m : MbxHdr) (rel : Nat) (s : State) : Res := s.go (.promoteMirror m rel)
/-- GET_MIRROR (R419). -/
def execGetMirror (m : MbxHdr) (rel : Nat) (s : State) : Res := s.go (.getMirror m rel)
/-- GET_POWER_STATUS (R419). -/
def execGetPowerStatus (m : MbxHdr) (s : State) : Res := s.go (.getPowerStatus m)
/-- SET_REEF_LIMIT (R459). -/
def execSetReefLimit (m : MbxHdr) (level : Nat) (s : State) : Res := s.go (.setReefLimit m level)
/-- ENTER_CROWS_NEST (R469). -/
def execEnterCrowsNest (m : MbxHdr) (interval : Nat) (s : State) : Res := s.go (.enterCrowsNest m interval)
/-- POWER_DOWN (R165). -/
def execPowerDown (m : MbxHdr) (s : State) : Res := s.go (.powerDown m)
/-- GET_THERMAL (R419). -/
def execGetThermal (m : MbxHdr) (s : State) : Res := s.go (.getThermal m)
/-- GET_PORT_STATISTICS (R419). -/
def execGetPortStatistics (m : MbxHdr) (port : Nat) (s : State) : Res := s.go (.getPortStatistics m port)
/-- GET_INCOMPLETE_STRIPE_SETS (R419). -/
def execGetIncompleteStripeSets (m : MbxHdr) (width first count : Nat) (s : State) : Res := s.go (.getIncompleteStripeSets m width first count)
/-- GET_MAST_STATUS (R419). -/
def execGetMastStatus (m : MbxHdr) (mast : Nat) (s : State) : Res := s.go (.getMastStatus m mast)
/-- PAUSE_HOST_DMA (R406). -/
def execPauseHostDma (m : MbxHdr) (fns : Nat) (s : State) : Res := s.go (.pauseHostDma m fns)
/-- RESUME_HOST_DMA (R407). -/
def execResumeHostDma (m : MbxHdr) (fns : Nat) (s : State) : Res := s.go (.resumeHostDma m fns)
/-- START_CAPACITANCE_SELF_TEST (R148). -/
def execStartCapacitanceSelfTest (m : MbxHdr) (v1 : Nat) (s : State) : Res := s.go (.startCapacitanceSelfTest m v1)
/-- GET_INTERNAL_RESOURCES (R419). -/
def execGetInternalResources (m : MbxHdr) (s : State) : Res := s.go (.getInternalResources m)
/-- TAKE_OWNERSHIP (R494). -/
def execTakeOwnership (m : MbxHdr) (key : PubKey) (s : State) : Res := s.go (.takeOwnership m key)
/-- TRANSFER_OWNERSHIP (R494). -/
def execTransferOwnership (m : MbxHdr) (key : PubKey) (s : State) : Res := s.go (.transferOwnership m key)
/-- GET_SIGNED_OBJECT (R419). -/
def execGetSignedObject (m : MbxHdr) (object : Nat) (s : State) : Res := s.go (.getSignedObject m object)
/-- WRITE_SIGNED_OBJECT (R493). -/
def execWriteSignedObject (m : MbxHdr) (object : Nat) (record : DriveRecord) (profile : MediaProfile) (r sg : Nat) (s : State) : Res := s.go (.writeSignedObject m object record profile r sg)
/-- FORMAT_MEDIA (R495). -/
def execFormatMedia (m : MbxHdr) (s : State) : Res := s.go (.formatMedia m)
/-- RESTORE_DEFAULT_CONTROLS (R496). -/
def execRestoreDefaultControls (m : MbxHdr) (group : Nat) (s : State) : Res := s.go (.restoreDefaultControls m group)
/-- UNKNOWN_OPCODE (R419). -/
def execUnknownOpcode (m : MbxHdr) (opcode : Nat) (s : State) : Res := s.go (.unknownOpcode m opcode)

end Sys2Proof.Machine
end

