-- ==== Sys2Proof/Machine/Flags.lean ====
section
/-! DEFINITION. The registers of the device window as words: every field at its place, from the state it reports (R533 to R547). The status
page shows the values that stand at the end of step 10 of a frame (R536). -/

namespace Sys2Proof.Machine

/-! ## Fields -/

/-- A count of `bits` bits stops at its largest value (R535). -/
def sat (bits v : Nat) : Nat := min v (2 ^ bits - 1)
/-- A value at a bit position. -/
def at_ (lo v : Nat) : Nat := v * 2 ^ lo
def flag (b : Bool) (i : Nat) : Nat := bitOf b i
def word (v : Nat) : Word := BitVec.ofNat 32 v
/-- A signed 16-bit value. -/
def half (i : Int) : Nat := (i % 65536).toNat
def lo32 (v : Nat) : Nat := v % 2 ^ 32
def hi32 (v : Nat) : Nat := v / 2 ^ 32 % 2 ^ 32

/-! ## Identity and summary (R537) -/

def State.regId (s : State) (fn : Nat) (port1 : Bool) : Word := word (plynham + at_ 16 (s.deviceId fn port1))
def State.regRev (s : State) : Word := word (0x3141 + at_ 16 0x10 + at_ 24 s.mastN + flag s.dual 28)
def State.regFunc (s : State) (fn : Nat) (port1 : Bool) : Word :=
  word (fn + flag port1 8 + flag (s.fn fn).expert 9 + flag (s.paused fn port1) 10 + flag (s.drained fn port1) 11 +
    at_ 12 (if fn == 0 then 1 else (s.fn fn).state.num))
def Provision.num : Provision → Nat
  | .unassembled => 0
  | .unprovisioned => 1
  | .unformatted => 2
  | .formatted => 3
def State.regStage (s : State) : Word :=
  word (s.start.stage + flag s.start.failed 4 + at_ 5 (Provision.num s.provision) + flag s.ownerKey.isSome 7 + flag s.media.readPreserve 8 +
    flag s.media.shrinkExhausted 9 + flag s.start.fault 10 + flag s.start.sanitize.isSome 11)
def Ctrl.gsts (c : Ctrl) : Word := word (flag c.gstsExpert 0 + flag c.gstsSize 1 + flag c.gstsRing 2)
def State.regTsum (s : State) : Word := word (s.reef + at_ 3 s.therm.stage + flag s.therm.enforced 6)

/-! ## Frame and time (R538) -/

def State.regClkst (s : State) : Word := word (flag s.clk.isSet 0 + flag s.clk.aonRuns 1 + flag s.clk.internalOsc 2)
/-- Second mark and archive clock as the window shows them: UTC reads 0 while the clock is unset (R59). -/
def Clock.markU (c : Clock) : Nat := if c.isSet then c.markSecs else 0
def Clock.utcSecs (c : Clock) : Nat := if c.isSet then c.secs else 0
def Clock.utcFraction (c : Clock) : Nat := if c.isSet then c.frac else 0
/-- The latching reads: each stores the rest of its value. -/
def Ctrl.latchFrame (k : Clock) (c : Ctrl) : Ctrl := { c with frameHi := word (hi32 k.frame) }
def Ctrl.latchMark (k : Clock) (c : Ctrl) : Ctrl := { c with
  markFhi := word (hi32 k.markFrame), markUlo := word (lo32 k.markU), markUhi := word (hi32 k.markU) }
def Ctrl.latchUtc (k : Clock) (c : Ctrl) : Ctrl := { c with utcHi := word (hi32 k.utcSecs), utcFrac := word k.utcFraction }

/-! ## Event rings and doorbells (R539, R541) -/

def Ring.rctl (x : Ring) : Word := word (flag x.enabled 0 + at_ 1 x.sizeCode + at_ 5 x.severity + at_ 16 x.vector)
def Ring.rtail (x : Ring) : Word := word (x.tail + flag x.phase 15)
def Ring.rsts (x : Ring) : Word := word (flag x.overflow 0 + flag x.failedWrite 1 + flag (! x.missed.isEmpty) 2)
def Ring.reg (x : Ring) (off : Nat) : Word :=
  match off with
  | 0x00 => x.baseLo
  | 0x04 => x.baseHi
  | 0x08 => x.rctl
  | 0x0C => x.rtail
  | 0x10 => word x.head
  | 0x14 => x.rsts
  | _ => 0
def Mbx.mbdb (b : Mbx) : Word := word (flag b.busy 1 + flag b.done 2 + flag b.goWhileBusy 3 + flag b.intEn 4 + at_ 8 b.vector)
/-- Status and opcode of the last response, taken when DONE is set (R542). -/
def Mbx.mbsts (b : Mbx) : Word :=
  match b.resp with
  | some r => word (r.status + at_ 16 b.opcode)
  | none => 0

/-! ## Device status (R544 to R547) -/

/-- The temperature registers show substitutes for failed inputs. -/
def State.shownTemp (s : State) (i : Nat) : Int := (s.inputValue i).getD 0
def State.powerReg (s : State) (off : Nat) : Word :=
  let p := s.pwr
  let n := s.nrg
  if 0x420 ≤ off && off ≤ 0x450 then
    let k := (off - 0x420) / 4
    word (half (s.shownTemp (2 * k)) + at_ 16 (if 2 * k + 1 < 25 then half (s.shownTemp (2 * k + 1)) else 0))
  else if 0x520 ≤ off && off < 0x540 then
    let m := (off - 0x520) / 4
    word (if m < s.mastN then sat 32 (s.dirtyOn m) else 0)
  else match off with
  | 0x400 =>
    word (s.reef + at_ 3 p.hostLimit + at_ 6 (if s.therm.enforced then s.therm.level else 0) + at_ 9 s.therm.stage + flag s.therm.grace.isSome 12 +
      flag p.armed.isSome 13 + at_ 16 p.lastWake)
  | 0x404 => word (sat 32 (s.wattSum / 64))
  | 0x408 => word (sat 16 p.refused + at_ 16 (sat 16 p.aborted))
  | 0x40C => word (p.lastRefuser.getD 0 + flag p.lastRefuser.isSome 7 + at_ 8 (sat 8 p.thermalDumps))
  | 0x410 => word (lo32 (bitmap p.furled))
  | 0x414 => word (hi32 (bitmap p.furled))
  | 0x418 => word (bitmap p.furled / 2 ^ 64)
  | 0x454 => word (bitmap ((List.range 25).filter fun i => (s.thermIn i).failed))
  | 0x500 => word (sat 32 n.v)
  | 0x504 => word (sat 32 n.cMeas)
  | 0x508 => word (sat 32 n.eUse)
  | 0x50C => word (sat 32 n.budget)
  | 0x510 => word (sat 32 n.eNeed)
  | 0x514 => word (sat 32 (s.dirty.foldl (· + ·) 0))
  | 0x518 => word (flag n.deficit 0 + flag n.test.isSome 1 + flag n.huLoad 2 + flag n.heldZero 3)
  | _ => 0
/-- Pause registers (R545): functions 0 to 128. -/
def State.pauseReg (s : State) (off : Nat) : Word :=
  let first := 32 * ((off - (if off < 0x614 then 0x600 else 0x614)) / 4)
  let on (f : Nat) : Bool := if off < 0x614 then s.paused f false else s.drained f false
  word (sumOf (fun i => flag (decide (first + i ≤ 128) && on (first + i)) i) (List.range 32))
/-- Registers of a mast (R546). -/
def State.mastReg (s : State) (m off : Nat) : Word :=
  let x := s.mast m
  if s.mastN ≤ m then (if off == 0 then 4 else 0)
  else match off with
  | 0x00 => word (x.state.num + at_ 8 (sat 8 x.faults) + flag x.restartUsed 16 + at_ 17 x.lastFault)
  | 0x04 => word (lo32 x.lastFaultFrame)
  | 0x08 => word (hi32 x.lastFaultFrame)
  | 0x0C => word (sat 32 x.cipherFaults)
  | 0x10 => word (s.homeZones m)
  | 0x14 => word (sat 8 x.cache.disabled.length + at_ 8 (sat 16 (countIf (·.locked) x.cache.lines)))
  | 0x18 => word (sat 16 (s.mem m).retiredPages.length + at_ 16 (sat 8 (s.mem m).retiredBanks.length))
  | _ => 0
/-- Registers of a flash port and of a Halyard port (R547). -/
def State.portReg (s : State) (p off : Nat) : Word :=
  let x := s.port p
  if s.portN ≤ p then 0
  else match off with
  | 0x00 => word (x.state.num + at_ 2 (countIf id x.window) + at_ 16 (sat 8 x.degradedEntries) + at_ 24 (sat 8 x.fencedEntries))
  | 0x04 => word (sat 32 x.overruns)
  | 0x08 => word (sat 32 x.carriedEntries)
  | 0x0C => word (sat 16 x.largest + at_ 16 (x.cePassed % 256))
  | _ => 0
def State.halyardReg (s : State) (p off : Nat) : Word :=
  let x := s.hport p
  match off with
  | 0x00 => word (x.state.num + at_ 3 x.rate + at_ 9 (min x.width 2) + flag (s.portEnabled p) 11 + flag (s.ctlValue ctlHalWake p == 1) 12)
  | 0x04 => word (sat 32 x.flight)
  | 0x08 => word (sat 32 (((x.neighbour.bind s.partner?).map (·.exitCount)).getD 0))
  | _ => 0

/-! ## The window (R533, R535) -/

/-- A function has the mailbox of a number in the window of the port. -/
def State.hasBox (s : State) (fn : Nat) (port1 : Bool) (mb : Nat) : Bool :=
  decide (mb < if fn == 0 then 4 else 1) && (! (s.dual && fn == 0) || decide (2 ≤ mb) == port1)
/-- A ring is in the window of the port. -/
def State.ringHere (s : State) (fn : Nat) (port1 : Bool) (r : Nat) : Bool := (if fn == 0 then decide (r < 2) else r == 0) && s.ringPort1 fn r == port1
/-- An Expert-level register (R545). -/
def expertReg (off : Nat) : Bool := decide (0x600 ≤ off) && decide (off < 0x628)
/-- The register at an aligned offset of a function's window: 0 where there is none (R390), or at Expert level without Expert. -/
def State.reg (s : State) (fn : Nat) (port1 : Bool) (off : Nat) : Word :=
  let c := s.ctrl fn port1
  if 0x200 ≤ off && off < 0x218 then (if s.ringHere fn port1 0 then (s.ring fn 0).reg (off - 0x200) else 0)
  else if 0x240 ≤ off && off < 0x258 then (if s.ringHere fn port1 1 then (s.ring fn 1).reg (off - 0x240) else 0)
  else if 0x300 ≤ off && off < 0x340 then
    let mb := (off - 0x300) / 16
    if s.hasBox fn port1 mb then
      let b := (s.mbxAt (.bar fn mb)).getD { via := .bar fn mb }
      if off % 16 == 0 then b.mbdb else if off % 16 == 4 then b.mbsts else 0
    else 0
  else if 0x400 ≤ off && off < 0xD00 then
    if fn != 0 then 0
    else if off < 0x600 then s.powerReg off
    else if expertReg off then (if (s.fn 0).expert then s.pauseReg off else 0)
    else if 0x800 ≤ off && off < 0x900 then s.mastReg ((off - 0x800) / 32) ((off - 0x800) % 32)
    else if 0xA00 ≤ off && off < 0xC00 then s.portReg ((off - 0xA00) / 16) (off % 16)
    else if 0xC00 ≤ off && off < 0xC30 then s.halyardReg ((off - 0xC00) / 16) (off % 16)
    else 0
  else match off with
  | 0x000 => s.regId fn port1
  | 0x004 => s.regRev
  | 0x008 => s.regFunc fn port1
  | 0x00C => s.regStage
  | 0x010 => c.gsts
  | 0x014 => s.regTsum
  | 0x018 => s.stseq
  | 0x100 => word (lo32 s.clk.frame)
  | 0x104 => c.frameHi
  | 0x108 => word s.clk.poc
  | 0x10C => s.regClkst
  | 0x110 => word (lo32 s.clk.markFrame)
  | 0x114 => c.markFhi
  | 0x118 => c.markUlo
  | 0x11C => c.markUhi
  | 0x120 => word (lo32 s.clk.utcSecs)
  | 0x124 => c.utcHi
  | 0x128 => c.utcFrac
  | _ => 0

end Sys2Proof.Machine
end

