-- ==== Sys2Proof/Machine/Window.lean ====
section
/-! DEFINITION. Accesses to the register page of a device window: the latching reads, the bits cleared by writing 1, and every other
register write (R390, R411, R533 to R542, R545). -/

namespace Sys2Proof.Machine

/-- The window of a function on a port exists in the family. -/
def windowUnit (fn : Nat) (port1 : Bool) : Bool := decide (fn ≤ 128) && (! port1 || fn == 0)
/-- An access of another size than 32 or 64 bits, or unaligned, sets the access-size bit of GSTS (R534). -/
def State.badAccess (s : State) (fn : Nat) (port1 : Bool) : State := s.modCtrl fn port1 fun c => { c with gstsSize := true }
/-- Aligned accesses of 32 or 64 bits (R534). -/
def accessOk (offset bits : Nat) : Bool := (bits == 32 && offset % 4 == 0) || (bits == 64 && offset % 8 == 0)
/-- A latching read (R538): only an aligned 32-bit or 64-bit read latches; a 64-bit read returns the next register too, after the latch. -/
def State.latchRead (s : State) (fn : Nat) (port1 : Bool) (offset bits : Nat) (latch : Ctrl → Ctrl) : State :=
  if ! s.barOpen fn port1 then s
  else if accessOk offset bits then
    let s := s.modCtrl fn port1 latch
    let low := (s.reg fn port1 offset).toNat
    s.emit (.regRead fn offset (if bits == 64 then low + (s.reg fn port1 (offset + 4)).toNat * 2 ^ 32 else low))
  else (s.badAccess fn port1).emit (.regRead fn offset ((s.reg fn port1 offset).toNat % 2 ^ min bits 32))

/-- FRAME_LO_READ (R47, R538). -/
def execFrameLoRead (fn : Nat) (port1 : Bool) (bits : Nat) (s : State) : Res :=
  whenUnit (windowUnit fn port1) (.next (s.latchRead fn port1 0x100 bits (Ctrl.latchFrame s.clk)))
/-- MARK_FLO_READ (R47, R538). -/
def execMarkFloRead (fn : Nat) (port1 : Bool) (bits : Nat) (s : State) : Res :=
  whenUnit (windowUnit fn port1) (.next (s.latchRead fn port1 0x110 bits (Ctrl.latchMark s.clk)))
/-- UTC_LO_READ (R538). -/
def execUtcLoRead (fn : Nat) (port1 : Bool) (bits : Nat) (s : State) : Res :=
  whenUnit (windowUnit fn port1) (.next (s.latchRead fn port1 0x120 bits (Ctrl.latchUtc s.clk)))

/-- Clear the bits of GSTS where 1 is written (R537). -/
def Ctrl.clearGsts (value : Word) (c : Ctrl) : Ctrl := { c with
  gstsExpert := c.gstsExpert && ! bit value.toNat 0, gstsSize := c.gstsSize && ! bit value.toNat 1, gstsRing := c.gstsRing && ! bit value.toNat 2 }
/-- GSTS_CLEAR (R537). -/
def execGstsClear (fn : Nat) (port1 : Bool) (value : Word) (s : State) : Res :=
  whenUnit (windowUnit fn port1) (.next (if s.barOpen fn port1 then s.modCtrl fn port1 (Ctrl.clearGsts value) else s))

/-- A write to a mailbox doorbell (R411, R541, R542): DONE and GO-while-busy clear where 1 is written, interrupt enable and vector take the
value; GO while a command is under way, or while DONE stays 1, sets GO-while-busy. -/
def Mbx.writeDoorbell (w : Nat) (b : Mbx) : Mbx :=
  let done := b.done && ! bit w 2
  { b with
    done := done, goWhileBusy := (b.goWhileBusy && ! bit w 3) || (bit w 0 && (b.busy || done)), intEn := bit w 4, vector := w / 256 % 512 }
/-- A write to a ring register (R539, R540). -/
def writeRing (fn r off : Nat) (value : Word) (s : State) : Res :=
  let w := value.toNat
  match off with
  | 0x00 => execRbaseWrite fn r false value s
  | 0x04 => execRbaseWrite fn r true value s
  | 0x08 => .next (s.writeRctl fn r (w / 2 % 16) (w / 32 % 4) (w / 65536 % 512) (bit w 0))
  | 0x10 => execRheadWrite fn r (w % 32768) s
  | 0x14 => execRstsClear fn r value s
  | _ => .next s
/-- REGISTER_WRITE (R390, R533 to R535, R545): a register that no other command writes, and those of the rows above through their own
rules. A write to a read-only register or to an unimplemented offset is ignored; one to an Expert-level field without Expert sets the
Expert-write bit of GSTS; one of another size or alignment sets the access-size bit. A 64-bit access is two 32-bit ones, of which this
is the lower. A write to a mailbox window changes only the window's bytes, which the command issued from it carries. -/
def execRegisterWrite (fn : Nat) (port1 : Bool) (offset bits : Nat) (value : Word) (s : State) : Res :=
  whenUnit (windowUnit fn port1) <|
    if ! s.barOpen fn port1 || 0x1000 ≤ offset then .next s
    else if ! accessOk offset bits then .next (s.badAccess fn port1)
    else if offset == 0x010 then .next (s.modCtrl fn port1 (Ctrl.clearGsts value))
    else if 0x200 ≤ offset && offset < 0x218 then (if s.ringHere fn port1 0 then writeRing fn 0 (offset - 0x200) value s else .next s)
    else if 0x240 ≤ offset && offset < 0x258 then (if s.ringHere fn port1 1 then writeRing fn 1 (offset - 0x240) value s else .next s)
    else if 0x300 ≤ offset && offset < 0x340 && offset % 16 == 0 then
      let mb := (offset - 0x300) / 16
      .next (if s.hasBox fn port1 mb then s.modMbxAt (.bar fn mb) (Mbx.writeDoorbell value.toNat) else s)
    else if fn == 0 && expertReg offset && ! (s.fn 0).expert then .next (s.modCtrl 0 port1 fun c => { c with gstsExpert := true })
    else .next s

end Sys2Proof.Machine
end

