-- ==== Sys2Proof/Machine/Package.lean ====
section
/-! DEFINITION. The sideband, the LEDs and the JTAG port with its fuse instructions (R468, R484, R485, R527 to R531). -/

namespace Sys2Proof.Machine

/-! ## Sideband (R468, R527) -/

/-- VIN is present, so the always-on block runs. -/
def State.powered (s : State) : Bool := s.pwr.dev != .unpowered
/-- DYNAMIC_ADDRESS_ASSIGNMENT: the device becomes an I3C Basic target. -/
def execDynamicAddressAssignment (address : Nat) (s : State) : Res :=
  .next (if s.powered then s.modSide fun x => { x with dynamic := some address } else s)
/-- RSTDAA: back to the static address. -/
def execRstdaa (s : State) : Res := .next (if s.powered then s.modSide fun x => { x with dynamic := none } else s)
/-- I3C_PRIVATE_TRANSFER to the dynamic address: wake source 9; at ready the in-band interrupt follows. -/
def execI3cPrivateTransfer (s : State) : Res := .next (if s.side.dynamic.isSome then s.wake 9 else s)

/-! ## LEDs (R528) -/

/-- Blink patterns: dark, lit, or on for a time in each period, in ms. -/
inductive Led where
  | dark | lit | blink (onMs periodMs : Nat)
  deriving DecidableEq, Repr
/-- LED0: lit while ready, blinking at 8 Hz while a command is outstanding. -/
def State.led0 (s : State) : Led := if ! s.ready then .dark else if s.io.cmds.isEmpty && s.io.submitted.isEmpty then .lit else .blink 62 125
/-- LED1: the first condition that holds. -/
def State.led1 (s : State) : Led :=
  if s.start.fault || s.pwr.dev == .dumped then .lit
  else if s.media.readPreserve then .blink 500 1000
  else if s.provision != .formatted then .blink 250 500
  else if s.therm.enforced && decide (0 < s.therm.level) then .blink 500 4000
  else if s.pwr.dev == .crowsNest then .blink 20 4000
  else .dark

/-! ## JTAG (R529 to R531) -/

/-- Load an instruction; its data register shifts out a value. -/
def State.tap (s : State) (ir value : Nat) : State := (s.modJtag fun j => { j with ir := ir, dr := value }).emit (.tdo value)
def jtagRes (s : State) (k : State) : Res := .next (if s.powered then k else s)
/-- The IDCODE register. -/
def idcodeOf : Variant → Nat
  | .btk8208 => 0x18208C4D
  | .btk8416 => 0x18416C4D
  | .btk8832 => 0x18832C4D
/-- TEST_LOGIC_RESET: IDCODE is selected, and the boundary cells release the pins. -/
def execTestLogicReset (s : State) : Res :=
  jtagRes s (s.modJtag fun j => { j with ir := 0x01, dr := idcodeOf s.variant, pinsTaken := false })
/-- IDCODE. -/
def execIdcode (s : State) : Res := jtagRes s (s.tap 0x01 (idcodeOf s.variant))
/-- SAMPLE/PRELOAD: the pins' values go out, and the cells take the value shifted in. -/
def execSamplePreload (boundary : Nat) (s : State) : Res :=
  jtagRes s ((((s.tap 0x02 (Config.freeNat s.fresh)).bump).modJtag fun j => { j with boundary := boundary }))
/-- An instruction with which the boundary cells take the pins: once a core has been released, the device first stops until a power
cycle (R531). -/
def State.takePins (s : State) (ir : Nat) : State :=
  let s := s.modJtag fun j => { j with ir := ir, dr := if ir == 0x06 || ir == 0x07 then 0 else j.boundary, pinsTaken := true }
  if s.start.released then s.deviceFault.modStart fun x => { x with untilPowerCycle := true } else s
/-- EXTEST. -/
def execExtest (s : State) : Res := jtagRes s (s.takePins 0x03)
/-- EXTEST_PULSE. -/
def execExtestPulse (s : State) : Res := jtagRes s (s.takePins 0x04)
/-- EXTEST_TRAIN. -/
def execExtestTrain (s : State) : Res := jtagRes s (s.takePins 0x05)
/-- CLAMP. -/
def execClamp (s : State) : Res := jtagRes s (s.takePins 0x06)
/-- HIGHZ. -/
def execHighz (s : State) : Res := jtagRes s (s.takePins 0x07)
/-- BYPASS, and every code that R529 does not list. -/
def execBypass (code : Nat) (s : State) : Res := jtagRes s (s.tap code 0)

/-! ## Fuses (R484, R485, R530) -/

/-- FUSE_SELECT. -/
def execFuseSelect (field : Nat) (s : State) : Res := jtagRes s (s.modJtag fun j => { j with ir := 0x40, select := field % 16 })
/-- FUSE_DATA: the value, byte 0 in bits [7:0]. -/
def execFuseData (value : PubKey) (s : State) : Res := jtagRes s (s.modJtag fun j => { j with ir := 0x41, data := value })
/-- The selected field: its contents as a value of FUSE_DATA. -/
def Fuses.field (f : Fuses) (select : Nat) : PubKey :=
  match select with
  | 1 => f.makerKey
  | 2 => if f.hostPort then 1 else 0
  | 3 => if f.lock then 1 else 0
  | _ => 0
/-- Burn the selected field, which is blank. -/
def Fuses.burn (f : Fuses) (select : Nat) (value : PubKey) : Fuses :=
  match select with
  | 1 => { f with makerKey := value }
  | 2 => { f with hostPort := value.getLsbD 0 }
  | 3 => { f with lock := value.getLsbD 0 }
  | _ => f
/-- FUSE_BURN: with the lock unburnt, a blank field selected, VIN at least 3.0 V, and 200,000 TCK cycles in Run-Test/Idle. -/
def execFuseBurn (tcks vin : Nat) (s : State) : Res :=
  let ok := ! s.fuses.lock && decide (1 ≤ s.jtag.select) && decide (s.jtag.select ≤ 3) && s.fuses.field s.jtag.select == 0 &&
    decide (3000 ≤ vin) && decide (200000 ≤ tcks)
  jtagRes s <|
    let s := s.modJtag fun j => { j with ir := 0x42, burnt := ok, vinLow := decide (vin < 3000) }
    if ok then s.modFuses fun f => f.burn s.jtag.select s.jtag.data else s
/-- The order of R530: bit n of the shift is bit 7 − (n mod 8) of byte n div 8. -/
def shiftOrder (v : PubKey) : Nat := sumOf (fun n => flag (v.getLsbD (8 * (n / 8) + 7 - n % 8)) n) (List.range 768)
/-- FUSE_READ: four status bits, then the field. -/
def execFuseRead (s : State) : Res :=
  let v := s.fuses.field s.jtag.select
  jtagRes s (s.tap 0x43 (flag s.jtag.burnt 0 + flag (v != 0) 1 + flag s.fuses.lock 2 + flag s.jtag.vinLow 3 + at_ 4 (shiftOrder v)))

end Sys2Proof.Machine
end

