-- ==== Sys2Proof/Machine/Dispatch.lean ====
section
/-! DEFINITION. One arm per command: a direct call of its meaning. -/

namespace Sys2Proof.Machine

def exec (i : Instr) (s : State) : Host.Outcome State Fault Refusal :=
  match i with
  | .frameStart inp => Sys2Proof.Machine.execFrameStart inp s
  | .overrunRecoveryRun port => Sys2Proof.Machine.execOverrunRecoveryRun port s
  | .retrainingPass port cePassed excluded => Sys2Proof.Machine.execRetrainingPass port cePassed excluded s
  | .retrainingTimeout port => Sys2Proof.Machine.execRetrainingTimeout port s
  | .portFailedAfterDrain port => Sys2Proof.Machine.execPortFailedAfterDrain port s
  | .dieOperationEnd glun ok late repeated => Sys2Proof.Machine.execDieOperationEnd glun ok late repeated s
  | .programPassIssue glun => Sys2Proof.Machine.execProgramPassIssue glun s
  | .blockErase glun block => Sys2Proof.Machine.execBlockErase glun block s
  | .framePllRelock aonTicks => Sys2Proof.Machine.execFramePllRelock aonTicks s
  | .ref100Loss => Sys2Proof.Machine.execRef100Loss s
  | .ref100Return => Sys2Proof.Machine.execRef100Return s
  | .secondMark => Sys2Proof.Machine.execSecondMark s
  | .lastKnownTime => Sys2Proof.Machine.execLastKnownTime s
  | .aon32kStopped => Sys2Proof.Machine.execAon32kStopped s
  | .aon32kRunning => Sys2Proof.Machine.execAon32kRunning s
  | .ageClockAdvance => Sys2Proof.Machine.execAgeClockAdvance s
  | .mastPllLossOfLock mast => Sys2Proof.Machine.execMastPllLossOfLock mast s
  | .missingHeartbeat mast => Sys2Proof.Machine.execMissingHeartbeat mast s
  | .watchdogExpiry engine index => Sys2Proof.Machine.execWatchdogExpiry engine index s
  | .mastRestartSuccess mast => Sys2Proof.Machine.execMastRestartSuccess mast s
  | .mastRestartTimeout mast stepFailed => Sys2Proof.Machine.execMastRestartTimeout mast stepFailed s
  | .deviceFault => Sys2Proof.Machine.execDeviceFault s
  | .hostMemoryReadCompletion req result data pi => Sys2Proof.Machine.execHostMemoryReadCompletion req result data pi s
  | .sealUnit mast => Sys2Proof.Machine.execSealUnit mast s
  | .digestLeaf nsid zone => Sys2Proof.Machine.execDigestLeaf nsid zone s
  | .journalRecordDurable journal => Sys2Proof.Machine.execJournalRecordDurable journal s
  | .journalCheckpoint journal => Sys2Proof.Machine.execJournalCheckpoint journal s
  | .parkDelay nsid zone => Sys2Proof.Machine.execParkDelay nsid zone s
  | .energyWaitLimit id => Sys2Proof.Machine.execEnergyWaitLimit id s
  | .selfTestInterval v1 => Sys2Proof.Machine.execSelfTestInterval v1 s
  | .huLoadRelease => Sys2Proof.Machine.execHuLoadRelease s
  | .selfTestResult v2 => Sys2Proof.Machine.execSelfTestResult v2 s
  | .selfTestRetry v1 => Sys2Proof.Machine.execSelfTestRetry v1 s
  | .huLoadHardwareRelease => Sys2Proof.Machine.execHuLoadHardwareRelease s
  | .pwrfail lowNs => Sys2Proof.Machine.execPwrfail lowNs s
  | .dumpRound => Sys2Proof.Machine.execDumpRound s
  | .finalRound => Sys2Proof.Machine.execFinalRound s
  | .dumpRestart => Sys2Proof.Machine.execDumpRestart s
  | .lowVin ns => Sys2Proof.Machine.execLowVin ns s
  | .brownOut ns => Sys2Proof.Machine.execBrownOut ns s
  | .aonPowerOnReset vqselOhms => Sys2Proof.Machine.execAonPowerOnReset vqselOhms s
  | .restoredUnitCompletion seq row => Sys2Proof.Machine.execRestoredUnitCompletion seq row s
  | .shutdownNotification fn abrupt => Sys2Proof.Machine.execShutdownNotification fn abrupt s
  | .translation id => Sys2Proof.Machine.execTranslation id s
  | .readDecode id index res => Sys2Proof.Machine.execReadDecode id index res s
  | .ladderStep id index => Sys2Proof.Machine.execLadderStep id index s
  | .rebuild id index members result => Sys2Proof.Machine.execRebuild id index members result s
  | .constantTimeRelease id => Sys2Proof.Machine.execConstantTimeRelease id s
  | .patrolSlice r => Sys2Proof.Machine.execPatrolSlice r s
  | .lateLap => Sys2Proof.Machine.execLateLap s
  | .patrolBatchDue => Sys2Proof.Machine.execPatrolBatchDue s
  | .memberRewrite source member => Sys2Proof.Machine.execMemberRewrite source member s
  | .segmentRefresh source => Sys2Proof.Machine.execSegmentRefresh source s
  | .programFailureReplacement source => Sys2Proof.Machine.execProgramFailureReplacement source s
  | .compaction source => Sys2Proof.Machine.execCompaction source s
  | .drainEnd slot => Sys2Proof.Machine.execDrainEnd slot s
  | .counterReservation mast keyRef => Sys2Proof.Machine.execCounterReservation mast keyRef s
  | .cipherFault mast opening item index => Sys2Proof.Machine.execCipherFault mast opening item index s
  | .drbgReseed => Sys2Proof.Machine.execDrbgReseed s
  | .drainLimit fn => Sys2Proof.Machine.execDrainLimit fn s
  | .resetRetire fn => Sys2Proof.Machine.execResetRetire fn s
  | .vfEnableChange enable numVfs => Sys2Proof.Machine.execVfEnableChange enable numVfs s
  | .ccEnSet fn port1 => Sys2Proof.Machine.execCcEnSet fn port1 s
  | .ccEnClear fn port1 => Sys2Proof.Machine.execCcEnClear fn port1 s
  | .functionLevelReset fn port1 => Sys2Proof.Machine.execFunctionLevelReset fn port1 s
  | .perst port => Sys2Proof.Machine.execPerst port s
  | .perstRelease port => Sys2Proof.Machine.execPerstRelease port s
  | .nvmSubsystemReset fn value => Sys2Proof.Machine.execNvmSubsystemReset fn value s
  | .hostReceiverBeacon port => Sys2Proof.Machine.execHostReceiverBeacon port s
  | .wakePin => Sys2Proof.Machine.execWakePin s
  | .hostLinkStateChange port link rate width => Sys2Proof.Machine.execHostLinkStateChange port link rate width s
  | .sqTailDoorbell fn port1 sq tail => Sys2Proof.Machine.execSqTailDoorbell fn port1 sq tail s
  | .cqHeadDoorbell fn port1 cq head => Sys2Proof.Machine.execCqHeadDoorbell fn port1 cq head s
  | .commandFetch failed => Sys2Proof.Machine.execCommandFetch failed s
  | .completionTimeout req => Sys2Proof.Machine.execCompletionTimeout req s
  | .readBack req result => Sys2Proof.Machine.execReadBack req result s
  | .busMasterEnableClear fn port1 => Sys2Proof.Machine.execBusMasterEnableClear fn port1 s
  | .busMasterEnableSet fn port1 => Sys2Proof.Machine.execBusMasterEnableSet fn port1 s
  | .pmeTurnOff port => Sys2Proof.Machine.execPmeTurnOff port s
  | .pauseDrained fn port1 => Sys2Proof.Machine.execPauseDrained fn port1 s
  | .interruptCoalescing fn port1 vector => Sys2Proof.Machine.execInterruptCoalescing fn port1 vector s
  | .msixUnmask fn port1 vector mask => Sys2Proof.Machine.execMsixUnmask fn port1 vector mask s
  | .read h e => Sys2Proof.Machine.execRead h e s
  | .write h e => Sys2Proof.Machine.execWrite h e s
  | .zoneAppend h e => Sys2Proof.Machine.execZoneAppend h e s
  | .writeZeroes h e => Sys2Proof.Machine.execWriteZeroes h e s
  | .flush h => Sys2Proof.Machine.execFlush h s
  | .compare h e data => Sys2Proof.Machine.execCompare h e data s
  | .verify h e => Sys2Proof.Machine.execVerify h e s
  | .datasetManagement h deallocate ranges => Sys2Proof.Machine.execDatasetManagement h deallocate ranges s
  | .closeZone h slba all => Sys2Proof.Machine.execCloseZone h slba all s
  | .finishZone h slba all => Sys2Proof.Machine.execFinishZone h slba all s
  | .openZone h slba all => Sys2Proof.Machine.execOpenZone h slba all s
  | .resetZone h slba all => Sys2Proof.Machine.execResetZone h slba all s
  | .offlineZone h slba all => Sys2Proof.Machine.execOfflineZone h slba all s
  | .setZoneDescriptorExtension h slba ext all => Sys2Proof.Machine.execSetZoneDescriptorExtension h slba ext all s
  | .reportZones h slba filter isPartial limit => Sys2Proof.Machine.execReportZones h slba filter isPartial limit s
  | .extendedReportZones h slba filter isPartial limit => Sys2Proof.Machine.execExtendedReportZones h slba filter isPartial limit s
  | .invalidCommandOpcode h opcode => Sys2Proof.Machine.execInvalidCommandOpcode h opcode s
  | .identify h cns csi => Sys2Proof.Machine.execIdentify h cns csi s
  | .getLogPage h lid => Sys2Proof.Machine.execGetLogPage h lid s
  | .setFeatures h fid value => Sys2Proof.Machine.execSetFeatures h fid value s
  | .getFeatures h fid => Sys2Proof.Machine.execGetFeatures h fid s
  | .setFeaturesTimestamp h ms => Sys2Proof.Machine.execSetFeaturesTimestamp h ms s
  | .setFeaturesPowerManagement h ps => Sys2Proof.Machine.execSetFeaturesPowerManagement h ps s
  | .createIoSubmissionQueue h qid size cqid contiguous aligned => Sys2Proof.Machine.execCreateIoSubmissionQueue h qid size cqid contiguous aligned s
  | .createIoCompletionQueue h qid size vector ien contiguous aligned => Sys2Proof.Machine.execCreateIoCompletionQueue h qid size vector ien contiguous aligned s
  | .deleteIoSubmissionQueue h qid => Sys2Proof.Machine.execDeleteIoSubmissionQueue h qid s
  | .deleteIoCompletionQueue h qid => Sys2Proof.Machine.execDeleteIoCompletionQueue h qid s
  | .abort h sq cid => Sys2Proof.Machine.execAbort h sq cid s
  | .asynchronousEventRequest h => Sys2Proof.Machine.execAsynchronousEventRequest h s
  | .namespaceManagementCreate h csi nsze ncap lbaf pi => Sys2Proof.Machine.execNamespaceManagementCreate h csi nsze ncap lbaf pi s
  | .namespaceManagementDelete h => Sys2Proof.Machine.execNamespaceManagementDelete h s
  | .namespaceAttachmentAttach h ctrls => Sys2Proof.Machine.execNamespaceAttachmentAttach h ctrls s
  | .namespaceAttachmentDetach h ctrls => Sys2Proof.Machine.execNamespaceAttachmentDetach h ctrls s
  | .secondaryControllerOnline h ctrl => Sys2Proof.Machine.execSecondaryControllerOnline h ctrl s
  | .secondaryControllerOffline h ctrl => Sys2Proof.Machine.execSecondaryControllerOffline h ctrl s
  | .secondaryControllerAssign h ctrl resource count => Sys2Proof.Machine.execSecondaryControllerAssign h ctrl resource count s
  | .formatNvm h lbaf ses => Sys2Proof.Machine.execFormatNvm h lbaf ses s
  | .cryptoErase h => Sys2Proof.Machine.execCryptoErase h s
  | .readNvmeMiDataStructure inBand fn dtyp => Sys2Proof.Machine.execReadNvmeMiDataStructure inBand fn dtyp s
  | .nvmSubsystemHealthStatusPoll inBand fn clear => Sys2Proof.Machine.execNvmSubsystemHealthStatusPoll inBand fn clear s
  | .controllerHealthStatusPoll inBand fn first count => Sys2Proof.Machine.execControllerHealthStatusPoll inBand fn first count s
  | .configurationGet inBand fn ident => Sys2Proof.Machine.execConfigurationGet inBand fn ident s
  | .configurationSet inBand fn ident value => Sys2Proof.Machine.execConfigurationSet inBand fn ident value s
  | .getIdentity m => Sys2Proof.Machine.execGetIdentity m s
  | .getTime m => Sys2Proof.Machine.execGetTime m s
  | .setTime m seconds fraction => Sys2Proof.Machine.execSetTime m seconds fraction s
  | .getControl m ident scope => Sys2Proof.Machine.execGetControl m ident scope s
  | .setControl m ident scope value => Sys2Proof.Machine.execSetControl m ident scope value s
  | .getOwnerChallenge m => Sys2Proof.Machine.execGetOwnerChallenge m s
  | .setAllocation m fn resource value => Sys2Proof.Machine.execSetAllocation m fn resource value s
  | .getInstance m fn => Sys2Proof.Machine.execGetInstance m fn s
  | .instanceOnline m fn => Sys2Proof.Machine.execInstanceOnline m fn s
  | .instanceOffline m fn => Sys2Proof.Machine.execInstanceOffline m fn s
  | .resetInstance m fn => Sys2Proof.Machine.execResetInstance m fn s
  | .deleteInstance m fn deleteNamespaces => Sys2Proof.Machine.execDeleteInstance m fn deleteNamespaces s
  | .setContract m fn cls constantTime reserved burst t ceiling => Sys2Proof.Machine.execSetContract m fn cls constantTime reserved burst t ceiling s
  | .getContract m fn => Sys2Proof.Machine.execGetContract m fn s
  | .setExpertEnable m fn enable => Sys2Proof.Machine.execSetExpertEnable m fn enable s
  | .consentToAttach m nsid fn => Sys2Proof.Machine.execConsentToAttach m nsid fn s
  | .createNamespace m origin lbaf pi zones segs wmax cls pie permitted active open_ conv => Sys2Proof.Machine.execCreateNamespace m origin lbaf pi zones segs wmax cls pie permitted active open_ conv s
  | .deleteNamespace m nsid => Sys2Proof.Machine.execDeleteNamespace m nsid s
  | .attachNamespace m nsid fn => Sys2Proof.Machine.execAttachNamespace m nsid fn s
  | .detachNamespace m nsid fn => Sys2Proof.Machine.execDetachNamespace m nsid fn s
  | .getNamespace m nsid => Sys2Proof.Machine.execGetNamespace m nsid s
  | .setNamespaceAttributes m nsid setCls setPerm setLimits cls permitted active open_ => Sys2Proof.Machine.execSetNamespaceAttributes m nsid setCls setPerm setLimits cls permitted active open_ s
  | .defineClass m cls width grade affinity => Sys2Proof.Machine.execDefineClass m cls width grade affinity s
  | .deleteClass m cls => Sys2Proof.Machine.execDeleteClass m cls s
  | .getZoneRecord m nsid zone => Sys2Proof.Machine.execGetZoneRecord m nsid zone s
  | .getTransportKey m => Sys2Proof.Machine.execGetTransportKey m s
  | .establishKek m index persistent point => Sys2Proof.Machine.execEstablishKek m index persistent point s
  | .loadKey m slot kek persistent saltGiven floorGiven salt floor wrapped => Sys2Proof.Machine.execLoadKey m slot kek persistent saltGiven floorGiven salt floor wrapped s
  | .eraseKey m slot => Sys2Proof.Machine.execEraseKey m slot s
  | .bindNamespaceKey m nsid slot => Sys2Proof.Machine.execBindNamespaceKey m nsid slot s
  | .getSlot m slot => Sys2Proof.Machine.execGetSlot m slot s
  | .exportKey m slot destination => Sys2Proof.Machine.execExportKey m slot destination s
  | .exportConsentLapse slot => Sys2Proof.Machine.execExportConsentLapse slot s
  | .getKeyRegister m first count => Sys2Proof.Machine.execGetKeyRegister m first count s
  | .getPatrolStatus m => Sys2Proof.Machine.execGetPatrolStatus m s
  | .getLossLedger m nsid first count => Sys2Proof.Machine.execGetLossLedger m nsid first count s
  | .getLunHealth m glun => Sys2Proof.Machine.execGetLunHealth m glun s
  | .leaveReadPreserve m => Sys2Proof.Machine.execLeaveReadPreserve m s
  | .getIdentityCertificate m => Sys2Proof.Machine.execGetIdentityCertificate m s
  | .treeCheck m nsid zone ownShare => Sys2Proof.Machine.execTreeCheck m nsid zone ownShare s
  | .rangeDigest m nsid alg extents ownShare => Sys2Proof.Machine.execRangeDigest m nsid alg extents ownShare s
  | .zoneAttestation m nsid zone key slot verify ownShare nonce => Sys2Proof.Machine.execZoneAttestation m nsid zone key slot verify ownShare nonce s
  | .rangeAttestation m nsid alg extents key slot ownShare nonce => Sys2Proof.Machine.execRangeAttestation m nsid alg extents key slot ownShare nonce s
  | .keyBinding m slot nonce => Sys2Proof.Machine.execKeyBinding m slot nonce s
  | .fixityJobEnd job mismatched lost tagBad nodesOk changed => Sys2Proof.Machine.execFixityJobEnd job mismatched lost tagBad nodesOk changed s
  | .getFixityResult m job => Sys2Proof.Machine.execGetFixityResult m job s
  | .fixityResultExpiry job => Sys2Proof.Machine.execFixityResultExpiry job s
  | .createOwnerAttestationKey m slot => Sys2Proof.Machine.execCreateOwnerAttestationKey m slot s
  | .deleteOwnerAttestationKey m slot => Sys2Proof.Machine.execDeleteOwnerAttestationKey m slot s
  | .getHalyardPort m port => Sys2Proof.Machine.execGetHalyardPort m port s
  | .listPartners m first count => Sys2Proof.Machine.execListPartners m first count s
  | .pairPartner m fp => Sys2Proof.Machine.execPairPartner m fp s
  | .unpairPartner m fp => Sys2Proof.Machine.execUnpairPartner m fp s
  | .releaseQuarantine m fp => Sys2Proof.Machine.execReleaseQuarantine m fp s
  | .setAllowlist m fps => Sys2Proof.Machine.execSetAllowlist m fps s
  | .getAllowlist m => Sys2Proof.Machine.execGetAllowlist m s
  | .startMigration m destination nsid charge streams zones => Sys2Proof.Machine.execStartMigration m destination nsid charge streams zones s
  | .acceptMigration m source nsid cls => Sys2Proof.Machine.execAcceptMigration m source nsid cls s
  | .cancelMigration m job => Sys2Proof.Machine.execCancelMigration m job s
  | .getMigrationJob m job => Sys2Proof.Machine.execGetMigrationJob m job s
  | .setMirror m role mode policy cls lag nsid firstZone zoneCount other => Sys2Proof.Machine.execSetMirror m role mode policy cls lag nsid firstZone zoneCount other s
  | .endMirror m rel => Sys2Proof.Machine.execEndMirror m rel s
  | .promoteMirror m rel => Sys2Proof.Machine.execPromoteMirror m rel s
  | .getMirror m rel => Sys2Proof.Machine.execGetMirror m rel s
  | .getPowerStatus m => Sys2Proof.Machine.execGetPowerStatus m s
  | .setReefLimit m level => Sys2Proof.Machine.execSetReefLimit m level s
  | .enterCrowsNest m interval => Sys2Proof.Machine.execEnterCrowsNest m interval s
  | .powerDown m => Sys2Proof.Machine.execPowerDown m s
  | .getThermal m => Sys2Proof.Machine.execGetThermal m s
  | .getPortStatistics m port => Sys2Proof.Machine.execGetPortStatistics m port s
  | .getIncompleteStripeSets m width first count => Sys2Proof.Machine.execGetIncompleteStripeSets m width first count s
  | .getMastStatus m mast => Sys2Proof.Machine.execGetMastStatus m mast s
  | .pauseHostDma m fns => Sys2Proof.Machine.execPauseHostDma m fns s
  | .resumeHostDma m fns => Sys2Proof.Machine.execResumeHostDma m fns s
  | .startCapacitanceSelfTest m v1 => Sys2Proof.Machine.execStartCapacitanceSelfTest m v1 s
  | .getInternalResources m => Sys2Proof.Machine.execGetInternalResources m s
  | .takeOwnership m key => Sys2Proof.Machine.execTakeOwnership m key s
  | .transferOwnership m key => Sys2Proof.Machine.execTransferOwnership m key s
  | .getSignedObject m object => Sys2Proof.Machine.execGetSignedObject m object s
  | .writeSignedObject m object record profile r sg => Sys2Proof.Machine.execWriteSignedObject m object record profile r sg s
  | .formatMedia m => Sys2Proof.Machine.execFormatMedia m s
  | .restoreDefaultControls m group => Sys2Proof.Machine.execRestoreDefaultControls m group s
  | .unknownOpcode m opcode => Sys2Proof.Machine.execUnknownOpcode m opcode s
  | .doneClear fn mb goToo => Sys2Proof.Machine.execDoneClear fn mb goToo s
  | .receiverDetection port found => Sys2Proof.Machine.execReceiverDetection port found s
  | .foreignLinkNumber port number => Sys2Proof.Machine.execForeignLinkNumber port number s
  | .foreignLinkRetry port => Sys2Proof.Machine.execForeignLinkRetry port s
  | .trainingComplete port rate width => Sys2Proof.Machine.execTrainingComplete port rate width s
  | .trainingTimeout port => Sys2Proof.Machine.execTrainingTimeout port s
  | .hailTimeout port => Sys2Proof.Machine.execHailTimeout port s
  | .authenticationTimeout port => Sys2Proof.Machine.execAuthenticationTimeout port s
  | .retrainTimeout port => Sys2Proof.Machine.execRetrainTimeout port s
  | .linkSilence port => Sys2Proof.Machine.execLinkSilence port s
  | .hail port seq path hl => Sys2Proof.Machine.execHail port seq path hl s
  | .authCertificateChain port seq path fragment last key chainOk => Sys2Proof.Machine.execAuthCertificateChain port seq path fragment last key chainOk s
  | .authKeyShare port seq path point random => Sys2Proof.Machine.execAuthKeyShare port seq path point random s
  | .authSignature port seq path r sg => Sys2Proof.Machine.execAuthSignature port seq path r sg s
  | .authDone port seq path => Sys2Proof.Machine.execAuthDone port seq path s
  | .ackAndCredit port seq accepted ctl req => Sys2Proof.Machine.execAckAndCredit port seq accepted ctl req s
  | .nak port seq accepted reason => Sys2Proof.Machine.execNak port seq accepted reason s
  | .echoRequest port seq number => Sys2Proof.Machine.execEchoRequest port seq number s
  | .echoReply port seq number turnaround roundTrip => Sys2Proof.Machine.execEchoReply port seq number turnaround roundTrip s
  | .pathProbe port seq label hops target origin number latency wake => Sys2Proof.Machine.execPathProbe port seq label hops target origin number latency wake s
  | .pathReply port seq label target origin number latency hops => Sys2Proof.Machine.execPathReply port seq label target origin number latency hops s
  | .pathDown port seq label reason sender => Sys2Proof.Machine.execPathDown port seq label reason sender s
  | .departure port seq reason powerOn => Sys2Proof.Machine.execDeparture port seq reason powerOn s
  | .rekeyKeyShare port seq point random lastSent lastAccepted => Sys2Proof.Machine.execRekeyKeyShare port seq point random lastSent lastAccepted s
  | .rekeySignature port seq r sg => Sys2Proof.Machine.execRekeySignature port seq r sg s
  | .rekeyDone port seq => Sys2Proof.Machine.execRekeyDone port seq s
  | .refuse port seq label reason tag sender => Sys2Proof.Machine.execRefuse port seq label reason tag sender s
  | .reservedPacketType port seq ptype => Sys2Proof.Machine.execReservedPacketType port seq ptype s
  | .chunkRead port seq label tag job zone offset count declared => Sys2Proof.Machine.execChunkRead port seq label tag job zone offset count declared s
  | .treeRead port seq label tag job zone declared => Sys2Proof.Machine.execTreeRead port seq label tag job zone declared s
  | .mirrorWrite port seq label tag rel zone offset blocks metas => Sys2Proof.Machine.execMirrorWrite port seq label tag rel zone offset blocks metas s
  | .response port seq label tag lastPacket blocks metas nodes status pointer => Sys2Proof.Machine.execResponse port seq label tag lastPacket blocks metas nodes status pointer s
  | .offer partner kind streams ident nsid zones genEnd lbaf pi version mode policy lag firstZone zoneCount => Sys2Proof.Machine.execOffer partner kind streams ident nsid zones genEnd lbaf pi version mode policy lag firstZone zoneCount s
  | .answer partner accept status ident nsid cls => Sys2Proof.Machine.execAnswer partner accept status ident nsid cls s
  | .zoneManifest partner m => Sys2Proof.Machine.execZoneManifest partner m s
  | .keyCarry partner fp point wrapped job => Sys2Proof.Machine.execKeyCarry partner fp point wrapped job s
  | .checkpoint partner job zone chunks => Sys2Proof.Machine.execCheckpoint partner job zone chunks s
  | .cutOverReady partner job zone generation => Sys2Proof.Machine.execCutOverReady partner job zone generation s
  | .cutOverConfirmed partner job zone generation => Sys2Proof.Machine.execCutOverConfirmed partner job zone generation s
  | .requestStatus partner status tag ident => Sys2Proof.Machine.execRequestStatus partner status tag ident s
  | .zoneWithdrawn partner reason ident zone => Sys2Proof.Machine.execZoneWithdrawn partner reason ident zone s
  | .zoneRefused partner reason ident zone => Sys2Proof.Machine.execZoneRefused partner reason ident zone s
  | .suspend partner state cause ident => Sys2Proof.Machine.execSuspend partner state cause ident s
  | .resume partner state cause ident => Sys2Proof.Machine.execResume partner state cause ident s
  | .endOp partner state cause ident => Sys2Proof.Machine.execEndOp partner state cause ident s
  | .mirrorOpen partner rel zone generation entry => Sys2Proof.Machine.execMirrorOpen partner rel zone generation entry s
  | .mirrorFinish partner rel zone generation written root => Sys2Proof.Machine.execMirrorFinish partner rel zone generation written root s
  | .mirrorReset partner rel zone generation => Sys2Proof.Machine.execMirrorReset partner rel zone generation s
  | .mirrorPromote partner rel => Sys2Proof.Machine.execMirrorPromote partner rel s
  | .probeTimeout number => Sys2Proof.Machine.execProbeTimeout number s
  | .flightTimeMeasure port => Sys2Proof.Machine.execFlightTimeMeasure port s
  | .rekeyInterval port => Sys2Proof.Machine.execRekeyInterval port s
  | .quarantineEnd fp => Sys2Proof.Machine.execQuarantineEnd fp s
  | .wakePatternReceived port => Sys2Proof.Machine.execWakePatternReceived port s
  | .wakePatternRepeat port => Sys2Proof.Machine.execWakePatternRepeat port s
  | .wakeTimeout port => Sys2Proof.Machine.execWakeTimeout port s
  | .streamAdd job port label => Sys2Proof.Machine.execStreamAdd job port label s
  | .jobResume job port label => Sys2Proof.Machine.execJobResume job port label s
  | .resumeWindow ident => Sys2Proof.Machine.execResumeWindow ident s
  | .catchUp rel => Sys2Proof.Machine.execCatchUp rel s
  | .ringEnable fn ring size severity vector => Sys2Proof.Machine.execRingEnable fn ring size severity vector s
  | .ringDisable fn ring size severity vector => Sys2Proof.Machine.execRingDisable fn ring size severity vector s
  | .rbaseWrite fn ring high value => Sys2Proof.Machine.execRbaseWrite fn ring high value s
  | .rheadWrite fn ring head => Sys2Proof.Machine.execRheadWrite fn ring head s
  | .rstsClear fn ring value => Sys2Proof.Machine.execRstsClear fn ring value s
  | .summaryRecord fn ring => Sys2Proof.Machine.execSummaryRecord fn ring s
  | .frameLoRead fn port1 bits => Sys2Proof.Machine.execFrameLoRead fn port1 bits s
  | .markFloRead fn port1 bits => Sys2Proof.Machine.execMarkFloRead fn port1 bits s
  | .utcLoRead fn port1 bits => Sys2Proof.Machine.execUtcLoRead fn port1 bits s
  | .gstsClear fn port1 value => Sys2Proof.Machine.execGstsClear fn port1 value s
  | .registerWrite fn port1 offset bits value => Sys2Proof.Machine.execRegisterWrite fn port1 offset bits value s
  | .bufferAllocate buffer cls fn engine item => Sys2Proof.Machine.execBufferAllocate buffer cls fn engine item s
  | .bufferShare buffer engine => Sys2Proof.Machine.execBufferShare buffer engine s
  | .bufferDrop buffer engine => Sys2Proof.Machine.execBufferDrop buffer engine s
  | .bufferZeroed buffer => Sys2Proof.Machine.execBufferZeroed buffer s
  | .clean mast byRange first last => Sys2Proof.Machine.execClean mast byRange first last s
  | .invalidateBySetAndWay mast set way => Sys2Proof.Machine.execInvalidateBySetAndWay mast set way s
  | .invalidateByRange mast first last => Sys2Proof.Machine.execInvalidateByRange mast first last s
  | .cleanAndInvalidate mast byRange first last => Sys2Proof.Machine.execCleanAndInvalidate mast byRange first last s
  | .evictionWriteBack mast => Sys2Proof.Machine.execEvictionWriteBack mast s
  | .cacheFill mast line write => Sys2Proof.Machine.execCacheFill mast line write s
  | .wayDisable mast group way => Sys2Proof.Machine.execWayDisable mast group way s
  | .correctableError memory address => Sys2Proof.Machine.execCorrectableError memory address s
  | .uncorrectableError memory address holds => Sys2Proof.Machine.execUncorrectableError memory address holds s
  | .memoryFill memory failed => Sys2Proof.Machine.execMemoryFill memory failed s
  | .powerCorrectionCheck => Sys2Proof.Machine.execPowerCorrectionCheck s
  | .powerCorrectionRecovery => Sys2Proof.Machine.execPowerCorrectionRecovery s
  | .graceTimeEnd => Sys2Proof.Machine.execGraceTimeEnd s
  | .mastFurl mast => Sys2Proof.Machine.execMastFurl mast s
  | .portFurl port => Sys2Proof.Machine.execPortFurl port s
  | .halyardFurl port => Sys2Proof.Machine.execHalyardFurl port s
  | .hostLinkFurl port => Sys2Proof.Machine.execHostLinkFurl port s
  | .crowsNestEntry => Sys2Proof.Machine.execCrowsNestEntry s
  | .powerDownEntry => Sys2Proof.Machine.execPowerDownEntry s
  | .handshakeTimeout entry => Sys2Proof.Machine.execHandshakeTimeout entry s
  | .abortHoldOff entry => Sys2Proof.Machine.execAbortHoldOff entry s
  | .domainWake wake cause => Sys2Proof.Machine.execDomainWake wake cause s
  | .samplerWake vin bank temps => Sys2Proof.Machine.execSamplerWake vin bank temps s
  | .reentryDelay => Sys2Proof.Machine.execReentryDelay s
  | .i3cPrivateTransfer => Sys2Proof.Machine.execI3cPrivateTransfer s
  | .dynamicAddressAssignment address => Sys2Proof.Machine.execDynamicAddressAssignment address s
  | .rstdaa => Sys2Proof.Machine.execRstdaa s
  | .thermalSample raws bad => Sys2Proof.Machine.execThermalSample raws bad s
  | .thermalComparator input => Sys2Proof.Machine.execThermalComparator input s
  | .thermalDumpRestart => Sys2Proof.Machine.execThermalDumpRestart s
  | .vddqfLow => Sys2Proof.Machine.execVddqfLow s
  | .stageRom badCore => Sys2Proof.Machine.execStageRom badCore s
  | .stageOtp bad => Sys2Proof.Machine.execStageOtp bad s
  | .stageObjects => Sys2Proof.Machine.execStageObjects s
  | .stageMedia mastFail portCes excluded => Sys2Proof.Machine.execStageMedia mastFail portCes excluded s
  | .stageReplay journalOk newerMajor missing disagree => Sys2Proof.Machine.execStageReplay journalOk newerMajor missing disagree s
  | .startupLimit => Sys2Proof.Machine.execStartupLimit s
  | .testLogicReset => Sys2Proof.Machine.execTestLogicReset s
  | .idcode => Sys2Proof.Machine.execIdcode s
  | .samplePreload boundary => Sys2Proof.Machine.execSamplePreload boundary s
  | .extest => Sys2Proof.Machine.execExtest s
  | .extestPulse => Sys2Proof.Machine.execExtestPulse s
  | .extestTrain => Sys2Proof.Machine.execExtestTrain s
  | .clamp => Sys2Proof.Machine.execClamp s
  | .highz => Sys2Proof.Machine.execHighz s
  | .bypass code => Sys2Proof.Machine.execBypass code s
  | .fuseSelect field => Sys2Proof.Machine.execFuseSelect field s
  | .fuseData value => Sys2Proof.Machine.execFuseData value s
  | .fuseBurn tcks vin => Sys2Proof.Machine.execFuseBurn tcks vin s
  | .fuseRead => Sys2Proof.Machine.execFuseRead s
  | .fabricProtocolError mast => Sys2Proof.Machine.execFabricProtocolError mast s
  | .configurationRequest fn port1 offset => Sys2Proof.Machine.execConfigurationRequest fn port1 offset s
  | .tagOrCrcFailure port seq outOfSequence => Sys2Proof.Machine.execTagOrCrcFailure port seq outOfSequence s
  | .timedOutTagReuse req => Sys2Proof.Machine.execTimedOutTagReuse req s

end Sys2Proof.Machine
end

