-- ==== Sys2Proof/Machine/Balls.lean ====
section
/-! DEFINITION. The ball map of the package (R503 to R514): what each of the 2,601 balls carries. -/

namespace Sys2Proof.Machine

/-- Signals of a flash port (R505). -/
inductive FlashPin where
  | dq (i : Nat) | dqsT | dqsC | reT | reC | weN | ale | cle | ce (c : Nat) | wpN | rbN
  deriving DecidableEq, Repr

/-- What a ball carries; `neg` is the negative wire of a pair, `open_` a ball that is not connected inside the package. -/
inductive Ball where
  | vin | vss | vddqf | tdRtn
  | flash (port : Nat) (pin : FlashPin)
  | hostTx (lane : Nat) (neg : Bool) | hostRx (lane : Nat) (neg : Bool)
  | refclk (neg : Bool) | perst (port : Nat) | wake | clkreq
  | halyardTx (port lane : Nat) (neg : Bool) | halyardRx (port lane : Nat) (neg : Bool)
  | thermal (input : Nat) (neg : Bool)
  | huSense | huLoad | pwrfail
  | open_
  | tck | tms | tdi | tdo | trst | xtalIn | xtalOut | sbScl | sbSda | led0 | led1 | vqsel
  deriving DecidableEq, Repr

/-- The regions of R504. -/
inductive Region where
  | topStrip | rightStrip | bottomStrip | leftStrip | gapA | gapB | gapC | gapD | centre
  deriving DecidableEq, Repr

/-- Rows and columns of each region, first and last (R504). -/
def regionBox : Region → (Nat × Nat) × (Nat × Nat)
  | .topStrip => ((1, 12), (1, 32))
  | .rightStrip => ((1, 32), (40, 51))
  | .bottomStrip => ((40, 51), (20, 51))
  | .leftStrip => ((20, 51), (1, 12))
  | .gapA => ((1, 12), (33, 39))
  | .gapB => ((33, 39), (40, 51))
  | .gapC => ((40, 51), (13, 19))
  | .gapD => ((13, 19), (1, 12))
  | .centre => ((13, 39), (13, 39))
/-- Every region. -/
def regions : List Region :=
  [.topStrip, .rightStrip, .bottomStrip, .leftStrip, .gapA, .gapB, .gapC, .gapD, .centre]
/-- Ball row.column lies in the region. -/
def inRegion (row col : Nat) (r : Region) : Bool :=
  let b := regionBox r
  decide (b.1.1 ≤ row) && decide (row ≤ b.1.2) && decide (b.2.1 ≤ col) && decide (col ≤ b.2.2)

/-- The template of a flash port, by distance u along the edge and depth v (R505). -/
def template (p u v : Nat) : Ball :=
  match v, u with
  | 0, 1 => .flash p (.dq 0)
  | 0, 2 => .flash p (.dq 1)
  | 0, 4 => .flash p (.dq 2)
  | 0, 5 => .flash p (.dq 3)
  | 0, 7 => .vddqf
  | 1, 0 => .flash p .dqsT
  | 1, 1 => .flash p .dqsC
  | 1, 3 => .flash p (.dq 4)
  | 1, 4 => .flash p (.dq 5)
  | 1, 6 => .flash p (.dq 6)
  | 1, 7 => .flash p (.dq 7)
  | 2, 1 => .flash p .reT
  | 2, 2 => .flash p .reC
  | 2, 4 => .flash p .weN
  | 2, 5 => .flash p .ale
  | 2, 6 => .flash p .cle
  | 3, 4 => .vddqf
  | 3, 5 => .flash p .wpN
  | 3, 6 => .flash p .rbN
  | 3, 7 => .vss
  | 3, c => .flash p (.ce c)
  | 4, 4 => .vss
  | 4, 5 => .vddqf
  | 4, 6 => .vddqf
  | 4, 7 => .vddqf
  | 4, c => .flash p (.ce (4 + c))
  | 5, 0 => .vddqf
  | 5, 2 => .vddqf
  | 5, 4 => .vddqf
  | 5, 6 => .vddqf
  | _, _ => .vss

/-- The ball of template position (u, v) of port p (R506). -/
def flashBall (p u v : Nat) : Nat × Nat :=
  let i := p % 8
  let d := 6 * (i % 4 / 2) + v
  let a := 8 * (2 * (i / 4) + i % 2) + u
  match p / 8 with
  | 0 => (1 + d, 1 + a)
  | 1 => (1 + a, 51 - d)
  | 2 => (51 - d, 51 - a)
  | _ => (51 - a, 1 + d)
/-- The port and the template position at depth d and distance a of edge e: R506 turned round. -/
def stripBall (e d a : Nat) : Ball :=
  let slot := a / 8
  template (8 * e + 4 * (slot / 2) + 2 * (d / 6) + slot % 2) (a % 8) (d % 6)

/-- Gap A: the host port (R509). -/
def gapABall (row col : Nat) : Ball :=
  if row ≤ 8 then
    if col = 34 then .hostTx (row - 1) false
    else if col = 35 then .hostTx (row - 1) true
    else if col = 37 then .hostRx (row - 1) false
    else if col = 38 then .hostRx (row - 1) true
    else .vss
  else match row, col with
  | 9, 34 => .refclk false
  | 9, 35 => .refclk true
  | 9, 37 => .perst 0
  | 9, 38 => .perst 1
  | 10, 34 => .wake
  | 10, 35 => .clkreq
  | _, _ => .vss
/-- Gap B: the Halyard ports, lane l of port p in column 41 + 3p + l (R510). -/
def gapBBall (row col : Nat) : Ball :=
  let p := (col - 41) / 3
  let l := (col - 41) % 3
  if col < 41 || 2 < p || 1 < l then .vss
  else match row with
  | 34 => .halyardTx p l false
  | 35 => .halyardTx p l true
  | 37 => .halyardRx p l false
  | 38 => .halyardRx p l true
  | _ => .vss
/-- Gap C: the thermal inputs and the hold-up pins (R511). -/
def gapCBall (row col : Nat) : Ball :=
  if row ≤ 47 then
    match col with
    | 13 => .thermal (2 * (row - 40)) false
    | 14 => .thermal (2 * (row - 40)) true
    | 16 => .thermal (2 * (row - 40) + 1) false
    | 17 => .thermal (2 * (row - 40) + 1) true
    | 15 => .tdRtn
    | 18 => .tdRtn
    | _ => .vss
  else match row, col with
  | 48, 13 => .huSense
  | 48, 15 => .huLoad
  | 48, 17 => .pwrfail
  | _, _ => .vss
/-- Gap D (R512). -/
def gapDBall (row col : Nat) : Ball :=
  match row, col with
  | 14, 2 => .tck
  | 14, 4 => .tms
  | 14, 6 => .tdi
  | 14, 8 => .tdo
  | 14, 10 => .trst
  | 16, 2 => .xtalIn
  | 16, 4 => .xtalOut
  | 16, 8 => .sbScl
  | 16, 10 => .sbSda
  | 18, 2 => .led0
  | 18, 4 => .led1
  | 18, 6 => .vqsel
  | _, _ => .vss
/-- What a ball of a region carries; the centre alternates VIN and VSS (R513). -/
def regionBall (r : Region) (row col : Nat) : Ball :=
  match r with
  | .topStrip => stripBall 0 (row - 1) (col - 1)
  | .rightStrip => stripBall 1 (51 - col) (row - 1)
  | .bottomStrip => stripBall 2 (51 - row) (51 - col)
  | .leftStrip => stripBall 3 (col - 1) (51 - row)
  | .gapA => gapABall row col
  | .gapB => gapBBall row col
  | .gapC => gapCBall row col
  | .gapD => gapDBall row col
  | .centre => if (row + col) % 2 = 1 then .vin else .vss
/-- Ball row.column of the package, none outside the grid. -/
def ballAt (row col : Nat) : Option Ball := (regions.find? (inRegion row col)).map fun r => regionBall r row col
/-- What a ball carries in a part of `masts` masts: the signal balls of the templates of an absent mast are not connected inside the package (R507). -/
def ballOf (masts row col : Nat) : Option Ball := (ballAt row col).map fun b => match b with
  | .flash p _ => if p < 4 * masts then b else .open_
  | _ => b
/-- The device drives CEc_n of a port high whatever it does: the chip enable is outside the population (R72, R507). -/
def State.ceIdle (s : State) (port c : Nat) : Bool := decide (port < s.portN) && decide (c < 8) && ! bit s.record.ceBitmap c
/-- Chip enables of a port that a command to a LUN drives low: the one of the LUN (R10, R507). -/
def State.ceLow (s : State) (port glun : Nat) : List Nat :=
  (List.range 8).filter fun c => decide (portOfLun glun = port) && decide (localOfLun glun / 4 = c) && ! s.ceIdle port c
/-- Every ball of the grid, row by row (R503). -/
def grid : List (Nat × Nat) := (List.range 51).flatMap fun r => (List.range 51).map fun c => (r + 1, c + 1)
/-- Number of balls with a property (R514). -/
def ballCount (f : Ball → Bool) : Nat :=
  (grid.filter fun b => match ballAt b.1 b.2 with
    | some x => f x
    | none => false).length

end Sys2Proof.Machine
end

