-- ==== Sys2Proof/Safety.lean ====
section
/-! DEFINITION. What claims about runs are stated in: the parts of the state that no command changes, and the states a part can be in. -/

namespace Sys2Proof.Machine

/-- What commands leave as it is: the variant, the numbers of units that the state holds, the commands that wait, the fuses that only JTAG
burns (R484, R485; FUSE_BURN is the one command that changes them), the status sequence (R536; FRAME_START is the one command that
advances it) and the frame number (R42 to R44; FRAME_START, FRAME_PLL_RELOCK and AON_POWER_ON_RESET are the commands that change it). -/
structure Shape where
  variant : Variant
  masts : Nat
  ports : Nat
  fns : Nat
  halyard : Nat
  hostPorts : Nat
  journals : Nat
  memories : Nat
  inputs : Nat
  pending : List Instr
  makerKey : PubKey
  portFuse : Bool
  lock : Bool
  stseq : Word
  frame : Nat
  deriving DecidableEq, Repr

def State.shape (s : State) : Shape := {
  variant := s.variant, masts := s.masts.length, ports := s.ports.length, fns := s.fns.length, halyard := s.hal.ports.length
  hostPorts := s.io.ports.length, journals := s.media.journals.length, memories := s.mems.length, inputs := s.therm.inputs.length
  pending := s.pending, makerKey := s.fuses.makerKey, portFuse := s.fuses.hostPort, lock := s.fuses.lock, stseq := s.stseq, frame := s.clk.frame }

/-- Parts of the state that few commands change: fuses, JTAG port, clocks, signed objects, thermal inputs, bank, flash ports, placement
classes, fixity jobs, buffer pool, protected memories and sideband. -/
structure Steady where
  fuses : Fuses
  jtag : Jtag
  clk : Clock
  obj : Objects
  therm : Thermal
  nrg : Energy
  ports : List Port
  classes : List PClass
  fix : Fixity
  pool : Pool
  mems : List MemUnit
  side : Sideband
  deriving DecidableEq, Repr

def State.steady (s : State) : Steady := {
  fuses := s.fuses, jtag := s.jtag, clk := s.clk, obj := s.obj, therm := s.therm, nrg := s.nrg, ports := s.ports, classes := s.classes
  fix := s.fix, pool := s.pool, mems := s.mems, side := s.side }

/-- The units of a part of the family: eight mast places, 32 flash ports, 129 functions, three Halyard ports, two host ports, nine
journals, 40 places for protected memories and 25 thermal inputs (R1, R7, R11, R156, R332, R386, R449, R475). -/
def State.WellShaped (s : State) : Prop :=
  s.masts.length = 8 ∧ s.ports.length = 32 ∧ s.fns.length = 129 ∧ s.hal.ports.length = 3 ∧ s.io.ports.length = 2 ∧
  s.media.journals.length = 9 ∧ s.mems.length = 40 ∧ s.therm.inputs.length = 25

/-- A step that ends in neither a fault nor a refusal. -/
def completes (r : Host.Outcome State Fault Refusal) : Bool :=
  match r with
  | .next _ => true
  | .fault _ => false
  | .refused _ => false

/-- The commands that may change a steady part: frames, clocks, ports, the bank, start-up, power cuts and wakes, thermal inputs, buffers,
memories and mast faults, which leave them to be filled, fixity jobs, the sideband and JTAG. -/
def changesSteady (c : Instr) : Bool :=
  match c with
  | .frameStart .. | .overrunRecoveryRun .. | .retrainingPass .. | .retrainingTimeout .. | .portFailedAfterDrain ..
  | .dieOperationEnd .. | .framePllRelock .. | .ref100Loss .. | .ref100Return .. | .secondMark .. | .lastKnownTime ..
  | .aon32kStopped .. | .aon32kRunning .. | .ageClockAdvance .. | .watchdogExpiry .. | .deviceFault .. | .selfTestInterval ..
  | .huLoadRelease .. | .selfTestResult .. | .selfTestRetry .. | .huLoadHardwareRelease .. | .finalRound .. | .dumpRestart ..
  | .brownOut .. | .aonPowerOnReset .. | .patrolBatchDue .. | .drainLimit .. | .perstRelease .. | .hostReceiverBeacon ..
  | .wakePin .. | .configurationSet .. | .fixityJobEnd .. | .fixityResultExpiry .. | .wakePatternReceived ..
  | .bufferAllocate .. | .bufferShare .. | .bufferDrop .. | .bufferZeroed .. | .correctableError .. | .uncorrectableError ..
  | .memoryFill .. | .graceTimeEnd .. | .domainWake .. | .samplerWake .. | .i3cPrivateTransfer .. | .dynamicAddressAssignment ..
  | .rstdaa .. | .thermalSample .. | .thermalComparator .. | .thermalDumpRestart .. | .vddqfLow .. | .stageRom .. | .stageOtp ..
  | .stageObjects .. | .stageMedia .. | .stageReplay .. | .startupLimit .. | .testLogicReset .. | .idcode .. | .samplePreload ..
  | .extest .. | .extestPulse .. | .extestTrain .. | .clamp .. | .highz .. | .bypass .. | .fuseSelect .. | .fuseData ..
  | .fuseBurn .. | .fuseRead .. | .mastPllLossOfLock .. | .missingHeartbeat .. | .fabricProtocolError .. => true
  | _ => false

/-- The operation of a LUN is over: its command and data have gone out, it is not suspended, and on a port that takes plans its planned end has
come (R51, R52). -/
def dieOver (s : State) (glun : Nat) (w : DieWork) : Prop :=
  (s.lun glun).work = some w ∧ w.suspended = false ∧ w.cmd = false ∧ w.dataLeft = 0 ∧ (s.takesPlans (portOfLun glun) = true → w.plannedEnd ≤ s.clk.frame)

/-- A command completes: it answers a next state, and the next state is as described. -/
def Answers (r : Host.Outcome State Fault Refusal) (P : State → Prop) : Prop := ∃ t, r = .next t ∧ P t

/-- A host has written an entry into the submission queue `q` that the header names, and its doorbell. -/
def State.rung (s : State) (h : NvmeHdr) (q : Sq) : State :=
  let ring (x : Sq) : Sq := { x with tail := (q.tail + 1) % max 1 q.size, stalled := false }
  s.modCtrl h.fn h.port1 fun c => { c with sqs := updIf (fun x => x.qid == h.sq) ring c.sqs }

/-- What a command row of NVMe does: its entry is fetched at once where the engine may fetch from its queue and nothing waits in the queue,
else it waits to be fetched; a queue that does not stand, is full or whose controller is not enabled takes nothing. -/
def TakesEntry (op : Instr) (h : NvmeHdr) (s : State) : Prop :=
  ctrlUnit h.fn h.port1 = true →
  (∀ q, (s.ctrl h.fn h.port1).sqs.find? (fun x => x.qid == h.sq) = some q → s.configOpen h.fn h.port1 = true → (s.ctrl h.fn h.port1).ccEn = true →
    (q.tail + 1) % max 1 q.size ≠ q.head →
    ((s.rung h q).mayFetch h.fn h.port1 h.sq = true → (s.rung h q).io.submitted.any (waitsIn h.fn h.sq h.port1) = false →
      exec op s = .next ((s.rung h q).fetchEntry h.fn h.sq h.port1 op h.cid)) ∧
    (((s.rung h q).mayFetch h.fn h.port1 h.sq = false ∨ (s.rung h q).io.submitted.any (waitsIn h.fn h.sq h.port1) = true) →
      exec op s = .next ((s.rung h q).modIo fun i => { i with submitted := i.submitted ++ [(h.fn, h.sq, h.port1, op, h.cid)] }))) ∧
  (((s.ctrl h.fn h.port1).sqs.find? (fun x => x.qid == h.sq) = none ∨ s.configOpen h.fn h.port1 = false ∨ (s.ctrl h.fn h.port1).ccEn = false) →
    exec op s = .next s)

/-- The mailbox or endpoint that a header names is one that a function has. -/
def hasMailbox : Via → Bool
  | .mctp => true
  | .bar f mb => decide (f ≤ 128) && decide (mb < if f == 0 then 4 else 1)
/-- What a mailbox command row does at its GO, as a command of opcode `op` that the device knows or does not: in a free mailbox whose transport
takes commands it is validated and waits for step 4 of the next frame; in one that is not free it sets GO-while-busy, and the endpoint
answers 0x0205; a transport that takes no commands is not changed. -/
def TakesCommand (i : Instr) (m : MbxHdr) (op : Nat) (known : Bool) (s : State) : Prop :=
  ∃ c, mbxForm s i = some (m, c) ∧ c.op = op ∧ (hasMailbox m.via = true → ∀ b, s.mbxAt m.via = some b →
    (s.takesCommands m.via = false → exec i s = .next s) ∧
    (s.takesCommands m.via = true → b.busy = false → b.done = false → Answers (exec i s) fun t =>
      t.mbxAt m.via = some { b with
        busy := true, cmd := some i, verdict := s.validate m c known, validated := s.clk.frame, waiting := false, opcode := op, tag := m.tag
        bufs := if s.validate m c known = some (errR 0x0301 8) then 0 else bufsOf m } ∧
      t.mbx.order = s.mbx.order ++ [m.via] ∧ (∀ v, v ≠ m.via → t.mbxAt v = s.mbxAt v) ∧ t.media = s.media ∧ t.nss = s.nss ∧ t.fns = s.fns ∧
      t.hal = s.hal ∧ t.pwr = s.pwr ∧ t.io = s.io ∧ t.clk = s.clk ∧ t.peer = s.peer) ∧
    (s.takesCommands m.via = true → (b.busy = true ∨ b.done = true) →
      (m.via ≠ .mctp → exec i s = .next (s.modMbxAt m.via fun b => { b with goWhileBusy := true })) ∧
      (m.via = .mctp → exec i s = .next (s.emit (.mctp op m.tag (errR 0x0205))))))

/-- A packet run on a port would go beyond the places that its credits stand for (R339, R352). -/
def overCredit (p : HPort) (ptype packets : Nat) : Bool :=
  ptype == 0x20 && decide (1024 < p.freedReq + packets) ||
    ptype != 0x20 && ptype != 0x30 && ! freePacket ptype && decide (64 < p.freedCtl + packets)
/-- A Quarantined link answers a Hail and a probe with a Refuse (R352). -/
def refuses (p : HPort) (ptype : Nat) : Bool := p.state == .quarantined && (ptype == 0x01 || ptype == 0x07)
/-- A packet run is taken: the next sequence moves on, and its places are to be credited again. -/
def State.took (s : State) (port ptype packets : Nat) : State :=
  let s := s.modHport port fun p => { p with rxNext := p.rxNext + packets, heard := true }
  if ptype == 0x20 then s.modHport port fun p => { p with freedReq := p.freedReq + packets }
  else if ptype == 0x30 || freePacket ptype then s
  else s.modHport port fun p => { p with freedCtl := p.freedCtl + packets }
/-- A port accepts a packet run in its sequence and passes it on. -/
def State.accepts (s : State) (port seq ptype packets : Nat) : Bool :=
  let p := s.hport port
  decide (port < 3) && p.state != .down && p.state != .training && seq == p.rxNext && ! overCredit p ptype packets && ! refuses p ptype &&
    carries p.state ptype
/-- What a row that receives a packet run does where the port does not pass it on. -/
def Discards (i : Instr) (port seq ptype packets : Nat) (s : State) : Prop :=
  port < 3 →
  (((s.hport port).state = .down ∨ (s.hport port).state = .training) → exec i s = .next s) ∧
  ((s.hport port).state ≠ .down → (s.hport port).state ≠ .training →
    (seq ≠ (s.hport port).rxNext → exec i s = .next (s.sendNak port 2)) ∧
    (seq = (s.hport port).rxNext →
      (overCredit (s.hport port) ptype packets = true →
        exec i s = .next ((s.modHport port fun p => { p with rxNext := p.rxNext + packets, heard := true }).violation port)) ∧
      (overCredit (s.hport port) ptype packets = false →
        (refuses (s.hport port) ptype = true → exec i s = .next ((s.took port ptype packets).refuse port 0 2 0)) ∧
        (refuses (s.hport port) ptype = false → carries (s.hport port).state ptype = false → exec i s = .next (s.took port ptype packets)))))
/-- A port may serve a request on a path of its own: the link is Paired, the path ends here, and so does its far end's identity. -/
def State.serves (s : State) (port label : Nat) (fp : Digest) : Prop :=
  (s.hport port).state = .paired ∧ s.relayOf port label = none ∧ s.peerOf port label = some fp ∧ s.isPaired fp = true

/-- The request that a row brings: its sequence, the request and the packets it takes (R369). -/
def requestOf : Instr → Option (Nat × HReq × Nat)
  | .chunkRead port seq label tag job zone offset count declared =>
    some (seq, { port := port, label := label, tag := tag, op := 1, ident := job, zone := zone, offset := offset, count := count, declared := declared }, 1)
  | .treeRead port seq label tag job zone declared =>
    some (seq, { port := port, label := label, tag := tag, op := 2, ident := job, zone := zone, declared := declared }, 1)
  | .mirrorWrite port seq label tag rel zone offset blocks _ =>
    some (seq, { port := port, label := label, tag := tag, op := 3, ident := rel, zone := zone, offset := offset, count := blocks.length, declared := 1 },
      ceilDiv (32 + 4160 * blocks.length) 512)
  | _ => none

end Sys2Proof.Machine
end

