-- ==== Sys2Proof/Certificates/Slice0/Obligations.lean ====
section
/-! DEFINITION. The statements about the block, for the provers. -/

open Sys2Proof Sys2Proof.Machine

/-- O1. A step runs the command at the front of the queue (R49, R421). For every command c, state s and waiting commands rest, step of s
with c in front of rest is exec of c on s with the queue rest; with no command waiting the block idles, which is the choice of the model
(assumption 3). -/
def Obligations.StepRunsTheFrontCommand : Prop :=
  (∀ (c : Instr) (rest : List Instr) (s : State), step { s with pending := c :: rest } = exec c { s with pending := rest }) ∧
  (∀ s : State, s.pending = [] → step s = .next s)

/-- O2. Reset leaves a well-shaped block in frame 0 of stage 1 (R1, R43, R486, R387). The state after reset of each variant has the units
of the family, frame number 0, start-up stage 1, the masts of the variant furled and the others absent, no unit of the fuses in effect,
and nothing waiting. (Reset values that the spec does not give are in assumption 2.) -/
def Obligations.ResetIsWellShaped : Prop :=
  ∀ v : Variant,
    (State.resetOf v).WellShaped ∧ (State.resetOf v).clk.frame = 0 ∧ (State.resetOf v).start.stage = 1 ∧
    (State.resetOf v).pwr.dev = .starting ∧ (State.resetOf v).provision = .unassembled ∧ (State.resetOf v).pending = [] ∧
    (∀ m, ((State.resetOf v).mast m).state = if m < mastCount v then .furled else .absent)

/-- O3. Every step keeps the units of the block and the commands behind the front one (R1, R7, R11, R332, R386, R475, R156). From every
well-shaped state, whatever command is in front, a step that answers a next state answers a well-shaped one of the same variant, with the
queue short of its front command. -/
def Obligations.StepKeepsUnits : Prop :=
  ∀ s t : State, s.WellShaped → step s = .next t →
    t.WellShaped ∧ t.variant = s.variant ∧ t.pending = s.pending.tail

/-- O4. Only a frame, the end of dark frames and an AON power-on reset change the frame number (R43). Whatever command runs, the frame
number stays, except that FRAME_START adds one while frames run, FRAME_PLL_RELOCK adds the frames of R44 after dark ones, and an AON
power-on reset begins frame 0. -/
def Obligations.FrameNumber : Prop :=
  (∀ (c : Instr) (s t : State), exec c s = .next t →
    t.clk.frame = s.clk.frame ∨
    (∃ inp, c = .frameStart inp ∧ s.clk.dark = false ∧ t.clk.frame = s.clk.frame + 1) ∨
    (∃ k, c = .framePllRelock k ∧ s.clk.dark = true ∧ t.clk.frame = firstFrame s.clk.frame s.clk.t0 (max k s.clk.ticks)) ∨
    (∃ r, c = .aonPowerOnReset r ∧ t.clk.frame = 0)) ∧
  (∀ (r : Nat) (s : State), Answers (exec (.aonPowerOnReset r) s) fun t => t.clk.frame = 0) ∧
  (∀ (inp : FrameIn) (s : State), s.clk.dark = false → Answers (exec (.frameStart inp) s) fun t => t.clk.frame = s.clk.frame + 1)

/-- O5. A JTAG fuse changes only by FUSE_BURN, only when blank, and never once the lock is burnt (R484, R485, R530). Whatever command
runs, the maker key, host port mode and assembly lock fuses stay as they are unless the command is FUSE_BURN with VIN at least 3.0 V and
200,000 TCK cycles, the lock unburnt and the selected field blank; under those conditions FUSE_BURN burns the selected field and leaves
the others. -/
def Obligations.FusesBurnOnce : Prop :=
  (∀ (c : Instr) (s t : State), exec c s = .next t →
    (t.fuses.makerKey = s.fuses.makerKey ∧ t.fuses.hostPort = s.fuses.hostPort ∧ t.fuses.lock = s.fuses.lock) ∨
    (∃ tcks vin, c = .fuseBurn tcks vin ∧ s.fuses.lock = false ∧ s.fuses.field s.jtag.select = 0 ∧ 3000 ≤ vin ∧ 200000 ≤ tcks)) ∧
  (∀ (tcks vin : Nat) (s : State), s.powered = true → s.fuses.lock = false → 1 ≤ s.jtag.select → s.jtag.select ≤ 3 →
    s.fuses.field s.jtag.select = 0 → 3000 ≤ vin → 200000 ≤ tcks →
    Answers (exec (.fuseBurn tcks vin) s) fun t =>
      t.fuses = s.fuses.burn s.jtag.select s.jtag.data ∧ t.jtag.burnt = true ∧ t.jtag.vinLow = false ∧ t.clk = s.clk ∧ t.keys = s.keys)

/-- O6. The status sequence advances once a frame and by nothing else (R49, R152, R536). STSEQ changes only at the end of a FRAME_START of
a frame that runs, and then by one, modulo 2^32. -/
def Obligations.StatusSequence : Prop :=
  ∀ (c : Instr) (s t : State), exec c s = .next t →
    t.stseq = s.stseq ∨ ((∃ inp, c = .frameStart inp) ∧ s.clk.dark = false ∧ t.stseq = s.stseq + 1)

/-- O7. FRAME_START runs the steps of R49 in order, and no frame begins while frames are dark (R44, R49, R152, R427, R536). A dark frame
is no frame: nothing changes. Otherwise steps 1 and 2 and the dump step run first; a starting or working device goes on with steps 3 to 10
in the order of R49; at the end the records go to the rings and STSEQ advances. In a dump only steps 1 and 2 are taken. -/
def Obligations.FrameSteps : Prop :=
  (∀ (inp : FrameIn) (s : State), s.clk.dark = true → exec (.frameStart inp) s = .next s) ∧
  (∀ (inp : FrameIn) (s a b : State), s.clk.dark = false →
    a = ((s.stepOf (State.latchInputs inp)).stepOf State.latchPower).stepOf State.dumpFrameStep →
    b = (if a.pwr.dev = .starting ∨ a.pwr.dev = .working then a.frameSteps else a) →
    exec (.frameStart inp) s = .next (if b.clk.dark = true then b else { b.deliverEvents with stseq := b.deliverEvents.stseq + 1 })) ∧
  (∀ s a b c : State, a = ((s.stepOf State.collect).stepOf State.changes).stepOf State.decisions → a.clk.dark = false →
    b = a.stepOf State.refreshCredits → b.pwr.dev = .working →
    c = (((b.stepOf State.energyBudget).stepOf State.admission).stepOf State.patrolStep).stepOf State.dispatchWork →
    s.frameSteps = c.deepBegins)

/-- O8. What each clock event does to the clocks (R45, R47, R59, R63, R64, R201, R202). SECOND_MARK captures the frame number and the
seconds together; LAST_KNOWN_TIME records a set clock and the age clocks, at the first record and every 2^22 frames; AON32K_STOPPED makes the clock unset and
raises 604/1; AON32K_RUNNING raises 604/2 and leaves it unset; REF100_LOSS moves every PLL to the internal oscillator, takes every Halyard
link down and raises 480/1; REF100_RETURN switches back and raises 480/2; AGE_CLOCK_ADVANCE adds to every age clock one second times the
factor of its highest reading, every 62,500 frames. Each next state is given whole. -/
def Obligations.ClockCommands : Prop :=
  (∀ s : State, s.clk.dark = false → s.clk.isSet = true → s.clk.markSecs ≠ s.clk.secs →
    exec .secondMark s = .next (s.modClk fun c => { c with markFrame := c.frame, markSecs := c.secs })) ∧
  (∀ s : State, s.clk.dark = false → s.clk.isSet = true → (∀ f, s.clk.lastKnownFrame = some f → f + 2 ^ 22 ≤ s.clk.frame) →
    exec .lastKnownTime s = .next (((s.modClk fun c => { c with lastKnown := some (c.secs, c.frac), lastKnownFrame := some c.frame }).modMedia fun m =>
      { m with ages := m.ages.map fun a => { a with written := a.age } }).log 8 (.lastKnown s.clk.secs s.clk.frac))) ∧
  (∀ s : State, s.clk.aonRuns = true → s.pwr.dev ≠ .crowsNest →
    exec .aon32kStopped s = .next ((s.modClk fun c => { c with aonRuns := false, isSet := false, secs := 0, frac := 0 }).raise 604 1 2 [])) ∧
  (∀ s : State, s.clk.aonRuns = false →
    exec .aon32kRunning s = .next ((s.modClk fun c => { c with aonRuns := true }).raise 604 2 0 [])) ∧
  (∀ s : State, s.clk.ref100 = true → s.clk.dark = false →
    exec .ref100Loss s = .next (each [0, 1, 2] (fun s p => s.goDown p)
      ((s.modClk fun c => { c with ref100 := false, internalOsc := true }).raise 480 1 1 []))) ∧
  (∀ s : State, s.clk.ref100 = false → s.clk.internalOsc = true →
    exec .ref100Return s = .next ((s.modClk fun c => { c with ref100 := true, internalOsc := false }).raise 480 2 0 [])) ∧
  (∀ s : State, s.clk.dark = false → s.media.ageFrame + 62500 ≤ s.clk.frame →
    Answers (exec .ageClockAdvance s) fun t =>
      t.media.ageFrame = s.media.ageFrame + 62500 ∧ t.clk = s.clk ∧ t.nss = s.nss ∧
      t.media.ages = s.allSets.map fun x =>
        { s.ageClock x.1 x.2.1 x.2.2 with age := (s.ageClock x.1 x.2.1 x.2.2).age + s.factorAt (s.setTemp s.latched x.1 x.2.1 x.2.2) })

/-- O9. The frame after dark ones counts them, and the archive clock has run on (R44, R201, R468, R473). FRAME_PLL_RELOCK of a device that
has begun to start again ends dark time: the frame number counts floor((t1 - t0) x 15625 / 8192) dark frames, the start-up time limit
begins at the new frame, a running archive clock stands at the tick count of the relock, and the records held meanwhile are raised. -/
def Obligations.DarkTime : Prop :=
  (∀ (k : Nat) (s : State), s.clk.dark = true → s.pwr.dev = .starting →
    Answers (exec (.framePllRelock k) s) fun t =>
      t.clk.dark = false ∧ t.clk.frame = firstFrame s.clk.frame s.clk.t0 (max k s.clk.ticks) ∧ t.start.begin = t.clk.frame ∧
      t.evt.later = [] ∧ t.evt.raised.length = s.evt.raised.length + s.evt.later.length ∧
      (s.clk.aonRuns = true → t.clk.ticks = max k s.clk.ticks) ∧ t.keys = s.keys ∧ t.masts = s.masts) ∧
  (∀ t0 t1 last : Nat, firstFrame last t0 t1 = last + 1 + (t1 - t0) * 15625 / 8192)

/-- O10. The transitions of a flash port (R54, R55, R56, R71, R501). A degraded port whose run of frames without an overrun has reached N
becomes normal (code 2); a fenced port whose retraining passes in time with a chip enable becomes degraded (code 1), with the chip enables
that passed; one that has not passed in 6,250 frames, or that drains after its third entry and has no operation left, is failed (code 4).
The window of 64 frames begins afresh at each. A watchdog of a port sequencer adds two overrun frames. -/
def Obligations.PortStates : Prop :=
  (∀ (p : Nat) (s : State), p < 32 → (s.port p).state = .degraded → s.ctlValue ctlOverrunN ≤ (s.port p).clearRun →
    exec (.overrunRecoveryRun p) s = .next (s.setPort p .normal 2 0 id)) ∧
  (∀ (p ces : Nat) (ex : List (Nat × Nat × Nat)) (f : Nat) (s : State), p < s.ports.length → p < 32 → (s.port p).state = .fenced →
    (s.port p).draining = false → (s.port p).fencedAt = some f → s.clk.frame ≤ f + 6250 →
    bitmap ((bitsOf ces 8).filter (bit s.record.ceBitmap)) ≠ 0 →
    Answers (exec (.retrainingPass p ces ex) s) fun t => (t.port p).state = .degraded ∧ (t.port p).fencedAt = none ∧ (t.port p).window = [] ∧
      (t.port p).cePassed = bitmap ((bitsOf ces 8).filter (bit s.record.ceBitmap)) ∧
      (t.port p).degradedEntries = (s.port p).degradedEntries + 1) ∧
  (∀ (p f : Nat) (s : State), p < 32 → (s.port p).state = .fenced → (s.port p).draining = false → (s.port p).fencedAt = some f →
    f + 6250 ≤ s.clk.frame → exec (.retrainingTimeout p) s = .next (s.failPort p)) ∧
  (∀ (p : Nat) (s : State), p < 32 → (s.port p).state = .fenced → (s.port p).draining = true →
    (∀ l ∈ s.luns, portOfLun l.glun = p → l.work = none) → exec (.portFailedAfterDrain p) s = .next (s.failPort p)) ∧
  (∀ (p : Nat) (s : State), p < s.ports.length → Answers (.next (s.failPort p)) fun t => (t.port p).state = .failed ∧ (t.port p).window = []) ∧
  (∀ (p : Nat) (s : State), p < 32 → p < s.ports.length →
    Answers (exec (.watchdogExpiry .portSequencer p) s) fun t =>
      (t.port p).overruns = (s.port p).overruns + 1 ∧ (t.port p).overrunNow = true ∧ (t.port p).clearRun = 0)

/-- O11. The report of a frame moves a port to degraded and to fenced (R54, R55). At step 3 the mark of the frame before joins the window
of the last 64. When D of them are overrun frames a normal port becomes degraded and a degraded one fenced; the third entry into fenced of
a power-on drains the port instead of retraining it. A port below D keeps its state, and its run of clear frames grows by one after a
frame without an overrun. -/
def Obligations.PortReport : Prop :=
  ∀ (p : Nat) (s : State) (w : List Bool), p < s.ports.length → w = ((s.port p).overrunNow :: (s.port p).window).take 64 →
    (s.ctlValue ctlOverrunD ≤ countIf id w → (s.port p).state = .normal →
      ((s.portReport p).port p).state = .degraded ∧ ((s.portReport p).port p).window = []) ∧
    (s.ctlValue ctlOverrunD ≤ countIf id w → (s.port p).state = .degraded →
      ((s.portReport p).port p).state = .fenced ∧ ((s.portReport p).port p).fencedAt = some s.clk.frame ∧
      ((s.portReport p).port p).draining = decide (2 ≤ (s.port p).fencedBefore + (s.port p).fencedEntries)) ∧
    (countIf id w < s.ctlValue ctlOverrunD →
      ((s.portReport p).port p).state = (s.port p).state ∧ ((s.portReport p).port p).window = w ∧
      ((s.portReport p).port p).overruns = (s.port p).overruns + (if (s.port p).overrunNow then 1 else 0) ∧
      ((s.portReport p).port p).clearRun = if (s.port p).overrunNow then 0 else (s.port p).clearRun + 1)

/-- O12. The 264 commands that are not of the named kinds leave twelve parts of the state alone (R10, R22, R26, R43, R124, R140, R272,
R435, R449, R475, R527, R529). A command that is no frame, clock, port, hold-up, start-up, power-cut, wake, thermal, buffer, memory,
mast-fault, fixity-job-end, sideband or JTAG command leaves the fuses, the JTAG port, the clocks, the signed objects, the thermal inputs, the
bank, the flash ports, the placement classes, the fixity jobs, the buffer pool, the protected memories and the sideband exactly as they were. -/
def Obligations.SteadyParts : Prop :=
  ∀ (c : Instr) (s t : State), changesSteady c = false → exec c s = .next t → t.steady = s.steady

/-- O13. When a program pass and an erase start, and what they start (R51, R52, R89, R90, R138, R157, R158, R176, R219, R231).
PROGRAM_PASS_ISSUE starts the next pass of an idle LUN of an active mast and a usable port, when no read is pending there and, for passes
that cannot be suspended, the budget allows it; BLOCK_ERASE starts the erase of a pending-erase block of the pool with no record waiting,
of a taken block that is not erased, or of a rescue block whose retirement is durable. The next state is the old one with that work on the
LUN, begun in the present frame, its command and the data of the pass still to be planned, and nothing else. -/
def Obligations.DieStarts : Prop :=
  (∀ (glun ns : Nat) (s : State) (x : NextPass) (k : DieOp), glun < 1024 →
    (s.mast (mastOfLun glun)).state = .active → (s.port (portOfLun glun)).state ≠ .fenced → (s.port (portOfLun glun)).state ≠ .failed →
    s.lunExcluded glun = false → (s.lun glun).work = none → s.readOn glun = false → s.dumping = false → s.passOn glun = some x →
    k = (if x.pass + 1 = s.profile.passesPerWl then DieOp.finePass else DieOp.coarsePass) →
    ns = (if x.pass + 1 = s.profile.passesPerWl then (if x.seg.archival then s.profile.fineArchNs else s.profile.fineStdNs) else s.profile.coarseNs) →
    (suspendLimit s.profile k x.seg.archival ≠ 0 ∨ s.budgetAllows glun = true) →
    exec (.programPassIssue glun) s = .next (s.modLun glun fun l => { l with work := some {
      kind := k, block := x.block, started := s.clk.frame, plannedEnd := s.clk.frame + 1 + s.planned glun ns, ref1 := x.seg.seq, ref2 := x.wl
      pass := x.pass, limit := suspendLimit s.profile k x.seg.archival, cmd := true, dataLeft := passBursts s.profile, dur := s.planned glun ns } })) ∧
  (∀ (glun block : Nat) (s : State), glun < 1024 → (s.lun glun).work = none → s.readOn glun = false →
    (suspendLimit s.profile .erase false ≠ 0 ∨ s.budgetAllows glun = true) → s.eraseBarred glun = false → s.dumping = false →
    (s.mast (mastOfLun glun)).state = .active → s.lunErased glun = false → s.lunExcluded glun = false →
    ((((s.lun glun).block block).state = .pendingErase ∧ (s.lun glun).poolBlock s.profile block = true ∨
        ((s.lun glun).block block).state = .allocated ∧ ((s.lun glun).block block).erased = false) ∧
      (∀ st e, JRec.blockState glun block st e ∉ (s.journal (mastOfLun glun)).staged) ∨
      (glun, block) ∈ (s.mast (mastOfLun glun)).rescueRetired) →
    exec (.blockErase glun block) s = .next (s.modLun glun fun l => { l with work := some {
      kind := .erase, block := block, started := s.clk.frame, plannedEnd := s.clk.frame + 1 + s.planned glun s.profile.eraseNs
      limit := suspendLimit s.profile .erase false, cmd := true, dur := s.planned glun s.profile.eraseNs } }))

/-- O14. How each die operation ends (R51, R52, R53, R138, R157, R158, R163, R214, R216, R219). A poll that finds a die ready or failed frees
the LUN, no earlier than its planned end on a port that takes plans; a suspended operation, and one whose command or data have not gone out,
does not end. A pass that completed is counted and journalled, and after a final pass none of the member's blocks of that wordline is dirty;
an erase that completed is journalled, and once its record is durable the block is erased with its new count, free if it is a pool block
that was pending erase; a failed erase or pass retires the block. Cycles by which a poll was late, and those of transfers that were repeated, delay the port's later
entries of the frame: an entry runs to the end within the frame's 2,000 cycles, or is carried with all that follow, in their order, to
cycle 0 of the next. -/
def Obligations.DieOperationEnds : Prop :=
  (∀ (glun late repeated : Nat) (ok : Bool) (s : State) (w : DieWork), glun < 1024 → (s.lun glun).work = some w →
    (w.suspended = true ∨ w.cmd = true ∨ w.dataLeft ≠ 0 ∨ (s.takesPlans (portOfLun glun) = true ∧ s.clk.frame < w.plannedEnd)) →
    exec (.dieOperationEnd glun ok late repeated) s = .next s) ∧
  (∀ (glun late repeated : Nat) (ok : Bool) (s : State), glun < 1024 → (s.lun glun).work = none →
    exec (.dieOperationEnd glun ok late repeated) s = .next (if late + repeated = 0 then s else s.delayEntries glun (late + repeated))) ∧
  (∀ (glun late repeated : Nat) (ok : Bool) (s : State) (w : DieWork), glun < 1024 → dieOver s glun w →
    (w.kind = .read ∨ w.kind = .pslcRead ∨ w.kind = .reset ∨ w.kind = .feature) →
    exec (.dieOperationEnd glun ok late repeated) s = .next (if late + repeated = 0 then s.modLun glun fun l => { l with work := none }
      else (s.modLun glun fun l => { l with work := none }).delayEntries glun (late + repeated))) ∧
  (∀ (glun : Nat) (s : State) (w : DieWork) (g : Segment) (q : Nat), glun < 1024 → dieOver s glun w → (w.kind = .coarsePass ∨ w.kind = .finePass) →
    s.seg? w.ref1 = some g → ((List.range g.width).find? fun q => s.memberGlun g q == glun) = some q → w.block = g.members.getD q 0 →
    mastOfLun glun < s.media.journals.length →
    Answers (exec (.dieOperationEnd glun true 0 0) s) fun t =>
      (t.lun glun).work = none ∧ t.clk = s.clk ∧ t.nss = s.nss ∧ t.keys = s.keys ∧ t.ports = s.ports ∧ t.io = s.io ∧
      (w.kind = .finePass → ∀ b ∈ t.media.blocks, b.seg = g.seq → wordlineOf s.profile b.row = w.ref2 → memberOf g.width b.unit b.row = q → b.dirty = false) ∧
      (w.kind = .coarsePass → t.media.blocks = s.media.blocks) ∧
      (t.journal (mastOfLun glun)).staged = (s.journal (mastOfLun glun)).staged ++ [.passComplete g.seq q w.ref2 (w.pass + 1) w.block] ∧
      t.media.segs = updIf (fun x => x.seq == g.seq) (fun x => { x with
        progress := x.progress.filter (fun y => y.1 != q) ++ [(q, (List.range s.profile.passesPerWl).map fun i => g.passes q i + bitOf (i == w.pass) 0)]
        headerSent := true }) s.media.segs) ∧
  (∀ (glun : Nat) (s : State) (w : DieWork), glun < 1024 → dieOver s glun w → w.kind = .erase →
    exec (.dieOperationEnd glun true 0 0) s = .next ((s.modLun glun fun l => { l with work := none }).log (mastOfLun glun)
      (.blockState glun w.block 3 (((s.lun glun).block w.block).erases + 1)))) ∧
  (∀ (glun b n : Nat) (s : State), ((s.lun glun).block b).state ≠ .retired →
    (((s.recordDurable (.blockState glun b 3 n)).lun glun).block b).erased = true ∧
    (((s.recordDurable (.blockState glun b 3 n)).lun glun).block b).erases = n ∧
    (((s.lun glun).block b).state = .pendingErase → (s.lun glun).poolBlock s.profile b = true →
      (((s.recordDurable (.blockState glun b 3 n)).lun glun).block b).state = .free) ∧
    (((s.lun glun).block b).state ≠ .pendingErase →
      (((s.recordDurable (.blockState glun b 3 n)).lun glun).block b).state = ((s.lun glun).block b).state) ∧
    (∀ x, x ≠ glun → (s.recordDurable (.blockState glun b 3 n)).lun x = s.lun x) ∧
    (s.recordDurable (.blockState glun b 3 n)).media = s.media) ∧
  (∀ (glun : Nat) (s : State) (w : DieWork), glun < 1024 → dieOver s glun w → w.kind = .erase →
    exec (.dieOperationEnd glun false 0 0) s = .next ((s.modLun glun fun l => { l with work := none }).eraseFailed glun w.block)) ∧
  (∀ (glun : Nat) (s : State) (w : DieWork), glun < 1024 → dieOver s glun w → (w.kind = .coarsePass ∨ w.kind = .finePass) →
    exec (.dieOperationEnd glun false 0 0) s = .next ((s.modLun glun fun l => { l with work := none }).programFailed glun w.block w.ref1)) ∧
  (∀ (n : Nat) (l : List PlanEntry), (∀ e ∈ (runEntries n l).1, n ≤ e.start ∧ e.start + e.cycles ≤ 2000) ∧ (∀ e ∈ (runEntries n l).2, e.start = 0) ∧
    ((runEntries n l).1 ++ (runEntries n l).2).map (fun e => (e.lun, e.kind, e.cycles)) = l.map (fun e => (e.lun, e.kind, e.cycles)))

/-- O15. A fault of a mast restarts it once and then fails it; a fault of a block that exists once is the device fault (R23, R33, R35,
R36, R37, R499, R501). Loss of lock, a missing heartbeat, a fabric protocol error and the watchdog of a mast core are faults of
that mast: an active mast with its restart unused becomes restarting and records the item and the frame, with the restart used; an active
mast with its restart used, and a restarting one, becomes failed. In each case it is fenced, its reservations and slots are gone and no
die operation of its LUNs goes on. A mast that start-up has powered and not yet tested becomes failed; a mast that is off has no fault. The watchdog of a central core, and an uncorrectable fault of a block that exists once, is the device
fault: it stops the device, every controller reports fatal status and the load is off; a working device begins the dump in the present
frame. VDDQF low, while it is powered, is a device fault too. -/
def Obligations.MastFaults : Prop :=
  (∀ (m : Nat) (s : State), m < 8 →
    exec (.mastPllLossOfLock m) s = .next (s.mastFault m 1) ∧ exec (.missingHeartbeat m) s = .next (s.mastFault m 2) ∧
    exec (.fabricProtocolError m) s = .next (s.mastFault m 4) ∧ exec (.watchdogExpiry .mastCore m) s = .next (s.mastFault m 5)) ∧
  (∀ (m item : Nat) (s : State), m < s.masts.length → (s.mast m).state = .active →
    ((s.mastFault m item).mast m).state = (if (s.mast m).restartUsed then .failed else .restarting) ∧
    ((s.mastFault m item).mast m).restartUsed = true ∧ ((s.mastFault m item).mast m).fenced = true ∧
    ((s.mastFault m item).mast m).faults = (s.mast m).faults + 1 ∧ ((s.mastFault m item).mast m).lastFault = item ∧
    ((s.mastFault m item).mast m).lastFaultFrame = s.clk.frame ∧
    ((s.mastFault m item).mast m).iv = [] ∧ ((s.mastFault m item).mast m).slots = [] ∧
    ((s.mast m).restartUsed = false → ((s.mastFault m item).mast m).restartFrame = some s.clk.frame) ∧
    (∀ l ∈ (s.mastFault m item).luns, mastOfLun l.glun = m → l.work = none)) ∧
  (∀ (m item : Nat) (s : State), m < s.masts.length → (s.mast m).state = .restarting →
    ((s.mastFault m item).mast m).state = .failed ∧ ((s.mastFault m item).mast m).restartFrame = none) ∧
  (∀ (m item : Nat) (s : State), m < s.masts.length → (s.mast m).state = .furled →
    (9 * m ∈ s.pwr.furled → s.mastFault m item = s) ∧ (9 * m ∉ s.pwr.furled → ((s.mastFault m item).mast m).state = .failed)) ∧
  (∀ s : State, exec .deviceFault s = .next s.deviceFault ∧ exec (.watchdogExpiry .centralCore 0) s = .next s.deviceFault ∧
    (s.start.vddqf = true → exec .vddqfLow s = .next s.deviceFault)) ∧
  (∀ s : State, s.deviceFault.start.fault = true ∧ s.deviceFault.nrg.huLoad = false ∧ s.deviceFault.ctrl1.cfs = true ∧
    (∀ f ∈ s.deviceFault.fns, f.ctrl.cfs = true ∧ f.ctrl.rdy = false) ∧
    (s.pwr.dev = .working → s.clk.dark = false → s.deviceFault.pwr.dev = .dumping ∧ s.deviceFault.pwr.dumpFrame = some s.clk.frame ∧
      s.deviceFault.pwr.rounds = 0 ∧ s.deviceFault.pwr.stopped = true) ∧
    s.deviceFault.media = s.media ∧ s.deviceFault.nss = s.nss ∧ s.deviceFault.keys = s.keys ∧ s.deviceFault.clk = s.clk)

/-- O16. The restart of a mast succeeds within 62,500 frames, or the mast is failed (R25, R36, R37, R296). A restart that completes by
frame f + 62,500 puts the mast in service again: powered, not fenced, with the slots that are Active or Limited loaded and event 592/2
raised. A step that fails, or the frame f + 62,500, makes it failed. A restart succeeds only once the DRAM and the SRAM of the mast have been
filled. -/
def Obligations.MastRestart : Prop :=
  (∀ (m f : Nat) (s : State), m < 8 → (s.mast m).state = .restarting → (s.mast m).restartFrame = some f → s.clk.frame ≤ f + 62500 →
    (s.mem m).filled = true → (s.mem (16 + m)).filled = true → exec (.mastRestartSuccess m) s = .next (((s.mastUp m).raise 592 2 0 [m, (s.mast m).lastFault]).retryReads fun _ b => b.phase == 0)) ∧
  (∀ (m : Nat) (s : State), m < s.masts.length →
    ((s.mastUp m).mast m).state = .active ∧ ((s.mastUp m).mast m).fenced = false ∧ ((s.mastUp m).mast m).slots = s.liveSlots ∧
    ((s.mastUp m).mast m).restartFrame = none ∧ (∀ d ∈ (s.mastUp m).pwr.furled, d ∉ mastDomains m) ∧ (9 * m + 8) ∉ (s.mastUp m).pwr.off) ∧
  (∀ (m f : Nat) (failed : Bool) (s : State), m < 8 → (s.mast m).state = .restarting → (s.mast m).restartFrame = some f →
    (failed = true ∨ f + 62500 ≤ s.clk.frame) →
    exec (.mastRestartTimeout m failed) s = .next (s.mastFailed m (s.mast m).lastFault)) ∧
  (∀ (m item : Nat) (s : State), m < s.masts.length → ((s.mastFailed m item).mast m).state = .failed ∧ ((s.mastFailed m item).mast m).restartFrame = none ∧
    ∀ d ∈ mastDomains m, d ∈ (s.mastFailed m item).pwr.furled) ∧
  (∀ (m : Nat) (s : State), m < 8 → ((s.mem m).filled = false ∨ (s.mem (16 + m)).filled = false) → exec (.mastRestartSuccess m) s = .next s)

/-- O17. Corrections, uncorrectable errors and the fill of the protected memories (R448, R449, R451, R452, R453, R454, R455). The first
correction of a word of a memory that is present is recorded with its frame and reported, at most once in 62,500 frames for each memory;
one of a table cache counts in its way. An uncorrectable error in an SRAM of a mast is a fault of that mast by item 3, in another SRAM a
device fault; in a DRAM it acts by what the word held, and its page is retired; what another memory holds is not touched. The fill in start-up leaves a memory with nothing recorded
but its retired banks, and the last memory ends stage 2. -/
def Obligations.MemoryProtection : Prop :=
  (∀ (i a : Nat) (s : State), memUnit i = true → i < 32 → s.memPresent i = true → (∀ x ∈ (s.mem i).corrected, x.1 ≠ a / wordBytes i) →
    exec (.correctableError i a) s = .next ((s.modMem i fun u => { u with
      corrected := u.corrected ++ [(a / wordBytes i, s.clk.frame)] }).reportCorrection i a)) ∧
  (∀ (i a : Nat) (s : State), s.clk.dark = false → (∀ f, (s.mem i).lastEvent = some f → f + 62500 ≤ s.clk.frame) →
    (s.reportCorrection i a).evt.raised = s.evt.raised ++ [{
      frame := s.clk.frame, source := memSource i, code := if isDram i then 2 else 1, severity := 0, fn := 0xFFFF, args := [a] }]) ∧
  (∀ (i a f : Nat) (s : State), (s.mem i).lastEvent = some f → s.clk.frame < f + 62500 → s.reportCorrection i a = s) ∧
  (∀ (i a : Nat) (s : State), 32 ≤ i → i < 40 → s.memPresent i = true →
    exec (.correctableError i a) s = .next ((s.modCache (i - 32) fun c =>
      c.corrected (setGroup (a % 4096)) (a / 4096 % 16) s.clk.frame).reportCorrection i a)) ∧
  (∀ (i a m : Nat) (h : MemHolds) (s : State), memUnit i = true → s.memPresent i = true → isDram i = false → memMast i = some m →
    exec (.uncorrectableError i a h) s = .next (s.mastFault m 3)) ∧
  (∀ (i a : Nat) (h : MemHolds) (s : State), memUnit i = true → s.memPresent i = true → isDram i = false → memMast i = none →
    exec (.uncorrectableError i a h) s = .next s.deviceFault) ∧
  (∀ (i a : Nat) (h : MemHolds) (s : State), i < 9 → s.memPresent i = true →
    (holdsIn s i h = true → exec (.uncorrectableError i a h) s = .next ((s.dramError h).retirePage i (a / 4096))) ∧
    (holdsIn s i h = false → exec (.uncorrectableError i a h) s = .next (s.retirePage i (a / 4096)))) ∧
  (∀ (i n l : Nat) (b : Stored) (s : State), s.block? n l = some b → holdsIn s i (.unit n l) = true → b.mast = i) ∧
  (∀ (i : Nat) (s : State), memUnit i = true → i < 32 → i < s.mems.length → s.memPresent i = true → isDram i = false →
    (s.inStage 1 = true ∨ s.inStage 2 = true) →
    Answers (exec (.memoryFill i []) s) fun t =>
      t.mem i = { retiredBanks := (s.mem i).retiredBanks, filled := true } ∧
      t.start.stage = (if t.fillList.all fun j => (t.mem j).filled then 3 else 2) ∧
      t.clk = s.clk ∧ t.media = s.media ∧ t.fuses = s.fuses)

/-- O18. Arrival of data, sealing, the digest tree, parking and the wait for energy (R118, R136, R137, R139, R150, R162, R267, R381, R401,
R405). An active mast seals its next settled unit with its cipher engine; the completion of an outstanding host-memory read delivers its
block with its protection information, whose guard and checked tags must match (R101), advances a walk, posts, or fails the access, and one for
no outstanding request is discarded and reported; the next leaf of the
tree is computed once its blocks are sealed; a zone that received nothing for the park delay is parked; a write held for energy or for the
lag of a mirror longer than the limit ends with Namespace Not Ready; a restored row gets its missing parity. -/
def Obligations.WriteDatapath : Prop :=
  (∀ (m r u : Nat) (g : Segment) (s : State), m < 8 → (s.mast m).state = .active → s.nextUnit m = some (g, r, u) →
    exec (.sealUnit m) s = .next (s.sealUnitAt m (s.sealer m) g r u)) ∧
  (∀ (q i : Nat) (d : Block) (gd : HostPi) (r : DmaReq) (c : Cmd) (s : State), s.io.reqs.find? (fun x => x.req == q) = some r →
    r.retiredUntil = none → r.what = .data i → s.cmd? r.cmd = some c →
    exec (.hostMemoryReadCompletion q .ok d gd) s = .next ((s.modIo fun h => { h with reqs := h.reqs.filter fun x => x.req != q }).dataArrived c i d gd)) ∧
  (∀ (q i : Nat) (d : Block) (gd : HostPi) (r : DmaReq) (s : State), s.io.reqs.find? (fun x => x.req == q) = some r →
    r.retiredUntil = none → r.what = .data i →
    exec (.hostMemoryReadCompletion q .timeout d gd) s = .next ((s.modIo fun h => { h with reqs := h.reqs.filter fun x => x.req != q }).dmaFailed r 1)) ∧
  (∀ (q : Nat) (e : DmaEnd) (d : Block) (gd : HostPi) (s : State), s.io.reqs.find? (fun x => x.req == q) = none →
    exec (.hostMemoryReadCompletion q e d gd) s = .next ((s.raise 482 3 2 [0, 0] 0).emit (.aerUnexpected 0))) ∧
  (∀ (n : Namespace) (k : WriteKind) (e : Extent) (i : Nat) (p : HostPi),
    (n.lbaf ≠ 1 ∨ e.pract = true → piFails n k e i p = none) ∧
    (n.lbaf = 1 → e.pract = false → p.guardOk = false → piFails n k e i p = some stGuard) ∧
    (n.lbaf = 1 → e.pract = false → p.guardOk = true → p.app = 0xFFFF → piFails n k e i p = none) ∧
    (n.lbaf = 1 → e.pract = false → p.guardOk = true → p.app ≠ 0xFFFF → e.prchkApp = true → p.app ≠ e.appTag → piFails n k e i p = some stAppTag)) ∧
  (∀ (n zi : Nat) (d : Digest) (s : State), ((s.zone n zi).state = .implicitOpen ∨ (s.zone n zi).state = .explicitOpen ∨ (s.zone n zi).state = .closed) →
    256 * ((s.zone n zi).leaves.length + 1) ≤ (s.zone n zi).wp → s.leafOf n zi (s.zone n zi).wp (s.zone n zi).leaves.length = some d →
    exec (.digestLeaf n zi) s = .next (s.modZone n zi fun z => { z with
      leaves := z.leaves ++ [d], stale := z.stale && decide ((s.zone n zi).leaves.length + 1 < leavesOf (s.zone n zi).wp) })) ∧
  (∀ (n zi : Nat) (s : State), s.pwr.dev = .working → (s.zone n zi).state.isOpen = true → (s.zone n zi).parked = false →
    (s.zone n zi).lastFrame + s.ctlValue ctlParkDelay ≤ s.clk.frame → exec (.parkDelay n zi) s = .next (s.park n zi)) ∧
  (∀ (id f : Nat) (c : Cmd) (s : State), s.cmd? id = some c → c.phase = .held → (c.cause = some .energy ∨ c.cause = some .mirror) →
    c.heldSince = some f → f + s.ctlValue ctlEnergyWait < s.clk.frame → exec (.energyWaitLimit id) s = .next (s.conclude id stNotReady)) ∧
  (∀ (q r : Nat) (g : Segment) (s : State), s.seg? q = some g → g.replace = false →
    (∃ b ∈ s.media.blocks, b.seg = q ∧ b.row = r ∧ b.place = .parked) →
    ∃ units : List Nat, exec (.restoredUnitCompletion q r) s = .next (s.modRow q r fun w => { w with
        sealedUnits := dedupN (w.sealedUnits ++ units), parity := w.parity || units.length == dataOf g.width }) ∧
      ∀ u, u ∈ units ↔ u < dataOf g.width ∧ s.unitSettled g r u = true ∧ ∀ b ∈ s.unitBlocks q r u, b.sealed = true)

/-- O19. The oldest staged record becomes durable, and a checkpoint follows 32 MiB of records (R115, R117, R156, R157, R158). When both
copies of the oldest staged record of a journal are programmed, in a page of each of its two log LUNs, the record leaves the staging, its bytes
count towards the checkpoint and what waits for it happens; in the journals of the masts no command waits. A journal with 32 MiB of records since its last checkpoint
writes one, with its end mark staged; one with less does not. -/
def Obligations.Journals : Prop :=
  (∀ (j : Nat) (r : JRec) (rest : List JRec) (s a : State), j < 8 → (s.journal j).staged = r :: rest → s.recordReady r = true →
    a = (s.modJournal j fun x => { x with staged := rest, bytes := x.bytes + s.recordSize r }) →
    exec (.journalRecordDurable j) s = .next ((a.logWear (a.journalPage j) j).recordDurable r)) ∧
  (∀ (r : JRec) (rest : List JRec) (s a : State), (s.journal 8).staged = r :: rest → s.recordReady r = true →
    a = (s.modJournal 8 fun x => { x with staged := rest, bytes := x.bytes + s.recordSize r }) →
    (∀ c ∈ ((a.logWear (a.journalPage 8) 8).recordDurable r).io.cmds, c.waitsFor = none) →
    exec (.journalRecordDurable 8) s = .next ((a.logWear (a.journalPage 8) 8).recordDurable r)) ∧
  (∀ (j : Nat) (s : State), j < 9 → (s.journal j).staged = [] → exec (.journalRecordDurable j) s = .next s) ∧
  (∀ (j : Nat) (s : State), j < 9 → j < s.media.journals.length → 33554432 ≤ (s.journal j).bytes →
    Answers (exec (.journalCheckpoint j) s) fun t =>
      (t.journal j).bytes = 0 ∧ (t.journal j).checkpoints = (s.journal j).checkpoints + 1 ∧
      (t.journal j).staged = (s.journal j).staged ++ [.checkpointEnd] ∧ (t.journal j).next = (s.journal j).next + 1 ∧
      (∀ i, i ≠ j → t.journal i = s.journal i) ∧ t.nss = s.nss ∧ t.luns = s.luns ∧ t.media.blocks = s.media.blocks) ∧
  (∀ (j : Nat) (s : State), j < 9 → (s.journal j).bytes < 33554432 → exec (.journalCheckpoint j) s = .next s)

/-- O20. Translation, the checks of a block that was read, the ladder, the rebuild and the release (R25, R36, R38, R88, R166, R168, R169, R171,
R172, R190, R196, R197). The home masts of a read return its translation while they are active. A block decoded well at its first step, with no
more corrected bits than the limit, is served, and only the tracked offsets of its erase block change besides; one that fails LDPC or
CRC-64 ends the target's part of its step; nothing is taken from an erased member or before the bursts have run; a step that failed is followed
by the next no earlier than the third frame after its last burst, with the reads of that step; with symbols enough and its checks right, a
rebuild serves the block, and with too few it does not; after step 5 the block is lost. A ready command delivers its data when it is released;
one whose completion time is not constant is not delayed. -/
def Obligations.ReadPath : Prop :=
  (∀ (id : Nat) (c : Cmd) (e : Extent) (s : State), s.cmd? id = some c → readExtent c.op = some e →
    (∀ m ∈ s.homesOf c.nsid e.slba e.nlb, (s.mast m).state = .active) →
    exec (.translation id) s = .next (s.modCmd id fun c => { c with translated := true })) ∧
  (∀ (id i bits : Nat) (refs : List (Nat × Nat)) (c : Cmd) (b : RBlock) (g : Segment) (m k : Nat) (s : State), s.cmd? id = some c →
    c.blocks[i]? = some b → c.phase = .running → b.phase = 0 → b.step = 1 → b.failedAt = 0 → b.tried = false → b.glun ∈ b.reads →
    b.arrived s.clk.frame = true → s.lunErased b.glun = false → s.memberAt b.nsid b.lba = some (g, m, k) →
    (bits ≤ s.profile.rewriteBits → exec (.readDecode id i (.ok bits refs)) s = .next ((s.memberTracked g m refs).serveAt c i b)) ∧
    (s.profile.rewriteBits < bits →
      exec (.readDecode id i (.ok bits refs)) s = .next (((s.memberTracked g m refs).candidate g.seq m).serveAt c i b)) ∧
    exec (.readDecode id i .ldpc) s = .next ((s.memberTracked g m []).setBlockAt id i RBlock.failTarget) ∧
    exec (.readDecode id i .crc) s = .next ((s.memberTracked g m []).setBlockAt id i RBlock.failTarget)) ∧
  (∀ b : RBlock, b.rebuilds = false → b.failTarget = { b with tried := true, failedAt := max 1 b.burst }) ∧
  (∀ (id i : Nat) (r : DecodeEnd) (c : Cmd) (b : RBlock) (s : State), s.cmd? id = some c → c.blocks[i]? = some b →
    (b.arrived s.clk.frame = false ∨ s.lunErased b.glun = true ∨ b.glun ∉ b.reads) → exec (.readDecode id i r) s = .next s) ∧
  (∀ (id i : Nat) (c : Cmd) (b : RBlock) (s : State), s.cmd? id = some c → c.blocks[i]? = some b → b.phase = 0 → b.failedAt ≠ 0 →
    s.clk.frame < b.failedAt + 3 → exec (.ladderStep id i) s = .next s) ∧
  (∀ (id i : Nat) (c : Cmd) (b : RBlock) (s : State), s.cmd? id = some c → c.blocks[i]? = some b → c.phase = .running → b.phase = 0 →
    b.failedAt ≠ 0 → b.failedAt + 3 ≤ s.clk.frame → 5 ≤ b.step → exec (.ladderStep id i) s = .next (s.unrecovered c i b)) ∧
  (∀ (id i m k n : Nat) (c : Cmd) (b : RBlock) (g : Segment) (x : Stored) (s : State), s.cmd? id = some c → c.blocks[i]? = some b → c.phase = .running →
    c.bounded = false → c.cls = .c → b.reserves = [] → b.phase = 0 → b.failedAt ≠ 0 → b.failedAt + 3 ≤ s.clk.frame → b.step < 5 →
    s.memberAt b.nsid b.lba = some (g, m, k) → s.block? b.nsid b.lba = some x → m ∉ s.rowErasures g x.row →
    n = (if b.step = 2 ∧ s.ctlValue ctlRetryDepth = 0 then 4 else b.step + 1) →
    Answers (exec (.ladderStep id i) s) fun t => t.clk = s.clk ∧ t.nss = s.nss ∧ t.keys = s.keys ∧ t.media.blocks = s.media.blocks ∧
      ∃ d, t.cmd? id = some d ∧ d.blocks[i]? = some (b.beginStep n s.clk.frame (s.stepReads g x.row m n b))) ∧
  (∀ (id i m k : Nat) (ms : List (Nat × DecodeEnd)) (c : Cmd) (b : RBlock) (g : Segment) (x : Stored) (s a : State), s.cmd? id = some c →
    c.blocks[i]? = some b → c.phase = .running → b.phase = 0 → b.failedAt = 0 → b.rebuilt = false → b.rebuilds = true →
    (c.bounded = false ∨ c.cls ≠ .a ∨ b.step ≠ 1 ∨ b.glun ∉ b.reads ∨ b.tried = true) → b.arrived s.clk.frame = true → s.opener b.glun ≠ none →
    s.memberAt b.nsid b.lba = some (g, m, k) → s.block? b.nsid b.lba = some x →
    a = each (ms.filter fun y => decide (y.1 < g.width) && y.1 != m && b.reads.contains (s.memberGlun g y.1))
      (fun s y => s.memberDecoded g y.1 (if b.step == 5 then 2 else 1) b.nsid b.lba y.2) s →
    (rebuildNeeds g c b ≤ (s.intactOf g x.row m b ms).length → exec (.rebuild id i ms .ok) s = .next (a.serveAt c i b) ∧
      exec (.rebuild id i ms .tag) s = .next (a.tagFailed c i b)) ∧
    ((s.intactOf g x.row m b ms).length < rebuildNeeds g c b → exec (.rebuild id i ms .ok) s = .next (a.setBlockAt id i fun y =>
      { y.failRebuild with got := s.intactOf g x.row m b ms, step := if ! c.bounded && y.step == 1 then 0 else y.step }))) ∧
  (∀ (g : Segment) (c : Cmd) (b : RBlock), dataOf g.width ≤ rebuildNeeds g c b ∧ rebuildNeeds g c b ≤ dataOf g.width + 1) ∧
  (∀ (id : Nat) (c : Cmd) (s : State), s.cmd? id = some c → c.phase = .ready → c.sq ≠ 0 → s.delays c = false →
    exec (.constantTimeRelease id) s = .next (s.deliver id (s.dataOfCmd c)))

/-- O21. The capacitance self-test, from its interval to its result (R148, R149, R151, R523). When the interval has passed on a ready
device and the energy test passes with the predicted voltage, the test starts: the load is on in the present frame. It is released t_test
frames later; 20 frames after the release the result comes from V1 and V2, a valid one becoming the measured capacitance; 62,500 frames
after an invalid result the test is made again, also while the capacitance is held at 0, with nothing dirty (the choice of the model, assumption
36); and the hardware releases the load 6,266 frames after its assertion with no valid result.
-/
def Obligations.HoldUpTest : Prop :=
  (∀ (v : Nat) (s : State), s.pwr.dev = .working → (∀ f, s.nrg.lastTest = some f → f + s.ctlValue ctlTestInterval ≤ s.clk.frame) →
    s.nrg.test = none → s.selfTestPasses (bankRaw s.record v) = true →
    exec (.selfTestInterval v) s = .next (s.modNrg fun n => { n with
      test := some (bankRaw s.record v, s.clk.frame), huLoad := true, lastTest := some s.clk.frame, released := none })) ∧
  (∀ (v f : Nat) (s : State), s.nrg.test = some (v, f) → s.nrg.huLoad = true → f + s.record.tTest ≤ s.clk.frame →
    exec .huLoadRelease s = .next (s.modNrg fun n => { n with huLoad := false, released := some s.clk.frame })) ∧
  (∀ (v1 v2 f g : Nat) (s : State), s.nrg.test = some (v1, f) → s.nrg.released = some g → g + 20 ≤ s.clk.frame →
    exec (.selfTestResult v2) s = .next ((s.endSelfTest (capacitanceResult s.record v1 (bankRaw s.record v2))).answerWaiting isSelfTest
      { status := 0, fields := [(s.endSelfTest (capacitanceResult s.record v1 (bankRaw s.record v2))).nrg.result] })) ∧
  (∀ (c : Nat) (s : State), s.record.cCfg ≤ 4 * c → 2 * c ≤ 3 * s.record.cCfg →
    (s.endSelfTest c).nrg.cMeas = c ∧ (s.endSelfTest c).nrg.invalid = 0 ∧ (s.endSelfTest c).nrg.heldZero = false ∧
    (s.endSelfTest c).nrg.test = none ∧ (s.endSelfTest c).nrg.huLoad = false) ∧
  (∀ (c : Nat) (s : State), (4 * c < s.record.cCfg ∨ 3 * s.record.cCfg < 2 * c) →
    (s.endSelfTest c).nrg.invalid = s.nrg.invalid + 1 ∧ (s.endSelfTest c).nrg.invalidFrame = some s.clk.frame ∧
    (s.endSelfTest c).nrg.cMeas = (if 2 ≤ s.nrg.invalid ∧ s.nrg.heldZero = false then 0 else s.nrg.cMeas)) ∧
  (∀ (v f : Nat) (s : State), s.nrg.invalidFrame = some f → s.pwr.dev = .working → f + 62500 ≤ s.clk.frame → s.nrg.test = none →
    (s.selfTestPasses (bankRaw s.record v) = true ∨ (s.nrg.heldZero = true ∧ s.dirty.all (· == 0) = true)) →
    exec (.selfTestRetry v) s = .next (s.modNrg fun n => { n with test := some (bankRaw s.record v, s.clk.frame), huLoad := true
                                                                  lastTest := some s.clk.frame, released := none, invalidFrame := none })) ∧
  (∀ (v f : Nat) (s : State), s.nrg.test = some (v, f) → s.nrg.huLoad = true → f + 6266 ≤ s.clk.frame →
    exec .huLoadHardwareRelease s = .next ((s.endSelfTest 0).answerWaiting isSelfTest { status := 0, fields := [0] }))

/-- O22. Power failure, low VIN, brown-out and the AON power-on reset (R27, R49, R152, R457, R490, R517, R521, R530). A low PWRFAIL# of
200 ns or more, and VIN low for 1 us, are latched, and one under 50 ns is not; a frame that reads the latch of a working device begins the
dump with the frame before as F, and a device in start-up is furled with nothing dumped. A brown-out leaves the device unpowered and dark;
of the state only flash, fuses and what the journals keep remain, with the second copies of map records of which one is durable (R163). The AON power-on reset puts the burnt fuses in effect and begins frame 0
of stage 1. (A low between 50 and 200 ns is latched or not by a free value.) -/
def Obligations.PowerLoss : Prop :=
  (∀ (ns : Nat) (s : State), 200 ≤ ns → s.pwr.dev ≠ .unpowered → exec (.pwrfail ns) s = .next (s.modPwr fun p => { p with pwrLatch := true })) ∧
  (∀ (ns : Nat) (s : State), ns < 50 → exec (.pwrfail ns) s = .next s) ∧
  (∀ (ns : Nat) (s : State), 50 ≤ ns → ns < 200 → s.pwr.dev ≠ .unpowered → ∃ b : Bool,
    exec (.pwrfail ns) s = .next (s.modPwr fun p => { p with pwrLatch := p.pwrLatch || b }).bump) ∧
  (∀ (ns : Nat) (s : State), 1000 ≤ ns → s.pwr.dev ≠ .unpowered → exec (.lowVin ns) s = .next (s.modPwr fun p => { p with pwrLatch := true })) ∧
  (∀ s : State, s.pwr.pwrLatch = true → s.start.deepWanted = false →
    (s.pwr.dev = .working → s.latchPower.pwr.dev = .dumping ∧ s.latchPower.pwr.dumpFrame = some (s.clk.frame - 1) ∧
      s.latchPower.pwr.pwrLatch = false ∧ s.latchPower.media = s.media) ∧
    (s.pwr.dev = .starting → s.latchPower.pwr.dev = .dumped ∧ s.latchPower.clk.dark = true ∧ s.latchPower.pwr.furled = switched)) ∧
  (∀ (ns : Nat) (s : State), 2000 ≤ ns → s.pwr.dev ≠ .unpowered →
    Answers (exec (.brownOut ns) s) fun t => t.pwr.dev = .unpowered ∧ t.clk.dark = true ∧ t.fuses = s.fuses ∧ t.obj.drive = s.obj.drive ∧
      t.obj.media = s.obj.media ∧ t.classes = s.classes ∧ t.pwr.furled = switched ∧ t.io.cmds = [] ∧ t.io.reqs = [] ∧
      (∀ l ∈ t.luns, l.work = none)) ∧
  (∀ (staged : List (List JRec)) (j : Nat) (r : JRec), r ∈ onceDurable staged j → r ∈ staged.getD j [] ∧ (j ≠ 8 → r ∉ staged.getD 8 []) ∧
    (j = 8 → ∀ i, i ≠ 8 → r ∉ staged.getD i [])) ∧
  (∀ (r : Nat) (s : State),
    Answers (exec (.aonPowerOnReset r) s) fun t => t.fuses = { s.fuses with
        makerKeyEff := s.fuses.makerKey, dual := s.fuses.hostPort, lockEff := s.fuses.lock } ∧
      t.jtag = {} ∧ t.side = {} ∧ t.clk.poc = s.clk.poc ∧ t.clk.frame = 0 ∧ t.clk.isSet = false ∧ t.start.stage = 1 ∧ t.pwr.dev = .starting ∧
      t.pwr.furled = [75, 76, 77] ∧ t.obj.drive = s.obj.drive ∧ t.obj.media = s.obj.media ∧ t.io.cmds = [] ∧
      ∀ m ∈ t.masts, m.state = .absent ∨ m.state = .furled) ∧
  (∀ o : Nat, vqselLevel o = if o ≤ 100 then some 600 else if 9900 ≤ o ∧ o ≤ 10100 then some 900 else if 1000000 < o then some 1200 else none)

/-- O23. The rounds of a dump, its end, and the restarts from the dumped state (R144, R152, R153, R154, R477, R497, R498, R500). From
frame F+2 a round makes the journal of the host complex durable, dumps from each mast as many blocks as its programs on the LUNs of the round
take, at most u[m] of them and none that works, and counts; when no pass runs and nothing is left, the final round leaves the device dumped. A dumped device without a
fault restarts at stage 2 when power is good, after a thermal dump only when 3,750,000 frames have passed and it was not the third; the
comparator of a powered input makes a working device begin a thermal dump in the present frame; the deep reset is wanted from the write of
0x4E564D65 on function 0. -/
def Obligations.Dumps : Prop :=
  (∀ (s a : State) (l : List Nat), s.pwr.dev = .dumping → s.pwr.dumpBegun = true → s.roundAt ≤ s.clk.frame → s.start.fault = false →
    a = (s.sealHeld (·.dirty)).flushJournal 8 (16 * sumOf id (s.sealHeld (·.dirty)).nrg.u) →
    l = (if a.mastIds.any fun m => ! (a.undumped m).isEmpty || ! (a.journal m).staged.isEmpty then a.roundLuns else []) →
    exec .dumpRound s = .next ((each a.mastIds (fun s m => s.dumpMast l m) a).modPwr fun p => { p with rounds := p.rounds + 1 })) ∧
  (∀ s : State, s.roundAt = s.pwr.dumpFrame.getD 0 + 2 + s.pwr.rounds * roundLen s.profile) ∧
  (∀ (s : State) (m : Nat), countIf (fun x => mastOfLun x == m) s.roundLuns ≤ s.nrg.u.getD m 0) ∧
  (∀ (s : State), ∀ x ∈ s.roundLuns, s.lunUsed x = true ∧ (s.lun x).work = none) ∧
  (∀ s : State, s.pwr.dev = .dumping → s.pwr.dumpBegun = true → s.roundAt ≤ s.clk.frame →
    s.passRuns = false → s.unsealedKept = false → (∀ m ∈ s.mastIds, s.undumped m = []) → s.start.nssrLatched = false → s.start.deepDump = false →
    Answers (exec .finalRound s) fun t => t.pwr.dev = .dumped ∧ t.clk.dark = true ∧ t.fuses = s.fuses ∧ t.pwr.furled = switched) ∧
  (∀ s : State, s.pwr.dev = .dumped → s.start.fault = false → s.pwr.thermalDump = false →
    exec .dumpRestart s = .next (s.restart s.start.deepDump false)) ∧
  (∀ s : State, s.pwr.dev = .dumped → s.start.fault = false → s.pwr.thermalDump = true → s.pwr.thermalDumps < 3 →
    exec .thermalDumpRestart s = .next (s.restart false false)) ∧
  (∀ s : State, s.pwr.dev = .dumped → 3 ≤ s.pwr.thermalDumps → exec .thermalDumpRestart s = .next s) ∧
  (∀ (deep wake : Bool) (s : State), (s.restart deep wake).start.stage = 2 ∧ (s.restart deep wake).pwr.dev = .starting ∧
    (s.restart deep wake).pwr.furled = [75, 76, 77] ∧ (s.restart deep wake).start.fault = (s.start.fault && !deep) ∧
    (s.restart deep wake).clk = s.clk ∧ (s.restart deep wake).media = s.media ∧ (s.restart deep wake).keys = s.keys) ∧
  (∀ (i : Nat) (s : State), 16 ≤ i → i ≤ 24 → s.clk.dark = false → s.inputOn i = true → s.pwr.dev = .working →
    exec (.thermalComparator i) s = .next (s.modPwr fun p => { p with
      thermalDump := true, dev := .dumping, dumpFrame := some s.clk.frame, dumpBegun := false, rounds := 0, stopped := true })) ∧
  (∀ s : State, (s.pwr.dev = .working ∨ s.pwr.dev = .starting) →
    exec (.nvmSubsystemReset 0 0x4E564D65) s = .next (s.modStart fun x => { x with deepWanted := true })) ∧
  (∀ (f : Nat) (v : Word) (s : State), f ≤ 128 → (f ≠ 0 ∨ v ≠ 0x4E564D65) → exec (.nvmSubsystemReset f v) s = .next s)

/-- O24. Patrol slices, the late lap, and the relocations of members, segments and regions, in the order of their ranks (R204, R205, R208, R209,
R211, R212, R213, R214, R217, R222). A slice due is that of the first item left of the lap, and it is counted. A lap older than its target is
late once, with event 595/3, and goes on at raised priority. A member due is rewritten to the free block of its LUN with the lowest erase count;
without a free block its segment becomes due for refresh. A segment due for refresh, or with a failed program once its retirement is durable,
is copied to a new segment. A region with few segments left, or with a score at the threshold, moves the valid blocks of the highest-scoring
segment, or releases it when none is valid. Each waits while work of a lower-numbered rank, or older work of its own rank, is due. -/
def Obligations.PatrolAndRelocation : Prop :=
  (∀ (r : SliceReport) (g : Segment) (s : State), s.media.patrol.running = true → s.lapLeft.head? = some r.seq →
    s.media.patrol.done < s.media.patrol.issued → s.pwr.dev = .working → s.seg? r.seq = some g →
    s.behind (if s.media.patrol.raised then rankRaised else rankPatrol) 0 = false →
    Answers (exec (.patrolSlice r) s) fun t => t.media.patrol.done = s.media.patrol.done + 1 ∧ t.media.patrol.lapStart = s.media.patrol.lapStart ∧
      t.clk = s.clk ∧ t.keys = s.keys ∧ t.io = s.io ∧ t.pwr = s.pwr) ∧
  (∀ s : State, s.media.patrol.running = true → s.media.patrol.late = false → s.media.patrol.lapStart + s.lapTarget ≤ s.clk.frame →
    exec .lateLap s = .next ((s.modMedia fun m => { m with patrol := { m.patrol with late := true, raised := true } }).raise 595 3 1 [])) ∧
  (∀ (seq q b : Nat) (g : Segment) (r : CopyReport) (s : State), s.seg? seq = some g → s.mayRewrite g q = true →
    s.behind (rewriteRank g q) seq = false → s.freeBlock (s.memberGlun g q) = some b →
    exec (.memberRewrite ⟨seq, r⟩ q) s = .next ((((s.modBlock (s.memberGlun g q) b fun e => { e with state := .allocated }).modSeg seq fun g => { g with
      moves := g.moves ++ [{ member := q, block := b }] }).log g.home (.allocation seq)).copyFound g r)) ∧
  (∀ (seq q : Nat) (g : Segment) (r : CopyReport) (s : State), s.seg? seq = some g → s.mayRewrite g q = true →
    s.behind (rewriteRank g q) seq = false → s.freeBlock (s.memberGlun g q) = none →
    exec (.memberRewrite ⟨seq, r⟩ q) s = .next (s.modSeg seq fun g => { g with refresh := true })) ∧
  (∀ (seq : Nat) (g : Segment) (r : CopyReport) (s : State), s.seg? seq = some g → s.mayRefresh g = true → s.behind (s.refreshRank g) seq = false →
    (∀ t, s.replaceSegment seq = some t → exec (.segmentRefresh ⟨seq, r⟩) s = .next (t.copyFound g r)) ∧
    (s.replaceSegment seq = none →
      exec (.segmentRefresh ⟨seq, r⟩) s = .next ((s.modSeg seq fun g => { g with triedLap := true }).raise (60 * g.home + 13) 1 1 [seq]))) ∧
  (∀ (seq : Nat) (g : Segment) (r : CopyReport) (s : State), s.seg? seq = some g → s.mayReplace g = true → s.behind rankReplace seq = false →
    (∀ t, s.replaceSegment seq = some t → exec (.programFailureReplacement ⟨seq, r⟩) s = .next (t.copyFound g r)) ∧
    (s.replaceSegment seq = none → exec (.programFailureReplacement ⟨seq, r⟩) s = .next (s.noSegment g))) ∧
  (∀ (nsid score : Nat) (n : Namespace) (g : Segment) (r : CopyReport) (s : State), s.ns? nsid = some n → n.conv = true → s.media.readPreserve = false →
    s.compactionPick n = some (g, score) → (n.csegsLeft ≤ 2 ∨ s.ctlValue ctlCompaction ≤ score) → s.behind (compactRank n) g.seq = false →
    (g.valid = 0 → exec (.compaction ⟨nsid, r⟩) s = .next ((s.releaseSegment g.seq).modNs nsid fun n => { n with csegsLeft := n.csegsLeft + 1 })) ∧
    (g.valid ≠ 0 → exec (.compaction ⟨nsid, r⟩) s = .next (each ((s.copyFound g r).media.blocks.filter fun b =>
      b.nsid == nsid && b.seg == g.seq && n.map.contains (b.lba, g.seq)) (fun s b => s.compactBlock nsid g.seq g.keyRef b) (s.copyFound g r)))) ∧
  (∀ (seq q : Nat) (g : Segment) (r : CopyReport) (s : State), s.seg? seq = some g →
    (s.behind (rewriteRank g q) seq = true → exec (.memberRewrite ⟨seq, r⟩ q) s = .next s) ∧
    (s.behind (s.refreshRank g) seq = true → exec (.segmentRefresh ⟨seq, r⟩) s = .next s) ∧
    (s.behind rankReplace seq = true → exec (.programFailureReplacement ⟨seq, r⟩) s = .next s)) ∧
  (∀ (rank seq : Nat) (g : Segment) (s : State), g ∈ s.media.segs → s.mayReplace g = true → s.chooseSet g.width ≠ none → rankReplace < rank →
    s.behind rank seq = true) ∧
  [rankReplace, rankRaised, rankRewrite, rankAge, rankPatrol, rankFixity, rankCompact, rankWear].Pairwise (· < ·)

/-- O25. Configuration requests, link states, PERST and the wake of the host (R388, R389, R422, R463, R468, R488, R497, R526). A
configuration request of an existing function is retried until stage 5 has completed and during a function-level reset, and then answered;
identifiers are those of R389. A link that reaches L0 ends arming and is reported below its full rate or width; one in L2/L3 Ready arms
crow's-nest mode under the control. PERST resets the port: no link, no rate, its mailboxes and rings reset, VF Enable cleared on port 0.
Its release, a beacon and a low WAKE# the device does not drive are wake sources 5, 4 and 3. -/
def Obligations.HostLinks : Prop :=
  (∀ (f o : Nat) (s : State), f ≤ 128 → s.clk.dark = false → 72 ∉ s.pwr.furled → (s.hostPort 0).perst = false →
    (s.configOpen f false = false → exec (.configurationRequest f false o) s = .next (s.emit (.config f true 0))) ∧
    (s.configOpen f false = true → exec (.configurationRequest f false o) s = .next (s.emit (.config f false (s.configRead f false o))).bump)) ∧
  (∀ (f : Nat) (p1 : Bool) (s : State), s.configRead f p1 0 = 0x1F5B + s.deviceId f p1 * 65536) ∧
  (∀ s : State, s.deviceId 0 false = (match s.variant with | .btk8208 => 0x8208 | .btk8416 => 0x8416 | .btk8832 => 0x8832) ∧
    s.deviceId 0 true = 0x88F1 ∧ ∀ f, f ≠ 0 → s.deviceId f false = 0x88F0) ∧
  (∀ (p r w : Nat) (s : State), p < 2 → s.clk.dark = false → (s.hostPort p).perst = false → p ∈ s.hostPorts → s.belowFull r w = false →
    exec (.hostLinkStateChange p .l0 r w) s = .next ((s.modHostPort p fun x => { x with link := .l0, rate := r, width := w }).modPwr fun q => { q with armed := none })) ∧
  (∀ (p r w : Nat) (s : State), p < 2 → s.clk.dark = false → (s.hostPort p).perst = false → p ∈ s.hostPorts → s.ctlValue ctlCrowOnL2 = 1 →
    s.pwr.armed = none →
    exec (.hostLinkStateChange p .l23 r w) s = .next ((s.modHostPort p fun x => { x with link := .l23, rate := r, width := w }).modPwr fun q =>
      { q with armed := some (s.ctlValue ctlSampling) })) ∧
  (∀ s : State, s.io.ports.length = 2 → s.clk.dark = false →
    Answers (exec (.perst 0) s) fun t => (t.hostPort 0).perst = true ∧ (t.hostPort 0).link = .noLink ∧ (t.hostPort 0).rate = 0 ∧
      t.io.vfEnable = false ∧ t.io.numVfs = 0 ∧ t.hostPort 1 = s.hostPort 1 ∧ t.clk = s.clk ∧ t.media = s.media ∧ t.keys = s.keys ∧ t.nss = s.nss) ∧
  (∀ s : State, (s.hostPort 0).perst = true → s.start.fault = false →
    exec (.perstRelease 0) s = .next (((s.modHostPort 0 fun p => { p with perst := false }).modPwr fun p => { p with wakeDriven := false }).wake 5)) ∧
  (∀ (p : Nat) (s : State), p < 2 → exec (.hostReceiverBeacon p) s = .next (s.wake 4)) ∧
  (∀ s : State, exec .wakePin s = .next (if s.pwr.wakeDriven = true then s else s.wake 3)) ∧
  (∀ (src : Nat) (s : State), (s.pwr.dev = .crowsNest ∨ s.pwr.dev = .poweredDown ∧ (src = 3 ∨ src = 4 ∨ src = 5 ∨ src = 9)) →
    (s.wake src).pwr.dev = .starting ∧ (s.wake src).start.stage = 2 ∧ (s.wake src).pwr.lastWake = src ∧
    (s.wake src).evt.later = s.evt.later ++ [{ frame := 0, source := 607, code := src, severity := 0 }])

/-- O26. Enabling and resetting a controller, and the end of the reset of an instance (R312, R322, R324, R326, R488, R497). CC.EN set on
an open function makes its admin queues stand, and RDY rises on a ready device; CC.EN clear, a function-level reset and the loss of a VF
queue a reset that begins at the next step 4, where an online instance becomes resetting with its cause. Work left when the drain limit
has passed is squashed; the reset is retired when no command, request or zeroing buffer of the instance is left. -/
def Obligations.Controllers : Prop :=
  (∀ (f : Nat) (s : State), f ≤ 128 → s.configOpen f false = true → (s.ctrl f false).ccEn = false → (s.fn f).queuedReset = none →
    (f = 0 ∨ (s.fn f).state = .online) →
    exec (.ccEnSet f false) s = .next (s.modCtrl f false fun c => { c with
      ccEn := true, rdy := s.ready && !c.cfs, shst := 0
      sqs := [{ qid := 0, size := 4096, cq := 0 }], cqs := [{ qid := 0, size := 4096, vector := 0 }] })) ∧
  (∀ (f : Nat) (s : State), f ≠ 0 → f ≤ 128 → s.configOpen f false = true → (s.ctrl f false).ccEn = true →
    exec (.ccEnClear f false) s = .next ((s.modCtrl f false fun c => { c with ccEn := false }).queueReset f .ccReset)) ∧
  (∀ (f : Nat) (s : State), f ≠ 0 → f ≤ 128 → s.configOpen f false = true →
    exec (.functionLevelReset f false) s = .next (s.queueReset f .flr)) ∧
  (∀ (f : Nat) (c : ResetCause) (s : State), f < s.fns.length → (s.fn f).queuedReset = none → ((s.queueReset f c).fn f).queuedReset = some c) ∧
  (∀ (f : Nat) (c : ResetCause) (s : State), f < s.fns.length → (s.fn f).fn = f → f ≠ 0 → (s.fn f).state = .online →
    ((s.beginReset f c).fn f).state = .resetting ∧ ((s.beginReset f c).fn f).resetCause = some c ∧
    ((s.beginReset f c).fn f).resetFrame = s.clk.frame ∧ ((s.beginReset f c).fn f).retired = false ∧
    (s.beginReset f c).clk = s.clk ∧ (s.beginReset f c).keys = s.keys) ∧
  (∀ (f : Nat) (s : State), f ≤ 128 → (s.fn f).state = .resetting → (s.fn f).draining = true → (s.fn f).resetFrame + s.ctlValue ctlDrainLimit f ≤ s.clk.frame →
    exec (.drainLimit f) s = .next ((s.modFn f fun x => { x with draining := false }).squash f false
      (resetStatus ((s.fn f).resetCause.getD .resetInstance)))) ∧
  (∀ (f : Nat) (s : State), f ≤ 128 → (s.fn f).state = .resetting → (∀ c ∈ s.io.cmds, c.fn ≠ f) → (∀ r ∈ s.io.reqs, r.fn = f → r.retiredUntil ≠ none) →
    (∀ b ∈ s.pool.bufs, b.fn = f → b.state ≠ .zeroing) → exec (.resetRetire f) s = .next (s.modFn f fun x => { x with retired := true })) ∧
  (∀ (n : Nat) (s : State), n ≤ 128 → (∀ f ∈ s.fns, f.fn ≠ 0 → n < f.fn → f.state = .offline ∧ f.expert = false) →
    exec (.vfEnableChange true n) s = .next (s.modIo fun h => { h with vfEnable := true, numVfs := n }))

/-- O27. Clearing VF Enable resets every instance that is not offline (R8, R309, R314). When VF Enable is cleared, every instance that is not
offline, or that has Expert enabled, has the reset of its loss queued, and the other functions that are offline, and function 0, have none queued
by it. -/
def Obligations.ClearVfs : Prop :=
  ∀ (n : Nat) (s : State), (∀ i, i < s.fns.length → (s.fn i).fn = i) →
    Answers (exec (.vfEnableChange false n) s) fun t => t.io.vfEnable = false ∧ t.fns.length = s.fns.length ∧ t.clk = s.clk ∧ t.media = s.media ∧
      (∀ i, i < s.fns.length → i ≠ 0 → ((s.fn i).state ≠ .offline ∨ (s.fn i).expert = true) → (t.fn i).queuedReset = some .vfGone) ∧
      (∀ i, i < s.fns.length → (i = 0 ∨ ((s.fn i).state = .offline ∧ (s.fn i).expert = false)) → t.fn i = s.fn i)

/-- O28. Doorbells and one turn of the fetch (R396, R405, R441). A valid tail ends a stall; a valid head frees the entries consumed; a
doorbell of a queue that does not stand, and a value outside the queue, raise an asynchronous event and change no queue (their numbers are
NVMe's, assumption 8). A turn of the fetch takes entries of the queue whose turn it is, up to the arbitration burst; a read of the queue
that fails stalls it. -/
def Obligations.Doorbells : Prop :=
  (∀ (f q t : Nat) (x : Sq) (s : State), f ≤ 128 → s.configOpen f false = true → (s.ctrl f false).ccEn = true →
    (s.ctrl f false).sqs.find? (fun y => y.qid == q) = some x → t < x.size →
    exec (.sqTailDoorbell f false q t) s = .next (s.modCtrl f false fun c => { c with
      sqs := updIf (fun y => y.qid == q) (fun y => { y with tail := t, stalled := false }) c.sqs })) ∧
  (∀ (f q t : Nat) (x : Sq) (s : State), f ≤ 128 → s.configOpen f false = true → (s.ctrl f false).ccEn = true →
    (s.ctrl f false).sqs.find? (fun y => y.qid == q) = some x → x.size ≤ t →
    exec (.sqTailDoorbell f false q t) s = .next (s.asyncEvent f false 0x010100)) ∧
  (∀ (f q h : Nat) (x : Cq) (s : State), f ≤ 128 → s.configOpen f false = true → (s.ctrl f false).ccEn = true →
    (s.ctrl f false).cqs.find? (fun y => y.qid == q) = some x → h < x.size → (h + x.size - x.head) % max 1 x.size ≤ x.entries.length →
    exec (.cqHeadDoorbell f false q h) s = .next (s.modCtrl f false fun c => { c with
      cqs := updIf (fun y => y.qid == q) (fun y => { y with head := h, entries := y.entries.drop ((h + x.size - x.head) % max 1 x.size) }) c.cqs })) ∧
  (∀ (f q h : Nat) (s : State), f ≤ 128 → s.configOpen f false = true → (s.ctrl f false).ccEn = true →
    (s.ctrl f false).cqs.find? (fun y => y.qid == q) = none → exec (.cqHeadDoorbell f false q h) s = .next (s.asyncEvent f false 0x010000)) ∧
  (∀ (f q : Nat) (p1 : Bool) (s : State), s.fetchTurn = some (f, q, p1) →
    exec (.commandFetch .ok) s = .next (State.fetchFrom (min 128 (s.ctrl f p1).burst) f q p1 s)) ∧
  (∀ (f q : Nat) (p1 : Bool) (s : State), s.fetchTurn = some (f, q, p1) →
    exec (.commandFetch .timeout) s = .next (s.dmaFailed { req := 0, fn := f, port1 := p1, what := .sqFetch q, issued := s.clk.frame } 1)) ∧
  (∀ (f q code : Nat) (s : State), f ≠ 0 → f < s.fns.length →
    ∀ x ∈ ((s.dmaFailed { req := 0, fn := f, port1 := false, what := .sqFetch q, issued := s.clk.frame } code).ctrl f false).sqs,
      x.qid = q → x.stalled = true)

/-- O29. Outstanding requests, pauses and interrupts (R398, R403, R404, R405, R406, R407). A request that has waited for the device
timeout is retired for twice that time and its access fails, at resume where its function is paused; a retired tag returns to use when
that time has passed. A read-back that ends well posts its command. Clearing the bus master enable pauses the function; setting it again
lets it go on; PME_Turn_Off pauses every function of the port, and the acknowledgement follows when all are drained. Unmasking a vector
sends its message if one is pending; the coalescing time of a vector sends its message when it has elapsed. -/
def Obligations.Requests : Prop :=
  (∀ (q : Nat) (r : DmaReq) (s : State), s.io.reqs.find? (fun x => x.req == q) = some r → r.retiredUntil = none → r.port1 = false →
    r.issued + timeoutOf (s.hostPort 0).cto ≤ s.clk.frame → s.paused r.fn false = false →
    exec (.completionTimeout q) s = .next ((s.modIo fun h => { h with reqs := updIf (fun x => x.req == q) (fun x => { x with
      retiredUntil := some (s.clk.frame + 2 * timeoutOf (s.hostPort 0).cto), what := .dropped, cmd := 0 }) h.reqs }).dmaFailed r 1)) ∧
  (∀ (q : Nat) (r : DmaReq) (s : State), s.io.reqs.find? (fun x => x.req == q) = some r → r.retiredUntil = none → r.port1 = false →
    r.issued + timeoutOf (s.hostPort 0).cto ≤ s.clk.frame → s.paused r.fn false = true →
    exec (.completionTimeout q) s = .next (s.modIo fun h => { h with reqs := updIf (fun x => x.req == q) (fun x => { x with
      retiredUntil := some (s.clk.frame + 2 * timeoutOf (s.hostPort 0).cto), expired := true }) h.reqs })) ∧
  (∀ (q : Nat) (s : State), Answers (exec (.timedOutTagReuse q) s) fun t =>
    (∀ r, r ∈ t.io.reqs ↔ r ∈ s.io.reqs ∧ ¬(r.req = q ∧ r.expired = false ∧ ∃ f, r.retiredUntil = some f ∧ f ≤ s.clk.frame)) ∧
    t.io.cmds = s.io.cmds ∧ t.fns = s.fns ∧ t.clk = s.clk ∧ t.media = s.media ∧ t.evt = s.evt) ∧
  (∀ (q : Nat) (r : DmaReq) (c : Cmd) (s : State), s.io.reqs.find? (fun x => x.req == q) = some r → r.what = .readBack → r.retiredUntil = none →
    s.cmd? r.cmd = some c →
    exec (.readBack q .ok) s = .next ((s.modIo fun h => { h with reqs := h.reqs.filter fun x => x.req != q }).tryPost c.id)) ∧
  (∀ (f : Nat) (s : State), f ≤ 128 → s.configOpen f false = true →
    exec (.busMasterEnableClear f false) s = .next (s.modCtrl f false fun c => { c with pBme := true }) ∧
    ((s.ctrl f false).pBme = true →
      exec (.busMasterEnableSet f false) s = .next ((s.modCtrl f false fun c => { c with pBme := false }).resumeFn f false))) ∧
  (∀ (p : Nat) (s : State), p < 2 → s.clk.dark = false → (s.hostPort p).perst = false → p ∈ s.hostPorts →
    exec (.pmeTurnOff p) s = .next ((each (portFns p) (fun s x => s.modCtrl x.1 x.2 fun c => { c with pPme := true })
      (s.modHostPort p fun x => { x with pmeOff := true })).ackPme p)) ∧
  (∀ (f : Nat) (p1 : Bool) (s : State), f ≤ 128 → (p1 = true → f = 0) → s.drained f p1 = true →
    exec (.pauseDrained f p1) s = .next (s.ackPme (if p1 then 1 else 0))) ∧
  (∀ (p : Nat) (s : State), (s.hostPort p).pmeOff = true → (s.hostPort p).acked = false → (∀ x ∈ portFns p, s.drained x.1 x.2 = true) →
    s.ackPme p = (s.modHostPort p fun x => { x with acked := true }).emit (.pmeToAck p)) ∧
  (∀ (f v frame : Nat) (s : State), f ≤ 128 → (v, frame) ∈ (s.ctrl f false).coalesce → frame ≤ s.clk.frame →
    exec (.interruptCoalescing f false v) s = .next
      ((s.modCtrl f false fun c => { c with coalesce := c.coalesce.filter fun x => x.1 != v }).interrupt f false v)) ∧
  (∀ (f v : Nat) (s : State), f ≤ 128 → s.barOpen f false = true →
    exec (.msixUnmask f false v true) s = .next (s.modCtrl f false fun c => { c with masked := dedupN (c.masked ++ [v]) }) ∧
    (v ∉ (s.ctrl f false).pba → f ≠ 0 → f < s.fns.length →
      exec (.msixUnmask f false v false) s = .next (s.modCtrl f false fun c => { c with masked := c.masked.filter fun x => x != v })))

/-- O30. Drains, reservations, reseeds, cipher faults and consents of the key store (R25, R290, R295, R300, R303, R307, R366). A Draining slot
that nothing refers to any more takes its new key or is Empty. A mast that has used three quarters of its reservation of a known,
unlimited key reference is granted the next 2^20 counter values, cut at the limit, by a record in the journal of the host complex. The
generator is reseeded after 2^20 requests, the count starting again. A fault of an active mast's cipher is one of sealing or of opening,
the latter only of the block that its engine opens. A consent lapses after 62,500 frames, unless a running job sends its key reference. -/
def Obligations.KeyStore : Prop :=
  (∀ (n : Nat) (s : State), (s.slot n).state = .draining → s.refCount n = 0 →
    exec (.drainEnd n) s = .next ((s.endDrain n).log 8 (.setting 0x00F00001 n (s.slot n).generation)) ∧
    ((s.slot n).newKey = none → ((s.endDrain n).slot n).state = .empty ∧ ((s.endDrain n).slot n).key = 0) ∧
    (∀ k, (s.slot n).newKey = some k → ((s.endDrain n).slot n).key = k ∧ ((s.endDrain n).slot n).keyRef = (s.slot n).newRef ∧
      ((s.endDrain n).slot n).newKey = none)) ∧
  (∀ (m ref : Nat) (s : State), m < 8 → (s.mast m).state = .active → s.keys.register.any (fun e => e.number == ref) = true → ref ≠ 0 →
    (∀ a b, JRec.reservation 3 ref m a b ∉ (s.journal 8).staged) → (s.mast m).iv = [] → (s.keyRef ref).high < (s.keyRef ref).limit →
    s.refLimited ref = false →
    exec (.counterReservation m ref) s = .next (((s.modKeyRef ref fun k => { k with high := min ((s.keyRef ref).high + 2 ^ 20) (s.keyRef ref).limit }).log 8
      (.reservation 3 ref m (s.keyRef ref).high (min ((s.keyRef ref).high + 2 ^ 20) (s.keyRef ref).limit))).limitSlots)) ∧
  (∀ s : State, 1048576 ≤ s.keys.requests →
    exec .drbgReseed s = .next (s.modKeys fun k => { k with requests := 0, reseeds := k.reseeds + 1 })) ∧
  (∀ s : State, s.keys.requests < 1048576 → exec .drbgReseed s = .next s) ∧
  (∀ (m item i : Nat) (s : State), m < 8 → (s.mast m).state = .active →
    exec (.cipherFault m true item i) s = .next (s.openFault m item i) ∧ exec (.cipherFault m false item i) s = .next (s.sealFault m i)) ∧
  (∀ (m id i : Nat) (c : Cmd) (b : RBlock) (s : State), s.cmd? id = some c → c.blocks[i]? = some b → c.phase = .running → b.phase = 0 → b.cipher = 0 →
    s.opener b.glun = some m → ∃ slot, s.openFault m id i = (((s.modMast m fun k => { k with cipherFaults := k.cipherFaults + 1 }).raise (60 * m + 16) 2 2 [slot]).setBlockAt id i
      fun x => { x with cipher := 1 })) ∧
  (∀ (m id i : Nat) (c : Cmd) (b : RBlock) (s : State), s.cmd? id = some c → c.blocks[i]? = some b → s.opener b.glun ≠ some m → s.openFault m id i = s) ∧
  (∀ (n : Nat) (s : State), s.peer.jobs = [] → Answers (exec (.exportConsentLapse n) s) fun t =>
    (∀ e, e ∈ t.keys.exports ↔ e ∈ s.keys.exports ∧ ¬(e.1 = n ∧ e.2.2 + 62500 ≤ s.clk.frame)) ∧
    t.keys.slots = s.keys.slots ∧ t.clk = s.clk ∧ t.media = s.media ∧ t.peer = s.peer)

/-- O31. The end of a fixity job, and the end of its result (R268, R271, R272, R273, R277, R282). The end of a tree check enters its
result for the zone and keeps the leaves that did not match; a job whose zone has been reset since it started fails with status 0x0204; a
key binding whose signer is gone fails with 0x0201. A job that ends records its end frame and raises event 486/1. A result is dropped 2^26
frames after the end of its job. -/
def Obligations.FixityJobs : Prop :=
  (∀ (n : Nat) (mm lost bad : List Nat) (ok ch : Bool) (j : FixJob) (s : State), s.fix.jobs.find? (fun j => j.job == n && !j.ended) = some j →
    j.kind = .treeCheck → s.jobChanged j = none →
    exec (.fixityJobEnd n mm lost bad ok ch) s = .next ((s.treeResult j.nsid j.zone mm lost ok).closeJob n fun j => { j with mismatched := mm })) ∧
  (∀ (n zi : Nat) (mm lost bad : List Nat) (ok ch : Bool) (j : FixJob) (s : State), s.fix.jobs.find? (fun j => j.job == n && !j.ended) = some j →
    (j.kind = .treeCheck ∨ j.kind = .zoneAttestation) → s.jobChanged j = some zi →
    exec (.fixityJobEnd n mm lost bad ok ch) s = .next (s.closeJob n fun j => j.failed 0x0204 zi)) ∧
  (∀ (n : Nat) (mm lost bad : List Nat) (ok ch : Bool) (j : FixJob) (s : State), s.fix.jobs.find? (fun j => j.job == n && !j.ended) = some j →
    (j.kind = .rangeDigest ∨ j.kind = .rangeAttestation) → exec (.fixityJobEnd n mm lost bad ok ch) s = .next (s.endRange j lost bad ch)) ∧
  (∀ (n : Nat) (mm lost bad : List Nat) (ok ch : Bool) (j : FixJob) (s : State), s.fix.jobs.find? (fun j => j.job == n && !j.ended) = some j →
    j.kind = .keyBinding → s.signer 2 j.signSlot = none →
    exec (.fixityJobEnd n mm lost bad ok ch) s = .next (s.closeJob n fun j => j.failed 0x0201 j.signSlot)) ∧
  (∀ (n : Nat) (f : FixJob → FixJob) (j : FixJob) (s : State), s.fix.jobs.find? (fun j => j.job == n && !j.ended) = some j →
    s.closeJob n f = (s.modFix fun x => { x with jobs := updIf (fun y => y.job == n) (fun _ => { f j with ended := true, endFrame := s.clk.frame }) x.jobs }).raise
      486 1 0 [n, (f j).status] j.fn) ∧
  (∀ (n : Nat) (s : State), Answers (exec (.fixityResultExpiry n) s) fun t =>
    (∀ j, j ∈ t.fix.jobs ↔ j ∈ s.fix.jobs ∧ ¬(j.job = n ∧ j.ended = true ∧ j.endFrame + 67108864 ≤ s.clk.frame)) ∧
    t.clk = s.clk ∧ t.nss = s.nss ∧ t.keys = s.keys ∧ t.media = s.media)

/-- O32. The registers of the event rings (R425, R426, R428, R539, R540). RCTL that enables a ring makes it empty with its indices 0 and
its first phase 1, and writes what is pending; RCTL that disables it keeps its place; a size above 8, a vector beyond the allocation, or a
change of size while enabled is ignored and sets the ring-write bit. The base is written while the ring is disabled, bits 11:0 reserved;
the head frees what the host has consumed; RSTS clears where 1 is written; when space has returned the summaries and staged records are
written. -/
def Obligations.RingRegisters : Prop :=
  (∀ (f r sz sv v : Nat) (s : State), f ≤ 128 → r < 2 → s.hasRing f r = true → sz ≤ 8 → v < s.vectors f (s.ringPort1 f r) → (s.ring f r).enabled = false →
    exec (.ringEnable f r sz sv v) s = .next ((s.modRing f r fun _ => { s.ring f r with
      sizeCode := sz, severity := sv % 4, vector := v, enabled := true, head := 0, tail := 0, phase := true, records := [] }).flushRing f r)) ∧
  (∀ (f r sz sv v : Nat) (s : State), f ≤ 128 → r < 2 → s.hasRing f r = true → (8 < sz ∨ s.vectors f (s.ringPort1 f r) ≤ v ∨
      (s.ring f r).enabled = true ∧ sz ≠ (s.ring f r).sizeCode) →
    exec (.ringEnable f r sz sv v) s = .next (s.ringIgnored f r) ∧ exec (.ringDisable f r sz sv v) s = .next (s.ringIgnored f r)) ∧
  (∀ (f r sz sv v : Nat) (s : State), f ≤ 128 → r < 2 → s.hasRing f r = true → sz ≤ 8 → v < s.vectors f (s.ringPort1 f r) →
    ((s.ring f r).enabled = true → sz = (s.ring f r).sizeCode) →
    exec (.ringDisable f r sz sv v) s = .next (s.modRing f r fun _ => { s.ring f r with sizeCode := sz, severity := sv % 4, vector := v, enabled := false })) ∧
  (∀ (f r : Nat) (w : Word) (s : State), f ≤ 128 → r < 2 → s.hasRing f r = true → (s.ring f r).enabled = false →
    exec (.rbaseWrite f r false w) s = .next (s.modRing f r fun x => { x with baseLo := w &&& 0xFFFFF000 }) ∧
    exec (.rbaseWrite f r true w) s = .next (s.modRing f r fun x => { x with baseHi := w })) ∧
  (∀ (f r h : Nat) (s : State), f ≤ 128 → r < 2 → s.hasRing f r = true → h < 128 * 2 ^ (s.ring f r).sizeCode →
    exec (.rheadWrite f r h) s = .next (s.modRing f r fun x => { x with
      head := h, records := x.records.drop ((h + x.size - x.head) % x.size) })) ∧
  (∀ (f r : Nat) (w : Word) (s : State), f ≤ 128 → r < 2 → s.hasRing f r = true →
    exec (.rstsClear f r w) s = .next (s.modRing f r fun x => { x with
      overflow := x.overflow && !bit w.toNat 0, failedWrite := x.failedWrite && !bit w.toNat 1 })) ∧
  (∀ (f r : Nat) (s : State), f ≤ 128 → r < 2 → s.clk.dark = false → exec (.summaryRecord f r) s = .next (s.flushRing f r))

/-- O33. The accesses to the register page of a window (R390, R411, R533, R534, R537, R538, R541, R542). An aligned 32-bit read of
FRAME_LO, MARK_FLO or UTC_LO latches the rest of the value and returns the register; a 64-bit one returns both halves. One of another size
or alignment latches nothing and sets the access-size bit. GSTS clears where 1 is written. A doorbell write clears DONE and GO-while-busy
where 1 is written, takes the interrupt enable and the vector, and GO while BUSY sets GO-while-busy; DONE_CLEAR starts the command whose
GO it carries (as DONE is cleared by it). A write to an Expert field without Expert sets the Expert bit; a write to a read-only or
unimplemented register changes nothing. -/
def Obligations.WindowAccesses : Prop :=
  (∀ (f : Nat) (s : State), f ≤ 128 → s.barOpen f false = true →
    exec (.frameLoRead f false 32) s = .next ((s.modCtrl f false (Ctrl.latchFrame s.clk)).emit
      (.regRead f 0x100 ((s.modCtrl f false (Ctrl.latchFrame s.clk)).reg f false 0x100).toNat)) ∧
    exec (.markFloRead f false 32) s = .next ((s.modCtrl f false (Ctrl.latchMark s.clk)).emit
      (.regRead f 0x110 ((s.modCtrl f false (Ctrl.latchMark s.clk)).reg f false 0x110).toNat)) ∧
    exec (.utcLoRead f false 32) s = .next ((s.modCtrl f false (Ctrl.latchUtc s.clk)).emit
      (.regRead f 0x120 ((s.modCtrl f false (Ctrl.latchUtc s.clk)).reg f false 0x120).toNat))) ∧
  (∀ (f b : Nat) (s : State), f ≤ 128 → s.barOpen f false = true → b ≠ 32 → b ≠ 64 →
    Answers (exec (.frameLoRead f false b) s) fun t => (t.ctrl f false).frameHi = (s.ctrl f false).frameHi ∧ t.clk = s.clk ∧ t.media = s.media ∧
      (f < s.fns.length → f ≠ 0 → (t.ctrl f false).gstsSize = true)) ∧
  (∀ (f : Nat) (w : Word) (s : State), f ≤ 128 → s.barOpen f false = true →
    exec (.gstsClear f false w) s = .next (s.modCtrl f false fun c => { c with gstsExpert := c.gstsExpert && !bit w.toNat 0
                                                                               gstsSize := c.gstsSize && !bit w.toNat 1
                                                                               gstsRing := c.gstsRing && !bit w.toNat 2 })) ∧
  (∀ (f mb : Nat) (w : Word) (s : State), f ≤ 128 → mb < 4 → s.barOpen f false = true → s.hasBox f false mb = true →
    exec (.registerWrite f false (0x300 + 16 * mb) 32 w) s = .next (s.modMbxAt (.bar f mb) (Mbx.writeDoorbell w.toNat))) ∧
  (∀ (w : Nat) (b : Mbx), (b.writeDoorbell w).done = (b.done && !bit w 2) ∧ (b.writeDoorbell w).busy = b.busy ∧
    (b.writeDoorbell w).intEn = bit w 4 ∧ (b.writeDoorbell w).vector = w / 256 % 512 ∧
    (bit w 0 = true → b.busy = true → (b.writeDoorbell w).goWhileBusy = true)) ∧
  (∀ (o : Nat) (w : Word) (s : State), s.barOpen 0 false = true → o < 0x1000 → o % 4 = 0 → 0x400 ≤ o → expertReg o = true → (s.fn 0).expert = false →
    exec (.registerWrite 0 false o 32 w) s = .next (s.modCtrl 0 false fun c => { c with gstsExpert := true })) ∧
  (∀ (f o : Nat) (w : Word) (s : State), f ≤ 128 → s.barOpen f false = true → o < 0x1000 → o % 4 ≠ 0 →
    exec (.registerWrite f false o 32 w) s = .next (s.badAccess f false)) ∧
  (∀ (f o : Nat) (w : Word) (s : State), f ≤ 128 → s.barOpen f false = true → (o = 0 ∨ o = 4 ∨ o = 8 ∨ o = 0x100) →
    (f ≠ 0 ∨ expertReg o = false) → exec (.registerWrite f false o 32 w) s = .next s)

/-- O34. The instructions of the JTAG port (R484, R529, R530, R531). With VIN present every instruction is loaded and shifts its data
register out: IDCODE gives the identifier of the variant, BYPASS and unlisted codes one zero bit, FUSE_READ the four status bits and the
selected field; SAMPLE/PRELOAD takes the boundary value (the pins shifted out are a free value); FUSE_SELECT and FUSE_DATA load their
registers; Test-Logic-Reset selects IDCODE and releases the pins. EXTEST, its pulse and train forms, CLAMP and HIGHZ take the pins; once a
core has been released they stop the device, as a device fault does, until a power cycle. -/
def Obligations.JtagPort : Prop :=
  ∀ s : State, s.pwr.dev ≠ .unpowered →
    exec .testLogicReset s = .next (s.modJtag fun j => { j with ir := 1, dr := idcodeOf s.variant, pinsTaken := false }) ∧
    exec .idcode s = .next ((s.modJtag fun j => { j with ir := 1, dr := idcodeOf s.variant }).emit (.tdo (idcodeOf s.variant))) ∧
    (∀ code, exec (.bypass code) s = .next ((s.modJtag fun j => { j with ir := code, dr := 0 }).emit (.tdo 0))) ∧
    (∀ b, Answers (exec (.samplePreload b) s) fun t => t.jtag.ir = 2 ∧ t.jtag.boundary = b ∧ t.jtag.pinsTaken = s.jtag.pinsTaken ∧
      t.fuses = s.fuses ∧ t.start = s.start ∧ t.pwr = s.pwr) ∧
    (∀ n, exec (.fuseSelect n) s = .next (s.modJtag fun j => { j with ir := 0x40, select := n % 16 })) ∧
    (∀ v, exec (.fuseData v) s = .next (s.modJtag fun j => { j with ir := 0x41, data := v })) ∧
    (∃ v, exec .fuseRead s = .next ((s.modJtag fun j => { j with ir := 0x43, dr := v }).emit (.tdo v)) ∧
      v % 2 = (if s.jtag.burnt then 1 else 0) ∧ v / 2 % 2 = (if s.fuses.field s.jtag.select = 0 then 0 else 1) ∧
      v / 4 % 2 = (if s.fuses.lock then 1 else 0) ∧ v / 8 % 2 = (if s.jtag.vinLow then 1 else 0)) ∧
    exec .extest s = .next (s.takePins 3) ∧ exec .extestPulse s = .next (s.takePins 4) ∧ exec .extestTrain s = .next (s.takePins 5) ∧
    exec .clamp s = .next (s.takePins 6) ∧ exec .highz s = .next (s.takePins 7) ∧
    (∀ ir, (s.takePins ir).jtag.pinsTaken = true ∧ (s.takePins ir).jtag.ir = ir ∧ (s.takePins ir).fuses = s.fuses ∧
      (s.start.released = true → (s.takePins ir).start.untilPowerCycle = true ∧ (s.takePins ir).start.fault = true) ∧
      (s.start.released = false → (s.takePins ir).start = s.start ∧ (s.takePins ir).pwr = s.pwr))

/-- O35. The dynamic address of the sideband, and the two LEDs (R468, R527, R528). A dynamic address is taken while VIN is present, RSTDAA
returns to the static one, and a private transfer to a dynamic address is wake source 9. LED0 is dark until ready, lit while nothing is
outstanding, and blinks at 8 Hz otherwise; LED1 is lit for a device fault or the dumped state before any other condition. -/
def Obligations.SidebandAndLeds : Prop :=
  (∀ (a : Nat) (s : State), s.pwr.dev ≠ .unpowered →
    exec (.dynamicAddressAssignment a) s = .next (s.modSide fun x => { x with dynamic := some a }) ∧
    exec .rstdaa s = .next (s.modSide fun x => { x with dynamic := none })) ∧
  (∀ (a : Nat) (s : State), s.side.dynamic = some a → exec .i3cPrivateTransfer s = .next (s.wake 9)) ∧
  (∀ s : State, s.side.dynamic = none → exec .i3cPrivateTransfer s = .next s) ∧
  (∀ s : State, (s.pwr.dev ≠ .working → s.led0 = .dark) ∧ (s.pwr.dev = .working → s.io.cmds = [] → s.io.submitted = [] → s.led0 = .lit) ∧
    (s.pwr.dev = .working → s.io.cmds ≠ [] → s.led0 = .blink 62 125) ∧
    ((s.start.fault = true ∨ s.pwr.dev = .dumped) → s.led1 = .lit) ∧
    (s.start.fault = false → s.pwr.dev ≠ .dumped → s.media.readPreserve = true → s.led1 = .blink 500 1000))

/-- O36. The life of a buffer of the pool (R431, R432, R435, R436, R437, R438). A free buffer of a class with room for the request is held by
its requester; without room the request waits. A held buffer is shared with a further engine up to four; a drop removes one holder, and the
last one sends the buffer to zeroing. A share or a drop that is not allowed changes no buffer, is counted for its requester and raises
487/4. A zeroed buffer is free, or taken by the first waiting request whose class has room. -/
def Obligations.BufferPool : Prop :=
  (∀ (n e f item : Nat) (c : BufClass) (s : State), n < 1835008 → n < poolSize s.variant → e < 17 → (s.pool.buf n).state = .free →
    (s.grantRoom c f = true → Answers (exec (.bufferAllocate n c f e item) s) fun t =>
      t.pool.buf n = { number := n, state := .held, cls := c, fn := f, holders := [e], item := item } ∧
      (∀ m, m ≠ n → t.pool.buf m = s.pool.buf m) ∧ t.pool.waiting = s.pool.waiting ∧ t.clk = s.clk ∧ t.evt = s.evt ∧ t.media = s.media) ∧
    (s.grantRoom c f = false → exec (.bufferAllocate n c f e item) s = .next (s.modPool fun p => { p with waiting := p.waiting ++ [(c, f, e, item)] }))) ∧
  (∀ (n e : Nat) (s : State), n < 1835008 → e < 17 → (s.pool.buf n).state = .held → (s.pool.buf n).holders.length < 4 → e ∉ (s.pool.buf n).holders →
    exec (.bufferShare n e) s = .next (s.putBuf { s.pool.buf n with holders := (s.pool.buf n).holders ++ [e] })) ∧
  (∀ (n e : Nat) (s : State), n < 1835008 → e < 17 → (s.pool.buf n).state = .held → e ∈ (s.pool.buf n).holders →
    exec (.bufferDrop n e) s = .next (s.putBuf { s.pool.buf n with
      holders := (s.pool.buf n).holders.filter (fun x => x != e), dropped := (s.pool.buf n).dropped ++ [e]
      state := if (s.pool.buf n).holders.all (fun x => x == e) then .zeroing else .held })) ∧
  (∀ (n e : Nat) (s : State), n < 1835008 → e < 17 → ((s.pool.buf n).state ≠ .held ∨ e ∉ (s.pool.buf n).holders) →
    Answers (exec (.bufferDrop n e) s) fun t => t.pool.bufs = s.pool.bufs ∧ t.media = s.media ∧ t.clk = s.clk ∧
      (s.clk.dark = false → t.evt.raised.length = s.evt.raised.length + 1)) ∧
  (∀ (n : Nat) (s : State), n < 1835008 → (s.pool.buf n).state = .zeroing → s.pool.waiting = [] →
    exec (.bufferZeroed n) s = .next (s.putBuf { s.pool.buf n with state := .free, fn := 0xFF, holders := [], dropped := [], item := 0 }))

/-- O37. The operations of the table cache (R443, R444, R445, R446, R448). On an active mast a fill places its line or waits; a write-back
completes the oldest entry of the eviction buffer and starts the next; clean leaves lines valid and not dirty; invalidate by set and way
drops the line; invalidate by range, and clean and invalidate, drop the lines of the range that are not locked, or all of them under the
control. A way whose errors have reached the threshold is disabled with event 60m + 17 code 1. On any other mast nothing happens. -/
def Obligations.TableCache : Prop :=
  (∀ (m line : Nat) (w : Bool) (s : State), m < 8 → line < 33554432 → (s.mast m).state = .active →
    exec (.cacheFill m line w) s = .next (s.modCache m fun c => match c.fill line w with
      | some c => c
      | none => { c with fills := c.fills ++ [(line, w)] })) ∧
  (∀ (c : Cache) (line : Nat) (w : Bool) (l : CacheLine), c.find line = some l →
    c.fill line w = some ((c.put { l with dirty := l.dirty || w }).touch l.set l.way)) ∧
  (∀ (m : Nat) (s : State), m < 8 → (s.mast m).state = .active → exec (.evictionWriteBack m) s = .next (s.modCache m fun c => c.writeBack.retry)) ∧
  (∀ (c : Cache) (a b : Nat × Bool) (rest : List (Nat × Bool)), c.evict = a :: b :: rest → c.writeBack.evict = (b.1, true) :: rest) ∧
  (∀ (m a b : Nat) (s : State), m < 8 → a < 33554432 → b < 33554432 → (s.mast m).state = .active →
    exec (.clean m true a b) s = .next (s.modCache m fun c => c.clean true a b) ∧
    exec (.cleanAndInvalidate m true a b) s = .next (s.modCache m fun c => c.flush true a b s.includeLocked) ∧
    exec (.invalidateByRange m a b) s = .next (s.modCache m fun c => c.flush true a b s.includeLocked)) ∧
  (∀ (m set way : Nat) (s : State), m < 8 → set < 4096 → way < 16 → (s.mast m).state = .active →
    exec (.clean m false set way) s = .next (s.modCache m fun c => c.clean false set way) ∧
    exec (.cleanAndInvalidate m false set way) s = .next (s.modCache m fun c => c.flush false set way s.includeLocked) ∧
    exec (.invalidateBySetAndWay m set way) s = .next (s.modCache m fun c => { c with lines := c.lines.filter fun l => !(l.set == set && l.way == way) })) ∧
  (∀ (c : Cache) (r : Bool) (a b : Nat), (∀ l ∈ (c.clean r a b).lines, l.covered r a b = true → l.dirty = false) ∧
    (∀ l ∈ (c.flush r a b true).lines, l.covered r a b = false) ∧
    (∀ l ∈ (c.flush r a b false).lines, l.covered r a b = true → l.locked = true)) ∧
  (∀ (m g w : Nat) (s : State), m < 8 → g < 16 → w < 16 → (s.mast m).state = .active → s.wayDue m g w = true →
    Answers (exec (.wayDisable m g w) s) fun t => t.nss = s.nss ∧ t.media = s.media ∧ t.clk = s.clk ∧
      (m < s.masts.length → (t.mast m).cache.disabled = (s.mast m).cache.disabled ++ [(g, w)]) ∧ ∀ k, k ≠ m → t.mast k = s.mast k) ∧
  (∀ (m line : Nat) (w : Bool) (s : State), m < 8 → line < 33554432 → (s.mast m).state ≠ .active → exec (.cacheFill m line w) s = .next s)

/-- O38. The thermal sample, the grace time and the throttle stages (R475, R476, R478, R479). A sample is taken of the 25 inputs every 256
frames; one that is out of range, open or shorted is failed at once, and a good one gives its reading. The stage by a hot value is that of
the highest threshold it reaches, five degrees apart, and a stage is left only after eight samples three degrees below it. When the grace
time has passed with the stage above 0, the thermal level is the stage and is enforced, with event 606/2. -/
def Obligations.Throttle : Prop :=
  (∀ (raws : List Int) (bad : List Bool) (s : State), s.clk.dark = false → s.therm.lastSample + 256 ≤ s.clk.frame →
    Answers (exec (.thermalSample raws bad) s) fun t => t.therm.lastSample = s.clk.frame ∧ t.therm.stage = s.therm.stage ∧
      t.therm.enforced = s.therm.enforced ∧ t.therm.level = s.therm.level ∧ t.therm.inputs.length = s.therm.inputs.length ∧
      t.clk = s.clk ∧ t.nss = s.nss ∧ t.pwr = s.pwr ∧ t.media = s.media) ∧
  (∀ (raws : List Int) (bad : List Bool) (i : ThermIn) (s : State), i ∈ s.therm.inputs → i.sampled = true → s.clk.frame < s.therm.lastSample + 256 →
    exec (.thermalSample raws bad) s = .next s) ∧
  (∀ (i : Nat) (raw : Int) (s : State), i < s.therm.inputs.length → s.inputOn i = true →
    ((s.latchInput i raw true).thermIn i).failed = true ∧ ((s.latchInput i raw true).thermIn i).raw = (s.thermIn i).raw ∧
    (16 ≤ i → -880 ≤ raw → raw ≤ 2400 → ((s.latchInput i raw false).thermIn i).raw = raw ∧
      ((s.latchInput i raw false).thermIn i).failed = (s.thermIn i).failed)) ∧
  (∀ (base now : Nat) (t : Int) (cool : List Nat), (∀ k, k < 4 → 8 ≤ cool.getD k 0) →
    stageOf base (some t) cool now = (if stageAt base 4 ≤ t then 4 else if stageAt base 3 ≤ t then 3 else if stageAt base 2 ≤ t then 2 else
      if stageAt base 1 ≤ t then 1 else 0)) ∧
  (∀ (base : Nat) (t : Int) (k : Nat), 1 ≤ k → k ≤ 4 → stageAt base k = 16 * ((base : Int) + 5 * ((k : Int) - 1))) ∧
  (∀ (f : Nat) (s : State), s.therm.grace = some f → f + 62500 * s.ctlValue ctlGrace ≤ s.clk.frame → 0 < s.therm.stage → s.therm.enforced = false →
    exec .graceTimeEnd s = .next ((s.modTherm fun t => { t with enforced := true, level := t.stage, grace := none }).raise 606 2 2
      [requestedRate s.therm.stage]))

/-- O39. The power correction, and the wake by the sampler and by the patrol (R206, R458, R461, R472, R474). At a check 64 frames after the last
halving with the mean of 64 frames above the cap, the limit is halved, at most three times; after 4,096 frames at or below seven eighths
of the cap it is doubled once. In crow's-nest mode a sample whose quantities stay inside their windows wakes nothing and moves the archive
clock to the sampling tick; the batch of a running lap that falls due before the next sample is wake source 2, at its tick. -/
def Obligations.PowerCorrection : Prop :=
  (∀ s : State, (∀ f, s.pwr.lastHalving = some f → f + 64 ≤ s.clk.frame) → 64 ≤ s.pwr.watts.length → 64 * capOf s.reef < s.wattSum →
    exec .powerCorrectionCheck s = .next (s.modPwr fun p => { p with
      halvings := min 3 (p.halvings + 1), coolFrames := 0, lastHalving := some s.clk.frame })) ∧
  (∀ s : State, s.wattSum ≤ 64 * capOf s.reef → exec .powerCorrectionCheck s = .next s) ∧
  (∀ s : State, 4096 ≤ s.pwr.coolFrames → 0 < s.pwr.halvings →
    exec .powerCorrectionRecovery s = .next (s.modPwr fun p => { p with halvings := p.halvings - 1, coolFrames := 0 })) ∧
  (capOf 0 = 12500 ∧ capOf 1 = 10000 ∧ capOf 2 = 8000 ∧ capOf 3 = 6000 ∧ capOf 4 = 4000) ∧
  (∀ (v b : Nat) (temps : List Int) (s : State), s.pwr.dev = .crowsNest → s.clk.aonRuns = true → s.pwr.watched = [] → s.record.vMin + s.ctlValue ctlBankMargin ≤ bankRaw s.record b →
    s.ctlValue ctlVinLow ≤ v → v ≤ s.ctlValue ctlVinHigh →
    Answers (exec (.samplerWake v b temps) s) fun t => t.pwr.dev = .crowsNest ∧ t.pwr.excluded = [] ∧ t.start = s.start ∧ t.evt = s.evt ∧
      t.clk.ticks = s.clk.ticks + (s.pwr.sampleTick + 32768 * s.pwr.armed.getD 0 - s.clk.ticks) ∧ t.nss = s.nss ∧ t.keys = s.keys) ∧
  (∀ s : State, s.pwr.dev = .crowsNest → s.media.patrol.running = true → (∀ k, s.pwr.armed = some k → s.media.patrol.batchTick ≤ s.pwr.sampleTick + 32768 * k) →
    Answers (exec .patrolBatchDue s) fun t => t.pwr.dev = .starting ∧ t.pwr.lastWake = 2 ∧ t.start.stage = 2 ∧
      t.media.patrol.batch = (s.media.patrol.total + 1023) / 1024 ∧ t.clk = s.clk.tick (s.media.patrol.batchTick - s.clk.ticks) ∧
      t.nss = s.nss ∧ t.keys = s.keys) ∧
  (∀ (k : Nat) (s : State), s.pwr.armed = some k → s.pwr.sampleTick + 32768 * k < s.media.patrol.batchTick → exec .patrolBatchDue s = .next s)

/-- O40. Entries into a furl begin while their cause stands (R463, R464, R465, R467, R469, R470, R471, R474). A furl of a mast, a flash
port, a Halyard port or a host link, crow's-nest mode and power-down begin on a ready device when their cause stands, some of their
domains is on, and no entry of the kind is under way: the entry joins the entries in progress, and that of crow's-nest mode also begins
the steps of R165. A device that is not ready begins none. After the hold-off an aborted entry begins again if its cause stands; the
re-entry delay lets a woken device begin the entry. -/
def Obligations.FurlEntries : Prop :=
  (∀ s : State, (∀ m, m < 8 → exec (.mastFurl m) s = .next (s.startEntry (.mast m))) ∧ (∀ p, p < 32 → exec (.portFurl p) s = .next (s.startEntry (.port p))) ∧
    (∀ p, p < 3 → exec (.halyardFurl p) s = .next (s.startEntry (.halyard p))) ∧
    (∀ p, p < 2 → exec (.hostLinkFurl p) s = .next (s.startEntry (.hostLink p))) ∧
    exec .crowsNestEntry s = .next (s.startEntry .crowsNest) ∧ exec .powerDownEntry s = .next (s.startEntry .powerDown)) ∧
  (∀ (k : EntryKind) (d : Nat) (s : State), s.pwr.dev = .working → s.causeStands k = true → d ∈ s.entryDomains k → s.domainOff d = false →
    (∀ e ∈ s.pwr.entries, e.kind ≠ k) → k ≠ .crowsNest →
    s.startEntry k = s.modPwr fun p => { p with entries := p.entries ++ [{ kind := k, prepared := true }]
                                                holdOff := p.holdOff.filter fun x => x.1 != k }) ∧
  (∀ (d : Nat) (s : State), s.pwr.dev = .working → s.causeStands .crowsNest = true → d ∈ s.entryDomains .crowsNest → s.domainOff d = false →
    (∀ e ∈ s.pwr.entries, e.kind ≠ .crowsNest) →
    s.startEntry .crowsNest = State.beginPrep (s.modPwr fun p => { p with entries := p.entries ++ [{ kind := .crowsNest, prepared := false }]
                                                                          holdOff := p.holdOff.filter fun x => x.1 != .crowsNest })) ∧
  (∀ (k : EntryKind) (s : State), (s.pwr.dev ≠ .working ∨ s.causeStands k = false) → s.startEntry k = s) ∧
  (∀ (n f : Nat) (k : EntryKind) (s : State), s.pwr.holdOff[n]? = some (k, f) → f + s.ctlValue ctlHoldOff ≤ s.clk.frame →
    (∀ e ∈ s.pwr.entries, e.kind ≠ k) →
    exec (.abortHoldOff n) s = .next ((s.modPwr fun p => { p with holdOff := p.holdOff.filter fun x => x.1 != k }).startEntry k)) ∧
  (∀ (src : Nat) (s : State), s.pwr.wokenBy = some src → exec .reentryDelay s = .next (s.startEntry .crowsNest)) ∧
  (∀ (n g : Nat) (e : Entry) (s : State), s.pwr.entries[n]? = some e → e.asked = some g → e.waking = false → g + s.ctlValue ctlHandshake ≤ s.clk.frame →
    exec (.handshakeTimeout n) s = .next ((s.modPwr fun p => { p with
      entries := updIf (fun x => x.kind == e.kind) (fun x => { x with timedOut := true }) p.entries }).answerEntry { e with timedOut := true }))

/-- O41. A domain that work needs is woken, and a shutdown notification begins the steps of R165 (R28, R34, R165, R296, R467, R468, R470). Work
that needs a furled domain of a ready device wakes it with those it requires, the required ones first, a furled mast whole; a furled mast whose wake fails is failed (R34); where an entry
under way has asked for it, the work is that domain's refusal. A shutdown notification on function 0 sends the departures and stops
admission, and commands that are held end with Command Abort Requested; on an instance only its own do. -/
def Obligations.WakeAndShutdown : Prop :=
  (∀ (d c : Nat) (s : State), 72 ≤ d → d < 80 → s.pwr.dev = .working → d ∈ s.pwr.furled → s.pwr.entries = [] → 1 ≤ c → c ≤ 12 →
    ∀ ok : Bool, exec (.domainWake ⟨d, ok⟩ c) s = .next (((each ((wakeChain d).filter s.domainOff) State.wakeDomain s).modPwr fun p => { p with lastWake := c }).retryReads
      fun _ b => b.phase == 0)) ∧
  (∀ (d c : Nat) (s : State), d < 72 → d / 9 < s.mastN → s.pwr.dev = .working → d ∈ s.pwr.furled → s.pwr.entries = [] → (s.mast (d / 9)).state = .furled →
    1 ≤ c → c ≤ 12 →
    exec (.domainWake ⟨d, true⟩ c) s = .next (((each ((dedupN (wakeChain (9 * (d / 9)) ++ mastDomains (d / 9))).filter s.domainOff) State.wakeDomain s).modPwr
      fun p => { p with lastWake := c }).retryReads fun _ b => b.phase == 0) ∧
    exec (.domainWake ⟨d, false⟩ c) s = .next ((s.mastFailed (d / 9) 0).modPwr fun p => { p with lastWake := c })) ∧
  (∀ (d : Nat) (s : State), d ∉ (s.wakeDomain d).pwr.furled ∧ d ∉ (s.wakeDomain d).pwr.off ∧ (s.wakeDomain d).clk = s.clk ∧
    (s.wakeDomain d).media = s.media ∧ (s.wakeDomain d).keys = s.keys) ∧
  (∀ (d c : Nat) (e : Entry) (s : State), 72 ≤ d → d < 80 → s.pwr.dev = .working → s.pwr.entries = [e] → e.waking = false → d ∈ s.entryDomains e.kind →
    ∀ ok : Bool, exec (.domainWake ⟨d, ok⟩ c) s = .next (s.modPwr fun p => { p with entries := [{ e with demanded := some d }] })) ∧
  (∀ (a : Bool) (s : State), s.pwr.dev = .working → (s.fn 0).ctrl.ccEn = true → (s.fn 0).ctrl.shst = 0 →
    exec (.shutdownNotification 0 a) s = .next (((s.modFn 0 fun f => { f with ctrl := { f.ctrl with shst := 1 } }).departures 1).beginPrep)) ∧
  (∀ s : State, s.io.cmds = [] → s.beginPrep = s.modPwr fun p => { p with stopped := true, prep := 1 }) ∧
  (∀ (f : Nat) (a : Bool) (s : State), f ≠ 0 → f ≤ 128 → s.pwr.dev = .working → (s.fn f).ctrl.ccEn = true → (s.fn f).ctrl.shst = 0 →
    (∀ c ∈ s.io.cmds, c.fn ≠ f) → exec (.shutdownNotification f a) s = .next (s.modFn f fun f => { f with ctrl := { f.ctrl with shst := 1 } }))

/-- O42. The stages of the start-up, in order (R46, R71, R161, R486, R487, R488, R490, R491, R519). Stage 3 releases the cores and ends in
stage 4, or in the device fault; stage 4 ends in stage 5 with VDDQF on, or in the device fault; stage 5 ends in stage 6, with
configuration requests answered, or ready where a signed object is missing; stage 6 puts the furled masts that pass their tests in service
and ends in stage 7; stage 7 ends ready, or failed where the journal does not verify. Ready is stage 8: the device works, admits and
accepts, and each enabled controller without a fault reports it. No stage changes the fuses or the frame number. -/
def Obligations.StartUpStages : Prop :=
  (∀ s : State, s.inStage 3 = true → exec (.stageRom false) s = .next (s.modStart fun x => { x with released := true, stage := 4 }) ∧
    exec (.stageRom true) s = .next (s.modStart fun x => { x with released := true }).deviceFault) ∧
  (∀ s : State, s.inStage 4 = true → exec (.stageOtp false) s = .next (s.modStart fun x => { x with stage := 5, vddqf := true }) ∧
    exec (.stageOtp true) s = .next s.deviceFault) ∧
  (∀ (d : DriveRecord) (m : MediaProfile) (s : State), s.inStage 5 = true → s.obj.drive = some d → s.obj.media = some m → s.obj.nextDrive = none →
    s.obj.nextMedia = none → recordOk d = true → s.profileOk m = true →
    exec .stageObjects s = .next (s.modStart fun x => { x with configReady := true, stage := 6 })) ∧
  (∀ s : State, s.inStage 5 = true → s.obj.drive = none → s.obj.nextDrive = none →
    Answers (exec .stageObjects s) fun t => t.pwr.dev = .working ∧ t.start.stage = 8 ∧ t.start.configReady = true ∧ t.obj.drive = none) ∧
  (∀ (ces : List Nat) (s : State), s.inStage 6 = true → s.masts.length = 8 →
    Answers (exec (.stageMedia [] ces []) s) fun t => t.start.stage = 7 ∧ t.clk = s.clk ∧ t.fuses = s.fuses ∧
      ∀ m, m < s.mastN → (s.mast m).state = .furled → (t.mast m).state = .active) ∧
  (∀ (nm : Bool) (s : State), s.inStage 7 = true → exec (.stageReplay false nm [] []) s = .next (s.modStart fun x => { x with failed := true })) ∧
  (∀ s : State, s.inStage 7 = true → Answers (exec (.stageReplay true false [] []) s) fun t => t.pwr.dev = .working ∧ t.start.stage = 8 ∧
    t.pwr.stopped = false ∧ t.fuses = s.fuses ∧ t.clk.frame = s.clk.frame ∧ t.start.clean = false ∧
    (s.clk.pocCounted = false → t.clk.poc = (s.clk.poc + 1) % 4294967296)) ∧
  (∀ s : State, s.becomeReady.pwr.dev = .working ∧ s.becomeReady.start.stage = 8 ∧ s.becomeReady.pwr.readyFrame = s.clk.frame ∧
    ∀ f ∈ s.becomeReady.fns, f.ctrl.rdy = (f.ctrl.ccEn && (f.fn == 0 || f.state == .online) && !f.ctrl.cfs)) ∧
  (∀ s : State, s.pwr.dev = .starting → s.clk.dark = false → s.start.failed = false → s.start.fault = false → s.start.sanitize = none →
    s.start.begin + s.startLimit ≤ s.clk.frame →
    (s.start.expiries = 0 → exec .startupLimit s = .next (s.startAgain.modStart fun x => { x with expiries := 1 })) ∧
    (s.start.expiries ≠ 0 → exec .startupLimit s = .next s.deviceFault))

/-- O43. Every NVMe command row puts its entry before the fetch (R166, R185, R312, R391, R392, R396, R399, R402, R403, R441, R442). Each
of the 38 I/O and admin command rows, on a controller of the family: its entry is fetched at once where the engine may fetch from its
queue and nothing waits there, else it joins the entries that wait; a queue that does not stand, or a controller that is not enabled,
takes nothing. A fetched entry becomes the last command, held, with the frame as its arrival; without descriptor fetches its walk is
complete, with some its first request is issued. A finished command that writes nothing to host memory posts its status at the end of its
completion queue; one that does writes it and issues a read-back. -/
def Obligations.NvmeEntriesFetched : Prop :=
  (∀ (h : NvmeHdr) (e : Extent) (s : State), TakesEntry (.read h e) h s) ∧
  (∀ (h : NvmeHdr) (e : Extent) (s : State), TakesEntry (.write h e) h s) ∧
  (∀ (h : NvmeHdr) (e : Extent) (s : State), TakesEntry (.zoneAppend h e) h s) ∧
  (∀ (h : NvmeHdr) (e : Extent) (s : State), TakesEntry (.writeZeroes h e) h s) ∧
  (∀ (h : NvmeHdr) (s : State), TakesEntry (.flush h) h s) ∧
  (∀ (h : NvmeHdr) (e : Extent) (data : List Block) (s : State), TakesEntry (.compare h e data) h s) ∧
  (∀ (h : NvmeHdr) (e : Extent) (s : State), TakesEntry (.verify h e) h s) ∧
  (∀ (h : NvmeHdr) (deallocate : Bool) (ranges : List (Nat × Nat)) (s : State), TakesEntry (.datasetManagement h deallocate ranges) h s) ∧
  (∀ (h : NvmeHdr) (slba : Nat) (x_all : Bool) (s : State), TakesEntry (.closeZone h slba x_all) h s) ∧
  (∀ (h : NvmeHdr) (slba : Nat) (x_all : Bool) (s : State), TakesEntry (.finishZone h slba x_all) h s) ∧
  (∀ (h : NvmeHdr) (slba : Nat) (x_all : Bool) (s : State), TakesEntry (.openZone h slba x_all) h s) ∧
  (∀ (h : NvmeHdr) (slba : Nat) (x_all : Bool) (s : State), TakesEntry (.resetZone h slba x_all) h s) ∧
  (∀ (h : NvmeHdr) (slba : Nat) (x_all : Bool) (s : State), TakesEntry (.offlineZone h slba x_all) h s) ∧
  (∀ (h : NvmeHdr) (slba : Nat) (ext : Wide) (x_all : Bool) (s : State), TakesEntry (.setZoneDescriptorExtension h slba ext x_all) h s) ∧
  (∀ (h : NvmeHdr) (slba : Nat) (filter : Nat) (isPartial : Bool) (limit : Nat) (s : State), TakesEntry (.reportZones h slba filter isPartial limit) h s) ∧
  (∀ (h : NvmeHdr) (slba : Nat) (filter : Nat) (isPartial : Bool) (limit : Nat) (s : State), TakesEntry (.extendedReportZones h slba filter isPartial limit) h s) ∧
  (∀ (h : NvmeHdr) (opcode : Nat) (s : State), TakesEntry (.invalidCommandOpcode h opcode) h s) ∧
  (∀ (h : NvmeHdr) (cns : Nat) (csi : Nat) (s : State), TakesEntry (.identify h cns csi) h s) ∧
  (∀ (h : NvmeHdr) (lid : Nat) (s : State), TakesEntry (.getLogPage h lid) h s) ∧
  (∀ (h : NvmeHdr) (fid : Nat) (value : Nat) (s : State), TakesEntry (.setFeatures h fid value) h s) ∧
  (∀ (h : NvmeHdr) (fid : Nat) (s : State), TakesEntry (.getFeatures h fid) h s) ∧
  (∀ (h : NvmeHdr) (ms : Nat) (s : State), TakesEntry (.setFeaturesTimestamp h ms) h s) ∧
  (∀ (h : NvmeHdr) (ps : Nat) (s : State), TakesEntry (.setFeaturesPowerManagement h ps) h s) ∧
  (∀ (h : NvmeHdr) (qid : Nat) (size : Nat) (cqid : Nat) (contiguous : Bool) (aligned : Bool) (s : State), TakesEntry (.createIoSubmissionQueue h qid size cqid contiguous aligned) h s) ∧
  (∀ (h : NvmeHdr) (qid : Nat) (size : Nat) (vector : Nat) (ien : Bool) (contiguous : Bool) (aligned : Bool) (s : State), TakesEntry (.createIoCompletionQueue h qid size vector ien contiguous aligned) h s) ∧
  (∀ (h : NvmeHdr) (qid : Nat) (s : State), TakesEntry (.deleteIoSubmissionQueue h qid) h s) ∧
  (∀ (h : NvmeHdr) (qid : Nat) (s : State), TakesEntry (.deleteIoCompletionQueue h qid) h s) ∧
  (∀ (h : NvmeHdr) (sq : Nat) (cid : Nat) (s : State), TakesEntry (.abort h sq cid) h s) ∧
  (∀ (h : NvmeHdr) (s : State), TakesEntry (.asynchronousEventRequest h) h s) ∧
  (∀ (h : NvmeHdr) (csi : Nat) (nsze : Nat) (ncap : Nat) (lbaf : Nat) (pi : Nat) (s : State), TakesEntry (.namespaceManagementCreate h csi nsze ncap lbaf pi) h s) ∧
  (∀ (h : NvmeHdr) (s : State), TakesEntry (.namespaceManagementDelete h) h s) ∧
  (∀ (h : NvmeHdr) (ctrls : List Nat) (s : State), TakesEntry (.namespaceAttachmentAttach h ctrls) h s) ∧
  (∀ (h : NvmeHdr) (ctrls : List Nat) (s : State), TakesEntry (.namespaceAttachmentDetach h ctrls) h s) ∧
  (∀ (h : NvmeHdr) (ctrl : Nat) (s : State), TakesEntry (.secondaryControllerOnline h ctrl) h s) ∧
  (∀ (h : NvmeHdr) (ctrl : Nat) (s : State), TakesEntry (.secondaryControllerOffline h ctrl) h s) ∧
  (∀ (h : NvmeHdr) (ctrl : Nat) (resource : Nat) (count : Nat) (s : State), TakesEntry (.secondaryControllerAssign h ctrl resource count) h s) ∧
  (∀ (h : NvmeHdr) (lbaf : Nat) (ses : Nat) (s : State), TakesEntry (.formatNvm h lbaf ses) h s) ∧
  (∀ (h : NvmeHdr) (s : State), TakesEntry (.cryptoErase h) h s) ∧
  (∀ (s : State) (fn sq cid : Nat) (port1 : Bool) (op : Instr) (h : NvmeHdr), nvmeHdr op = some h →
    let c : Cmd := { id := s.io.nextId, fn := fn, sq := sq, cid := cid, port1 := port1, op := op, arrival := s.clk.frame }
    (h.hops = 0 → h.chainBad = false → (∀ x ∈ s.io.cmds, x.id ≠ s.io.nextId) →
      (s.fetchEntry fn sq port1 op cid).io.cmds = s.io.cmds ++ [{ c with walked := true }]) ∧
    (0 < h.hops → (s.fetchEntry fn sq port1 op cid).io.cmds = s.io.cmds ++ [c]) ∧
    (0 < h.hops → s.io.reqs.length < tagLimit → (s.fetchEntry fn sq port1 op cid).io.reqs = s.io.reqs ++
      [{ req := s.io.nextReq, fn := fn, port1 := port1, cmd := s.io.nextId, what := .walk, issued := s.clk.frame }]) ∧
    ((0 < h.hops ∨ h.chainBad = false) → (s.fetchEntry fn sq port1 op cid).io.fetched = s.io.fetched + 1 ∧
      (s.fetchEntry fn sq port1 op cid).io.nextId = s.io.nextId + 1 ∧ (s.fetchEntry fn sq port1 op cid).nss = s.nss ∧
      (s.fetchEntry fn sq port1 op cid).media = s.media ∧ (s.fetchEntry fn sq port1 op cid).clk = s.clk)) ∧
  (∀ (s : State) (id : Nat) (c : Cmd) (st : NvmeStatus) (q : Sq) (k : Cq), s.cmd? id = some c → s.delays c = false → s.paused c.fn c.port1 = false →
    c.fields = [] → c.fn < s.fns.length → (s.ctrl c.fn c.port1).sqs.find? (fun x => x.qid == c.sq) = some q →
    (s.ctrl c.fn c.port1).cqs.find? (fun x => x.qid == q.cq) = some k →
    (s.conclude id st).io.cmds = s.io.cmds.filter (fun x => x.id != id) ∧
    (((s.conclude id st).ctrl c.fn c.port1).cqs.find? (fun x => x.qid == q.cq)).map (fun x => x.entries) =
      some (k.entries ++ [{ sq := c.sq, cid := c.cid, sct := st.sct, sc := st.sc, dnr := st.dnr, result := 0 }])) ∧
  (∀ (s : State) (id : Nat) (c : Cmd) (st : NvmeStatus), s.cmd? id = some c → s.delays c = false → s.paused c.fn c.port1 = false →
    c.fields ≠ [] → c.delivered = false → Answers (.next (s.conclude id st)) fun t =>
      t.out = s.out ++ [.data c.fn c.cid c.fields] ∧ (t.cmd? id).map (fun x => (x.phase, x.sc)) = some (.readBack, st.sc) ∧
      t.io.reqs.length = s.io.reqs.length + 1 ∧ t.nss = s.nss ∧ t.media = s.media)

/-- O44. The zone management actions (R97, R99, R109, R110, R112, R113, R114, R115, R117, R122, R127, R232). Each Zone Management Send row
of an admitted command runs its action on the zone that it names, or by Select All; Finish, Reset and Offline wait for the record that
they write. Close makes an open zone Closed, or Empty when nothing is written and its extension is not valid. Finish makes an active or
Empty zone Full at its write pointer. Reset of an active or Full zone and Offline of a Read Only zone write a release record in the journals of
the home mast and of the host complex, and at its commit the zone is Empty, or Offline, in its initial condition, and its blocks and loss ledger entries are gone. Open takes an open
resource or fails; while masts are down it fails where it would need a segment that is not written then (R41). An action asks for a home mast that
is being furled (R129). Any other zone state gives Invalid Zone State Transition. Set Zone Descriptor Extension makes an Empty zone Closed with
its extension; with Select All it ends in Invalid Field, as a zone management action of no row does. Report Zones gives the count and the
descriptors. -/
def Obligations.ZoneManagement : Prop :=
  (∀ (s a : State) (c : Cmd) (h : NvmeHdr) (slba zi : Nat) (n : Namespace), s.zonedNs c = .ok n → s.zoneAt n slba = .ok zi →
    a = s.demandFor (if (n.zone zi).homed then [(n.zone zi).home] else []) →
    (c.op = .closeZone h slba false → s.runOther c = (a.zoneAction n.nsid zi .close).1.conclude c.id (a.zoneAction n.nsid zi .close).2) ∧
    (c.op = .openZone h slba false → s.runOther c = (a.zoneAction n.nsid zi .openZ).1.conclude c.id (a.zoneAction n.nsid zi .openZ).2) ∧
    (c.op = .finishZone h slba false → s.runOther c = s.endZoneCmd (a.zoneAction n.nsid zi .finish).1 c.id (a.zoneAction n.nsid zi .finish).2 true) ∧
    (c.op = .resetZone h slba false → s.runOther c = s.endZoneCmd (a.zoneAction n.nsid zi .reset).1 c.id (a.zoneAction n.nsid zi .reset).2 true) ∧
    (c.op = .offlineZone h slba false → s.runOther c = s.endZoneCmd (a.zoneAction n.nsid zi .offline).1 c.id (a.zoneAction n.nsid zi .offline).2 true)) ∧
  (∀ (s a : State) (c : Cmd) (h : NvmeHdr) (slba : Nat) (n : Namespace), s.zonedNs c = .ok n →
    a = s.demandFor ((n.zones.filter fun z => z.homed).map fun z => z.home) →
    (c.op = .closeZone h slba true → s.runOther c = (a.zoneActionAll n.nsid .close).1.conclude c.id (a.zoneActionAll n.nsid .close).2) ∧
    (c.op = .openZone h slba true → s.runOther c = (a.zoneActionAll n.nsid .openZ).1.conclude c.id (a.zoneActionAll n.nsid .openZ).2) ∧
    (c.op = .finishZone h slba true → s.runOther c = s.endZoneCmd (a.zoneActionAll n.nsid .finish).1 c.id (a.zoneActionAll n.nsid .finish).2 true) ∧
    (c.op = .resetZone h slba true → s.runOther c = s.endZoneCmd (a.zoneActionAll n.nsid .reset).1 c.id (a.zoneActionAll n.nsid .reset).2 true) ∧
    (c.op = .offlineZone h slba true → s.runOther c = s.endZoneCmd (a.zoneActionAll n.nsid .offline).1 c.id (a.zoneActionAll n.nsid .offline).2 true)) ∧
  (∀ (ms : List Nat) (s : State), (s.demandFor ms).nss = s.nss ∧ (s.demandFor ms).media = s.media ∧ (s.demandFor ms).masts = s.masts ∧
    (s.demandFor ms).clk = s.clk ∧ (s.demandFor ms).io = s.io) ∧
  (∀ (s : State) (n : Namespace) (zi : Nat), s.ns? n.nsid = some n → (n.zone zi).state.isOpen = true →
    (s.zoneAction n.nsid zi .close).2 = stOk ∧ ((s.zoneAction n.nsid zi .close).1.zone n.nsid zi).state =
      (if (n.zone zi).wp = 0 ∧ (n.zone zi).extValid = false then .empty else .closed)) ∧
  (∀ (s : State) (n : Namespace) (zi : Nat), s.ns? n.nsid = some n → ((n.zone zi).state = .empty ∨ (n.zone zi).state.active = true) →
    (s.zoneAction n.nsid zi .finish).2 = stOk ∧ ((s.zoneAction n.nsid zi .finish).1.zone n.nsid zi).state = .full ∧
    ((s.zoneAction n.nsid zi .finish).1.zone n.nsid zi).zfc = false ∧
    ((n.zone zi).state ≠ .empty → ((s.zoneAction n.nsid zi .finish).1.zone n.nsid zi).written = (n.zone zi).wp ∧
      ((s.zoneAction n.nsid zi .finish).1.zone n.nsid zi).gen = (n.zone zi).gen)) ∧
  (∀ (s : State) (n : Namespace) (zi : Nat), s.ns? n.nsid = some n →
    (((n.zone zi).state.active = true ∨ (n.zone zi).state = .full) →
      s.zoneAction n.nsid zi .reset = ((s.log (n.zone zi).home (.zoneRelease n.nsid zi (n.zone zi).gen 0x1)).log 8
        (.zoneRelease n.nsid zi (n.zone zi).gen 0x1), stOk)) ∧
    ((n.zone zi).state = .readOnly → s.zoneAction n.nsid zi .offline =
      ((s.log (n.zone zi).home (.zoneRelease n.nsid zi (n.zone zi).gen 0xF)).log 8 (.zoneRelease n.nsid zi (n.zone zi).gen 0xF), stOk)) ∧
    ((n.zone zi).state = .empty → s.zoneAction n.nsid zi .reset = (s, stOk)) ∧
    ((n.zone zi).state = .full → s.zoneAction n.nsid zi .finish = (s, stOk)) ∧
    ((n.zone zi).state = .offline → s.zoneAction n.nsid zi .offline = (s, stOk))) ∧
  (∀ (s : State) (n : Namespace) (zi : Nat) (into : ZoneState), s.ns? n.nsid = some n → (n.zone zi).state ≠ .empty → (n.zone zi).state ≠ .offline →
    ((s.commitRelease n.nsid zi (n.zone zi).gen into).zone n.nsid zi) = { zi := zi, state := into, safe := into, cls := n.cls, gen := (n.zone zi).gen } ∧
    (∀ b ∈ (s.commitRelease n.nsid zi (n.zone zi).gen into).media.blocks, b.nsid = n.nsid →
      ¬ (zi * n.zoneSize s.profile ≤ b.lba ∧ b.lba < zi * n.zoneSize s.profile + n.zoneSize s.profile)) ∧
    (∀ e ∈ (s.commitRelease n.nsid zi (n.zone zi).gen into).media.ledger, e.nsid = n.nsid →
      ¬ (zi * n.zoneSize s.profile ≤ e.lba ∧ e.lba < zi * n.zoneSize s.profile + n.zoneSize s.profile))) ∧
  (∀ (s : State) (n : Namespace) (zi : Nat), s.ns? n.nsid = some n → (n.zone zi).state = .implicitOpen ∨ ((n.zone zi).state = .closed ∧ n.openZones < n.open_ ∧ s.needsBarred (n.zone zi) 1 = false) →
    (s.zoneAction n.nsid zi .openZ).2 = stOk ∧ ((s.zoneAction n.nsid zi .openZ).1.zone n.nsid zi).state = .explicitOpen) ∧
  (∀ (s : State) (n : Namespace) (zi : Nat), s.ns? n.nsid = some n → (n.zone zi).state = .closed →
    (s.needsBarred (n.zone zi) 1 = true → s.zoneAction n.nsid zi .openZ = (s, stClassUnavailable)) ∧
    (s.needsBarred (n.zone zi) 1 = false → n.open_ ≤ n.openZones → s.zoneAction n.nsid zi .openZ = (s, stTooManyOpen))) ∧
  (∀ (s : State) (n : Namespace) (zi : Nat), s.ns? n.nsid = some n →
    (((n.zone zi).state ≠ .closed ∧ (n.zone zi).state.isOpen = false) → s.zoneAction n.nsid zi .close = (s, stZoneTransition)) ∧
    (((n.zone zi).state = .readOnly ∨ (n.zone zi).state = .offline) → s.zoneAction n.nsid zi .finish = (s, stZoneTransition) ∧
      s.zoneAction n.nsid zi .reset = (s, stZoneTransition)) ∧
    (((n.zone zi).state ≠ .readOnly ∧ (n.zone zi).state ≠ .offline) → s.zoneAction n.nsid zi .offline = (s, stZoneTransition)) ∧
    (((n.zone zi).state = .full ∨ (n.zone zi).state = .readOnly ∨ (n.zone zi).state = .offline) →
      s.zoneAction n.nsid zi .openZ = (s, stZoneTransition))) ∧
  (∀ (s : State) (n : Namespace), s.ns? n.nsid = some n →
    n.open_ - n.openZones < ((List.range n.zoneCount).filter fun zi => (n.zone zi).state == .closed).length →
    s.zoneActionAll n.nsid .openZ = (s, stTooManyOpen)) ∧
  (∀ (s : State) (c : Cmd) (h : NvmeHdr) (slba zi : Nat) (n : Namespace) (x : Wide), s.zonedNs c = .ok n → s.zoneAt n slba = .ok zi →
    c.op = .setZoneDescriptorExtension h slba x false → (n.pie = true → x.toNat / 2 ^ 9 % 2 ^ 23 = 0) →
    ((n.zone zi).state ≠ .empty → s.runOther c = (s.demandFor (if (n.zone zi).homed then [(n.zone zi).home] else [])).conclude c.id stZoneTransition) ∧
    ((n.zone zi).state = .empty → s.classCheck n (n.zoneClass { n.zone zi with ext := x, extValid := true }) = none → n.activeZones < n.active → s.media.readPreserve = false →
      s.sealCheck n (s.currentKey n) 0 = none → ((s.runOther c).zone n.nsid zi).state = .closed ∧ ((s.runOther c).zone n.nsid zi).ext = x ∧
      ((s.runOther c).zone n.nsid zi).extValid = true)) ∧
  (∀ (s : State) (c : Cmd) (h : NvmeHdr) (slba op : Nat) (n : Namespace) (x : Wide), s.zonedNs c = .ok n →
    (c.op = .setZoneDescriptorExtension h slba x true → s.runOther c = s.conclude c.id stInvalidField) ∧
    (c.op = .invalidCommandOpcode h op → op = 0x79 ∨ op = 0x7A → s.runOther c = s.conclude c.id stInvalidField)) ∧
  (∀ (s : State) (c : Cmd) (h : NvmeHdr) (slba f k : Nat) (part : Bool) (n : Namespace), s.zonedNs c = .ok n → slba < n.blocks s.profile → f ≤ 7 →
    (c.op = .reportZones h slba f part k → s.runOther c = s.giveData c.id (s.reportZones n slba f part k false)) ∧
    (c.op = .extendedReportZones h slba f part k → s.runOther c = s.giveData c.id (s.reportZones n slba f part k true))) ∧
  (∀ (s : State) (n : Namespace) (slba f k : Nat) (x : Bool),
    (s.reportZones n slba f false k x).head? = some ((List.range n.zoneCount).filter fun zi =>
      decide (slba / max 1 (n.zoneSize s.profile) ≤ zi) && zoneFilter f (n.zone zi).state).length ∧
    (s.reportZones n slba f true k x).head? = some (min k ((List.range n.zoneCount).filter fun zi =>
      decide (slba / max 1 (n.zoneSize s.profile) ≤ zi) && zoneFilter f (n.zone zi).state).length)) ∧
  (∀ (s : State) (n : Namespace) (zi : Nat), s.ns? n.nsid = some n → (n.zone zi).state.active = true →
    ((s.finishByDevice n zi).zone n.nsid zi).state = .full ∧ ((s.finishByDevice n zi).zone n.nsid zi).zfc = true ∧
    ∃ m, (s.finishByDevice n zi).ns? n.nsid = some m ∧ zi ∈ m.changed)

/-- O45. The admission of I/O commands (R96, R101, R110, R111, R118, R121, R139, R145, R166, R185, R298, R381). A write of a zone is
refused by the state of the zone, by its place, and beyond the writable capacity; on an open zone where every check passes it is assigned
the blocks at the write pointer, which moves on by their number, and is admitted if its buffers, its completion slot and its energy are
there, else it is held; where it needs a segment of a width that is not written while masts are down, it is refused with Placement Class
Unavailable (R41). A Zone Append longer than 256 blocks, or not at the start of a zone, is refused. A read outside its namespace,
longer than 512 blocks, or of a namespace that is not attached is refused; one that is not translated is held; one whose key cannot open a
block is refused. Flush succeeds on an attached namespace, Dataset Management removes the mappings of conventional blocks and is refused
on a zoned namespace when it deallocates, and an opcode that is not supported is refused. A command that is not a read or a write costs
one unit. -/
def Obligations.IoAdmission : Prop :=
  (∀ (s : State) (c : Cmd) (n : Namespace) (k : WriteKind) (e : Extent) (held : Bool) (z : Zone), z = n.zone (e.slba / max 1 (n.zoneSize s.profile)) →
    (k = .append ∧ 256 < e.nlb → s.judgeZoneWrite c n k e held = .fail s stInvalidField none) ∧
    (¬ (k = .append ∧ 256 < e.nlb) →
      (z.state = .full → s.judgeZoneWrite c n k e held = .fail s stZoneFull none) ∧
      (z.state = .readOnly → s.judgeZoneWrite c n k e held = .fail s stZoneReadOnly none) ∧
      (z.state = .offline → s.judgeZoneWrite c n k e held = .fail s stZoneOffline none) ∧
      ((z.state = .empty ∨ z.state.active = true) →
        (k = .append → e.slba % max 1 (n.zoneSize s.profile) ≠ 0 → s.judgeZoneWrite c n k e held = .fail s stInvalidField none) ∧
        (k ≠ .append → e.slba ≠ e.slba / max 1 (n.zoneSize s.profile) * max 1 (n.zoneSize s.profile) + z.wp →
          s.judgeZoneWrite c n k e held = .fail s stZoneWrite none) ∧
        (k ≠ .append → e.slba = e.slba / max 1 (n.zoneSize s.profile) * max 1 (n.zoneSize s.profile) + z.wp → s.zoneCap n z < z.wp + e.nlb →
          s.judgeZoneWrite c n k e held = .fail s stBoundary none)))) ∧
  (∀ (s t : State) (c : Cmd) (n : Namespace) (k : WriteKind) (e : Extent) (held : Bool) (z : Zone) (zi base : Nat),
    zi = e.slba / max 1 (n.zoneSize s.profile) → base = zi * max 1 (n.zoneSize s.profile) → z = n.zone zi → s.ns? n.nsid = some n →
    z.state.isOpen = true → ¬ (k = .append ∧ 256 < e.nlb) → e.slba = base + (if k = .append then 0 else z.wp) → z.wp + e.nlb ≤ s.zoneCap n z →
    s.media.readPreserve = false → s.assignZone n.nsid zi e.nlb (fun i => blockOfWrite n c k e (base + z.wp + i) i) = some t →
    s.sealCheck n (some z.keyRef) e.nlb = none → s.mirrorCheck n z = none → s.needsBarred z e.nlb = false →
    s.judgeZoneWrite c n k e held = s.admitWrite t c n k e (base + z.wp) 1 held ∧ (t.zone n.nsid zi).wp = z.wp + e.nlb ∧
    ((t.zone n.nsid zi).wp = t.zoneCap n (t.zone n.nsid zi) → (t.zone n.nsid zi).state = .full)) ∧
  (∀ (s : State) (c : Cmd) (n : Namespace) (k : WriteKind) (e : Extent) (held : Bool) (z : Zone), z = n.zone (e.slba / max 1 (n.zoneSize s.profile)) →
    s.ns? n.nsid = some n → z.state.isOpen = true → ¬ (k = .append ∧ 256 < e.nlb) →
    e.slba = e.slba / max 1 (n.zoneSize s.profile) * max 1 (n.zoneSize s.profile) + (if k = .append then 0 else z.wp) → z.wp + e.nlb ≤ s.zoneCap n z →
    s.media.readPreserve = false → s.needsBarred z e.nlb = true → s.judgeZoneWrite c n k e held = .fail s stClassUnavailable none) ∧
  (∀ (s t : State) (c : Cmd) (n : Namespace) (k : WriteKind) (e : Extent) (lba times : Nat) (held : Bool),
    ((s.fnRoom c.fn e.nlb && s.classRoom .writeRows e.nlb && s.slotRoom c.fn) = false → s.admitWrite t c n k e lba times held = .hold .share) ∧
    ((s.fnRoom c.fn e.nlb && s.classRoom .writeRows e.nlb && s.slotRoom c.fn) = true →
      ((held = true ∨ s.nrg.firstDone = false ∨ s.energyAdmits (addedDirty (s.newBlocks t)) = false) → s.admitWrite t c n k e lba times held = .hold .energy) ∧
      (held = false → s.nrg.firstDone = true → s.energyAdmits (addedDirty (s.newBlocks t)) = true →
        ∃ u cost, s.admitWrite t c n k e lba times held = .go u cost ∧ cost.units = (if k = .zeroes then 1 else e.nlb)))) ∧
  (∀ (s : State) (c : Cmd) (e : Extent) (r : Bool), s.ioNs c = none → s.judgeRead c e r = .fail s stInvalidNs none) ∧
  (∀ (s : State) (c : Cmd) (e : Extent) (r : Bool) (n : Namespace), s.ioNs c = some n →
    ((e.nlb = 0 ∨ (transfersData c.op = true ∧ 512 < e.nlb)) → s.judgeRead c e r = .fail s stInvalidField none) ∧
    (e.nlb ≠ 0 → ¬ (transfersData c.op = true ∧ 512 < e.nlb) → n.blocks s.profile < e.slba + e.nlb → s.judgeRead c e r = .fail s stLbaRange none) ∧
    (e.nlb ≠ 0 → e.nlb ≤ 512 → e.slba + e.nlb ≤ n.blocks s.profile → c.translated = false → s.judgeRead c e r = .hold .translation) ∧
    (e.nlb ≠ 0 → e.nlb ≤ 512 → e.slba + e.nlb ≤ n.blocks s.profile → c.translated = true → ∀ t cost, s.judgeRead c e r = .go t cost →
      cost.units = (if transfersData c.op = true then e.nlb else 1) ∧ t.keys = s.keys ∧ t.clk = s.clk)) ∧
  (∀ (s : State) (c : Cmd) (r held : Bool) (t : State), writeExtent c.op = none → readExtent c.op = none → s.slotRoom c.fn = true →
    t = s.markAdmitted c.id (s.fn c.fn).contract.cls r → s.judge c r held = .go (t.runOther ((t.cmd? c.id).getD c)) { units := 1 }) ∧
  (∀ (s : State) (c : Cmd) (h : NvmeHdr) (e : Extent) (ds : List Block) (held : Bool),
    (c.op = .read h e → s.judge c true held = s.judgeRead c e true) ∧ (c.op = .compare h e ds → s.judge c true held = s.judgeRead c e true) ∧
    (c.op = .verify h e → s.judge c true held = s.judgeRead c e true) ∧
    (c.op = .write h e → s.judge c false held = s.judgeWrite { c with onReserved := false } .write e held) ∧
    (c.op = .zoneAppend h e → s.judge c false held = s.judgeWrite { c with onReserved := false } .append e held) ∧
    (c.op = .writeZeroes h e → s.judge c false held = s.judgeWrite { c with onReserved := false } .zeroes e held)) ∧
  (∀ (s : State) (c : Cmd) (h : NvmeHdr) (n : Namespace) (op : Nat) (ranges : List (Nat × Nat)), s.ioNs c = some n →
    (c.op = .flush h → s.runOther c = s.conclude c.id stOk) ∧ (c.op = .datasetManagement h false ranges → s.runOther c = s.conclude c.id stOk) ∧
    (c.op = .datasetManagement h true ranges → n.conv = false → s.runOther c = s.conclude c.id stInvalidField) ∧
    (c.op = .invalidCommandOpcode h op → op ≠ 0x79 → op ≠ 0x7A → s.runOther c = s.conclude c.id stInvalidOpcode)) ∧
  (∀ (s : State) (c : Cmd) (h : NvmeHdr) (n : Namespace) (ranges : List (Nat × Nat)), s.ioNs c = some n → c.op = .datasetManagement h true ranges →
    n.conv = true → (∀ x ∈ ranges, x.1 + x.2 ≤ n.blocks s.profile) → s.media.readPreserve = false →
    ∃ m, (s.runOther c).ns? n.nsid = some m ∧ ∀ x ∈ m.map, x ∈ n.map ∧ ∀ r ∈ ranges, ¬ (r.1 ≤ x.1 ∧ x.1 < r.1 + r.2)) ∧
  (∀ (s : State) (c : Cmd) (h : NvmeHdr) (e : Extent) (ds : List Block), c.op = .compare h e ds → (∀ b ∈ c.blocks, b.phase ≠ 2) →
    s.readResult c = (if (s.readData c).all (fun x => ds.getD (x.1 - e.slba) 0 == x.2.1) then stOk else stCompare, [], none))

/-- O46. What each admin command does (R61, R103, R308, R311, R315, R319, R320, R391, R392, R393, R395, R421). Each admin command row,
admitted: the commands of function 0 are refused from an instance; Identify, Get Log Page and Get Features give their data, or their
status; Set Features keeps a value that Get Features returns, limits the power state from function 0 only, and Timestamp sets the archive
clock from function 0 only; the queues are created with the checks of their identifier, size and vector, and deleted; Abort ends a held
command; eight event requests wait, and a waiting event answers the next; namespaces are created, deleted, attached and detached,
secondary controllers assigned and brought online and offline; Format NVM and Crypto Erase empty what they name. A command that changes
what the mailbox governs waits for step 4 of the next frame. -/
def Obligations.AdminCommands : Prop :=
  (∀ (s : State) (c : Cmd), managerOnly c.op = true → c.fn ≠ 0 → s.runAdmin c = s.conclude c.id stInvalidOpcode) ∧
  (∀ (s : State) (c : Cmd) (h : NvmeHdr) (csi : Nat), c.op = .identify h 0x01 csi → s.runAdmin c = s.giveData c.id (s.identifyController c.fn c.port1)) ∧
  (∀ (s : State) (fn : Nat) (p1 : Bool), (s.identifyController fn p1)[0]? = some 0x1F5B ∧ (s.identifyController fn p1)[4]? = some 9 ∧
    (s.identifyController fn p1)[5]? = some (if p1 then 129 else fn) ∧ (s.identifyController fn p1)[6]? = some 3 ∧
    (s.identifyController fn p1)[7]? = some 7) ∧
  (∀ (s : State) (c : Cmd) (h : NvmeHdr) (cns csi : Nat), c.op = .identify h cns csi → 0x1D ≤ cns → s.runAdmin c = s.conclude c.id stInvalidField) ∧
  (∀ (s : State) (c : Cmd) (h : NvmeHdr), c.op = .getLogPage h 0x04 → s.runAdmin c =
    (s.modCtrl c.fn c.port1 fun k => { k with changedNs := [] }).giveData c.id (sortBy (fun a b => a ≤ b) (s.ctrl c.fn c.port1).changedNs)) ∧
  (∀ (s : State) (c : Cmd) (h : NvmeHdr) (lid : Nat), (c.op = .getLogPage h 0x02 → s.runAdmin c = s.giveData c.id (s.smartLog (s.ctrl c.fn c.port1))) ∧
    (c.op = .getLogPage h lid → lid = 0 ∨ 0xC0 ≤ lid → s.runAdmin c = s.conclude c.id stLogPage)) ∧
  (∀ (s : State) (c : Cmd) (h : NvmeHdr) (v : Nat), c.op = .setFeatures h 0x01 v → s.runAdmin c =
      (s.modCtrl c.fn c.port1 fun k => k.setFeature 0x01 (v % 8)).conclude c.id stOk) ∧
  (∀ (k : Ctrl) (fid v d : Nat), (k.setFeature fid v).feature fid d = v) ∧
  (∀ (s : State) (c : Cmd) (h : NvmeHdr), (c.op = .getFeatures h 0x01 → s.runAdmin c = s.giveData c.id [] ((s.ctrl c.fn c.port1).feature 0x01 0)) ∧
    (c.op = .getFeatures h 0x0E → s.runAdmin c = s.giveData c.id s.timestamp 0) ∧
    (c.op = .getFeatures h 0x02 → s.runAdmin c = s.giveData c.id [] s.pwr.hostLimit) ∧
    (c.op = .getFeatures h 0x03 → s.runAdmin c = s.conclude c.id stInvalidField)) ∧
  (∀ (s : State) (c : Cmd) (h : NvmeHdr) (ps : Nat), c.op = .setFeaturesPowerManagement h ps ∨ c.op = .setFeatures h 0x02 ps →
    (c.fn ≠ 0 → s.runAdmin c = s.conclude c.id stNotChangeable) ∧
    (c.fn = 0 → 4 < ps % 32 → s.runAdmin c = s.conclude c.id stInvalidField) ∧
    (c.fn = 0 → ps % 32 ≤ 4 → s.runAdmin c = (s.modPwr fun p => { p with hostLimit := ps % 32 }).conclude c.id stOk)) ∧
  (∀ (s : State) (c : Cmd) (h : NvmeHdr) (ms : Nat), c.op = .setFeaturesTimestamp h ms →
    (c.fn ≠ 0 → s.runAdmin c = s.conclude c.id stNotChangeable) ∧
    (c.fn = 0 → ms / 1000 < 1735689600 → s.runAdmin c = s.conclude c.id stInvalidField) ∧
    (c.fn = 0 → 1735689600 ≤ ms / 1000 → s.clk.aonRuns = true → (s.runAdmin c).clk.isSet = true ∧ (s.runAdmin c).clk.secs = ms / 1000 ∧
      (s.runAdmin c).clk.frac = ms % 1000 * 2 ^ 32 / 1000)) ∧
  (∀ (s : State) (c : Cmd) (h : NvmeHdr) (qid size v cq : Nat) (i : Bool),
    (c.op = .createIoCompletionQueue h qid size v i true true → 0 < qid → qid ≤ s.pairsOf c.fn c.port1 →
      ((s.ctrl c.fn c.port1).cqs.any fun x => x.qid == qid) = false → 2 ≤ size → size ≤ 65536 →
      (v < s.vectors c.fn c.port1 → s.runAdmin c = (s.modCtrl c.fn c.port1 fun k => { k with cqs := k.cqs ++
        [{ qid := qid, size := size, vector := v, ien := i }] }).conclude c.id stOk) ∧
      (s.vectors c.fn c.port1 ≤ v → s.runAdmin c = s.conclude c.id stVector)) ∧
    (c.op = .createIoSubmissionQueue h qid size cq true true → 0 < cq → ((s.ctrl c.fn c.port1).cqs.any fun x => x.qid == cq) = true → 0 < qid →
      qid ≤ s.pairsOf c.fn c.port1 → ((s.ctrl c.fn c.port1).sqs.any fun x => x.qid == qid) = false →
      (2 ≤ size → size ≤ 65536 → s.runAdmin c = (s.modCtrl c.fn c.port1 fun k => { k with sqs := k.sqs ++
        [{ qid := qid, size := size, cq := cq }] }).conclude c.id stOk) ∧
      ((size < 2 ∨ 65536 < size) → s.runAdmin c = s.conclude c.id stQueueSize)) ∧
    (c.op = .createIoSubmissionQueue h qid size cq true true → ((s.ctrl c.fn c.port1).cqs.any fun x => x.qid == cq) = false →
      s.runAdmin c = s.conclude c.id stCqInvalid) ∧
    (c.op = .deleteIoCompletionQueue h qid → 0 < qid → ((s.ctrl c.fn c.port1).cqs.any fun x => x.qid == qid) = true →
      s.runAdmin c = if (s.ctrl c.fn c.port1).sqs.any (fun x => x.cq == qid) then s.conclude c.id stQueueDeletion
        else (s.modCtrl c.fn c.port1 fun k => { k with cqs := k.cqs.filter (fun x => x.qid != qid) }).conclude c.id stOk)) ∧
  (∀ (s : State) (c : Cmd) (qid : Nat), 0 < qid → ((s.ctrl c.fn c.port1).sqs.any fun x => x.qid == qid) = true → c.fn < s.fns.length →
    (s.deleteSq c qid).2 = stOk ∧ (∀ q ∈ ((s.deleteSq c qid).1.ctrl c.fn c.port1).sqs, q.qid ≠ qid) ∧
    ∀ x ∈ (s.deleteSq c qid).1.io.submitted, waitsIn c.fn qid c.port1 x = false) ∧
  (∀ (s : State) (c : Cmd) (h : NvmeHdr) (qid : Nat), c.op = .deleteIoSubmissionQueue h qid →
    s.runAdmin c = (s.deleteSq c qid).1.conclude c.id (s.deleteSq c qid).2) ∧
  (∀ (s : State) (c : Cmd) (h : NvmeHdr) (sq cid : Nat), c.op = .abort h sq cid →
    (∀ x, (s.io.cmds.find? fun x => x.fn == c.fn && x.port1 == c.port1 && x.sq == sq && x.cid == cid && x.phase == .held && x.id != c.id) = some x →
      s.runAdmin c = (s.abortCmd x).conclude c.id stOk [] 0) ∧
    ((∀ x ∈ s.io.cmds, ¬ (x.fn = c.fn ∧ x.port1 = c.port1 ∧ x.sq = sq ∧ x.cid = cid ∧ x.phase = .held)) →
      s.runAdmin c = s.conclude c.id stOk [] 1)) ∧
  (∀ (s : State) (c : Cmd) (h : NvmeHdr), c.op = .asynchronousEventRequest h →
    (∀ e rest, (s.ctrl c.fn c.port1).aen = e :: rest → s.runAdmin c = (s.modCtrl c.fn c.port1 fun k => { k with aen := rest }).conclude c.id stOk [] e) ∧
    ((s.ctrl c.fn c.port1).aen = [] → 8 ≤ (s.ctrl c.fn c.port1).aer.length → s.runAdmin c = s.conclude c.id stAerLimit) ∧
    ((s.ctrl c.fn c.port1).aen = [] → (s.ctrl c.fn c.port1).aer.length < 8 →
      s.runAdmin c = (s.dropCmd c).modCtrl c.fn c.port1 fun k => { k with aer := k.aer ++ [c.cid] })) ∧
  (∀ (s : State) (c : Cmd) (h : NvmeHdr) (csi z k l p : Nat), c.fn = 0 → c.op = .namespaceManagementCreate h csi z k l p →
    s.runAdmin c = (s.nvmeCreate csi z k l p).1.conclude c.id (s.nvmeCreate csi z k l p).2.1 [] (s.nvmeCreate csi z k l p).2.2) ∧
  (∀ (s t : State) (csi z k l p id : Nat), s.nvmeCreate csi z k l p = (t, stOk, id) →
    ∃ n ∈ t.nss, n.nsid = id ∧ n.zoneCount = z / zoneSizeOf s.profile s.widest 1 ∧ n.lbaf = l ∧ n.pi = (if p = 0 then 1 else p) ∧ n.attached = [] ∧
      n.deleted = false ∧ n.origin = 0) ∧
  (∀ (s : State) (csi z k l p : Nat), csi ≠ 2 → s.nvmeCreate csi z k l p = (s, stInvalidField, 0)) ∧
  (∀ (s : State) (c : Cmd) (h : NvmeHdr), c.fn = 0 → c.op = .namespaceManagementDelete h → s.runAdmin c = (s.nvmeDelete c.nsid).1.conclude c.id (s.nvmeDelete c.nsid).2) ∧
  (∀ (s : State) (n : Namespace), s.ns? n.nsid = some n → n.nsid ≠ 0xFFFFFFFF → n.conv = false → (s.nvmeDelete n.nsid).2 = stOk ∧
    ((s.nvmeDelete n.nsid).1.ns? n.nsid).all (fun m => m.deleted && m.attached.isEmpty) = true) ∧
  (∀ (s : State) (c : Cmd) (h : NvmeHdr) (l : List Nat), c.fn = 0 →
    (c.op = .namespaceAttachmentAttach h l → s.runAdmin c = (s.nvmeAttach c.nsid l).1.conclude c.id (s.nvmeAttach c.nsid l).2) ∧
    (c.op = .namespaceAttachmentDetach h l → s.runAdmin c = (s.nvmeDetach c.nsid l).1.conclude c.id (s.nvmeDetach c.nsid l).2)) ∧
  (∀ (s : State) (n : Namespace) (f : Nat), s.ns? n.nsid = some n → f ≤ 128 →
    (n.attached.contains f = false → s.attachable n f = true → (s.nvmeAttach n.nsid [f]).2 = stOk ∧
      ∃ m, (s.nvmeAttach n.nsid [f]).1.ns? n.nsid = some m ∧ f ∈ m.attached) ∧
    (n.attached.contains f = true → s.nvmeAttach n.nsid [f] = (s, stNsAttached) ∧ (s.nvmeDetach n.nsid [f]).2 = stOk ∧
      ∃ m, (s.nvmeDetach n.nsid [f]).1.ns? n.nsid = some m ∧ f ∉ m.attached) ∧
    (n.attached.contains f = false → s.attachable n f = false → s.nvmeAttach n.nsid [f] = (s, stNsPrivate)) ∧
    (n.attached.contains f = false → s.nvmeDetach n.nsid [f] = (s, stNsNotAttached))) ∧
  (∀ (s : State) (c : Cmd) (h : NvmeHdr) (k r v : Nat), c.fn = 0 →
    (c.op = .secondaryControllerOnline h k → k ≤ 128 → s.canGoOnline k = true → s.runAdmin c = (s.modFn k fun f => { f with state := .online }).conclude c.id stOk) ∧
    (c.op = .secondaryControllerOnline h k → s.canGoOnline k = false → s.runAdmin c = s.conclude c.id stCtrlId) ∧
    (c.op = .secondaryControllerOffline h k → 1 ≤ k → k ≤ 128 → (s.fn k).state = .online →
      s.runAdmin c = (s.beginReset k .offline).modCmd c.id fun c => { c with phase := .running }) ∧
    (c.op = .secondaryControllerOffline h k → 1 ≤ k → k ≤ 128 → (s.fn k).state = .offline → s.runAdmin c = (s.instanceInitial k).conclude c.id stOk) ∧
    (c.op = .secondaryControllerAssign h k r v → r ≤ 1 → 1 ≤ k → k ≤ 128 → (effSetAllocation k (r + 1) v s).2.status = 0 →
      s.runAdmin c = (effSetAllocation k (r + 1) v s).1.conclude c.id stOk) ∧
    (c.op = .secondaryControllerAssign h k r v → 1 < r → 1 ≤ k → k ≤ 128 → s.runAdmin c = s.conclude c.id stResourceId)) ∧
  (∀ (s : State) (c : Cmd) (h : NvmeHdr) (l e : Nat), c.fn = 0 → c.op = .formatNvm h l e →
    (s.start.sanitize.isSome = true → s.runAdmin c = s.conclude c.id stSanitize) ∧
    (s.start.sanitize = none → s.media.readPreserve = false → e < 2 → (∃ n ∈ s.nss, n.deleted = false ∧ n.nsid = c.nsid) → c.nsid ≠ 0xFFFFFFFF →
      (∀ n ∈ s.nss, n.deleted = false → n.nsid = c.nsid → n.lbaf = l) → s.runAdmin c = (s.emptyAll false fun n => n.nsid == c.nsid).conclude c.id stOk)) ∧
  (∀ (s : State) (c : Cmd) (h : NvmeHdr), c.fn = 0 → c.op = .cryptoErase h →
    (32 ≤ s.fuses.vaultEpoch → s.runAdmin c = s.conclude c.id stInvalidField) ∧
    (s.fuses.vaultEpoch < 32 → s.start.sanitize = none → (s.runAdmin c).fuses.vaultEpoch = s.fuses.vaultEpoch + 1 ∧
      (s.runAdmin c).start.sanitize.isSome = true ∧ (s.runAdmin c).keys.exports = [] ∧ (s.runAdmin c).pwr.stopped = true ∧
      ∀ k ∈ (s.runAdmin c).keys.slots, dataSlot k.number = true → k.state = .empty)) ∧
  (∀ (i : Instr) (h : NvmeHdr) (a b x y z : Nat) (l : List Nat), (i = .namespaceManagementCreate h a b x y z ∨ i = .namespaceManagementDelete h ∨
    i = .namespaceAttachmentAttach h l ∨ i = .namespaceAttachmentDetach h l ∨ i = .secondaryControllerOnline h a ∨ i = .secondaryControllerOffline h a ∨
    i = .secondaryControllerAssign h a b x ∨ i = .setFeatures h a b ∨ i = .setFeaturesTimestamp h a ∨ i = .setFeaturesPowerManagement h a) →
    atStep4 i = true)

/-- O47. The NVMe-MI commands (R394, R489, R527). While the host complex runs, an NVMe-MI command on the management endpoint, or in band
on function 0 and the port 1 function, is answered with its data; in band on an instance it is refused. Configuration Set keeps a
supported SMBus frequency, and a transmission unit from 64 bytes, and refuses others. The status codes and the identifiers are those that
log entry 8 presumes. -/
def Obligations.ManagementInterface : Prop :=
  (∀ (inBand : Bool) (fn x y : Nat) (b : Bool) (s : State), s.hcxOn = true → s.halted = false → s.dumping = false → inBand = false ∨ fn = 0 →
    exec (.readNvmeMiDataStructure inBand fn 2) s = .next (s.emit (.mi miOk s.controllers)) ∧
    exec (.readNvmeMiDataStructure inBand fn 0) s = .next (s.emit (.mi miOk [if s.dual then 2 else 1, 1, 2])) ∧
    (5 ≤ x → exec (.readNvmeMiDataStructure inBand fn x) s = .next (s.emit (.mi miInvalidParameter []))) ∧
    (∃ a w, exec (.nvmSubsystemHealthStatusPoll inBand fn b) s = .next (s.emit (.mi miOk [bitOf s.ready, w, s.compositeK - 273, s.percentageUsed, a]))) ∧
    (∃ l : List Nat, exec (.controllerHealthStatusPoll inBand fn x y) s = .next (s.emit (.mi miOk l)) ∧
      l.length = 6 * min y (s.controllers.filter fun i => decide (x ≤ i)).length) ∧
    exec (.configurationGet inBand fn 1) s = .next (s.emit (.mi miOk [s.side.freq])) ∧
    exec (.configurationGet inBand fn 3) s = .next (s.emit (.mi miOk [s.side.mtu])) ∧
    (4 ≤ x → exec (.configurationGet inBand fn x) s = .next (s.emit (.mi miInvalidParameter []))) ∧
    (1 ≤ x → x ≤ 3 → exec (.configurationSet inBand fn 1 x) s = .next ((s.modSide fun d => { d with freq := x }).emit (.mi miOk []))) ∧
    (64 ≤ x → x ≤ 250 → exec (.configurationSet inBand fn 3 x) s = .next ((s.modSide fun d => { d with mtu := x }).emit (.mi miOk []))) ∧
    (x = 0 ∨ 3 < x → exec (.configurationSet inBand fn 1 x) s = .next (s.emit (.mi miInvalidParameter []))) ∧
    (x < 64 → exec (.configurationSet inBand fn 3 x) s = .next (s.emit (.mi miInvalidParameter [])))) ∧
  (∀ (fn x y : Nat) (b : Bool) (s : State), s.hcxOn = true → s.halted = false → s.dumping = false → fn ≠ 0 →
    ∀ i, (i = .readNvmeMiDataStructure true fn x ∨ i = .nvmSubsystemHealthStatusPoll true fn b ∨ i = .controllerHealthStatusPoll true fn x y ∨
      i = .configurationGet true fn x ∨ i = .configurationSet true fn x y) → exec i s = .next (s.emit (.mi miInvalidOpcode []))) ∧
  (∀ (inBand b : Bool) (fn x y : Nat) (s : State), s.hcxOn = false ∨ s.halted = true ∨ s.dumping = true →
    ∀ i, (i = .readNvmeMiDataStructure inBand fn x ∨ i = .nvmSubsystemHealthStatusPoll inBand fn b ∨ i = .controllerHealthStatusPoll inBand fn x y ∨
      i = .configurationGet inBand fn x ∨ i = .configurationSet inBand fn x y) → exec i s = .next s)

/-- O48. The opcode of every mailbox command row, and its GO (R408, R411, R412, R416, R419, R421, R502). Each of the 80 mailbox command
rows has the opcode that R419 gives it. Issued in a free mailbox, or at the endpoint, it is validated at once, makes its mailbox busy and
takes the last place in the order of receipt; nothing else that it governs changes before step 4 of the next frame. A mailbox that is busy
or done ignores it and sets GO-while-busy, and the endpoint answers 0x0205. A window that is out of reach, an instance that is resetting
and a device that has stopped take nothing. -/
def Obligations.MailboxCommandsIssued : Prop :=
  (∀ (m : MbxHdr) (s : State), TakesCommand (.getIdentity m) m 0x0001 true s) ∧
  (∀ (m : MbxHdr) (s : State), TakesCommand (.getTime m) m 0x0002 true s) ∧
  (∀ (m : MbxHdr) (seconds fraction : Nat) (s : State), TakesCommand (.setTime m seconds fraction) m 0x0003 true s) ∧
  (∀ (m : MbxHdr) (ident scope : Nat) (s : State), TakesCommand (.getControl m ident scope) m 0x0004 true s) ∧
  (∀ (m : MbxHdr) (ident scope value : Nat) (s : State), TakesCommand (.setControl m ident scope value) m 0x0005 true s) ∧
  (∀ (m : MbxHdr) (s : State), TakesCommand (.getOwnerChallenge m) m 0x0006 true s) ∧
  (∀ (m : MbxHdr) (fn resource value : Nat) (s : State), TakesCommand (.setAllocation m fn resource value) m 0x0101 true s) ∧
  (∀ (m : MbxHdr) (fn : Nat) (s : State), TakesCommand (.getInstance m fn) m 0x0102 true s) ∧
  (∀ (m : MbxHdr) (fn : Nat) (s : State), TakesCommand (.instanceOnline m fn) m 0x0103 true s) ∧
  (∀ (m : MbxHdr) (fn : Nat) (s : State), TakesCommand (.instanceOffline m fn) m 0x0104 true s) ∧
  (∀ (m : MbxHdr) (fn : Nat) (s : State), TakesCommand (.resetInstance m fn) m 0x0105 true s) ∧
  (∀ (m : MbxHdr) (fn : Nat) (deleteNamespaces : Bool) (s : State), TakesCommand (.deleteInstance m fn deleteNamespaces) m 0x0106 true s) ∧
  (∀ (m : MbxHdr) (fn cls : Nat) (constantTime : Bool) (reserved burst t ceiling : Nat) (s : State), TakesCommand (.setContract m fn cls constantTime reserved burst t ceiling) m 0x0107 true s) ∧
  (∀ (m : MbxHdr) (fn : Nat) (s : State), TakesCommand (.getContract m fn) m 0x0108 true s) ∧
  (∀ (m : MbxHdr) (fn : Nat) (enable : Bool) (s : State), TakesCommand (.setExpertEnable m fn enable) m 0x0109 true s) ∧
  (∀ (m : MbxHdr) (nsid fn : Nat) (s : State), TakesCommand (.consentToAttach m nsid fn) m 0x010A true s) ∧
  (∀ (m : MbxHdr) (origin lbaf pi zones segs wmax cls : Nat) (pie : Bool) (permitted active open_ conv : Nat) (s : State), TakesCommand (.createNamespace m origin lbaf pi zones segs wmax cls pie permitted active open_ conv) m 0x0201 true s) ∧
  (∀ (m : MbxHdr) (nsid : Nat) (s : State), TakesCommand (.deleteNamespace m nsid) m 0x0202 true s) ∧
  (∀ (m : MbxHdr) (nsid fn : Nat) (s : State), TakesCommand (.attachNamespace m nsid fn) m 0x0203 true s) ∧
  (∀ (m : MbxHdr) (nsid fn : Nat) (s : State), TakesCommand (.detachNamespace m nsid fn) m 0x0204 true s) ∧
  (∀ (m : MbxHdr) (nsid : Nat) (s : State), TakesCommand (.getNamespace m nsid) m 0x0205 true s) ∧
  (∀ (m : MbxHdr) (nsid : Nat) (setCls setPerm setLimits : Bool) (cls permitted active open_ : Nat) (s : State), TakesCommand (.setNamespaceAttributes m nsid setCls setPerm setLimits cls permitted active open_) m 0x0206 true s) ∧
  (∀ (m : MbxHdr) (cls width grade affinity : Nat) (s : State), TakesCommand (.defineClass m cls width grade affinity) m 0x0207 true s) ∧
  (∀ (m : MbxHdr) (cls : Nat) (s : State), TakesCommand (.deleteClass m cls) m 0x0208 true s) ∧
  (∀ (m : MbxHdr) (nsid zone : Nat) (s : State), TakesCommand (.getZoneRecord m nsid zone) m 0x0209 true s) ∧
  (∀ (m : MbxHdr) (s : State), TakesCommand (.getTransportKey m) m 0x0301 true s) ∧
  (∀ (m : MbxHdr) (index : Nat) (persistent : Bool) (point : PubKey) (s : State), TakesCommand (.establishKek m index persistent point) m 0x0302 true s) ∧
  (∀ (m : MbxHdr) (slot kek : Nat) (persistent saltGiven floorGiven : Bool) (salt : BitVec 32) (floor : Nat) (wrapped : BitVec 320) (s : State), TakesCommand (.loadKey m slot kek persistent saltGiven floorGiven salt floor wrapped) m 0x0303 true s) ∧
  (∀ (m : MbxHdr) (slot : Nat) (s : State), TakesCommand (.eraseKey m slot) m 0x0304 true s) ∧
  (∀ (m : MbxHdr) (nsid slot : Nat) (s : State), TakesCommand (.bindNamespaceKey m nsid slot) m 0x0305 true s) ∧
  (∀ (m : MbxHdr) (slot : Nat) (s : State), TakesCommand (.getSlot m slot) m 0x0306 true s) ∧
  (∀ (m : MbxHdr) (slot : Nat) (destination : Digest) (s : State), TakesCommand (.exportKey m slot destination) m 0x0307 true s) ∧
  (∀ (m : MbxHdr) (first count : Nat) (s : State), TakesCommand (.getKeyRegister m first count) m 0x0308 true s) ∧
  (∀ (m : MbxHdr) (s : State), TakesCommand (.getPatrolStatus m) m 0x0401 true s) ∧
  (∀ (m : MbxHdr) (nsid first count : Nat) (s : State), TakesCommand (.getLossLedger m nsid first count) m 0x0402 true s) ∧
  (∀ (m : MbxHdr) (glun : Nat) (s : State), TakesCommand (.getLunHealth m glun) m 0x0403 true s) ∧
  (∀ (m : MbxHdr) (s : State), TakesCommand (.leaveReadPreserve m) m 0x0404 true s) ∧
  (∀ (m : MbxHdr) (s : State), TakesCommand (.getIdentityCertificate m) m 0x0501 true s) ∧
  (∀ (m : MbxHdr) (nsid zone : Nat) (ownShare : Bool) (s : State), TakesCommand (.treeCheck m nsid zone ownShare) m 0x0502 true s) ∧
  (∀ (m : MbxHdr) (nsid alg : Nat) (extents : List DigestExtent) (ownShare : Bool) (s : State), TakesCommand (.rangeDigest m nsid alg extents ownShare) m 0x0502 true s) ∧
  (∀ (m : MbxHdr) (nsid zone key slot : Nat) (verify ownShare : Bool) (nonce : Digest) (s : State), TakesCommand (.zoneAttestation m nsid zone key slot verify ownShare nonce) m 0x0502 true s) ∧
  (∀ (m : MbxHdr) (nsid alg : Nat) (extents : List DigestExtent) (key slot : Nat) (ownShare : Bool) (nonce : Digest) (s : State), TakesCommand (.rangeAttestation m nsid alg extents key slot ownShare nonce) m 0x0502 true s) ∧
  (∀ (m : MbxHdr) (slot : Nat) (nonce : Digest) (s : State), TakesCommand (.keyBinding m slot nonce) m 0x0502 true s) ∧
  (∀ (m : MbxHdr) (job : Nat) (s : State), TakesCommand (.getFixityResult m job) m 0x0503 true s) ∧
  (∀ (m : MbxHdr) (slot : Nat) (s : State), TakesCommand (.createOwnerAttestationKey m slot) m 0x0504 true s) ∧
  (∀ (m : MbxHdr) (slot : Nat) (s : State), TakesCommand (.deleteOwnerAttestationKey m slot) m 0x0505 true s) ∧
  (∀ (m : MbxHdr) (port : Nat) (s : State), TakesCommand (.getHalyardPort m port) m 0x0601 true s) ∧
  (∀ (m : MbxHdr) (first count : Nat) (s : State), TakesCommand (.listPartners m first count) m 0x0602 true s) ∧
  (∀ (m : MbxHdr) (fp : Digest) (s : State), TakesCommand (.pairPartner m fp) m 0x0603 true s) ∧
  (∀ (m : MbxHdr) (fp : Digest) (s : State), TakesCommand (.unpairPartner m fp) m 0x0604 true s) ∧
  (∀ (m : MbxHdr) (fp : Digest) (s : State), TakesCommand (.releaseQuarantine m fp) m 0x0605 true s) ∧
  (∀ (m : MbxHdr) (fps : List Digest) (s : State), TakesCommand (.setAllowlist m fps) m 0x0606 true s) ∧
  (∀ (m : MbxHdr) (s : State), TakesCommand (.getAllowlist m) m 0x0607 true s) ∧
  (∀ (m : MbxHdr) (destination : Digest) (nsid : Nat) (charge : Bool) (streams : Nat) (zones : List Nat) (s : State), TakesCommand (.startMigration m destination nsid charge streams zones) m 0x0701 true s) ∧
  (∀ (m : MbxHdr) (source : Digest) (nsid cls : Nat) (s : State), TakesCommand (.acceptMigration m source nsid cls) m 0x0702 true s) ∧
  (∀ (m : MbxHdr) (job : Nat) (s : State), TakesCommand (.cancelMigration m job) m 0x0703 true s) ∧
  (∀ (m : MbxHdr) (job : Nat) (s : State), TakesCommand (.getMigrationJob m job) m 0x0704 true s) ∧
  (∀ (m : MbxHdr) (role mode policy cls lag nsid firstZone zoneCount : Nat) (other : Digest) (s : State), TakesCommand (.setMirror m role mode policy cls lag nsid firstZone zoneCount other) m 0x0705 true s) ∧
  (∀ (m : MbxHdr) (rel : Nat) (s : State), TakesCommand (.endMirror m rel) m 0x0706 true s) ∧
  (∀ (m : MbxHdr) (rel : Nat) (s : State), TakesCommand (.promoteMirror m rel) m 0x0707 true s) ∧
  (∀ (m : MbxHdr) (rel : Nat) (s : State), TakesCommand (.getMirror m rel) m 0x0708 true s) ∧
  (∀ (m : MbxHdr) (s : State), TakesCommand (.getPowerStatus m) m 0x0801 true s) ∧
  (∀ (m : MbxHdr) (level : Nat) (s : State), TakesCommand (.setReefLimit m level) m 0x0802 true s) ∧
  (∀ (m : MbxHdr) (interval : Nat) (s : State), TakesCommand (.enterCrowsNest m interval) m 0x0803 true s) ∧
  (∀ (m : MbxHdr) (s : State), TakesCommand (.powerDown m) m 0x0804 true s) ∧
  (∀ (m : MbxHdr) (s : State), TakesCommand (.getThermal m) m 0x0805 true s) ∧
  (∀ (m : MbxHdr) (port : Nat) (s : State), TakesCommand (.getPortStatistics m port) m 0x0901 true s) ∧
  (∀ (m : MbxHdr) (width first count : Nat) (s : State), TakesCommand (.getIncompleteStripeSets m width first count) m 0x0902 true s) ∧
  (∀ (m : MbxHdr) (mast : Nat) (s : State), TakesCommand (.getMastStatus m mast) m 0x0903 true s) ∧
  (∀ (m : MbxHdr) (fns : Nat) (s : State), TakesCommand (.pauseHostDma m fns) m 0x0904 true s) ∧
  (∀ (m : MbxHdr) (fns : Nat) (s : State), TakesCommand (.resumeHostDma m fns) m 0x0905 true s) ∧
  (∀ (m : MbxHdr) (v1 : Nat) (s : State), TakesCommand (.startCapacitanceSelfTest m v1) m 0x0906 true s) ∧
  (∀ (m : MbxHdr) (s : State), TakesCommand (.getInternalResources m) m 0x0907 true s) ∧
  (∀ (m : MbxHdr) (key : PubKey) (s : State), TakesCommand (.takeOwnership m key) m 0x0A01 true s) ∧
  (∀ (m : MbxHdr) (key : PubKey) (s : State), TakesCommand (.transferOwnership m key) m 0x0A02 true s) ∧
  (∀ (m : MbxHdr) (object : Nat) (s : State), TakesCommand (.getSignedObject m object) m 0x0A03 true s) ∧
  (∀ (m : MbxHdr) (object : Nat) (record : DriveRecord) (profile : MediaProfile) (r sg : Nat) (s : State), TakesCommand (.writeSignedObject m object record profile r sg) m 0x0A04 true s) ∧
  (∀ (m : MbxHdr) (s : State), TakesCommand (.formatMedia m) m 0x0A05 true s) ∧
  (∀ (m : MbxHdr) (group : Nat) (s : State), TakesCommand (.restoreDefaultControls m group) m 0x0A06 true s) ∧
  (∀ (m : MbxHdr) (opcode : Nat) (s : State), TakesCommand (.unknownOpcode m opcode) m opcode false s)

/-- O49. Validation, the effect and the answer of mailbox commands, and DONE_CLEAR (R403, R409, R410, R411, R412, R413, R414, R415, R420,
R542, R543, R549). A command is accepted only when every check passes, in their order: an opcode that is not listed fails with 0x0101, a
device that is starting refuses all but the early commands with its stage, an instance fails with 0x0402 and the endpoint with 0x0403 on a
command that is not theirs, a wrong length with 0x0102, a reserved bit with 0x0103, a command for Experts without Expert with 0x0401, a
missing owner signature with 0x0607, a value out of range with 0x0104. At its step a command that failed is answered with its status, the
other takes effect and is answered; a command that waits for its end is answered later. The answer clears BUSY and sets DONE with its
response. A write of 1 to DONE clears it. -/
def Obligations.MailboxAnswers : Prop :=
  (∀ (s : State) (m : MbxHdr) (c : MForm), s.validate m c false = some (errR 0x0101)) ∧
  (∀ (s : State) (m : MbxHdr) (c : MForm), s.validate m c true = none ↔ (s.deviceRefuses c = none ∧ admits c.actors m.via = none ∧
    (m.via = .mctp → m.extReq = false ∧ m.extResp = false) ∧ lengthRefuses m c = none ∧ reservedRefuses m = none ∧ s.tenantRefuses m c = none ∧
    (c.expert = true → s.callerExpert m.via = true) ∧ s.ownerRefuses m c = none ∧ c.bad = none ∧ (m.extResp = true → c.rlen [] ≤ m.extLen) ∧
    s.classRoom .mailbox (bufsOf m) = true)) ∧
  (∀ (s : State) (m : MbxHdr) (c : MForm),
    (s.pwr.dev = .starting → earlyOp c.op = false → s.validate m c true = some (errR 0x0202 0 s.start.stage)) ∧
    (s.deviceRefuses c = none →
      (∀ f mb, m.via = .bar f mb → f ≠ 0 → .t ∉ c.actors → .a ∉ c.actors → s.validate m c true = some (errR 0x0402)) ∧
      (m.via = .mctp → .x ∉ c.actors → .o ∉ c.actors → s.validate m c true = some (errR 0x0403)) ∧
      (m.via = .mctp → m.extReq = true ∨ m.extResp = true → s.validate m c true = some (errR 0x0403)) ∧
      (admits c.actors m.via = none → m.extReq = false → m.extResp = false →
        (4032 < m.len → s.validate m c true = some (errR 0x0107 m.len)) ∧
        (m.len ≤ 4032 → m.trailer = none → c.actors ≠ [.o] → m.len ≠ c.len → s.validate m c true = some (errR 0x0102 c.len)) ∧
        (m.len ≤ 4032 → m.trailer = none → c.actors ≠ [.o] → m.len = c.len → m.rsvdFlags = true → s.validate m c true = some (errR 0x0103 2)) ∧
        (m.len ≤ 4032 → m.trailer = none → c.actors ≠ [.o] → m.len = c.len → m.rsvdFlags = false → m.rsvd = none → isManager m.via = true →
          c.expert = true → s.callerExpert m.via = false → s.validate m c true = some (errR 0x0401)) ∧
        (m.len = c.len → m.len ≤ 4032 → m.trailer = none → c.actors = [.m, .x] → m.rsvdFlags = false → m.rsvd = none → isManager m.via = true →
          m.ownerFlag = false → c.expert = false → ∀ o, c.bad = some o → s.validate m c true = some (errR 0x0104 o))))) ∧
  (∀ (s : State) (m : MbxHdr) (c : MForm), c.actors = [.o] → s.ownerKey = none → s.ownerOk m c = false ∧ s.ownerRefuses m c = some (errR 0x0607)) ∧
  (∀ (s t : State) (v : Via) (b : Mbx) (i : Instr) (m : MbxHdr) (c : MForm) (q : Bool) (r : Resp), s.mbxAt v = some b → b.busy = true →
    b.waiting = false → b.cmd = some i → mbxForm s i = some (m, c) →
    (c.query ≠ q → s.takeEffect q v = s) ∧
    (c.query = q → b.verdict = some r → s.takeEffect q v = s.respond v r) ∧
    (c.query = q → b.verdict = none → (c.ns.any fun id => (s.ns? id).any (fun n => n.deleted)) = false →
      (applyMbx i s = (t, some r) → (256 ≤ r.status ∨ endsDurable i = false) → s.takeEffect q v = t.finishMbx m c r) ∧
      (applyMbx i s = (t, none) → s.takeEffect q v = t.modMbxAt v fun b => { b with waiting := true, effect := t.clk.frame }))) ∧
  (∀ (s : State) (m : MbxHdr) (c : MForm) (r : Resp), (256 ≤ r.status ∨ c.rlen r.fields = 0 ∨ (m.extResp = false ∧ c.rlen r.fields ≤ 4032)) →
    s.finishMbx m c r = s.respond m.via r) ∧
  (∀ (s : State) (m : MbxHdr) (c : MForm) (r : Resp), r.status < 256 → m.extResp = false → 4032 < c.rlen r.fields →
    s.finishMbx m c r = s.respond m.via (errR 0x0107 (c.rlen r.fields))) ∧
  (∀ (s : State) (f mb : Nat) (b : Mbx) (r : Resp), s.mbxAt (.bar f mb) = some b → (s.respond (.bar f mb) r).mbxAt (.bar f mb) = some { b with
    busy := false, done := true, cmd := none, verdict := none, waiting := false, held := none, resp := some r
    effect := if b.waiting then b.effect else s.clk.frame }) ∧
  (∀ (s : State) (b : Mbx) (r : Resp), s.mbxAt .mctp = some b → (s.respond .mctp r).out = s.out ++ [.mctp b.opcode b.tag r] ∧
    ((s.respond .mctp r).mbxAt .mctp).map (fun x => (x.busy, x.done)) = some (false, false)) ∧
  (∀ (fn mb : Nat) (g : Bool) (s : State), hasMailbox (.bar fn mb) = true → s.barOpen fn (s.dual && fn == 0 && decide (2 ≤ mb)) = true →
    exec (.doneClear fn mb g) s = .next (s.modMbxAt (.bar fn mb) fun b => { b with done := false, goWhileBusy := b.goWhileBusy || (g && b.busy) })) ∧
  (∀ (fn mb : Nat) (g : Bool) (s : State), hasMailbox (.bar fn mb) = true → s.barOpen fn (s.dual && fn == 0 && decide (2 ≤ mb)) = false →
    exec (.doneClear fn mb g) s = .next s)

/-- O50. The queries of the mailbox (R412, R419, R420). Every query answers and changes nothing but Get Fixity Result, which gives up the
result of a job that has ended. The clock, instances, contracts, namespaces, zones, slots, the key register, the loss ledger, partners,
ports, masts, power and signed objects are reported as they stand; what is not there fails with 0x0105, and what the caller may not see
with 0x0402 or 0x0405. -/
def Obligations.MailboxQueries : Prop :=
  (∀ (s : State) (m : MbxHdr) (i : Instr) (a b c d : Nat), (i = .getIdentity m ∨ i = .getTime m ∨ i = .getControl m a b ∨ i = .getInstance m a ∨
    i = .getContract m a ∨ i = .getNamespace m a ∨ i = .getZoneRecord m a b ∨ i = .getTransportKey m ∨ i = .getSlot m a ∨ i = .getKeyRegister m a b ∨
    i = .getPatrolStatus m ∨ i = .getLossLedger m a b c ∨ i = .getLunHealth m a ∨ i = .getIdentityCertificate m ∨ i = .getHalyardPort m a ∨
    i = .listPartners m a b ∨ i = .getAllowlist m ∨ i = .getMigrationJob m a ∨ i = .getMirror m a ∨ i = .getPowerStatus m ∨ i = .getThermal m ∨
    i = .getPortStatistics m a ∨ i = .getIncompleteStripeSets m a b c ∨ i = .getMastStatus m a ∨ i = .getInternalResources m ∨
    i = .getSignedObject m d) → ∃ r, applyMbx i s = (s, some r)) ∧
  (∀ (s : State) (m : MbxHdr), s.clk.isSet = true → applyMbx (.getTime m) s =
    (s, some (okR [s.clk.secs, s.clk.frac, 1, s.clk.frame, s.clk.markFrame, s.clk.markSecs, (s.clk.lastKnown.map (fun x => x.1)).getD 0]))) ∧
  (∀ (s : State) (m : MbxHdr), s.clk.isSet = false → ∃ l, applyMbx (.getTime m) s = (s, some (okR l)) ∧ l.take 4 = [0, 0, 0, s.clk.frame]) ∧
  (∀ (s : State) (m : MbxHdr), ∃ l, applyMbx (.getIdentity m) s = (s, some (okR l)) ∧ l[1]? = some 0x3141 ∧ l[3]? = some s.mastN ∧
    l[7]? = some s.record.serial.toNat ∧ l[9]? = some s.clk.poc) ∧
  (∀ (s : State) (m : MbxHdr) (i sc : Nat), controlSpec s i sc = none → applyMbx (.getControl m i sc) s = (s, some (errR 0x0101))) ∧
  (∀ (s : State) (m : MbxHdr) (i sc : Nat) (k : ControlSpec), controlSpec s i sc = some k → scopeOk k.scope sc = true → perRelationship i = false →
    applyMbx (.getControl m i sc) s = (s, some (okR [s.ctlValue i sc, k.dflt, k.lo, k.hi, bitOf k.expert, bitOf k.owner]))) ∧
  (∀ (s : State) (m : MbxHdr) (f : Nat), ∃ l, applyMbx (.getInstance m f) s = (s, some (okR l)) ∧ l[0]? = some (s.fn f).state.num ∧
    l[1]? = some (bitOf (s.fn f).expert) ∧ l[4]? = some (s.allocOf f 1) ∧ l[5]? = some (s.useOf f 1) ∧ l[18]? = some (s.allocOf f 8)) ∧
  (∀ (s : State) (m : MbxHdr) (f : Nat), ∃ l, applyMbx (.getContract m f) s = (s, some (okR l)) ∧
    l.take 5 = [f, classCode (s.fn f).contract.cls, bitOf (s.fn f).contract.constantTime + bitOf (s.fn f).contract.t.isNone 1,
      (s.fn f).contract.reserved, (s.fn f).contract.burst]) ∧
  (∀ (s : State) (m : MbxHdr) (nsid z : Nat), (s.ns? nsid = none → applyMbx (.getNamespace m nsid) s = (s, some (errR 0x0105 nsid)) ∧
      applyMbx (.getZoneRecord m nsid z) s = (s, some (errR 0x0105 nsid))) ∧
    (∀ n, s.ns? nsid = some n → (n.visibleTo m.via = false → applyMbx (.getNamespace m nsid) s = (s, some (errR 0x0405 nsid)) ∧
        applyMbx (.getZoneRecord m nsid z) s = (s, some (errR 0x0405 nsid))) ∧
      (n.visibleTo m.via = true → (∃ l, applyMbx (.getNamespace m nsid) s = (s, some (okR l)) ∧ l.take 4 = [n.origin, n.lbaf, n.pi, n.zoneCount]) ∧
        (n.zoneCount ≤ z → applyMbx (.getZoneRecord m nsid z) s = (s, some (errR 0x0105 z))) ∧
        (z < n.zoneCount → ∃ l, applyMbx (.getZoneRecord m nsid z) s = (s, some (okR l)) ∧ l[0]? = some (n.zone z).state.value ∧
          l[7]? = some (n.zone z).gen ∧ l[8]? = some (n.zone z).wp)))) ∧
  (∀ (s : State) (m : MbxHdr) (n f : Nat), 1 ≤ n → n ≤ 4091 → (s.slot n).owner = some f →
    (isManager m.via = false → callerOf m.via ≠ f → applyMbx (.getSlot m n) s = (s, some (errR 0x0402 n))) ∧
    ((isManager m.via = true ∨ callerOf m.via = f) → ∃ l, applyMbx (.getSlot m n) s = (s, some (okR l)) ∧
      l.take 5 = [(s.slot n).state.num, bitOf (s.slot n).persistent, f, (s.slot n).generation, (s.slot n).keyRef])) ∧
  (∀ (s : State) (m : MbxHdr) (n : Nat), 1 ≤ n → n ≤ 4091 → (s.slot n).owner = none → isManager m.via = true →
    applyMbx (.getSlot m n) s = (s, some (errR 0x0105 n))) ∧
  (∀ (s : State) (m : MbxHdr) (a b n : Nat), (83 < b → applyMbx (.getLossLedger m 0 a b) s = (s, some (errR 0x0104 8))) ∧
    (b ≤ 83 → n ≠ 0 → s.ns? n = none → applyMbx (.getLossLedger m n a b) s = (s, some (errR 0x0105 n))) ∧
    (b ≤ 83 → isManager m.via = true → ∃ r, applyMbx (.getLossLedger m 0 a b) s = (s, some r) ∧
      r.fields = s.media.ledger.length :: ((s.media.ledger.drop a).take b).length :: ((s.media.ledger.drop a).take b).flatMap Loss.fields)) ∧
  (∀ (s : State) (m : MbxHdr) (a b : Nat), ∃ r, applyMbx (.listPartners m a b) s = (s, some r) ∧
    r.fields.head? = some (min b (s.hal.partners.length - a)) ∧ (r.status = 1 ↔ b < s.hal.partners.length - a)) ∧
  (∀ (s : State) (m : MbxHdr), applyMbx (.getAllowlist m) s = (s, some (okR (s.hal.allowlist.length :: s.hal.allowlist.map (fun x => x.toNat))))) ∧
  (∀ (s : State) (m : MbxHdr) (p : Nat), (s.portN ≤ p → applyMbx (.getPortStatistics m p) s = (s, some (errR 0x0105 p))) ∧
    (p < s.portN → ∃ l, applyMbx (.getPortStatistics m p) s = (s, some (okR l)) ∧ l.take 2 = [(s.port p).state.num, (s.port p).overruns]) ∧
    (∃ l, applyMbx (.getHalyardPort m p) s = (s, some (okR l)) ∧ l.take 3 = [(s.hport p).state.num, (s.hport p).rate, (s.hport p).width]) ∧
    (8 ≤ p → applyMbx (.getMastStatus m p) s = (s, some (errR 0x0104 0))) ∧
    (p < 8 → applyMbx (.getMastStatus m p) s = (s, some (okR [(s.mast p).state.num, (s.mast p).faults, bitOf (s.mast p).restartUsed,
      (s.mast p).lastFault, (s.mast p).lastFaultFrame, (s.mast p).cipherFaults])))) ∧
  (∀ (s : State) (m : MbxHdr), (∃ l, applyMbx (.getPowerStatus m) s = (s, some (okR l)) ∧ l.take 3 = [s.reef, s.pwr.hostLimit, bitOf s.nrg.deficit]) ∧
    (∃ l, applyMbx (.getThermal m) s = (s, some (okR l)) ∧ l.length = s.therm.inputs.length + 2)) ∧
  (∀ (s : State) (m : MbxHdr) (j : Nat), (s.job? j = none → applyMbx (.getMigrationJob m j) s = (s, some (errR 0x0105 j))) ∧
    (s.mirror? j = none → applyMbx (.getMirror m j) s = (s, some (errR 0x0105 j))) ∧
    (∀ x, s.job? j = some x → ∃ l, applyMbx (.getMigrationJob m j) s = (s, some (okR l)) ∧ l.take 2 = [x.state.num, bitOf (!x.source)]) ∧
    (∀ x, s.mirror? j = some x → ∃ l, applyMbx (.getMirror m j) s = (s, some (okR l)) ∧ l.take 2 = [bitOf (!x.source), x.mode])) ∧
  (∀ (s : State) (m : MbxHdr) (j : Nat), (s.fix.jobs.find? (fun x => x.job == j) = none → applyMbx (.getFixityResult m j) s = (s, some (errR 0x0105 j))) ∧
    (∀ x, s.fix.jobs.find? (fun x => x.job == j) = some x → (callerOf x.via ≠ callerOf m.via → applyMbx (.getFixityResult m j) s = (s, some (errR 0x0402))) ∧
      (callerOf x.via = callerOf m.via → x.ended = false → ∃ l, applyMbx (.getFixityResult m j) s = (s, some (okR l)) ∧ l.head? = some 0) ∧
      (callerOf x.via = callerOf m.via → x.ended = true → ∃ l, applyMbx (.getFixityResult m j) s =
        (s.modFix fun f => { f with jobs := f.jobs.filter (fun y => y.job != j) }, some (okR l)) ∧ l.take 3 = [1, x.status, x.argument]))) ∧
  (∀ (s : State) (m : MbxHdr), applyMbx (.getTransportKey m) s = (s, some (okR [Config.certificates 1])) ∧
    applyMbx (.getIdentityCertificate m) s = (s, some (okR [Config.certificates 0]))) ∧
  (∀ (s : State) (m : MbxHdr), (s.obj.drive = none → applyMbx (.getSignedObject m 1) s = (s, some (errR 0x0105 1))) ∧
    (∀ r, s.obj.drive = some r → applyMbx (.getSignedObject m 1) s = (s, some (okR (driveMessage r ++ bytesBE 48 r.sigR ++ bytesBE 48 r.sigS)))))

/-- O51. The effects of the manager commands on the device and its instances (R3, R8, R16, R60, R235, R313, R315, R322, R329, R417, R493,
R494). Set Time sets the archive clock from R60's lowest value on; Set Control puts a value in its range into effect, but for an input of a
mast that the part does not have; an owner
challenge is fresh and replaces the last of its mailbox; allocations, contracts and Expert are kept for their function within the device
totals; an instance that can go online does so, and an online one that is reset or taken offline begins its reset; Delete Instance leaves
nothing of it; the reef limit, crow's-nest arming, Power Down, pauses and the capacitance test start; the owner key is burnt, and signed
objects are kept for the next start when they verify; Format Media, once its record is durable, leaves no segment and no block; read-preserve is left when its cause
has gone; attestation keys are created and deleted; controls return to their defaults. -/
def Obligations.ManagerEffects : Prop :=
  (∀ (s : State) (m : MbxHdr) (secs frac : Nat),
    (secs < 1735689600 → applyMbx (.setTime m secs frac) s = (s, some (errR 0x0104 0))) ∧
    (1735689600 ≤ secs → s.clk.aonRuns = false → applyMbx (.setTime m secs frac) s = (s, some (errR 0x0202 0 0x24))) ∧
    (1735689600 ≤ secs → s.clk.aonRuns = true → ∃ t g, applyMbx (.setTime m secs frac) s = (t, some (okR [if s.clk.isSet then s.clk.secs else 0, g])) ∧
      t.clk.isSet = true ∧ t.clk.secs = secs ∧ t.clk.frac = frac ∧ t.clk.frame = s.clk.frame)) ∧
  (∀ (s : State) (m : MbxHdr) (i sc v : Nat) (k : ControlSpec), controlSpec s i sc = some k → scopeOk k.scope sc = true → perRelationship i = false →
    i ≠ ctlAllowlist → i ≠ ctlCharge0 →
    ((v < k.lo ∨ k.hi < v) → applyMbx (.setControl m i sc v) s = (s, some (errR 0x0104 8))) ∧
    (k.lo ≤ v → v ≤ k.hi → settingCombinationBad s i sc v = false → i ≠ ctlSpare → i ≠ ctlHalPort →
      (absentInput s k.scope sc = false → applyMbx (.setControl m i sc v) s = (s.setCtl i sc v, some (okR [v])) ∧ (s.setCtl i sc v).ctlValue i sc = v) ∧
      (absentInput s k.scope sc = true → applyMbx (.setControl m i sc v) s = (s, some (okR [s.ctlValue i sc]))))) ∧
  (∀ (s : State) (m : MbxHdr) (i sc v : Nat), (controlSpec s i sc = none → applyMbx (.setControl m i sc v) s = (s, some (errR 0x0101))) ∧
    (∀ k, controlSpec s i sc = some k → scopeOk k.scope sc = false → applyMbx (.setControl m i sc v) s = (s, some (errR 0x0104 4)))) ∧
  (∀ (s : State) (m : MbxHdr), ∃ t, applyMbx (.getOwnerChallenge m) s = (t, some (okR [(Config.drbg s.keys.draws).toNat])) ∧
    t.keys.challenges.head? = some (m.via, Config.drbg s.keys.draws, s.clk.frame) ∧ t.keys.draws = s.keys.draws + 1 ∧
    ∀ x ∈ t.keys.challenges.tail, x.1 ≠ m.via) ∧
  (∀ (s : State) (m : MbxHdr) (f v : Nat), f < s.fns.length → (s.fn f).alloc.length = 8 →
    (∀ res, 1 ≤ res → res ≤ 6 → applyMbx (.setAllocation m 0 res v) s = (s, some (errR 0x0104 2))) ∧
    (1 ≤ f → 1024 < v → applyMbx (.setAllocation m f 3 v) s = (s, some (errR 0x0104 8))) ∧
    (1 ≤ f → v ≤ 1024 → s.allocOf f 3 < v → s.available f 3 < v → applyMbx (.setAllocation m f 3 v) s = (s, some (errR 0x0301 3))) ∧
    (1 ≤ f → v ≤ 1024 → (v ≤ s.allocOf f 3 ∨ v ≤ s.available f 3) → s.useOf f 3 ≤ v → ∃ t, applyMbx (.setAllocation m f 3 v) s = (t, some (okR [v])) ∧
      (t.fn f).alloc = (s.fn f).alloc.set 2 v ∧ t.nss = s.nss) ∧
    (1 ≤ f → v ≤ 1024 → (v ≤ s.allocOf f 3 ∨ v ≤ s.available f 3) → v < s.useOf f 3 → applyMbx (.setAllocation m f 3 v) s = (s, some (errR 0x0203 3))) ∧
    (1 ≤ f → (s.fn f).state ≠ .offline → v ≤ 256 → applyMbx (.setAllocation m f 1 v) s = (s, some (errR 0x0201 f (s.fn f).state.num)))) ∧
  (∀ (s : State) (m : MbxHdr) (f : Nat), f < s.fns.length →
    (s.canGoOnline f = true → ∃ t, applyMbx (.instanceOnline m f) s = (t, some okR) ∧ (t.fn f).state = .online) ∧
    (s.canGoOnline f = false → applyMbx (.instanceOnline m f) s = (s, some (errR 0x0201 f (s.fn f).state.num))) ∧
    (1 ≤ f → (s.fn f).state = .online → applyMbx (.instanceOffline m f) s = (s.beginReset f .offline, none) ∧
      applyMbx (.resetInstance m f) s = (s.beginReset f .resetInstance, none) ∧ ((s.beginReset f .offline).fn f).state = .resetting ∧
      ((s.beginReset f .offline).fn f).resetCause = some .offline ∧ ((s.beginReset f .offline).fn f).draining = (s.ctlValue ctlResetPolicy f == 0)) ∧
    ((s.fn f).state = .resetting → applyMbx (.instanceOffline m f) s = (s, some (errR 0x0201 f 2)) ∧
      applyMbx (.resetInstance m f) s = (s, some (errR 0x0201 f 2)))) ∧
  (∀ (s : State) (m : MbxHdr) (f : Nat) (b : Bool), 1 ≤ f → f < s.fns.length →
    ((s.fn f).state ≠ .offline → applyMbx (.deleteInstance m f b) s = (s, some (errR 0x0201 f (s.fn f).state.num))) ∧
    ((s.fn f).state = .offline → s.originNs f = [] → ∃ t, applyMbx (.deleteInstance m f b) s = (t, some okR) ∧ (t.fn f).expert = false ∧
      (t.fn f).keks = [] ∧ (t.fn f).alloc = [0, 0, 0, 0, 0, 0, 0, 0] ∧ (t.fn f).contract = {} ∧ t.slotsOf f = [])) ∧
  (∀ (s : State) (m : MbxHdr) (f c r b t g : Nat) (ct : Bool), f < s.fns.length →
    ((960 < r ∨ (c < 2 ∧ r = 0)) → applyMbx (.setContract m f c ct r b t g) s = (s, some (errR 0x0104 4))) ∧
    (r ≤ 960 → 1 ≤ r → (b < r ∨ 1024 < b) → applyMbx (.setContract m f c ct r b t g) s = (s, some (errR 0x0104 6))) ∧
    (1 ≤ r → r ≤ b → b ≤ 1024 → 1 ≤ g → g ≤ 1024 → sumOf (fun x => if x.fn == f then 0 else x.contract.reserved) s.fns + r ≤ 960 →
      ∃ u, applyMbx (.setContract m f c ct r b 0 g) s = (u, some okR) ∧
        (u.fn f).contract = { cls := classOf c, constantTime := ct, reserved := r, burst := b, t := none, ceiling := g })) ∧
  (∀ (s : State) (m : MbxHdr) (f : Nat) (b : Bool), f < s.fns.length → ∃ t, applyMbx (.setExpertEnable m f b) s = (t, some okR) ∧ (t.fn f).expert = b ∧
    ∀ k, k ≠ f → t.fn k = s.fn k) ∧
  (∀ (s : State) (m : MbxHdr) (l n v : Nat),
    (∃ r, applyMbx (.setReefLimit m l) s = (s.modPwr fun p => { p with hostLimit := l }, some r) ∧ r.status = (if l < (s.modPwr fun p => { p with hostLimit := l }).reef then 1 else 0)) ∧
    (s.crowBarred = none → applyMbx (.enterCrowsNest m n) s = (s.modPwr fun p => { p with armed := some n }, some okR)) ∧
    (∀ d, s.crowBarred = some d → applyMbx (.enterCrowsNest m n) s = (s, some (errR 0x0202 0 d))) ∧
    (s.pwr.poweringDown = true → applyMbx (.powerDown m) s = (s, some (errR 0x0202 0 0x22))) ∧
    (s.pwr.poweringDown = false → ∃ t, applyMbx (.powerDown m) s = (t, none) ∧ t.pwr.poweringDown = true ∧ t.pwr.stopped = true ∧ t.pwr.prep = 1) ∧
    (s.nrg.test.isSome = true → applyMbx (.startCapacitanceSelfTest m v) s = (s, none)) ∧
    (s.nrg.test = none → s.selfTestPasses (bankRaw s.record v) = true → ∃ t, applyMbx (.startCapacitanceSelfTest m v) s = (t, none) ∧
      t.nrg.test = some (bankRaw s.record v, s.clk.frame) ∧ t.nrg.huLoad = true)) ∧
  (∀ (s : State) (m : MbxHdr) (fns f : Nat), f ≤ 128 → f < s.fns.length → bit fns f = true →
    ∃ t, applyMbx (.pauseHostDma m fns) s = (t, some okR) ∧ (t.ctrl f false).pCmd = true ∧ t.io = s.io ∧ t.nss = s.nss) ∧
  (∀ (s : State) (m : MbxHdr) (fns : Nat), applyMbx (.resumeHostDma m fns) s =
    (each (fnsOf fns) (fun s x => (s.modCtrl x.1 x.2 fun c => { c with pCmd := false }).resumeFn x.1 x.2) s, some okR)) ∧
  (∀ (s : State) (m : MbxHdr) (key : PubKey), (s.fuses.ownerBanks ≠ [] → applyMbx (.takeOwnership m key) s = (s, some (errR 0x0201 0))) ∧
    (s.fuses.ownerBanks = [] → onCurve key = false → applyMbx (.takeOwnership m key) s = (s, some (errR 0x0601))) ∧
    (s.fuses.ownerBanks = [] → onCurve key = true → ∃ t r, applyMbx (.takeOwnership m key) s = (t, some (okR r)) ∧ t.ownerKey = some key ∧ t.keys.challenges = []) ∧
    (s.fuses.ownerBanks.length = 16 → applyMbx (.transferOwnership m key) s = (s, some (errR 0x0302))) ∧
    (s.fuses.ownerBanks.length < 16 → onCurve key = true → ∃ t r, applyMbx (.transferOwnership m key) s = (t, some (okR r)) ∧ t.ownerKey = some key ∧
      t.fuses.ownerBanks.length = s.fuses.ownerBanks.length + 1)) ∧
  (∀ (s : State) (m : MbxHdr) (d : DriveRecord) (p : MediaProfile) (r g : Nat),
    (s.provision = .unassembled → applyMbx (.writeSignedObject m 1 d p r g) s = (s, some (errR 0x0608))) ∧
    (s.provision ≠ .unassembled → d.revision ≤ max ((s.obj.drive.map (fun x => x.revision)).getD 0) ((s.obj.nextDrive.map (fun x => x.revision)).getD 0) →
      applyMbx (.writeSignedObject m 1 d p r g) s = (s, some (errR 0x0104 12))) ∧
    (s.provision ≠ .unassembled → max ((s.obj.drive.map (fun x => x.revision)).getD 0) ((s.obj.nextDrive.map (fun x => x.revision)).getD 0) < d.revision →
      s.makerSigned (driveMessage { d with sigR := r, sigS := g }) r g = false → applyMbx (.writeSignedObject m 1 d p r g) s = (s, some (errR 0x0608))) ∧
    (s.provision = .formatted → max ((s.obj.drive.map (fun x => x.revision)).getD 0) ((s.obj.nextDrive.map (fun x => x.revision)).getD 0) < d.revision →
      recordOk { d with sigR := r, sigS := g } = true → s.makerSigned (driveMessage { d with sigR := r, sigS := g }) r g = true →
      recordKeeps s.record { d with sigR := r, sigS := g } = true → applyMbx (.writeSignedObject m 1 d p r g) s =
        (s.modObj fun b => { b with nextDrive := some { d with sigR := r, sigS := g } }, some (okR [d.revision])))) ∧
  (∀ (s : State) (m : MbxHdr), (s.provision = .unassembled → applyMbx (.formatMedia m) s = (s, some (errR 0x0202 0 0x10))) ∧
    ((s.provision = .unformatted ∨ s.provision = .formatted) → (∀ j ∈ s.peer.jobs, j.live = false) → s.peer.mirrors = [] →
      (∀ n ∈ s.nss, n.deleted = true) → s.media.readPreserve = false → applyMbx (.formatMedia m) s = (s.log 8 .formatRecord, some okR) ∧
        ∃ t, s.heldEffect (.formatMedia m) okR = (t, okR) ∧ t.obj.formatted = true ∧ t.media.segs = [] ∧ t.media.blocks = [] ∧ t.media.ledger = [])) ∧
  (∀ (s : State) (m : MbxHdr), (s.media.readPreserve = false → applyMbx (.leaveReadPreserve m) s = (s, some okR)) ∧
    (s.media.readPreserve = true → s.media.newerMajor = true ∨ s.availableBlocks < s.reservedBlocks → applyMbx (.leaveReadPreserve m) s = (s, some (errR 0x0202 0 0x20))) ∧
    (s.media.readPreserve = true → s.media.newerMajor = false → s.reservedBlocks ≤ s.availableBlocks → (widthsOf s.variant).all s.obtainable = true →
      ∃ t, applyMbx (.leaveReadPreserve m) s = (t, some okR) ∧ t.media.readPreserve = false)) ∧
  (∀ (s : State) (m : MbxHdr) (k : Nat),
    ((s.keys.ownerKeys.any fun x => x.slot == k) = true → applyMbx (.createOwnerAttestationKey m k) s = (s, some (errR 0x0203 k)) ∧
      ∃ t, applyMbx (.deleteOwnerAttestationKey m k) s = (t, some okR) ∧ ∀ x ∈ t.keys.ownerKeys, x.slot ≠ k) ∧
    ((s.keys.ownerKeys.any fun x => x.slot == k) = false → applyMbx (.deleteOwnerAttestationKey m k) s = (s, some (errR 0x0201 k)) ∧
      ∃ t r, applyMbx (.createOwnerAttestationKey m k) s = (t, some (okR r)) ∧ t.keys.ownerKeys.length = s.keys.ownerKeys.length + 1 ∧
        ∃ x ∈ t.keys.ownerKeys, x.slot = k ∧ x.pub = pubFromPriv x.priv.toNat)) ∧
  (∀ (s : State) (m : MbxHdr) (g : Nat), g ≠ 0 → g ∉ controlGroups → applyMbx (.restoreDefaultControls m g) s = (s, some (errR 0x0104 0))) ∧
  (∀ (s : State) (m : MbxHdr), ∃ t, applyMbx (.restoreDefaultControls m 0) s = (t, some okR) ∧ t.ctl = [] ∧ t.hal.allowlist = [])

/-- O52. The effects of the namespace, class and key commands (R103, R107, R125, R291, R292, R293, R294, R297, R318, R319, R320, R366).
Create Namespace with every attribute at its default makes a namespace of the widest width when the origin's allocations and the device
have room, and fails with the status of the first limit that it exceeds; Delete, Attach, Detach, Consent and Set Namespace Attributes
change what they name; classes are defined and deleted with their checks. A KEK is kept for a point on the curve; Load Key puts an
unwrapped key into a slot of the caller, with a register entry for a key that is new, and fails for another slot, a draining slot, a
missing KEK, a failed unwrap and a key that another slot holds; Erase Key drains a slot that is in use; a namespace is bound to a slot; a
consent to export is kept with its frame. -/
def Obligations.NamespaceAndKeyEffects : Prop :=
  (∀ (s : State) (m : MbxHdr) (l z : Nat), l ≤ 1 → 1 ≤ z → 1 ≤ s.roomOf 0 5 → 1 ≤ s.roomOf 0 6 → 1 ≤ s.roomOf 0 3 → z * s.widest ≤ s.roomOf 0 4 →
    s.nsCount < 1024 → s.reservedBlocks + z * s.widest ≤ s.availableBlocks →
    ∃ t r, applyMbx (.createNamespace m 0 l 1 z 0 0 0 false 0 0 0 0) s = (t, some (okR r)) ∧ r[1]? = some 0 ∧ ∃ n ∈ t.nss, r[0]? = some n.nsid ∧
      n.origin = 0 ∧ n.lbaf = l ∧ n.pi = 1 ∧ n.zoneCount = z ∧ n.segsPerZone = 1 ∧ n.wmax = s.widest ∧ n.cls = 0 ∧ n.permitted = [0, 1] ∧
      n.attached = [] ∧ n.reserved = z * s.widest) ∧
  (∀ (s : State) (m : MbxHdr) (o l z sg w : Nat), (1 < l → applyMbx (.createNamespace m o l 1 z sg w 0 false 0 0 0 0) s = (s, some (errR 0x0104 2))) ∧
    (l ≤ 1 → applyMbx (.createNamespace m o l 1 0 sg w 0 false 0 0 0 0) s = (s, some (errR 0x0104 4))) ∧
    (l ≤ 1 → 1 ≤ z → 16 < sg → applyMbx (.createNamespace m o l 1 z sg w 0 false 0 0 0 0) s = (s, some (errR 0x0104 8))) ∧
    (l ≤ 1 → 1 ≤ z → sg ≤ 16 → w ≠ 0 → w ∉ widthsOf s.variant → applyMbx (.createNamespace m o l 1 z sg w 0 false 0 0 0 0) s = (s, some (errR 0x0104 9)))) ∧
  (∀ (s : State) (m : MbxHdr) (id f : Nat), s.ns? id = none → applyMbx (.deleteNamespace m id) s = (s, some (errR 0x0105 id)) ∧
    applyMbx (.attachNamespace m id f) s = (s, some (errR 0x0105 id)) ∧ applyMbx (.detachNamespace m id f) s = (s, some (errR 0x0105 id)) ∧
    applyMbx (.consentToAttach m id f) s = (s, some (errR 0x0105 id)) ∧ applyMbx (.bindNamespaceKey m id f) s = (s, some (errR 0x0105 id))) ∧
  (∀ (s : State) (m : MbxHdr) (n : Namespace), s.ns? n.nsid = some n →
    (n.conv = true → applyMbx (.deleteNamespace m n.nsid) s = (s, some (errR 0x0201 n.nsid))) ∧
    (n.conv = false → ∃ t, applyMbx (.deleteNamespace m n.nsid) s = (t, some okR) ∧ (t.ns? n.nsid).all (fun k => k.deleted && k.attached.isEmpty) = true)) ∧
  (∀ (s : State) (m : MbxHdr) (n : Namespace) (f : Nat), s.ns? n.nsid = some n →
    (n.attached.contains f = false → s.attachable n f = true → ∃ t, applyMbx (.attachNamespace m n.nsid f) s = (t, some okR) ∧
      ∃ k, t.ns? n.nsid = some k ∧ f ∈ k.attached) ∧
    (n.attached.contains f = false → s.attachable n f = false → applyMbx (.attachNamespace m n.nsid f) s = (s, some (errR 0x0405 n.nsid))) ∧
    (n.attached.contains f = true → ∃ t, applyMbx (.detachNamespace m n.nsid f) s = (t, some okR) ∧ ∃ k, t.ns? n.nsid = some k ∧ f ∉ k.attached) ∧
    (n.attached.contains f = false → applyMbx (.detachNamespace m n.nsid f) s = (s, some (errR 0x0405 n.nsid))) ∧
    (n.origin ≠ callerOf m.via → applyMbx (.consentToAttach m n.nsid f) s = (s, some (errR 0x0405 n.nsid))) ∧
    (n.origin = callerOf m.via → n.origin < s.fns.length → ∃ t, applyMbx (.consentToAttach m n.nsid f) s = (t, some okR) ∧
      (n.nsid, f, s.clk.frame) ∈ (t.fn n.origin).consents)) ∧
  (∀ (s : State) (m : MbxHdr) (n : Namespace) (c p a o : Nat), s.ns? n.nsid = some n → n.conv = false →
    (c ∉ n.permitted → applyMbx (.setNamespaceAttributes m n.nsid true false false c p a o) s = (s, some (errR 0x0104 5))) ∧
    (c = 0 ∨ c = 1 ∨ (∃ k, s.class? c = some k ∧ k.width ≤ n.wmax) → c ∈ n.permitted → ∃ t, applyMbx (.setNamespaceAttributes m n.nsid true false false c p a o) s = (t, some okR) ∧
      ∃ k, t.ns? n.nsid = some k ∧ k.cls = c ∧ k.permitted = n.permitted ∧ k.active = n.active)) ∧
  (∀ (s : State) (m : MbxHdr) (c w g a : Nat), ((c < 2 ∨ 63 < c) → applyMbx (.defineClass m c w g a) s = (s, some (errR 0x0104 0)) ∧
      applyMbx (.deleteClass m c) s = (s, some (errR 0x0104 0))) ∧
    (2 ≤ c → c ≤ 63 → w ∈ widthsOf s.variant → g ≤ 1 → 1 ≤ a → a < 2 ^ s.mastN → (∀ n ∈ s.nss, n.cls ≠ c) → ∃ t, applyMbx (.defineClass m c w g a) s = (t, some okR) ∧
      t.class? c = some { number := c, width := w, archival := g == 1, affinity := a }) ∧
    (2 ≤ c → c ≤ 63 → s.class? c = none → applyMbx (.deleteClass m c) s = (s, some (errR 0x0105 c))) ∧
    (2 ≤ c → c ≤ 63 → (s.class? c).isSome = true → (∀ n ∈ s.nss, n.cls ≠ c) → ∃ t, applyMbx (.deleteClass m c) s = (t, some okR) ∧ t.class? c = none)) ∧
  (∀ (s : State) (m : MbxHdr) (i : Nat) (p : Bool) (pt : PubKey), (onCurve pt = false → applyMbx (.establishKek m i p pt) s = (s, some (errR 0x0601))) ∧
    (onCurve pt = true → callerOf m.via < s.fns.length → ∃ t, applyMbx (.establishKek m i p pt) s = (t, some okR) ∧
      (t.fn (callerOf m.via)).keks.find? (fun k => k.index == i) = some { index := i, key := kekOf s (callerOf m.via) i pt, persistent := p })) ∧
  (∀ (s : State) (m : MbxHdr) (sl k fl : Nat) (p sg fg : Bool) (salt : BitVec 32) (w : BitVec 320),
    ((s.slot sl).owner ≠ some (callerOf m.via) → applyMbx (.loadKey m sl k p sg fg salt fl w) s = (s, some (errR 0x0402 sl))) ∧
    ((s.slot sl).owner = some (callerOf m.via) →
      ((s.slot sl).state = .draining → applyMbx (.loadKey m sl k p sg fg salt fl w) s = (s, some (errR 0x0201 sl 4))) ∧
      ((s.slot sl).state ≠ .draining →
        ((s.fn (callerOf m.via)).keks.find? (fun x => x.index == k) = none → applyMbx (.loadKey m sl k p sg fg salt fl w) s = (s, some (errR 0x0603 sl))) ∧
        (∀ x, (s.fn (callerOf m.via)).keks.find? (fun x => x.index == k) = some x →
          (kwUnwrap (bytesLE 32 x.key.toNat) (bytesLE 40 w.toNat) = none → applyMbx (.loadKey m sl k p sg fg salt fl w) s = (s, some (errR 0x0602))) ∧
          (∀ raw, kwUnwrap (bytesLE 32 x.key.toNat) (bytesLE 40 w.toNat) = some raw →
            (∀ ref o, s.refOf (keyFingerprint raw) = some ref → s.refHolder ref sl = some o →
              applyMbx (.loadKey m sl k p sg fg salt fl w) s = (s, some (errR 0x0203 o))) ∧
            (∀ ref, s.refOf (keyFingerprint raw) = none → s.nextRef = some ref → (s.slot sl).state = .empty →
              ∃ t l, applyMbx (.loadKey m sl k p true false salt fl w) s = (t, some (okR l)) ∧ l.head? = some ref ∧
                t.keys.register = s.keys.register ++ [{ number := ref, tenant := true, salt := salt, fp := keyFingerprint raw }] ∧
                (t.slot sl).keyRef = ref ∧ (t.slot sl).persistent = p ∧ ((t.slot sl).state = .active ∨ (t.slot sl).state = .limited)) ∧
            (s.refOf (keyFingerprint raw) = none → s.nextRef = none → applyMbx (.loadKey m sl k p sg fg salt fl w) s = (s, some (errR 0x0306)))))))) ∧
  (∀ (s : State) (m : MbxHdr) (sl : Nat), (s.slot sl).owner = some (callerOf m.via) ∨ (isManager m.via = true ∧ (s.slot sl).owner.isSome = true) →
    ((s.slot sl).state = .draining → applyMbx (.eraseKey m sl) s = (s, some (errR 0x0201 sl 4))) ∧
    (((s.slot sl).state = .active ∨ (s.slot sl).state = .limited) → ∃ t r, applyMbx (.eraseKey m sl) s = (t, some r) ∧ (t.slot sl).state = .draining ∧
      (t.slot sl).newKey = none ∧ (t.slot sl).generation = (s.slot sl).generation + 1) ∧
    ((s.slot sl).state = .awaiting → ∃ t r, applyMbx (.eraseKey m sl) s = (t, some r) ∧ (t.slot sl).state = .empty ∧ (t.slot sl).keyRef = 0xFFFF)) ∧
  (∀ (s : State) (m : MbxHdr) (n : Namespace) (sl : Nat), s.ns? n.nsid = some n → n.attached.contains (callerOf m.via) = true →
    (∃ t r, applyMbx (.bindNamespaceKey m n.nsid 0) s = (t, some r) ∧ r.fields = [0] ∧ ∃ k, t.ns? n.nsid = some k ∧ k.bound = .none) ∧
    (1 ≤ sl → sl ≤ 4091 → (s.slot sl).owner = some (callerOf m.via) → ∃ t r, applyMbx (.bindNamespaceKey m n.nsid sl) s = (t, some r) ∧
      ∃ k, t.ns? n.nsid = some k ∧ k.bound = .slot sl) ∧
    (1 ≤ sl → sl ≤ 4091 → (s.slot sl).owner ≠ some (callerOf m.via) → applyMbx (.bindNamespaceKey m n.nsid sl) s = (s, some (errR 0x0402 sl)))) ∧
  (∀ (s : State) (m : MbxHdr) (sl : Nat) (d : Digest),
    ((s.slot sl).owner ≠ some (callerOf m.via) → applyMbx (.exportKey m sl d) s = (s, some (errR 0x0402 sl))) ∧
    ((s.slot sl).owner = some (callerOf m.via) → ((s.slot sl).state = .active ∨ (s.slot sl).state = .limited) → s.peer.jobs = [] →
      ∃ t, applyMbx (.exportKey m sl d) s = (t, some okR) ∧ (sl, d, s.clk.frame) ∈ t.keys.exports ∧ t.keys.slots = s.keys.slots))

/-- O53. The effects of the Halyard, migration and mirror commands (R344, R350, R352, R361, R362, R363, R376, R379, R380, R384, R385).
Pair Partner pairs a Known partner, and fails where the policy is the allowlist, for a fingerprint without a record and for one that is
not Known; Unpair removes the pairing record; Release Quarantine ends a quarantine; Set Allowlist replaces the list. Start Migration makes
an Offered job of the named zones that are Full or Read Only, the others refused; Accept Migration makes an empty namespace that is not
attached a landing namespace; Cancel Migration stops a live job. Set Mirror makes a relationship with its defaults, End Mirror at the
source and Promote Mirror at the partner end it. -/
def Obligations.PeerCommandEffects : Prop :=
  (∀ (s : State) (m : MbxHdr) (fp : Digest), (s.ctlValue ctlPairPolicy = 1 → applyMbx (.pairPartner m fp) s = (s, some (errR 0x0404))) ∧
    (s.ctlValue ctlPairPolicy ≠ 1 → s.partner? fp = none → applyMbx (.pairPartner m fp) s = (s, some (errR 0x0701))) ∧
    (∀ p, s.ctlValue ctlPairPolicy ≠ 1 → s.partner? fp = some p →
      (s.hasPairing fp = true → applyMbx (.pairPartner m fp) s = (s, some okR)) ∧
      (s.hasPairing fp = false → p.state ≠ .known → applyMbx (.pairPartner m fp) s = (s, some (errR 0x0201 0 p.state.num))) ∧
      (s.hasPairing fp = false → p.state = .known → s.hal.pairings.length < 64 → ∃ t, applyMbx (.pairPartner m fp) s = (t, some okR) ∧
        t.hal.pairings = s.hal.pairings ++ [(fp, false)]))) ∧
  (∀ (s : State) (m : MbxHdr) (fp : Digest), (s.hasPairing fp = false → applyMbx (.unpairPartner m fp) s = (s, some (errR 0x0701))) ∧
    (s.hasPairing fp = true → ∃ t, applyMbx (.unpairPartner m fp) s = (t, some okR) ∧ t.hasPairing fp = false) ∧
    (s.inQuarantine fp = false → applyMbx (.releaseQuarantine m fp) s = (s, some (errR 0x0105))) ∧
    (s.inQuarantine fp = true → ∃ t, applyMbx (.releaseQuarantine m fp) s = (t, some okR) ∧ t.inQuarantine fp = false)) ∧
  (∀ (s : State) (m : MbxHdr) (l : List Digest), ∃ t, applyMbx (.setAllowlist m l) s = (t, some okR) ∧ t.hal.allowlist = l ∧
    ((∀ fp ∈ l, (s.partner? fp).all (fun p => p.state != .known) = true) → t.hal.pairings = s.hal.pairings)) ∧
  (∀ (s : State) (m : MbxHdr) (d : Digest) (nsid st : Nat) (ch : Bool) (zs : List Nat),
    (∀ r, s.noStart d = some r → applyMbx (.startMigration m d nsid ch st zs) s = (s, some r)) ∧
    (s.noStart d = none → s.ns? nsid = none → applyMbx (.startMigration m d nsid ch st zs) s = (s, some (errR 0x0105 nsid))) ∧
    (∀ n, s.noStart d = none → s.ns? nsid = some n → (n.conv = true ∨ n.landing = true) →
      applyMbx (.startMigration m d nsid ch st zs) s = (s, some (errR 0x0201 nsid))) ∧
    (∀ n, s.noStart d = none → s.ns? nsid = some n → n.conv = false → n.landing = false → (∀ z ∈ zs, z < n.zoneCount) → zs ≠ [] →
      ∃ t id, applyMbx (.startMigration m d nsid ch st zs) s = (t, some (okR [id])) ∧ id = s.record.serial.toNat % 2 ^ 31 * 2 ^ 32 + s.peer.next ∧
        t.peer.next = s.peer.next + 1 ∧ ∃ j ∈ t.peer.jobs, j.ident = id ∧ j.source = true ∧ j.partner = d ∧ j.nsid = nsid ∧ j.state = .offered ∧
          ∀ x ∈ j.zones, x.zone ∈ zs ∧ (x.phase = 4 ↔ (n.zone x.zone).sendable = false))) ∧
  (∀ (s : State) (m : MbxHdr) (d : Digest) (nsid c : Nat), ((s.isPaired d || s.hasPairing d) = false →
      applyMbx (.acceptMigration m d nsid c) s = (s, some (errR 0x0701))) ∧
    (∀ r, (s.isPaired d || s.hasPairing d) = true → s.landable nsid = some r → applyMbx (.acceptMigration m d nsid c) s = (s, some r)) ∧
    (∀ n k, (s.isPaired d || s.hasPairing d) = true → s.landable nsid = none → s.ns? nsid = some n → s.classFields n c = some k →
      (∀ j ∈ s.peer.jobs, ¬ (j.source = false ∧ j.state = .offered ∧ j.partner = d)) → ∃ t, applyMbx (.acceptMigration m d nsid c) s = (t, some (okR [0])) ∧
        t.peer.landings = s.peer.landings ++ [{ source := d, nsid := nsid, cls := c }] ∧ ∃ x, t.ns? nsid = some x ∧ x.landing = true)) ∧
  (∀ (s : State) (m : MbxHdr) (id : Nat), (s.job? id = none → applyMbx (.cancelMigration m id) s = (s, some (errR 0x0105 id))) ∧
    (∀ j, s.job? id = some j → (j.live = false → applyMbx (.cancelMigration m id) s = (s, some (errR 0x0201 id j.state.num))) ∧
      (j.live = true → ∃ t, applyMbx (.cancelMigration m id) s = (t, some okR) ∧ ∃ x, t.job? id = some x ∧ x.state = .stopped ∧ x.cause = 0))) ∧
  (∀ (s : State) (m : MbxHdr) (mode pol c nsid a k : Nat) (d : Digest), (∀ r, s.noStart d = some r →
      applyMbx (.setMirror m 0 mode pol c 0 nsid a k d) s = (s, some r)) ∧
    (∀ n, s.noStart d = none → s.ns? nsid = some n → n.conv = false → n.landing = false → 1 ≤ k → a + k ≤ n.zoneCount → s.peer.mirrors.length < 64 →
      ∃ t id, applyMbx (.setMirror m 0 mode pol c 0 nsid a k d) s = (t, some (okR [id])) ∧ ∃ x ∈ t.peer.mirrors, x.ident = id ∧ x.source = true ∧
        x.other = d ∧ x.nsid = nsid ∧ x.firstZone = a ∧ x.zoneCount = k ∧ x.mode = mode ∧ x.lagLimit = 262144 ∧
        x.policy = (if pol = 0xFF then none else some pol) ∧ x.accepted = false ∧ x.broken = false)) ∧
  (∀ (s : State) (m : MbxHdr) (id : Nat), (s.mirror? id = none → applyMbx (.endMirror m id) s = (s, some (errR 0x0105 id)) ∧
      applyMbx (.promoteMirror m id) s = (s, some (errR 0x0105 id))) ∧
    (∀ x, s.mirror? id = some x → (x.source = true → applyMbx (.promoteMirror m id) s = (s, some (errR 0x0201 id)) ∧
        ∃ t, applyMbx (.endMirror m id) s = (t, some okR) ∧ t.mirror? id = none) ∧
      (x.source = false → (x.ended = false → applyMbx (.endMirror m id) s = (s, some (errR 0x0201 id))) ∧
        ∃ t, applyMbx (.promoteMirror m id) s = (t, some okR) ∧ t.mirror? id = none)))

/-- O54. The acceptance of Halyard packets, and what each does (R335, R337, R338, R339, R343, R344, R345, R350, R352, R354, R355). Every
row that receives a packet: a link that is Down or training takes nothing, a sequence other than the next one is answered with a Nak, a
packet without a credit is a violation, a Quarantined link refuses a Hail or a probe, and a type that the state of the link does not carry
is taken and discarded. Accepted: an Ack frees what it acknowledges and adds its credits; a Nak sends everything after the packet that it
names again, and the eighth in a row retrains; an Echo request is answered, a reply gives the flight time; a probe for this device is
answered with a new label, and one from a quarantined device refused; a reply joins the labels or opens the path; Path down drops a label;
a Departure suspends the operations with the partner; a Refuse ends its request; a reserved type is a violation under a session. -/
def Obligations.HalyardPackets : Prop :=
  (∀ (port seq l a b c : Nat) (hl : Hail) (key : PubKey) (rnd key2 : Digest) (f1 f2 : Bool) (s : State),
    Discards (.hail port seq none hl) port seq 0x01 1 s ∧
    Discards (.hail port seq (some l) hl) port seq 0x10 1 s ∧
    Discards (.authCertificateChain port seq none a f1 key f2) port seq 0x02 1 s ∧
    Discards (.authCertificateChain port seq (some l) a f1 key f2) port seq 0x10 1 s ∧
    Discards (.authKeyShare port seq none key rnd) port seq 0x02 1 s ∧
    Discards (.authKeyShare port seq (some l) key rnd) port seq 0x10 1 s ∧
    Discards (.authSignature port seq none a b) port seq 0x02 1 s ∧
    Discards (.authSignature port seq (some l) a b) port seq 0x10 1 s ∧
    Discards (.authDone port seq (some l)) port seq 0x10 1 s ∧
    Discards (.ackAndCredit port seq a b c) port seq 0x03 1 s ∧
    Discards (.nak port seq a b) port seq 0x04 1 s ∧
    Discards (.echoRequest port seq a) port seq 0x05 1 s ∧
    Discards (.echoReply port seq a b c) port seq 0x06 1 s ∧
    Discards (.pathProbe port seq l a rnd key2 b c f1) port seq 0x07 1 s ∧
    Discards (.pathReply port seq l rnd key2 a b c) port seq 0x08 1 s ∧
    Discards (.pathDown port seq l a rnd) port seq 0x09 1 s ∧
    Discards (.departure port seq a b) port seq 0x0A 1 s ∧
    Discards (.rekeyKeyShare port seq key rnd a b) port seq 0x0B 1 s ∧
    Discards (.rekeySignature port seq a b) port seq 0x0B 1 s ∧
    Discards (.refuse port seq l a b rnd) port seq 0x0C 1 s ∧
    Discards (.reservedPacketType port seq a) port seq a 1 s ∧
    True) ∧
  (∀ (port seq a ctl req : Nat) (s u : State), s.accepts port seq 0x03 1 = true →
    u = (s.took port 0x03 1).modHport port (fun p => { p.ack a with ctlCredits := p.ctlCredits + ctl, reqCredits := p.reqCredits + req }) →
    exec (.ackAndCredit port seq a ctl req) s = .next (State.flushPort (u.hport port).wait.length port u)) ∧
  (∀ (p : HPort) (a : Nat), a ≠ 2 ^ 64 - 1 → ¬ (p.auth.doneSent = true ∧ p.auth.doneGot = false) →
    (∀ k, k ∈ (p.ack a).txq ↔ (k ∈ p.txq ∧ a < k.seq + k.count - 1)) ∧ (p.ack a).oldq = p.oldq) ∧
  (∀ (port : Nat) (k : TxPkt) (s : State), carries (s.hport port).state k.ptype = true → freePacket k.ptype = false →
    ((s.hport port).wait = [] → k.count ≤ (s.hport port).ctlCredits →
      s.tx port k = (s.modHport port fun p => { p with ctlCredits := p.ctlCredits - k.count }).put port k) ∧
    (((s.hport port).wait ≠ [] ∨ (s.hport port).ctlCredits < k.count) → s.tx port k = s.modHport port fun p => { p with wait := p.wait ++ [k] })) ∧
  (∀ (port seq a r run : Nat) (s u : State), s.accepts port seq 0x04 1 = true →
    run = (if (s.hport port).nakSeq = some a then (s.hport port).nakRun + 1 else 1) →
    u = (s.took port 0x04 1).modHport port (fun p => { p.ack a with nakRun := run, nakSeq := some a }) → port < s.hal.ports.length →
    (run < 8 → exec (.nak port seq a r) s = .next (u.resend port)) ∧ (8 ≤ run → exec (.nak port seq a r) s = .next (u.retrain port))) ∧
  (∀ (port seq n : Nat) (s u : State), s.accepts port seq 0x05 1 = true → u = s.took port 0x05 1 →
    exec (.echoRequest port seq n) s = .next (u.tx port { seq := 0, ptype := 0x06, args := [n, Config.freeNat u.fresh] }).bump) ∧
  (∀ (port seq n t rt : Nat) (s : State), s.accepts port seq 0x06 1 = true → port < s.hal.ports.length →
    ((s.hport port).echoOut = some n → Answers (exec (.echoReply port seq n t rt) s) fun u => (u.hport port).flight = (rt - t) / 2 ∧
      (u.hport port).echoOut = none ∧ (u.hport port).rxNext = seq + 1) ∧
    ((s.hport port).echoOut ≠ some n → exec (.echoReply port seq n t rt) s = .next (s.took port 0x06 1))) ∧
  (∀ (port seq lb hops num lat l : Nat) (o : Digest) (w : Bool) (s u v : State), s.accepts port seq 0x07 1 = true → u = s.took port 0x07 1 →
    ((u.inQuarantine s.ownFp || u.inQuarantine o) = true → exec (.pathProbe port seq lb hops s.ownFp o num lat w) s = .next (u.refuse port 0 2 0)) ∧
    (u.inQuarantine s.ownFp = false → u.inQuarantine o = false → (u.hal.seen.any fun e => e.1 == o && e.2.1 == num && decide (u.clk.frame < e.2.2 + 64)) = false →
      u.freeLabel port = some l → u.ensurePartner o = some v → exec (.pathProbe port seq lb hops s.ownFp o num lat w) s =
        .next ((v.modHal fun h => { h with
          seen := h.seen ++ [(o, num, v.clk.frame)]
          labels := h.labels ++ [{ inPort := port, inLabel := l, origin := o, number := num, partner := o, latency := lat + (u.hport port).hopNs, hops := hops }] }).tx
            port { seq := 0, ptype := 0x08, label := l, args := [s.ownFp.toNat, o.toNat, num, lat + (u.hport port).hopNs, hops] }))) ∧
  (∀ (port seq lb hops num lat : Nat) (t o : Digest) (w : Bool) (s u : State), s.accepts port seq 0x07 1 = true → u = s.took port 0x07 1 →
    u.inQuarantine t = false → u.inQuarantine o = false → t ≠ s.ownFp →
    (s.ctlValue ctlRelaying ≠ 1 ∨ 255 ≤ hops ∨ s.pathBudget < lat + (u.hport port).hopNs) → exec (.pathProbe port seq lb hops t o num lat w) s = .next u) ∧
  (∀ (port seq lb num lat hops : Nat) (t : Digest) (s u v : State), s.accepts port seq 0x08 1 = true → u = s.took port 0x08 1 →
    ((u.hal.probes.any fun p => p.number == num && p.target == t) = false → exec (.pathReply port seq lb t s.ownFp num lat hops) s = .next u) ∧
    ((u.hal.probes.any fun p => p.number == num && p.target == t) = true → u.ensurePartner t = some v →
      (((v.partner? t).getD { fp := t }).auth.session = true ∨ ((v.partner? t).getD { fp := t }).auth.hailSent = true) →
      Answers (exec (.pathReply port seq lb t s.ownFp num lat hops) s) fun x => (∀ p ∈ x.hal.probes, p.number ≠ num) ∧
        ({ inPort := port, inLabel := lb, origin := s.ownFp, number := num, partner := t, latency := lat, hops := hops } : Label) ∈ x.hal.labels)) ∧
  (∀ (port seq lb num lat hops : Nat) (t o : Digest) (k : Label) (s u : State), s.accepts port seq 0x08 1 = true → u = s.took port 0x08 1 → o ≠ s.ownFp →
    (u.hal.labels.find? fun l => l.outPort == some port && l.outLabel.isNone && l.origin == o && l.number == num) = some k →
    exec (.pathReply port seq lb t o num lat hops) s = .next ((u.modHal fun h => { h with
      labels := updIf (fun x => x == k) (fun x => { x with outLabel := some lb }) h.labels }).tx k.inPort
        { seq := 0, ptype := 0x08, label := k.inLabel, args := [t.toNat, o.toNat, num, lat, hops] })) ∧
  (∀ (port seq lb r : Nat) (sd : Digest) (k : Label) (s u : State), s.accepts port seq 0x09 1 = true → u = (s.took port 0x09 1).raise (halSrc port 10) 1 1 [lb] →
    ((u.hal.labels.find? fun l => l.inPort == port && l.inLabel == lb || l.outPort == some port && l.outLabel == some lb) = none →
      exec (.pathDown port seq lb r sd) s = .next u) ∧
    ((u.hal.labels.find? fun l => l.inPort == port && l.inLabel == lb || l.outPort == some port && l.outLabel == some lb) = some k →
      u.relayOf port lb = none → exec (.pathDown port seq lb r sd) s = .next (u.dropLabel k))) ∧
  (∀ (port seq r poc : Nat) (fp : Digest) (p : Partner) (s : State), s.accepts port seq 0x0A 1 = true → (s.hport port).neighbour = some fp →
    s.partner? fp = some p → s.peer.jobs = [] → Answers (exec (.departure port seq r poc) s) fun t =>
      ∃ q, t.partner? fp = some q ∧ q.asleep = (r == 2) ∧ q.departed = (r != 2) ∧ q.poc = poc ∧ q.state = p.state) ∧
  (∀ (port seq lb r tag : Nat) (sd : Digest) (s u : State), s.accepts port seq 0x0C 1 = true → u = s.took port 0x0C 1 →
    (u.hal.reqs.find? fun x => x.port == port && x.label == lb && x.tag == tag && tag != 0) = none → u.relayOf port lb = none →
    exec (.refuse port seq lb r tag sd) s = .next u) ∧
  (∀ (port seq lb r tag : Nat) (sd : Digest) (x : HReq) (s u : State), s.accepts port seq 0x0C 1 = true → u = s.took port 0x0C 1 →
    (u.hal.reqs.find? fun x => x.port == port && x.label == lb && x.tag == tag && tag != 0) = some x → x.relay = none →
    exec (.refuse port seq lb r tag sd) s =
      .next ((u.dropHReqs fun x => x.port == port && x.label == lb && x.tag == tag && tag != 0).loseStream x.ident (port, lb))) ∧
  (∀ (port seq t : Nat) (s : State), s.accepts port seq t 1 = true →
    ((s.hport port).auth.session = true → exec (.reservedPacketType port seq t) s = .next ((s.took port t 1).violation port)) ∧
    ((s.hport port).auth.session = false → exec (.reservedPacketType port seq t) s = .next (s.took port t 1))) ∧
  (∀ (port seq : Nat) (s : State), port < 3 → (s.hport port).state ≠ .down → (s.hport port).state ≠ .training →
    exec (.tagOrCrcFailure port seq true) s = .next (s.sendNak port 2) ∧
    Answers (exec (.tagOrCrcFailure port seq false) s) fun t => t.nss = s.nss ∧ t.media.blocks = s.media.blocks ∧ t.clk = s.clk) ∧
  (∀ (port seq : Nat) (o : Bool) (s : State), port < 3 → ((s.hport port).state = .down ∨ (s.hport port).state = .training) →
    exec (.tagOrCrcFailure port seq o) s = .next s)

/-- O55. The states of a Halyard link, its timers and the wake pattern (R333, R338, R343, R344, R347, R352, R353, R357, R358, R359). A
port that runs looks for a receiver once in 62,500 frames and trains when there is one; a foreign link number takes it to Down for 62,500
frames. Training that ends in time leads to Hailing with the Hail sent and both sequences at 0, or, after a retrain, back to the earlier
state with what is not acknowledged sent again. A link that has been training for 12,500, hailing for 625, authenticating for 6,250 or
retraining for 6,250 frames, or silent for four, goes to Down. The quarantine ends after its time, L starts a rekey after its interval,
the flight time is measured again after 62,500 frames, a probe without an answer is sent once more with the wake flag, the wake pattern
repeats until it has timed out, and one that comes wakes the device from crow's-nest mode or trains a port that is Down. -/
def Obligations.HalyardLinks : Prop :=
  (∀ (port : Nat) (found : Bool) (s : State), port < 3 → (s.hport port).state = .down → s.portRuns port = true → (s.hport port).foreignUntil = none →
    ((s.hport port).lastDetect = none ∨ ∃ f, (s.hport port).lastDetect = some f ∧ f + 62500 ≤ s.clk.frame) →
    (found = true → exec (.receiverDetection port found) s = .next ((s.modHport port fun p => { p with lastDetect := some s.clk.frame }).train port)) ∧
    (found = false → exec (.receiverDetection port found) s = .next (s.modHport port fun p => { p with lastDetect := some s.clk.frame }))) ∧
  (∀ (port : Nat) (found : Bool) (s : State), port < 3 → ((s.hport port).state ≠ .down ∨ s.portRuns port = false) → exec (.receiverDetection port found) s = .next s) ∧
  (∀ (port : Nat) (s : State), port < s.hal.ports.length → ((s.train port).hport port).state = .training ∧ ((s.train port).hport port).since = s.clk.frame) ∧
  (∀ (port n : Nat) (s : State), port < 3 → port < s.hal.ports.length → (s.hport port).state = .training → n ≠ 0x48 →
    Answers (exec (.foreignLinkNumber port n) s) fun t => (t.hport port).state = .down ∧ (t.hport port).foreignUntil = some (s.clk.frame + 62500)) ∧
  (∀ (port : Nat) (s : State), port < 3 → (s.hport port).state = .training → exec (.foreignLinkNumber port 0x48) s = .next s) ∧
  (∀ (port f : Nat) (s : State), port < 3 → (s.hport port).foreignUntil = some f →
    (f ≤ s.clk.frame → s.portRuns port = true → exec (.foreignLinkRetry port) s = .next ((s.modHport port fun p => { p with foreignUntil := none }).train port)) ∧
    (s.clk.frame < f → exec (.foreignLinkRetry port) s = .next s)) ∧
  (∀ (port rate w : Nat) (s : State), port < 3 → port < s.hal.ports.length → (s.hport port).state = .training → (s.hport port).before = none →
    s.clk.frame ≤ (s.hport port).since + 12500 → Answers (exec (.trainingComplete port rate w) s) fun t => (t.hport port).state = .hailing ∧
      (t.hport port).rate = rate ∧ (t.hport port).width = w ∧ (t.hport port).rxNext = 0 ∧ (t.hport port).txSeq = 1 ∧
      (t.hport port).txq = [{ seq := 0, ptype := 0x01, args := hailBytes (s.ownHail port) }] ∧ (t.hport port).ctlCredits = 0) ∧
  (∀ (port rate w : Nat) (st : LinkState) (s : State), port < 3 → port < s.hal.ports.length → (s.hport port).state = .training →
    (s.hport port).before = some st → s.clk.frame ≤ (s.hport port).since + 6250 → Answers (exec (.trainingComplete port rate w) s) fun t =>
      (t.hport port).state = st ∧ (t.hport port).before = none ∧ (t.hport port).txq = (s.hport port).txq ∧ (t.hport port).auth = (s.hport port).auth ∧
      (t.hport port).rxNext = (s.hport port).rxNext) ∧
  (∀ (port rate w : Nat) (s : State), port < 3 → ((s.hport port).state ≠ .training ∨ (s.hport port).since + 12500 < s.clk.frame) →
    exec (.trainingComplete port rate w) s = .next s) ∧
  (∀ (port : Nat) (s : State), port < 3 →
    ((s.hport port).state = .training → (s.hport port).before = none → (s.hport port).since + 12500 ≤ s.clk.frame → exec (.trainingTimeout port) s = .next (s.goDown port)) ∧
    ((s.hport port).state = .hailing → (s.hport port).since + 625 ≤ s.clk.frame → exec (.hailTimeout port) s = .next (s.goDown port)) ∧
    ((s.hport port).state = .authenticating → (s.hport port).since + 6250 ≤ s.clk.frame → exec (.authenticationTimeout port) s = .next (s.goDown port)) ∧
    ((s.hport port).state = .training → (s.hport port).before.isSome = true → (s.hport port).since + 6250 ≤ s.clk.frame →
      exec (.retrainTimeout port) s = .next ((s.goDown port).raise (halSrc port 6) 2 1 [(((s.hport port).txq.head?.map (fun k => k.seq)).getD (s.hport port).txSeq) - 1])) ∧
    (((s.hport port).state = .authenticating ∨ (s.hport port).up = true) → 4 ≤ (s.hport port).silent → exec (.linkSilence port) s = .next (s.goDown port)) ∧
    ((s.hport port).silent < 4 → exec (.linkSilence port) s = .next s) ∧
    ((s.hport port).state ≠ .hailing → exec (.hailTimeout port) s = .next s) ∧
    ((s.hport port).state ≠ .authenticating → exec (.authenticationTimeout port) s = .next s)) ∧
  (∀ (port : Nat) (s : State), port < s.hal.ports.length → (s.hport port).state ≠ .down → ((s.goDown port).hport port).state = .down ∧
    ((s.goDown port).hport port).auth = {} ∧ ((s.goDown port).hport port).txq = [] ∧ ((s.goDown port).hport port).rxNext = 0 ∧
    ((s.goDown port).hport port).reserved = 0) ∧
  (∀ (fp : Digest) (s : State), ((s.hal.quarantine.any fun e => e.1 == fp && decide (e.2 ≤ s.clk.frame)) = true →
      Answers (exec (.quarantineEnd fp) s) fun t => t.inQuarantine fp = false) ∧
    ((s.hal.quarantine.any fun e => e.1 == fp && decide (e.2 ≤ s.clk.frame)) = false → exec (.quarantineEnd fp) s = .next s)) ∧
  (∀ (fp : Digest) (cause port : Nat) (s : State), (fp, s.clk.frame + s.ctlValue ctlQuarantine) ∈ (s.quarantine fp cause port).hal.quarantine ∧
    (s.quarantine fp cause port).inQuarantine fp = true) ∧
  (∀ (port : Nat) (s : State), port < 3 → ((s.hport port).up = true → (s.hport port).auth.rekey = false → s.isL (s.hport port).auth = true →
      ((s.hport port).auth.sessionFrame + s.ctlValue ctlRekey ≤ s.clk.frame ∨ 2 ^ 39 ≤ (s.hport port).txSeq) → exec (.rekeyInterval port) s =
        .next ((s.modAuth port none fun a => { a with rekey := true }).sendShare port none 0x0B ((s.hport port).txSeq - 1, (s.hport port).lastAccepted))) ∧
    ((s.hport port).up = false → exec (.rekeyInterval port) s = .next s) ∧
    (s.isL (s.hport port).auth = false → exec (.rekeyInterval port) s = .next s)) ∧
  (∀ (port : Nat) (s : State), port < 3 → ((s.hport port).measured + 62500 ≤ s.clk.frame → exec (.flightTimeMeasure port) s = .next (s.sendEcho port)) ∧
    (s.clk.frame < (s.hport port).measured + 62500 → exec (.flightTimeMeasure port) s = .next s)) ∧
  (∀ (port : Nat) (s : State), port < s.hal.ports.length → (s.hport port).up = true → (s.hport port).echoSent = false →
    ((s.sendEcho port).hport port).echoOut = some s.clk.frame ∧ ((s.sendEcho port).hport port).measured = s.clk.frame) ∧
  (∀ (n : Nat) (p : Probe) (s u : State), (s.hal.probes.find? fun p => p.number == n && decide (p.sent + 62500 ≤ s.clk.frame)) = some p →
    u = s.modHal (fun h => { h with
      probes := h.probes.filter (fun x => x.number != n)
      labels := h.labels.filter fun l => !(l.outPort.isSome && l.outLabel.isNone && l.number == n) }) →
    (p.wake = false → exec (.probeTimeout n) s = .next (u.sendProbe p.target true)) ∧ (p.wake = true → exec (.probeTimeout n) s = .next (u.noPath p.target 0x0702))) ∧
  (∀ (n : Nat) (s : State), (∀ p ∈ s.hal.probes, p.number = n → s.clk.frame < p.sent + 62500) → exec (.probeTimeout n) s = .next s) ∧
  (∀ (port b l : Nat) (s : State), port < 3 → (s.hport port).waking = some (b, l) →
    (l + 62500 ≤ s.clk.frame → s.clk.frame < b + s.ctlValue ctlWakeTimeout → exec (.wakePatternRepeat port) s =
      .next ((s.modHport port fun p => { p with waking := some (b, s.clk.frame) }).emit (.wakePattern port))) ∧
    (s.clk.frame < l + 62500 → exec (.wakePatternRepeat port) s = .next s) ∧
    (b + s.ctlValue ctlWakeTimeout ≤ s.clk.frame → exec (.wakePatternRepeat port) s = .next s)) ∧
  (∀ (port b l : Nat) (fp : Digest) (s : State), port < 3 → (s.hport port).waking = some (b, l) → (s.hport port).wokenAt = none → (s.hport port).neighbour = some fp →
    (b + s.ctlValue ctlWakeTimeout ≤ s.clk.frame → exec (.wakeTimeout port) s = .next (((s.modHport port fun p => { p with waking := none }).modHal fun h => { h with
      heldProbes := h.heldProbes.filter (fun x => x.1 != port) }).noPath fp 0x0702)) ∧
    (s.clk.frame < b + s.ctlValue ctlWakeTimeout → exec (.wakeTimeout port) s = .next s)) ∧
  (∀ (port : Nat) (s : State), port < 3 →
    ((s.ctlValue ctlHalWake port = 0 ∨ s.portEnabled port = false) → exec (.wakePatternReceived port) s = .next s) ∧
    (s.ctlValue ctlHalWake port ≠ 0 → s.portEnabled port = true →
      (s.pwr.dev = .crowsNest → exec (.wakePatternReceived port) s = .next (((s.wake (6 + port)).modHport port fun p => { p with wokenAt := some s.clk.frame }).modEvt
        fun e => { e with later := e.later ++ [{ frame := 0, source := halSrc port 7, code := 1, severity := 0 }] })) ∧
      (s.ready = true → (s.hport port).state = .down → s.portRuns port = true → exec (.wakePatternReceived port) s = .next (s.train port)) ∧
      (s.ready = true → (s.hport port).state ≠ .down → exec (.wakePatternReceived port) s = .next s))) ∧
  (∀ (port f : Nat) (s : State), port < 3 → (s.hport port).waking = none → (s.hport port).wokenAt = some f →
    (f + s.ctlValue ctlWakeTimeout ≤ s.clk.frame → (s.hport port).state ≠ .paired → exec (.wakeTimeout port) s = .next (s.spuriousWake port)) ∧
    ((s.hport port).state = .paired → exec (.wakeTimeout port) s = .next s))

/-- O56. The Hail, the authentication and the rekeying of a Halyard link (R347, R348, R349, R350, R351, R352, R353, R356). A Hail of
another major version takes the link to Down, one of this device itself is a loop when it carries its power-on count and an impostor
otherwise, one of a quarantined device is refused; any other leads to Authenticating with the credits that it grants. The certificate
chain is checked with its last fragment, against the fingerprint of the Hail; a key share on the curve leads to this side's signature, a
signature that verifies to its done packet, and what does not verify to quarantine. Once both done packets are there the session is in
force, and the partner is Paired by its pairing record or the allowlist, else Known. A rekey runs the same steps with both ends'
sequences, under the session that it replaces. -/
def Obligations.HalyardAuthentication : Prop :=
  (∀ (port seq : Nat) (hl : Hail) (s u : State), s.accepts port seq 0x01 1 = true → u = s.took port 0x01 1 →
    (hl.version / 16 ≠ 1 → exec (.hail port seq none hl) s = .next ((u.goDown port).raise (halSrc port 3) 1 1 [hl.version, fp8 hl.fingerprint])) ∧
    (hl.version / 16 = 1 → hl.fingerprint = s.ownFp → hl.powerOn = s.clk.poc →
      exec (.hail port seq none hl) s = .next ((u.goDown port).raise (halSrc port 2) 1 1 [hl.sendPort])) ∧
    (∀ v, hl.version / 16 = 1 → hl.fingerprint = s.ownFp → hl.powerOn ≠ s.clk.poc → u.ensurePartner hl.fingerprint = some v →
      exec (.hail port seq none hl) s = .next ((v.modHport port fun p => { p with neighbour := some hl.fingerprint }).quarantine hl.fingerprint 3 port)) ∧
    (hl.version / 16 = 1 → hl.fingerprint ≠ s.ownFp → s.inQuarantine hl.fingerprint = true → exec (.hail port seq none hl) s =
      .next ((((u.modHport port fun p => { p with neighbour := some hl.fingerprint }).setLink port .quarantined).refuse port 0 2 0).wakeRefused port)) ∧
    (hl.version / 16 = 1 → hl.fingerprint ≠ s.ownFp → s.inQuarantine hl.fingerprint = false → s.hal.partners.length < 256 → port < s.hal.ports.length →
      Answers (exec (.hail port seq none hl) s) fun t => (t.hport port).state = .authenticating ∧ (t.hport port).neighbour = some hl.fingerprint ∧
        (t.hport port).auth.hail = some hl ∧ (t.hport port).auth.shareSent = true ∧ (t.hport port).reqCredits = hl.reqCredits ∧
        (t.partner? hl.fingerprint).isSome = true ∧ t.keys.draws = s.keys.draws + 2)) ∧
  (∀ (port seq l : Nat) (hl : Hail) (s u : State), s.accepts port seq 0x10 1 = true → u = s.took port 0x10 1 → u.peerOf port l ≠ some hl.fingerprint →
    exec (.hail port seq (some l) hl) s = .next u) ∧
  (∀ (s : State) (fp : Digest), s.hal.partners.length < 256 → ∃ v, s.ensurePartner fp = some v ∧ (v.partner? fp).isSome = true) ∧
  (∀ (port seq fr : Nat) (key : PubKey) (ok : Bool) (s u : State), s.accepts port seq 0x02 1 = true → u = s.took port 0x02 1 →
    exec (.authCertificateChain port seq none fr false key ok) s = .next u ∧
    exec (.authCertificateChain port seq none fr true key false) s = .next (u.quarantineAt port none 1) ∧
    (∀ hl, (u.hport port).auth.hail = some hl → (keyPrint key ≠ hl.fingerprint →
        exec (.authCertificateChain port seq none fr true key true) s = .next (u.quarantineAt port none 2)) ∧
      (keyPrint key = hl.fingerprint → exec (.authCertificateChain port seq none fr true key true) s =
        .next (u.modHport port fun p => { p with auth := { p.auth with key := some key } })))) ∧
  (∀ (port seq : Nat) (pt : PubKey) (rnd : Digest) (s u : State), s.accepts port seq 0x02 1 = true → u = s.took port 0x02 1 →
    (onCurve pt = false → exec (.authKeyShare port seq none pt rnd) s = .next (u.quarantineAt port none 1)) ∧
    (onCurve pt = true → exec (.authKeyShare port seq none pt rnd) s =
      .next ((u.modHport port fun p => { p with auth := { p.auth with share := some (pt, rnd), shareLast := (0, 0) } }).sendSignature port none 0x02))) ∧
  (∀ (port : Nat) (pt : PubKey) (rnd : Digest) (s : State), port < s.hal.ports.length → (s.hport port).auth.share = some (pt, rnd) →
    (s.hport port).auth.shareSent = true → (s.hport port).auth.sigSent = false → ((s.sendSignature port none 0x02).hport port).auth.sigSent = true ∧
    (((s.sendSignature port none 0x02).hport port).auth.nextOut, ((s.sendSignature port none 0x02).hport port).auth.nextIn) =
      s.nextKeys port (s.hport port).auth pt ∧ (s.sendSignature port none 0x02).keys.draws = s.keys.draws + 1) ∧
  (∀ (port seq r g : Nat) (key : PubKey) (s u : State), s.accepts port seq 0x02 1 = true → u = s.took port 0x02 1 →
    ((u.hport port).auth.key = none → exec (.authSignature port seq none r g) s = .next (u.quarantineAt port none 1)) ∧
    ((u.hport port).auth.key = some key →
      ecdsaVerify key (authMessage (u.transcript port (u.hport port).auth)) r g = false → exec (.authSignature port seq none r g) s = .next (u.quarantineAt port none 1)) ∧
    ((u.hport port).auth.key = some key → (u.hport port).auth.share.isSome = true → (u.hport port).auth.shareSent = true →
      ecdsaVerify key (authMessage (u.transcript port (u.hport port).auth)) r g = true → exec (.authSignature port seq none r g) s =
        .next ((u.modHport port fun p => { p with auth := { p.auth with sigOk := true } }).sendDone port none 0x02))) ∧
  (∀ (port : Nat) (s : State), port < s.hal.ports.length → (s.hport port).auth.sigOk = true → (s.hport port).auth.sigSent = true →
    (s.hport port).auth.doneSent = false → ((s.sendDone port none 0x02).hport port).auth.doneSent = true ∧ ((s.sendDone port none 0x02).hport port).txSeq = 1 ∧
    ((s.sendDone port none 0x02).hport port).txq = [{ seq := 0, ptype := 0x02, args := [4] }] ∧
    ((s.sendDone port none 0x02).hport port).oldq = (s.hport port).oldq ++ (s.hport port).txq) ∧
  (∀ (port seq : Nat) (s : State), port < 3 → ((s.hport port).state ≠ .authenticating → exec (.authDone port seq none) s = .next s) ∧
    ((s.hport port).state = .authenticating → (seq ≠ 0 ∨ (s.hport port).auth.doneSent = false) → exec (.authDone port seq none) s = .next (s.sendNak port 2))) ∧
  (∀ (port : Nat) (fp : Digest) (s : State), port < 3 → port < s.hal.ports.length → (s.hport port).state = .authenticating → (s.hport port).auth.doneSent = true →
    (s.hport port).auth.rekey = false → (s.hport port).neighbour = some fp → Answers (exec (.authDone port 0 none) s) fun t =>
      (t.hport port).state = (if s.hasPairing fp || (s.hal.allowlist.contains fp && decide (s.hal.pairings.length < 64)) then .paired else .known) ∧
      (t.hport port).auth.session = true ∧ (t.hport port).auth.keyOut = (s.hport port).auth.nextOut ∧ (t.hport port).auth.keyIn = (s.hport port).auth.nextIn ∧
      (t.hport port).auth.priv = 0 ∧ (t.hport port).rxNext = 1) ∧
  (∀ (port seq l : Nat) (s u : State), s.accepts port seq 0x10 1 = true → u = s.took port 0x10 1 →
    ((u.authOf port (some l)).doneSent = false → exec (.authDone port seq (some l)) s = .next u) ∧
    ((u.authOf port (some l)).doneSent = true → exec (.authDone port seq (some l)) s =
      .next ((u.modAuth port (some l) fun a => { a with doneGot := true }).sessionUp port (some l)))) ∧
  (∀ (port seq a b : Nat) (pt : PubKey) (rnd : Digest) (s u : State), s.accepts port seq 0x0B 1 = true → u = s.took port 0x0B 1 →
    ((u.hport port).auth.rekey = true → exec (.rekeyKeyShare port seq pt rnd a b) s = .next (u.gotShare port none 0x0B 5 pt rnd (a, b))) ∧
    ((u.hport port).auth.rekey = false → exec (.rekeyKeyShare port seq pt rnd a b) s =
      .next (((u.modAuth port none fun a => { a with rekey := true }).sendShare port none 0x0B ((u.hport port).txSeq - 1, (u.hport port).lastAccepted)).gotShare
        port none 0x0B 5 pt rnd (a, b)))) ∧
  (∀ (port seq r g : Nat) (s u : State), s.accepts port seq 0x0B 1 = true → u = s.took port 0x0B 1 →
    ((u.hport port).auth.rekey = false → exec (.rekeySignature port seq r g) s = .next u) ∧
    ((u.hport port).auth.rekey = true → exec (.rekeySignature port seq r g) s = .next (u.gotSignature port none 0x0B 5 r g))) ∧
  (∀ (port : Nat) (s : State), port < 3 → port < s.hal.ports.length → (s.hport port).up = true → (s.hport port).auth.rekey = true →
    (s.hport port).auth.doneSent = true → Answers (exec (.rekeyDone port 0) s) fun t => (t.hport port).state = (s.hport port).state ∧
      (t.hport port).auth.keyOut = (s.hport port).auth.nextOut ∧ (t.hport port).auth.rekey = false ∧ (t.hport port).oldq = [] ∧ (t.hport port).rxNext = 1) ∧
  (∀ (port seq : Nat) (s : State), port < 3 → ((s.hport port).up = false ∨ (s.hport port).auth.rekey = false) → exec (.rekeyDone port seq) s = .next s)

/-- O57. Requests and responses of peer operations (R334, R335, R340, R341, R346, R350, R352, R369, R372, R380, R383, R234). A chunk read, a
tree read and a mirror write take one run of request packets: from a partner that is not Paired each gets a Refuse, on a relayed path it
goes on to the other link as soon as that link has the credits, and at its end it is served. A chunk read of a multiple of 16 blocks
within one chunk answers that many sealed blocks of a zone of the operation, a tree read the stored tree; a shape outside that, too few
declared packets, a zone that is not the operation's and a block that is not there each get a Request status. A mirror write below or at
the mirror pointer is placed and answered with the pointer, one beyond it is refused with 0x0504, and in read-preserve each with 0x0202. A response belongs to the request of its
tag: without one on a path in use, and beyond the declared length, it is a violation; each packet frees one place, and the last hands a
tree or a piece to the import or moves the mirror pointer. -/
def Obligations.PeerRequests : Prop :=
  (∀ (port seq label tag job zone offset count declared st ptr : Nat) (lp : Bool) (bs : List Block) (ms : List Wide) (ns : List Digest) (s : State),
    Discards (.chunkRead port seq label tag job zone offset count declared) port seq 0x20 1 s ∧
    Discards (.treeRead port seq label tag job zone declared) port seq 0x20 1 s ∧
    Discards (.mirrorWrite port seq label tag job zone offset bs ms) port seq 0x20 (ceilDiv (32 + 4160 * bs.length) 512) s ∧
    Discards (.response port seq label tag lp bs ms ns st ptr) port seq 0x30 1 s) ∧
  (∀ (i : Instr) (seq pk : Nat) (r : HReq) (s u : State), requestOf i = some (seq, r, pk) → s.accepts r.port seq 0x20 pk = true → u = s.took r.port 0x20 pk →
    ((s.hport r.port).state ≠ .paired → exec i s = .next (u.refuse r.port r.label 1 r.tag)) ∧
    (∀ fp, (s.hport r.port).state = .paired → u.relayOf r.port r.label = none → u.peerOf r.port r.label = some fp → u.isPaired fp = false →
      exec i s = .next (u.refuse r.port r.label 1 r.tag)) ∧
    (∀ q m, (s.hport r.port).state = .paired → u.relayOf r.port r.label = some (q, m) →
      ((s.ctlValue ctlRelaying ≠ 1 ∨ (u.hport q).state ≠ .paired) → exec i s = .next (u.refuse r.port r.label 1 r.tag)) ∧
      (s.ctlValue ctlRelaying = 1 → (u.hport q).state = .paired → exec i s = .next (State.admitPort (u.hal.reqs.length + 1) q
        (u.modHal fun h => { h with reqs := h.reqs ++ [{ r with port := q, label := m, mine := false, relay := some (r.port, r.label) }] }))))) ∧
  (∀ (port seq label tag job zone offset count declared : Nat) (fp : Digest) (s u : State), s.accepts port seq 0x20 1 = true → u = s.took port 0x20 1 →
    u.serves port label fp →
    ((count % 16 ≠ 0 ∨ count = 0 ∨ 256 < offset % 256 + count) →
      exec (.chunkRead port seq label tag job zone offset count declared) s = .next (u.failReq port label 0x0104 tag job)) ∧
    (count % 16 = 0 → count ≠ 0 → offset % 256 + count ≤ 256 →
      (declared < ceilDiv (4160 * count) 512 →
        exec (.chunkRead port seq label tag job zone offset count declared) s = .next (u.failReq port label 0x0107 tag job)) ∧
      (ceilDiv (4160 * count) 512 ≤ declared → u.served fp job zone = none →
        exec (.chunkRead port seq label tag job zone offset count declared) s = .next (u.failReq port label 0x0105 tag job)) ∧
      (∀ n, ceilDiv (4160 * count) 512 ≤ declared → u.served fp job zone = some n → u.sealedBlocks n zone offset count = none →
        exec (.chunkRead port seq label tag job zone offset count declared) s = .next (u.failReq port label 0x0501 tag job)) ∧
      (∀ n l, ceilDiv (4160 * count) 512 ≤ declared → u.served fp job zone = some n → u.sealedBlocks n zone offset count = some l → l.length = count ∧
        Answers (exec (.chunkRead port seq label tag job zone offset count declared) s) fun t =>
          t.out = s.out ++ [.response port label tag (l.map fun x => x.1) (l.map fun x => x.2) [] 0 0] ∧
          (t.hport port).txSeq = (s.hport port).txSeq + ceilDiv (4160 * count) 512 ∧ t.nss = s.nss ∧ t.media = s.media ∧ t.keys = s.keys))) ∧
  (∀ (port seq label tag job zone declared : Nat) (fp : Digest) (s u : State), s.accepts port seq 0x20 1 = true → u = s.took port 0x20 1 → u.serves port label fp →
    (u.served fp job zone = none → exec (.treeRead port seq label tag job zone declared) s = .next (u.failReq port label 0x0105 tag job)) ∧
    (∀ n, u.served fp job zone = some n →
      (declared < ceilDiv (32 * (2 * (u.treeLeaves n.nsid zone (n.zone zone).written).length - 1)) 512 →
        exec (.treeRead port seq label tag job zone declared) s = .next (u.failReq port label 0x0107 tag job)) ∧
      (ceilDiv (32 * (2 * (u.treeLeaves n.nsid zone (n.zone zone).written).length - 1)) 512 ≤ declared → Answers (exec (.treeRead port seq label tag job zone declared) s) fun t =>
        t.out = s.out ++ [.response port label tag [] [] (treeNodes (u.treeLeaves n.nsid zone (n.zone zone).written)) 0 0] ∧ t.nss = s.nss ∧ t.media = s.media ∧ t.peer = s.peer))) ∧
  (∀ (port seq label tag rel zone offset : Nat) (bs : List Block) (ms : List Wide) (fp : Digest) (s u : State),
    s.accepts port seq 0x20 (ceilDiv (32 + 4160 * bs.length) 512) = true → u = s.took port 0x20 (ceilDiv (32 + 4160 * bs.length) 512) → u.serves port label fp →
    ((∀ m, s.mirror? rel = some m → m.source = true ∨ m.other ≠ fp ∨ m.accepted = false ∨ m.ended = true) →
      exec (.mirrorWrite port seq label tag rel zone offset bs ms) s = .next (u.failReq port label 0x0105 tag rel)) ∧
    (∀ m, s.mirror? rel = some m → m.source = false → m.other = fp → m.accepted = true → m.ended = false → s.media.readPreserve = true →
      exec (.mirrorWrite port seq label tag rel zone offset bs ms) s = .next (u.failReq port label 0x0202 tag rel)) ∧
    (∀ m, s.mirror? rel = some m → m.source = false → m.other = fp → m.accepted = true → m.ended = false → s.media.readPreserve = false →
      (∀ z, m.zones.find? (fun x => x.zone == zone) = some z → z.ack < offset →
        exec (.mirrorWrite port seq label tag rel zone offset bs ms) s = .next (u.failReq port label 0x0504 tag rel)) ∧
      ((∀ z ∈ m.zones, z.zone ≠ zone) →
        exec (.mirrorWrite port seq label tag rel zone offset bs ms) s = .next (u.failReq port label 0x0504 tag rel)) ∧
      (∀ t, u.takeMirror m zone { offset := offset, blocks := bs, metas := ms } = some (some t) →
        exec (.mirrorWrite port seq label tag rel zone offset bs ms) s = .next (t.respondPath port label tag 1 [] [] [] 0 (t.mirrorPointer rel zone))) ∧
      (u.takeMirror m zone { offset := offset, blocks := bs, metas := ms } = none →
        exec (.mirrorWrite port seq label tag rel zone offset bs ms) s =
          .next (u.modMirror rel fun m => { m with held := m.held ++ [(port, label, tag, zone, { offset := offset, blocks := bs, metas := ms })] })))) ∧
  (∀ (m : Mirror) (zone : Nat) (z : MirZone) (p : Piece) (s t : State), s.mirror? m.ident = some m → m.zones.find? (fun x => x.zone == zone) = some z →
    p.offset + p.blocks.length ≤ (s.zone m.nsid zone).wp → s.takeMirror m zone p = some (some t) →
    t.mirrorPointer m.ident zone = max z.ack (p.offset + p.blocks.length) ∧ t.media = s.media ∧ t.nss = s.nss) ∧
  (∀ (port seq label tag st ptr : Nat) (lp : Bool) (bs : List Block) (ms : List Wide) (ns : List Digest) (s u : State), s.accepts port seq 0x30 1 = true →
    u = s.took port 0x30 1 → (∀ r ∈ s.hal.reqs, ¬ (r.port = port ∧ r.label = label ∧ r.tag = tag ∧ r.sent = true)) →
    ((label = 0 ∨ ∃ l ∈ s.hal.labels, (l.inPort = port ∧ l.inLabel = label) ∨ (l.outPort = some port ∧ l.outLabel = some label)) →
      exec (.response port seq label tag lp bs ms ns st ptr) s = .next (u.violation port)) ∧
    (label ≠ 0 → (∀ l ∈ s.hal.labels, ¬ (l.inPort = port ∧ l.inLabel = label) ∧ ¬ (l.outPort = some port ∧ l.outLabel = some label)) →
      exec (.response port seq label tag lp bs ms ns st ptr) s = .next u)) ∧
  (∀ (port seq label tag st ptr : Nat) (lp : Bool) (bs : List Block) (ms : List Wide) (ns : List Digest) (r : HReq) (s u v w : State), s.accepts port seq 0x30 1 = true →
    u = s.took port 0x30 1 → (s.hal.reqs.find? fun x => x.port == port && x.label == label && x.tag == tag && x.sent) = some r →
    v = (u.modHal fun h => { h with reqs := updIf (fun x => x.port == port && x.label == label && x.tag == tag && x.sent) (fun x => { x with received := x.received + 1 }) h.reqs }).modHport
      port (fun p => { p with reserved := p.reserved - 1 }) →
    w = v.dropHReqs (fun x => x.port == port && x.label == label && x.tag == tag && x.sent) →
    (r.declared ≤ r.received → exec (.response port seq label tag lp bs ms ns st ptr) s = .next (u.violation port)) ∧
    (r.received < r.declared → r.relay = none → exec (.response port seq label tag false bs ms ns st ptr) s = .next v) ∧
    (∀ q m, r.received < r.declared → r.relay = some (q, m) →
      exec (.response port seq label tag false bs ms ns st ptr) s = .next (v.respondPath q m tag 1 bs ms ns st ptr) ∧
      exec (.response port seq label tag true bs ms ns st ptr) s =
        .next ((v.respondPath q m tag 1 bs ms ns st ptr).dropHReqs fun x => x.port == port && x.label == label && x.tag == tag && x.sent)) ∧
    (∀ j m l, r.received < r.declared → r.relay = none → r.op = 2 → s.job? r.ident = some j →
      (j.zones.find? fun z => z.zone == r.zone && !z.settled) = some m → m.manifest = some l →
      (ns = treeNodes (ns.take l.leaves) → merkleRoot (ns.take l.leaves) = l.root → (ns.take l.leaves).length = l.leaves →
        exec (.response port seq label tag true bs ms ns st ptr) s =
          .next (w.setJobZone r.ident r.zone fun z => { z with leaves := ns.take l.leaves, treeGot := true })) ∧
      ((ns ≠ treeNodes (ns.take l.leaves) ∨ merkleRoot (ns.take l.leaves) ≠ l.root ∨ (ns.take l.leaves).length ≠ l.leaves) →
        exec (.response port seq label tag true bs ms ns st ptr) s = .next (w.refuseZone j r.zone 6))) ∧
    (∀ j, r.received < r.declared → r.relay = none → r.op = 1 → s.job? r.ident = some j → (∀ z ∈ j.zones, z.zone = r.zone → z.settled = false) →
      exec (.response port seq label tag true bs ms ns st ptr) s =
        .next ((w.setJobZone r.ident r.zone fun z => { z with pieces := z.pieces ++ [{ offset := r.offset, blocks := bs, metas := ms }] }).importChunk r.ident r.zone)) ∧
    (∀ m, r.received < r.declared → r.relay = none → r.op = 3 → s.mirror? r.ident = some m →
      exec (.response port seq label tag true bs ms ns 0 ptr) s = .next ((w.modMirror r.ident fun m => { m with
          zones := updIf (fun z => z.zone == r.zone) (fun z => { z with ack := max z.ack ptr }) m.zones }).ackMirrored
        { m with zones := updIf (fun z => z.zone == r.zone) (fun z => { z with ack := max z.ack ptr }) m.zones })))

/-- O58. The messages of a migration job (R361, R362, R363, R364, R365, R366, R368, R370, R371, R372, R374, R376). An Offer of a Paired
partner is kept until the manager names a landing namespace, or answered at once where one waits for it; an Offer of another major version
or format is answered with its status. An Answer starts the job or stops it; a manifest takes its zone into the job or refuses it with the
first reason that holds, version, zone, capacity, generation, key; a carried key goes to the lowest Empty slot of the landing namespace's
origin. Checkpoints and cut-over messages settle zones, a withdrawn or refused zone leaves the job with its others, and the job is
complete when every listed zone is settled. Suspend, Resume and End carry the other end's state; a suspended job resumes over a path
within the budget, and one that has waited the resume window is stopped. -/
def Obligations.PeerMessages : Prop :=
  (∀ (d : Digest) (kd str id nsid ge lb pi ver mode pol lag fz zc : Nat) (zs : List Nat) (s : State),
    (s.isPaired d = false → exec (.offer d kd str id nsid zs ge lb pi ver mode pol lag fz zc) s = .next s) ∧
    (s.isPaired d = true → ver / 16 ≠ 1 → exec (.offer d kd str id nsid zs ge lb pi ver mode pol lag fz zc) s = .next (s.sendOp d 0x02 [0, 0x0706, id, 0, 0])) ∧
    (s.isPaired d = true → ver / 16 = 1 → s.job? id = none →
      ((∀ l ∈ s.peer.landings, ¬ (l.mirror = false ∧ l.source = d)) → exec (.offer d 1 str id nsid zs ge lb pi ver mode pol lag fz zc) s =
        .next (s.modPeer fun p => { p with jobs := p.jobs ++ [{
          ident := id, source := false, partner := d, nsid := 0, maxStreams := str, all := zs.isEmpty
          offeredAt := s.clk.frame, offer := (ge, lb, pi, ver), zones := zs.map fun z => { zone := z } }] })) ∧
      (∀ l, (s.peer.landings.find? fun l => !l.mirror && l.source == d) = some l →
        (s.formatFits l.nsid lb pi = false → Answers (exec (.offer d 1 str id nsid zs ge lb pi ver mode pol lag fz zc) s) fun t =>
          (∃ x, t.job? id = some x ∧ x.state = .stopped ∧ x.cause = 0x0704) ∧ l ∉ t.peer.landings) ∧
        (s.formatFits l.nsid lb pi = true → Answers (exec (.offer d 1 str id nsid zs ge lb pi ver mode pol lag fz zc) s) fun t =>
          (∃ x, t.job? id = some x ∧ x.state = .running ∧ x.nsid = l.nsid ∧ x.cls = l.cls ∧ x.source = false) ∧ ge ≤ t.media.nextGen ∧ l ∉ t.peer.landings)))) ∧
  (∀ (d : Digest) (ok : Bool) (st id a b : Nat) (s : State),
    (s.job? id = none → s.mirror? id = none → exec (.answer d ok st id a b) s = .next s) ∧
    (∀ j, s.job? id = some j →
      ((j.source = false ∨ j.partner ≠ d ∨ j.state ≠ .offered) → exec (.answer d ok st id a b) s = .next s) ∧
      (j.source = true → j.partner = d → j.state = .offered →
        (exec (.answer d false st id a b) s = .next (s.stopJob id (if st = 0 then 0x0704 else st) false)) ∧
        ((∃ z ∈ j.zones, z.phase = 0) → Answers (exec (.answer d true st id a b) s) fun t => ∃ x, t.job? id = some x ∧ x.state = .running ∧
          x.streams = State.chooseStreams (min 3 (max 1 j.maxStreams)) (s.goodPaths d)) ∧
        ((∀ z ∈ j.zones, z.settled = true) → Answers (exec (.answer d true st id a b) s) fun t => ∃ x, t.job? id = some x ∧ x.state = .complete))) ∧
    (∀ m, s.job? id = none → s.mirror? id = some m → m.source = true → m.other = d →
      exec (.answer d true st id a b) s = .next (s.modMirror id fun m => { m with accepted := true }) ∧
      Answers (exec (.answer d false st id a b) s) fun t => t.mirror? id = none)) ∧
  (∀ (d : Digest) (m : Manifest) (s : State),
    (s.job? m.job = none → exec (.zoneManifest d m) s = .next s) ∧
    (∀ j n u, s.job? m.job = some j → j.source = false → j.partner = d → j.state = .running →
      (∀ z ∈ j.zones, z.zone = m.zone → z.phase = 0 ∧ z.manifest = none) → s.ns? j.nsid = some n →
      u = s.modJob j.ident (fun x => { x with zones := putBy JobZone.zone { zone := m.zone, manifest := some m } x.zones }) →
      (∀ r, s.refusal j n m = some r → exec (.zoneManifest d m) s = .next (u.refuseZone j m.zone r)) ∧
      (s.refusal j n m = none → Answers (exec (.zoneManifest d m) s) fun t => ∃ x, t.job? m.job = some x ∧ x.state = .running ∧
        ∃ z ∈ x.zones, z.zone = m.zone ∧ z.manifest = some m ∧ z.phase = 0))) ∧
  (∀ (j : Job) (n : Namespace) (m : Manifest) (k : PClass) (s : State), s.classFields n j.cls = some k →
    (m.version / 16 ≠ 1 → s.refusal j n m = some 8) ∧
    (m.version / 16 = 1 → n.zoneCount ≤ m.zone → s.refusal j n m = some 2) ∧
    (m.version / 16 = 1 → m.zone < n.zoneCount → zoneCapacity s.profile k.width n.segsPerZone < m.written → s.refusal j n m = some 3) ∧
    (m.version / 16 = 1 → m.zone < n.zoneCount → m.written ≤ zoneCapacity s.profile k.width n.segsPerZone → (∃ y ∈ s.media.segs, y.gen = m.generation) →
      s.refusal j n m = some 4) ∧
    (m.version / 16 = 1 → m.zone < n.zoneCount → m.written ≤ zoneCapacity s.profile k.width n.segsPerZone → s.genFree m.generation = true →
      (∀ ref, m.keyFp ≠ 0 → s.refOf m.keyFp = some ref → ref ≠ 0 → (∀ e ∈ s.keys.register, e.number = ref → e.salt ≠ m.salt) → s.refusal j n m = some 5) ∧
      (m.keyFp = 0 → s.refusal j n m = none))) ∧
  (∀ (d fp : Digest) (pt : PubKey) (w : BitVec 320) (id : Nat) (j : Job) (s : State), s.job? id = some j →
    ((j.source = true ∨ j.partner ≠ d ∨ j.state ≠ .running ∨ onCurve pt = false) → exec (.keyCarry d fp pt w id) s = .next s) ∧
    (∀ n raw ref slot, j.source = false → j.partner = d → j.state = .running → onCurve pt = true → s.ns? j.nsid = some n →
      kwUnwrap (importKey (ecdh s.fuses.transportPriv.toNat pt) s.ownFp d) (bytesLE 40 w.toNat) = some raw → s.refOf fp = some ref →
      ((s.slotsOf n.origin).find? fun k => (s.slot k).state == .empty) = some slot →
      (ref ≠ 0 → keyFingerprint raw = fp → s.refHolder ref slot = none →
        exec (.keyCarry d fp pt w id) s = .next (s.putKey slot (BitVec.ofNat 256 (ofBytesLE raw)) ref false)) ∧
      ((ref = 0 ∨ keyFingerprint raw ≠ fp ∨ (s.refHolder ref slot).isSome = true) → exec (.keyCarry d fp pt w id) s = .next s))) ∧
  (∀ (d : Digest) (id zone ch : Nat) (s : State),
    (∀ j, s.job? id = some j → j.source = true → j.partner = d → Answers (exec (.checkpoint d id zone ch) s) fun t =>
      ∃ x, t.job? id = some x ∧ x.state = j.state ∧ x.zones.length = j.zones.length ∧ ∀ z ∈ x.zones, z.zone = zone → ch ≤ z.chunks ∧ z.phase ≠ 0) ∧
    (s.job? id = none → exec (.checkpoint d id zone ch) s = .next s)) ∧
  (∀ (d : Digest) (id zone g : Nat) (j : Job) (s : State), s.job? id = some j →
    (j.source = true → j.partner = d → (s.zone j.nsid zone).gen = g → ∀ z, (j.zones.find? fun z => z.zone == zone) = some z →
      (z.phase = 2 → exec (.cutOverReady d id zone g) s = .next (s.sendOp d 0x06 [2, id, zone, g])) ∧
      (j.live = true → (z.phase = 0 ∨ z.phase = 1) → Answers (exec (.cutOverReady d id zone g) s) fun t => ∃ x, t.job? id = some x ∧
        (∀ y ∈ x.zones, y.zone = zone → y.phase = 2) ∧ x.changed = s.clk.frame)) ∧
    ((j.source = false ∨ j.partner ≠ d ∨ (s.zone j.nsid zone).gen ≠ g) → exec (.cutOverReady d id zone g) s = .next s) ∧
    (j.source = false → j.partner = d → (∃ z ∈ j.zones, ∃ m, z.zone = zone ∧ z.phase = 5 ∧ z.manifest = some m ∧ m.generation = g) →
      Answers (exec (.cutOverConfirmed d id zone g) s) fun t => ∃ x, t.job? id = some x ∧ ∀ y ∈ x.zones, y.zone = zone → y.phase = 2) ∧
    ((∀ z ∈ j.zones, z.zone = zone → z.phase ≠ 5) → exec (.cutOverConfirmed d id zone g) s = .next s)) ∧
  (∀ (d : Digest) (st tag id : Nat) (s : State),
    ((s.hal.reqs.find? fun r => ofOp id r && r.tag == tag && s.peerOf r.port r.label == some d) = none → exec (.requestStatus d st tag id) s = .next s) ∧
    (∀ r j u, (s.hal.reqs.find? fun r => ofOp id r && r.tag == tag && s.peerOf r.port r.label == some d) = some r → r.op ≠ 3 → s.job? id = some j →
      u = s.dropHReqs (fun x => x == r) → (∀ z ∈ j.zones, z.zone = r.zone → z.settled = false) →
      ((∃ z ∈ j.zones, z.zone = r.zone ∧ z.retried = true) → exec (.requestStatus d st tag id) s = .next (u.refuseZone j r.zone 6)) ∧
      ((∀ z ∈ j.zones, z.zone = r.zone → z.retried = false) →
        exec (.requestStatus d st tag id) s = .next (u.setJobZone id r.zone fun z => { z with retried := true })))) ∧
  (∀ (d : Digest) (rs id zone : Nat) (j : Job) (s : State), s.job? id = some j → j.partner = d →
    (j.live = false → exec (.zoneWithdrawn d rs id zone) s = .next s ∧ exec (.zoneRefused d rs id zone) s = .next s) ∧
    (j.live = true → (∃ z ∈ j.zones, z.zone = zone ∧ z.settled = false) → Answers (exec (.zoneWithdrawn d rs id zone) s) fun t => ∃ x, t.job? id = some x ∧
      ∀ y ∈ x.zones, y.zone = zone → y.phase = 3 ∧ y.reason = rs ∧ y.pieces = []) ∧
    (j.live = true → Answers (exec (.zoneRefused d rs id zone) s) fun t => ∃ x, t.job? id = some x ∧
      ∀ y ∈ x.zones, y.zone = zone → y.phase = 4 ∧ y.reason = rs ∧ y.pieces = [])) ∧
  (∀ (id : Nat) (j : Job) (s : State), s.job? id = some j → j.state = .running →
    ((∀ z ∈ j.zones, z.settled = true) → (j.source = true ∨ j.all = false) → ∃ x, (s.completeJob id).job? id = some x ∧ x.state = .complete) ∧
    ((∃ z ∈ j.zones, z.settled = false) → s.completeJob id = s)) ∧
  (∀ (d : Digest) (a cause id : Nat) (s : State),
    (∀ j, s.job? id = some j → (j.partner ≠ d ∨ j.state ≠ .running) → exec (.suspend d a cause id) s = .next s) ∧
    (∀ j, s.job? id = some j → j.partner = d → j.state = .running → Answers (exec (.suspend d a cause id) s) fun t => ∃ x, t.job? id = some x ∧
      x.state = .suspended ∧ x.cause = cause ∧ x.streams = [] ∧ x.suspendedAt = some s.clk.frame) ∧
    (s.job? id = none → s.mirror? id = none → exec (.resume d a cause id) s = .next (s.sendOp d 0x09 [3, JobState.stopped.num, 0x0105, id])) ∧
    (∀ j, s.job? id = some j → j.partner = d →
      (j.state = .suspended → Answers (exec (.resume d a cause id) s) fun t => ∃ x, t.job? id = some x ∧ x.state = .running ∧
        x.streams = State.chooseStreams (min 3 (max 1 j.maxStreams)) (s.goodPaths d)) ∧
      ((j.state = .stopped ∨ j.state = .complete) → exec (.resume d a cause id) s = .next (s.sendOp d 0x09 [3, j.state.num, j.cause, id])) ∧
      ((j.state = .offered ∨ j.state = .running) → exec (.resume d a cause id) s = .next s)) ∧
    (∀ j, s.job? id = some j → j.partner = d → j.live = true →
      (Answers (exec (.endOp d JobState.complete.num cause id) s) fun t => ∃ x, t.job? id = some x ∧ x.state = .complete ∧ x.streams = []) ∧
      (∀ st, st ≠ JobState.complete.num → Answers (exec (.endOp d st cause id) s) fun t => ∃ x, t.job? id = some x ∧ x.state = .stopped ∧ x.cause = cause))) ∧
  (∀ (id port label : Nat) (j : Job) (s : State), s.job? id = some j →
    (j.state = .suspended → s.isPaired j.partner = true → (∃ p ∈ s.pathsTo j.partner, p.port = port ∧ p.label = label ∧ p.latency ≤ s.pathBudget) →
      Answers (exec (.jobResume id port label) s) fun t => ∃ x, t.job? id = some x ∧ x.state = .running ∧ x.streams = [(port, label)]) ∧
    ((j.state ≠ .suspended ∨ s.isPaired j.partner = false) → exec (.jobResume id port label) s = .next s) ∧
    (j.state = .running → j.streams.length < min 3 j.maxStreams → (∀ p ∈ j.streams, p.1 ≠ port) →
      (∃ p ∈ s.pathsTo j.partner, p.port = port ∧ p.label = label ∧ p.latency ≤ s.pathBudget) → Answers (exec (.streamAdd id port label) s) fun t =>
        ∃ x, t.job? id = some x ∧ x.state = .running ∧ x.streams = j.streams ++ [(port, label)]) ∧
    ((j.state ≠ .running ∨ min 3 j.maxStreams ≤ j.streams.length ∨ ∃ p ∈ j.streams, p.1 = port) → exec (.streamAdd id port label) s = .next s)) ∧
  (∀ (id f : Nat) (j : Job) (s : State), s.job? id = some j → j.live = true → (if j.state = .offered then some j.offeredAt else j.suspendedAt) = some f →
    (f + s.ctlValue ctlResumeWindow * 5400000000 ≤ s.clk.frame → exec (.resumeWindow id) s = .next (s.stopJob id 0x0702)) ∧
    (s.clk.frame < f + s.ctlValue ctlResumeWindow * 5400000000 → exec (.resumeWindow id) s = .next s))

/-- O59. The messages of a mirror relationship (R363, R365, R371, R377, R379, R380, R381, R382, R383, R384, R385). An Offer makes the
relationship at the partner, of which at most 64 stand. A zone opened at the source is opened at the partner with its generation and key,
or refused: a zone that is not Empty, a device in read-preserve, a generation that is not free, a key that conflicts. A Mirror finish finishes the partner's zone and
ends the mirroring of one whose root differs; a Mirror reset returns it to Empty; a Refuse of the partner ends the zone's mirroring at the
source. Promotion and End take the relationship from the source; at the partner an ended one waits for End Mirror. A path that is lost
breaks the relationship, the partner catches up from its last whole chunk, and the Resume that follows restores it; the resume window ends
one that stays broken. -/
def Obligations.Mirroring : Prop :=
  (∀ (d : Digest) (kd str id nsid ge lb pi ver mode pol lag fz zc : Nat) (zs : List Nat) (s : State), s.isPaired d = true → ver / 16 = 1 → kd ≠ 1 →
    (((∃ m, s.mirror? id = some m) ∨ 64 ≤ s.peer.mirrors.length) → exec (.offer d kd str id nsid zs ge lb pi ver mode pol lag fz zc) s = .next s) ∧
    (s.mirror? id = none → s.peer.mirrors.length < 64 → Answers (exec (.offer d kd str id nsid zs ge lb pi ver mode pol lag fz zc) s) fun t =>
      ((∀ l ∈ s.peer.landings, ¬ (l.mirror = true ∧ l.source = d)) → t.mirror? id = some {
        ident := id, source := false, other := d, nsid := 0, firstZone := fz
        zoneCount := zc, mode := mode, policy := some pol, lagLimit := lag, offer := (ge, lb, pi) }) ∧
      (∀ l, (s.peer.landings.find? fun l => l.mirror && l.source == d) = some l →
        (s.formatFits l.nsid lb pi = false → t.mirror? id = none) ∧
        (s.formatFits l.nsid lb pi = true → ge ≤ t.media.nextGen ∧ ∃ x, t.mirror? id = some x ∧ x.accepted = true ∧ x.nsid = l.nsid ∧ x.cls = l.cls)))) ∧
  (∀ (d : Digest) (id zone g : Nat) (e : KeyEntry) (m : Mirror) (n : Namespace) (s : State), s.mirror? id = some m → s.ns? m.nsid = some n →
    ((m.source = true ∨ m.other ≠ d ∨ m.accepted = false ∨ m.ended = true) → exec (.mirrorOpen d id zone g e) s = .next s) ∧
    (m.source = false → m.other = d → m.accepted = true → m.ended = false →
      ((n.zoneCount ≤ zone ∨ (n.zone zone).state ≠ .empty) → exec (.mirrorOpen d id zone g e) s = .next (s.sendOp d 0x08 [2, 2, id, zone])) ∧
      (zone < n.zoneCount → (n.zone zone).state = .empty → s.media.readPreserve = true →
        exec (.mirrorOpen d id zone g e) s = .next (s.sendOp d 0x08 [2, 3, id, zone])) ∧
      (zone < n.zoneCount → (n.zone zone).state = .empty → s.media.readPreserve = false →
        (s.genFree g = false → exec (.mirrorOpen d id zone g e) s = .next (s.sendOp d 0x08 [2, 4, id, zone])) ∧
        (s.genFree g = true → s.takeEntry (if e.number == 0 then 0 else e.fp) e.salt (if e.number == 0 then 0 else 2 ^ 48) = none →
          exec (.mirrorOpen d id zone g e) s = .next (s.sendOp d 0x08 [2, 5, id, zone])) ∧
        (∀ r t, s.genFree g = true → s.takeEntry (if e.number == 0 then 0 else e.fp) e.salt (if e.number == 0 then 0 else 2 ^ 48) = some (r, t) →
          Answers (exec (.mirrorOpen d id zone g e) s) fun x => ∃ y, x.mirror? id = some y ∧ ∃ z ∈ y.zones, z.zone = zone ∧ z.gen = g ∧ z.ack = 0))) ) ∧
  (∀ (n : Namespace) (zi c g r : Nat) (k : PClass) (s : State), s.ns? n.nsid = some n → s.classFields n c = some k →
    ((s.openLanding n zi c g r).zone n.nsid zi).state = .implicitOpen ∧ ((s.openLanding n zi c g r).zone n.nsid zi).gen = g ∧
      ((s.openLanding n zi c g r).zone n.nsid zi).keyRef = r ∧ ((s.openLanding n zi c g r).zone n.nsid zi).wp = 0) ∧
  (∀ (fp : Digest) (salt : BitVec 32) (floor : Nat) (s : State), s.takeEntry 0 salt floor = some (0, s) ∧
    (∀ r, fp ≠ 0 → s.refOf fp = some r → r ≠ 0 → (∀ e ∈ s.keys.register, e.number = r → e.salt ≠ salt) → s.takeEntry fp salt floor = none) ∧
    (fp ≠ 0 → s.refOf fp = none → s.nextRef = none → s.takeEntry fp salt floor = none)) ∧
  (∀ (d root : Digest) (id zone g w : Nat) (m : Mirror) (n : Namespace) (s : State), s.mirror? id = some m → s.ns? m.nsid = some n →
    ((m.source = true ∨ m.other ≠ d ∨ (n.zone zone).gen ≠ g ∨ ∀ z ∈ m.zones, z.zone ≠ zone) → exec (.mirrorFinish d id zone g w root) s = .next s) ∧
    (∀ u, m.source = false → m.other = d → (n.zone zone).gen = g → (∃ z ∈ m.zones, z.zone = zone) →
      u = (if (n.zone zone).state.isOpen = true then s.finishZone n zone false else s) →
      ((u.zone m.nsid zone).written = w → u.rootOver m.nsid zone w = root → exec (.mirrorFinish d id zone g w root) s = .next u) ∧
      (((u.zone m.nsid zone).written ≠ w ∨ u.rootOver m.nsid zone w ≠ root) → exec (.mirrorFinish d id zone g w root) s =
        .next ((u.raise 597 5 2 [id, zone]).modMirror id fun m => { m with zones := m.zones.filter fun z => z.zone != zone })))) ∧
  (∀ (d : Digest) (id zone g : Nat) (m : Mirror) (s : State), s.mirror? id = some m →
    ((m.source = true ∨ m.other ≠ d ∨ (s.zone m.nsid zone).gen ≠ g) → exec (.mirrorReset d id zone g) s = .next s) ∧
    (m.source = false → m.other = d → (s.zone m.nsid zone).gen = g → Answers (exec (.mirrorReset d id zone g) s) fun t =>
      (∃ y, t.mirror? id = some y ∧ ∀ z ∈ y.zones, z.zone ≠ zone) ∧
      ((s.zone m.nsid zone).state ≠ .empty → (s.zone m.nsid zone).state ≠ .offline → t = (s.requestRelease m.nsid zone .empty).modMirror id fun m => { m with
        zones := m.zones.filter fun z => z.zone != zone }))) ∧
  (∀ (d : Digest) (rs id zone : Nat) (m : Mirror) (s : State), s.job? id = none → s.mirror? id = some m → m.source = true → m.other = d →
    (Answers (exec (.zoneRefused d rs id zone) s) fun t => ∃ y, t.mirror? id = some y ∧ ∀ z ∈ y.zones, z.zone ≠ zone) ∧
    (Answers (exec (.mirrorPromote d id) s) fun t => t.mirror? id = none) ∧
    (∀ a b, Answers (exec (.endOp d a b id) s) fun t => t.mirror? id = none)) ∧
  (∀ (d : Digest) (a b id : Nat) (m : Mirror) (s : State), s.job? id = none → s.mirror? id = some m →
    (m.source = false → m.other = d → Answers (exec (.endOp d a b id) s) fun t => t.nss = s.nss ∧ ∃ y, t.mirror? id = some y ∧ y.ended = true) ∧
    (m.source = false → exec (.mirrorPromote d id) s = .next s) ∧
    (m.other ≠ d → exec (.endOp d a b id) s = .next s ∧ exec (.mirrorPromote d id) s = .next s) ∧
    (m.source = true → m.broken = true → m.other = d → Answers (exec (.resume d a b id) s) fun t => ∃ y, t.mirror? id = some y ∧ y.broken = false ∧
      y.catchingUp = false ∧ y.zones = m.zones.map (fun z => { z with ack := z.next })) ∧
    (m.broken = false → exec (.resume d a b id) s = .next s)) ∧
  (∀ (id : Nat) (m : Mirror) (s : State), s.mirror? id = some m →
    ((m.broken = false ∨ m.catchingUp = true ∨ m.ended = true ∨ s.isPaired m.other = false) → exec (.catchUp id) s = .next s) ∧
    (m.broken = true → m.catchingUp = false → m.ended = false → s.isPaired m.other = true → s.goodPaths m.other ≠ [] → Answers (exec (.catchUp id) s) fun t =>
      ∃ y, t.mirror? id = some y ∧ y.catchingUp = true ∧ y.broken = true ∧
        (m.source = true → y.pulls = [] ∧ y.zones = m.zones.map (fun z => { z with next := z.ack })) ∧
        (m.source = false → y.zones = m.zones ∧ y.pulls = m.zones.map (fun z => { zone := z.zone, phase := 1, chunks := 4 * (z.ack / 256) })))) ∧
  (∀ (id : Nat) (m : Mirror) (s : State), s.mirror? id = some m → m.broken = false → m.ended = false → m.accepted = true →
    ∃ y, (s.breakMirror id).mirror? id = some y ∧ y.broken = true ∧ y.brokenAt = s.clk.frame ∧ y.zones = m.zones.map (fun z => { z with next := z.ack })) ∧
  (∀ (id : Nat) (m : Mirror) (s : State), s.job? id = none → s.mirror? id = some m →
    ((m.broken = false ∨ s.clk.frame < m.brokenAt + s.ctlValue ctlResumeWindow * 5400000000) → exec (.resumeWindow id) s = .next s) ∧
    (m.broken = true → m.brokenAt + s.ctlValue ctlResumeWindow * 5400000000 ≤ s.clk.frame → Answers (exec (.resumeWindow id) s) fun t =>
      (m.source = true → t.mirror? id = none) ∧ (m.source = false → ∃ y, t.mirror? id = some y ∧ y.ended = true)))

/-- O60. Every ball of the package carries what the ball map gives it (R510, R512). Lane l of Halyard port p has its four balls in column
41 + 3p + l of rows 34, 35, 37 and 38, and every other ball of gap B is VSS; gap D carries the twelve balls of its table, and VSS
elsewhere. Every ball of the grid lies in exactly one region, the template of every flash port stands where the placement rule puts it,
and the counts of the kinds of balls are those of the allocation table, in all 2,601. In a part with fewer masts the signal balls of the
templates of the others are not connected and every other ball is as in the full one; a chip enable outside the population is driven high, and
a command to a LUN drives at most the chip enable of the LUN low. -/
def Obligations.PackageBalls : Prop :=
  (∀ p l : Nat, p ≤ 2 → l ≤ 1 →
    ballAt 34 (41 + 3 * p + l) = some (.halyardTx p l false) ∧ ballAt 35 (41 + 3 * p + l) = some (.halyardTx p l true) ∧
    ballAt 37 (41 + 3 * p + l) = some (.halyardRx p l false) ∧ ballAt 38 (41 + 3 * p + l) = some (.halyardRx p l true)) ∧
  (∀ r c : Nat, inRegion r c .gapB = true → (∀ p l, p ≤ 2 → l ≤ 1 → c = 41 + 3 * p + l → r ≠ 34 ∧ r ≠ 35 ∧ r ≠ 37 ∧ r ≠ 38) → ballAt r c = some .vss) ∧
  (ballAt 14 2 = some .tck ∧ ballAt 14 4 = some .tms ∧ ballAt 14 6 = some .tdi ∧ ballAt 14 8 = some .tdo ∧ ballAt 14 10 = some .trst ∧
    ballAt 18 6 = some .vqsel ∧ ballAt 16 2 = some .xtalIn ∧ ballAt 16 4 = some .xtalOut ∧ ballAt 16 8 = some .sbScl ∧ ballAt 16 10 = some .sbSda ∧
    ballAt 18 2 = some .led0 ∧ ballAt 18 4 = some .led1) ∧
  (∀ r c : Nat, inRegion r c .gapD = true → (r, c) ∉ [(14, 2), (14, 4), (14, 6), (14, 8), (14, 10), (18, 6), (16, 2), (16, 4), (16, 8), (16, 10), (18, 2), (18, 4)] →
    ballAt r c = some .vss) ∧
  (∀ r c : Nat, 1 ≤ r → r ≤ 51 → 1 ≤ c → c ≤ 51 → (regions.filter (inRegion r c)).length = 1) ∧
  (∀ p u v : Nat, p < 32 → u < 8 → v < 6 → ballAt (flashBall p u v).1 (flashBall p u v).2 = some (template p u v)) ∧
  (ballCount (fun b => b == .vin) = 364 ∧ ballCount (fun b => b == .vddqf) = 288 ∧ ballCount (fun b => b == .vss) = 1024 ∧
    ballCount (fun b => b == .tdRtn) = 16 ∧ grid.length = 2601) ∧
  (∀ masts p u v : Nat, p < 32 → u < 8 → v < 6 →
    ballOf masts (flashBall p u v).1 (flashBall p u v).2 = some (match template p u v with
      | .flash q pin => if p < 4 * masts then .flash q pin else .open_
      | b => b)) ∧
  (∀ masts r c : Nat, (∀ p pin, ballAt r c ≠ some (.flash p pin)) → ballOf masts r c = ballAt r c) ∧
  (∀ (p c : Nat) (s : State), p < s.portN → c < 8 → (s.ceIdle p c = true ↔ bit s.record.ceBitmap c = false)) ∧
  (∀ (p x c : Nat) (s : State), c ∈ s.ceLow p x → portOfLun x = p ∧ c = localOfLun x / 4 ∧ c < 8 ∧ s.ceIdle p c = false)
end

