-- ==== Sys2Proof/Laws/State.lean ====
section
/-! SUPPORT. What each update of one field leaves of every field. -/

namespace Sys2Proof.Machine

variable (s : State)

@[simp] theorem State.modFuses_variant (f : Fuses → Fuses) : (s.modFuses f).variant = s.variant := rfl
@[simp] theorem State.modFuses_fuses (f : Fuses → Fuses) : (s.modFuses f).fuses = f s.fuses := rfl
@[simp] theorem State.modFuses_jtag (f : Fuses → Fuses) : (s.modFuses f).jtag = s.jtag := rfl
@[simp] theorem State.modFuses_clk (f : Fuses → Fuses) : (s.modFuses f).clk = s.clk := rfl
@[simp] theorem State.modFuses_obj (f : Fuses → Fuses) : (s.modFuses f).obj = s.obj := rfl
@[simp] theorem State.modFuses_start (f : Fuses → Fuses) : (s.modFuses f).start = s.start := rfl
@[simp] theorem State.modFuses_pwr (f : Fuses → Fuses) : (s.modFuses f).pwr = s.pwr := rfl
@[simp] theorem State.modFuses_therm (f : Fuses → Fuses) : (s.modFuses f).therm = s.therm := rfl
@[simp] theorem State.modFuses_nrg (f : Fuses → Fuses) : (s.modFuses f).nrg = s.nrg := rfl
@[simp] theorem State.modFuses_masts (f : Fuses → Fuses) : (s.modFuses f).masts = s.masts := rfl
@[simp] theorem State.modFuses_ports (f : Fuses → Fuses) : (s.modFuses f).ports = s.ports := rfl
@[simp] theorem State.modFuses_luns (f : Fuses → Fuses) : (s.modFuses f).luns = s.luns := rfl
@[simp] theorem State.modFuses_media (f : Fuses → Fuses) : (s.modFuses f).media = s.media := rfl
@[simp] theorem State.modFuses_classes (f : Fuses → Fuses) : (s.modFuses f).classes = s.classes := rfl
@[simp] theorem State.modFuses_nss (f : Fuses → Fuses) : (s.modFuses f).nss = s.nss := rfl
@[simp] theorem State.modFuses_fns (f : Fuses → Fuses) : (s.modFuses f).fns = s.fns := rfl
@[simp] theorem State.modFuses_ctrl1 (f : Fuses → Fuses) : (s.modFuses f).ctrl1 = s.ctrl1 := rfl
@[simp] theorem State.modFuses_io (f : Fuses → Fuses) : (s.modFuses f).io = s.io := rfl
@[simp] theorem State.modFuses_keys (f : Fuses → Fuses) : (s.modFuses f).keys = s.keys := rfl
@[simp] theorem State.modFuses_fix (f : Fuses → Fuses) : (s.modFuses f).fix = s.fix := rfl
@[simp] theorem State.modFuses_mbx (f : Fuses → Fuses) : (s.modFuses f).mbx = s.mbx := rfl
@[simp] theorem State.modFuses_hal (f : Fuses → Fuses) : (s.modFuses f).hal = s.hal := rfl
@[simp] theorem State.modFuses_peer (f : Fuses → Fuses) : (s.modFuses f).peer = s.peer := rfl
@[simp] theorem State.modFuses_pool (f : Fuses → Fuses) : (s.modFuses f).pool = s.pool := rfl
@[simp] theorem State.modFuses_mems (f : Fuses → Fuses) : (s.modFuses f).mems = s.mems := rfl
@[simp] theorem State.modFuses_evt (f : Fuses → Fuses) : (s.modFuses f).evt = s.evt := rfl
@[simp] theorem State.modFuses_side (f : Fuses → Fuses) : (s.modFuses f).side = s.side := rfl
@[simp] theorem State.modFuses_ctl (f : Fuses → Fuses) : (s.modFuses f).ctl = s.ctl := rfl
@[simp] theorem State.modFuses_stseq (f : Fuses → Fuses) : (s.modFuses f).stseq = s.stseq := rfl
@[simp] theorem State.modFuses_out (f : Fuses → Fuses) : (s.modFuses f).out = s.out := rfl
@[simp] theorem State.modFuses_fresh (f : Fuses → Fuses) : (s.modFuses f).fresh = s.fresh := rfl
@[simp] theorem State.modFuses_pending (f : Fuses → Fuses) : (s.modFuses f).pending = s.pending := rfl

@[simp] theorem State.modJtag_variant (f : Jtag → Jtag) : (s.modJtag f).variant = s.variant := rfl
@[simp] theorem State.modJtag_fuses (f : Jtag → Jtag) : (s.modJtag f).fuses = s.fuses := rfl
@[simp] theorem State.modJtag_jtag (f : Jtag → Jtag) : (s.modJtag f).jtag = f s.jtag := rfl
@[simp] theorem State.modJtag_clk (f : Jtag → Jtag) : (s.modJtag f).clk = s.clk := rfl
@[simp] theorem State.modJtag_obj (f : Jtag → Jtag) : (s.modJtag f).obj = s.obj := rfl
@[simp] theorem State.modJtag_start (f : Jtag → Jtag) : (s.modJtag f).start = s.start := rfl
@[simp] theorem State.modJtag_pwr (f : Jtag → Jtag) : (s.modJtag f).pwr = s.pwr := rfl
@[simp] theorem State.modJtag_therm (f : Jtag → Jtag) : (s.modJtag f).therm = s.therm := rfl
@[simp] theorem State.modJtag_nrg (f : Jtag → Jtag) : (s.modJtag f).nrg = s.nrg := rfl
@[simp] theorem State.modJtag_masts (f : Jtag → Jtag) : (s.modJtag f).masts = s.masts := rfl
@[simp] theorem State.modJtag_ports (f : Jtag → Jtag) : (s.modJtag f).ports = s.ports := rfl
@[simp] theorem State.modJtag_luns (f : Jtag → Jtag) : (s.modJtag f).luns = s.luns := rfl
@[simp] theorem State.modJtag_media (f : Jtag → Jtag) : (s.modJtag f).media = s.media := rfl
@[simp] theorem State.modJtag_classes (f : Jtag → Jtag) : (s.modJtag f).classes = s.classes := rfl
@[simp] theorem State.modJtag_nss (f : Jtag → Jtag) : (s.modJtag f).nss = s.nss := rfl
@[simp] theorem State.modJtag_fns (f : Jtag → Jtag) : (s.modJtag f).fns = s.fns := rfl
@[simp] theorem State.modJtag_ctrl1 (f : Jtag → Jtag) : (s.modJtag f).ctrl1 = s.ctrl1 := rfl
@[simp] theorem State.modJtag_io (f : Jtag → Jtag) : (s.modJtag f).io = s.io := rfl
@[simp] theorem State.modJtag_keys (f : Jtag → Jtag) : (s.modJtag f).keys = s.keys := rfl
@[simp] theorem State.modJtag_fix (f : Jtag → Jtag) : (s.modJtag f).fix = s.fix := rfl
@[simp] theorem State.modJtag_mbx (f : Jtag → Jtag) : (s.modJtag f).mbx = s.mbx := rfl
@[simp] theorem State.modJtag_hal (f : Jtag → Jtag) : (s.modJtag f).hal = s.hal := rfl
@[simp] theorem State.modJtag_peer (f : Jtag → Jtag) : (s.modJtag f).peer = s.peer := rfl
@[simp] theorem State.modJtag_pool (f : Jtag → Jtag) : (s.modJtag f).pool = s.pool := rfl
@[simp] theorem State.modJtag_mems (f : Jtag → Jtag) : (s.modJtag f).mems = s.mems := rfl
@[simp] theorem State.modJtag_evt (f : Jtag → Jtag) : (s.modJtag f).evt = s.evt := rfl
@[simp] theorem State.modJtag_side (f : Jtag → Jtag) : (s.modJtag f).side = s.side := rfl
@[simp] theorem State.modJtag_ctl (f : Jtag → Jtag) : (s.modJtag f).ctl = s.ctl := rfl
@[simp] theorem State.modJtag_stseq (f : Jtag → Jtag) : (s.modJtag f).stseq = s.stseq := rfl
@[simp] theorem State.modJtag_out (f : Jtag → Jtag) : (s.modJtag f).out = s.out := rfl
@[simp] theorem State.modJtag_fresh (f : Jtag → Jtag) : (s.modJtag f).fresh = s.fresh := rfl
@[simp] theorem State.modJtag_pending (f : Jtag → Jtag) : (s.modJtag f).pending = s.pending := rfl

@[simp] theorem State.modClk_variant (f : Clock → Clock) : (s.modClk f).variant = s.variant := rfl
@[simp] theorem State.modClk_fuses (f : Clock → Clock) : (s.modClk f).fuses = s.fuses := rfl
@[simp] theorem State.modClk_jtag (f : Clock → Clock) : (s.modClk f).jtag = s.jtag := rfl
@[simp] theorem State.modClk_clk (f : Clock → Clock) : (s.modClk f).clk = f s.clk := rfl
@[simp] theorem State.modClk_obj (f : Clock → Clock) : (s.modClk f).obj = s.obj := rfl
@[simp] theorem State.modClk_start (f : Clock → Clock) : (s.modClk f).start = s.start := rfl
@[simp] theorem State.modClk_pwr (f : Clock → Clock) : (s.modClk f).pwr = s.pwr := rfl
@[simp] theorem State.modClk_therm (f : Clock → Clock) : (s.modClk f).therm = s.therm := rfl
@[simp] theorem State.modClk_nrg (f : Clock → Clock) : (s.modClk f).nrg = s.nrg := rfl
@[simp] theorem State.modClk_masts (f : Clock → Clock) : (s.modClk f).masts = s.masts := rfl
@[simp] theorem State.modClk_ports (f : Clock → Clock) : (s.modClk f).ports = s.ports := rfl
@[simp] theorem State.modClk_luns (f : Clock → Clock) : (s.modClk f).luns = s.luns := rfl
@[simp] theorem State.modClk_media (f : Clock → Clock) : (s.modClk f).media = s.media := rfl
@[simp] theorem State.modClk_classes (f : Clock → Clock) : (s.modClk f).classes = s.classes := rfl
@[simp] theorem State.modClk_nss (f : Clock → Clock) : (s.modClk f).nss = s.nss := rfl
@[simp] theorem State.modClk_fns (f : Clock → Clock) : (s.modClk f).fns = s.fns := rfl
@[simp] theorem State.modClk_ctrl1 (f : Clock → Clock) : (s.modClk f).ctrl1 = s.ctrl1 := rfl
@[simp] theorem State.modClk_io (f : Clock → Clock) : (s.modClk f).io = s.io := rfl
@[simp] theorem State.modClk_keys (f : Clock → Clock) : (s.modClk f).keys = s.keys := rfl
@[simp] theorem State.modClk_fix (f : Clock → Clock) : (s.modClk f).fix = s.fix := rfl
@[simp] theorem State.modClk_mbx (f : Clock → Clock) : (s.modClk f).mbx = s.mbx := rfl
@[simp] theorem State.modClk_hal (f : Clock → Clock) : (s.modClk f).hal = s.hal := rfl
@[simp] theorem State.modClk_peer (f : Clock → Clock) : (s.modClk f).peer = s.peer := rfl
@[simp] theorem State.modClk_pool (f : Clock → Clock) : (s.modClk f).pool = s.pool := rfl
@[simp] theorem State.modClk_mems (f : Clock → Clock) : (s.modClk f).mems = s.mems := rfl
@[simp] theorem State.modClk_evt (f : Clock → Clock) : (s.modClk f).evt = s.evt := rfl
@[simp] theorem State.modClk_side (f : Clock → Clock) : (s.modClk f).side = s.side := rfl
@[simp] theorem State.modClk_ctl (f : Clock → Clock) : (s.modClk f).ctl = s.ctl := rfl
@[simp] theorem State.modClk_stseq (f : Clock → Clock) : (s.modClk f).stseq = s.stseq := rfl
@[simp] theorem State.modClk_out (f : Clock → Clock) : (s.modClk f).out = s.out := rfl
@[simp] theorem State.modClk_fresh (f : Clock → Clock) : (s.modClk f).fresh = s.fresh := rfl
@[simp] theorem State.modClk_pending (f : Clock → Clock) : (s.modClk f).pending = s.pending := rfl

@[simp] theorem State.modObj_variant (f : Objects → Objects) : (s.modObj f).variant = s.variant := rfl
@[simp] theorem State.modObj_fuses (f : Objects → Objects) : (s.modObj f).fuses = s.fuses := rfl
@[simp] theorem State.modObj_jtag (f : Objects → Objects) : (s.modObj f).jtag = s.jtag := rfl
@[simp] theorem State.modObj_clk (f : Objects → Objects) : (s.modObj f).clk = s.clk := rfl
@[simp] theorem State.modObj_obj (f : Objects → Objects) : (s.modObj f).obj = f s.obj := rfl
@[simp] theorem State.modObj_start (f : Objects → Objects) : (s.modObj f).start = s.start := rfl
@[simp] theorem State.modObj_pwr (f : Objects → Objects) : (s.modObj f).pwr = s.pwr := rfl
@[simp] theorem State.modObj_therm (f : Objects → Objects) : (s.modObj f).therm = s.therm := rfl
@[simp] theorem State.modObj_nrg (f : Objects → Objects) : (s.modObj f).nrg = s.nrg := rfl
@[simp] theorem State.modObj_masts (f : Objects → Objects) : (s.modObj f).masts = s.masts := rfl
@[simp] theorem State.modObj_ports (f : Objects → Objects) : (s.modObj f).ports = s.ports := rfl
@[simp] theorem State.modObj_luns (f : Objects → Objects) : (s.modObj f).luns = s.luns := rfl
@[simp] theorem State.modObj_media (f : Objects → Objects) : (s.modObj f).media = s.media := rfl
@[simp] theorem State.modObj_classes (f : Objects → Objects) : (s.modObj f).classes = s.classes := rfl
@[simp] theorem State.modObj_nss (f : Objects → Objects) : (s.modObj f).nss = s.nss := rfl
@[simp] theorem State.modObj_fns (f : Objects → Objects) : (s.modObj f).fns = s.fns := rfl
@[simp] theorem State.modObj_ctrl1 (f : Objects → Objects) : (s.modObj f).ctrl1 = s.ctrl1 := rfl
@[simp] theorem State.modObj_io (f : Objects → Objects) : (s.modObj f).io = s.io := rfl
@[simp] theorem State.modObj_keys (f : Objects → Objects) : (s.modObj f).keys = s.keys := rfl
@[simp] theorem State.modObj_fix (f : Objects → Objects) : (s.modObj f).fix = s.fix := rfl
@[simp] theorem State.modObj_mbx (f : Objects → Objects) : (s.modObj f).mbx = s.mbx := rfl
@[simp] theorem State.modObj_hal (f : Objects → Objects) : (s.modObj f).hal = s.hal := rfl
@[simp] theorem State.modObj_peer (f : Objects → Objects) : (s.modObj f).peer = s.peer := rfl
@[simp] theorem State.modObj_pool (f : Objects → Objects) : (s.modObj f).pool = s.pool := rfl
@[simp] theorem State.modObj_mems (f : Objects → Objects) : (s.modObj f).mems = s.mems := rfl
@[simp] theorem State.modObj_evt (f : Objects → Objects) : (s.modObj f).evt = s.evt := rfl
@[simp] theorem State.modObj_side (f : Objects → Objects) : (s.modObj f).side = s.side := rfl
@[simp] theorem State.modObj_ctl (f : Objects → Objects) : (s.modObj f).ctl = s.ctl := rfl
@[simp] theorem State.modObj_stseq (f : Objects → Objects) : (s.modObj f).stseq = s.stseq := rfl
@[simp] theorem State.modObj_out (f : Objects → Objects) : (s.modObj f).out = s.out := rfl
@[simp] theorem State.modObj_fresh (f : Objects → Objects) : (s.modObj f).fresh = s.fresh := rfl
@[simp] theorem State.modObj_pending (f : Objects → Objects) : (s.modObj f).pending = s.pending := rfl

@[simp] theorem State.modStart_variant (f : Startup → Startup) : (s.modStart f).variant = s.variant := rfl
@[simp] theorem State.modStart_fuses (f : Startup → Startup) : (s.modStart f).fuses = s.fuses := rfl
@[simp] theorem State.modStart_jtag (f : Startup → Startup) : (s.modStart f).jtag = s.jtag := rfl
@[simp] theorem State.modStart_clk (f : Startup → Startup) : (s.modStart f).clk = s.clk := rfl
@[simp] theorem State.modStart_obj (f : Startup → Startup) : (s.modStart f).obj = s.obj := rfl
@[simp] theorem State.modStart_start (f : Startup → Startup) : (s.modStart f).start = f s.start := rfl
@[simp] theorem State.modStart_pwr (f : Startup → Startup) : (s.modStart f).pwr = s.pwr := rfl
@[simp] theorem State.modStart_therm (f : Startup → Startup) : (s.modStart f).therm = s.therm := rfl
@[simp] theorem State.modStart_nrg (f : Startup → Startup) : (s.modStart f).nrg = s.nrg := rfl
@[simp] theorem State.modStart_masts (f : Startup → Startup) : (s.modStart f).masts = s.masts := rfl
@[simp] theorem State.modStart_ports (f : Startup → Startup) : (s.modStart f).ports = s.ports := rfl
@[simp] theorem State.modStart_luns (f : Startup → Startup) : (s.modStart f).luns = s.luns := rfl
@[simp] theorem State.modStart_media (f : Startup → Startup) : (s.modStart f).media = s.media := rfl
@[simp] theorem State.modStart_classes (f : Startup → Startup) : (s.modStart f).classes = s.classes := rfl
@[simp] theorem State.modStart_nss (f : Startup → Startup) : (s.modStart f).nss = s.nss := rfl
@[simp] theorem State.modStart_fns (f : Startup → Startup) : (s.modStart f).fns = s.fns := rfl
@[simp] theorem State.modStart_ctrl1 (f : Startup → Startup) : (s.modStart f).ctrl1 = s.ctrl1 := rfl
@[simp] theorem State.modStart_io (f : Startup → Startup) : (s.modStart f).io = s.io := rfl
@[simp] theorem State.modStart_keys (f : Startup → Startup) : (s.modStart f).keys = s.keys := rfl
@[simp] theorem State.modStart_fix (f : Startup → Startup) : (s.modStart f).fix = s.fix := rfl
@[simp] theorem State.modStart_mbx (f : Startup → Startup) : (s.modStart f).mbx = s.mbx := rfl
@[simp] theorem State.modStart_hal (f : Startup → Startup) : (s.modStart f).hal = s.hal := rfl
@[simp] theorem State.modStart_peer (f : Startup → Startup) : (s.modStart f).peer = s.peer := rfl
@[simp] theorem State.modStart_pool (f : Startup → Startup) : (s.modStart f).pool = s.pool := rfl
@[simp] theorem State.modStart_mems (f : Startup → Startup) : (s.modStart f).mems = s.mems := rfl
@[simp] theorem State.modStart_evt (f : Startup → Startup) : (s.modStart f).evt = s.evt := rfl
@[simp] theorem State.modStart_side (f : Startup → Startup) : (s.modStart f).side = s.side := rfl
@[simp] theorem State.modStart_ctl (f : Startup → Startup) : (s.modStart f).ctl = s.ctl := rfl
@[simp] theorem State.modStart_stseq (f : Startup → Startup) : (s.modStart f).stseq = s.stseq := rfl
@[simp] theorem State.modStart_out (f : Startup → Startup) : (s.modStart f).out = s.out := rfl
@[simp] theorem State.modStart_fresh (f : Startup → Startup) : (s.modStart f).fresh = s.fresh := rfl
@[simp] theorem State.modStart_pending (f : Startup → Startup) : (s.modStart f).pending = s.pending := rfl

@[simp] theorem State.modPwr_variant (f : Power → Power) : (s.modPwr f).variant = s.variant := rfl
@[simp] theorem State.modPwr_fuses (f : Power → Power) : (s.modPwr f).fuses = s.fuses := rfl
@[simp] theorem State.modPwr_jtag (f : Power → Power) : (s.modPwr f).jtag = s.jtag := rfl
@[simp] theorem State.modPwr_clk (f : Power → Power) : (s.modPwr f).clk = s.clk := rfl
@[simp] theorem State.modPwr_obj (f : Power → Power) : (s.modPwr f).obj = s.obj := rfl
@[simp] theorem State.modPwr_start (f : Power → Power) : (s.modPwr f).start = s.start := rfl
@[simp] theorem State.modPwr_pwr (f : Power → Power) : (s.modPwr f).pwr = f s.pwr := rfl
@[simp] theorem State.modPwr_therm (f : Power → Power) : (s.modPwr f).therm = s.therm := rfl
@[simp] theorem State.modPwr_nrg (f : Power → Power) : (s.modPwr f).nrg = s.nrg := rfl
@[simp] theorem State.modPwr_masts (f : Power → Power) : (s.modPwr f).masts = s.masts := rfl
@[simp] theorem State.modPwr_ports (f : Power → Power) : (s.modPwr f).ports = s.ports := rfl
@[simp] theorem State.modPwr_luns (f : Power → Power) : (s.modPwr f).luns = s.luns := rfl
@[simp] theorem State.modPwr_media (f : Power → Power) : (s.modPwr f).media = s.media := rfl
@[simp] theorem State.modPwr_classes (f : Power → Power) : (s.modPwr f).classes = s.classes := rfl
@[simp] theorem State.modPwr_nss (f : Power → Power) : (s.modPwr f).nss = s.nss := rfl
@[simp] theorem State.modPwr_fns (f : Power → Power) : (s.modPwr f).fns = s.fns := rfl
@[simp] theorem State.modPwr_ctrl1 (f : Power → Power) : (s.modPwr f).ctrl1 = s.ctrl1 := rfl
@[simp] theorem State.modPwr_io (f : Power → Power) : (s.modPwr f).io = s.io := rfl
@[simp] theorem State.modPwr_keys (f : Power → Power) : (s.modPwr f).keys = s.keys := rfl
@[simp] theorem State.modPwr_fix (f : Power → Power) : (s.modPwr f).fix = s.fix := rfl
@[simp] theorem State.modPwr_mbx (f : Power → Power) : (s.modPwr f).mbx = s.mbx := rfl
@[simp] theorem State.modPwr_hal (f : Power → Power) : (s.modPwr f).hal = s.hal := rfl
@[simp] theorem State.modPwr_peer (f : Power → Power) : (s.modPwr f).peer = s.peer := rfl
@[simp] theorem State.modPwr_pool (f : Power → Power) : (s.modPwr f).pool = s.pool := rfl
@[simp] theorem State.modPwr_mems (f : Power → Power) : (s.modPwr f).mems = s.mems := rfl
@[simp] theorem State.modPwr_evt (f : Power → Power) : (s.modPwr f).evt = s.evt := rfl
@[simp] theorem State.modPwr_side (f : Power → Power) : (s.modPwr f).side = s.side := rfl
@[simp] theorem State.modPwr_ctl (f : Power → Power) : (s.modPwr f).ctl = s.ctl := rfl
@[simp] theorem State.modPwr_stseq (f : Power → Power) : (s.modPwr f).stseq = s.stseq := rfl
@[simp] theorem State.modPwr_out (f : Power → Power) : (s.modPwr f).out = s.out := rfl
@[simp] theorem State.modPwr_fresh (f : Power → Power) : (s.modPwr f).fresh = s.fresh := rfl
@[simp] theorem State.modPwr_pending (f : Power → Power) : (s.modPwr f).pending = s.pending := rfl

@[simp] theorem State.modTherm_variant (f : Thermal → Thermal) : (s.modTherm f).variant = s.variant := rfl
@[simp] theorem State.modTherm_fuses (f : Thermal → Thermal) : (s.modTherm f).fuses = s.fuses := rfl
@[simp] theorem State.modTherm_jtag (f : Thermal → Thermal) : (s.modTherm f).jtag = s.jtag := rfl
@[simp] theorem State.modTherm_clk (f : Thermal → Thermal) : (s.modTherm f).clk = s.clk := rfl
@[simp] theorem State.modTherm_obj (f : Thermal → Thermal) : (s.modTherm f).obj = s.obj := rfl
@[simp] theorem State.modTherm_start (f : Thermal → Thermal) : (s.modTherm f).start = s.start := rfl
@[simp] theorem State.modTherm_pwr (f : Thermal → Thermal) : (s.modTherm f).pwr = s.pwr := rfl
@[simp] theorem State.modTherm_therm (f : Thermal → Thermal) : (s.modTherm f).therm = f s.therm := rfl
@[simp] theorem State.modTherm_nrg (f : Thermal → Thermal) : (s.modTherm f).nrg = s.nrg := rfl
@[simp] theorem State.modTherm_masts (f : Thermal → Thermal) : (s.modTherm f).masts = s.masts := rfl
@[simp] theorem State.modTherm_ports (f : Thermal → Thermal) : (s.modTherm f).ports = s.ports := rfl
@[simp] theorem State.modTherm_luns (f : Thermal → Thermal) : (s.modTherm f).luns = s.luns := rfl
@[simp] theorem State.modTherm_media (f : Thermal → Thermal) : (s.modTherm f).media = s.media := rfl
@[simp] theorem State.modTherm_classes (f : Thermal → Thermal) : (s.modTherm f).classes = s.classes := rfl
@[simp] theorem State.modTherm_nss (f : Thermal → Thermal) : (s.modTherm f).nss = s.nss := rfl
@[simp] theorem State.modTherm_fns (f : Thermal → Thermal) : (s.modTherm f).fns = s.fns := rfl
@[simp] theorem State.modTherm_ctrl1 (f : Thermal → Thermal) : (s.modTherm f).ctrl1 = s.ctrl1 := rfl
@[simp] theorem State.modTherm_io (f : Thermal → Thermal) : (s.modTherm f).io = s.io := rfl
@[simp] theorem State.modTherm_keys (f : Thermal → Thermal) : (s.modTherm f).keys = s.keys := rfl
@[simp] theorem State.modTherm_fix (f : Thermal → Thermal) : (s.modTherm f).fix = s.fix := rfl
@[simp] theorem State.modTherm_mbx (f : Thermal → Thermal) : (s.modTherm f).mbx = s.mbx := rfl
@[simp] theorem State.modTherm_hal (f : Thermal → Thermal) : (s.modTherm f).hal = s.hal := rfl
@[simp] theorem State.modTherm_peer (f : Thermal → Thermal) : (s.modTherm f).peer = s.peer := rfl
@[simp] theorem State.modTherm_pool (f : Thermal → Thermal) : (s.modTherm f).pool = s.pool := rfl
@[simp] theorem State.modTherm_mems (f : Thermal → Thermal) : (s.modTherm f).mems = s.mems := rfl
@[simp] theorem State.modTherm_evt (f : Thermal → Thermal) : (s.modTherm f).evt = s.evt := rfl
@[simp] theorem State.modTherm_side (f : Thermal → Thermal) : (s.modTherm f).side = s.side := rfl
@[simp] theorem State.modTherm_ctl (f : Thermal → Thermal) : (s.modTherm f).ctl = s.ctl := rfl
@[simp] theorem State.modTherm_stseq (f : Thermal → Thermal) : (s.modTherm f).stseq = s.stseq := rfl
@[simp] theorem State.modTherm_out (f : Thermal → Thermal) : (s.modTherm f).out = s.out := rfl
@[simp] theorem State.modTherm_fresh (f : Thermal → Thermal) : (s.modTherm f).fresh = s.fresh := rfl
@[simp] theorem State.modTherm_pending (f : Thermal → Thermal) : (s.modTherm f).pending = s.pending := rfl

@[simp] theorem State.modNrg_variant (f : Energy → Energy) : (s.modNrg f).variant = s.variant := rfl
@[simp] theorem State.modNrg_fuses (f : Energy → Energy) : (s.modNrg f).fuses = s.fuses := rfl
@[simp] theorem State.modNrg_jtag (f : Energy → Energy) : (s.modNrg f).jtag = s.jtag := rfl
@[simp] theorem State.modNrg_clk (f : Energy → Energy) : (s.modNrg f).clk = s.clk := rfl
@[simp] theorem State.modNrg_obj (f : Energy → Energy) : (s.modNrg f).obj = s.obj := rfl
@[simp] theorem State.modNrg_start (f : Energy → Energy) : (s.modNrg f).start = s.start := rfl
@[simp] theorem State.modNrg_pwr (f : Energy → Energy) : (s.modNrg f).pwr = s.pwr := rfl
@[simp] theorem State.modNrg_therm (f : Energy → Energy) : (s.modNrg f).therm = s.therm := rfl
@[simp] theorem State.modNrg_nrg (f : Energy → Energy) : (s.modNrg f).nrg = f s.nrg := rfl
@[simp] theorem State.modNrg_masts (f : Energy → Energy) : (s.modNrg f).masts = s.masts := rfl
@[simp] theorem State.modNrg_ports (f : Energy → Energy) : (s.modNrg f).ports = s.ports := rfl
@[simp] theorem State.modNrg_luns (f : Energy → Energy) : (s.modNrg f).luns = s.luns := rfl
@[simp] theorem State.modNrg_media (f : Energy → Energy) : (s.modNrg f).media = s.media := rfl
@[simp] theorem State.modNrg_classes (f : Energy → Energy) : (s.modNrg f).classes = s.classes := rfl
@[simp] theorem State.modNrg_nss (f : Energy → Energy) : (s.modNrg f).nss = s.nss := rfl
@[simp] theorem State.modNrg_fns (f : Energy → Energy) : (s.modNrg f).fns = s.fns := rfl
@[simp] theorem State.modNrg_ctrl1 (f : Energy → Energy) : (s.modNrg f).ctrl1 = s.ctrl1 := rfl
@[simp] theorem State.modNrg_io (f : Energy → Energy) : (s.modNrg f).io = s.io := rfl
@[simp] theorem State.modNrg_keys (f : Energy → Energy) : (s.modNrg f).keys = s.keys := rfl
@[simp] theorem State.modNrg_fix (f : Energy → Energy) : (s.modNrg f).fix = s.fix := rfl
@[simp] theorem State.modNrg_mbx (f : Energy → Energy) : (s.modNrg f).mbx = s.mbx := rfl
@[simp] theorem State.modNrg_hal (f : Energy → Energy) : (s.modNrg f).hal = s.hal := rfl
@[simp] theorem State.modNrg_peer (f : Energy → Energy) : (s.modNrg f).peer = s.peer := rfl
@[simp] theorem State.modNrg_pool (f : Energy → Energy) : (s.modNrg f).pool = s.pool := rfl
@[simp] theorem State.modNrg_mems (f : Energy → Energy) : (s.modNrg f).mems = s.mems := rfl
@[simp] theorem State.modNrg_evt (f : Energy → Energy) : (s.modNrg f).evt = s.evt := rfl
@[simp] theorem State.modNrg_side (f : Energy → Energy) : (s.modNrg f).side = s.side := rfl
@[simp] theorem State.modNrg_ctl (f : Energy → Energy) : (s.modNrg f).ctl = s.ctl := rfl
@[simp] theorem State.modNrg_stseq (f : Energy → Energy) : (s.modNrg f).stseq = s.stseq := rfl
@[simp] theorem State.modNrg_out (f : Energy → Energy) : (s.modNrg f).out = s.out := rfl
@[simp] theorem State.modNrg_fresh (f : Energy → Energy) : (s.modNrg f).fresh = s.fresh := rfl
@[simp] theorem State.modNrg_pending (f : Energy → Energy) : (s.modNrg f).pending = s.pending := rfl

@[simp] theorem State.modMasts_variant (f : List Mast → List Mast) : (s.modMasts f).variant = s.variant := rfl
@[simp] theorem State.modMasts_fuses (f : List Mast → List Mast) : (s.modMasts f).fuses = s.fuses := rfl
@[simp] theorem State.modMasts_jtag (f : List Mast → List Mast) : (s.modMasts f).jtag = s.jtag := rfl
@[simp] theorem State.modMasts_clk (f : List Mast → List Mast) : (s.modMasts f).clk = s.clk := rfl
@[simp] theorem State.modMasts_obj (f : List Mast → List Mast) : (s.modMasts f).obj = s.obj := rfl
@[simp] theorem State.modMasts_start (f : List Mast → List Mast) : (s.modMasts f).start = s.start := rfl
@[simp] theorem State.modMasts_pwr (f : List Mast → List Mast) : (s.modMasts f).pwr = s.pwr := rfl
@[simp] theorem State.modMasts_therm (f : List Mast → List Mast) : (s.modMasts f).therm = s.therm := rfl
@[simp] theorem State.modMasts_nrg (f : List Mast → List Mast) : (s.modMasts f).nrg = s.nrg := rfl
@[simp] theorem State.modMasts_masts (f : List Mast → List Mast) : (s.modMasts f).masts = f s.masts := rfl
@[simp] theorem State.modMasts_ports (f : List Mast → List Mast) : (s.modMasts f).ports = s.ports := rfl
@[simp] theorem State.modMasts_luns (f : List Mast → List Mast) : (s.modMasts f).luns = s.luns := rfl
@[simp] theorem State.modMasts_media (f : List Mast → List Mast) : (s.modMasts f).media = s.media := rfl
@[simp] theorem State.modMasts_classes (f : List Mast → List Mast) : (s.modMasts f).classes = s.classes := rfl
@[simp] theorem State.modMasts_nss (f : List Mast → List Mast) : (s.modMasts f).nss = s.nss := rfl
@[simp] theorem State.modMasts_fns (f : List Mast → List Mast) : (s.modMasts f).fns = s.fns := rfl
@[simp] theorem State.modMasts_ctrl1 (f : List Mast → List Mast) : (s.modMasts f).ctrl1 = s.ctrl1 := rfl
@[simp] theorem State.modMasts_io (f : List Mast → List Mast) : (s.modMasts f).io = s.io := rfl
@[simp] theorem State.modMasts_keys (f : List Mast → List Mast) : (s.modMasts f).keys = s.keys := rfl
@[simp] theorem State.modMasts_fix (f : List Mast → List Mast) : (s.modMasts f).fix = s.fix := rfl
@[simp] theorem State.modMasts_mbx (f : List Mast → List Mast) : (s.modMasts f).mbx = s.mbx := rfl
@[simp] theorem State.modMasts_hal (f : List Mast → List Mast) : (s.modMasts f).hal = s.hal := rfl
@[simp] theorem State.modMasts_peer (f : List Mast → List Mast) : (s.modMasts f).peer = s.peer := rfl
@[simp] theorem State.modMasts_pool (f : List Mast → List Mast) : (s.modMasts f).pool = s.pool := rfl
@[simp] theorem State.modMasts_mems (f : List Mast → List Mast) : (s.modMasts f).mems = s.mems := rfl
@[simp] theorem State.modMasts_evt (f : List Mast → List Mast) : (s.modMasts f).evt = s.evt := rfl
@[simp] theorem State.modMasts_side (f : List Mast → List Mast) : (s.modMasts f).side = s.side := rfl
@[simp] theorem State.modMasts_ctl (f : List Mast → List Mast) : (s.modMasts f).ctl = s.ctl := rfl
@[simp] theorem State.modMasts_stseq (f : List Mast → List Mast) : (s.modMasts f).stseq = s.stseq := rfl
@[simp] theorem State.modMasts_out (f : List Mast → List Mast) : (s.modMasts f).out = s.out := rfl
@[simp] theorem State.modMasts_fresh (f : List Mast → List Mast) : (s.modMasts f).fresh = s.fresh := rfl
@[simp] theorem State.modMasts_pending (f : List Mast → List Mast) : (s.modMasts f).pending = s.pending := rfl

@[simp] theorem State.modPorts_variant (f : List Port → List Port) : (s.modPorts f).variant = s.variant := rfl
@[simp] theorem State.modPorts_fuses (f : List Port → List Port) : (s.modPorts f).fuses = s.fuses := rfl
@[simp] theorem State.modPorts_jtag (f : List Port → List Port) : (s.modPorts f).jtag = s.jtag := rfl
@[simp] theorem State.modPorts_clk (f : List Port → List Port) : (s.modPorts f).clk = s.clk := rfl
@[simp] theorem State.modPorts_obj (f : List Port → List Port) : (s.modPorts f).obj = s.obj := rfl
@[simp] theorem State.modPorts_start (f : List Port → List Port) : (s.modPorts f).start = s.start := rfl
@[simp] theorem State.modPorts_pwr (f : List Port → List Port) : (s.modPorts f).pwr = s.pwr := rfl
@[simp] theorem State.modPorts_therm (f : List Port → List Port) : (s.modPorts f).therm = s.therm := rfl
@[simp] theorem State.modPorts_nrg (f : List Port → List Port) : (s.modPorts f).nrg = s.nrg := rfl
@[simp] theorem State.modPorts_masts (f : List Port → List Port) : (s.modPorts f).masts = s.masts := rfl
@[simp] theorem State.modPorts_ports (f : List Port → List Port) : (s.modPorts f).ports = f s.ports := rfl
@[simp] theorem State.modPorts_luns (f : List Port → List Port) : (s.modPorts f).luns = s.luns := rfl
@[simp] theorem State.modPorts_media (f : List Port → List Port) : (s.modPorts f).media = s.media := rfl
@[simp] theorem State.modPorts_classes (f : List Port → List Port) : (s.modPorts f).classes = s.classes := rfl
@[simp] theorem State.modPorts_nss (f : List Port → List Port) : (s.modPorts f).nss = s.nss := rfl
@[simp] theorem State.modPorts_fns (f : List Port → List Port) : (s.modPorts f).fns = s.fns := rfl
@[simp] theorem State.modPorts_ctrl1 (f : List Port → List Port) : (s.modPorts f).ctrl1 = s.ctrl1 := rfl
@[simp] theorem State.modPorts_io (f : List Port → List Port) : (s.modPorts f).io = s.io := rfl
@[simp] theorem State.modPorts_keys (f : List Port → List Port) : (s.modPorts f).keys = s.keys := rfl
@[simp] theorem State.modPorts_fix (f : List Port → List Port) : (s.modPorts f).fix = s.fix := rfl
@[simp] theorem State.modPorts_mbx (f : List Port → List Port) : (s.modPorts f).mbx = s.mbx := rfl
@[simp] theorem State.modPorts_hal (f : List Port → List Port) : (s.modPorts f).hal = s.hal := rfl
@[simp] theorem State.modPorts_peer (f : List Port → List Port) : (s.modPorts f).peer = s.peer := rfl
@[simp] theorem State.modPorts_pool (f : List Port → List Port) : (s.modPorts f).pool = s.pool := rfl
@[simp] theorem State.modPorts_mems (f : List Port → List Port) : (s.modPorts f).mems = s.mems := rfl
@[simp] theorem State.modPorts_evt (f : List Port → List Port) : (s.modPorts f).evt = s.evt := rfl
@[simp] theorem State.modPorts_side (f : List Port → List Port) : (s.modPorts f).side = s.side := rfl
@[simp] theorem State.modPorts_ctl (f : List Port → List Port) : (s.modPorts f).ctl = s.ctl := rfl
@[simp] theorem State.modPorts_stseq (f : List Port → List Port) : (s.modPorts f).stseq = s.stseq := rfl
@[simp] theorem State.modPorts_out (f : List Port → List Port) : (s.modPorts f).out = s.out := rfl
@[simp] theorem State.modPorts_fresh (f : List Port → List Port) : (s.modPorts f).fresh = s.fresh := rfl
@[simp] theorem State.modPorts_pending (f : List Port → List Port) : (s.modPorts f).pending = s.pending := rfl

@[simp] theorem State.modLuns_variant (f : List Lun → List Lun) : (s.modLuns f).variant = s.variant := rfl
@[simp] theorem State.modLuns_fuses (f : List Lun → List Lun) : (s.modLuns f).fuses = s.fuses := rfl
@[simp] theorem State.modLuns_jtag (f : List Lun → List Lun) : (s.modLuns f).jtag = s.jtag := rfl
@[simp] theorem State.modLuns_clk (f : List Lun → List Lun) : (s.modLuns f).clk = s.clk := rfl
@[simp] theorem State.modLuns_obj (f : List Lun → List Lun) : (s.modLuns f).obj = s.obj := rfl
@[simp] theorem State.modLuns_start (f : List Lun → List Lun) : (s.modLuns f).start = s.start := rfl
@[simp] theorem State.modLuns_pwr (f : List Lun → List Lun) : (s.modLuns f).pwr = s.pwr := rfl
@[simp] theorem State.modLuns_therm (f : List Lun → List Lun) : (s.modLuns f).therm = s.therm := rfl
@[simp] theorem State.modLuns_nrg (f : List Lun → List Lun) : (s.modLuns f).nrg = s.nrg := rfl
@[simp] theorem State.modLuns_masts (f : List Lun → List Lun) : (s.modLuns f).masts = s.masts := rfl
@[simp] theorem State.modLuns_ports (f : List Lun → List Lun) : (s.modLuns f).ports = s.ports := rfl
@[simp] theorem State.modLuns_luns (f : List Lun → List Lun) : (s.modLuns f).luns = f s.luns := rfl
@[simp] theorem State.modLuns_media (f : List Lun → List Lun) : (s.modLuns f).media = s.media := rfl
@[simp] theorem State.modLuns_classes (f : List Lun → List Lun) : (s.modLuns f).classes = s.classes := rfl
@[simp] theorem State.modLuns_nss (f : List Lun → List Lun) : (s.modLuns f).nss = s.nss := rfl
@[simp] theorem State.modLuns_fns (f : List Lun → List Lun) : (s.modLuns f).fns = s.fns := rfl
@[simp] theorem State.modLuns_ctrl1 (f : List Lun → List Lun) : (s.modLuns f).ctrl1 = s.ctrl1 := rfl
@[simp] theorem State.modLuns_io (f : List Lun → List Lun) : (s.modLuns f).io = s.io := rfl
@[simp] theorem State.modLuns_keys (f : List Lun → List Lun) : (s.modLuns f).keys = s.keys := rfl
@[simp] theorem State.modLuns_fix (f : List Lun → List Lun) : (s.modLuns f).fix = s.fix := rfl
@[simp] theorem State.modLuns_mbx (f : List Lun → List Lun) : (s.modLuns f).mbx = s.mbx := rfl
@[simp] theorem State.modLuns_hal (f : List Lun → List Lun) : (s.modLuns f).hal = s.hal := rfl
@[simp] theorem State.modLuns_peer (f : List Lun → List Lun) : (s.modLuns f).peer = s.peer := rfl
@[simp] theorem State.modLuns_pool (f : List Lun → List Lun) : (s.modLuns f).pool = s.pool := rfl
@[simp] theorem State.modLuns_mems (f : List Lun → List Lun) : (s.modLuns f).mems = s.mems := rfl
@[simp] theorem State.modLuns_evt (f : List Lun → List Lun) : (s.modLuns f).evt = s.evt := rfl
@[simp] theorem State.modLuns_side (f : List Lun → List Lun) : (s.modLuns f).side = s.side := rfl
@[simp] theorem State.modLuns_ctl (f : List Lun → List Lun) : (s.modLuns f).ctl = s.ctl := rfl
@[simp] theorem State.modLuns_stseq (f : List Lun → List Lun) : (s.modLuns f).stseq = s.stseq := rfl
@[simp] theorem State.modLuns_out (f : List Lun → List Lun) : (s.modLuns f).out = s.out := rfl
@[simp] theorem State.modLuns_fresh (f : List Lun → List Lun) : (s.modLuns f).fresh = s.fresh := rfl
@[simp] theorem State.modLuns_pending (f : List Lun → List Lun) : (s.modLuns f).pending = s.pending := rfl

@[simp] theorem State.modMedia_variant (f : Media → Media) : (s.modMedia f).variant = s.variant := rfl
@[simp] theorem State.modMedia_fuses (f : Media → Media) : (s.modMedia f).fuses = s.fuses := rfl
@[simp] theorem State.modMedia_jtag (f : Media → Media) : (s.modMedia f).jtag = s.jtag := rfl
@[simp] theorem State.modMedia_clk (f : Media → Media) : (s.modMedia f).clk = s.clk := rfl
@[simp] theorem State.modMedia_obj (f : Media → Media) : (s.modMedia f).obj = s.obj := rfl
@[simp] theorem State.modMedia_start (f : Media → Media) : (s.modMedia f).start = s.start := rfl
@[simp] theorem State.modMedia_pwr (f : Media → Media) : (s.modMedia f).pwr = s.pwr := rfl
@[simp] theorem State.modMedia_therm (f : Media → Media) : (s.modMedia f).therm = s.therm := rfl
@[simp] theorem State.modMedia_nrg (f : Media → Media) : (s.modMedia f).nrg = s.nrg := rfl
@[simp] theorem State.modMedia_masts (f : Media → Media) : (s.modMedia f).masts = s.masts := rfl
@[simp] theorem State.modMedia_ports (f : Media → Media) : (s.modMedia f).ports = s.ports := rfl
@[simp] theorem State.modMedia_luns (f : Media → Media) : (s.modMedia f).luns = s.luns := rfl
@[simp] theorem State.modMedia_media (f : Media → Media) : (s.modMedia f).media = f s.media := rfl
@[simp] theorem State.modMedia_classes (f : Media → Media) : (s.modMedia f).classes = s.classes := rfl
@[simp] theorem State.modMedia_nss (f : Media → Media) : (s.modMedia f).nss = s.nss := rfl
@[simp] theorem State.modMedia_fns (f : Media → Media) : (s.modMedia f).fns = s.fns := rfl
@[simp] theorem State.modMedia_ctrl1 (f : Media → Media) : (s.modMedia f).ctrl1 = s.ctrl1 := rfl
@[simp] theorem State.modMedia_io (f : Media → Media) : (s.modMedia f).io = s.io := rfl
@[simp] theorem State.modMedia_keys (f : Media → Media) : (s.modMedia f).keys = s.keys := rfl
@[simp] theorem State.modMedia_fix (f : Media → Media) : (s.modMedia f).fix = s.fix := rfl
@[simp] theorem State.modMedia_mbx (f : Media → Media) : (s.modMedia f).mbx = s.mbx := rfl
@[simp] theorem State.modMedia_hal (f : Media → Media) : (s.modMedia f).hal = s.hal := rfl
@[simp] theorem State.modMedia_peer (f : Media → Media) : (s.modMedia f).peer = s.peer := rfl
@[simp] theorem State.modMedia_pool (f : Media → Media) : (s.modMedia f).pool = s.pool := rfl
@[simp] theorem State.modMedia_mems (f : Media → Media) : (s.modMedia f).mems = s.mems := rfl
@[simp] theorem State.modMedia_evt (f : Media → Media) : (s.modMedia f).evt = s.evt := rfl
@[simp] theorem State.modMedia_side (f : Media → Media) : (s.modMedia f).side = s.side := rfl
@[simp] theorem State.modMedia_ctl (f : Media → Media) : (s.modMedia f).ctl = s.ctl := rfl
@[simp] theorem State.modMedia_stseq (f : Media → Media) : (s.modMedia f).stseq = s.stseq := rfl
@[simp] theorem State.modMedia_out (f : Media → Media) : (s.modMedia f).out = s.out := rfl
@[simp] theorem State.modMedia_fresh (f : Media → Media) : (s.modMedia f).fresh = s.fresh := rfl
@[simp] theorem State.modMedia_pending (f : Media → Media) : (s.modMedia f).pending = s.pending := rfl

@[simp] theorem State.modClasses_variant (f : List PClass → List PClass) : (s.modClasses f).variant = s.variant := rfl
@[simp] theorem State.modClasses_fuses (f : List PClass → List PClass) : (s.modClasses f).fuses = s.fuses := rfl
@[simp] theorem State.modClasses_jtag (f : List PClass → List PClass) : (s.modClasses f).jtag = s.jtag := rfl
@[simp] theorem State.modClasses_clk (f : List PClass → List PClass) : (s.modClasses f).clk = s.clk := rfl
@[simp] theorem State.modClasses_obj (f : List PClass → List PClass) : (s.modClasses f).obj = s.obj := rfl
@[simp] theorem State.modClasses_start (f : List PClass → List PClass) : (s.modClasses f).start = s.start := rfl
@[simp] theorem State.modClasses_pwr (f : List PClass → List PClass) : (s.modClasses f).pwr = s.pwr := rfl
@[simp] theorem State.modClasses_therm (f : List PClass → List PClass) : (s.modClasses f).therm = s.therm := rfl
@[simp] theorem State.modClasses_nrg (f : List PClass → List PClass) : (s.modClasses f).nrg = s.nrg := rfl
@[simp] theorem State.modClasses_masts (f : List PClass → List PClass) : (s.modClasses f).masts = s.masts := rfl
@[simp] theorem State.modClasses_ports (f : List PClass → List PClass) : (s.modClasses f).ports = s.ports := rfl
@[simp] theorem State.modClasses_luns (f : List PClass → List PClass) : (s.modClasses f).luns = s.luns := rfl
@[simp] theorem State.modClasses_media (f : List PClass → List PClass) : (s.modClasses f).media = s.media := rfl
@[simp] theorem State.modClasses_classes (f : List PClass → List PClass) : (s.modClasses f).classes = f s.classes := rfl
@[simp] theorem State.modClasses_nss (f : List PClass → List PClass) : (s.modClasses f).nss = s.nss := rfl
@[simp] theorem State.modClasses_fns (f : List PClass → List PClass) : (s.modClasses f).fns = s.fns := rfl
@[simp] theorem State.modClasses_ctrl1 (f : List PClass → List PClass) : (s.modClasses f).ctrl1 = s.ctrl1 := rfl
@[simp] theorem State.modClasses_io (f : List PClass → List PClass) : (s.modClasses f).io = s.io := rfl
@[simp] theorem State.modClasses_keys (f : List PClass → List PClass) : (s.modClasses f).keys = s.keys := rfl
@[simp] theorem State.modClasses_fix (f : List PClass → List PClass) : (s.modClasses f).fix = s.fix := rfl
@[simp] theorem State.modClasses_mbx (f : List PClass → List PClass) : (s.modClasses f).mbx = s.mbx := rfl
@[simp] theorem State.modClasses_hal (f : List PClass → List PClass) : (s.modClasses f).hal = s.hal := rfl
@[simp] theorem State.modClasses_peer (f : List PClass → List PClass) : (s.modClasses f).peer = s.peer := rfl
@[simp] theorem State.modClasses_pool (f : List PClass → List PClass) : (s.modClasses f).pool = s.pool := rfl
@[simp] theorem State.modClasses_mems (f : List PClass → List PClass) : (s.modClasses f).mems = s.mems := rfl
@[simp] theorem State.modClasses_evt (f : List PClass → List PClass) : (s.modClasses f).evt = s.evt := rfl
@[simp] theorem State.modClasses_side (f : List PClass → List PClass) : (s.modClasses f).side = s.side := rfl
@[simp] theorem State.modClasses_ctl (f : List PClass → List PClass) : (s.modClasses f).ctl = s.ctl := rfl
@[simp] theorem State.modClasses_stseq (f : List PClass → List PClass) : (s.modClasses f).stseq = s.stseq := rfl
@[simp] theorem State.modClasses_out (f : List PClass → List PClass) : (s.modClasses f).out = s.out := rfl
@[simp] theorem State.modClasses_fresh (f : List PClass → List PClass) : (s.modClasses f).fresh = s.fresh := rfl
@[simp] theorem State.modClasses_pending (f : List PClass → List PClass) : (s.modClasses f).pending = s.pending := rfl

@[simp] theorem State.modNss_variant (f : List Namespace → List Namespace) : (s.modNss f).variant = s.variant := rfl
@[simp] theorem State.modNss_fuses (f : List Namespace → List Namespace) : (s.modNss f).fuses = s.fuses := rfl
@[simp] theorem State.modNss_jtag (f : List Namespace → List Namespace) : (s.modNss f).jtag = s.jtag := rfl
@[simp] theorem State.modNss_clk (f : List Namespace → List Namespace) : (s.modNss f).clk = s.clk := rfl
@[simp] theorem State.modNss_obj (f : List Namespace → List Namespace) : (s.modNss f).obj = s.obj := rfl
@[simp] theorem State.modNss_start (f : List Namespace → List Namespace) : (s.modNss f).start = s.start := rfl
@[simp] theorem State.modNss_pwr (f : List Namespace → List Namespace) : (s.modNss f).pwr = s.pwr := rfl
@[simp] theorem State.modNss_therm (f : List Namespace → List Namespace) : (s.modNss f).therm = s.therm := rfl
@[simp] theorem State.modNss_nrg (f : List Namespace → List Namespace) : (s.modNss f).nrg = s.nrg := rfl
@[simp] theorem State.modNss_masts (f : List Namespace → List Namespace) : (s.modNss f).masts = s.masts := rfl
@[simp] theorem State.modNss_ports (f : List Namespace → List Namespace) : (s.modNss f).ports = s.ports := rfl
@[simp] theorem State.modNss_luns (f : List Namespace → List Namespace) : (s.modNss f).luns = s.luns := rfl
@[simp] theorem State.modNss_media (f : List Namespace → List Namespace) : (s.modNss f).media = s.media := rfl
@[simp] theorem State.modNss_classes (f : List Namespace → List Namespace) : (s.modNss f).classes = s.classes := rfl
@[simp] theorem State.modNss_nss (f : List Namespace → List Namespace) : (s.modNss f).nss = f s.nss := rfl
@[simp] theorem State.modNss_fns (f : List Namespace → List Namespace) : (s.modNss f).fns = s.fns := rfl
@[simp] theorem State.modNss_ctrl1 (f : List Namespace → List Namespace) : (s.modNss f).ctrl1 = s.ctrl1 := rfl
@[simp] theorem State.modNss_io (f : List Namespace → List Namespace) : (s.modNss f).io = s.io := rfl
@[simp] theorem State.modNss_keys (f : List Namespace → List Namespace) : (s.modNss f).keys = s.keys := rfl
@[simp] theorem State.modNss_fix (f : List Namespace → List Namespace) : (s.modNss f).fix = s.fix := rfl
@[simp] theorem State.modNss_mbx (f : List Namespace → List Namespace) : (s.modNss f).mbx = s.mbx := rfl
@[simp] theorem State.modNss_hal (f : List Namespace → List Namespace) : (s.modNss f).hal = s.hal := rfl
@[simp] theorem State.modNss_peer (f : List Namespace → List Namespace) : (s.modNss f).peer = s.peer := rfl
@[simp] theorem State.modNss_pool (f : List Namespace → List Namespace) : (s.modNss f).pool = s.pool := rfl
@[simp] theorem State.modNss_mems (f : List Namespace → List Namespace) : (s.modNss f).mems = s.mems := rfl
@[simp] theorem State.modNss_evt (f : List Namespace → List Namespace) : (s.modNss f).evt = s.evt := rfl
@[simp] theorem State.modNss_side (f : List Namespace → List Namespace) : (s.modNss f).side = s.side := rfl
@[simp] theorem State.modNss_ctl (f : List Namespace → List Namespace) : (s.modNss f).ctl = s.ctl := rfl
@[simp] theorem State.modNss_stseq (f : List Namespace → List Namespace) : (s.modNss f).stseq = s.stseq := rfl
@[simp] theorem State.modNss_out (f : List Namespace → List Namespace) : (s.modNss f).out = s.out := rfl
@[simp] theorem State.modNss_fresh (f : List Namespace → List Namespace) : (s.modNss f).fresh = s.fresh := rfl
@[simp] theorem State.modNss_pending (f : List Namespace → List Namespace) : (s.modNss f).pending = s.pending := rfl

@[simp] theorem State.modFns_variant (f : List Fn → List Fn) : (s.modFns f).variant = s.variant := rfl
@[simp] theorem State.modFns_fuses (f : List Fn → List Fn) : (s.modFns f).fuses = s.fuses := rfl
@[simp] theorem State.modFns_jtag (f : List Fn → List Fn) : (s.modFns f).jtag = s.jtag := rfl
@[simp] theorem State.modFns_clk (f : List Fn → List Fn) : (s.modFns f).clk = s.clk := rfl
@[simp] theorem State.modFns_obj (f : List Fn → List Fn) : (s.modFns f).obj = s.obj := rfl
@[simp] theorem State.modFns_start (f : List Fn → List Fn) : (s.modFns f).start = s.start := rfl
@[simp] theorem State.modFns_pwr (f : List Fn → List Fn) : (s.modFns f).pwr = s.pwr := rfl
@[simp] theorem State.modFns_therm (f : List Fn → List Fn) : (s.modFns f).therm = s.therm := rfl
@[simp] theorem State.modFns_nrg (f : List Fn → List Fn) : (s.modFns f).nrg = s.nrg := rfl
@[simp] theorem State.modFns_masts (f : List Fn → List Fn) : (s.modFns f).masts = s.masts := rfl
@[simp] theorem State.modFns_ports (f : List Fn → List Fn) : (s.modFns f).ports = s.ports := rfl
@[simp] theorem State.modFns_luns (f : List Fn → List Fn) : (s.modFns f).luns = s.luns := rfl
@[simp] theorem State.modFns_media (f : List Fn → List Fn) : (s.modFns f).media = s.media := rfl
@[simp] theorem State.modFns_classes (f : List Fn → List Fn) : (s.modFns f).classes = s.classes := rfl
@[simp] theorem State.modFns_nss (f : List Fn → List Fn) : (s.modFns f).nss = s.nss := rfl
@[simp] theorem State.modFns_fns (f : List Fn → List Fn) : (s.modFns f).fns = f s.fns := rfl
@[simp] theorem State.modFns_ctrl1 (f : List Fn → List Fn) : (s.modFns f).ctrl1 = s.ctrl1 := rfl
@[simp] theorem State.modFns_io (f : List Fn → List Fn) : (s.modFns f).io = s.io := rfl
@[simp] theorem State.modFns_keys (f : List Fn → List Fn) : (s.modFns f).keys = s.keys := rfl
@[simp] theorem State.modFns_fix (f : List Fn → List Fn) : (s.modFns f).fix = s.fix := rfl
@[simp] theorem State.modFns_mbx (f : List Fn → List Fn) : (s.modFns f).mbx = s.mbx := rfl
@[simp] theorem State.modFns_hal (f : List Fn → List Fn) : (s.modFns f).hal = s.hal := rfl
@[simp] theorem State.modFns_peer (f : List Fn → List Fn) : (s.modFns f).peer = s.peer := rfl
@[simp] theorem State.modFns_pool (f : List Fn → List Fn) : (s.modFns f).pool = s.pool := rfl
@[simp] theorem State.modFns_mems (f : List Fn → List Fn) : (s.modFns f).mems = s.mems := rfl
@[simp] theorem State.modFns_evt (f : List Fn → List Fn) : (s.modFns f).evt = s.evt := rfl
@[simp] theorem State.modFns_side (f : List Fn → List Fn) : (s.modFns f).side = s.side := rfl
@[simp] theorem State.modFns_ctl (f : List Fn → List Fn) : (s.modFns f).ctl = s.ctl := rfl
@[simp] theorem State.modFns_stseq (f : List Fn → List Fn) : (s.modFns f).stseq = s.stseq := rfl
@[simp] theorem State.modFns_out (f : List Fn → List Fn) : (s.modFns f).out = s.out := rfl
@[simp] theorem State.modFns_fresh (f : List Fn → List Fn) : (s.modFns f).fresh = s.fresh := rfl
@[simp] theorem State.modFns_pending (f : List Fn → List Fn) : (s.modFns f).pending = s.pending := rfl

@[simp] theorem State.modCtrl1_variant (f : Ctrl → Ctrl) : (s.modCtrl1 f).variant = s.variant := rfl
@[simp] theorem State.modCtrl1_fuses (f : Ctrl → Ctrl) : (s.modCtrl1 f).fuses = s.fuses := rfl
@[simp] theorem State.modCtrl1_jtag (f : Ctrl → Ctrl) : (s.modCtrl1 f).jtag = s.jtag := rfl
@[simp] theorem State.modCtrl1_clk (f : Ctrl → Ctrl) : (s.modCtrl1 f).clk = s.clk := rfl
@[simp] theorem State.modCtrl1_obj (f : Ctrl → Ctrl) : (s.modCtrl1 f).obj = s.obj := rfl
@[simp] theorem State.modCtrl1_start (f : Ctrl → Ctrl) : (s.modCtrl1 f).start = s.start := rfl
@[simp] theorem State.modCtrl1_pwr (f : Ctrl → Ctrl) : (s.modCtrl1 f).pwr = s.pwr := rfl
@[simp] theorem State.modCtrl1_therm (f : Ctrl → Ctrl) : (s.modCtrl1 f).therm = s.therm := rfl
@[simp] theorem State.modCtrl1_nrg (f : Ctrl → Ctrl) : (s.modCtrl1 f).nrg = s.nrg := rfl
@[simp] theorem State.modCtrl1_masts (f : Ctrl → Ctrl) : (s.modCtrl1 f).masts = s.masts := rfl
@[simp] theorem State.modCtrl1_ports (f : Ctrl → Ctrl) : (s.modCtrl1 f).ports = s.ports := rfl
@[simp] theorem State.modCtrl1_luns (f : Ctrl → Ctrl) : (s.modCtrl1 f).luns = s.luns := rfl
@[simp] theorem State.modCtrl1_media (f : Ctrl → Ctrl) : (s.modCtrl1 f).media = s.media := rfl
@[simp] theorem State.modCtrl1_classes (f : Ctrl → Ctrl) : (s.modCtrl1 f).classes = s.classes := rfl
@[simp] theorem State.modCtrl1_nss (f : Ctrl → Ctrl) : (s.modCtrl1 f).nss = s.nss := rfl
@[simp] theorem State.modCtrl1_fns (f : Ctrl → Ctrl) : (s.modCtrl1 f).fns = s.fns := rfl
@[simp] theorem State.modCtrl1_ctrl1 (f : Ctrl → Ctrl) : (s.modCtrl1 f).ctrl1 = f s.ctrl1 := rfl
@[simp] theorem State.modCtrl1_io (f : Ctrl → Ctrl) : (s.modCtrl1 f).io = s.io := rfl
@[simp] theorem State.modCtrl1_keys (f : Ctrl → Ctrl) : (s.modCtrl1 f).keys = s.keys := rfl
@[simp] theorem State.modCtrl1_fix (f : Ctrl → Ctrl) : (s.modCtrl1 f).fix = s.fix := rfl
@[simp] theorem State.modCtrl1_mbx (f : Ctrl → Ctrl) : (s.modCtrl1 f).mbx = s.mbx := rfl
@[simp] theorem State.modCtrl1_hal (f : Ctrl → Ctrl) : (s.modCtrl1 f).hal = s.hal := rfl
@[simp] theorem State.modCtrl1_peer (f : Ctrl → Ctrl) : (s.modCtrl1 f).peer = s.peer := rfl
@[simp] theorem State.modCtrl1_pool (f : Ctrl → Ctrl) : (s.modCtrl1 f).pool = s.pool := rfl
@[simp] theorem State.modCtrl1_mems (f : Ctrl → Ctrl) : (s.modCtrl1 f).mems = s.mems := rfl
@[simp] theorem State.modCtrl1_evt (f : Ctrl → Ctrl) : (s.modCtrl1 f).evt = s.evt := rfl
@[simp] theorem State.modCtrl1_side (f : Ctrl → Ctrl) : (s.modCtrl1 f).side = s.side := rfl
@[simp] theorem State.modCtrl1_ctl (f : Ctrl → Ctrl) : (s.modCtrl1 f).ctl = s.ctl := rfl
@[simp] theorem State.modCtrl1_stseq (f : Ctrl → Ctrl) : (s.modCtrl1 f).stseq = s.stseq := rfl
@[simp] theorem State.modCtrl1_out (f : Ctrl → Ctrl) : (s.modCtrl1 f).out = s.out := rfl
@[simp] theorem State.modCtrl1_fresh (f : Ctrl → Ctrl) : (s.modCtrl1 f).fresh = s.fresh := rfl
@[simp] theorem State.modCtrl1_pending (f : Ctrl → Ctrl) : (s.modCtrl1 f).pending = s.pending := rfl

@[simp] theorem State.modIo_variant (f : HostIo → HostIo) : (s.modIo f).variant = s.variant := rfl
@[simp] theorem State.modIo_fuses (f : HostIo → HostIo) : (s.modIo f).fuses = s.fuses := rfl
@[simp] theorem State.modIo_jtag (f : HostIo → HostIo) : (s.modIo f).jtag = s.jtag := rfl
@[simp] theorem State.modIo_clk (f : HostIo → HostIo) : (s.modIo f).clk = s.clk := rfl
@[simp] theorem State.modIo_obj (f : HostIo → HostIo) : (s.modIo f).obj = s.obj := rfl
@[simp] theorem State.modIo_start (f : HostIo → HostIo) : (s.modIo f).start = s.start := rfl
@[simp] theorem State.modIo_pwr (f : HostIo → HostIo) : (s.modIo f).pwr = s.pwr := rfl
@[simp] theorem State.modIo_therm (f : HostIo → HostIo) : (s.modIo f).therm = s.therm := rfl
@[simp] theorem State.modIo_nrg (f : HostIo → HostIo) : (s.modIo f).nrg = s.nrg := rfl
@[simp] theorem State.modIo_masts (f : HostIo → HostIo) : (s.modIo f).masts = s.masts := rfl
@[simp] theorem State.modIo_ports (f : HostIo → HostIo) : (s.modIo f).ports = s.ports := rfl
@[simp] theorem State.modIo_luns (f : HostIo → HostIo) : (s.modIo f).luns = s.luns := rfl
@[simp] theorem State.modIo_media (f : HostIo → HostIo) : (s.modIo f).media = s.media := rfl
@[simp] theorem State.modIo_classes (f : HostIo → HostIo) : (s.modIo f).classes = s.classes := rfl
@[simp] theorem State.modIo_nss (f : HostIo → HostIo) : (s.modIo f).nss = s.nss := rfl
@[simp] theorem State.modIo_fns (f : HostIo → HostIo) : (s.modIo f).fns = s.fns := rfl
@[simp] theorem State.modIo_ctrl1 (f : HostIo → HostIo) : (s.modIo f).ctrl1 = s.ctrl1 := rfl
@[simp] theorem State.modIo_io (f : HostIo → HostIo) : (s.modIo f).io = f s.io := rfl
@[simp] theorem State.modIo_keys (f : HostIo → HostIo) : (s.modIo f).keys = s.keys := rfl
@[simp] theorem State.modIo_fix (f : HostIo → HostIo) : (s.modIo f).fix = s.fix := rfl
@[simp] theorem State.modIo_mbx (f : HostIo → HostIo) : (s.modIo f).mbx = s.mbx := rfl
@[simp] theorem State.modIo_hal (f : HostIo → HostIo) : (s.modIo f).hal = s.hal := rfl
@[simp] theorem State.modIo_peer (f : HostIo → HostIo) : (s.modIo f).peer = s.peer := rfl
@[simp] theorem State.modIo_pool (f : HostIo → HostIo) : (s.modIo f).pool = s.pool := rfl
@[simp] theorem State.modIo_mems (f : HostIo → HostIo) : (s.modIo f).mems = s.mems := rfl
@[simp] theorem State.modIo_evt (f : HostIo → HostIo) : (s.modIo f).evt = s.evt := rfl
@[simp] theorem State.modIo_side (f : HostIo → HostIo) : (s.modIo f).side = s.side := rfl
@[simp] theorem State.modIo_ctl (f : HostIo → HostIo) : (s.modIo f).ctl = s.ctl := rfl
@[simp] theorem State.modIo_stseq (f : HostIo → HostIo) : (s.modIo f).stseq = s.stseq := rfl
@[simp] theorem State.modIo_out (f : HostIo → HostIo) : (s.modIo f).out = s.out := rfl
@[simp] theorem State.modIo_fresh (f : HostIo → HostIo) : (s.modIo f).fresh = s.fresh := rfl
@[simp] theorem State.modIo_pending (f : HostIo → HostIo) : (s.modIo f).pending = s.pending := rfl

@[simp] theorem State.modKeys_variant (f : Keys → Keys) : (s.modKeys f).variant = s.variant := rfl
@[simp] theorem State.modKeys_fuses (f : Keys → Keys) : (s.modKeys f).fuses = s.fuses := rfl
@[simp] theorem State.modKeys_jtag (f : Keys → Keys) : (s.modKeys f).jtag = s.jtag := rfl
@[simp] theorem State.modKeys_clk (f : Keys → Keys) : (s.modKeys f).clk = s.clk := rfl
@[simp] theorem State.modKeys_obj (f : Keys → Keys) : (s.modKeys f).obj = s.obj := rfl
@[simp] theorem State.modKeys_start (f : Keys → Keys) : (s.modKeys f).start = s.start := rfl
@[simp] theorem State.modKeys_pwr (f : Keys → Keys) : (s.modKeys f).pwr = s.pwr := rfl
@[simp] theorem State.modKeys_therm (f : Keys → Keys) : (s.modKeys f).therm = s.therm := rfl
@[simp] theorem State.modKeys_nrg (f : Keys → Keys) : (s.modKeys f).nrg = s.nrg := rfl
@[simp] theorem State.modKeys_masts (f : Keys → Keys) : (s.modKeys f).masts = s.masts := rfl
@[simp] theorem State.modKeys_ports (f : Keys → Keys) : (s.modKeys f).ports = s.ports := rfl
@[simp] theorem State.modKeys_luns (f : Keys → Keys) : (s.modKeys f).luns = s.luns := rfl
@[simp] theorem State.modKeys_media (f : Keys → Keys) : (s.modKeys f).media = s.media := rfl
@[simp] theorem State.modKeys_classes (f : Keys → Keys) : (s.modKeys f).classes = s.classes := rfl
@[simp] theorem State.modKeys_nss (f : Keys → Keys) : (s.modKeys f).nss = s.nss := rfl
@[simp] theorem State.modKeys_fns (f : Keys → Keys) : (s.modKeys f).fns = s.fns := rfl
@[simp] theorem State.modKeys_ctrl1 (f : Keys → Keys) : (s.modKeys f).ctrl1 = s.ctrl1 := rfl
@[simp] theorem State.modKeys_io (f : Keys → Keys) : (s.modKeys f).io = s.io := rfl
@[simp] theorem State.modKeys_keys (f : Keys → Keys) : (s.modKeys f).keys = f s.keys := rfl
@[simp] theorem State.modKeys_fix (f : Keys → Keys) : (s.modKeys f).fix = s.fix := rfl
@[simp] theorem State.modKeys_mbx (f : Keys → Keys) : (s.modKeys f).mbx = s.mbx := rfl
@[simp] theorem State.modKeys_hal (f : Keys → Keys) : (s.modKeys f).hal = s.hal := rfl
@[simp] theorem State.modKeys_peer (f : Keys → Keys) : (s.modKeys f).peer = s.peer := rfl
@[simp] theorem State.modKeys_pool (f : Keys → Keys) : (s.modKeys f).pool = s.pool := rfl
@[simp] theorem State.modKeys_mems (f : Keys → Keys) : (s.modKeys f).mems = s.mems := rfl
@[simp] theorem State.modKeys_evt (f : Keys → Keys) : (s.modKeys f).evt = s.evt := rfl
@[simp] theorem State.modKeys_side (f : Keys → Keys) : (s.modKeys f).side = s.side := rfl
@[simp] theorem State.modKeys_ctl (f : Keys → Keys) : (s.modKeys f).ctl = s.ctl := rfl
@[simp] theorem State.modKeys_stseq (f : Keys → Keys) : (s.modKeys f).stseq = s.stseq := rfl
@[simp] theorem State.modKeys_out (f : Keys → Keys) : (s.modKeys f).out = s.out := rfl
@[simp] theorem State.modKeys_fresh (f : Keys → Keys) : (s.modKeys f).fresh = s.fresh := rfl
@[simp] theorem State.modKeys_pending (f : Keys → Keys) : (s.modKeys f).pending = s.pending := rfl

@[simp] theorem State.modFix_variant (f : Fixity → Fixity) : (s.modFix f).variant = s.variant := rfl
@[simp] theorem State.modFix_fuses (f : Fixity → Fixity) : (s.modFix f).fuses = s.fuses := rfl
@[simp] theorem State.modFix_jtag (f : Fixity → Fixity) : (s.modFix f).jtag = s.jtag := rfl
@[simp] theorem State.modFix_clk (f : Fixity → Fixity) : (s.modFix f).clk = s.clk := rfl
@[simp] theorem State.modFix_obj (f : Fixity → Fixity) : (s.modFix f).obj = s.obj := rfl
@[simp] theorem State.modFix_start (f : Fixity → Fixity) : (s.modFix f).start = s.start := rfl
@[simp] theorem State.modFix_pwr (f : Fixity → Fixity) : (s.modFix f).pwr = s.pwr := rfl
@[simp] theorem State.modFix_therm (f : Fixity → Fixity) : (s.modFix f).therm = s.therm := rfl
@[simp] theorem State.modFix_nrg (f : Fixity → Fixity) : (s.modFix f).nrg = s.nrg := rfl
@[simp] theorem State.modFix_masts (f : Fixity → Fixity) : (s.modFix f).masts = s.masts := rfl
@[simp] theorem State.modFix_ports (f : Fixity → Fixity) : (s.modFix f).ports = s.ports := rfl
@[simp] theorem State.modFix_luns (f : Fixity → Fixity) : (s.modFix f).luns = s.luns := rfl
@[simp] theorem State.modFix_media (f : Fixity → Fixity) : (s.modFix f).media = s.media := rfl
@[simp] theorem State.modFix_classes (f : Fixity → Fixity) : (s.modFix f).classes = s.classes := rfl
@[simp] theorem State.modFix_nss (f : Fixity → Fixity) : (s.modFix f).nss = s.nss := rfl
@[simp] theorem State.modFix_fns (f : Fixity → Fixity) : (s.modFix f).fns = s.fns := rfl
@[simp] theorem State.modFix_ctrl1 (f : Fixity → Fixity) : (s.modFix f).ctrl1 = s.ctrl1 := rfl
@[simp] theorem State.modFix_io (f : Fixity → Fixity) : (s.modFix f).io = s.io := rfl
@[simp] theorem State.modFix_keys (f : Fixity → Fixity) : (s.modFix f).keys = s.keys := rfl
@[simp] theorem State.modFix_fix (f : Fixity → Fixity) : (s.modFix f).fix = f s.fix := rfl
@[simp] theorem State.modFix_mbx (f : Fixity → Fixity) : (s.modFix f).mbx = s.mbx := rfl
@[simp] theorem State.modFix_hal (f : Fixity → Fixity) : (s.modFix f).hal = s.hal := rfl
@[simp] theorem State.modFix_peer (f : Fixity → Fixity) : (s.modFix f).peer = s.peer := rfl
@[simp] theorem State.modFix_pool (f : Fixity → Fixity) : (s.modFix f).pool = s.pool := rfl
@[simp] theorem State.modFix_mems (f : Fixity → Fixity) : (s.modFix f).mems = s.mems := rfl
@[simp] theorem State.modFix_evt (f : Fixity → Fixity) : (s.modFix f).evt = s.evt := rfl
@[simp] theorem State.modFix_side (f : Fixity → Fixity) : (s.modFix f).side = s.side := rfl
@[simp] theorem State.modFix_ctl (f : Fixity → Fixity) : (s.modFix f).ctl = s.ctl := rfl
@[simp] theorem State.modFix_stseq (f : Fixity → Fixity) : (s.modFix f).stseq = s.stseq := rfl
@[simp] theorem State.modFix_out (f : Fixity → Fixity) : (s.modFix f).out = s.out := rfl
@[simp] theorem State.modFix_fresh (f : Fixity → Fixity) : (s.modFix f).fresh = s.fresh := rfl
@[simp] theorem State.modFix_pending (f : Fixity → Fixity) : (s.modFix f).pending = s.pending := rfl

@[simp] theorem State.modMbx_variant (f : Mailboxes → Mailboxes) : (s.modMbx f).variant = s.variant := rfl
@[simp] theorem State.modMbx_fuses (f : Mailboxes → Mailboxes) : (s.modMbx f).fuses = s.fuses := rfl
@[simp] theorem State.modMbx_jtag (f : Mailboxes → Mailboxes) : (s.modMbx f).jtag = s.jtag := rfl
@[simp] theorem State.modMbx_clk (f : Mailboxes → Mailboxes) : (s.modMbx f).clk = s.clk := rfl
@[simp] theorem State.modMbx_obj (f : Mailboxes → Mailboxes) : (s.modMbx f).obj = s.obj := rfl
@[simp] theorem State.modMbx_start (f : Mailboxes → Mailboxes) : (s.modMbx f).start = s.start := rfl
@[simp] theorem State.modMbx_pwr (f : Mailboxes → Mailboxes) : (s.modMbx f).pwr = s.pwr := rfl
@[simp] theorem State.modMbx_therm (f : Mailboxes → Mailboxes) : (s.modMbx f).therm = s.therm := rfl
@[simp] theorem State.modMbx_nrg (f : Mailboxes → Mailboxes) : (s.modMbx f).nrg = s.nrg := rfl
@[simp] theorem State.modMbx_masts (f : Mailboxes → Mailboxes) : (s.modMbx f).masts = s.masts := rfl
@[simp] theorem State.modMbx_ports (f : Mailboxes → Mailboxes) : (s.modMbx f).ports = s.ports := rfl
@[simp] theorem State.modMbx_luns (f : Mailboxes → Mailboxes) : (s.modMbx f).luns = s.luns := rfl
@[simp] theorem State.modMbx_media (f : Mailboxes → Mailboxes) : (s.modMbx f).media = s.media := rfl
@[simp] theorem State.modMbx_classes (f : Mailboxes → Mailboxes) : (s.modMbx f).classes = s.classes := rfl
@[simp] theorem State.modMbx_nss (f : Mailboxes → Mailboxes) : (s.modMbx f).nss = s.nss := rfl
@[simp] theorem State.modMbx_fns (f : Mailboxes → Mailboxes) : (s.modMbx f).fns = s.fns := rfl
@[simp] theorem State.modMbx_ctrl1 (f : Mailboxes → Mailboxes) : (s.modMbx f).ctrl1 = s.ctrl1 := rfl
@[simp] theorem State.modMbx_io (f : Mailboxes → Mailboxes) : (s.modMbx f).io = s.io := rfl
@[simp] theorem State.modMbx_keys (f : Mailboxes → Mailboxes) : (s.modMbx f).keys = s.keys := rfl
@[simp] theorem State.modMbx_fix (f : Mailboxes → Mailboxes) : (s.modMbx f).fix = s.fix := rfl
@[simp] theorem State.modMbx_mbx (f : Mailboxes → Mailboxes) : (s.modMbx f).mbx = f s.mbx := rfl
@[simp] theorem State.modMbx_hal (f : Mailboxes → Mailboxes) : (s.modMbx f).hal = s.hal := rfl
@[simp] theorem State.modMbx_peer (f : Mailboxes → Mailboxes) : (s.modMbx f).peer = s.peer := rfl
@[simp] theorem State.modMbx_pool (f : Mailboxes → Mailboxes) : (s.modMbx f).pool = s.pool := rfl
@[simp] theorem State.modMbx_mems (f : Mailboxes → Mailboxes) : (s.modMbx f).mems = s.mems := rfl
@[simp] theorem State.modMbx_evt (f : Mailboxes → Mailboxes) : (s.modMbx f).evt = s.evt := rfl
@[simp] theorem State.modMbx_side (f : Mailboxes → Mailboxes) : (s.modMbx f).side = s.side := rfl
@[simp] theorem State.modMbx_ctl (f : Mailboxes → Mailboxes) : (s.modMbx f).ctl = s.ctl := rfl
@[simp] theorem State.modMbx_stseq (f : Mailboxes → Mailboxes) : (s.modMbx f).stseq = s.stseq := rfl
@[simp] theorem State.modMbx_out (f : Mailboxes → Mailboxes) : (s.modMbx f).out = s.out := rfl
@[simp] theorem State.modMbx_fresh (f : Mailboxes → Mailboxes) : (s.modMbx f).fresh = s.fresh := rfl
@[simp] theorem State.modMbx_pending (f : Mailboxes → Mailboxes) : (s.modMbx f).pending = s.pending := rfl

@[simp] theorem State.modHal_variant (f : Halyard → Halyard) : (s.modHal f).variant = s.variant := rfl
@[simp] theorem State.modHal_fuses (f : Halyard → Halyard) : (s.modHal f).fuses = s.fuses := rfl
@[simp] theorem State.modHal_jtag (f : Halyard → Halyard) : (s.modHal f).jtag = s.jtag := rfl
@[simp] theorem State.modHal_clk (f : Halyard → Halyard) : (s.modHal f).clk = s.clk := rfl
@[simp] theorem State.modHal_obj (f : Halyard → Halyard) : (s.modHal f).obj = s.obj := rfl
@[simp] theorem State.modHal_start (f : Halyard → Halyard) : (s.modHal f).start = s.start := rfl
@[simp] theorem State.modHal_pwr (f : Halyard → Halyard) : (s.modHal f).pwr = s.pwr := rfl
@[simp] theorem State.modHal_therm (f : Halyard → Halyard) : (s.modHal f).therm = s.therm := rfl
@[simp] theorem State.modHal_nrg (f : Halyard → Halyard) : (s.modHal f).nrg = s.nrg := rfl
@[simp] theorem State.modHal_masts (f : Halyard → Halyard) : (s.modHal f).masts = s.masts := rfl
@[simp] theorem State.modHal_ports (f : Halyard → Halyard) : (s.modHal f).ports = s.ports := rfl
@[simp] theorem State.modHal_luns (f : Halyard → Halyard) : (s.modHal f).luns = s.luns := rfl
@[simp] theorem State.modHal_media (f : Halyard → Halyard) : (s.modHal f).media = s.media := rfl
@[simp] theorem State.modHal_classes (f : Halyard → Halyard) : (s.modHal f).classes = s.classes := rfl
@[simp] theorem State.modHal_nss (f : Halyard → Halyard) : (s.modHal f).nss = s.nss := rfl
@[simp] theorem State.modHal_fns (f : Halyard → Halyard) : (s.modHal f).fns = s.fns := rfl
@[simp] theorem State.modHal_ctrl1 (f : Halyard → Halyard) : (s.modHal f).ctrl1 = s.ctrl1 := rfl
@[simp] theorem State.modHal_io (f : Halyard → Halyard) : (s.modHal f).io = s.io := rfl
@[simp] theorem State.modHal_keys (f : Halyard → Halyard) : (s.modHal f).keys = s.keys := rfl
@[simp] theorem State.modHal_fix (f : Halyard → Halyard) : (s.modHal f).fix = s.fix := rfl
@[simp] theorem State.modHal_mbx (f : Halyard → Halyard) : (s.modHal f).mbx = s.mbx := rfl
@[simp] theorem State.modHal_hal (f : Halyard → Halyard) : (s.modHal f).hal = f s.hal := rfl
@[simp] theorem State.modHal_peer (f : Halyard → Halyard) : (s.modHal f).peer = s.peer := rfl
@[simp] theorem State.modHal_pool (f : Halyard → Halyard) : (s.modHal f).pool = s.pool := rfl
@[simp] theorem State.modHal_mems (f : Halyard → Halyard) : (s.modHal f).mems = s.mems := rfl
@[simp] theorem State.modHal_evt (f : Halyard → Halyard) : (s.modHal f).evt = s.evt := rfl
@[simp] theorem State.modHal_side (f : Halyard → Halyard) : (s.modHal f).side = s.side := rfl
@[simp] theorem State.modHal_ctl (f : Halyard → Halyard) : (s.modHal f).ctl = s.ctl := rfl
@[simp] theorem State.modHal_stseq (f : Halyard → Halyard) : (s.modHal f).stseq = s.stseq := rfl
@[simp] theorem State.modHal_out (f : Halyard → Halyard) : (s.modHal f).out = s.out := rfl
@[simp] theorem State.modHal_fresh (f : Halyard → Halyard) : (s.modHal f).fresh = s.fresh := rfl
@[simp] theorem State.modHal_pending (f : Halyard → Halyard) : (s.modHal f).pending = s.pending := rfl

@[simp] theorem State.modPeer_variant (f : Peer → Peer) : (s.modPeer f).variant = s.variant := rfl
@[simp] theorem State.modPeer_fuses (f : Peer → Peer) : (s.modPeer f).fuses = s.fuses := rfl
@[simp] theorem State.modPeer_jtag (f : Peer → Peer) : (s.modPeer f).jtag = s.jtag := rfl
@[simp] theorem State.modPeer_clk (f : Peer → Peer) : (s.modPeer f).clk = s.clk := rfl
@[simp] theorem State.modPeer_obj (f : Peer → Peer) : (s.modPeer f).obj = s.obj := rfl
@[simp] theorem State.modPeer_start (f : Peer → Peer) : (s.modPeer f).start = s.start := rfl
@[simp] theorem State.modPeer_pwr (f : Peer → Peer) : (s.modPeer f).pwr = s.pwr := rfl
@[simp] theorem State.modPeer_therm (f : Peer → Peer) : (s.modPeer f).therm = s.therm := rfl
@[simp] theorem State.modPeer_nrg (f : Peer → Peer) : (s.modPeer f).nrg = s.nrg := rfl
@[simp] theorem State.modPeer_masts (f : Peer → Peer) : (s.modPeer f).masts = s.masts := rfl
@[simp] theorem State.modPeer_ports (f : Peer → Peer) : (s.modPeer f).ports = s.ports := rfl
@[simp] theorem State.modPeer_luns (f : Peer → Peer) : (s.modPeer f).luns = s.luns := rfl
@[simp] theorem State.modPeer_media (f : Peer → Peer) : (s.modPeer f).media = s.media := rfl
@[simp] theorem State.modPeer_classes (f : Peer → Peer) : (s.modPeer f).classes = s.classes := rfl
@[simp] theorem State.modPeer_nss (f : Peer → Peer) : (s.modPeer f).nss = s.nss := rfl
@[simp] theorem State.modPeer_fns (f : Peer → Peer) : (s.modPeer f).fns = s.fns := rfl
@[simp] theorem State.modPeer_ctrl1 (f : Peer → Peer) : (s.modPeer f).ctrl1 = s.ctrl1 := rfl
@[simp] theorem State.modPeer_io (f : Peer → Peer) : (s.modPeer f).io = s.io := rfl
@[simp] theorem State.modPeer_keys (f : Peer → Peer) : (s.modPeer f).keys = s.keys := rfl
@[simp] theorem State.modPeer_fix (f : Peer → Peer) : (s.modPeer f).fix = s.fix := rfl
@[simp] theorem State.modPeer_mbx (f : Peer → Peer) : (s.modPeer f).mbx = s.mbx := rfl
@[simp] theorem State.modPeer_hal (f : Peer → Peer) : (s.modPeer f).hal = s.hal := rfl
@[simp] theorem State.modPeer_peer (f : Peer → Peer) : (s.modPeer f).peer = f s.peer := rfl
@[simp] theorem State.modPeer_pool (f : Peer → Peer) : (s.modPeer f).pool = s.pool := rfl
@[simp] theorem State.modPeer_mems (f : Peer → Peer) : (s.modPeer f).mems = s.mems := rfl
@[simp] theorem State.modPeer_evt (f : Peer → Peer) : (s.modPeer f).evt = s.evt := rfl
@[simp] theorem State.modPeer_side (f : Peer → Peer) : (s.modPeer f).side = s.side := rfl
@[simp] theorem State.modPeer_ctl (f : Peer → Peer) : (s.modPeer f).ctl = s.ctl := rfl
@[simp] theorem State.modPeer_stseq (f : Peer → Peer) : (s.modPeer f).stseq = s.stseq := rfl
@[simp] theorem State.modPeer_out (f : Peer → Peer) : (s.modPeer f).out = s.out := rfl
@[simp] theorem State.modPeer_fresh (f : Peer → Peer) : (s.modPeer f).fresh = s.fresh := rfl
@[simp] theorem State.modPeer_pending (f : Peer → Peer) : (s.modPeer f).pending = s.pending := rfl

@[simp] theorem State.modPool_variant (f : Pool → Pool) : (s.modPool f).variant = s.variant := rfl
@[simp] theorem State.modPool_fuses (f : Pool → Pool) : (s.modPool f).fuses = s.fuses := rfl
@[simp] theorem State.modPool_jtag (f : Pool → Pool) : (s.modPool f).jtag = s.jtag := rfl
@[simp] theorem State.modPool_clk (f : Pool → Pool) : (s.modPool f).clk = s.clk := rfl
@[simp] theorem State.modPool_obj (f : Pool → Pool) : (s.modPool f).obj = s.obj := rfl
@[simp] theorem State.modPool_start (f : Pool → Pool) : (s.modPool f).start = s.start := rfl
@[simp] theorem State.modPool_pwr (f : Pool → Pool) : (s.modPool f).pwr = s.pwr := rfl
@[simp] theorem State.modPool_therm (f : Pool → Pool) : (s.modPool f).therm = s.therm := rfl
@[simp] theorem State.modPool_nrg (f : Pool → Pool) : (s.modPool f).nrg = s.nrg := rfl
@[simp] theorem State.modPool_masts (f : Pool → Pool) : (s.modPool f).masts = s.masts := rfl
@[simp] theorem State.modPool_ports (f : Pool → Pool) : (s.modPool f).ports = s.ports := rfl
@[simp] theorem State.modPool_luns (f : Pool → Pool) : (s.modPool f).luns = s.luns := rfl
@[simp] theorem State.modPool_media (f : Pool → Pool) : (s.modPool f).media = s.media := rfl
@[simp] theorem State.modPool_classes (f : Pool → Pool) : (s.modPool f).classes = s.classes := rfl
@[simp] theorem State.modPool_nss (f : Pool → Pool) : (s.modPool f).nss = s.nss := rfl
@[simp] theorem State.modPool_fns (f : Pool → Pool) : (s.modPool f).fns = s.fns := rfl
@[simp] theorem State.modPool_ctrl1 (f : Pool → Pool) : (s.modPool f).ctrl1 = s.ctrl1 := rfl
@[simp] theorem State.modPool_io (f : Pool → Pool) : (s.modPool f).io = s.io := rfl
@[simp] theorem State.modPool_keys (f : Pool → Pool) : (s.modPool f).keys = s.keys := rfl
@[simp] theorem State.modPool_fix (f : Pool → Pool) : (s.modPool f).fix = s.fix := rfl
@[simp] theorem State.modPool_mbx (f : Pool → Pool) : (s.modPool f).mbx = s.mbx := rfl
@[simp] theorem State.modPool_hal (f : Pool → Pool) : (s.modPool f).hal = s.hal := rfl
@[simp] theorem State.modPool_peer (f : Pool → Pool) : (s.modPool f).peer = s.peer := rfl
@[simp] theorem State.modPool_pool (f : Pool → Pool) : (s.modPool f).pool = f s.pool := rfl
@[simp] theorem State.modPool_mems (f : Pool → Pool) : (s.modPool f).mems = s.mems := rfl
@[simp] theorem State.modPool_evt (f : Pool → Pool) : (s.modPool f).evt = s.evt := rfl
@[simp] theorem State.modPool_side (f : Pool → Pool) : (s.modPool f).side = s.side := rfl
@[simp] theorem State.modPool_ctl (f : Pool → Pool) : (s.modPool f).ctl = s.ctl := rfl
@[simp] theorem State.modPool_stseq (f : Pool → Pool) : (s.modPool f).stseq = s.stseq := rfl
@[simp] theorem State.modPool_out (f : Pool → Pool) : (s.modPool f).out = s.out := rfl
@[simp] theorem State.modPool_fresh (f : Pool → Pool) : (s.modPool f).fresh = s.fresh := rfl
@[simp] theorem State.modPool_pending (f : Pool → Pool) : (s.modPool f).pending = s.pending := rfl

@[simp] theorem State.modMems_variant (f : List MemUnit → List MemUnit) : (s.modMems f).variant = s.variant := rfl
@[simp] theorem State.modMems_fuses (f : List MemUnit → List MemUnit) : (s.modMems f).fuses = s.fuses := rfl
@[simp] theorem State.modMems_jtag (f : List MemUnit → List MemUnit) : (s.modMems f).jtag = s.jtag := rfl
@[simp] theorem State.modMems_clk (f : List MemUnit → List MemUnit) : (s.modMems f).clk = s.clk := rfl
@[simp] theorem State.modMems_obj (f : List MemUnit → List MemUnit) : (s.modMems f).obj = s.obj := rfl
@[simp] theorem State.modMems_start (f : List MemUnit → List MemUnit) : (s.modMems f).start = s.start := rfl
@[simp] theorem State.modMems_pwr (f : List MemUnit → List MemUnit) : (s.modMems f).pwr = s.pwr := rfl
@[simp] theorem State.modMems_therm (f : List MemUnit → List MemUnit) : (s.modMems f).therm = s.therm := rfl
@[simp] theorem State.modMems_nrg (f : List MemUnit → List MemUnit) : (s.modMems f).nrg = s.nrg := rfl
@[simp] theorem State.modMems_masts (f : List MemUnit → List MemUnit) : (s.modMems f).masts = s.masts := rfl
@[simp] theorem State.modMems_ports (f : List MemUnit → List MemUnit) : (s.modMems f).ports = s.ports := rfl
@[simp] theorem State.modMems_luns (f : List MemUnit → List MemUnit) : (s.modMems f).luns = s.luns := rfl
@[simp] theorem State.modMems_media (f : List MemUnit → List MemUnit) : (s.modMems f).media = s.media := rfl
@[simp] theorem State.modMems_classes (f : List MemUnit → List MemUnit) : (s.modMems f).classes = s.classes := rfl
@[simp] theorem State.modMems_nss (f : List MemUnit → List MemUnit) : (s.modMems f).nss = s.nss := rfl
@[simp] theorem State.modMems_fns (f : List MemUnit → List MemUnit) : (s.modMems f).fns = s.fns := rfl
@[simp] theorem State.modMems_ctrl1 (f : List MemUnit → List MemUnit) : (s.modMems f).ctrl1 = s.ctrl1 := rfl
@[simp] theorem State.modMems_io (f : List MemUnit → List MemUnit) : (s.modMems f).io = s.io := rfl
@[simp] theorem State.modMems_keys (f : List MemUnit → List MemUnit) : (s.modMems f).keys = s.keys := rfl
@[simp] theorem State.modMems_fix (f : List MemUnit → List MemUnit) : (s.modMems f).fix = s.fix := rfl
@[simp] theorem State.modMems_mbx (f : List MemUnit → List MemUnit) : (s.modMems f).mbx = s.mbx := rfl
@[simp] theorem State.modMems_hal (f : List MemUnit → List MemUnit) : (s.modMems f).hal = s.hal := rfl
@[simp] theorem State.modMems_peer (f : List MemUnit → List MemUnit) : (s.modMems f).peer = s.peer := rfl
@[simp] theorem State.modMems_pool (f : List MemUnit → List MemUnit) : (s.modMems f).pool = s.pool := rfl
@[simp] theorem State.modMems_mems (f : List MemUnit → List MemUnit) : (s.modMems f).mems = f s.mems := rfl
@[simp] theorem State.modMems_evt (f : List MemUnit → List MemUnit) : (s.modMems f).evt = s.evt := rfl
@[simp] theorem State.modMems_side (f : List MemUnit → List MemUnit) : (s.modMems f).side = s.side := rfl
@[simp] theorem State.modMems_ctl (f : List MemUnit → List MemUnit) : (s.modMems f).ctl = s.ctl := rfl
@[simp] theorem State.modMems_stseq (f : List MemUnit → List MemUnit) : (s.modMems f).stseq = s.stseq := rfl
@[simp] theorem State.modMems_out (f : List MemUnit → List MemUnit) : (s.modMems f).out = s.out := rfl
@[simp] theorem State.modMems_fresh (f : List MemUnit → List MemUnit) : (s.modMems f).fresh = s.fresh := rfl
@[simp] theorem State.modMems_pending (f : List MemUnit → List MemUnit) : (s.modMems f).pending = s.pending := rfl

@[simp] theorem State.modEvt_variant (f : Events → Events) : (s.modEvt f).variant = s.variant := rfl
@[simp] theorem State.modEvt_fuses (f : Events → Events) : (s.modEvt f).fuses = s.fuses := rfl
@[simp] theorem State.modEvt_jtag (f : Events → Events) : (s.modEvt f).jtag = s.jtag := rfl
@[simp] theorem State.modEvt_clk (f : Events → Events) : (s.modEvt f).clk = s.clk := rfl
@[simp] theorem State.modEvt_obj (f : Events → Events) : (s.modEvt f).obj = s.obj := rfl
@[simp] theorem State.modEvt_start (f : Events → Events) : (s.modEvt f).start = s.start := rfl
@[simp] theorem State.modEvt_pwr (f : Events → Events) : (s.modEvt f).pwr = s.pwr := rfl
@[simp] theorem State.modEvt_therm (f : Events → Events) : (s.modEvt f).therm = s.therm := rfl
@[simp] theorem State.modEvt_nrg (f : Events → Events) : (s.modEvt f).nrg = s.nrg := rfl
@[simp] theorem State.modEvt_masts (f : Events → Events) : (s.modEvt f).masts = s.masts := rfl
@[simp] theorem State.modEvt_ports (f : Events → Events) : (s.modEvt f).ports = s.ports := rfl
@[simp] theorem State.modEvt_luns (f : Events → Events) : (s.modEvt f).luns = s.luns := rfl
@[simp] theorem State.modEvt_media (f : Events → Events) : (s.modEvt f).media = s.media := rfl
@[simp] theorem State.modEvt_classes (f : Events → Events) : (s.modEvt f).classes = s.classes := rfl
@[simp] theorem State.modEvt_nss (f : Events → Events) : (s.modEvt f).nss = s.nss := rfl
@[simp] theorem State.modEvt_fns (f : Events → Events) : (s.modEvt f).fns = s.fns := rfl
@[simp] theorem State.modEvt_ctrl1 (f : Events → Events) : (s.modEvt f).ctrl1 = s.ctrl1 := rfl
@[simp] theorem State.modEvt_io (f : Events → Events) : (s.modEvt f).io = s.io := rfl
@[simp] theorem State.modEvt_keys (f : Events → Events) : (s.modEvt f).keys = s.keys := rfl
@[simp] theorem State.modEvt_fix (f : Events → Events) : (s.modEvt f).fix = s.fix := rfl
@[simp] theorem State.modEvt_mbx (f : Events → Events) : (s.modEvt f).mbx = s.mbx := rfl
@[simp] theorem State.modEvt_hal (f : Events → Events) : (s.modEvt f).hal = s.hal := rfl
@[simp] theorem State.modEvt_peer (f : Events → Events) : (s.modEvt f).peer = s.peer := rfl
@[simp] theorem State.modEvt_pool (f : Events → Events) : (s.modEvt f).pool = s.pool := rfl
@[simp] theorem State.modEvt_mems (f : Events → Events) : (s.modEvt f).mems = s.mems := rfl
@[simp] theorem State.modEvt_evt (f : Events → Events) : (s.modEvt f).evt = f s.evt := rfl
@[simp] theorem State.modEvt_side (f : Events → Events) : (s.modEvt f).side = s.side := rfl
@[simp] theorem State.modEvt_ctl (f : Events → Events) : (s.modEvt f).ctl = s.ctl := rfl
@[simp] theorem State.modEvt_stseq (f : Events → Events) : (s.modEvt f).stseq = s.stseq := rfl
@[simp] theorem State.modEvt_out (f : Events → Events) : (s.modEvt f).out = s.out := rfl
@[simp] theorem State.modEvt_fresh (f : Events → Events) : (s.modEvt f).fresh = s.fresh := rfl
@[simp] theorem State.modEvt_pending (f : Events → Events) : (s.modEvt f).pending = s.pending := rfl

@[simp] theorem State.modSide_variant (f : Sideband → Sideband) : (s.modSide f).variant = s.variant := rfl
@[simp] theorem State.modSide_fuses (f : Sideband → Sideband) : (s.modSide f).fuses = s.fuses := rfl
@[simp] theorem State.modSide_jtag (f : Sideband → Sideband) : (s.modSide f).jtag = s.jtag := rfl
@[simp] theorem State.modSide_clk (f : Sideband → Sideband) : (s.modSide f).clk = s.clk := rfl
@[simp] theorem State.modSide_obj (f : Sideband → Sideband) : (s.modSide f).obj = s.obj := rfl
@[simp] theorem State.modSide_start (f : Sideband → Sideband) : (s.modSide f).start = s.start := rfl
@[simp] theorem State.modSide_pwr (f : Sideband → Sideband) : (s.modSide f).pwr = s.pwr := rfl
@[simp] theorem State.modSide_therm (f : Sideband → Sideband) : (s.modSide f).therm = s.therm := rfl
@[simp] theorem State.modSide_nrg (f : Sideband → Sideband) : (s.modSide f).nrg = s.nrg := rfl
@[simp] theorem State.modSide_masts (f : Sideband → Sideband) : (s.modSide f).masts = s.masts := rfl
@[simp] theorem State.modSide_ports (f : Sideband → Sideband) : (s.modSide f).ports = s.ports := rfl
@[simp] theorem State.modSide_luns (f : Sideband → Sideband) : (s.modSide f).luns = s.luns := rfl
@[simp] theorem State.modSide_media (f : Sideband → Sideband) : (s.modSide f).media = s.media := rfl
@[simp] theorem State.modSide_classes (f : Sideband → Sideband) : (s.modSide f).classes = s.classes := rfl
@[simp] theorem State.modSide_nss (f : Sideband → Sideband) : (s.modSide f).nss = s.nss := rfl
@[simp] theorem State.modSide_fns (f : Sideband → Sideband) : (s.modSide f).fns = s.fns := rfl
@[simp] theorem State.modSide_ctrl1 (f : Sideband → Sideband) : (s.modSide f).ctrl1 = s.ctrl1 := rfl
@[simp] theorem State.modSide_io (f : Sideband → Sideband) : (s.modSide f).io = s.io := rfl
@[simp] theorem State.modSide_keys (f : Sideband → Sideband) : (s.modSide f).keys = s.keys := rfl
@[simp] theorem State.modSide_fix (f : Sideband → Sideband) : (s.modSide f).fix = s.fix := rfl
@[simp] theorem State.modSide_mbx (f : Sideband → Sideband) : (s.modSide f).mbx = s.mbx := rfl
@[simp] theorem State.modSide_hal (f : Sideband → Sideband) : (s.modSide f).hal = s.hal := rfl
@[simp] theorem State.modSide_peer (f : Sideband → Sideband) : (s.modSide f).peer = s.peer := rfl
@[simp] theorem State.modSide_pool (f : Sideband → Sideband) : (s.modSide f).pool = s.pool := rfl
@[simp] theorem State.modSide_mems (f : Sideband → Sideband) : (s.modSide f).mems = s.mems := rfl
@[simp] theorem State.modSide_evt (f : Sideband → Sideband) : (s.modSide f).evt = s.evt := rfl
@[simp] theorem State.modSide_side (f : Sideband → Sideband) : (s.modSide f).side = f s.side := rfl
@[simp] theorem State.modSide_ctl (f : Sideband → Sideband) : (s.modSide f).ctl = s.ctl := rfl
@[simp] theorem State.modSide_stseq (f : Sideband → Sideband) : (s.modSide f).stseq = s.stseq := rfl
@[simp] theorem State.modSide_out (f : Sideband → Sideband) : (s.modSide f).out = s.out := rfl
@[simp] theorem State.modSide_fresh (f : Sideband → Sideband) : (s.modSide f).fresh = s.fresh := rfl
@[simp] theorem State.modSide_pending (f : Sideband → Sideband) : (s.modSide f).pending = s.pending := rfl

@[simp] theorem State.modCtl_variant (f : List (Nat × Nat × Nat) → List (Nat × Nat × Nat)) : (s.modCtl f).variant = s.variant := rfl
@[simp] theorem State.modCtl_fuses (f : List (Nat × Nat × Nat) → List (Nat × Nat × Nat)) : (s.modCtl f).fuses = s.fuses := rfl
@[simp] theorem State.modCtl_jtag (f : List (Nat × Nat × Nat) → List (Nat × Nat × Nat)) : (s.modCtl f).jtag = s.jtag := rfl
@[simp] theorem State.modCtl_clk (f : List (Nat × Nat × Nat) → List (Nat × Nat × Nat)) : (s.modCtl f).clk = s.clk := rfl
@[simp] theorem State.modCtl_obj (f : List (Nat × Nat × Nat) → List (Nat × Nat × Nat)) : (s.modCtl f).obj = s.obj := rfl
@[simp] theorem State.modCtl_start (f : List (Nat × Nat × Nat) → List (Nat × Nat × Nat)) : (s.modCtl f).start = s.start := rfl
@[simp] theorem State.modCtl_pwr (f : List (Nat × Nat × Nat) → List (Nat × Nat × Nat)) : (s.modCtl f).pwr = s.pwr := rfl
@[simp] theorem State.modCtl_therm (f : List (Nat × Nat × Nat) → List (Nat × Nat × Nat)) : (s.modCtl f).therm = s.therm := rfl
@[simp] theorem State.modCtl_nrg (f : List (Nat × Nat × Nat) → List (Nat × Nat × Nat)) : (s.modCtl f).nrg = s.nrg := rfl
@[simp] theorem State.modCtl_masts (f : List (Nat × Nat × Nat) → List (Nat × Nat × Nat)) : (s.modCtl f).masts = s.masts := rfl
@[simp] theorem State.modCtl_ports (f : List (Nat × Nat × Nat) → List (Nat × Nat × Nat)) : (s.modCtl f).ports = s.ports := rfl
@[simp] theorem State.modCtl_luns (f : List (Nat × Nat × Nat) → List (Nat × Nat × Nat)) : (s.modCtl f).luns = s.luns := rfl
@[simp] theorem State.modCtl_media (f : List (Nat × Nat × Nat) → List (Nat × Nat × Nat)) : (s.modCtl f).media = s.media := rfl
@[simp] theorem State.modCtl_classes (f : List (Nat × Nat × Nat) → List (Nat × Nat × Nat)) : (s.modCtl f).classes = s.classes := rfl
@[simp] theorem State.modCtl_nss (f : List (Nat × Nat × Nat) → List (Nat × Nat × Nat)) : (s.modCtl f).nss = s.nss := rfl
@[simp] theorem State.modCtl_fns (f : List (Nat × Nat × Nat) → List (Nat × Nat × Nat)) : (s.modCtl f).fns = s.fns := rfl
@[simp] theorem State.modCtl_ctrl1 (f : List (Nat × Nat × Nat) → List (Nat × Nat × Nat)) : (s.modCtl f).ctrl1 = s.ctrl1 := rfl
@[simp] theorem State.modCtl_io (f : List (Nat × Nat × Nat) → List (Nat × Nat × Nat)) : (s.modCtl f).io = s.io := rfl
@[simp] theorem State.modCtl_keys (f : List (Nat × Nat × Nat) → List (Nat × Nat × Nat)) : (s.modCtl f).keys = s.keys := rfl
@[simp] theorem State.modCtl_fix (f : List (Nat × Nat × Nat) → List (Nat × Nat × Nat)) : (s.modCtl f).fix = s.fix := rfl
@[simp] theorem State.modCtl_mbx (f : List (Nat × Nat × Nat) → List (Nat × Nat × Nat)) : (s.modCtl f).mbx = s.mbx := rfl
@[simp] theorem State.modCtl_hal (f : List (Nat × Nat × Nat) → List (Nat × Nat × Nat)) : (s.modCtl f).hal = s.hal := rfl
@[simp] theorem State.modCtl_peer (f : List (Nat × Nat × Nat) → List (Nat × Nat × Nat)) : (s.modCtl f).peer = s.peer := rfl
@[simp] theorem State.modCtl_pool (f : List (Nat × Nat × Nat) → List (Nat × Nat × Nat)) : (s.modCtl f).pool = s.pool := rfl
@[simp] theorem State.modCtl_mems (f : List (Nat × Nat × Nat) → List (Nat × Nat × Nat)) : (s.modCtl f).mems = s.mems := rfl
@[simp] theorem State.modCtl_evt (f : List (Nat × Nat × Nat) → List (Nat × Nat × Nat)) : (s.modCtl f).evt = s.evt := rfl
@[simp] theorem State.modCtl_side (f : List (Nat × Nat × Nat) → List (Nat × Nat × Nat)) : (s.modCtl f).side = s.side := rfl
@[simp] theorem State.modCtl_ctl (f : List (Nat × Nat × Nat) → List (Nat × Nat × Nat)) : (s.modCtl f).ctl = f s.ctl := rfl
@[simp] theorem State.modCtl_stseq (f : List (Nat × Nat × Nat) → List (Nat × Nat × Nat)) : (s.modCtl f).stseq = s.stseq := rfl
@[simp] theorem State.modCtl_out (f : List (Nat × Nat × Nat) → List (Nat × Nat × Nat)) : (s.modCtl f).out = s.out := rfl
@[simp] theorem State.modCtl_fresh (f : List (Nat × Nat × Nat) → List (Nat × Nat × Nat)) : (s.modCtl f).fresh = s.fresh := rfl
@[simp] theorem State.modCtl_pending (f : List (Nat × Nat × Nat) → List (Nat × Nat × Nat)) : (s.modCtl f).pending = s.pending := rfl

end Sys2Proof.Machine
end

