-- ==== Sys2Proof/Laws/Shape.lean ====
section
/-! SUPPORT. The shared updates leave the shape of a state: its variant, the numbers of its units and its waiting commands. -/

namespace Sys2Proof.Machine

/-- The shape in which an outcome leaves the block: that of its next state, or `d` where there is none. -/
def resShape (r : Res) (d : Shape) : Shape :=
  match r with
  | .next t => t.shape
  | .fault _ => d
  | .refused _ => d
/-- The same of an optional state. -/
def optShape (r : Option State) (d : Shape) : Shape :=
  match r with
  | some t => t.shape
  | none => d

@[simp] theorem resShape_next (t : State) (d : Shape) : resShape (.next t) d = t.shape := rfl
@[simp] theorem resShape_fault (f : Fault) (d : Shape) : resShape (.fault f) d = d := rfl
@[simp] theorem optShape_some (t : State) (d : Shape) : optShape (some t) d = t.shape := rfl
@[simp] theorem optShape_none (d : Shape) : optShape none d = d := rfl
@[simp] theorem resShape_ite (c : Prop) [Decidable c] (a b : Res) (d : Shape) :
    resShape (if c then a else b) d = if c then resShape a d else resShape b d := by split <;> rfl
@[simp] theorem resShape_whenUnit (c : Bool) (k : Res) (d : Shape) (h : resShape k d = d) : resShape (whenUnit c k) d = d := by
  unfold whenUnit; split
  · exact h
  · rfl
@[simp] theorem State.shape_ite (c : Prop) [Decidable c] (a b : State) : (if c then a else b).shape = if c then a.shape else b.shape := by
  split <;> rfl
@[simp] theorem fst_shape_ite {α : Type} (c : Prop) [Decidable c] (a b : State × α) :
    (if c then a else b).1.shape = if c then a.1.shape else b.1.shape := by split <;> rfl
@[simp] theorem snd_shape_ite {α : Type} (c : Prop) [Decidable c] (a b : α × State) :
    (if c then a else b).2.shape = if c then a.2.shape else b.2.shape := by split <;> rfl
@[simp] theorem optShape_ite (c : Prop) [Decidable c] (a b : Option State) (d : Shape) :
    optShape (if c then a else b) d = if c then optShape a d else optShape b d := by split <;> rfl

/-- A run of updates that each leave the shape leaves it. -/
@[simp] theorem each_shape {α : Type} (f : State → α → State) (h : ∀ s x, (f s x).shape = s.shape) (l : List α) (s : State) :
    (each l f s).shape = s.shape := by
  unfold each
  induction l generalizing s with
  | nil => rfl
  | cons x l ih => rw [List.foldl_cons, ih, h]
@[simp] theorem State.iff_shape (s : State) (c : Bool) (f : State → State) (h : (f s).shape = s.shape) : (s.iff c f).shape = s.shape := by
  unfold State.iff; split
  · exact h
  · rfl

@[simp] theorem State.modFuses_shape (s : State) (f : Fuses → Fuses) (h : (f s.fuses).makerKey = s.fuses.makerKey)
    (h1 : (f s.fuses).hostPort = s.fuses.hostPort) (h2 : (f s.fuses).lock = s.fuses.lock) : (s.modFuses f).shape = s.shape := by
  simp [State.shape, h, h1, h2]
@[simp] theorem State.modJtag_shape (s : State) (f : Jtag → Jtag) : (s.modJtag f).shape = s.shape := rfl
@[simp] theorem State.modClk_shape (s : State) (f : Clock → Clock) (h : (f s.clk).frame = s.clk.frame) : (s.modClk f).shape = s.shape := by
  simp [State.shape, h]
@[simp] theorem Clock.tick_frame (c : Clock) (n : Nat) : (c.tick n).frame = c.frame := by unfold Clock.tick; split <;> rfl
@[simp] theorem State.modObj_shape (s : State) (f : Objects → Objects) : (s.modObj f).shape = s.shape := rfl
@[simp] theorem State.modStart_shape (s : State) (f : Startup → Startup) : (s.modStart f).shape = s.shape := rfl
@[simp] theorem State.modPwr_shape (s : State) (f : Power → Power) : (s.modPwr f).shape = s.shape := rfl
@[simp] theorem State.modNrg_shape (s : State) (f : Energy → Energy) : (s.modNrg f).shape = s.shape := rfl
@[simp] theorem State.modLuns_shape (s : State) (f : List Lun → List Lun) : (s.modLuns f).shape = s.shape := rfl
@[simp] theorem State.modClasses_shape (s : State) (f : List PClass → List PClass) : (s.modClasses f).shape = s.shape := rfl
@[simp] theorem State.modNss_shape (s : State) (f : List Namespace → List Namespace) : (s.modNss f).shape = s.shape := rfl
@[simp] theorem State.modCtrl1_shape (s : State) (f : Ctrl → Ctrl) : (s.modCtrl1 f).shape = s.shape := rfl
@[simp] theorem State.modKeys_shape (s : State) (f : Keys → Keys) : (s.modKeys f).shape = s.shape := rfl
@[simp] theorem State.modFix_shape (s : State) (f : Fixity → Fixity) : (s.modFix f).shape = s.shape := rfl
@[simp] theorem State.modMbx_shape (s : State) (f : Mailboxes → Mailboxes) : (s.modMbx f).shape = s.shape := rfl
@[simp] theorem State.modPeer_shape (s : State) (f : Peer → Peer) : (s.modPeer f).shape = s.shape := rfl
@[simp] theorem State.modPool_shape (s : State) (f : Pool → Pool) : (s.modPool f).shape = s.shape := rfl
@[simp] theorem State.modEvt_shape (s : State) (f : Events → Events) : (s.modEvt f).shape = s.shape := rfl
@[simp] theorem State.modSide_shape (s : State) (f : Sideband → Sideband) : (s.modSide f).shape = s.shape := rfl
@[simp] theorem State.modCtl_shape (s : State) (f : List (Nat × Nat × Nat) → List (Nat × Nat × Nat)) : (s.modCtl f).shape = s.shape := rfl
@[simp] theorem State.modMasts_shape (s : State) (f : List Mast → List Mast) (h : (f s.masts).length = s.masts.length) :
    (s.modMasts f).shape = s.shape := by simp [State.shape, h]
@[simp] theorem State.modPorts_shape (s : State) (f : List Port → List Port) (h : (f s.ports).length = s.ports.length) :
    (s.modPorts f).shape = s.shape := by simp [State.shape, h]
@[simp] theorem State.modFns_shape (s : State) (f : List Fn → List Fn) (h : (f s.fns).length = s.fns.length) :
    (s.modFns f).shape = s.shape := by simp [State.shape, h]
@[simp] theorem State.modMems_shape (s : State) (f : List MemUnit → List MemUnit) (h : (f s.mems).length = s.mems.length) :
    (s.modMems f).shape = s.shape := by simp [State.shape, h]
@[simp] theorem State.modTherm_shape (s : State) (f : Thermal → Thermal) (h : (f s.therm).inputs.length = s.therm.inputs.length) :
    (s.modTherm f).shape = s.shape := by simp [State.shape, h]
@[simp] theorem State.modMedia_shape (s : State) (f : Media → Media) (h : (f s.media).journals.length = s.media.journals.length) :
    (s.modMedia f).shape = s.shape := by simp [State.shape, h]
@[simp] theorem State.modIo_shape (s : State) (f : HostIo → HostIo) (h : (f s.io).ports.length = s.io.ports.length) :
    (s.modIo f).shape = s.shape := by simp [State.shape, h]
@[simp] theorem State.modHal_shape (s : State) (f : Halyard → Halyard) (h : (f s.hal).ports.length = s.hal.ports.length) :
    (s.modHal f).shape = s.shape := by simp [State.shape, h]

end Sys2Proof.Machine
end

