-- ==== Sys2Proof/Laws/ShapeMedia.lean ====
section
/-! SUPPORT. What the shared operations of the media, the read and write paths and the masts leave as it is: the shape of a state (Safety.Shape). -/

namespace Sys2Proof.Machine

set_option maxRecDepth 4000
set_option linter.unusedSimpArgs false
set_option linter.unusedTactic false
set_option linter.unreachableTactic false

/-- A fold whose step leaves the shape leaves it. -/
theorem foldl_shape {α β : Type} (p : β → State) (f : β → α → β) (h : ∀ b x, (p (f b x)).shape = (p b).shape) (l : List α) (b : β) :
    (p (l.foldl f b)).shape = (p b).shape := by
  induction l generalizing b with
  | nil => rfl
  | cons x l ih => rw [List.foldl_cons, ih, h]
@[simp] theorem State.modMast_shape (s : State) (m : Nat) (f : Mast → Mast)  :
    (State.modMast s m f).shape = s.shape := by
  unfold State.modMast
  simp
@[simp] theorem State.modPort_shape (s : State) (p : Nat) (f : Port → Port)  :
    (State.modPort s p f).shape = s.shape := by
  unfold State.modPort
  simp
@[simp] theorem State.modFn_shape (s : State) (f : Nat) (g : Fn → Fn)  :
    (State.modFn s f g).shape = s.shape := by
  unfold State.modFn
  simp
@[simp] theorem State.modLun_shape (s : State) (g : Nat) (f : Lun → Lun)  :
    (State.modLun s g f).shape = s.shape := by
  unfold State.modLun
  simp
@[simp] theorem State.modMem_shape (s : State) (i : Nat) (f : MemUnit → MemUnit)  :
    (State.modMem s i f).shape = s.shape := by
  unfold State.modMem
  simp
@[simp] theorem State.modHport_shape (s : State) (p : Nat) (f : HPort → HPort)  :
    (State.modHport s p f).shape = s.shape := by
  unfold State.modHport
  simp
@[simp] theorem State.modHostPort_shape (s : State) (p : Nat) (f : HostPort → HostPort)  :
    (State.modHostPort s p f).shape = s.shape := by
  unfold State.modHostPort
  simp
@[simp] theorem State.modThermIn_shape (s : State) (i : Nat) (f : ThermIn → ThermIn)  :
    (State.modThermIn s i f).shape = s.shape := by
  unfold State.modThermIn
  simp
@[simp] theorem State.modCtrl_shape (s : State) (f : Nat) (port1 : Bool) (g : Ctrl → Ctrl)  :
    (State.modCtrl s f port1 g).shape = s.shape := by
  unfold State.modCtrl
  simp
@[simp] theorem State.modNs_shape (s : State) (nsid : Nat) (f : Namespace → Namespace)  :
    (State.modNs s nsid f).shape = s.shape := by
  unfold State.modNs
  simp
@[simp] theorem State.modZone_shape (s : State) (nsid : Nat) (zi : Nat) (f : Zone → Zone)  :
    (State.modZone s nsid zi f).shape = s.shape := by
  unfold State.modZone
  simp
@[simp] theorem State.modSeg_shape (s : State) (seq : Nat) (f : Segment → Segment)  :
    (State.modSeg s seq f).shape = s.shape := by
  unfold State.modSeg
  simp
@[simp] theorem State.modBlocks_shape (s : State) (p : Stored → Bool) (f : Stored → Stored)  :
    (State.modBlocks s p f).shape = s.shape := by
  unfold State.modBlocks
  simp
@[simp] theorem State.dropBlocks_shape (s : State) (p : Stored → Bool)  :
    (State.dropBlocks s p).shape = s.shape := by
  unfold State.dropBlocks
  simp
@[simp] theorem State.modJournal_shape (s : State) (j : Nat) (f : Journal → Journal)  :
    (State.modJournal s j f).shape = s.shape := by
  unfold State.modJournal
  simp
@[simp] theorem State.log_shape (s : State) (j : Nat) (r : JRec)  :
    (State.log s j r).shape = s.shape := by
  unfold State.log
  simp
@[simp] theorem State.modSlot_shape (s : State) (n : Nat) (f : Slot → Slot)  :
    (State.modSlot s n f).shape = s.shape := by
  unfold State.modSlot
  simp
@[simp] theorem State.modKeyRef_shape (s : State) (n : Nat) (f : KeyRef → KeyRef)  :
    (State.modKeyRef s n f).shape = s.shape := by
  unfold State.modKeyRef
  simp
@[simp] theorem State.modCmd_shape (s : State) (id : Nat) (f : Cmd → Cmd)  :
    (State.modCmd s id f).shape = s.shape := by
  unfold State.modCmd
  simp
@[simp] theorem State.modCmds_shape (s : State) (p : Cmd → Bool) (f : Cmd → Cmd)  :
    (State.modCmds s p f).shape = s.shape := by
  unfold State.modCmds
  simp
@[simp] theorem State.modPartner_shape (s : State) (fp : Digest) (f : Partner → Partner)  :
    (State.modPartner s fp f).shape = s.shape := by
  unfold State.modPartner
  simp
@[simp] theorem State.modJob_shape (s : State) (id : Nat) (f : Job → Job)  :
    (State.modJob s id f).shape = s.shape := by
  unfold State.modJob
  simp
@[simp] theorem State.modMirror_shape (s : State) (id : Nat) (f : Mirror → Mirror)  :
    (State.modMirror s id f).shape = s.shape := by
  unfold State.modMirror
  simp
@[simp] theorem State.emit_shape (s : State) (o : Out)  :
    (State.emit s o).shape = s.shape := by simp [State.emit, State.shape]
@[simp] theorem State.raise_shape (s : State) (source : Nat) (code : Nat) (severity : Nat) (args : List Nat) (fn : Nat)  :
    (State.raise s source code severity args fn).shape = s.shape := by
  unfold State.raise
  simp
@[simp] theorem State.settleEvents_shape (s : State) (n : Nat)  :
    (State.settleEvents s n).shape = s.shape := by
  unfold State.settleEvents
  simp
@[simp] theorem State.bump_shape (s : State)  :
    (State.bump s).shape = s.shape := by simp [State.bump, State.shape]
@[simp] theorem State.setCtl_shape (s : State) (ident : Nat) (scope : Nat) (value : Nat)  :
    (State.setCtl s ident scope value).shape = s.shape := by
  unfold State.setCtl
  simp
@[simp] theorem State.unsetCtl_shape (s : State) (ident : Nat) (scope : Nat)  :
    (State.unsetCtl s ident scope).shape = s.shape := by
  unfold State.unsetCtl
  simp
@[simp] theorem State.modBlock_shape (s : State) (glun : Nat) (b : Nat) (f : EBlock → EBlock)  :
    (State.modBlock s glun b f).shape = s.shape := by
  unfold State.modBlock
  simp
@[simp] theorem State.interrupt_shape (s : State) (f : Nat) (port1 : Bool) (v : Nat)  :
    (State.interrupt s f port1 v).shape = s.shape := by
  unfold State.interrupt
  simp
@[simp] theorem State.modRing_shape (s : State) (fn : Nat) (r : Nat) (f : Ring → Ring)  :
    (State.modRing s fn r f).shape = s.shape := by
  unfold State.modRing
  simp
@[simp] theorem State.ringVisible_shape (s : State) (fn : Nat) (r : Nat) (due : Bool)  :
    (State.ringVisible s fn r due).shape = s.shape := by
  unfold State.ringVisible
  simp
@[simp] theorem State.ringFailed_shape (s : State) (fn : Nat) (r : Nat)  :
    (State.ringFailed s fn r).shape = s.shape := by
  unfold State.ringFailed
  simp
@[simp] theorem State.cqInterrupt_shape (s : State) (f : Nat) (port1 : Bool) (cq : Cq)  :
    (State.cqInterrupt s f port1 cq).shape = s.shape := by
  unfold State.cqInterrupt
  simp
@[simp] theorem State.postEntry_shape (s : State) (f : Nat) (port1 : Bool) (e : Cqe)  :
    (State.postEntry s f port1 e).shape = s.shape := by
  unfold State.postEntry
  simp
  (repeat' split) <;> simp
@[simp] theorem State.asyncEvent_shape (s : State) (f : Nat) (port1 : Bool) (info : Nat)  :
    (State.asyncEvent s f port1 info).shape = s.shape := by
  unfold State.asyncEvent
  simp
  split <;> simp
@[simp] theorem State.errorLog_shape (s : State) (f : Nat) (port1 : Bool) (status : Nat) (what : Nat)  :
    (State.errorLog s f port1 status what).shape = s.shape := by
  unfold State.errorLog
  simp
@[simp] theorem State.post_shape (s : State) (c : Cmd)  :
    (State.post s c).shape = s.shape := by
  unfold State.post
  simp
@[simp] theorem State.tryPost_shape (s : State) (id : Nat)  :
    (State.tryPost s id).shape = s.shape := by
  unfold State.tryPost
  split <;> simp
@[simp] theorem State.request_shape (s : State) (r : DmaReq)  :
    (State.request s r).shape = s.shape := by
  unfold State.request
  simp
@[simp] theorem State.deliver_shape (s : State) (id : Nat) (data : List HostBlock)  :
    (State.deliver s id data).shape = s.shape := by
  unfold State.deliver
  split <;> simp
@[simp] theorem State.conclude_shape (s : State) (id : Nat) (st : NvmeStatus) (data : (List HostBlock)) (result : Nat) (errLba : (Option Nat))  :
    (State.conclude s id st data result errLba).shape = s.shape := by
  unfold State.conclude
  (repeat' split) <;> simp
@[simp] theorem State.dropReqs_shape (s : State) (id : Nat)  :
    (State.dropReqs s id).shape = s.shape := by
  unfold State.dropReqs
  simp
@[simp] theorem State.dropCmd_shape (s : State) (c : Cmd)  :
    (State.dropCmd s c).shape = s.shape := by
  unfold State.dropCmd
  simp
@[simp] theorem State.dropSquashed_shape (s : State) (id : Nat)  :
    (State.dropSquashed s id).shape = s.shape := by
  unfold State.dropSquashed
  split <;> simp
@[simp] theorem State.put_shape (s : State) (port : Nat) (k : TxPkt)  :
    (State.put s port k).shape = s.shape := by
  unfold State.put
  simp
@[simp] theorem State.tx_shape (s : State) (port : Nat) (k : TxPkt)  :
    (State.tx s port k).shape = s.shape := by
  unfold State.tx
  simp
@[simp] theorem State.flushPort_shape (a1 : Nat) (a2 : Nat) (a3 : State)  :
    (State.flushPort a1 a2 a3).shape = a3.shape := by
  induction a1 generalizing a3 with
  | zero => rfl
  | succ n ih =>
    unfold State.flushPort
    dsimp only
    split
    · rfl
    · split
      · rfl
      · rw [ih]; simp
@[simp] theorem State.sendNak_shape (s : State) (port : Nat) (reason : Nat)  :
    (State.sendNak s port reason).shape = s.shape := by
  unfold State.sendNak
  simp
@[simp] theorem State.sendOp_shape (s : State) (fp : Digest) (code : Nat) (args : List Nat) (packets : Nat)  :
    (State.sendOp s fp code args packets).shape = s.shape := by
  unfold State.sendOp
  split <;> simp
@[simp] theorem State.sealHeld_shape (s : State) (p : Stored → Bool)  :
    (State.sealHeld s p).shape = s.shape := by
  unfold State.sealHeld
  repeat' (first | (with_reducible rfl) | (simp; done) | (simp [*]; done) | (split <;> (try rename_i h) <;> (first | (have e := congrArg (fun p => p.1.shape) h.symm; simp at e; clear h) | (have e := congrArg (fun p => p.2.shape) h.symm; simp at e; clear h) | (have e := congrArg (fun o => optShape o s.shape) h.symm; simp at e; clear h) | skip)) | (with_reducible refine (each_shape _ (fun _ _ => ?_) _ _).trans ?_) | (simp))
@[simp] theorem State.rehome_shape (s : State) (m : Nat)  :
    (State.rehome s m).shape = s.shape := by
  unfold State.rehome
  simp
@[simp] theorem State.takeGen_shape (s : State)  :
    (State.takeGen s).2.shape = s.shape := by
  unfold State.takeGen
  simp
@[simp] theorem State.takeSeq_shape (s : State)  :
    (State.takeSeq s).2.shape = s.shape := by
  unfold State.takeSeq
  simp
@[simp] theorem State.logZone_shape (s : State) (nsid : Nat) (zi : Nat)  :
    (State.logZone s nsid zi).shape = s.shape := by
  unfold State.logZone
  simp
@[simp] theorem State.notifyZone_shape (s : State) (nsid : Nat) (zi : Nat)  :
    (State.notifyZone s nsid zi).shape = s.shape := by
  unfold State.notifyZone
  simp
  split <;> simp
theorem State.allocSegment_shape (s : State) (proto : Segment) (p : Nat × State) (h : s.allocSegment proto = some p) :
    p.2.shape = s.shape := by
  unfold State.allocSegment at h
  split at h
  · cases h
  · simp only [Option.some.injEq] at h
    subst h
    simp only [State.log_shape]
    rw [State.modMedia_shape _ _ rfl, each_shape]
    · simp
    · intro t x
      split <;> simp
@[simp] theorem State.releaseSegment_shape (s : State) (seq : Nat)  :
    (State.releaseSegment s seq).shape = s.shape := by
  unfold State.releaseSegment
  split <;> simp
@[simp] theorem State.retireRescue_shape (s : State)  :
    (State.retireRescue s).shape = s.shape := by
  unfold State.retireRescue
  simp
@[simp] theorem State.rescuePut_shape (s : State) (x : Nat) (pages : Nat)  :
    (State.rescuePut s x pages).2.shape = s.shape := by
  unfold State.rescuePut
  simp
@[simp] theorem State.rescueRun_shape (s : State) (luns : List Nat) (id : Nat × Nat) (first : Bool) (l : List Stored)  :
    (State.rescueRun s luns id first l).shape = s.shape := by
  unfold State.rescueRun
  simp
@[simp] theorem State.park_shape (s : State) (nsid : Nat) (zi : Nat)  :
    (State.park s nsid zi).shape = s.shape := by
  unfold State.park
  simp
@[simp] theorem State.checkpoint_shape (s : State) (j : Nat)  :
    (State.checkpoint s j).shape = s.shape := by
  unfold State.checkpoint
  simp
@[simp] theorem State.appendLog_shape (s : State) (x : Nat) (pages : Nat)  :
    (State.appendLog s x pages).shape = s.shape := by
  unfold State.appendLog
  simp
@[simp] theorem State.journalPage_shape (s : State) (j : Nat)  :
    (State.journalPage s j).shape = s.shape := by
  unfold State.journalPage
  simp
@[simp] theorem State.appendDirectory_shape (s : State) (x : Nat)  :
    (State.appendDirectory s x).shape = s.shape := by
  unfold State.appendDirectory
  simp
@[simp] theorem State.detachTrailer_shape (s : State) (nsid : Nat) (zi : Nat) (m : Nat) (blocks : Nat)  :
    (State.detachTrailer s nsid zi m blocks).shape = s.shape := by
  unfold State.detachTrailer
  simp
@[simp] theorem State.setZone_shape (s : State) (nsid : Nat) (zi : Nat) (into : ZoneState)  :
    (State.setZone s nsid zi into).shape = s.shape := by
  unfold State.setZone
  simp
@[simp] theorem State.leaveEmpty_shape (s : State) (n : Namespace) (zi : Nat) (c : Nat) (into : ZoneState)  :
    (State.leaveEmpty s n zi c into).shape = s.shape := by
  unfold State.leaveEmpty
  simp
  (repeat' split) <;> simp
@[simp] theorem State.commitRelease_shape (s : State) (nsid : Nat) (zi : Nat) (gen : Nat) (into : ZoneState)  :
    (State.commitRelease s nsid zi gen into).shape = s.shape := by
  unfold State.commitRelease
  simp
  (repeat' split) <;> simp
@[simp] theorem State.requestRelease_shape (s : State) (nsid : Nat) (zi : Nat) (into : ZoneState)  :
    (State.requestRelease s nsid zi into).shape = s.shape := by
  unfold State.requestRelease
  simp
@[simp] theorem State.finishZone_shape (s : State) (n : Namespace) (zi : Nat) (zfc : Bool)  :
    (State.finishZone s n zi zfc).shape = s.shape := by
  unfold State.finishZone
  simp
  (repeat' split) <;> simp
@[simp] theorem State.finishByDevice_shape (s : State) (n : Namespace) (zi : Nat)  :
    (State.finishByDevice s n zi).shape = s.shape := by
  unfold State.finishByDevice
  simp
@[simp] theorem State.closeZone_shape (s : State) (nsid : Nat) (zi : Nat)  :
    (State.closeZone s nsid zi).shape = s.shape := by
  unfold State.closeZone
  simp
@[simp] theorem State.enterReadPreserve_shape (s : State)  :
    (State.enterReadPreserve s).shape = s.shape := by
  unfold State.enterReadPreserve
  simp
@[simp] theorem State.takeResources_shape (s : State) (n : Namespace) (needActive : Bool) (needOpen : Bool) (mayClose : Bool)  :
    (State.takeResources s n needActive needOpen mayClose).1.shape = s.shape := by
  unfold State.takeResources
  simp
  split <;> simp
@[simp] theorem State.zoneAction_shape (s : State) (nsid : Nat) (zi : Nat) (a : ZoneAction)  :
    (State.zoneAction s nsid zi a).1.shape = s.shape := by
  unfold State.zoneAction
  repeat' (first | (with_reducible rfl) | (simp; done) | (simp [*]; done) | (split <;> (try rename_i h) <;> (first | (have e := congrArg (fun p => p.1.shape) h.symm; simp at e; clear h) | (have e := congrArg (fun p => p.2.shape) h.symm; simp at e; clear h) | (have e := congrArg (fun o => optShape o s.shape) h.symm; simp at e; clear h) | skip)) | (with_reducible refine (each_shape _ (fun _ _ => ?_) _ _).trans ?_) | (simp))
@[simp] theorem State.zoneActionAll_shape (s : State) (nsid : Nat) (a : ZoneAction)  :
    (State.zoneActionAll s nsid a).1.shape = s.shape := by
  unfold State.zoneActionAll
  split
  · rfl
  · dsimp only
    split
    · rfl
    · exact foldl_shape (fun b : State × NvmeStatus => b.1) _ (fun b x => by simp) _ _
@[simp] theorem State.setExtension_shape (s : State) (nsid : Nat) (zi : Nat) (ext : Wide)  :
    (State.setExtension s nsid zi ext).1.shape = s.shape := by
  unfold State.setExtension
  repeat' (first | (with_reducible rfl) | (simp; done) | (simp [*]; done) | (split <;> (try rename_i h) <;> (first | (have e := congrArg (fun p => p.1.shape) h.symm; simp at e; clear h) | (have e := congrArg (fun p => p.2.shape) h.symm; simp at e; clear h) | (have e := congrArg (fun o => optShape o s.shape) h.symm; simp at e; clear h) | skip)) | (with_reducible refine (each_shape _ (fun _ _ => ?_) _ _).trans ?_) | (simp))
@[simp] theorem State.loseMastZones_shape (s : State)  :
    (State.loseMastZones s).shape = s.shape := by
  unfold State.loseMastZones
  simp
@[simp] theorem State.markOverflow_shape (s : State) (nsid : Nat) (lba : Nat)  :
    (State.markOverflow s nsid lba).shape = s.shape := by
  unfold State.markOverflow
  split <;> simp
@[simp] theorem State.enterLoss_shape (s : State) (nsid : Nat) (lba : Nat) (count : Nat) (gen : Nat) (cause : Nat) (foundBy : Nat) (fn : Nat) (mast : Nat)  :
    (State.enterLoss s nsid lba count gen cause foundBy fn mast).shape = s.shape := by
  unfold State.enterLoss
  simp
@[simp] theorem State.removeLoss_shape (s : State) (nsid : Nat) (lba : Nat)  :
    (State.removeLoss s nsid lba).shape = s.shape := by
  unfold State.removeLoss
  simp
@[simp] theorem State.shrinkOnce_shape (s : State)  :
    optShape (State.shrinkOnce s) s.shape = s.shape := by
  unfold State.shrinkOnce
  simp
  (repeat' split) <;> simp
@[simp] theorem State.shrinkLoop_shape (a1 : Nat) (a2 : State)  :
    (State.shrinkLoop a1 a2).shape = a2.shape := by
  induction a1 generalizing a2 with
  | zero => rfl
  | succ n ih =>
    unfold State.shrinkLoop
    split
    · rfl
    · split
      · rfl
      · rename_i t h
        have e := State.shrinkOnce_shape a2
        rw [h] at e
        rw [ih]; exact e
@[simp] theorem State.shrink_shape (s : State)  :
    (State.shrink s).shape = s.shape := by
  unfold State.shrink
  simp
@[simp] theorem State.retire_shape (s : State) (glun : Nat) (block : Nat) (code : Nat)  :
    (State.retire s glun block code).shape = s.shape := by
  unfold State.retire
  simp
  split <;> simp
@[simp] theorem State.endurance_shape (s : State) (glun : Nat) (block : Nat)  :
    (State.endurance s glun block).shape = s.shape := by
  unfold State.endurance
  simp
@[simp] theorem State.energyBudget_shape (s : State)  :
    (State.energyBudget s).shape = s.shape := by
  unfold State.energyBudget
  simp
@[simp] theorem State.startSelfTest_shape (s : State) (v1 : Nat)  :
    (State.startSelfTest s v1).shape = s.shape := by
  unfold State.startSelfTest
  simp
@[simp] theorem State.endSelfTest_shape (s : State) (c : Nat)  :
    (State.endSelfTest s c).shape = s.shape := by
  unfold State.endSelfTest
  repeat' (first | (with_reducible rfl) | (with_reducible assumption) | (simp only [State.shape_ite, resShape_ite, fst_shape_ite, snd_shape_ite, optShape_ite, resShape_next, resShape_fault, optShape_some, optShape_none, ite_self, List.length_map, List.length_modify, List.length_zipIdx, State.log_shape, State.modNrg_shape, State.raise_shape]; done) | (simp only [State.shape_ite, resShape_ite, fst_shape_ite, snd_shape_ite, optShape_ite, resShape_next, resShape_fault, optShape_some, optShape_none, ite_self, List.length_map, List.length_modify, List.length_zipIdx, State.log_shape, State.modNrg_shape, State.raise_shape, *]; done) | (split <;> (try rename_i h) <;> (first | (have e := congrArg (fun p => p.1.shape) h.symm; simp only [State.shape_ite, resShape_ite, fst_shape_ite, snd_shape_ite, optShape_ite, resShape_next, resShape_fault, optShape_some, optShape_none, ite_self, List.length_map, List.length_modify, List.length_zipIdx, State.log_shape, State.modNrg_shape, State.raise_shape] at e; clear h) | (have e := congrArg (fun p => p.2.shape) h.symm; simp only [State.shape_ite, resShape_ite, fst_shape_ite, snd_shape_ite, optShape_ite, resShape_next, resShape_fault, optShape_some, optShape_none, ite_self, List.length_map, List.length_modify, List.length_zipIdx, State.log_shape, State.modNrg_shape, State.raise_shape] at e; clear h) | (have e := congrArg (fun o => optShape o (State.shape s)) h.symm; simp only [State.shape_ite, resShape_ite, fst_shape_ite, snd_shape_ite, optShape_ite, resShape_next, resShape_fault, optShape_some, optShape_none, ite_self, List.length_map, List.length_modify, List.length_zipIdx, State.log_shape, State.modNrg_shape, State.raise_shape] at e; clear h) | skip)) | (with_reducible refine each_shape _ (fun _ _ => ?_) _ _) | (with_reducible refine (each_shape _ (fun _ _ => ?_) _ _).trans ?_) | (with_reducible refine resShape_whenUnit _ _ _ ?_) | (simp only [State.shape_ite, resShape_ite, fst_shape_ite, snd_shape_ite, optShape_ite, resShape_next, resShape_fault, optShape_some, optShape_none, ite_self, List.length_map, List.length_modify, List.length_zipIdx, State.log_shape, State.modNrg_shape, State.raise_shape]))
@[simp] theorem State.zeroCredits_shape (s : State)  :
    (State.zeroCredits s).shape = s.shape := by
  unfold State.zeroCredits
  simp
@[simp] theorem State.memberTracked_shape (s : State) (g : Segment) (q : Nat) (refs : List (Nat × Nat))  :
    (State.memberTracked s g q refs).shape = s.shape := by
  unfold State.memberTracked
  simp
@[simp] theorem State.demandMast_shape (s : State) (m : Nat)  :
    (State.demandMast s m).shape = s.shape := by
  unfold State.demandMast
  simp
@[simp] theorem State.readLoss_shape (s : State) (c : Cmd) (b : RBlock) (cause : Nat) (glun : Nat) (gen : Nat)  :
    (State.readLoss s c b cause glun gen).shape = s.shape := by
  unfold State.readLoss
  simp
@[simp] theorem State.awaitLoss_shape (s : State) (id : Nat) (nsid : Nat) (lba : Nat)  :
    (State.awaitLoss s id nsid lba).shape = s.shape := by
  unfold State.awaitLoss
  split <;> simp
@[simp] theorem State.lookAt_shape (s : State) (c : Cmd) (b : RBlock)  :
    (State.lookAt s c b).1.shape = s.shape := by
  unfold State.lookAt
  (repeat' split) <;> simp
@[simp] theorem State.lookAll_shape (s : State) (c : Cmd)  :
    (State.lookAll s c).shape = s.shape := by
  unfold State.lookAll
  dsimp only
  rw [State.modCmd_shape]
  exact foldl_shape (fun b : State × List RBlock => b.1) _ (fun b x => by simp) _ _
@[simp] theorem State.finishRead_shape (s : State) (id : Nat)  :
    (State.finishRead s id).shape = s.shape := by
  unfold State.finishRead
  split <;> simp
@[simp] theorem State.retryReads_shape (s : State) (p : Cmd → RBlock → Bool)  :
    (State.retryReads s p).shape = s.shape := by
  unfold State.retryReads
  repeat' (first | (with_reducible rfl) | (simp; done) | (simp [*]; done) | (split <;> (try rename_i h) <;> (first | (have e := congrArg (fun p => p.1.shape) h.symm; simp at e; clear h) | (have e := congrArg (fun p => p.2.shape) h.symm; simp at e; clear h) | (have e := congrArg (fun o => optShape o s.shape) h.symm; simp at e; clear h) | skip)) | (with_reducible refine (each_shape _ (fun _ _ => ?_) _ _).trans ?_) | (simp))
@[simp] theorem State.retryArriving_shape (s : State)  :
    (State.retryArriving s).shape = s.shape := by
  unfold State.retryArriving
  simp
@[simp] theorem State.journalled_shape (s : State) (id : Nat)  :
    (State.journalled s id).shape = s.shape := by
  unfold State.journalled
  split <;> simp
@[simp] theorem State.fixRoot_shape (s : State) (nsid : Nat) (zi : Nat)  :
    (State.fixRoot s nsid zi).shape = s.shape := by
  unfold State.fixRoot
  simp
@[simp] theorem State.modRow_shape (s : State) (seq : Nat) (r : Nat) (f : Row → Row)  :
    (State.modRow s seq r f).shape = s.shape := by
  unfold State.modRow
  simp
@[simp] theorem State.sealUnitAt_shape (s : State) (m : Nat) (e : Nat) (g : Segment) (r : Nat) (u : Nat)  :
    (State.sealUnitAt s m e g r u).shape = s.shape := by
  unfold State.sealUnitAt
  simp
  split <;> simp
@[simp] theorem State.ackWrite_shape (s : State) (id : Nat)  :
    (State.ackWrite s id).shape = s.shape := by
  unfold State.ackWrite
  split <;> simp
@[simp] theorem State.voidBlocks_shape (s : State) (c : Cmd)  :
    (State.voidBlocks s c).shape = s.shape := by
  unfold State.voidBlocks
  simp
@[simp] theorem State.voidWrite_shape (s : State) (c : Cmd) (st : NvmeStatus)  :
    (State.voidWrite s c st).shape = s.shape := by
  unfold State.voidWrite
  simp
@[simp] theorem State.respond_shape (s : State) (via : Via) (r : Resp)  :
    (State.respond s via r).shape = s.shape := by
  unfold State.respond
  (repeat' split) <;> simp
@[simp] theorem State.walkHop_shape (s : State) (c : Cmd) (hops : Nat) (bad : Bool)  :
    (State.walkHop s c hops bad).shape = s.shape := by
  unfold State.walkHop
  simp
@[simp] theorem State.dmaFailed_shape (s : State) (r : DmaReq) (code : Nat)  :
    (State.dmaFailed s r code).shape = s.shape := by
  unfold State.dmaFailed
  simp
  split <;> simp
@[simp] theorem State.mailboxVisible_shape (s : State) (via : Via)  :
    (State.mailboxVisible s via).shape = s.shape := by
  unfold State.mailboxVisible
  split <;> simp
@[simp] theorem State.unexpected_shape (s : State) (fn : Nat)  :
    (State.unexpected s fn).shape = s.shape := by
  unfold State.unexpected
  simp
@[simp] theorem State.dataArrived_shape (s : State) (c : Cmd) (i : Nat) (data : Block) (pi : HostPi)  :
    (State.dataArrived s c i data pi).shape = s.shape := by
  unfold State.dataArrived
  simp only []
  split <;> simp
@[simp] theorem State.dmaEnded_shape (s : State) (req : Nat) (result : DmaEnd) (data : Block) (pi : HostPi)  :
    (State.dmaEnded s req result data pi).shape = s.shape := by
  unfold State.dmaEnded
  simp
  (repeat' split) <;> simp
@[simp] theorem State.checkRow_shape (s : State) (seq : Nat) (r : Nat)  :
    (State.checkRow s seq r).shape = s.shape := by
  unfold State.checkRow
  split <;> simp
@[simp] theorem State.replaceSegment_shape (s : State) (seq : Nat)  :
    optShape (State.replaceSegment s seq) s.shape = s.shape := by
  unfold State.replaceSegment
  split
  · rfl
  · split
    · rfl
    · rename_i h
      simp [State.allocSegment_shape _ _ _ h]
@[simp] theorem State.copyDone_shape (s : State) (dst : Nat)  :
    (State.copyDone s dst).shape = s.shape := by
  unfold State.copyDone
  split
  · simp
  · split <;> simp
@[simp] theorem State.markLoss_shape (s : State) (p : Stored → Bool)  :
    (State.markLoss s p).shape = s.shape := by
  unfold State.markLoss
  simp
@[simp] theorem State.commitReplacement_shape (s : State) (src : Nat) (dst : Nat)  :
    (State.commitReplacement s src dst).shape = s.shape := by
  unfold State.commitReplacement
  split <;> simp
@[simp] theorem State.programFailed_shape (s : State) (glun : Nat) (block : Nat) (seq : Nat)  :
    (State.programFailed s glun block seq).shape = s.shape := by
  unfold State.programFailed
  simp
  split <;> simp
@[simp] theorem State.candidate_shape (s : State) (seq : Nat) (member : Nat)  :
    (State.candidate s seq member).shape = s.shape := by
  unfold State.candidate
  simp
@[simp] theorem State.copyFound_shape (s : State) (g : Segment) (r : CopyReport)  :
    (State.copyFound s g r).shape = s.shape := by
  unfold State.copyFound
  refine (each_shape _ (fun s x => ?_) _ _).trans ?_ <;> (repeat' split) <;> simp
@[simp] theorem State.noSegment_shape (s : State) (g : Segment)  :
    (State.noSegment s g).shape = s.shape := by
  unfold State.noSegment
  split <;> simp
@[simp] theorem State.passDone_shape (s : State) (glun : Nat) (w : DieWork)  :
    (State.passDone s glun w).shape = s.shape := by
  unfold State.passDone
  (repeat' split) <;> simp
@[simp] theorem State.eraseDone_shape (s : State) (glun : Nat) (block : Nat)  :
    (State.eraseDone s glun block).shape = s.shape := by
  unfold State.eraseDone
  simp
@[simp] theorem State.blockFree_shape (s : State) (glun : Nat) (block : Nat) (erases : Nat)  :
    (State.blockFree s glun block erases).shape = s.shape := by
  unfold State.blockFree
  simp
@[simp] theorem State.wholeAllocation_shape (s : State) (seq : Nat)  :
    (State.wholeAllocation s seq).shape = s.shape := by
  unfold State.wholeAllocation
  split <;> simp
@[simp] theorem State.eraseFailed_shape (s : State) (glun : Nat) (block : Nat)  :
    (State.eraseFailed s glun block).shape = s.shape := by
  unfold State.eraseFailed
  dsimp only
  have e0 : (s.retire glun block 2).shape = s.shape := by simp
  generalize s.retire glun block 2 = t at e0
  rw [← e0]
  split
  · split
    · simp
    · split
      · rename_i h
        have e := congrArg (fun o => optShape o t.shape) h
        simp only [State.replaceSegment_shape, optShape_some] at e
        simpa using e.symm
      · simp
  · rfl
@[simp] theorem State.overrun_shape (s : State) (p : Nat) (entries : Nat) (cycles : Nat)  :
    (State.overrun s p entries cycles).shape = s.shape := by
  unfold State.overrun
  simp
@[simp] theorem State.modRef_shape (s : State) (e : PlanEntry) (f : RBlock → RBlock)  :
    (State.modRef s e f).shape = s.shape := by
  unfold State.modRef
  split <;> simp
@[simp] theorem State.modWork_shape (s : State) (glun : Nat) (f : DieWork → DieWork)  :
    (State.modWork s glun f).shape = s.shape := by
  unfold State.modWork
  simp
@[simp] theorem State.unplan_shape (s : State) (e : PlanEntry)  :
    (State.unplan s e).shape = s.shape := by
  unfold State.unplan
  simp
@[simp] theorem State.ranEntry_shape (s : State) (e : PlanEntry)  :
    (State.ranEntry s e).shape = s.shape := by
  unfold State.ranEntry
  simp
@[simp] theorem State.lateEntry_shape (s : State) (e : PlanEntry)  :
    (State.lateEntry s e).shape = s.shape := by
  unfold State.lateEntry
  simp
@[simp] theorem State.delayEntries_shape (s : State) (glun : Nat) (delay : Nat)  :
    (State.delayEntries s glun delay).shape = s.shape := by
  unfold State.delayEntries
  simp only []
  split <;> simp
@[simp] theorem State.releaseDeputy_shape (s : State) (seq : Nat) (r : Nat)  :
    (State.releaseDeputy s seq r).shape = s.shape := by
  unfold State.releaseDeputy
  split <;> simp
@[simp] theorem State.reportFinal_shape (s : State) (seq : Nat) (q : Nat) (wl : Nat)  :
    (State.reportFinal s seq q wl).shape = s.shape := by
  unfold State.reportFinal
  split <;> simp
@[simp] theorem State.rowDurable_shape (s : State) (seq : Nat) (r : Nat)  :
    (State.rowDurable s seq r).shape = s.shape := by
  unfold State.rowDurable
  (repeat' split) <;> simp
@[simp] theorem State.commitRemap_shape (s : State) (nsid : Nat) (lba : Nat) (src : Nat) (dst : Nat) (row : Nat) (unit : Nat) (idx : Nat)  :
    (State.commitRemap s nsid lba src dst row unit idx).shape = s.shape := by
  unfold State.commitRemap
  simp
  (repeat' split) <;> simp
@[simp] theorem State.commitMember_shape (s : State) (seq : Nat) (q : Nat) (b : Nat)  :
    (State.commitMember s seq q b).shape = s.shape := by
  unfold State.commitMember
  split
  · simp
  · split <;> simp
@[simp] theorem State.finalDurable_shape (s : State) (seq : Nat) (q : Nat) (wl : Nat) (block : Nat)  :
    (State.finalDurable s seq q wl block).shape = s.shape := by
  unfold State.finalDurable
  simp only [State.shape_ite]
  (repeat' split) <;> simp [*]
@[simp] theorem State.recordDurable_shape (s : State) (a1 : JRec)  :
    (State.recordDurable s a1).shape = s.shape := by
  unfold State.recordDurable
  (repeat' split) <;> simp
@[simp] theorem State.logWear_shape (s : State) (t : State) (j : Nat) (ht : t.shape = s.shape) :
    (State.logWear s t j).shape = s.shape := by
  unfold State.logWear
  simp [ht]
@[simp] theorem State.answerWaiting_shape (s : State) (p : Instr → Bool) (r : Resp)  :
    (State.answerWaiting s p r).shape = s.shape := by
  unfold State.answerWaiting
  simp
@[simp] theorem State.setBlockAt_shape (s : State) (id : Nat) (index : Nat) (f : RBlock → RBlock)  :
    (State.setBlockAt s id index f).shape = s.shape := by
  unfold State.setBlockAt
  simp
@[simp] theorem State.serveAt_shape (s : State) (c : Cmd) (index : Nat) (b : RBlock)  :
    (State.serveAt s c index b).shape = s.shape := by
  unfold State.serveAt
  simp
@[simp] theorem State.unrecovered_shape (s : State) (c : Cmd) (index : Nat) (b : RBlock)  :
    (State.unrecovered s c index b).shape = s.shape := by
  unfold State.unrecovered
  simp
@[simp] theorem State.tagFailed_shape (s : State) (c : Cmd) (index : Nat) (b : RBlock)  :
    (State.tagFailed s c index b).shape = s.shape := by
  unfold State.tagFailed
  simp
@[simp] theorem State.recheckBounds_shape (s : State)  :
    (State.recheckBounds s).shape = s.shape := by
  unfold State.recheckBounds
  simp
@[simp] theorem State.memberDecoded_shape (s : State) (g : Segment) (q : Nat) (step : Nat) (nsid : Nat) (lba : Nat) (res : DecodeEnd)  :
    (State.memberDecoded s g q step nsid lba res).shape = s.shape := by
  unfold State.memberDecoded
  split <;> simp
@[simp] theorem State.loseRow_shape (s : State) (g : Segment) (w : Row) (lost : Nat → Bool) (gone : Option Nat)  :
    (State.loseRow s g w lost gone).shape = s.shape := by
  unfold State.loseRow
  simp
@[simp] theorem State.loseUnits_shape (s : State) (lost : Nat → Bool) (gone : Option Nat)  :
    (State.loseUnits s lost gone).shape = s.shape := by
  unfold State.loseUnits
  simp
@[simp] theorem State.enterGapLosses_shape (s : State) (lost : Nat → Bool) (cause : Nat) (by_ : Nat)  :
    (State.enterGapLosses s lost cause by_).shape = s.shape := by
  unfold State.enterGapLosses
  simp
@[simp] theorem State.setPort_shape (s : State) (p : Nat) (into : PortState) (code : Nat) (severity : Nat) (f : Port → Port)  :
    (State.setPort s p into code severity f).shape = s.shape := by
  unfold State.setPort
  simp
@[simp] theorem State.portReport_shape (s : State) (p : Nat)  :
    (State.portReport s p).shape = s.shape := by
  unfold State.portReport
  simp
  split <;> simp
@[simp] theorem State.failPort_shape (s : State) (p : Nat)  :
    (State.failPort s p).shape = s.shape := by
  unfold State.failPort
  simp
@[simp] theorem State.excludeAfter_shape (s : State) (p : Nat) (ces : Nat) (named : List (Nat × Nat × Nat))  :
    (State.excludeAfter s p ces named).shape = s.shape := by
  unfold State.excludeAfter
  simp
@[simp] theorem State.loseMast_shape (s : State) (m : Nat) (into : MastState)  :
    (State.loseMast s m into).shape = s.shape := by
  unfold State.loseMast
  simp
@[simp] theorem State.mastFailed_shape (s : State) (m : Nat) (item : Nat)  :
    (State.mastFailed s m item).shape = s.shape := by
  unfold State.mastFailed
  simp
@[simp] theorem State.mastFault_shape (s : State) (m : Nat) (item : Nat)  :
    (State.mastFault s m item).shape = s.shape := by
  unfold State.mastFault
  simp
  split <;> simp
@[simp] theorem State.mastUp_shape (s : State) (m : Nat)  :
    (State.mastUp s m).shape = s.shape := by
  unfold State.mastUp
  simp
@[simp] theorem State.deviceFault_shape (s : State)  :
    (State.deviceFault s).shape = s.shape := by
  unfold State.deviceFault
  repeat' (first | (with_reducible rfl) | (with_reducible assumption) | (simp only [State.shape_ite, resShape_ite, fst_shape_ite, snd_shape_ite, optShape_ite, resShape_next, resShape_fault, optShape_some, optShape_none, ite_self, List.length_map, List.length_modify, List.length_zipIdx, State.modCtrl1_shape, State.modFns_shape, State.modNrg_shape, State.modPwr_shape, State.modStart_shape]; done) | (simp only [State.shape_ite, resShape_ite, fst_shape_ite, snd_shape_ite, optShape_ite, resShape_next, resShape_fault, optShape_some, optShape_none, ite_self, List.length_map, List.length_modify, List.length_zipIdx, State.modCtrl1_shape, State.modFns_shape, State.modNrg_shape, State.modPwr_shape, State.modStart_shape, *]; done) | (split <;> (try rename_i h) <;> (first | (have e := congrArg (fun p => p.1.shape) h.symm; simp only [State.shape_ite, resShape_ite, fst_shape_ite, snd_shape_ite, optShape_ite, resShape_next, resShape_fault, optShape_some, optShape_none, ite_self, List.length_map, List.length_modify, List.length_zipIdx, State.modCtrl1_shape, State.modFns_shape, State.modNrg_shape, State.modPwr_shape, State.modStart_shape] at e; clear h) | (have e := congrArg (fun p => p.2.shape) h.symm; simp only [State.shape_ite, resShape_ite, fst_shape_ite, snd_shape_ite, optShape_ite, resShape_next, resShape_fault, optShape_some, optShape_none, ite_self, List.length_map, List.length_modify, List.length_zipIdx, State.modCtrl1_shape, State.modFns_shape, State.modNrg_shape, State.modPwr_shape, State.modStart_shape] at e; clear h) | (have e := congrArg (fun o => optShape o (State.shape s)) h.symm; simp only [State.shape_ite, resShape_ite, fst_shape_ite, snd_shape_ite, optShape_ite, resShape_next, resShape_fault, optShape_some, optShape_none, ite_self, List.length_map, List.length_modify, List.length_zipIdx, State.modCtrl1_shape, State.modFns_shape, State.modNrg_shape, State.modPwr_shape, State.modStart_shape] at e; clear h) | skip)) | (with_reducible refine each_shape _ (fun _ _ => ?_) _ _) | (with_reducible refine (each_shape _ (fun _ _ => ?_) _ _).trans ?_) | (with_reducible refine resShape_whenUnit _ _ _ ?_) | (simp only [State.shape_ite, resShape_ite, fst_shape_ite, snd_shape_ite, optShape_ite, resShape_next, resShape_fault, optShape_some, optShape_none, ite_self, List.length_map, List.length_modify, List.length_zipIdx, State.modCtrl1_shape, State.modFns_shape, State.modNrg_shape, State.modPwr_shape, State.modStart_shape]))

end Sys2Proof.Machine
end

