-- ==== Sys2Proof/Laws/ShapeHealth.lean ====
section
/-! SUPPORT. What the shared operations of buffers, health, keys, instances and jobs leave as it is: the shape of a state (Safety.Shape). -/

namespace Sys2Proof.Machine

set_option maxRecDepth 4000
set_option linter.unusedSimpArgs false
set_option linter.unusedTactic false
set_option linter.unreachableTactic false

@[simp] theorem State.latchInput_shape (s : State) (i : Nat) (raw : ℤ) (bad : Bool)  :
    (State.latchInput s i raw bad).shape = s.shape := by
  unfold State.latchInput
  simp
@[simp] theorem State.judgeInput_shape (s : State) (i : Nat)  :
    (State.judgeInput s i).shape = s.shape := by
  unfold State.judgeInput
  simp
@[simp] theorem State.throttle_shape (s : State)  :
    (State.throttle s).shape = s.shape := by
  unfold State.throttle
  repeat' (first | (with_reducible rfl) | (with_reducible assumption) | (simp only [State.shape_ite, resShape_ite, fst_shape_ite, snd_shape_ite, optShape_ite, resShape_next, resShape_fault, optShape_some, optShape_none, ite_self, List.length_map, List.length_modify, List.length_zipIdx, State.modTherm_shape, State.raise_shape]; done) | (simp only [State.shape_ite, resShape_ite, fst_shape_ite, snd_shape_ite, optShape_ite, resShape_next, resShape_fault, optShape_some, optShape_none, ite_self, List.length_map, List.length_modify, List.length_zipIdx, State.modTherm_shape, State.raise_shape, *]; done) | (split <;> (try rename_i h) <;> (first | (have e := congrArg (fun p => p.1.shape) h.symm; simp only [State.shape_ite, resShape_ite, fst_shape_ite, snd_shape_ite, optShape_ite, resShape_next, resShape_fault, optShape_some, optShape_none, ite_self, List.length_map, List.length_modify, List.length_zipIdx, State.modTherm_shape, State.raise_shape] at e; clear h) | (have e := congrArg (fun p => p.2.shape) h.symm; simp only [State.shape_ite, resShape_ite, fst_shape_ite, snd_shape_ite, optShape_ite, resShape_next, resShape_fault, optShape_some, optShape_none, ite_self, List.length_map, List.length_modify, List.length_zipIdx, State.modTherm_shape, State.raise_shape] at e; clear h) | (have e := congrArg (fun o => optShape o (State.shape s)) h.symm; simp only [State.shape_ite, resShape_ite, fst_shape_ite, snd_shape_ite, optShape_ite, resShape_next, resShape_fault, optShape_some, optShape_none, ite_self, List.length_map, List.length_modify, List.length_zipIdx, State.modTherm_shape, State.raise_shape] at e; clear h) | skip)) | (with_reducible refine each_shape _ (fun _ _ => ?_) _ _) | (with_reducible refine (each_shape _ (fun _ _ => ?_) _ _).trans ?_) | (with_reducible refine resShape_whenUnit _ _ _ ?_) | (simp only [State.shape_ite, resShape_ite, fst_shape_ite, snd_shape_ite, optShape_ite, resShape_next, resShape_fault, optShape_some, optShape_none, ite_self, List.length_map, List.length_modify, List.length_zipIdx, State.modTherm_shape, State.raise_shape]))
@[simp] theorem State.addAge_shape (s : State) (f : Nat → Nat → Nat → Nat)  :
    (State.addAge s f).shape = s.shape := by
  unfold State.addAge
  simp
@[simp] theorem State.refreshByAge_shape (s : State)  :
    (State.refreshByAge s).shape = s.shape := by
  unfold State.refreshByAge
  simp
@[simp] theorem State.chargeAll_shape (s : State) (age : Nat)  :
    (State.chargeAll s age).shape = s.shape := by
  unfold State.chargeAll
  simp
@[simp] theorem State.startLap_shape (s : State) (raised : Bool)  :
    (State.startLap s raised).shape = s.shape := by
  unfold State.startLap
  simp
@[simp] theorem State.endLap_shape (s : State)  :
    (State.endLap s).shape = s.shape := by
  unfold State.endLap
  repeat' (first | (with_reducible rfl) | (with_reducible assumption) | (simp only [State.shape_ite, resShape_ite, fst_shape_ite, snd_shape_ite, optShape_ite, resShape_next, resShape_fault, optShape_some, optShape_none, ite_self, List.length_map, List.length_modify, List.length_zipIdx, State.modMedia_shape, State.modNss_shape, State.modSeg_shape, each_shape]; done) | (simp only [State.shape_ite, resShape_ite, fst_shape_ite, snd_shape_ite, optShape_ite, resShape_next, resShape_fault, optShape_some, optShape_none, ite_self, List.length_map, List.length_modify, List.length_zipIdx, State.modMedia_shape, State.modNss_shape, State.modSeg_shape, each_shape, *]; done) | (split <;> (try rename_i h) <;> (first | (have e := congrArg (fun p => p.1.shape) h.symm; simp only [State.shape_ite, resShape_ite, fst_shape_ite, snd_shape_ite, optShape_ite, resShape_next, resShape_fault, optShape_some, optShape_none, ite_self, List.length_map, List.length_modify, List.length_zipIdx, State.modMedia_shape, State.modNss_shape, State.modSeg_shape, each_shape] at e; clear h) | (have e := congrArg (fun p => p.2.shape) h.symm; simp only [State.shape_ite, resShape_ite, fst_shape_ite, snd_shape_ite, optShape_ite, resShape_next, resShape_fault, optShape_some, optShape_none, ite_self, List.length_map, List.length_modify, List.length_zipIdx, State.modMedia_shape, State.modNss_shape, State.modSeg_shape, each_shape] at e; clear h) | (have e := congrArg (fun o => optShape o (State.shape s)) h.symm; simp only [State.shape_ite, resShape_ite, fst_shape_ite, snd_shape_ite, optShape_ite, resShape_next, resShape_fault, optShape_some, optShape_none, ite_self, List.length_map, List.length_modify, List.length_zipIdx, State.modMedia_shape, State.modNss_shape, State.modSeg_shape, each_shape] at e; clear h) | skip)) | (with_reducible refine each_shape _ (fun _ _ => ?_) _ _) | (with_reducible refine (each_shape _ (fun _ _ => ?_) _ _).trans ?_) | (with_reducible refine resShape_whenUnit _ _ _ ?_) | (simp only [State.shape_ite, resShape_ite, fst_shape_ite, snd_shape_ite, optShape_ite, resShape_next, resShape_fault, optShape_some, optShape_none, ite_self, List.length_map, List.length_modify, List.length_zipIdx, State.modMedia_shape, State.modNss_shape, State.modSeg_shape, each_shape]))
@[simp] theorem State.respread_shape (s : State)  :
    (State.respread s).shape = s.shape := by
  unfold State.respread
  simp
@[simp] theorem State.patrolStep_shape (s : State)  :
    (State.patrolStep s).shape = s.shape := by
  unfold State.patrolStep
  simp
@[simp] theorem State.sliceTree_shape (s : State) (g : Segment) (zi : Nat) (r : SliceReport)  :
    (State.sliceTree s g zi r).shape = s.shape := by
  unfold State.sliceTree
  simp
@[simp] theorem State.sliceSegment_shape (s : State) (g : Segment) (r : SliceReport)  :
    (State.sliceSegment s g r).shape = s.shape := by
  unfold State.sliceSegment
  repeat' (first | (with_reducible rfl) | (simp; done) | (simp [*]; done) | (split <;> (try rename_i h) <;> (first | (have e := congrArg (fun p => p.1.shape) h.symm; simp at e; clear h) | (have e := congrArg (fun p => p.2.shape) h.symm; simp at e; clear h) | (have e := congrArg (fun o => optShape o s.shape) h.symm; simp at e; clear h) | skip)) | (with_reducible refine (each_shape _ (fun _ _ => ?_) _ _).trans ?_) | (simp))
@[simp] theorem State.sliceSystem_shape (s : State) (glun : Nat) (r : SliceReport)  :
    (State.sliceSystem s glun r).shape = s.shape := by
  unfold State.sliceSystem
  exact foldl_shape id _ (fun b x => by simp) _ _
@[simp] theorem State.closeConv_shape (s : State) (n : Namespace)  :
    (State.closeConv s n).shape = s.shape := by
  unfold State.closeConv
  split <;> simp
@[simp] theorem State.convNext_shape (s : State) (nsid : Nat) (ref : Nat)  :
    (State.convNext s nsid ref).2.shape = s.shape := by
  unfold State.convNext
  dsimp only
  split
  · rfl
  · rename_i n hn
    split
    · rfl
    · rename_i t ht
      have ht' : t.shape = s.shape := by
        have tail : ∀ u : Option State, (u = if (n.csegsLeft == 0) = true then none else
            match (s.closeConv n).takeGen.2.allocSegment { seq := 0, gen := (s.closeConv n).takeGen.1, nsid := nsid, width := n.cwidth, archival := n.carch, home := n.chome, keyRef := ref, cls := n.cls } with
            | none => none
            | some (q, s) => some (s.modNs nsid fun n => { n with cseg := some q, cpos := 0, csegsLeft := (n.csegsLeft - 1) })) →
            u = some t → t.shape = s.shape := by
          intro u hu ht
          rw [hu] at ht
          split at ht
          · cases ht
          · split at ht
            · cases ht
            · rename_i q u hu
              simp only [Option.some.injEq] at ht
              rw [← ht]
              have e := State.allocSegment_shape _ _ _ hu
              simp only [State.modNs_shape, e, State.takeGen_shape, State.closeConv_shape]
        cases hb : n.cseg.bind s.seg? with
        | none => rw [hb] at ht; exact tail _ rfl ht
        | some g =>
          rw [hb] at ht
          dsimp only at ht
          by_cases hc : (g.keyRef == ref && decide (n.cpos < perSeg s.profile n.cwidth)) = true
          · rw [if_pos hc] at ht; cases ht; rfl
          · rw [if_neg hc] at ht; exact tail _ rfl ht
      split
      · exact ht'
      · split <;> simp [ht']
@[simp] theorem State.compactBlock_shape (s : State) (nsid : Nat) (src : Nat) (ref : Nat) (b : Stored)  :
    (State.compactBlock s nsid src ref b).shape = s.shape := by
  unfold State.compactBlock
  repeat' (first | (with_reducible rfl) | (simp; done) | (simp [*]; done) | (split <;> (try rename_i h) <;> (first | (have e := congrArg (fun p => p.1.shape) h.symm; simp at e; clear h) | (have e := congrArg (fun p => p.2.shape) h.symm; simp at e; clear h) | (have e := congrArg (fun o => optShape o s.shape) h.symm; simp at e; clear h) | skip)) | (with_reducible refine (each_shape _ (fun _ _ => ?_) _ _).trans ?_) | (simp))
@[simp] theorem State.recordTime_shape (s : State)  :
    (State.recordTime s).shape = s.shape := by
  unfold State.recordTime
  split
  · rfl
  · simp only [State.log_shape]
    rw [State.modMedia_shape _ _ rfl, State.modClk_shape _ _ rfl]
@[simp] theorem State.chargeGap_shape (s : State)  :
    (State.chargeGap s).shape = s.shape := by
  unfold State.chargeGap
  simp
@[simp] theorem State.lapNormal_shape (s : State)  :
    (State.lapNormal s).shape = s.shape := by
  unfold State.lapNormal
  simp
@[simp] theorem State.measureGap_shape (s : State) (secs : Nat) (last : Option Nat)  :
    (State.measureGap s secs last).shape = s.shape := by
  unfold State.measureGap
  repeat' (first | (with_reducible rfl) | (with_reducible assumption) | (simp only [State.shape_ite, resShape_ite, fst_shape_ite, snd_shape_ite, optShape_ite, resShape_next, resShape_fault, optShape_some, optShape_none, ite_self, List.length_map, List.length_modify, List.length_zipIdx, State.chargeAll_shape, State.lapNormal_shape, State.modClk_shape, State.raise_shape]; done) | (simp only [State.shape_ite, resShape_ite, fst_shape_ite, snd_shape_ite, optShape_ite, resShape_next, resShape_fault, optShape_some, optShape_none, ite_self, List.length_map, List.length_modify, List.length_zipIdx, State.chargeAll_shape, State.lapNormal_shape, State.modClk_shape, State.raise_shape, *]; done) | (split <;> (try rename_i h) <;> (first | (have e := congrArg (fun p => p.1.shape) h.symm; simp only [State.shape_ite, resShape_ite, fst_shape_ite, snd_shape_ite, optShape_ite, resShape_next, resShape_fault, optShape_some, optShape_none, ite_self, List.length_map, List.length_modify, List.length_zipIdx, State.chargeAll_shape, State.lapNormal_shape, State.modClk_shape, State.raise_shape] at e; clear h) | (have e := congrArg (fun p => p.2.shape) h.symm; simp only [State.shape_ite, resShape_ite, fst_shape_ite, snd_shape_ite, optShape_ite, resShape_next, resShape_fault, optShape_some, optShape_none, ite_self, List.length_map, List.length_modify, List.length_zipIdx, State.chargeAll_shape, State.lapNormal_shape, State.modClk_shape, State.raise_shape] at e; clear h) | (have e := congrArg (fun o => optShape o (State.shape s)) h.symm; simp only [State.shape_ite, resShape_ite, fst_shape_ite, snd_shape_ite, optShape_ite, resShape_next, resShape_fault, optShape_some, optShape_none, ite_self, List.length_map, List.length_modify, List.length_zipIdx, State.chargeAll_shape, State.lapNormal_shape, State.modClk_shape, State.raise_shape] at e; clear h) | skip)) | (with_reducible refine each_shape _ (fun _ _ => ?_) _ _) | (with_reducible refine (each_shape _ (fun _ _ => ?_) _ _).trans ?_) | (with_reducible refine resShape_whenUnit _ _ _ ?_) | (simp only [State.shape_ite, resShape_ite, fst_shape_ite, snd_shape_ite, optShape_ite, resShape_next, resShape_fault, optShape_some, optShape_none, ite_self, List.length_map, List.length_modify, List.length_zipIdx, State.chargeAll_shape, State.lapNormal_shape, State.modClk_shape, State.raise_shape]))
@[simp] theorem State.setClock_shape (s : State) (secs : Nat) (frac : Nat)  :
    (State.setClock s secs frac).shape = s.shape := by
  unfold State.setClock
  simp
@[simp] theorem State.answer_shape (s : State) (r : Resp)  :
    (State.answer s r).1.shape = s.shape := by
  unfold State.answer
  simp
@[simp] theorem State.sign_shape (s : State) (priv : Nat) (head : List Nat) (body : List Nat)  :
    (State.sign s priv head body).1.shape = s.shape := by
  unfold State.sign
  simp
@[simp] theorem State.signWith_shape (s : State) (kind : Nat) (key : Nat) (slot : Nat) (fn : Nat) (nonce : Digest) (body : List Nat)  :
    (State.signWith s kind key slot fn nonce body).1.shape = s.shape := by
  unfold State.signWith
  split <;> simp
@[simp] theorem State.startJob_shape (s : State) (j : FixJob)  :
    (State.startJob s j).1.shape = s.shape := by
  unfold State.startJob
  simp
@[simp] theorem State.zoneJob_shape (s : State) (v : Via) (nsid zi : Nat) (k : Namespace → Zone → Eff)
    (h : ∀ n z, (k n z).1.shape = s.shape) : (State.zoneJob s v nsid zi k).1.shape = s.shape := by
  unfold State.zoneJob
  dsimp only
  repeat' (first | rfl | exact h _ _ | split)
@[simp] theorem effTreeCheck_shape (v : Via) (nsid : Nat) (zi : Nat) (own : Bool) (s : State)  :
    (effTreeCheck v nsid zi own s).1.shape = s.shape := by
  unfold effTreeCheck
  simp
@[simp] theorem effZoneAttestation_shape (v : Via) (nsid : Nat) (zi : Nat) (key : Nat) (slot : Nat) (verify : Bool) (own : Bool) (nonce : Digest) (s : State)  :
    (effZoneAttestation v nsid zi key slot verify own nonce s).1.shape = s.shape := by
  unfold effZoneAttestation
  simp
@[simp] theorem State.rangeJob_shape (s : State) (v : Via) (nsid : Nat) (ex : List DigestExtent) (k : Namespace → Eff)
    (h : ∀ n, (k n).1.shape = s.shape) : (State.rangeJob s v nsid ex k).1.shape = s.shape := by
  unfold State.rangeJob
  dsimp only
  repeat' (first | rfl | exact h _ | split)
@[simp] theorem effRangeDigest_shape (v : Via) (nsid : Nat) (alg : Nat) (ex : List DigestExtent) (own : Bool) (s : State)  :
    (effRangeDigest v nsid alg ex own s).1.shape = s.shape := by
  unfold effRangeDigest
  simp
@[simp] theorem effRangeAttestation_shape (v : Via) (nsid : Nat) (alg : Nat) (ex : List DigestExtent) (key : Nat) (slot : Nat) (own : Bool) (nonce : Digest) (s : State)  :
    (effRangeAttestation v nsid alg ex key slot own nonce s).1.shape = s.shape := by
  unfold effRangeAttestation
  simp
@[simp] theorem effKeyBinding_shape (v : Via) (slot : Nat) (nonce : Digest) (s : State)  :
    (effKeyBinding v slot nonce s).1.shape = s.shape := by
  unfold effKeyBinding
  simp
@[simp] theorem State.closeJob_shape (s : State) (job : Nat) (f : FixJob → FixJob)  :
    (State.closeJob s job f).shape = s.shape := by
  unfold State.closeJob
  split <;> simp
@[simp] theorem State.abortJobs_shape (s : State) (p : FixJob → Bool) (status : Nat)  :
    (State.abortJobs s p status).shape = s.shape := by
  unfold State.abortJobs
  simp
@[simp] theorem State.treeResult_shape (s : State) (nsid : Nat) (zi : Nat) (mismatched : List Nat) (lost : List Nat) (nodesOk : Bool)  :
    (State.treeResult s nsid zi mismatched lost nodesOk).shape = s.shape := by
  unfold State.treeResult
  simp
@[simp] theorem State.signJob_shape (s : State) (j : FixJob) (kind : Nat) (body : List Nat) (f : FixJob → FixJob)  :
    (State.signJob s j kind body f).shape = s.shape := by
  unfold State.signJob
  simp
  split <;> simp
@[simp] theorem State.signZone_shape (s : State) (j : FixJob) (f : FixJob → FixJob)  :
    (State.signZone s j f).shape = s.shape := by
  unfold State.signZone
  simp
@[simp] theorem State.endRange_shape (s : State) (j : FixJob) (lost : List Nat) (tagBad : List Nat) (changed : Bool)  :
    (State.endRange s j lost tagBad changed).shape = s.shape := by
  unfold State.endRange
  (repeat' split) <;> simp
@[simp] theorem effGetFixityResult_shape (v : Via) (job : Nat) (s : State)  :
    (effGetFixityResult v job s).1.shape = s.shape := by
  unfold effGetFixityResult
  split <;> simp
@[simp] theorem effGetIdentityCertificate_shape (s : State)  :
    (effGetIdentityCertificate s).1.shape = s.shape := by
  unfold effGetIdentityCertificate
  simp
@[simp] theorem effCreateOwnerAttestationKey_shape (v : Via) (slot : Nat) (s : State)  :
    (effCreateOwnerAttestationKey v slot s).1.shape = s.shape := by
  unfold effCreateOwnerAttestationKey
  simp
@[simp] theorem effDeleteOwnerAttestationKey_shape (slot : Nat) (s : State)  :
    (effDeleteOwnerAttestationKey slot s).1.shape = s.shape := by
  unfold effDeleteOwnerAttestationKey
  simp
@[simp] theorem State.syncSlots_shape (s : State)  :
    (State.syncSlots s).shape = s.shape := by
  unfold State.syncSlots
  simp
@[simp] theorem State.limitSlots_shape (s : State)  :
    (State.limitSlots s).shape = s.shape := by
  unfold State.limitSlots
  simp
@[simp] theorem State.endDrain_shape (s : State) (n : Nat)  :
    (State.endDrain s n).shape = s.shape := by
  unfold State.endDrain
  simp
@[simp] theorem State.loseVolatile_shape (s : State)  :
    (State.loseVolatile s).shape = s.shape := by
  unfold State.loseVolatile
  repeat' (first | (with_reducible rfl) | (with_reducible assumption) | (simp only [State.shape_ite, resShape_ite, fst_shape_ite, snd_shape_ite, optShape_ite, resShape_next, resShape_fault, optShape_some, optShape_none, ite_self, List.length_map, List.length_modify, List.length_zipIdx, State.endDrain_shape, State.modFns_shape, State.modKeys_shape, State.syncSlots_shape, each_shape]; done) | (simp only [State.shape_ite, resShape_ite, fst_shape_ite, snd_shape_ite, optShape_ite, resShape_next, resShape_fault, optShape_some, optShape_none, ite_self, List.length_map, List.length_modify, List.length_zipIdx, State.endDrain_shape, State.modFns_shape, State.modKeys_shape, State.syncSlots_shape, each_shape, *]; done) | (split <;> (try rename_i h) <;> (first | (have e := congrArg (fun p => p.1.shape) h.symm; simp only [State.shape_ite, resShape_ite, fst_shape_ite, snd_shape_ite, optShape_ite, resShape_next, resShape_fault, optShape_some, optShape_none, ite_self, List.length_map, List.length_modify, List.length_zipIdx, State.endDrain_shape, State.modFns_shape, State.modKeys_shape, State.syncSlots_shape, each_shape] at e; clear h) | (have e := congrArg (fun p => p.2.shape) h.symm; simp only [State.shape_ite, resShape_ite, fst_shape_ite, snd_shape_ite, optShape_ite, resShape_next, resShape_fault, optShape_some, optShape_none, ite_self, List.length_map, List.length_modify, List.length_zipIdx, State.endDrain_shape, State.modFns_shape, State.modKeys_shape, State.syncSlots_shape, each_shape] at e; clear h) | (have e := congrArg (fun o => optShape o (State.shape s)) h.symm; simp only [State.shape_ite, resShape_ite, fst_shape_ite, snd_shape_ite, optShape_ite, resShape_next, resShape_fault, optShape_some, optShape_none, ite_self, List.length_map, List.length_modify, List.length_zipIdx, State.endDrain_shape, State.modFns_shape, State.modKeys_shape, State.syncSlots_shape, each_shape] at e; clear h) | skip)) | (with_reducible refine each_shape _ (fun _ _ => ?_) _ _) | (with_reducible refine (each_shape _ (fun _ _ => ?_) _ _).trans ?_) | (with_reducible refine resShape_whenUnit _ _ _ ?_) | (simp only [State.shape_ite, resShape_ite, fst_shape_ite, snd_shape_ite, optShape_ite, resShape_next, resShape_fault, optShape_some, optShape_none, ite_self, List.length_map, List.length_modify, List.length_zipIdx, State.endDrain_shape, State.modFns_shape, State.modKeys_shape, State.syncSlots_shape, each_shape]))
@[simp] theorem State.raiseSlots_shape (s : State) (fn : Nat) (count : Nat)  :
    (State.raiseSlots s fn count).shape = s.shape := by
  unfold State.raiseSlots
  simp
@[simp] theorem State.releaseSlots_shape (s : State) (l : List Nat)  :
    (State.releaseSlots s l).shape = s.shape := by
  unfold State.releaseSlots
  simp
@[simp] theorem State.logImage_shape (s : State) (n : Nat) (value : Nat)  :
    (State.logImage s n value).shape = s.shape := by
  unfold State.logImage
  simp
@[simp] theorem effGetTransportKey_shape (s : State)  :
    (effGetTransportKey s).1.shape = s.shape := by
  unfold effGetTransportKey
  simp
@[simp] theorem effEstablishKek_shape (v : Via) (index : Nat) (persistent : Bool) (point : PubKey) (s : State)  :
    (effEstablishKek v index persistent point s).1.shape = s.shape := by
  unfold effEstablishKek
  simp
@[simp] theorem State.addEntry_shape (s : State) (e : KeyEntry)  :
    (State.addEntry s e).shape = s.shape := by
  unfold State.addEntry
  simp
@[simp] theorem State.raiseFloor_shape (s : State) (ref : Nat) (floor : Nat)  :
    (State.raiseFloor s ref floor).shape = s.shape := by
  unfold State.raiseFloor
  simp
@[simp] theorem State.putKey_shape (s : State) (slot : Nat) (key : BitVec 256) (ref : Nat) (persistent : Bool)  :
    (State.putKey s slot key ref persistent).shape = s.shape := by
  unfold State.putKey
  simp
  split <;> simp
@[simp] theorem State.takeLoad_shape (s : State) (slot : Nat) (persistent floorGiven : Bool) (floor : Nat) (key : BitVec 256) (ref : Nat) :
    (State.takeLoad s slot persistent floorGiven floor key ref).1.shape = s.shape := by
  unfold State.takeLoad
  simp
@[simp] theorem State.loadKeyAs_shape (s : State) (slot : Nat) (persistent saltGiven floorGiven : Bool) (salt : BitVec 32) (floor : Nat) (key : BitVec 256) (fp : Digest) :
    (State.loadKeyAs s slot persistent saltGiven floorGiven salt floor key fp).1.shape = s.shape := by
  unfold State.loadKeyAs
  split
  · split <;> simp
  · split
    · simp
    · simp
@[simp] theorem effLoadKey_shape (v : Via) (slot : Nat) (kek : Nat) (persistent : Bool) (saltGiven : Bool) (floorGiven : Bool) (salt : BitVec 32) (floor : Nat) (wrapped : BitVec 320) (s : State)  :
    (effLoadKey v slot kek persistent saltGiven floorGiven salt floor wrapped s).1.shape = s.shape := by
  unfold effLoadKey
  split
  · rfl
  split
  · rfl
  split
  · rfl
  rename_i k _
  generalize kwUnwrap (bytesLE 32 k.key.toNat) (bytesLE 40 wrapped.toNat) = u
  cases u with
  | none => rfl
  | some raw => exact State.loadKeyAs_shape _ _ _ _ _ _ _ _ _
@[simp] theorem State.eraseSlot_shape (s : State) (slot : Nat)  :
    (State.eraseSlot s slot).shape = s.shape := by
  unfold State.eraseSlot
  split <;> simp
@[simp] theorem effEraseKey_shape (v : Via) (slot : Nat) (s : State)  :
    (effEraseKey v slot s).1.shape = s.shape := by
  unfold effEraseKey
  simp
@[simp] theorem effBindNamespaceKey_shape (v : Via) (nsid : Nat) (slot : Nat) (s : State)  :
    (effBindNamespaceKey v nsid slot s).1.shape = s.shape := by
  unfold effBindNamespaceKey
  split <;> simp
@[simp] theorem effGetSlot_shape (v : Via) (slot : Nat) (s : State)  :
    (effGetSlot v slot s).1.shape = s.shape := by
  unfold effGetSlot
  simp
  split <;> simp
@[simp] theorem effExportKey_shape (v : Via) (slot : Nat) (dest : Digest) (s : State)  :
    (effExportKey v slot dest s).1.shape = s.shape := by
  unfold effExportKey
  simp
@[simp] theorem effGetKeyRegister_shape (first : Nat) (count : Nat) (s : State)  :
    (effGetKeyRegister first count s).1.shape = s.shape := by
  unfold effGetKeyRegister
  simp
@[simp] theorem State.giveUpUnit_shape (s : State) (mast : Nat) (g : Segment) (r : Nat) (u : Nat)  :
    (State.giveUpUnit s mast g r u).shape = s.shape := by
  unfold State.giveUpUnit
  simp
@[simp] theorem State.sealFault_shape (s : State) (mast : Nat) (n : Nat)  :
    (State.sealFault s mast n).shape = s.shape := by
  unfold State.sealFault
  split <;> simp
@[simp] theorem State.openFault_shape (s : State) (mast : Nat) (id : Nat) (i : Nat)  :
    (State.openFault s mast id i).shape = s.shape := by
  unfold State.openFault
  split <;> simp
@[simp] theorem State.parkOldest_shape (s : State)  :
    (State.parkOldest s).shape = s.shape := by
  unfold State.parkOldest
  split <;> simp
@[simp] theorem State.bufferThresholds_shape (s : State)  :
    (State.bufferThresholds s).shape = s.shape := by
  unfold State.bufferThresholds
  simp
@[simp] theorem State.putBuf_shape (s : State) (b : Buf)  :
    (State.putBuf s b).shape = s.shape := by
  unfold State.putBuf
  simp
@[simp] theorem State.rejectBuf_shape (s : State) (b : Buf) (engine : Nat)  :
    (State.rejectBuf s b engine).shape = s.shape := by
  unfold State.rejectBuf
  simp
@[simp] theorem State.holdBuf_shape (s : State) (n : Nat) (c : BufClass) (fn : Nat) (engine : Nat) (item : Nat)  :
    (State.holdBuf s n c fn engine item).shape = s.shape := by
  unfold State.holdBuf
  simp
@[simp] theorem State.grantWaiting_shape (s : State) (buffer : Nat)  :
    (State.grantWaiting s buffer).shape = s.shape := by
  unfold State.grantWaiting
  split <;> simp
@[simp] theorem State.putAlloc_shape (s : State) (fn : Nat) (res : Nat) (v : Nat)  :
    (State.putAlloc s fn res v).shape = s.shape := by
  unfold State.putAlloc
  simp
@[simp] theorem effSetAllocation_shape (fn : Nat) (res : Nat) (value : Nat) (s : State)  :
    (effSetAllocation fn res value s).1.shape = s.shape := by
  unfold effSetAllocation
  simp
  (repeat' split) <;> simp
@[simp] theorem State.defaultAlloc_shape (s : State) (fn : Nat)  :
    (State.defaultAlloc s fn).shape = s.shape := by
  unfold State.defaultAlloc
  simp
@[simp] theorem effGetInstance_shape (fn : Nat) (s : State)  :
    (effGetInstance fn s).1.shape = s.shape := by
  unfold effGetInstance
  simp
@[simp] theorem effSetContract_shape (fn : Nat) (cls : Nat) (constantTime : Bool) (reserved : Nat) (burst : Nat) (t : Nat) (ceiling : Nat) (s : State)  :
    (effSetContract fn cls constantTime reserved burst t ceiling s).1.shape = s.shape := by
  unfold effSetContract
  simp
  split <;> simp
@[simp] theorem effGetContract_shape (fn : Nat) (s : State)  :
    (effGetContract fn s).1.shape = s.shape := by
  unfold effGetContract
  simp
@[simp] theorem effSetExpertEnable_shape (fn : Nat) (enable : Bool) (s : State)  :
    (effSetExpertEnable fn enable s).1.shape = s.shape := by
  unfold effSetExpertEnable
  simp
@[simp] theorem State.resetBoxes_shape (s : State) (p : Via → Bool) (status : Nat)  :
    (State.resetBoxes s p status).shape = s.shape := by
  unfold State.resetBoxes
  simp
@[simp] theorem State.resetRings_shape (s : State) (fn : Nat) (port1 : Bool)  :
    (State.resetRings s fn port1).shape = s.shape := by
  unfold State.resetRings
  simp
@[simp] theorem State.squashCmd_shape (s : State) (c : Cmd)  :
    (State.squashCmd s c).shape = s.shape := by
  unfold State.squashCmd
  simp
@[simp] theorem State.closeOpened_shape (s : State) (fn : Nat)  :
    (State.closeOpened s fn).shape = s.shape := by
  unfold State.closeOpened
  simp
@[simp] theorem State.squash_shape (s : State) (fn : Nat) (port1 : Bool) (status : Nat)  :
    (State.squash s fn port1 status).shape = s.shape := by
  unfold State.squash
  simp
@[simp] theorem State.drain_shape (s : State) (fn : Nat)  :
    (State.drain s fn).shape = s.shape := by
  unfold State.drain
  simp
@[simp] theorem State.releaseDrained_shape (s : State) (fn : Nat)  :
    (State.releaseDrained s fn).shape = s.shape := by
  unfold State.releaseDrained
  simp
@[simp] theorem State.instanceInitial_shape (s : State) (fn : Nat)  :
    (State.instanceInitial s fn).shape = s.shape := by
  unfold State.instanceInitial
  simp
@[simp] theorem State.beginReset_shape (s : State) (fn : Nat) (cause : ResetCause)  :
    (State.beginReset s fn cause).shape = s.shape := by
  unfold State.beginReset
  simp
  split <;> simp
@[simp] theorem State.queueReset_shape (s : State) (fn : Nat) (cause : ResetCause)  :
    (State.queueReset s fn cause).shape = s.shape := by
  unfold State.queueReset
  simp
@[simp] theorem State.startResets_shape (s : State)  :
    (State.startResets s).shape = s.shape := by
  unfold State.startResets
  repeat' (first | (with_reducible rfl) | (with_reducible assumption) | (simp only [State.shape_ite, resShape_ite, fst_shape_ite, snd_shape_ite, optShape_ite, resShape_next, resShape_fault, optShape_some, optShape_none, ite_self, List.length_map, List.length_modify, List.length_zipIdx, State.beginReset_shape, State.modCtrl_shape, State.modCtrl1_shape, State.modFn_shape, State.modIo_shape, State.squash_shape, each_shape]; done) | (simp only [State.shape_ite, resShape_ite, fst_shape_ite, snd_shape_ite, optShape_ite, resShape_next, resShape_fault, optShape_some, optShape_none, ite_self, List.length_map, List.length_modify, List.length_zipIdx, State.beginReset_shape, State.modCtrl_shape, State.modCtrl1_shape, State.modFn_shape, State.modIo_shape, State.squash_shape, each_shape, *]; done) | (split <;> (try rename_i h) <;> (first | (have e := congrArg (fun p => p.1.shape) h.symm; simp only [State.shape_ite, resShape_ite, fst_shape_ite, snd_shape_ite, optShape_ite, resShape_next, resShape_fault, optShape_some, optShape_none, ite_self, List.length_map, List.length_modify, List.length_zipIdx, State.beginReset_shape, State.modCtrl_shape, State.modCtrl1_shape, State.modFn_shape, State.modIo_shape, State.squash_shape, each_shape] at e; clear h) | (have e := congrArg (fun p => p.2.shape) h.symm; simp only [State.shape_ite, resShape_ite, fst_shape_ite, snd_shape_ite, optShape_ite, resShape_next, resShape_fault, optShape_some, optShape_none, ite_self, List.length_map, List.length_modify, List.length_zipIdx, State.beginReset_shape, State.modCtrl_shape, State.modCtrl1_shape, State.modFn_shape, State.modIo_shape, State.squash_shape, each_shape] at e; clear h) | (have e := congrArg (fun o => optShape o (State.shape s)) h.symm; simp only [State.shape_ite, resShape_ite, fst_shape_ite, snd_shape_ite, optShape_ite, resShape_next, resShape_fault, optShape_some, optShape_none, ite_self, List.length_map, List.length_modify, List.length_zipIdx, State.beginReset_shape, State.modCtrl_shape, State.modCtrl1_shape, State.modFn_shape, State.modIo_shape, State.squash_shape, each_shape] at e; clear h) | skip)) | (with_reducible refine each_shape _ (fun _ _ => ?_) _ _) | (with_reducible refine (each_shape _ (fun _ _ => ?_) _ _).trans ?_) | (with_reducible refine resShape_whenUnit _ _ _ ?_) | (simp only [State.shape_ite, resShape_ite, fst_shape_ite, snd_shape_ite, optShape_ite, resShape_next, resShape_fault, optShape_some, optShape_none, ite_self, List.length_map, List.length_modify, List.length_zipIdx, State.beginReset_shape, State.modCtrl_shape, State.modCtrl1_shape, State.modFn_shape, State.modIo_shape, State.squash_shape, each_shape]))
@[simp] theorem State.leaveResetting_shape (s : State) (fn : Nat)  :
    (State.leaveResetting s fn).shape = s.shape := by
  unfold State.leaveResetting
  simp
@[simp] theorem State.leaveRetired_shape (s : State)  :
    (State.leaveRetired s).shape = s.shape := by
  unfold State.leaveRetired
  simp
@[simp] theorem State.clearVfEnable_shape (s : State)  :
    (State.clearVfEnable s).shape = s.shape := by
  unfold State.clearVfEnable
  simp
@[simp] theorem State.goOnline_shape (s : State) (fn : Nat)  :
    (State.goOnline s fn).shape = s.shape := by
  unfold State.goOnline
  simp
@[simp] theorem effInstanceOnline_shape (fn : Nat) (s : State)  :
    (effInstanceOnline fn s).1.shape = s.shape := by
  unfold effInstanceOnline
  simp
@[simp] theorem effReset_shape (fn : Nat) (cause : ResetCause) (s : State)  :
    (effReset fn cause s).1.shape = s.shape := by
  unfold effReset
  split <;> simp
@[simp] theorem effResetInstance_shape (fn : Nat) (s : State)  :
    (effResetInstance fn s).1.shape = s.shape := by
  unfold effResetInstance
  simp
@[simp] theorem effInstanceOffline_shape (fn : Nat) (s : State)  :
    (effInstanceOffline fn s).1.shape = s.shape := by
  unfold effInstanceOffline
  simp
@[simp] theorem State.ensureSegments_shape (s : State) (n : Namespace) (zi : Nat) (count : Nat)  :
    optShape (State.ensureSegments s n zi count) s.shape = s.shape := by
  unfold State.ensureSegments
  dsimp only
  generalize (if (count == 0) = true then _ else _) = need
  suffices H : ∀ (l : List Nat) (acc : Option State), optShape acc s.shape = s.shape →
      optShape (l.foldl (fun acc i => acc.bind fun s => (s.allocSegment (zoneProto n (n.zone zi) i)).map fun (q, s) =>
        s.modZone n.nsid zi fun z => { z with segs := z.segs ++ [q] }) acc) s.shape = s.shape from H need (some s) rfl
  intro l
  induction l with
  | nil => intro acc h; exact h
  | cons i l ih =>
    intro acc h
    rw [List.foldl_cons]
    apply ih
    cases acc with
    | none => rfl
    | some t =>
      rw [Option.bind_some]
      cases hh : t.allocSegment (zoneProto n (n.zone zi) i) with
      | none => rfl
      | some p => simpa [State.allocSegment_shape _ _ _ hh] using h
@[simp] theorem State.placeAt_shape (s : State) (nsid : Nat) (zi : Nat) (o : Nat) (b : Stored)  :
    (State.placeAt s nsid zi o b).shape = s.shape := by
  unfold State.placeAt
  simp
  split <;> simp
@[simp] theorem State.assignZone_shape (s : State) (nsid : Nat) (zi : Nat) (count : Nat) (mk : Nat → Stored)  :
    optShape (State.assignZone s nsid zi count mk) s.shape = s.shape := by
  unfold State.assignZone
  split
  · rfl
  · rename_i n hn
    have e := State.ensureSegments_shape s n zi count
    cases h : s.ensureSegments n zi count with
    | none => rfl
    | some t =>
      rw [h] at e
      simp only [optShape_some] at e
      simp only [Option.map_some, optShape_some]
      split
      · simp [e]
      · split <;> simp [e]
@[simp] theorem State.unmapConv_shape (s : State) (nsid : Nat) (lba : Nat)  :
    (State.unmapConv s nsid lba).shape = s.shape := by
  unfold State.unmapConv
  dsimp only
  split <;> simp
@[simp] theorem State.assignConv_shape (s : State) (nsid : Nat) (lba : Nat) (ref : Nat) (b : Stored)  :
    optShape (State.assignConv s nsid lba ref b) s.shape = s.shape := by
  unfold State.assignConv
  have e := State.convNext_shape s nsid ref
  split
  · rfl
  · rename_i q row unit idx t h
    rw [h] at e
    cases t.seg? q with
    | none => rfl
    | some g => simp [e]
@[simp] theorem State.wakePort_shape (s : State) (port : Nat)  :
    (State.wakePort s port).shape = s.shape := by
  unfold State.wakePort
  simp
@[simp] theorem State.probeOn_shape (s : State) (port : Nat) (target : Digest) (origin : Digest) (number : Nat) (latency : Nat) (hops : Nat) (wake : Bool)  :
    (State.probeOn s port target origin number latency hops wake).shape = s.shape := by
  unfold State.probeOn
  simp
@[simp] theorem State.sendProbe_shape (s : State) (target : Digest) (wake : Bool)  :
    (State.sendProbe s target wake).shape = s.shape := by
  unfold State.sendProbe
  simp
@[simp] theorem State.reach_shape (s : State) (fp : Digest)  :
    (State.reach s fp).shape = s.shape := by
  unfold State.reach
  simp
  split <;> simp
@[simp] theorem State.dropHReqs_shape (s : State) (p : HReq → Bool)  :
    (State.dropHReqs s p).shape = s.shape := by
  unfold State.dropHReqs
  simp
@[simp] theorem State.setJob_shape (s : State) (id : Nat) (st : JobState) (cause : Nat)  :
    (State.setJob s id st cause).shape = s.shape := by
  unfold State.setJob
  simp
@[simp] theorem State.releaseLanding_shape (s : State) (nsid : Nat)  :
    (State.releaseLanding s nsid).shape = s.shape := by
  unfold State.releaseLanding
  simp
@[simp] theorem State.returnZone_shape (s : State) (nsid : Nat) (zi : Nat)  :
    (State.returnZone s nsid zi).shape = s.shape := by
  unfold State.returnZone
  simp
@[simp] theorem State.closePeerJob_shape (s : State) (j : Job)  :
    (State.closePeerJob s j).shape = s.shape := by
  unfold State.closePeerJob
  simp
@[simp] theorem State.stopJob_shape (s : State) (id : Nat) (cause : Nat) (tell : Bool)  :
    (State.stopJob s id cause tell).shape = s.shape := by
  unfold State.stopJob
  split <;> simp
@[simp] theorem State.completeJob_shape (s : State) (id : Nat)  :
    (State.completeJob s id).shape = s.shape := by
  unfold State.completeJob
  split <;> simp
@[simp] theorem State.suspendJob_shape (s : State) (id : Nat) (cause : Nat)  :
    (State.suspendJob s id cause).shape = s.shape := by
  unfold State.suspendJob
  split <;> simp
@[simp] theorem State.loseStream_shape (s : State) (id : Nat) (path : Nat × Nat)  :
    (State.loseStream s id path).shape = s.shape := by
  unfold State.loseStream
  split <;> simp
@[simp] theorem State.sendOffer_shape (s : State) (j : Job)  :
    (State.sendOffer s j).shape = s.shape := by
  unfold State.sendOffer
  split <;> simp
@[simp] theorem State.sendMirrorOffer_shape (s : State) (m : Mirror)  :
    (State.sendMirrorOffer s m).shape = s.shape := by
  unfold State.sendMirrorOffer
  split <;> simp
@[simp] theorem State.partnerUp_shape (s : State) (fp : Digest)  :
    (State.partnerUp s fp).shape = s.shape := by
  unfold State.partnerUp
  simp
@[simp] theorem State.ackMirrored_shape (s : State) (m : Mirror)  :
    (State.ackMirrored s m).shape = s.shape := by
  unfold State.ackMirrored
  simp
@[simp] theorem State.breakMirror_shape (s : State) (id : Nat)  :
    (State.breakMirror s id).shape = s.shape := by
  unfold State.breakMirror
  split <;> simp
@[simp] theorem State.breakMirrors_shape (s : State) (fp : Digest)  :
    (State.breakMirrors s fp).shape = s.shape := by
  unfold State.breakMirrors
  simp
@[simp] theorem State.endMirrorSource_shape (s : State) (m : Mirror)  :
    (State.endMirrorSource s m).shape = s.shape := by
  unfold State.endMirrorSource
  simp
@[simp] theorem State.releaseMirrorZones_shape (s : State) (m : Mirror)  :
    (State.releaseMirrorZones s m).shape = s.shape := by
  unfold State.releaseMirrorZones
  repeat' (first | (with_reducible rfl) | (simp; done) | (simp [*]; done) | (split <;> (try rename_i h) <;> (first | (have e := congrArg (fun p => p.1.shape) h.symm; simp at e; clear h) | (have e := congrArg (fun p => p.2.shape) h.symm; simp at e; clear h) | (have e := congrArg (fun o => optShape o s.shape) h.symm; simp at e; clear h) | skip)) | (with_reducible refine (each_shape _ (fun _ _ => ?_) _ _).trans ?_) | (simp))
@[simp] theorem State.wakeAsleep_shape (s : State) (fp : Digest)  :
    (State.wakeAsleep s fp).shape = s.shape := by
  unfold State.wakeAsleep
  split <;> simp
@[simp] theorem State.pathLost_shape (s : State) (fp : Digest) (path : Nat × Nat)  :
    (State.pathLost s fp path).shape = s.shape := by
  unfold State.pathLost
  simp

end Sys2Proof.Machine
end

