-- ==== Sys2Proof/Laws/ShapePeer.lean ====
section
/-! SUPPORT. What the shared operations of the Halyard links, migration and mirrors leave as it is: the shape of a state (Safety.Shape). -/

namespace Sys2Proof.Machine

set_option maxRecDepth 4000
set_option linter.unusedSimpArgs false
set_option linter.unusedTactic false
set_option linter.unreachableTactic false

@[simp] theorem State.setPartner_shape (s : State) (fp : Digest) (st : LinkState)  :
    (State.setPartner s fp st).shape = s.shape := by
  unfold State.setPartner
  simp
@[simp] theorem State.ensurePartner_shape (s : State) (fp : Digest)  :
    optShape (State.ensurePartner s fp) s.shape = s.shape := by
  unfold State.ensurePartner
  dsimp only
  split
  · rfl
  · split
    · simp
    · cases minBy Partner.downSince _ with
      | none => rfl
      | some p =>
        simp only [Option.map_some, optShape_some]
        rw [State.modHal_shape _ _ rfl, State.modHal_shape _ _ rfl]
@[simp] theorem State.setLink_shape (s : State) (port : Nat) (st : LinkState)  :
    (State.setLink s port st).shape = s.shape := by
  unfold State.setLink
  simp
  split <;> simp
@[simp] theorem State.dropLabel_shape (s : State) (l : Label)  :
    (State.dropLabel s l).shape = s.shape := by
  unfold State.dropLabel
  split <;> simp
@[simp] theorem State.linkEnds_shape (s : State) (port : Nat) (reason : Nat)  :
    (State.linkEnds s port reason).shape = s.shape := by
  unfold State.linkEnds
  repeat' (first | (with_reducible rfl) | (simp; done) | (simp [*]; done) | (split <;> (try rename_i h) <;> (first | (have e := congrArg (fun p => p.1.shape) h.symm; simp at e; clear h) | (have e := congrArg (fun p => p.2.shape) h.symm; simp at e; clear h) | (have e := congrArg (fun o => optShape o s.shape) h.symm; simp at e; clear h) | skip)) | (with_reducible refine (each_shape _ (fun _ _ => ?_) _ _).trans ?_) | (simp))
@[simp] theorem State.goDown_shape (s : State) (port : Nat) (reason : Nat)  :
    (State.goDown s port reason).shape = s.shape := by
  unfold State.goDown
  simp
@[simp] theorem State.spuriousWake_shape (s : State) (port : Nat)  :
    (State.spuriousWake s port).shape = s.shape := by
  unfold State.spuriousWake
  simp
@[simp] theorem State.wakeRefused_shape (s : State) (port : Nat)  :
    (State.wakeRefused s port).shape = s.shape := by
  unfold State.wakeRefused
  simp
@[simp] theorem State.refuse_shape (s : State) (port : Nat) (label : Nat) (reason : Nat) (tag : Nat)  :
    (State.refuse s port label reason tag).shape = s.shape := by
  unfold State.refuse
  simp
@[simp] theorem State.quarantine_shape (s : State) (fp : Digest) (cause : Nat) (port : Nat)  :
    (State.quarantine s fp cause port).shape = s.shape := by
  unfold State.quarantine
  simp
@[simp] theorem State.violation_shape (s : State) (port : Nat)  :
    (State.violation s port).shape = s.shape := by
  unfold State.violation
  split <;> simp
@[simp] theorem State.endQuarantine_shape (s : State) (fp : Digest)  :
    (State.endQuarantine s fp).shape = s.shape := by
  unfold State.endQuarantine
  simp
@[simp] theorem State.train_shape (s : State) (port : Nat)  :
    (State.train s port).shape = s.shape := by
  unfold State.train
  simp
@[simp] theorem State.resend_shape (s : State) (port : Nat)  :
    (State.resend s port).shape = s.shape := by
  unfold State.resend
  simp
@[simp] theorem State.timeout_shape (s : State) (port : Nat) (st : LinkState) (n : Nat)  :
    (State.timeout s port st n).shape = s.shape := by
  unfold State.timeout
  simp
@[simp] theorem State.retrain_shape (s : State) (port : Nat)  :
    (State.retrain s port).shape = s.shape := by
  unfold State.retrain
  simp
@[simp] theorem State.rx_shape (s : State) (port : Nat) (seq : Nat) (ptype : Nat) (packets : Nat) (k : State → State) (h_k : ∀ x0, (k x0).shape = x0.shape) :
    (State.rx s port seq ptype packets k).shape = s.shape := by
  unfold State.rx
  simp [h_k]
@[simp] theorem received_shape (port : Nat) (seq : Nat) (ptype : Nat) (s : State) (k : State → State) (packets : Nat) (h_k : ∀ x0, (k x0).shape = x0.shape) :
    resShape (received port seq ptype s k packets) s.shape = s.shape := by
  unfold received
  simp [h_k]
@[simp] theorem State.modAuth_shape (s : State) (port : Nat) (path : Option Nat) (f : Auth → Auth)  :
    (State.modAuth s port path f).shape = s.shape := by
  unfold State.modAuth
  (repeat' split) <;> simp
@[simp] theorem State.sendAuth_shape (s : State) (port : Nat) (path : Option Nat) (ptype : Nat) (args : List Nat)  :
    (State.sendAuth s port path ptype args).shape = s.shape := by
  unfold State.sendAuth
  split <;> simp
@[simp] theorem State.sendShare_shape (s : State) (port : Nat) (path : Option Nat) (ptype : Nat) (last : Nat × Nat)  :
    (State.sendShare s port path ptype last).shape = s.shape := by
  unfold State.sendShare
  simp
@[simp] theorem State.sendSignature_shape (s : State) (port : Nat) (path : Option Nat) (ptype : Nat)  :
    (State.sendSignature s port path ptype).shape = s.shape := by
  have k : ∀ (a : State) (f : Auth → Auth) (l : List Nat), ((a.modAuth port path f).sendAuth port path ptype l).shape = a.shape := by
    intro a f l; rw [State.sendAuth_shape, State.modAuth_shape]
  unfold State.sendSignature
  dsimp only
  split
  · rfl
  · split
    · rfl
    · exact (k _ _ _).trans (State.modKeys_shape _ _)
@[simp] theorem State.quarantineAt_shape (s : State) (port : Nat) (path : Option Nat) (cause : Nat)  :
    (State.quarantineAt s port path cause).shape = s.shape := by
  unfold State.quarantineAt
  split <;> simp
@[simp] theorem State.sendDone_shape (s : State) (port : Nat) (path : Option Nat) (ptype : Nat)  :
    (State.sendDone s port path ptype).shape = s.shape := by
  unfold State.sendDone
  split <;> simp
@[simp] theorem State.sendEcho_shape (s : State) (port : Nat)  :
    (State.sendEcho s port).shape = s.shape := by
  unfold State.sendEcho
  simp
@[simp] theorem State.admitPartner_shape (s : State) (fp : Digest)  :
    (State.admitPartner s fp).1.shape = s.shape := by
  unfold State.admitPartner
  simp
@[simp] theorem State.paired_shape (s : State) (port : Nat) (fp : Digest)  :
    (State.paired s port fp).shape = s.shape := by
  unfold State.paired
  simp
@[simp] theorem State.sessionUp_shape (s : State) (port : Nat) (path : Option Nat)  :
    (State.sessionUp s port path).shape = s.shape := by
  unfold State.sessionUp
  simp
  (repeat' split) <;> simp
@[simp] theorem State.startAuth_shape (s : State) (port : Nat) (path : Option Nat)  :
    (State.startAuth s port path).shape = s.shape := by
  unfold State.startAuth
  simp
@[simp] theorem State.gotShare_shape (s : State) (port : Nat) (path : Option Nat) (ptype : Nat) (cause : Nat) (point : PubKey) (random : Digest) (last : Nat × Nat)  :
    (State.gotShare s port path ptype cause point random last).shape = s.shape := by
  unfold State.gotShare
  simp
@[simp] theorem State.gotSignature_shape (s : State) (port : Nat) (path : Option Nat) (ptype : Nat) (cause : Nat) (r : Nat) (sg : Nat)  :
    (State.gotSignature s port path ptype cause r sg).shape = s.shape := by
  unfold State.gotSignature
  simp
  split <;> simp
@[simp] theorem State.gotDone_shape (s : State) (port : Nat) (seq : Nat)  :
    (State.gotDone s port seq).shape = s.shape := by
  unfold State.gotDone
  simp
@[simp] theorem State.noPath_shape (s : State) (fp : Digest) (cause : Nat)  :
    (State.noPath s fp cause).shape = s.shape := by
  unfold State.noPath
  simp
@[simp] theorem State.departures_shape (s : State) (reason : Nat)  :
    (State.departures s reason).shape = s.shape := by
  unfold State.departures
  simp
@[simp] theorem effGetHalyardPort_shape (port : Nat) (s : State)  :
    (effGetHalyardPort port s).1.shape = s.shape := by
  unfold effGetHalyardPort
  simp
@[simp] theorem effListPartners_shape (first : Nat) (count : Nat) (s : State)  :
    (effListPartners first count s).1.shape = s.shape := by
  unfold effListPartners
  simp
@[simp] theorem State.pairNow_shape (s : State) (fp : Digest)  :
    (State.pairNow s fp).shape = s.shape := by
  unfold State.pairNow
  (repeat' split) <;> simp
@[simp] theorem effPairPartner_shape (fp : Digest) (s : State)  :
    (effPairPartner fp s).1.shape = s.shape := by
  unfold effPairPartner
  simp
  split <;> simp
@[simp] theorem State.unpairNow_shape (s : State) (fp : Digest)  :
    (State.unpairNow s fp).shape = s.shape := by
  unfold State.unpairNow
  simp
@[simp] theorem effUnpairPartner_shape (fp : Digest) (s : State)  :
    (effUnpairPartner fp s).1.shape = s.shape := by
  unfold effUnpairPartner
  simp
@[simp] theorem effReleaseQuarantine_shape (fp : Digest) (s : State)  :
    (effReleaseQuarantine fp s).1.shape = s.shape := by
  unfold effReleaseQuarantine
  simp
@[simp] theorem effSetAllowlist_shape (fps : List Digest) (s : State)  :
    (effSetAllowlist fps s).1.shape = s.shape := by
  unfold effSetAllowlist
  simp
@[simp] theorem effGetAllowlist_shape (s : State)  :
    (effGetAllowlist s).1.shape = s.shape := by
  unfold effGetAllowlist
  simp
@[simp] theorem State.portDisabled_shape (s : State) (port : Nat)  :
    (State.portDisabled s port).shape = s.shape := by
  unfold State.portDisabled
  simp
@[simp] theorem State.halyardCredits_shape (s : State)  :
    (State.halyardCredits s).shape = s.shape := by
  unfold State.halyardCredits
  simp
@[simp] theorem State.halyardFrame_shape (s : State)  :
    (State.halyardFrame s).shape = s.shape := by
  unfold State.halyardFrame
  simp
@[simp] theorem State.sendHReq_shape (s : State) (r : HReq)  :
    (State.sendHReq s r).shape = s.shape := by
  unfold State.sendHReq
  simp
  split <;> simp
@[simp] theorem State.admitPort_shape (a1 : Nat) (a2 : Nat) (a3 : State)  :
    (State.admitPort a1 a2 a3).shape = a3.shape := by
  induction a1 generalizing a3 with
  | zero => rfl
  | succ n ih =>
    unfold State.admitPort
    split
    · rfl
    · split
      · rw [ih]; simp
      · rfl
@[simp] theorem State.admitHalyard_shape (s : State)  :
    (State.admitHalyard s).shape = s.shape := by
  unfold State.admitHalyard
  simp
@[simp] theorem State.newReq_shape (s : State) (path : Nat × Nat) (op : Nat) (ident : Nat) (zone : Nat) (offset : Nat) (count : Nat) (declared : Nat)  :
    (State.newReq s path op ident zone offset count declared).shape = s.shape := by
  unfold State.newReq
  simp
@[simp] theorem State.respondPath_shape (s : State) (port : Nat) (label : Nat) (tag : Nat) (packets : Nat) (blocks : List Block) (metas : List Wide) (nodes : List Digest) (status : Nat) (pointer : Nat)  :
    (State.respondPath s port label tag packets blocks metas nodes status pointer).shape = s.shape := by
  unfold State.respondPath
  simp
@[simp] theorem State.failReq_shape (s : State) (port : Nat) (label : Nat) (status : Nat) (tag : Nat) (ident : Nat)  :
    (State.failReq s port label status tag ident).shape = s.shape := by
  unfold State.failReq
  split <;> simp
@[simp] theorem State.requestAt_shape (s : State) (port : Nat) (label : Nat) (r : HReq) (serve : State → Digest → State) (h_serve : ∀ x0 x1, (serve x0 x1).shape = x0.shape) :
    (State.requestAt s port label r serve).shape = s.shape := by
  unfold State.requestAt
  (repeat' split) <;> simp [h_serve]
theorem State.takeEntry_shape (s : State) (fp : Digest) (salt : BitVec 32) (floor : Nat) (p : Nat × State)
    (h : s.takeEntry fp salt floor = some p) : p.2.shape = s.shape := by
  unfold State.takeEntry at h
  dsimp only at h
  split at h
  · cases h; rfl
  · split at h
    · split at h
      · cases h; simp
      · cases h
    · split at h
      · simp only [Option.some.injEq] at h
        rw [← h]; simp
      · cases h
@[simp] theorem State.openLanding_shape (s : State) (n : Namespace) (zi : Nat) (cls : Nat) (gen : Nat) (ref : Nat)  :
    (State.openLanding s n zi cls gen ref).shape = s.shape := by
  unfold State.openLanding
  split <;> simp
@[simp] theorem State.landBlocks_shape (s : State) (nsid : Nat) (zi : Nat) (offset : Nat) (bs : List Stored)  :
    optShape (State.landBlocks s nsid zi offset bs) s.shape = s.shape := by
  unfold State.landBlocks
  simp
@[simp] theorem State.enterLosses_shape (s : State) (nsid : Nat) (zi : Nat) (offset : Nat) (bs : List Stored)  :
    (State.enterLosses s nsid zi offset bs).shape = s.shape := by
  unfold State.enterLosses
  simp
@[simp] theorem State.refuseZone_shape (s : State) (j : Job) (zone : Nat) (reason : Nat)  :
    (State.refuseZone s j zone reason).shape = s.shape := by
  unfold State.refuseZone
  simp
theorem State.landChunk_shape (s : State) (nsid : Nat) (z : JobZone) (gen written : Nat) (l : Option Digest) (t : State)
    (h : s.landChunk nsid z gen written l = .placed t) : t.shape = s.shape := by
  unfold State.landChunk at h
  dsimp only at h
  repeat' (split at h <;> try cases h)
  all_goals (
    rename_i hu
    have e := congrArg (fun o => optShape o s.shape) hu
    simp only [State.landBlocks_shape, optShape_some] at e
    simp [← e])
@[simp] theorem State.finishLanding_shape (s : State) (nsid : Nat) (zi : Nat) (m : Manifest) (leaves : List Digest)  :
    (State.finishLanding s nsid zi m leaves).shape = s.shape := by
  unfold State.finishLanding
  split <;> simp
@[simp] theorem State.setJobZone_shape (s : State) (id : Nat) (zone : Nat) (f : JobZone → JobZone)  :
    (State.setJobZone s id zone f).shape = s.shape := by
  unfold State.setJobZone
  simp
@[simp] theorem State.restartLanding_shape (s : State) (nsid : Nat) (zone : Nat)  :
    (State.restartLanding s nsid zone).shape = s.shape := by
  unfold State.restartLanding
  simp
@[simp] theorem State.importChunk_shape (s : State) (id : Nat) (zone : Nat)  :
    (State.importChunk s id zone).shape = s.shape := by
  unfold State.importChunk
  dsimp only
  repeat' (first | rfl | (simp; done) | split)
  all_goals (rename_i h _; have e := State.landChunk_shape _ _ _ _ _ _ _ h; simp [e])
@[simp] theorem State.pull_shape (a1 : Nat) (a2 : Nat) (a3 : Nat × Nat) (a4 : State)  :
    (State.pull a1 a2 a3 a4).shape = a4.shape := by
  induction a1 generalizing a4 with
  | zero => rfl
  | succ n ih =>
    unfold State.pull
    dsimp only
    split
    · rfl
    · split
      · rfl
      · split
        · rfl
        · rw [ih]; simp
        · split <;> (rw [ih]; split <;> (try split) <;> simp)
@[simp] theorem State.announceReady_shape (s : State) (j : Job)  :
    (State.announceReady s j).shape = s.shape := by
  unfold State.announceReady
  repeat' (first | (with_reducible rfl) | (simp; done) | (simp [*]; done) | (split <;> (try rename_i h) <;> (first | (have e := congrArg (fun p => p.1.shape) h.symm; simp at e; clear h) | (have e := congrArg (fun p => p.2.shape) h.symm; simp at e; clear h) | (have e := congrArg (fun o => optShape o s.shape) h.symm; simp at e; clear h) | skip)) | (with_reducible refine (each_shape _ (fun _ _ => ?_) _ _).trans ?_) | (simp))
@[simp] theorem State.exportFloor_shape (s : State) (ref : Nat) (job : Bool)  :
    (State.exportFloor s ref job).2.shape = s.shape := by
  unfold State.exportFloor
  simp
@[simp] theorem State.carryKey_shape (s : State) (j : Job) (ref : Nat)  :
    (State.carryKey s j ref).shape = s.shape := by
  unfold State.carryKey
  split <;> simp
@[simp] theorem effExportKeyTo_shape (v : Via) (slot : Nat) (dest : Digest) (s : State)  :
    (effExportKeyTo v slot dest s).1.shape = s.shape := by
  unfold effExportKeyTo
  simp
@[simp] theorem State.newIdent_shape (s : State)  :
    (State.newIdent s).2.shape = s.shape := by
  unfold State.newIdent
  simp
@[simp] theorem effStartMigration_shape (dest : Digest) (nsid : Nat) (charge : Bool) (streams : Nat) (zones : List Nat) (s : State)  :
    (effStartMigration dest nsid charge streams zones s).1.shape = s.shape := by
  unfold effStartMigration
  simp
  (repeat' split) <;> simp
@[simp] theorem State.raiseGen_shape (s : State) (stop : Nat)  :
    (State.raiseGen s stop).shape = s.shape := by
  unfold State.raiseGen
  simp
@[simp] theorem State.setLanding_shape (s : State) (nsid : Nat)  :
    (State.setLanding s nsid).shape = s.shape := by
  unfold State.setLanding
  simp
@[simp] theorem State.acceptJob_shape (s : State) (id : Nat) (nsid : Nat) (cls : Nat)  :
    (State.acceptJob s id nsid cls).shape = s.shape := by
  unfold State.acceptJob
  split <;> simp
@[simp] theorem effAcceptMigration_shape (source : Digest) (nsid : Nat) (cls : Nat) (s : State)  :
    (effAcceptMigration source nsid cls s).1.shape = s.shape := by
  unfold effAcceptMigration
  (repeat' split) <;> simp
@[simp] theorem State.acceptMirror_shape (s : State) (id : Nat) (nsid : Nat) (cls : Nat)  :
    (State.acceptMirror s id nsid cls).shape = s.shape := by
  unfold State.acceptMirror
  split <;> simp
@[simp] theorem State.sendManifest_shape (s : State) (j : Job) (zi : Nat)  :
    (State.sendManifest s j zi).shape = s.shape := by
  unfold State.sendManifest
  split <;> simp
@[simp] theorem State.consume_shape (s : State) (r : HReq) (blocks : List Block) (metas : List Wide) (nodes : List Digest) (status : Nat) (pointer : Nat)  :
    (State.consume s r blocks metas nodes status pointer).shape = s.shape := by
  unfold State.consume
  simp
  (repeat' split) <;> simp
@[simp] theorem State.resumeJob_shape (s : State) (id : Nat) (streams : List (Nat × Nat))  :
    (State.resumeJob s id streams).shape = s.shape := by
  unfold State.resumeJob
  simp
theorem State.takeMirror_shape (s : State) (m : Mirror) (zone : Nat) (p : Piece) (t : State)
    (h : s.takeMirror m zone p = some (some t)) : t.shape = s.shape := by
  unfold State.takeMirror at h
  dsimp only at h
  split at h
  · cases h
  · split at h
    · cases h
    · cases hu : s.landBlocks m.nsid zone p.offset (List.filterMap id ((p.blocks.zip p.metas).zipIdx.map fun x =>
          s.receivedBlock _ zone (p.offset + x.2) x.1.1 x.1.2)) with
      | none => rw [hu] at h; cases h
      | some u =>
        rw [hu] at h
        simp only [Option.map_some, Option.some.injEq] at h
        have e := congrArg (fun o => optShape o s.shape) hu
        simp only [State.landBlocks_shape, optShape_some] at e
        rw [← h, State.modMirror_shape, e]
@[simp] theorem State.mirrorIn_shape (s : State) (rel : Nat) (port : Nat) (label : Nat) (tag : Nat) (zone : Nat) (p : Piece)  :
    (State.mirrorIn s rel port label tag zone p).shape = s.shape := by
  unfold State.mirrorIn
  repeat' (first | (simp; done) | split)
  rename_i h
  have e := State.takeMirror_shape _ _ _ _ _ h
  simp [e]
@[simp] theorem State.pullMirror_shape (s : State) (rel : Nat) (path : Nat × Nat) (z : JobZone)  :
    (State.pullMirror s rel path z).shape = s.shape := by
  unfold State.pullMirror
  dsimp only
  repeat' (first | rfl | (simp; done) | split)
  rename_i h
  have e := State.takeMirror_shape _ _ _ _ _ h
  simp [e]
@[simp] theorem State.catchUpStep_shape (s : State) (m : Mirror)  :
    (State.catchUpStep s m).shape = s.shape := by
  unfold State.catchUpStep
  split <;> simp
@[simp] theorem State.feedZone_shape (s : State) (m : Mirror) (path : Nat × Nat) (z : MirZone)  :
    (State.feedZone s m path z).shape = s.shape := by
  unfold State.feedZone
  split <;> simp
@[simp] theorem State.peerFrame_shape (s : State)  :
    (State.peerFrame s).shape = s.shape := by
  unfold State.peerFrame
  repeat' (first | (with_reducible rfl) | (simp; done) | (simp [*]; done) | (split <;> (try rename_i h) <;> (first | (have e := congrArg (fun p => p.1.shape) h.symm; simp at e; clear h) | (have e := congrArg (fun p => p.2.shape) h.symm; simp at e; clear h) | (have e := congrArg (fun o => optShape o s.shape) h.symm; simp at e; clear h) | skip)) | (with_reducible refine (each_shape _ (fun _ _ => ?_) _ _).trans ?_) | (simp))
@[simp] theorem effCancelMigration_shape (id : Nat) (s : State)  :
    (effCancelMigration id s).1.shape = s.shape := by
  unfold effCancelMigration
  split <;> simp
@[simp] theorem effGetMigrationJob_shape (id : Nat) (s : State)  :
    (effGetMigrationJob id s).1.shape = s.shape := by
  unfold effGetMigrationJob
  split <;> simp
@[simp] theorem effSetMirror_shape (role : Nat) (mode : Nat) (policy : Nat) (cls : Nat) (lag : Nat) (nsid : Nat) (firstZone : Nat) (zoneCount : Nat) (other : Digest) (s : State)  :
    (effSetMirror role mode policy cls lag nsid firstZone zoneCount other s).1.shape = s.shape := by
  unfold effSetMirror
  simp
  (repeat' split) <;> simp
@[simp] theorem effEndMirror_shape (rel : Nat) (s : State)  :
    (effEndMirror rel s).1.shape = s.shape := by
  unfold effEndMirror
  split <;> simp
@[simp] theorem effPromoteMirror_shape (rel : Nat) (s : State)  :
    (effPromoteMirror rel s).1.shape = s.shape := by
  unfold effPromoteMirror
  split <;> simp
@[simp] theorem effGetMirror_shape (rel : Nat) (s : State)  :
    (effGetMirror rel s).1.shape = s.shape := by
  unfold effGetMirror
  split <;> simp
@[simp] theorem State.mirrorSetting_shape (s : State) (ident : Nat) (scope : Nat) (value : Nat)  :
    (State.mirrorSetting s ident scope value).shape = s.shape := by
  unfold State.mirrorSetting
  simp
@[simp] theorem State.peerNsDeleted_shape (s : State) (nsid : Nat)  :
    (State.peerNsDeleted s nsid).shape = s.shape := by
  unfold State.peerNsDeleted
  simp
@[simp] theorem State.peerErased_shape (s : State)  :
    (State.peerErased s).shape = s.shape := by
  unfold State.peerErased
  simp

end Sys2Proof.Machine
end

