-- ==== Sys2Proof/Laws/ShapeDevice.lean ====
section
/-! SUPPORT. What the shared operations of namespaces, power, start-up, the host port, admission, the mailbox and the frame leave as it is: the shape of a state (Safety.Shape). -/

namespace Sys2Proof.Machine

set_option maxRecDepth 4000
set_option linter.unusedSimpArgs false
set_option linter.unusedTactic false
set_option linter.unreachableTactic false

/-- The shape of what a judgement leaves. -/
def judgedShape (r : Judged) (d : Shape) : Shape :=
  match r with
  | .hold _ => d
  | .fail t _ _ => t.shape
  | .go t _ => t.shape
@[simp] theorem judgedShape_hold (k : HoldCause) (d : Shape) : judgedShape (.hold k) d = d := rfl
@[simp] theorem judgedShape_fail (t : State) (st : NvmeStatus) (l : Option Nat) (d : Shape) : judgedShape (.fail t st l) d = t.shape := rfl
@[simp] theorem judgedShape_go (t : State) (c : Cost) (d : Shape) : judgedShape (.go t c) d = t.shape := rfl
@[simp] theorem judgedShape_ite (c : Prop) [Decidable c] (a b : Judged) (d : Shape) :
    judgedShape (if c then a else b) d = if c then judgedShape a d else judgedShape b d := by split <;> rfl
theorem judgedShape_both (c : Prop) [Decidable c] (a b : Judged) (d : Shape) (ha : judgedShape a d = d) (hb : judgedShape b d = d) :
    judgedShape (if c then a else b) d = d := by split <;> assumption
@[simp] theorem effDefineClass_shape (c : Nat) (width : Nat) (grade : Nat) (affinity : Nat) (s : State)  :
    (effDefineClass c width grade affinity s).1.shape = s.shape := by
  unfold effDefineClass
  simp
  split <;> simp
@[simp] theorem effDeleteClass_shape (c : Nat) (s : State)  :
    (effDeleteClass c s).1.shape = s.shape := by
  unfold effDeleteClass
  simp
  split <;> simp
@[simp] theorem State.createNs_shape (s : State) (r : NsRequest)  :
    (State.createNs s r).1.shape = s.shape := by
  unfold State.createNs
  repeat' (first | (with_reducible rfl) | (simp; done) | (simp [*]; done) | (intro _) | (split <;> (try rename_i h) <;> (first | (have e := congrArg (fun p => p.1.shape) h.symm; simp at e; clear h) | (have e := congrArg (fun p => p.2.shape) h.symm; simp at e; clear h) | (have e := congrArg (fun o => optShape o s.shape) h.symm; simp at e; clear h) | skip)) | (with_reducible refine (each_shape _ (fun _ _ => ?_) _ _).trans ?_) | (simp))
@[simp] theorem effCreateNamespace_shape (r : NsRequest) (s : State)  :
    (effCreateNamespace r s).1.shape = s.shape := by
  unfold effCreateNamespace
  repeat' (first | (with_reducible rfl) | (simp; done) | (simp [*]; done) | (split <;> (try rename_i h) <;> (first | (have e := congrArg (fun p => p.1.shape) h.symm; simp at e; clear h) | (have e := congrArg (fun p => p.2.shape) h.symm; simp at e; clear h) | (have e := congrArg (fun o => optShape o s.shape) h.symm; simp at e; clear h) | skip)) | (with_reducible refine (each_shape _ (fun _ _ => ?_) _ _).trans ?_) | (simp))
@[simp] theorem State.nvmeCreate_shape (s : State) (csi : Nat) (nsze : Nat) (ncap : Nat) (lbaf : Nat) (pi : Nat)  :
    (State.nvmeCreate s csi nsze ncap lbaf pi).1.shape = s.shape := by
  unfold State.nvmeCreate
  repeat' (first | (with_reducible rfl) | (simp; done) | (simp [*]; done) | (split <;> (try rename_i h) <;> (first | (have e := congrArg (fun p => p.1.shape) h.symm; simp at e; clear h) | (have e := congrArg (fun p => p.2.shape) h.symm; simp at e; clear h) | (have e := congrArg (fun o => optShape o s.shape) h.symm; simp at e; clear h) | skip)) | (with_reducible refine (each_shape _ (fun _ _ => ?_) _ _).trans ?_) | (simp))
@[simp] theorem State.noticeNs_shape (s : State) (fn : Nat) (nsid : Nat)  :
    (State.noticeNs s fn nsid).shape = s.shape := by
  unfold State.noticeNs
  simp
@[simp] theorem State.attachPair_shape (s : State) (n : Namespace) (fn : Nat)  :
    (State.attachPair s n fn).shape = s.shape := by
  unfold State.attachPair
  simp
@[simp] theorem State.detachPair_shape (s : State) (n : Namespace) (fn : Nat)  :
    (State.detachPair s n fn).shape = s.shape := by
  unfold State.detachPair
  simp
@[simp] theorem effAttachNamespace_shape (nsid : Nat) (fn : Nat) (s : State)  :
    (effAttachNamespace nsid fn s).1.shape = s.shape := by
  unfold effAttachNamespace
  split <;> simp
@[simp] theorem effDetachNamespace_shape (nsid : Nat) (fn : Nat) (s : State)  :
    (effDetachNamespace nsid fn s).1.shape = s.shape := by
  unfold effDetachNamespace
  split <;> simp
@[simp] theorem effConsentToAttach_shape (v : Via) (nsid : Nat) (fn : Nat) (s : State)  :
    (effConsentToAttach v nsid fn s).1.shape = s.shape := by
  unfold effConsentToAttach
  split <;> simp
@[simp] theorem State.nvmeAttach_shape (s : State) (nsid : Nat) (ctrls : List Nat)  :
    (State.nvmeAttach s nsid ctrls).1.shape = s.shape := by
  unfold State.nvmeAttach
  split <;> simp
@[simp] theorem State.nvmeDetach_shape (s : State) (nsid : Nat) (ctrls : List Nat)  :
    (State.nvmeDetach s nsid ctrls).1.shape = s.shape := by
  unfold State.nvmeDetach
  split <;> simp
@[simp] theorem State.purgeNs_shape (s : State) (nsid : Nat)  :
    (State.purgeNs s nsid).shape = s.shape := by
  unfold State.purgeNs
  split <;> simp
@[simp] theorem State.purgeDeleted_shape (s : State)  :
    (State.purgeDeleted s).shape = s.shape := by
  unfold State.purgeDeleted
  simp
@[simp] theorem State.deleteNs_shape (s : State) (n : Namespace)  :
    (State.deleteNs s n).shape = s.shape := by
  unfold State.deleteNs
  simp
@[simp] theorem effDeleteNamespace_shape (nsid : Nat) (s : State)  :
    (effDeleteNamespace nsid s).1.shape = s.shape := by
  unfold effDeleteNamespace
  split <;> simp
@[simp] theorem State.nvmeDelete_shape (s : State) (nsid : Nat)  :
    (State.nvmeDelete s nsid).1.shape = s.shape := by
  unfold State.nvmeDelete
  simp
  split <;> simp
@[simp] theorem effSetNamespaceAttributes_shape (nsid : Nat) (setCls : Bool) (setPerm : Bool) (setLimits : Bool) (cls : Nat) (permitted : Nat) (active : Nat) (opn : Nat) (s : State)  :
    (effSetNamespaceAttributes nsid setCls setPerm setLimits cls permitted active opn s).1.shape = s.shape := by
  unfold effSetNamespaceAttributes
  simp
  (repeat' split) <;> simp
@[simp] theorem effGetNamespace_shape (v : Via) (nsid : Nat) (s : State)  :
    (effGetNamespace v nsid s).1.shape = s.shape := by
  unfold effGetNamespace
  split <;> simp
@[simp] theorem effGetZoneRecord_shape (v : Via) (nsid : Nat) (zone : Nat) (s : State)  :
    (effGetZoneRecord v nsid zone s).1.shape = s.shape := by
  unfold effGetZoneRecord
  split <;> simp
@[simp] theorem effDeleteInstance_shape (fn : Nat) (deleteNamespaces : Bool) (s : State)  :
    (effDeleteInstance fn deleteNamespaces s).1.shape = s.shape := by
  unfold effDeleteInstance
  simp
  split <;> simp
@[simp] theorem State.nvmeOnline_shape (s : State) (ctrl : Nat)  :
    (State.nvmeOnline s ctrl).1.shape = s.shape := by
  unfold State.nvmeOnline
  simp
@[simp] theorem State.nvmeOffline_shape (s : State) (ctrl : Nat)  :
    (State.nvmeOffline s ctrl).1.shape = s.shape := by
  unfold State.nvmeOffline
  simp
  split <;> simp
@[simp] theorem State.nvmeAssign_shape (s : State) (ctrl : Nat) (resource : Nat) (count : Nat)  :
    (State.nvmeAssign s ctrl resource count).1.shape = s.shape := by
  unfold State.nvmeAssign
  simp
@[simp] theorem State.linksLost_shape (s : State)  :
    (State.linksLost s).shape = s.shape := by
  unfold State.linksLost
  dsimp only
  suffices h : ∀ t : State, ∀ o e, ({ t with out := o, evt := e } : State).shape = t.shape by
    rw [h, State.modPeer_shape, State.modHal_shape, each_shape]
    · intro s x; simp
    · simp
  intros; rfl
@[simp] theorem State.giveBack_shape (s : State) (x : Nat) (b : Nat) (blank : Bool)  :
    (State.giveBack s x b blank).shape = s.shape := by
  unfold State.giveBack
  simp
@[simp] theorem State.orphan_shape (s : State) (seq : Nat) (unknown : Bool)  :
    (State.orphan s seq unknown).shape = s.shape := by
  unfold State.orphan
  split <;> simp
@[simp] theorem State.dropMove_shape (s : State) (g : Segment) (v : Move) (unknown : Bool)  :
    (State.dropMove s g v unknown).shape = s.shape := by
  unfold State.dropMove
  simp
@[simp] theorem State.lostZone_shape (s : State) (n : Namespace) (z : Zone)  :
    (State.lostZone s n z).shape = s.shape := by
  unfold State.lostZone
  simp
@[simp] theorem State.cutMedia_shape (s : State)  :
    (State.cutMedia s).shape = s.shape := by
  unfold State.cutMedia
  simp
@[simp] theorem State.powerCut_shape (s : State)  :
    (State.powerCut s).shape = s.shape := by
  unfold State.powerCut
  dsimp only
  suffices h : ∀ t : State, ∀ o, ({ t with out := o } : State).shape = t.shape by
    rw [h]
    simp only [State.modStart_shape, State.modPwr_shape, State.modPool_shape, State.modObj_shape, State.modFix_shape, State.modMbx_shape,
      State.modCtrl1_shape, State.modNrg_shape, State.modEvt_shape]
    rw [State.modFns_shape _ _ (by simp), State.modIo_shape _ _ (by simp), State.modTherm_shape _ _ (by simp), State.modNrg_shape, State.modMems_shape _ _ (by simp),
      State.modPorts_shape _ _ (by simp), State.modMasts_shape _ _ (by simp), State.modMedia_shape _ _ (by simp)]
    simp only [State.cutMedia_shape, State.modEvt_shape, State.loseVolatile_shape, State.linksLost_shape]
    rw [each_shape]
    intro s x; simp
  intros; rfl
@[simp] theorem State.goDark_shape (s : State)  :
    (State.goDark s).shape = s.shape := by
  unfold State.goDark
  simp
@[simp] theorem State.chargeDark_shape (s : State) (ticks : Nat) (a : List (Option ℤ)) (b : List (Option ℤ))  :
    (State.chargeDark s ticks a b).shape = s.shape := by
  unfold State.chargeDark
  simp
@[simp] theorem State.hcxOff_shape (s : State)  :
    (State.hcxOff s).shape = s.shape := by
  unfold State.hcxOff
  simp
@[simp] theorem State.restart_shape (s : State) (deep : Bool) (wake : Bool)  :
    (State.restart s deep wake).shape = s.shape := by
  unfold State.restart
  dsimp only
  split
  · rw [State.modPwr_shape, State.modStart_shape]
  · rw [State.modFn_shape, State.modPwr_shape, State.modPorts_shape _ _ (by simp), State.modMasts_shape _ _ (by simp), State.modPwr_shape,
      State.modStart_shape]
@[simp] theorem State.startAgain_shape (s : State)  :
    (State.startAgain s).shape = s.shape := by
  unfold State.startAgain
  simp
@[simp] theorem State.wake_shape (s : State) (source : Nat)  :
    (State.wake s source).shape = s.shape := by
  unfold State.wake
  simp
@[simp] theorem State.rebase_shape (s : State)  :
    (State.rebase s).shape = s.shape := by
  unfold State.rebase
  repeat' (first | (with_reducible rfl) | (with_reducible assumption) | (simp only [State.shape_ite, resShape_ite, fst_shape_ite, snd_shape_ite, optShape_ite, resShape_next, resShape_fault, optShape_some, optShape_none, ite_self, List.length_map, List.length_modify, List.length_zipIdx, State.modEvt_shape, State.modHal_shape, State.modMedia_shape, State.modNss_shape, State.modPeer_shape, State.quarantine_shape]; done) | (simp only [State.shape_ite, resShape_ite, fst_shape_ite, snd_shape_ite, optShape_ite, resShape_next, resShape_fault, optShape_some, optShape_none, ite_self, List.length_map, List.length_modify, List.length_zipIdx, State.modEvt_shape, State.modHal_shape, State.modMedia_shape, State.modNss_shape, State.modPeer_shape, State.quarantine_shape, *]; done) | (split <;> (try rename_i h) <;> (first | (have e := congrArg (fun p => p.1.shape) h.symm; simp only [State.shape_ite, resShape_ite, fst_shape_ite, snd_shape_ite, optShape_ite, resShape_next, resShape_fault, optShape_some, optShape_none, ite_self, List.length_map, List.length_modify, List.length_zipIdx, State.modEvt_shape, State.modHal_shape, State.modMedia_shape, State.modNss_shape, State.modPeer_shape, State.quarantine_shape] at e; clear h) | (have e := congrArg (fun p => p.2.shape) h.symm; simp only [State.shape_ite, resShape_ite, fst_shape_ite, snd_shape_ite, optShape_ite, resShape_next, resShape_fault, optShape_some, optShape_none, ite_self, List.length_map, List.length_modify, List.length_zipIdx, State.modEvt_shape, State.modHal_shape, State.modMedia_shape, State.modNss_shape, State.modPeer_shape, State.quarantine_shape] at e; clear h) | (have e := congrArg (fun o => optShape o (State.shape s)) h.symm; simp only [State.shape_ite, resShape_ite, fst_shape_ite, snd_shape_ite, optShape_ite, resShape_next, resShape_fault, optShape_some, optShape_none, ite_self, List.length_map, List.length_modify, List.length_zipIdx, State.modEvt_shape, State.modHal_shape, State.modMedia_shape, State.modNss_shape, State.modPeer_shape, State.quarantine_shape] at e; clear h) | skip)) | (with_reducible refine each_shape _ (fun _ _ => ?_) _ _) | (with_reducible refine (each_shape _ (fun _ _ => ?_) _ _).trans ?_) | (with_reducible refine resShape_whenUnit _ _ _ ?_) | (simp only [State.shape_ite, resShape_ite, fst_shape_ite, snd_shape_ite, optShape_ite, resShape_next, resShape_fault, optShape_some, optShape_none, ite_self, List.length_map, List.length_modify, List.length_zipIdx, State.modEvt_shape, State.modHal_shape, State.modMedia_shape, State.modNss_shape, State.modPeer_shape, State.quarantine_shape]))
@[simp] theorem State.dumpFrom_shape (s : State) (f : Nat)  :
    (State.dumpFrom s f).shape = s.shape := by
  unfold State.dumpFrom
  simp
@[simp] theorem State.startDump_shape (s : State)  :
    (State.startDump s).shape = s.shape := by
  unfold State.startDump
  simp
@[simp] theorem State.enterDumped_shape (s : State)  :
    (State.enterDumped s).shape = s.shape := by
  unfold State.enterDumped
  simp
@[simp] theorem State.stopStart_shape (s : State)  :
    (State.stopStart s).shape = s.shape := by
  unfold State.stopStart
  simp
@[simp] theorem State.latchPower_shape (s : State)  :
    (State.latchPower s).shape = s.shape := by
  unfold State.latchPower
  simp
  split <;> simp
@[simp] theorem State.postAtDump_shape (s : State) (c : Cmd)  :
    (State.postAtDump s c).shape = s.shape := by
  unfold State.postAtDump
  simp
@[simp] theorem State.abortAers_shape (s : State) (f : Nat) (port1 : Bool)  :
    (State.abortAers s f port1).shape = s.shape := by
  unfold State.abortAers
  simp
@[simp] theorem State.dumpActions_shape (s : State)  :
    (State.dumpActions s).shape = s.shape := by
  unfold State.dumpActions
  dsimp only
  rw [State.modLuns_shape, State.modIo_shape _ _ rfl]
  generalize (if s.start.deepDump = true then 0x0803 else 0x0804) = code
  generalize hu : each (List.filter (fun c => !c.waiting.isEmpty) _) State.voidBlocks _ = u
  have e : u.shape = s.shape := by rw [← hu, each_shape _ (by intro s x; simp), State.modNrg_shape, State.modPwr_shape]
  rw [← e]
  split
  · rfl
  · rw [State.sealHeld_shape]
    have k : ∀ l : List Cmd, ∀ m : List (Nat × Bool), ∀ v : State, (each m (fun s x => s.abortAers x.1 x.2) (each l State.postAtDump v)).shape = v.shape := by
      intro l m v
      rw [each_shape _ (by intro s x; simp), each_shape _ (by intro s x; simp)]
    split
    · rw [k, State.abortJobs_shape, each_shape _ (by intro s x; simp), each_shape _ (by intro s x; simp)]
    · rw [State.departures_shape, k, State.abortJobs_shape, each_shape _ (by intro s x; simp), each_shape _ (by intro s x; simp)]
@[simp] theorem State.dumpFurl_shape (s : State)  :
    (State.dumpFurl s).shape = s.shape := by
  unfold State.dumpFurl
  repeat' (first | (with_reducible rfl) | (with_reducible assumption) | (simp only [State.shape_ite, resShape_ite, fst_shape_ite, snd_shape_ite, optShape_ite, resShape_next, resShape_fault, optShape_some, optShape_none, ite_self, List.length_map, List.length_modify, List.length_zipIdx, State.linksLost_shape, State.modIo_shape, State.modPwr_shape]; done) | (simp only [State.shape_ite, resShape_ite, fst_shape_ite, snd_shape_ite, optShape_ite, resShape_next, resShape_fault, optShape_some, optShape_none, ite_self, List.length_map, List.length_modify, List.length_zipIdx, State.linksLost_shape, State.modIo_shape, State.modPwr_shape, *]; done) | (split <;> (try rename_i h) <;> (first | (have e := congrArg (fun p => p.1.shape) h.symm; simp only [State.shape_ite, resShape_ite, fst_shape_ite, snd_shape_ite, optShape_ite, resShape_next, resShape_fault, optShape_some, optShape_none, ite_self, List.length_map, List.length_modify, List.length_zipIdx, State.linksLost_shape, State.modIo_shape, State.modPwr_shape] at e; clear h) | (have e := congrArg (fun p => p.2.shape) h.symm; simp only [State.shape_ite, resShape_ite, fst_shape_ite, snd_shape_ite, optShape_ite, resShape_next, resShape_fault, optShape_some, optShape_none, ite_self, List.length_map, List.length_modify, List.length_zipIdx, State.linksLost_shape, State.modIo_shape, State.modPwr_shape] at e; clear h) | (have e := congrArg (fun o => optShape o (State.shape s)) h.symm; simp only [State.shape_ite, resShape_ite, fst_shape_ite, snd_shape_ite, optShape_ite, resShape_next, resShape_fault, optShape_some, optShape_none, ite_self, List.length_map, List.length_modify, List.length_zipIdx, State.linksLost_shape, State.modIo_shape, State.modPwr_shape] at e; clear h) | skip)) | (with_reducible refine each_shape _ (fun _ _ => ?_) _ _) | (with_reducible refine (each_shape _ (fun _ _ => ?_) _ _).trans ?_) | (with_reducible refine resShape_whenUnit _ _ _ ?_) | (simp only [State.shape_ite, resShape_ite, fst_shape_ite, snd_shape_ite, optShape_ite, resShape_next, resShape_fault, optShape_some, optShape_none, ite_self, List.length_map, List.length_modify, List.length_zipIdx, State.linksLost_shape, State.modIo_shape, State.modPwr_shape]))
@[simp] theorem State.dumpFrameStep_shape (s : State)  :
    (State.dumpFrameStep s).shape = s.shape := by
  unfold State.dumpFrameStep
  split <;> simp
@[simp] theorem State.flushJournal_shape (s : State) (j : Nat) (blocks : Nat)  :
    (State.flushJournal s j blocks).shape = s.shape := by
  unfold State.flushJournal
  simp
@[simp] theorem State.dumpMast_shape (s : State) (luns : List Nat) (m : Nat)  :
    (State.dumpMast s luns m).shape = s.shape := by
  unfold State.dumpMast
  simp
@[simp] theorem State.deepBegins_shape (s : State)  :
    (State.deepBegins s).shape = s.shape := by
  unfold State.deepBegins
  simp
@[simp] theorem State.beginPrep_shape (s : State)  :
    (State.beginPrep s).shape = s.shape := by
  unfold State.beginPrep
  simp
@[simp] theorem State.startEntry_shape (s : State) (k : EntryKind)  :
    (State.startEntry s k).shape = s.shape := by
  unfold State.startEntry
  simp
@[simp] theorem State.entryEnds_shape (s : State) (e : Entry) (aborted : Bool) (refuser : Nat)  :
    (State.entryEnds s e aborted refuser).shape = s.shape := by
  unfold State.entryEnds
  simp
@[simp] theorem State.answerEntry_shape (s : State) (e : Entry)  :
    (State.answerEntry s e).shape = s.shape := by
  unfold State.answerEntry
  simp
  (repeat' split) <;> simp
@[simp] theorem State.answerEntries_shape (s : State)  :
    (State.answerEntries s).shape = s.shape := by
  unfold State.answerEntries
  simp
@[simp] theorem State.mastFurled_shape (s : State) (m : Nat)  :
    (State.mastFurled s m).shape = s.shape := by
  unfold State.mastFurled
  simp
@[simp] theorem State.furlDomain_shape (s : State) (d : Nat)  :
    (State.furlDomain s d).shape = s.shape := by
  unfold State.furlDomain
  simp
@[simp] theorem State.enterService_shape (s : State) (m : Nat)  :
    (State.enterService s m).shape = s.shape := by
  unfold State.enterService
  simp
@[simp] theorem State.wakeDomain_shape (s : State) (d : Nat)  :
    (State.wakeDomain s d).shape = s.shape := by
  unfold State.wakeDomain
  simp
@[simp] theorem State.enterDark_shape (s : State) (k : EntryKind)  :
    (State.enterDark s k).shape = s.shape := by
  unfold State.enterDark
  simp
@[simp] theorem State.furlEntry_shape (s : State) (e : Entry)  :
    (State.furlEntry s e).shape = s.shape := by
  unfold State.furlEntry
  simp
  split <;> simp
@[simp] theorem State.furlEntries_shape (s : State)  :
    (State.furlEntries s).shape = s.shape := by
  unfold State.furlEntries
  repeat' (first | (with_reducible rfl) | (simp; done) | (simp [*]; done) | (split <;> (try rename_i h) <;> (first | (have e := congrArg (fun p => p.1.shape) h.symm; simp at e; clear h) | (have e := congrArg (fun p => p.2.shape) h.symm; simp at e; clear h) | (have e := congrArg (fun o => optShape o s.shape) h.symm; simp at e; clear h) | skip)) | (with_reducible refine (each_shape _ (fun _ _ => ?_) _ _).trans ?_) | (simp))
@[simp] theorem State.parkAll_shape (s : State)  :
    (State.parkAll s).shape = s.shape := by
  unfold State.parkAll
  simp
@[simp] theorem State.prepStep_shape (s : State)  :
    (State.prepStep s).shape = s.shape := by
  unfold State.prepStep
  split <;> simp
@[simp] theorem State.shutdownStep_shape (s : State)  :
    (State.shutdownStep s).shape = s.shape := by
  unfold State.shutdownStep
  simp
@[simp] theorem State.measurePower_shape (s : State) (mw : Nat)  :
    (State.measurePower s mw).shape = s.shape := by
  unfold State.measurePower
  simp
@[simp] theorem effEnterCrowsNest_shape (interval : Nat) (s : State)  :
    (effEnterCrowsNest interval s).1.shape = s.shape := by
  unfold effEnterCrowsNest
  split <;> simp
@[simp] theorem effPowerDown_shape (s : State)  :
    (effPowerDown s).1.shape = s.shape := by
  unfold effPowerDown
  simp
@[simp] theorem effSetReefLimit_shape (level : Nat) (s : State)  :
    (effSetReefLimit level s).1.shape = s.shape := by
  unfold effSetReefLimit
  simp
@[simp] theorem State.putRing_shape (s : State) (fn : Nat) (r : Nat) (x : Ring)  :
    (State.putRing s fn r x).shape = s.shape := by
  unfold State.putRing
  simp
@[simp] theorem State.deliverEvents_shape (s : State)  :
    (State.deliverEvents s).shape = s.shape := by
  unfold State.deliverEvents
  simp
@[simp] theorem State.flushRing_shape (s : State) (fn : Nat) (r : Nat)  :
    (State.flushRing s fn r).shape = s.shape := by
  unfold State.flushRing
  simp
@[simp] theorem State.ringIgnored_shape (s : State) (fn : Nat) (r : Nat)  :
    (State.ringIgnored s fn r).shape = s.shape := by
  unfold State.ringIgnored
  simp
@[simp] theorem State.writeRctl_shape (s : State) (fn : Nat) (r : Nat) (size : Nat) (severity : Nat) (vector : Nat) (enable : Bool)  :
    (State.writeRctl s fn r size severity vector enable).shape = s.shape := by
  unfold State.writeRctl
  simp
@[simp] theorem State.earlyWarnings_shape (s : State)  :
    (State.earlyWarnings s).shape = s.shape := by
  unfold State.earlyWarnings
  simp
@[simp] theorem State.readyCtrls_shape (s : State)  :
    (State.readyCtrls s).shape = s.shape := by
  unfold State.readyCtrls
  simp
@[simp] theorem State.becomeReady_shape (s : State)  :
    (State.becomeReady s).shape = s.shape := by
  unfold State.becomeReady
  simp
@[simp] theorem State.trainPort_shape (s : State) (p : Nat) (ces : Nat) (named : List (Nat × Nat × Nat))  :
    (State.trainPort s p ces named).shape = s.shape := by
  unfold State.trainPort
  simp
@[simp] theorem State.reportIncomplete_shape (s : State) (w : Nat) (g : Nat) (l : Nat)  :
    (State.reportIncomplete s w g l).shape = s.shape := by
  unfold State.reportIncomplete
  split <;> simp
@[simp] theorem State.loseStored_shape (s : State) (b : Stored) (cause : Nat)  :
    (State.loseStored s b cause).shape = s.shape := by
  unfold State.loseStored
  simp
@[simp] theorem State.recoverPointer_shape (s : State) (n : Namespace) (z : Zone)  :
    (State.recoverPointer s n z).shape = s.shape := by
  unfold State.recoverPointer
  simp
@[simp] theorem State.relog_shape (s : State)  :
    (State.relog s).shape = s.shape := by
  unfold State.relog
  simp
@[simp] theorem State.noContinuation_shape (s : State)  :
    (State.noContinuation s).shape = s.shape := by
  unfold State.noContinuation
  simp
@[simp] theorem State.replay_shape (s : State) (missing : List (Nat × Nat)) (disagree : List (Nat × List Nat))  :
    (State.replay s missing disagree).shape = s.shape := by
  unfold State.replay
  repeat' (first | (with_reducible rfl) | (simp; done) | (simp [*]; done) | (split <;> (try rename_i h) <;> (first | (have e := congrArg (fun p => p.1.shape) h.symm; simp at e; clear h) | (have e := congrArg (fun p => p.2.shape) h.symm; simp at e; clear h) | (have e := congrArg (fun o => optShape o s.shape) h.symm; simp at e; clear h) | skip)) | (with_reducible refine (each_shape _ (fun _ _ => ?_) _ _).trans ?_) | (simp))
@[simp] theorem State.switchPort_shape (s : State) (port : Nat) (on : Bool)  :
    (State.switchPort s port on).shape = s.shape := by
  unfold State.switchPort
  simp
@[simp] theorem State.applySetting_shape (s : State) (ident : Nat) (scope : Nat) (value : Nat)  :
    (State.applySetting s ident scope value).shape = s.shape := by
  unfold State.applySetting
  split <;> simp
@[simp] theorem effGetControl_shape (ident : Nat) (scope : Nat) (s : State)  :
    (effGetControl ident scope s).1.shape = s.shape := by
  unfold effGetControl
  split <;> simp
@[simp] theorem effSetControl_shape (ident : Nat) (scope : Nat) (value : Nat) (s : State)  :
    (effSetControl ident scope value s).1.shape = s.shape := by
  unfold effSetControl
  split <;> simp
@[simp] theorem effRestoreDefaultControls_shape (group : Nat) (s : State)  :
    (effRestoreDefaultControls group s).1.shape = s.shape := by
  unfold effRestoreDefaultControls
  simp
@[simp] theorem effGetSignedObject_shape (object : Nat) (s : State)  :
    (effGetSignedObject object s).1.shape = s.shape := by
  unfold effGetSignedObject
  simp
  split <;> simp
@[simp] theorem State.assemble_shape (s : State)  :
    (State.assemble s).shape = s.shape := by
  unfold State.assemble
  split <;> simp
@[simp] theorem effWriteSignedObject_shape (object : Nat) (record : DriveRecord) (profile : MediaProfile) (r : Nat) (sg : Nat) (s : State)  :
    (effWriteSignedObject object record profile r sg s).1.shape = s.shape := by
  unfold effWriteSignedObject
  simp
@[simp] theorem State.burnOwner_shape (s : State) (key : PubKey)  :
    (State.burnOwner s key).shape = s.shape := by
  unfold State.burnOwner
  simp
@[simp] theorem effTakeOwnership_shape (key : PubKey) (s : State)  :
    (effTakeOwnership key s).1.shape = s.shape := by
  unfold effTakeOwnership
  simp
@[simp] theorem effTransferOwnership_shape (key : PubKey) (s : State)  :
    (effTransferOwnership key s).1.shape = s.shape := by
  unfold effTransferOwnership
  simp
@[simp] theorem State.formatMedia_shape (s : State)  :
    (State.formatMedia s).shape = s.shape := by
  unfold State.formatMedia
  simp
@[simp] theorem effFormatMedia_shape (s : State)  :
    (effFormatMedia s).1.shape = s.shape := by
  unfold effFormatMedia
  (repeat' split) <;> simp
@[simp] theorem State.emptyNamespace_shape (final : Bool) (s : State) (n : Namespace)  :
    (State.emptyNamespace final s n).shape = s.shape := by
  unfold State.emptyNamespace
  simp
@[simp] theorem State.emptyAll_shape (s : State) (final : Bool) (p : Namespace → Bool)  :
    (State.emptyAll s final p).shape = s.shape := by
  unfold State.emptyAll
  simp
@[simp] theorem State.abortCmd_shape (s : State) (c : Cmd) (st : NvmeStatus)  :
    (State.abortCmd s c st).shape = s.shape := by
  unfold State.abortCmd
  split <;> simp
@[simp] theorem State.formatNvm_shape (s : State) (nsid : Nat) (lbaf : Nat) (ses : Nat)  :
    (State.formatNvm s nsid lbaf ses).1.shape = s.shape := by
  unfold State.formatNvm
  simp
@[simp] theorem State.cryptoErase_shape (s : State) (self : Nat)  :
    (State.cryptoErase s self).1.shape = s.shape := by
  unfold State.cryptoErase
  repeat' (first | (with_reducible rfl) | (with_reducible assumption) | (simp only [State.shape_ite, resShape_ite, fst_shape_ite, snd_shape_ite, optShape_ite, resShape_next, resShape_fault, optShape_some, optShape_none, ite_self, List.length_map, List.length_modify, List.length_zipIdx, State.abortCmd_shape, State.abortJobs_shape, State.emptyAll_shape, State.logImage_shape, State.modFns_shape, State.modFuses_shape, State.modKeys_shape, State.modMasts_shape, State.modPwr_shape, State.modStart_shape, State.respond_shape, State.stopJob_shape, each_shape]; done) | (simp only [State.shape_ite, resShape_ite, fst_shape_ite, snd_shape_ite, optShape_ite, resShape_next, resShape_fault, optShape_some, optShape_none, ite_self, List.length_map, List.length_modify, List.length_zipIdx, State.abortCmd_shape, State.abortJobs_shape, State.emptyAll_shape, State.logImage_shape, State.modFns_shape, State.modFuses_shape, State.modKeys_shape, State.modMasts_shape, State.modPwr_shape, State.modStart_shape, State.respond_shape, State.stopJob_shape, each_shape, *]; done) | (split <;> (try rename_i h) <;> (first | (have e := congrArg (fun p => p.1.shape) h.symm; simp only [State.shape_ite, resShape_ite, fst_shape_ite, snd_shape_ite, optShape_ite, resShape_next, resShape_fault, optShape_some, optShape_none, ite_self, List.length_map, List.length_modify, List.length_zipIdx, State.abortCmd_shape, State.abortJobs_shape, State.emptyAll_shape, State.logImage_shape, State.modFns_shape, State.modFuses_shape, State.modKeys_shape, State.modMasts_shape, State.modPwr_shape, State.modStart_shape, State.respond_shape, State.stopJob_shape, each_shape] at e; clear h) | (have e := congrArg (fun p => p.2.shape) h.symm; simp only [State.shape_ite, resShape_ite, fst_shape_ite, snd_shape_ite, optShape_ite, resShape_next, resShape_fault, optShape_some, optShape_none, ite_self, List.length_map, List.length_modify, List.length_zipIdx, State.abortCmd_shape, State.abortJobs_shape, State.emptyAll_shape, State.logImage_shape, State.modFns_shape, State.modFuses_shape, State.modKeys_shape, State.modMasts_shape, State.modPwr_shape, State.modStart_shape, State.respond_shape, State.stopJob_shape, each_shape] at e; clear h) | (have e := congrArg (fun o => optShape o (State.shape s)) h.symm; simp only [State.shape_ite, resShape_ite, fst_shape_ite, snd_shape_ite, optShape_ite, resShape_next, resShape_fault, optShape_some, optShape_none, ite_self, List.length_map, List.length_modify, List.length_zipIdx, State.abortCmd_shape, State.abortJobs_shape, State.emptyAll_shape, State.logImage_shape, State.modFns_shape, State.modFuses_shape, State.modKeys_shape, State.modMasts_shape, State.modPwr_shape, State.modStart_shape, State.respond_shape, State.stopJob_shape, each_shape] at e; clear h) | skip)) | (with_reducible refine each_shape _ (fun _ _ => ?_) _ _) | (with_reducible refine (each_shape _ (fun _ _ => ?_) _ _).trans ?_) | (with_reducible refine resShape_whenUnit _ _ _ ?_) | (simp only [State.shape_ite, resShape_ite, fst_shape_ite, snd_shape_ite, optShape_ite, resShape_next, resShape_fault, optShape_some, optShape_none, ite_self, List.length_map, List.length_modify, List.length_zipIdx, State.abortCmd_shape, State.abortJobs_shape, State.emptyAll_shape, State.logImage_shape, State.modFns_shape, State.modFuses_shape, State.modKeys_shape, State.modMasts_shape, State.modPwr_shape, State.modStart_shape, State.respond_shape, State.stopJob_shape, each_shape]))
@[simp] theorem State.sanitizeStep_shape (s : State)  :
    (State.sanitizeStep s).shape = s.shape := by
  unfold State.sanitizeStep
  split <;> simp
@[simp] theorem effLeaveReadPreserve_shape (s : State)  :
    (effLeaveReadPreserve s).1.shape = s.shape := by
  unfold effLeaveReadPreserve
  simp
@[simp] theorem State.resumeAdmission_shape (s : State)  :
    (State.resumeAdmission s).shape = s.shape := by
  unfold State.resumeAdmission
  simp
@[simp] theorem State.noExpert_shape (s : State)  :
    (State.noExpert s).shape = s.shape := by
  unfold State.noExpert
  simp
@[simp] theorem State.fetchEntry_shape (s : State) (fn : Nat) (sq : Nat) (port1 : Bool) (op : Instr) (cid : Nat)  :
    (State.fetchEntry s fn sq port1 op cid).shape = s.shape := by
  unfold State.fetchEntry
  split <;> simp
@[simp] theorem State.submit_shape (s : State) (h : NvmeHdr) (op : Instr)  :
    (State.submit s h op).shape = s.shape := by
  unfold State.submit
  simp
  split <;> simp
@[simp] theorem submitted_shape (h : NvmeHdr) (op : Instr) (s : State)  :
    resShape (submitted h op s) s.shape = s.shape := by
  unfold submitted
  simp
@[simp] theorem State.fetchFrom_shape (a1 : Nat) (a2 : Nat) (a3 : Nat) (a4 : Bool) (a5 : State)  :
    (State.fetchFrom a1 a2 a3 a4 a5).shape = a5.shape := by
  induction a1 generalizing a5 with
  | zero => rfl
  | succ n ih =>
    unfold State.fetchFrom
    dsimp only
    split
    · rfl
    · split
      · rfl
      · rw [ih]; simp
@[simp] theorem State.issueReads_shape (s : State) (id : Nat)  :
    (State.issueReads s id).shape = s.shape := by
  unfold State.issueReads
  split <;> simp
@[simp] theorem State.resumeFn_shape (s : State) (fn : Nat) (port1 : Bool)  :
    (State.resumeFn s fn port1).shape = s.shape := by
  unfold State.resumeFn
  simp
@[simp] theorem State.issueWaiting_shape (s : State)  :
    (State.issueWaiting s).shape = s.shape := by
  unfold State.issueWaiting
  simp
@[simp] theorem State.ackPme_shape (s : State) (port : Nat)  :
    (State.ackPme s port).shape = s.shape := by
  unfold State.ackPme
  simp
@[simp] theorem effPauseHostDma_shape (fns : Nat) (s : State)  :
    (effPauseHostDma fns s).1.shape = s.shape := by
  unfold effPauseHostDma
  simp
@[simp] theorem effResumeHostDma_shape (fns : Nat) (s : State)  :
    (effResumeHostDma fns s).1.shape = s.shape := by
  unfold effResumeHostDma
  simp
@[simp] theorem State.resumeAll_shape (s : State)  :
    (State.resumeAll s).shape = s.shape := by
  unfold State.resumeAll
  simp
@[simp] theorem State.markAdmitted_shape (s : State) (id : Nat) (k : LatClass) (reserved : Bool)  :
    (State.markAdmitted s id k reserved).shape = s.shape := by
  unfold State.markAdmitted
  simp
@[simp] theorem State.demoteReads_shape (s : State)  :
    (State.demoteReads s).shape = s.shape := by
  unfold State.demoteReads
  simp
@[simp] theorem State.judgeRead_shape (s : State) (c : Cmd) (e : Extent) (r : Bool) : judgedShape (s.judgeRead c e r) s.shape = s.shape := by
  unfold State.judgeRead
  dsimp only
  repeat' (first
    | rfl
    | (simp only [judgedShape_go, State.finishRead_shape, State.modFn_shape, State.modCmd_shape, State.lookAll_shape, State.markAdmitted_shape]; done)
    | apply judgedShape_both
    | split)
@[simp] theorem State.demandFor_shape (s : State) (ms : List Nat)  :
    (State.demandFor s ms).shape = s.shape := by
  unfold State.demandFor
  simp
theorem State.admitWrite_shape (s t : State) (c : Cmd) (n : Namespace) (k : WriteKind) (e : Extent) (lba times : Nat) (held : Bool)
    (h : t.shape = s.shape) : judgedShape (s.admitWrite t c n k e lba times held) s.shape = s.shape := by
  unfold State.admitWrite
  dsimp only
  repeat' (first | rfl | (simp only [judgedShape_go, State.ackWrite_shape, State.issueReads_shape, State.demandFor_shape, State.modCmd_shape,
    State.markAdmitted_shape, h]; done) | split)
theorem State.assignZone_keeps_shape (u t : State) (d : Shape) (nsid zi count : Nat) (mk : Nat → Stored) (hu : u.shape = d)
    (h : u.assignZone nsid zi count mk = some t) : t.shape = d := by
  have e := congrArg (fun o => optShape o u.shape) h
  simp only [State.assignZone_shape, optShape_some] at e
  rw [← e, hu]
@[simp] theorem State.judgeZoneWrite_shape (s : State) (c : Cmd) (n : Namespace) (k : WriteKind) (e : Extent) (held : Bool) :
    judgedShape (s.judgeZoneWrite c n k e held) s.shape = s.shape := by
  unfold State.judgeZoneWrite
  dsimp only
  repeat' (first
    | rfl
    | (simp only [judgedShape_fail, State.enterReadPreserve_shape, State.finishByDevice_shape]; done)
    | apply State.admitWrite_shape
    | with_reducible apply judgedShape_both
    | split)
  all_goals
    rename_i h1 _ _ h2 _ _ _ _
    have e1 := congrArg (fun p => p.1.shape) h1
    simp only [State.takeResources_shape] at e1
    rw [e1]
    refine State.assignZone_keeps_shape _ _ _ _ _ _ _ ?_ h2
    split
    · simp
    · split <;> simp
theorem State.assignRun_shape (n : Namespace) (ref : Nat) (mk : Nat → Stored) (l : List Nat) (s t : State)
    (h : State.assignRun n ref mk l s = .ok t) : t.shape = s.shape := by
  induction l generalizing s with
  | nil => cases h; rfl
  | cons x l ih =>
    unfold State.assignRun at h
    split at h
    · rename_i u hu
      have e := congrArg (fun o => optShape o s.shape) hu
      simp only [State.assignConv_shape, optShape_some] at e
      rw [ih _ h, ← e]
    · cases h
@[simp] theorem State.judgeConvWrite_shape (s : State) (c : Cmd) (n : Namespace) (k : WriteKind) (e : Extent) (held : Bool) :
    judgedShape (s.judgeConvWrite c n k e held) s.shape = s.shape := by
  unfold State.judgeConvWrite
  dsimp only
  split
  · rfl
  · split
    · rfl
    · split
      · split
        · rfl
        · rw [judgedShape_fail]; split <;> simp
      · rename_i t ht
        split
        · rfl
        · exact State.admitWrite_shape _ _ _ _ _ _ _ _ _ (State.assignRun_shape _ _ _ _ _ _ ht)
@[simp] theorem State.judgeWrite_shape (s : State) (c : Cmd) (k : WriteKind) (e : Extent) (held : Bool) :
    judgedShape (s.judgeWrite c k e held) s.shape = s.shape := by
  unfold State.judgeWrite
  repeat' (first | rfl | exact State.judgeConvWrite_shape _ _ _ _ _ _ | exact State.judgeZoneWrite_shape _ _ _ _ _ _ | split)
@[simp] theorem State.endZoneCmd_shape (s : State) (t : State) (id : Nat) (st : NvmeStatus) (wait : Bool) (ht : t.shape = s.shape) :
    (State.endZoneCmd s t id st wait).shape = s.shape := by
  unfold State.endZoneCmd
  simp [ht]
@[simp] theorem State.zoneSend_shape (s : State) (c : Cmd) (a : ZoneAction) (slba : Nat) (sel : Bool)  :
    (State.zoneSend s c a slba sel).shape = s.shape := by
  unfold State.zoneSend
  simp
  (repeat' split) <;> simp
@[simp] theorem State.zoneExtension_shape (s : State) (c : Cmd) (slba : Nat) (ext : Wide)  :
    (State.zoneExtension s c slba ext).shape = s.shape := by
  unfold State.zoneExtension
  simp
  (repeat' split) <;> simp
@[simp] theorem State.zoneInvalid_shape (s : State) (c : Cmd)  :
    (State.zoneInvalid s c).shape = s.shape := by
  unfold State.zoneInvalid
  split <;> simp
@[simp] theorem State.giveData_shape (s : State) (id : Nat) (fields : List Nat) (result : Nat)  :
    (State.giveData s id fields result).shape = s.shape := by
  unfold State.giveData
  simp
@[simp] theorem State.zoneReceive_shape (s : State) (c : Cmd) (slba : Nat) (filter : Nat) (part : Bool) (limit : Nat) (extended : Bool)  :
    (State.zoneReceive s c slba filter part limit extended).shape = s.shape := by
  unfold State.zoneReceive
  split <;> simp
@[simp] theorem State.dataset_shape (s : State) (c : Cmd) (deallocate : Bool) (ranges : List (Nat × Nat))  :
    (State.dataset s c deallocate ranges).shape = s.shape := by
  unfold State.dataset
  split <;> simp
@[simp] theorem State.flushCmd_shape (s : State) (c : Cmd)  :
    (State.flushCmd s c).shape = s.shape := by
  unfold State.flushCmd
  simp
@[simp] theorem State.runOther_shape (s : State) (c : Cmd)  :
    (State.runOther s c).shape = s.shape := by
  unfold State.runOther
  split <;> simp
@[simp] theorem State.judge_shape (s : State) (c : Cmd) (r held : Bool) : judgedShape (s.judge c r held) s.shape = s.shape := by
  unfold State.judge
  split
  · exact State.judgeWrite_shape _ _ _ _ _
  · exact State.judgeRead_shape _ _ _ _
  · split
    · rfl
    · simp
@[simp] theorem State.charge_shape (s : State) (fn : Nat) (c : Cost)  :
    (State.charge s fn c).shape = s.shape := by
  unfold State.charge
  simp
@[simp] theorem State.holdFor_shape (s : State) (c : Cmd) (k : HoldCause)  :
    (State.holdFor s c k).shape = s.shape := by
  unfold State.holdFor
  simp
@[simp] theorem Pass.turn_shape (r : Bool) (ok : State → Cmd → Bool) (p : Pass) (fn : Nat) : (Pass.turn r ok p fn).s.shape = p.s.shape := by
  unfold Pass.turn
  dsimp only
  split
  · rfl
  · split
    · rfl
    · rename_i c hc
      have e := State.judge_shape p.s c r p.held
      split
      · split <;> simp
      · split
        · rfl
        · split
          · split <;> simp
          · rename_i h
            rw [h] at e
            simpa using e
          · rename_i h
            rw [h] at e
            split
            · split <;> simp
            · simpa using e
@[simp] theorem Pass.rounds_shape (r : Bool) (ok : State → Cmd → Bool) (fns : List Nat) (n : Nat) (p : Pass) :
    (Pass.rounds r ok fns n p).s.shape = p.s.shape := by
  induction n generalizing p with
  | zero => rfl
  | succ n ih =>
    unfold Pass.rounds
    dsimp only
    have e : (fns.foldl (Pass.turn r ok) { p with moved := false }).s.shape = p.s.shape :=
      foldl_shape (fun q : Pass => q.s) _ (fun q f => Pass.turn_shape _ _ _ _) _ _
    split
    · rw [ih, e]
    · exact e
@[simp] theorem State.pass_shape (s : State) (r : Bool) (ok : State → Cmd → Bool) (last : Nat) (held : Bool) :
    (s.pass r ok last held).s.shape = s.shape := by
  unfold State.pass
  exact Pass.rounds_shape _ _ _ _ _
@[simp] theorem State.admitIo_shape (s : State)  :
    (State.admitIo s).shape = s.shape := by
  unfold State.admitIo
  simp
theorem State.logPage_shape (s : State) (c : Cmd) (lid : Nat) (p : State × List Nat) (h : s.logPage c lid = .ok p) :
    p.1.shape = s.shape := by
  unfold State.logPage at h
  dsimp only at h
  repeat' (split at h <;> try (cases h; first | rfl | (simp; done)))
  all_goals cases h
@[simp] theorem State.setTime_shape (s : State) (secs : Nat) (frac : Nat)  :
    (State.setTime s secs frac).1.shape = s.shape := by
  unfold State.setTime
  simp
@[simp] theorem State.setFeature_shape (s : State) (c : Cmd) (fid : Nat) (value : Nat)  :
    (State.setFeature s c fid value).1.shape = s.shape := by
  unfold State.setFeature
  split <;> simp
@[simp] theorem State.createCq_shape (s : State) (c : Cmd) (qid : Nat) (size : Nat) (vector : Nat) (ien : Bool) (contiguous : Bool) (aligned : Bool)  :
    (State.createCq s c qid size vector ien contiguous aligned).1.shape = s.shape := by
  unfold State.createCq
  simp
@[simp] theorem State.createSq_shape (s : State) (c : Cmd) (qid : Nat) (size : Nat) (cqid : Nat) (contiguous : Bool) (aligned : Bool)  :
    (State.createSq s c qid size cqid contiguous aligned).1.shape = s.shape := by
  unfold State.createSq
  simp
@[simp] theorem State.deleteSq_shape (s : State) (c : Cmd) (qid : Nat)  :
    (State.deleteSq s c qid).1.shape = s.shape := by
  unfold State.deleteSq
  simp
@[simp] theorem State.deleteCq_shape (s : State) (c : Cmd) (qid : Nat)  :
    (State.deleteCq s c qid).1.shape = s.shape := by
  unfold State.deleteCq
  simp
@[simp] theorem State.abortOf_shape (s : State) (c : Cmd) (sq : Nat) (cid : Nat)  :
    (State.abortOf s c sq cid).1.shape = s.shape := by
  unfold State.abortOf
  split <;> simp
@[simp] theorem State.eventRequest_shape (s : State) (c : Cmd)  :
    (State.eventRequest s c).shape = s.shape := by
  unfold State.eventRequest
  simp
  split <;> simp
@[simp] theorem endAdmin_shape (c : Cmd) (r : State × NvmeStatus) : (endAdmin c r).shape = r.1.shape := by
  unfold endAdmin
  simp
@[simp] theorem State.runAdmin_shape (s : State) (c : Cmd)  :
    (State.runAdmin s c).shape = s.shape := by
  unfold State.runAdmin
  repeat' (first | rfl | (simp; done) | split)
  all_goals first
    | (rename_i h; have e := State.logPage_shape _ _ _ _ h; simp at e; simp [e]; done)
    | (rename_i h; have e := congrArg (fun p => p.1.shape) h; simp at e; simp [← e]; done)
    | skip
@[simp] theorem State.admitAdmin_shape (s : State)  :
    (State.admitAdmin s).shape = s.shape := by
  unfold State.admitAdmin
  repeat' (first | (with_reducible rfl) | (simp; done) | (simp [*]; done) | (split <;> (try rename_i h) <;> (first | (have e := congrArg (fun p => p.1.shape) h.symm; simp at e; clear h) | (have e := congrArg (fun p => p.2.shape) h.symm; simp at e; clear h) | (have e := congrArg (fun o => optShape o s.shape) h.symm; simp at e; clear h) | skip)) | (with_reducible refine (each_shape _ (fun _ _ => ?_) _ _).trans ?_) | (simp))
@[simp] theorem State.adminStep4_shape (s : State)  :
    (State.adminStep4 s).shape = s.shape := by
  unfold State.adminStep4
  repeat' (first | (with_reducible rfl) | (simp; done) | (simp [*]; done) | (split <;> (try rename_i h) <;> (first | (have e := congrArg (fun p => p.1.shape) h.symm; simp at e; clear h) | (have e := congrArg (fun p => p.2.shape) h.symm; simp at e; clear h) | (have e := congrArg (fun o => optShape o s.shape) h.symm; simp at e; clear h) | skip)) | (with_reducible refine (each_shape _ (fun _ _ => ?_) _ _).trans ?_) | (simp))
@[simp] theorem State.admission_shape (s : State)  :
    (State.admission s).shape = s.shape := by
  unfold State.admission
  simp
@[simp] theorem State.mi_shape (s : State) (inBand : Bool) (fn : Nat) (k : State → State × Nat × List Nat) (h_k : ∀ x0, (k x0).1.shape = x0.shape) :
    (State.mi s inBand fn k).shape = s.shape := by
  unfold State.mi
  simp [h_k]
@[simp] theorem State.modCache_shape (s : State) (m : Nat) (f : Cache → Cache)  :
    (State.modCache s m f).shape = s.shape := by
  unfold State.modCache
  simp
@[simp] theorem State.onCache_shape (s : State) (m : Nat) (f : Cache → Cache)  :
    (State.onCache s m f).shape = s.shape := by
  unfold State.onCache
  simp
@[simp] theorem State.relockRecords_shape (s : State)  :
    (State.relockRecords s).shape = s.shape := by
  unfold State.relockRecords
  simp
@[simp] theorem State.retireBank_shape (s : State) (i : Nat) (bank : Nat)  :
    (State.retireBank s i bank).shape = s.shape := by
  unfold State.retireBank
  simp
@[simp] theorem State.retirePage_shape (s : State) (i : Nat) (page : Nat)  :
    (State.retirePage s i page).shape = s.shape := by
  unfold State.retirePage
  simp
@[simp] theorem State.reportCorrection_shape (s : State) (i : Nat) (address : Nat)  :
    (State.reportCorrection s i address).shape = s.shape := by
  unfold State.reportCorrection
  simp
@[simp] theorem State.unitLost_shape (s : State) (b : Stored)  :
    (State.unitLost s b).shape = s.shape := by
  unfold State.unitLost
  split <;> simp
@[simp] theorem State.dramError_shape (s : State) (a1 : MemHolds)  :
    (State.dramError s a1).shape = s.shape := by
  unfold State.dramError
  (repeat' split) <;> simp
@[simp] theorem effGetIdentity_shape (v : Via) (s : State)  :
    (effGetIdentity v s).1.shape = s.shape := by
  unfold effGetIdentity
  simp
@[simp] theorem effGetTime_shape (s : State)  :
    (effGetTime s).1.shape = s.shape := by
  unfold effGetTime
  simp
@[simp] theorem effSetTime_shape (secs : Nat) (frac : Nat) (s : State)  :
    (effSetTime secs frac s).1.shape = s.shape := by
  unfold effSetTime
  simp
@[simp] theorem effGetOwnerChallenge_shape (v : Via) (s : State)  :
    (effGetOwnerChallenge v s).1.shape = s.shape := by
  unfold effGetOwnerChallenge
  simp
@[simp] theorem effGetPatrolStatus_shape (s : State)  :
    (effGetPatrolStatus s).1.shape = s.shape := by
  unfold effGetPatrolStatus
  simp
@[simp] theorem effGetLossLedger_shape (v : Via) (nsid : Nat) (first : Nat) (count : Nat) (s : State)  :
    (effGetLossLedger v nsid first count s).1.shape = s.shape := by
  unfold effGetLossLedger
  simp
@[simp] theorem effGetLunHealth_shape (glun : Nat) (s : State)  :
    (effGetLunHealth glun s).1.shape = s.shape := by
  unfold effGetLunHealth
  simp
@[simp] theorem effGetPowerStatus_shape (s : State)  :
    (effGetPowerStatus s).1.shape = s.shape := by
  unfold effGetPowerStatus
  simp
@[simp] theorem effGetThermal_shape (s : State)  :
    (effGetThermal s).1.shape = s.shape := by
  unfold effGetThermal
  simp
@[simp] theorem effGetPortStatistics_shape (port : Nat) (s : State)  :
    (effGetPortStatistics port s).1.shape = s.shape := by
  unfold effGetPortStatistics
  simp
@[simp] theorem effGetIncompleteStripeSets_shape (width : Nat) (first : Nat) (count : Nat) (s : State)  :
    (effGetIncompleteStripeSets width first count s).1.shape = s.shape := by
  unfold effGetIncompleteStripeSets
  simp
@[simp] theorem effGetMastStatus_shape (m : Nat) (s : State)  :
    (effGetMastStatus m s).1.shape = s.shape := by
  unfold effGetMastStatus
  simp
@[simp] theorem effStartCapacitanceSelfTest_shape (v1 : Nat) (s : State)  :
    (effStartCapacitanceSelfTest v1 s).1.shape = s.shape := by
  unfold effStartCapacitanceSelfTest
  simp
@[simp] theorem effGetInternalResources_shape (s : State)  :
    (effGetInternalResources s).1.shape = s.shape := by
  unfold effGetInternalResources
  simp
@[simp] theorem State.modMbxAt_shape (s : State) (v : Via) (f : Mbx → Mbx)  :
    (State.modMbxAt s v f).shape = s.shape := by
  unfold State.modMbxAt
  simp
@[simp] theorem State.spendChallenge_shape (s : State) (m : MbxHdr)  :
    (State.spendChallenge s m).shape = s.shape := by
  unfold State.spendChallenge
  split <;> simp
@[simp] theorem State.goWith_shape (s : State) (m : MbxHdr) (i : Instr) (c : MForm) (known : Bool)  :
    (State.goWith s m i c known).shape = s.shape := by
  unfold State.goWith
  (repeat' split) <;> simp
@[simp] theorem State.go_shape (s : State) (i : Instr)  :
    resShape (State.go s i) s.shape = s.shape := by
  unfold State.go
  split <;> simp
@[simp] theorem applyMbx_shape (i : Instr) (s : State)  :
    (applyMbx i s).1.shape = s.shape := by
  unfold applyMbx
  split <;> simp
@[simp] theorem State.finishMbx_shape (s : State) (m : MbxHdr) (c : MForm) (r : Resp)  :
    (State.finishMbx s m c r).shape = s.shape := by
  unfold State.finishMbx
  simp
  split <;> simp
@[simp] theorem State.heldEffect_shape (s : State) (i : Instr) (r : Resp) :
    (State.heldEffect s i r).1.shape = s.shape := by
  unfold State.heldEffect
  (repeat' split) <;> simp
@[simp] theorem State.answerHeld_shape (s : State)  :
    (State.answerHeld s).shape = s.shape := by
  unfold State.answerHeld
  repeat' (first | (with_reducible rfl) | (simp; done) | (simp [*]; done) | (split <;> (try rename_i h) <;> (first | (have e := congrArg (fun p => p.1.shape) h.symm; simp at e; clear h) | (have e := congrArg (fun p => p.2.shape) h.symm; simp at e; clear h) | (have e := congrArg (fun o => optShape o s.shape) h.symm; simp at e; clear h) | skip)) | (with_reducible refine (each_shape _ (fun _ _ => ?_) _ _).trans ?_) | (simp))
@[simp] theorem State.takeEffect_shape (queries : Bool) (s : State) (v : Via)  :
    (State.takeEffect queries s v).shape = s.shape := by
  unfold State.takeEffect
  repeat' (first | (with_reducible rfl) | (simp; done) | (simp [*]; done) | (split <;> (try rename_i h) <;> (first | (have e := congrArg (fun p => p.1.shape) h.symm; simp at e; clear h) | (have e := congrArg (fun p => p.2.shape) h.symm; simp at e; clear h) | (have e := congrArg (fun o => optShape o s.shape) h.symm; simp at e; clear h) | skip)) | (with_reducible refine (each_shape _ (fun _ _ => ?_) _ _).trans ?_) | (simp))
@[simp] theorem State.mailboxChanges_shape (s : State)  :
    (State.mailboxChanges s).shape = s.shape := by
  unfold State.mailboxChanges
  simp
@[simp] theorem State.mailboxQueries_shape (s : State)  :
    (State.mailboxQueries s).shape = s.shape := by
  unfold State.mailboxQueries
  simp
@[simp] theorem State.planTry_shape (s : State) (e : PlanEntry)  :
    optShape (State.planTry s e) s.shape = s.shape := by
  unfold State.planTry
  simp
@[simp] theorem State.planAdd_shape (s : State) (e : PlanEntry)  :
    (State.planAdd s e).shape = s.shape := by
  have h := State.planTry_shape s e
  unfold State.planAdd
  cases k : s.planTry e with
  | none => rfl
  | some t => rw [k] at h; exact h
@[simp] theorem State.planAll_shape (s : State) (a1 : List PlanEntry)  :
    optShape (State.planAll s a1) s.shape = s.shape := by
  induction a1 generalizing s with
  | nil => rfl
  | cons e es ih =>
    unfold State.planAll
    have h := State.planTry_shape s e
    cases k : s.planTry e with
    | none => rfl
    | some t =>
      rw [k, optShape_some] at h
      have g := ih t
      cases m : t.planAll es with
      | none => simp [Option.bind, m]
      | some u =>
        rw [m, optShape_some] at g
        simp [Option.bind, m, g, h]
@[simp] theorem State.planSuspends_shape (s : State)  :
    (State.planSuspends s).shape = s.shape := by
  unfold State.planSuspends
  simp
@[simp] theorem State.sendReads_shape (s : State) (c : Cmd) (i : Nat) (b : RBlock)  :
    (State.sendReads s c i b).shape = s.shape := by
  unfold State.sendReads
  dsimp only
  split
  · rfl
  · split
    · rename_i t h
      have e := State.planAll_shape s (b.reads.map fun x => { s.entry x 0 s.profile.cmdCycles (c.cls != .c) with ref := some (c.id, i), addr := s.readAddress b x })
      rw [h] at e
      simpa using e
    · rfl
@[simp] theorem State.burstReads_shape (s : State) (c : Cmd) (i : Nat) (b : RBlock)  :
    (State.burstReads s c i b).shape = s.shape := by
  unfold State.burstReads
  dsimp only
  split
  · rfl
  · refine (each_shape _ (fun s x => ?_) _ _).trans ?_
    · split
      · rename_i t h
        have e := congrArg (fun o => optShape o s.shape) h
        simp only [State.planTry_shape, optShape_some] at e
        simpa using e.symm
      · rfl
    · split <;> simp
@[simp] theorem State.planReads_shape (s : State) (contracted : Bool)  :
    (State.planReads s contracted).shape = s.shape := by
  unfold State.planReads
  repeat' (first | (with_reducible rfl) | (simp; done) | (simp [*]; done) | (split <;> (try rename_i h) <;> (first | (have e := congrArg (fun p => p.1.shape) h.symm; simp at e; clear h) | (have e := congrArg (fun p => p.2.shape) h.symm; simp at e; clear h) | (have e := congrArg (fun o => optShape o s.shape) h.symm; simp at e; clear h) | skip)) | (with_reducible refine (each_shape _ (fun _ _ => ?_) _ _).trans ?_) | (simp))
@[simp] theorem State.planPolls_shape (s : State)  :
    (State.planPolls s).shape = s.shape := by
  unfold State.planPolls
  exact each_shape _ (fun s x => by (repeat' split) <;> simp) _ _
@[simp] theorem State.planData_shape (s : State) (glun : Nat)  :
    (State.planData s glun).shape = s.shape := by
  unfold State.planData
  refine each_shape _ (fun s x => ?_) _ _
  split
  · rename_i t h
    have e := congrArg (fun o => optShape o s.shape) h
    simp only [State.planTry_shape, optShape_some] at e
    simpa using e.symm
  · rfl
@[simp] theorem State.planDies_shape (s : State)  :
    (State.planDies s).shape = s.shape := by
  unfold State.planDies
  refine each_shape _ (fun s x => ?_) _ _
  split
  · rfl
  · split
    · split <;> simp
    · split
      · rfl
      · split
        · simp
        · split
          · rename_i t h
            have e := congrArg (fun o => optShape o s.shape) h
            simp only [State.planTry_shape, optShape_some] at e
            simpa using e.symm
          · rfl
@[simp] theorem State.buildPlans_shape (s : State)  :
    (State.buildPlans s).shape = s.shape := by
  unfold State.buildPlans
  simp
@[simp] theorem State.drainPort_shape (s : State) (p : Nat)  :
    (State.drainPort s p).shape = s.shape := by
  unfold State.drainPort
  simp
@[simp] theorem State.runPort_shape (s : State) (cuts : List (Nat × Nat)) (p : Nat)  :
    (State.runPort s cuts p).shape = s.shape := by
  unfold State.runPort
  simp
@[simp] theorem State.runPlans_shape (s : State) (cuts : List (Nat × Nat))  :
    (State.runPlans s cuts).shape = s.shape := by
  unfold State.runPlans
  simp
@[simp] theorem State.reportBound_shape (s : State) (fn : Nat) (code : Nat) (count : Counters → Nat) (last : Counters → Nat) (at_ : Counters → Option Nat) (mark : Nat → Counters → Counters)  :
    (State.reportBound s fn code count last at_ mark).shape = s.shape := by
  unfold State.reportBound
  simp
@[simp] theorem State.reportBounds_shape (s : State)  :
    (State.reportBounds s).shape = s.shape := by
  unfold State.reportBounds
  simp
@[simp] theorem State.applyReef_shape (s : State)  :
    (State.applyReef s).shape = s.shape := by
  unfold State.applyReef
  simp
@[simp] theorem State.stepOf_shape (f : State → State) (s : State) (h_f : ∀ x0, (f x0).shape = x0.shape) :
    (State.stepOf f s).shape = s.shape := by
  unfold State.stepOf
  simp [h_f]
theorem State.latchInputs_shape (inp : FrameIn) (s : State) :
    (State.latchInputs inp s).shape = { s.shape with frame := s.clk.frame + 1 } := by
  unfold State.latchInputs
  dsimp only
  rw [State.halyardFrame_shape, State.runPlans_shape, State.modIo_shape _ _ rfl, State.measurePower_shape, State.modNrg_shape]
  rfl
@[simp] theorem State.collect_shape (s : State)  :
    (State.collect s).shape = s.shape := by
  unfold State.collect
  simp
@[simp] theorem State.changes_shape (s : State)  :
    (State.changes s).shape = s.shape := by
  unfold State.changes
  simp
@[simp] theorem State.decisions_shape (s : State)  :
    (State.decisions s).shape = s.shape := by
  unfold State.decisions
  simp
@[simp] theorem State.refreshCredits_shape (s : State)  :
    (State.refreshCredits s).shape = s.shape := by
  unfold State.refreshCredits
  simp
@[simp] theorem State.dispatchWork_shape (s : State)  :
    (State.dispatchWork s).shape = s.shape := by
  unfold State.dispatchWork
  simp
@[simp] theorem State.frameSteps_shape (s : State)  :
    (State.frameSteps s).shape = s.shape := by
  unfold State.frameSteps
  simp
@[simp] theorem State.badAccess_shape (s : State) (fn : Nat) (port1 : Bool)  :
    (State.badAccess s fn port1).shape = s.shape := by
  unfold State.badAccess
  simp
@[simp] theorem State.latchRead_shape (s : State) (fn : Nat) (port1 : Bool) (offset : Nat) (bits : Nat) (latch : Ctrl → Ctrl)  :
    (State.latchRead s fn port1 offset bits latch).shape = s.shape := by
  unfold State.latchRead
  simp
@[simp] theorem State.tap_shape (s : State) (ir : Nat) (value : Nat)  :
    (State.tap s ir value).shape = s.shape := by
  unfold State.tap
  simp
@[simp] theorem jtagRes_shape (s : State) (k : State) (hk : k.shape = s.shape) :
    resShape (jtagRes s k) s.shape = s.shape := by
  unfold jtagRes
  simp [hk]
@[simp] theorem State.takePins_shape (s : State) (ir : Nat)  :
    (State.takePins s ir).shape = s.shape := by
  unfold State.takePins
  simp

end Sys2Proof.Machine
end

