-- ==== Sys2Proof/Laws/Steady.lean ====
section
/-! SUPPORT. The shared updates that leave the steady parts of a state (Safety.Steady). -/

namespace Sys2Proof.Machine

/-- The steady parts as an outcome leaves them: those of its next state, or `d` where there is none. -/
def resSteady (r : Res) (d : Steady) : Steady :=
  match r with
  | .next t => t.steady
  | .fault _ => d
  | .refused _ => d
/-- The same of an optional state. -/
def optSteady (r : Option State) (d : Steady) : Steady :=
  match r with
  | some t => t.steady
  | none => d

@[simp] theorem resSteady_next (t : State) (d : Steady) : resSteady (.next t) d = t.steady := rfl
@[simp] theorem resSteady_fault (f : Fault) (d : Steady) : resSteady (.fault f) d = d := rfl
@[simp] theorem optSteady_some (t : State) (d : Steady) : optSteady (some t) d = t.steady := rfl
@[simp] theorem optSteady_none (d : Steady) : optSteady none d = d := rfl
@[simp] theorem resSteady_ite (c : Prop) [Decidable c] (a b : Res) (d : Steady) :
    resSteady (if c then a else b) d = if c then resSteady a d else resSteady b d := by split <;> rfl
@[simp] theorem resSteady_whenUnit (c : Bool) (k : Res) (d : Steady) (h : resSteady k d = d) : resSteady (whenUnit c k) d = d := by
  unfold whenUnit; split
  · exact h
  · rfl
@[simp] theorem State.steady_ite (c : Prop) [Decidable c] (a b : State) : (if c then a else b).steady = if c then a.steady else b.steady := by
  split <;> rfl
@[simp] theorem fst_steady_ite {α : Type} (c : Prop) [Decidable c] (a b : State × α) :
    (if c then a else b).1.steady = if c then a.1.steady else b.1.steady := by split <;> rfl
@[simp] theorem snd_steady_ite {α : Type} (c : Prop) [Decidable c] (a b : α × State) :
    (if c then a else b).2.steady = if c then a.2.steady else b.2.steady := by split <;> rfl
@[simp] theorem optSteady_ite (c : Prop) [Decidable c] (a b : Option State) (d : Steady) :
    optSteady (if c then a else b) d = if c then optSteady a d else optSteady b d := by split <;> rfl

/-- A run of updates that each leave the steady parts leaves them. -/
@[simp] theorem each_steady {α : Type} (f : State → α → State) (h : ∀ s x, (f s x).steady = s.steady) (l : List α) (s : State) :
    (each l f s).steady = s.steady := by
  unfold each
  induction l generalizing s with
  | nil => rfl
  | cons x l ih => rw [List.foldl_cons, ih, h]
@[simp] theorem State.iff_steady (s : State) (c : Bool) (f : State → State) (h : (f s).steady = s.steady) : (s.iff c f).steady = s.steady := by
  unfold State.iff; split
  · exact h
  · rfl

@[simp] theorem State.modStart_steady (s : State) (f : Startup → Startup) : (s.modStart f).steady = s.steady := rfl
@[simp] theorem State.modPwr_steady (s : State) (f : Power → Power) : (s.modPwr f).steady = s.steady := rfl
@[simp] theorem State.modMasts_steady (s : State) (f : List Mast → List Mast) : (s.modMasts f).steady = s.steady := rfl
@[simp] theorem State.modLuns_steady (s : State) (f : List Lun → List Lun) : (s.modLuns f).steady = s.steady := rfl
@[simp] theorem State.modMedia_steady (s : State) (f : Media → Media) : (s.modMedia f).steady = s.steady := rfl
@[simp] theorem State.modNss_steady (s : State) (f : List Namespace → List Namespace) : (s.modNss f).steady = s.steady := rfl
@[simp] theorem State.modFns_steady (s : State) (f : List Fn → List Fn) : (s.modFns f).steady = s.steady := rfl
@[simp] theorem State.modCtrl1_steady (s : State) (f : Ctrl → Ctrl) : (s.modCtrl1 f).steady = s.steady := rfl
@[simp] theorem State.modIo_steady (s : State) (f : HostIo → HostIo) : (s.modIo f).steady = s.steady := rfl
@[simp] theorem State.modKeys_steady (s : State) (f : Keys → Keys) : (s.modKeys f).steady = s.steady := rfl
@[simp] theorem State.modMbx_steady (s : State) (f : Mailboxes → Mailboxes) : (s.modMbx f).steady = s.steady := rfl
@[simp] theorem State.modHal_steady (s : State) (f : Halyard → Halyard) : (s.modHal f).steady = s.steady := rfl
@[simp] theorem State.modPeer_steady (s : State) (f : Peer → Peer) : (s.modPeer f).steady = s.steady := rfl
@[simp] theorem State.modEvt_steady (s : State) (f : Events → Events) : (s.modEvt f).steady = s.steady := rfl
@[simp] theorem State.modCtl_steady (s : State) (f : List (Nat × Nat × Nat) → List (Nat × Nat × Nat)) : (s.modCtl f).steady = s.steady := rfl

end Sys2Proof.Machine
end

