-- ==== Sys2Proof/Laws/SteadyMedia.lean ====
section
/-! SUPPORT. What the shared operations of the media, the read and write paths and the masts leave as it is: the steady parts of a state (Safety.Steady). -/

namespace Sys2Proof.Machine

set_option maxRecDepth 4000
set_option linter.unusedSimpArgs false
set_option linter.unusedTactic false
set_option linter.unreachableTactic false

/-- A fold whose step leaves the steady parts leaves them. -/
theorem foldl_steady {α β : Type} (p : β → State) (f : β → α → β) (h : ∀ b x, (p (f b x)).steady = (p b).steady) (l : List α) (b : β) :
    (p (l.foldl f b)).steady = (p b).steady := by
  induction l generalizing b with
  | nil => rfl
  | cons x l ih => rw [List.foldl_cons, ih, h]
@[simp] theorem State.modMast_steady (s : State) (m : Nat) (f : Mast → Mast)  :
    (State.modMast s m f).steady = s.steady := by
  unfold State.modMast
  simp
@[simp] theorem State.modFn_steady (s : State) (f : Nat) (g : Fn → Fn)  :
    (State.modFn s f g).steady = s.steady := by
  unfold State.modFn
  simp
@[simp] theorem State.modLun_steady (s : State) (g : Nat) (f : Lun → Lun)  :
    (State.modLun s g f).steady = s.steady := by
  unfold State.modLun
  simp
@[simp] theorem State.modHport_steady (s : State) (p : Nat) (f : HPort → HPort)  :
    (State.modHport s p f).steady = s.steady := by
  unfold State.modHport
  simp
@[simp] theorem State.modHostPort_steady (s : State) (p : Nat) (f : HostPort → HostPort)  :
    (State.modHostPort s p f).steady = s.steady := by
  unfold State.modHostPort
  simp
@[simp] theorem State.modCtrl_steady (s : State) (f : Nat) (port1 : Bool) (g : Ctrl → Ctrl)  :
    (State.modCtrl s f port1 g).steady = s.steady := by
  unfold State.modCtrl
  simp
@[simp] theorem State.modNs_steady (s : State) (nsid : Nat) (f : Namespace → Namespace)  :
    (State.modNs s nsid f).steady = s.steady := by
  unfold State.modNs
  simp
@[simp] theorem State.modZone_steady (s : State) (nsid : Nat) (zi : Nat) (f : Zone → Zone)  :
    (State.modZone s nsid zi f).steady = s.steady := by
  unfold State.modZone
  simp
@[simp] theorem State.modSeg_steady (s : State) (seq : Nat) (f : Segment → Segment)  :
    (State.modSeg s seq f).steady = s.steady := by
  unfold State.modSeg
  simp
@[simp] theorem State.modBlocks_steady (s : State) (p : Stored → Bool) (f : Stored → Stored)  :
    (State.modBlocks s p f).steady = s.steady := by
  unfold State.modBlocks
  simp
@[simp] theorem State.dropBlocks_steady (s : State) (p : Stored → Bool)  :
    (State.dropBlocks s p).steady = s.steady := by
  unfold State.dropBlocks
  simp
@[simp] theorem State.modJournal_steady (s : State) (j : Nat) (f : Journal → Journal)  :
    (State.modJournal s j f).steady = s.steady := by
  unfold State.modJournal
  simp
@[simp] theorem State.log_steady (s : State) (j : Nat) (r : JRec)  :
    (State.log s j r).steady = s.steady := by
  unfold State.log
  simp
@[simp] theorem State.modSlot_steady (s : State) (n : Nat) (f : Slot → Slot)  :
    (State.modSlot s n f).steady = s.steady := by
  unfold State.modSlot
  simp
@[simp] theorem State.modKeyRef_steady (s : State) (n : Nat) (f : KeyRef → KeyRef)  :
    (State.modKeyRef s n f).steady = s.steady := by
  unfold State.modKeyRef
  simp
@[simp] theorem State.modCmd_steady (s : State) (id : Nat) (f : Cmd → Cmd)  :
    (State.modCmd s id f).steady = s.steady := by
  unfold State.modCmd
  simp
@[simp] theorem State.modCmds_steady (s : State) (p : Cmd → Bool) (f : Cmd → Cmd)  :
    (State.modCmds s p f).steady = s.steady := by
  unfold State.modCmds
  simp
@[simp] theorem State.modPartner_steady (s : State) (fp : Digest) (f : Partner → Partner)  :
    (State.modPartner s fp f).steady = s.steady := by
  unfold State.modPartner
  simp
@[simp] theorem State.modJob_steady (s : State) (id : Nat) (f : Job → Job)  :
    (State.modJob s id f).steady = s.steady := by
  unfold State.modJob
  simp
@[simp] theorem State.modMirror_steady (s : State) (id : Nat) (f : Mirror → Mirror)  :
    (State.modMirror s id f).steady = s.steady := by
  unfold State.modMirror
  simp
@[simp] theorem State.emit_steady (s : State) (o : Out)  :
    (State.emit s o).steady = s.steady := by simp [State.emit, State.steady]
@[simp] theorem State.raise_steady (s : State) (source : Nat) (code : Nat) (severity : Nat) (args : List Nat) (fn : Nat)  :
    (State.raise s source code severity args fn).steady = s.steady := by
  unfold State.raise
  simp
@[simp] theorem State.settleEvents_steady (s : State) (n : Nat)  :
    (State.settleEvents s n).steady = s.steady := by
  unfold State.settleEvents
  simp
@[simp] theorem State.bump_steady (s : State)  :
    (State.bump s).steady = s.steady := by simp [State.bump, State.steady]
@[simp] theorem State.setCtl_steady (s : State) (ident : Nat) (scope : Nat) (value : Nat)  :
    (State.setCtl s ident scope value).steady = s.steady := by
  unfold State.setCtl
  simp
@[simp] theorem State.unsetCtl_steady (s : State) (ident : Nat) (scope : Nat)  :
    (State.unsetCtl s ident scope).steady = s.steady := by
  unfold State.unsetCtl
  simp
@[simp] theorem State.modBlock_steady (s : State) (glun : Nat) (b : Nat) (f : EBlock → EBlock)  :
    (State.modBlock s glun b f).steady = s.steady := by
  unfold State.modBlock
  simp
@[simp] theorem State.interrupt_steady (s : State) (f : Nat) (port1 : Bool) (v : Nat)  :
    (State.interrupt s f port1 v).steady = s.steady := by
  unfold State.interrupt
  simp
@[simp] theorem State.modRing_steady (s : State) (fn : Nat) (r : Nat) (f : Ring → Ring)  :
    (State.modRing s fn r f).steady = s.steady := by
  unfold State.modRing
  simp
@[simp] theorem State.ringVisible_steady (s : State) (fn : Nat) (r : Nat) (due : Bool)  :
    (State.ringVisible s fn r due).steady = s.steady := by
  unfold State.ringVisible
  simp
@[simp] theorem State.ringFailed_steady (s : State) (fn : Nat) (r : Nat)  :
    (State.ringFailed s fn r).steady = s.steady := by
  unfold State.ringFailed
  simp
@[simp] theorem State.cqInterrupt_steady (s : State) (f : Nat) (port1 : Bool) (cq : Cq)  :
    (State.cqInterrupt s f port1 cq).steady = s.steady := by
  unfold State.cqInterrupt
  simp
@[simp] theorem State.postEntry_steady (s : State) (f : Nat) (port1 : Bool) (e : Cqe)  :
    (State.postEntry s f port1 e).steady = s.steady := by
  unfold State.postEntry
  simp
  (repeat' split) <;> simp
@[simp] theorem State.asyncEvent_steady (s : State) (f : Nat) (port1 : Bool) (info : Nat)  :
    (State.asyncEvent s f port1 info).steady = s.steady := by
  unfold State.asyncEvent
  simp
  split <;> simp
@[simp] theorem State.errorLog_steady (s : State) (f : Nat) (port1 : Bool) (status : Nat) (what : Nat)  :
    (State.errorLog s f port1 status what).steady = s.steady := by
  unfold State.errorLog
  simp
@[simp] theorem State.post_steady (s : State) (c : Cmd)  :
    (State.post s c).steady = s.steady := by
  unfold State.post
  simp
@[simp] theorem State.tryPost_steady (s : State) (id : Nat)  :
    (State.tryPost s id).steady = s.steady := by
  unfold State.tryPost
  split <;> simp
@[simp] theorem State.request_steady (s : State) (r : DmaReq)  :
    (State.request s r).steady = s.steady := by
  unfold State.request
  simp
@[simp] theorem State.deliver_steady (s : State) (id : Nat) (data : List HostBlock)  :
    (State.deliver s id data).steady = s.steady := by
  unfold State.deliver
  split <;> simp
@[simp] theorem State.conclude_steady (s : State) (id : Nat) (st : NvmeStatus) (data : (List HostBlock)) (result : Nat) (errLba : (Option Nat))  :
    (State.conclude s id st data result errLba).steady = s.steady := by
  unfold State.conclude
  (repeat' split) <;> simp
@[simp] theorem State.dropReqs_steady (s : State) (id : Nat)  :
    (State.dropReqs s id).steady = s.steady := by
  unfold State.dropReqs
  simp
@[simp] theorem State.dropCmd_steady (s : State) (c : Cmd)  :
    (State.dropCmd s c).steady = s.steady := by
  unfold State.dropCmd
  simp
@[simp] theorem State.dropSquashed_steady (s : State) (id : Nat)  :
    (State.dropSquashed s id).steady = s.steady := by
  unfold State.dropSquashed
  split <;> simp
@[simp] theorem State.put_steady (s : State) (port : Nat) (k : TxPkt)  :
    (State.put s port k).steady = s.steady := by
  unfold State.put
  simp
@[simp] theorem State.tx_steady (s : State) (port : Nat) (k : TxPkt)  :
    (State.tx s port k).steady = s.steady := by
  unfold State.tx
  simp
@[simp] theorem State.flushPort_steady (a1 : Nat) (a2 : Nat) (a3 : State)  :
    (State.flushPort a1 a2 a3).steady = a3.steady := by
  induction a1 generalizing a3 with
  | zero => rfl
  | succ n ih =>
    unfold State.flushPort
    dsimp only
    split
    · rfl
    · split
      · rfl
      · rw [ih]; simp
@[simp] theorem State.sendNak_steady (s : State) (port : Nat) (reason : Nat)  :
    (State.sendNak s port reason).steady = s.steady := by
  unfold State.sendNak
  simp
@[simp] theorem State.sendOp_steady (s : State) (fp : Digest) (code : Nat) (args : List Nat) (packets : Nat)  :
    (State.sendOp s fp code args packets).steady = s.steady := by
  unfold State.sendOp
  split <;> simp
@[simp] theorem State.sealHeld_steady (s : State) (p : Stored → Bool)  :
    (State.sealHeld s p).steady = s.steady := by
  unfold State.sealHeld
  repeat' (first | (with_reducible rfl) | (simp; done) | (simp [*]; done) | (split <;> (try rename_i h) <;> (first | (have e := congrArg (fun p => p.1.steady) h.symm; simp at e; clear h) | (have e := congrArg (fun p => p.2.steady) h.symm; simp at e; clear h) | (have e := congrArg (fun o => optSteady o s.steady) h.symm; simp at e; clear h) | skip)) | (with_reducible refine (each_steady _ (fun _ _ => ?_) _ _).trans ?_) | (simp))
@[simp] theorem State.rehome_steady (s : State) (m : Nat)  :
    (State.rehome s m).steady = s.steady := by
  unfold State.rehome
  simp
@[simp] theorem State.takeGen_steady (s : State)  :
    (State.takeGen s).2.steady = s.steady := by
  unfold State.takeGen
  simp
@[simp] theorem State.takeSeq_steady (s : State)  :
    (State.takeSeq s).2.steady = s.steady := by
  unfold State.takeSeq
  simp
@[simp] theorem State.logZone_steady (s : State) (nsid : Nat) (zi : Nat)  :
    (State.logZone s nsid zi).steady = s.steady := by
  unfold State.logZone
  simp
@[simp] theorem State.notifyZone_steady (s : State) (nsid : Nat) (zi : Nat)  :
    (State.notifyZone s nsid zi).steady = s.steady := by
  unfold State.notifyZone
  simp
  split <;> simp
theorem State.allocSegment_steady (s : State) (proto : Segment) (p : Nat × State) (h : s.allocSegment proto = some p) :
    p.2.steady = s.steady := by
  unfold State.allocSegment at h
  split at h
  · cases h
  · simp only [Option.some.injEq] at h
    subst h
    simp only [State.log_steady]
    rw [State.modMedia_steady, each_steady]
    · simp
    · intro t x
      split <;> simp
@[simp] theorem State.releaseSegment_steady (s : State) (seq : Nat)  :
    (State.releaseSegment s seq).steady = s.steady := by
  unfold State.releaseSegment
  split <;> simp
@[simp] theorem State.retireRescue_steady (s : State)  :
    (State.retireRescue s).steady = s.steady := by
  unfold State.retireRescue
  simp
@[simp] theorem State.rescuePut_steady (s : State) (x : Nat) (pages : Nat)  :
    (State.rescuePut s x pages).2.steady = s.steady := by
  unfold State.rescuePut
  simp
@[simp] theorem State.rescueRun_steady (s : State) (luns : List Nat) (id : Nat × Nat) (first : Bool) (l : List Stored)  :
    (State.rescueRun s luns id first l).steady = s.steady := by
  unfold State.rescueRun
  simp
@[simp] theorem State.park_steady (s : State) (nsid : Nat) (zi : Nat)  :
    (State.park s nsid zi).steady = s.steady := by
  unfold State.park
  simp
@[simp] theorem State.checkpoint_steady (s : State) (j : Nat)  :
    (State.checkpoint s j).steady = s.steady := by
  unfold State.checkpoint
  simp
@[simp] theorem State.appendLog_steady (s : State) (x : Nat) (pages : Nat)  :
    (State.appendLog s x pages).steady = s.steady := by
  unfold State.appendLog
  simp
@[simp] theorem State.journalPage_steady (s : State) (j : Nat)  :
    (State.journalPage s j).steady = s.steady := by
  unfold State.journalPage
  simp
@[simp] theorem State.appendDirectory_steady (s : State) (x : Nat)  :
    (State.appendDirectory s x).steady = s.steady := by
  unfold State.appendDirectory
  simp
@[simp] theorem State.detachTrailer_steady (s : State) (nsid : Nat) (zi : Nat) (m : Nat) (blocks : Nat)  :
    (State.detachTrailer s nsid zi m blocks).steady = s.steady := by
  unfold State.detachTrailer
  simp
@[simp] theorem State.setZone_steady (s : State) (nsid : Nat) (zi : Nat) (into : ZoneState)  :
    (State.setZone s nsid zi into).steady = s.steady := by
  unfold State.setZone
  simp
@[simp] theorem State.leaveEmpty_steady (s : State) (n : Namespace) (zi : Nat) (c : Nat) (into : ZoneState)  :
    (State.leaveEmpty s n zi c into).steady = s.steady := by
  unfold State.leaveEmpty
  simp
  (repeat' split) <;> simp
@[simp] theorem State.commitRelease_steady (s : State) (nsid : Nat) (zi : Nat) (gen : Nat) (into : ZoneState)  :
    (State.commitRelease s nsid zi gen into).steady = s.steady := by
  unfold State.commitRelease
  simp
  (repeat' split) <;> simp
@[simp] theorem State.requestRelease_steady (s : State) (nsid : Nat) (zi : Nat) (into : ZoneState)  :
    (State.requestRelease s nsid zi into).steady = s.steady := by
  unfold State.requestRelease
  simp
@[simp] theorem State.finishZone_steady (s : State) (n : Namespace) (zi : Nat) (zfc : Bool)  :
    (State.finishZone s n zi zfc).steady = s.steady := by
  unfold State.finishZone
  simp
  (repeat' split) <;> simp
@[simp] theorem State.finishByDevice_steady (s : State) (n : Namespace) (zi : Nat)  :
    (State.finishByDevice s n zi).steady = s.steady := by
  unfold State.finishByDevice
  simp
@[simp] theorem State.closeZone_steady (s : State) (nsid : Nat) (zi : Nat)  :
    (State.closeZone s nsid zi).steady = s.steady := by
  unfold State.closeZone
  simp
@[simp] theorem State.enterReadPreserve_steady (s : State)  :
    (State.enterReadPreserve s).steady = s.steady := by
  unfold State.enterReadPreserve
  simp
@[simp] theorem State.takeResources_steady (s : State) (n : Namespace) (needActive : Bool) (needOpen : Bool) (mayClose : Bool)  :
    (State.takeResources s n needActive needOpen mayClose).1.steady = s.steady := by
  unfold State.takeResources
  simp
  split <;> simp
@[simp] theorem State.zoneAction_steady (s : State) (nsid : Nat) (zi : Nat) (a : ZoneAction)  :
    (State.zoneAction s nsid zi a).1.steady = s.steady := by
  unfold State.zoneAction
  repeat' (first | (with_reducible rfl) | (simp; done) | (simp [*]; done) | (split <;> (try rename_i h) <;> (first | (have e := congrArg (fun p => p.1.steady) h.symm; simp at e; clear h) | (have e := congrArg (fun p => p.2.steady) h.symm; simp at e; clear h) | (have e := congrArg (fun o => optSteady o s.steady) h.symm; simp at e; clear h) | skip)) | (with_reducible refine (each_steady _ (fun _ _ => ?_) _ _).trans ?_) | (simp))
@[simp] theorem State.zoneActionAll_steady (s : State) (nsid : Nat) (a : ZoneAction)  :
    (State.zoneActionAll s nsid a).1.steady = s.steady := by
  unfold State.zoneActionAll
  split
  · rfl
  · dsimp only
    split
    · rfl
    · exact foldl_steady (fun b : State × NvmeStatus => b.1) _ (fun b x => by simp) _ _
@[simp] theorem State.setExtension_steady (s : State) (nsid : Nat) (zi : Nat) (ext : Wide)  :
    (State.setExtension s nsid zi ext).1.steady = s.steady := by
  unfold State.setExtension
  repeat' (first | (with_reducible rfl) | (simp; done) | (simp [*]; done) | (split <;> (try rename_i h) <;> (first | (have e := congrArg (fun p => p.1.steady) h.symm; simp at e; clear h) | (have e := congrArg (fun p => p.2.steady) h.symm; simp at e; clear h) | (have e := congrArg (fun o => optSteady o s.steady) h.symm; simp at e; clear h) | skip)) | (with_reducible refine (each_steady _ (fun _ _ => ?_) _ _).trans ?_) | (simp))
@[simp] theorem State.loseMastZones_steady (s : State)  :
    (State.loseMastZones s).steady = s.steady := by
  unfold State.loseMastZones
  simp
@[simp] theorem State.markOverflow_steady (s : State) (nsid : Nat) (lba : Nat)  :
    (State.markOverflow s nsid lba).steady = s.steady := by
  unfold State.markOverflow
  split <;> simp
@[simp] theorem State.enterLoss_steady (s : State) (nsid : Nat) (lba : Nat) (count : Nat) (gen : Nat) (cause : Nat) (foundBy : Nat) (fn : Nat) (mast : Nat)  :
    (State.enterLoss s nsid lba count gen cause foundBy fn mast).steady = s.steady := by
  unfold State.enterLoss
  simp
@[simp] theorem State.removeLoss_steady (s : State) (nsid : Nat) (lba : Nat)  :
    (State.removeLoss s nsid lba).steady = s.steady := by
  unfold State.removeLoss
  simp
@[simp] theorem State.shrinkOnce_steady (s : State)  :
    optSteady (State.shrinkOnce s) s.steady = s.steady := by
  unfold State.shrinkOnce
  simp
  (repeat' split) <;> simp
@[simp] theorem State.shrinkLoop_steady (a1 : Nat) (a2 : State)  :
    (State.shrinkLoop a1 a2).steady = a2.steady := by
  induction a1 generalizing a2 with
  | zero => rfl
  | succ n ih =>
    unfold State.shrinkLoop
    split
    · rfl
    · split
      · rfl
      · rename_i t h
        have e := State.shrinkOnce_steady a2
        rw [h] at e
        rw [ih]; exact e
@[simp] theorem State.shrink_steady (s : State)  :
    (State.shrink s).steady = s.steady := by
  unfold State.shrink
  simp
@[simp] theorem State.retire_steady (s : State) (glun : Nat) (block : Nat) (code : Nat)  :
    (State.retire s glun block code).steady = s.steady := by
  unfold State.retire
  simp
  split <;> simp
@[simp] theorem State.endurance_steady (s : State) (glun : Nat) (block : Nat)  :
    (State.endurance s glun block).steady = s.steady := by
  unfold State.endurance
  simp
@[simp] theorem State.zeroCredits_steady (s : State)  :
    (State.zeroCredits s).steady = s.steady := by
  unfold State.zeroCredits
  simp
@[simp] theorem State.memberTracked_steady (s : State) (g : Segment) (q : Nat) (refs : List (Nat × Nat))  :
    (State.memberTracked s g q refs).steady = s.steady := by
  unfold State.memberTracked
  simp
@[simp] theorem State.demandMast_steady (s : State) (m : Nat)  :
    (State.demandMast s m).steady = s.steady := by
  unfold State.demandMast
  simp
@[simp] theorem State.readLoss_steady (s : State) (c : Cmd) (b : RBlock) (cause : Nat) (glun : Nat) (gen : Nat)  :
    (State.readLoss s c b cause glun gen).steady = s.steady := by
  unfold State.readLoss
  simp
@[simp] theorem State.awaitLoss_steady (s : State) (id : Nat) (nsid : Nat) (lba : Nat)  :
    (State.awaitLoss s id nsid lba).steady = s.steady := by
  unfold State.awaitLoss
  split <;> simp
@[simp] theorem State.lookAt_steady (s : State) (c : Cmd) (b : RBlock)  :
    (State.lookAt s c b).1.steady = s.steady := by
  unfold State.lookAt
  (repeat' split) <;> simp
@[simp] theorem State.lookAll_steady (s : State) (c : Cmd)  :
    (State.lookAll s c).steady = s.steady := by
  unfold State.lookAll
  dsimp only
  rw [State.modCmd_steady]
  exact foldl_steady (fun b : State × List RBlock => b.1) _ (fun b x => by simp) _ _
@[simp] theorem State.finishRead_steady (s : State) (id : Nat)  :
    (State.finishRead s id).steady = s.steady := by
  unfold State.finishRead
  split <;> simp
@[simp] theorem State.retryReads_steady (s : State) (p : Cmd → RBlock → Bool)  :
    (State.retryReads s p).steady = s.steady := by
  unfold State.retryReads
  repeat' (first | (with_reducible rfl) | (simp; done) | (simp [*]; done) | (split <;> (try rename_i h) <;> (first | (have e := congrArg (fun p => p.1.steady) h.symm; simp at e; clear h) | (have e := congrArg (fun p => p.2.steady) h.symm; simp at e; clear h) | (have e := congrArg (fun o => optSteady o s.steady) h.symm; simp at e; clear h) | skip)) | (with_reducible refine (each_steady _ (fun _ _ => ?_) _ _).trans ?_) | (simp))
@[simp] theorem State.retryArriving_steady (s : State)  :
    (State.retryArriving s).steady = s.steady := by
  unfold State.retryArriving
  simp
@[simp] theorem State.journalled_steady (s : State) (id : Nat)  :
    (State.journalled s id).steady = s.steady := by
  unfold State.journalled
  split <;> simp
@[simp] theorem State.fixRoot_steady (s : State) (nsid : Nat) (zi : Nat)  :
    (State.fixRoot s nsid zi).steady = s.steady := by
  unfold State.fixRoot
  simp
@[simp] theorem State.modRow_steady (s : State) (seq : Nat) (r : Nat) (f : Row → Row)  :
    (State.modRow s seq r f).steady = s.steady := by
  unfold State.modRow
  simp
@[simp] theorem State.sealUnitAt_steady (s : State) (m : Nat) (e : Nat) (g : Segment) (r : Nat) (u : Nat)  :
    (State.sealUnitAt s m e g r u).steady = s.steady := by
  unfold State.sealUnitAt
  simp
  split <;> simp
@[simp] theorem State.ackWrite_steady (s : State) (id : Nat)  :
    (State.ackWrite s id).steady = s.steady := by
  unfold State.ackWrite
  split <;> simp
@[simp] theorem State.voidBlocks_steady (s : State) (c : Cmd)  :
    (State.voidBlocks s c).steady = s.steady := by
  unfold State.voidBlocks
  simp
@[simp] theorem State.voidWrite_steady (s : State) (c : Cmd) (st : NvmeStatus)  :
    (State.voidWrite s c st).steady = s.steady := by
  unfold State.voidWrite
  simp
@[simp] theorem State.respond_steady (s : State) (via : Via) (r : Resp)  :
    (State.respond s via r).steady = s.steady := by
  unfold State.respond
  (repeat' split) <;> simp
@[simp] theorem State.walkHop_steady (s : State) (c : Cmd) (hops : Nat) (bad : Bool)  :
    (State.walkHop s c hops bad).steady = s.steady := by
  unfold State.walkHop
  simp
@[simp] theorem State.dmaFailed_steady (s : State) (r : DmaReq) (code : Nat)  :
    (State.dmaFailed s r code).steady = s.steady := by
  unfold State.dmaFailed
  simp
  split <;> simp
@[simp] theorem State.mailboxVisible_steady (s : State) (via : Via)  :
    (State.mailboxVisible s via).steady = s.steady := by
  unfold State.mailboxVisible
  split <;> simp
@[simp] theorem State.unexpected_steady (s : State) (fn : Nat)  :
    (State.unexpected s fn).steady = s.steady := by
  unfold State.unexpected
  simp
@[simp] theorem State.dataArrived_steady (s : State) (c : Cmd) (i : Nat) (data : Block) (pi : HostPi)  :
    (State.dataArrived s c i data pi).steady = s.steady := by
  unfold State.dataArrived
  simp only []
  split <;> simp
@[simp] theorem State.dmaEnded_steady (s : State) (req : Nat) (result : DmaEnd) (data : Block) (pi : HostPi)  :
    (State.dmaEnded s req result data pi).steady = s.steady := by
  unfold State.dmaEnded
  simp
  (repeat' split) <;> simp
@[simp] theorem State.checkRow_steady (s : State) (seq : Nat) (r : Nat)  :
    (State.checkRow s seq r).steady = s.steady := by
  unfold State.checkRow
  split <;> simp
@[simp] theorem State.replaceSegment_steady (s : State) (seq : Nat)  :
    optSteady (State.replaceSegment s seq) s.steady = s.steady := by
  unfold State.replaceSegment
  split
  · rfl
  · split
    · rfl
    · rename_i h
      simp [State.allocSegment_steady _ _ _ h]
@[simp] theorem State.copyDone_steady (s : State) (dst : Nat)  :
    (State.copyDone s dst).steady = s.steady := by
  unfold State.copyDone
  split
  · simp
  · split <;> simp
@[simp] theorem State.markLoss_steady (s : State) (p : Stored → Bool)  :
    (State.markLoss s p).steady = s.steady := by
  unfold State.markLoss
  simp
@[simp] theorem State.commitReplacement_steady (s : State) (src : Nat) (dst : Nat)  :
    (State.commitReplacement s src dst).steady = s.steady := by
  unfold State.commitReplacement
  split <;> simp
@[simp] theorem State.programFailed_steady (s : State) (glun : Nat) (block : Nat) (seq : Nat)  :
    (State.programFailed s glun block seq).steady = s.steady := by
  unfold State.programFailed
  simp
  split <;> simp
@[simp] theorem State.candidate_steady (s : State) (seq : Nat) (member : Nat)  :
    (State.candidate s seq member).steady = s.steady := by
  unfold State.candidate
  simp
@[simp] theorem State.copyFound_steady (s : State) (g : Segment) (r : CopyReport)  :
    (State.copyFound s g r).steady = s.steady := by
  unfold State.copyFound
  refine (each_steady _ (fun s x => ?_) _ _).trans ?_ <;> (repeat' split) <;> simp
@[simp] theorem State.noSegment_steady (s : State) (g : Segment)  :
    (State.noSegment s g).steady = s.steady := by
  unfold State.noSegment
  split <;> simp
@[simp] theorem State.passDone_steady (s : State) (glun : Nat) (w : DieWork)  :
    (State.passDone s glun w).steady = s.steady := by
  unfold State.passDone
  (repeat' split) <;> simp
@[simp] theorem State.eraseDone_steady (s : State) (glun : Nat) (block : Nat)  :
    (State.eraseDone s glun block).steady = s.steady := by
  unfold State.eraseDone
  simp
@[simp] theorem State.blockFree_steady (s : State) (glun : Nat) (block : Nat) (erases : Nat)  :
    (State.blockFree s glun block erases).steady = s.steady := by
  unfold State.blockFree
  simp
@[simp] theorem State.wholeAllocation_steady (s : State) (seq : Nat)  :
    (State.wholeAllocation s seq).steady = s.steady := by
  unfold State.wholeAllocation
  split <;> simp
@[simp] theorem State.eraseFailed_steady (s : State) (glun : Nat) (block : Nat)  :
    (State.eraseFailed s glun block).steady = s.steady := by
  unfold State.eraseFailed
  dsimp only
  have e0 : (s.retire glun block 2).steady = s.steady := by simp
  generalize s.retire glun block 2 = t at e0
  rw [← e0]
  split
  · split
    · simp
    · split
      · rename_i h
        have e := congrArg (fun o => optSteady o t.steady) h
        simp only [State.replaceSegment_steady, optSteady_some] at e
        simpa using e.symm
      · simp
  · rfl
@[simp] theorem State.modRef_steady (s : State) (e : PlanEntry) (f : RBlock → RBlock)  :
    (State.modRef s e f).steady = s.steady := by
  unfold State.modRef
  split <;> simp
@[simp] theorem State.modWork_steady (s : State) (glun : Nat) (f : DieWork → DieWork)  :
    (State.modWork s glun f).steady = s.steady := by
  unfold State.modWork
  simp
@[simp] theorem State.unplan_steady (s : State) (e : PlanEntry)  :
    (State.unplan s e).steady = s.steady := by
  unfold State.unplan
  simp
@[simp] theorem State.ranEntry_steady (s : State) (e : PlanEntry)  :
    (State.ranEntry s e).steady = s.steady := by
  unfold State.ranEntry
  simp
@[simp] theorem State.lateEntry_steady (s : State) (e : PlanEntry)  :
    (State.lateEntry s e).steady = s.steady := by
  unfold State.lateEntry
  simp
@[simp] theorem State.releaseDeputy_steady (s : State) (seq : Nat) (r : Nat)  :
    (State.releaseDeputy s seq r).steady = s.steady := by
  unfold State.releaseDeputy
  split <;> simp
@[simp] theorem State.reportFinal_steady (s : State) (seq : Nat) (q : Nat) (wl : Nat)  :
    (State.reportFinal s seq q wl).steady = s.steady := by
  unfold State.reportFinal
  split <;> simp
@[simp] theorem State.rowDurable_steady (s : State) (seq : Nat) (r : Nat)  :
    (State.rowDurable s seq r).steady = s.steady := by
  unfold State.rowDurable
  (repeat' split) <;> simp
@[simp] theorem State.commitRemap_steady (s : State) (nsid : Nat) (lba : Nat) (src : Nat) (dst : Nat) (row : Nat) (unit : Nat) (idx : Nat)  :
    (State.commitRemap s nsid lba src dst row unit idx).steady = s.steady := by
  unfold State.commitRemap
  simp
  (repeat' split) <;> simp
@[simp] theorem State.commitMember_steady (s : State) (seq : Nat) (q : Nat) (b : Nat)  :
    (State.commitMember s seq q b).steady = s.steady := by
  unfold State.commitMember
  split
  · simp
  · split <;> simp
@[simp] theorem State.finalDurable_steady (s : State) (seq : Nat) (q : Nat) (wl : Nat) (block : Nat)  :
    (State.finalDurable s seq q wl block).steady = s.steady := by
  unfold State.finalDurable
  simp only [State.steady_ite]
  (repeat' split) <;> simp [*]
@[simp] theorem State.recordDurable_steady (s : State) (a1 : JRec)  :
    (State.recordDurable s a1).steady = s.steady := by
  unfold State.recordDurable
  (repeat' split) <;> simp
@[simp] theorem State.logWear_steady (s : State) (t : State) (j : Nat) (ht : t.steady = s.steady) :
    (State.logWear s t j).steady = s.steady := by
  unfold State.logWear
  simp [ht]
@[simp] theorem State.answerWaiting_steady (s : State) (p : Instr → Bool) (r : Resp)  :
    (State.answerWaiting s p r).steady = s.steady := by
  unfold State.answerWaiting
  simp
@[simp] theorem State.setBlockAt_steady (s : State) (id : Nat) (index : Nat) (f : RBlock → RBlock)  :
    (State.setBlockAt s id index f).steady = s.steady := by
  unfold State.setBlockAt
  simp
@[simp] theorem State.serveAt_steady (s : State) (c : Cmd) (index : Nat) (b : RBlock)  :
    (State.serveAt s c index b).steady = s.steady := by
  unfold State.serveAt
  simp
@[simp] theorem State.unrecovered_steady (s : State) (c : Cmd) (index : Nat) (b : RBlock)  :
    (State.unrecovered s c index b).steady = s.steady := by
  unfold State.unrecovered
  simp
@[simp] theorem State.tagFailed_steady (s : State) (c : Cmd) (index : Nat) (b : RBlock)  :
    (State.tagFailed s c index b).steady = s.steady := by
  unfold State.tagFailed
  simp
@[simp] theorem State.recheckBounds_steady (s : State)  :
    (State.recheckBounds s).steady = s.steady := by
  unfold State.recheckBounds
  simp
@[simp] theorem State.memberDecoded_steady (s : State) (g : Segment) (q : Nat) (step : Nat) (nsid : Nat) (lba : Nat) (res : DecodeEnd)  :
    (State.memberDecoded s g q step nsid lba res).steady = s.steady := by
  unfold State.memberDecoded
  split <;> simp
@[simp] theorem State.loseRow_steady (s : State) (g : Segment) (w : Row) (lost : Nat → Bool) (gone : Option Nat)  :
    (State.loseRow s g w lost gone).steady = s.steady := by
  unfold State.loseRow
  simp
@[simp] theorem State.loseUnits_steady (s : State) (lost : Nat → Bool) (gone : Option Nat)  :
    (State.loseUnits s lost gone).steady = s.steady := by
  unfold State.loseUnits
  simp
@[simp] theorem State.enterGapLosses_steady (s : State) (lost : Nat → Bool) (cause : Nat) (by_ : Nat)  :
    (State.enterGapLosses s lost cause by_).steady = s.steady := by
  unfold State.enterGapLosses
  simp
@[simp] theorem State.mastUp_steady (s : State) (m : Nat)  :
    (State.mastUp s m).steady = s.steady := by
  unfold State.mastUp
  simp

end Sys2Proof.Machine
end

