-- ==== Sys2Proof/Laws/SteadyHealth.lean ====
section
/-! SUPPORT. What the shared operations of buffers, health, keys, instances and jobs leave as it is: the steady parts of a state (Safety.Steady). -/

namespace Sys2Proof.Machine

set_option maxRecDepth 4000
set_option linter.unusedSimpArgs false
set_option linter.unusedTactic false
set_option linter.unreachableTactic false

@[simp] theorem State.addAge_steady (s : State) (f : Nat → Nat → Nat → Nat)  :
    (State.addAge s f).steady = s.steady := by
  unfold State.addAge
  simp
@[simp] theorem State.refreshByAge_steady (s : State)  :
    (State.refreshByAge s).steady = s.steady := by
  unfold State.refreshByAge
  simp
@[simp] theorem State.chargeAll_steady (s : State) (age : Nat)  :
    (State.chargeAll s age).steady = s.steady := by
  unfold State.chargeAll
  simp
@[simp] theorem State.startLap_steady (s : State) (raised : Bool)  :
    (State.startLap s raised).steady = s.steady := by
  unfold State.startLap
  simp
@[simp] theorem State.endLap_steady (s : State)  :
    (State.endLap s).steady = s.steady := by
  unfold State.endLap
  repeat' (first | (with_reducible rfl) | (with_reducible assumption) | (simp only [State.steady_ite, resSteady_ite, fst_steady_ite, snd_steady_ite, optSteady_ite, resSteady_next, resSteady_fault, optSteady_some, optSteady_none, ite_self, List.length_map, List.length_modify, List.length_zipIdx, State.modMedia_steady, State.modNss_steady, State.modSeg_steady, each_steady]; done) | (simp only [State.steady_ite, resSteady_ite, fst_steady_ite, snd_steady_ite, optSteady_ite, resSteady_next, resSteady_fault, optSteady_some, optSteady_none, ite_self, List.length_map, List.length_modify, List.length_zipIdx, State.modMedia_steady, State.modNss_steady, State.modSeg_steady, each_steady, *]; done) | (split <;> (try rename_i h) <;> (first | (have e := congrArg (fun p => p.1.steady) h.symm; simp only [State.steady_ite, resSteady_ite, fst_steady_ite, snd_steady_ite, optSteady_ite, resSteady_next, resSteady_fault, optSteady_some, optSteady_none, ite_self, List.length_map, List.length_modify, List.length_zipIdx, State.modMedia_steady, State.modNss_steady, State.modSeg_steady, each_steady] at e; clear h) | (have e := congrArg (fun p => p.2.steady) h.symm; simp only [State.steady_ite, resSteady_ite, fst_steady_ite, snd_steady_ite, optSteady_ite, resSteady_next, resSteady_fault, optSteady_some, optSteady_none, ite_self, List.length_map, List.length_modify, List.length_zipIdx, State.modMedia_steady, State.modNss_steady, State.modSeg_steady, each_steady] at e; clear h) | (have e := congrArg (fun o => optSteady o (State.steady s)) h.symm; simp only [State.steady_ite, resSteady_ite, fst_steady_ite, snd_steady_ite, optSteady_ite, resSteady_next, resSteady_fault, optSteady_some, optSteady_none, ite_self, List.length_map, List.length_modify, List.length_zipIdx, State.modMedia_steady, State.modNss_steady, State.modSeg_steady, each_steady] at e; clear h) | skip)) | (with_reducible refine each_steady _ (fun _ _ => ?_) _ _) | (with_reducible refine (each_steady _ (fun _ _ => ?_) _ _).trans ?_) | (with_reducible refine resSteady_whenUnit _ _ _ ?_) | (simp only [State.steady_ite, resSteady_ite, fst_steady_ite, snd_steady_ite, optSteady_ite, resSteady_next, resSteady_fault, optSteady_some, optSteady_none, ite_self, List.length_map, List.length_modify, List.length_zipIdx, State.modMedia_steady, State.modNss_steady, State.modSeg_steady, each_steady]))
@[simp] theorem State.respread_steady (s : State)  :
    (State.respread s).steady = s.steady := by
  unfold State.respread
  simp
@[simp] theorem State.patrolStep_steady (s : State)  :
    (State.patrolStep s).steady = s.steady := by
  unfold State.patrolStep
  simp
@[simp] theorem State.sliceTree_steady (s : State) (g : Segment) (zi : Nat) (r : SliceReport)  :
    (State.sliceTree s g zi r).steady = s.steady := by
  unfold State.sliceTree
  simp
@[simp] theorem State.sliceSegment_steady (s : State) (g : Segment) (r : SliceReport)  :
    (State.sliceSegment s g r).steady = s.steady := by
  unfold State.sliceSegment
  repeat' (first | (with_reducible rfl) | (simp; done) | (simp [*]; done) | (split <;> (try rename_i h) <;> (first | (have e := congrArg (fun p => p.1.steady) h.symm; simp at e; clear h) | (have e := congrArg (fun p => p.2.steady) h.symm; simp at e; clear h) | (have e := congrArg (fun o => optSteady o s.steady) h.symm; simp at e; clear h) | skip)) | (with_reducible refine (each_steady _ (fun _ _ => ?_) _ _).trans ?_) | (simp))
@[simp] theorem State.sliceSystem_steady (s : State) (glun : Nat) (r : SliceReport)  :
    (State.sliceSystem s glun r).steady = s.steady := by
  unfold State.sliceSystem
  exact foldl_steady id _ (fun b x => by simp) _ _
@[simp] theorem State.closeConv_steady (s : State) (n : Namespace)  :
    (State.closeConv s n).steady = s.steady := by
  unfold State.closeConv
  split <;> simp
@[simp] theorem State.convNext_steady (s : State) (nsid : Nat) (ref : Nat)  :
    (State.convNext s nsid ref).2.steady = s.steady := by
  unfold State.convNext
  dsimp only
  split
  · rfl
  · rename_i n hn
    split
    · rfl
    · rename_i t ht
      have ht' : t.steady = s.steady := by
        have tail : ∀ u : Option State, (u = if (n.csegsLeft == 0) = true then none else
            match (s.closeConv n).takeGen.2.allocSegment { seq := 0, gen := (s.closeConv n).takeGen.1, nsid := nsid, width := n.cwidth, archival := n.carch, home := n.chome, keyRef := ref, cls := n.cls } with
            | none => none
            | some (q, s) => some (s.modNs nsid fun n => { n with cseg := some q, cpos := 0, csegsLeft := (n.csegsLeft - 1) })) →
            u = some t → t.steady = s.steady := by
          intro u hu ht
          rw [hu] at ht
          split at ht
          · cases ht
          · split at ht
            · cases ht
            · rename_i q u hu
              simp only [Option.some.injEq] at ht
              rw [← ht]
              have e := State.allocSegment_steady _ _ _ hu
              simp only [State.modNs_steady, e, State.takeGen_steady, State.closeConv_steady]
        cases hb : n.cseg.bind s.seg? with
        | none => rw [hb] at ht; exact tail _ rfl ht
        | some g =>
          rw [hb] at ht
          dsimp only at ht
          by_cases hc : (g.keyRef == ref && decide (n.cpos < perSeg s.profile n.cwidth)) = true
          · rw [if_pos hc] at ht; cases ht; rfl
          · rw [if_neg hc] at ht; exact tail _ rfl ht
      split
      · exact ht'
      · split <;> simp [ht']
@[simp] theorem State.compactBlock_steady (s : State) (nsid : Nat) (src : Nat) (ref : Nat) (b : Stored)  :
    (State.compactBlock s nsid src ref b).steady = s.steady := by
  unfold State.compactBlock
  repeat' (first | (with_reducible rfl) | (simp; done) | (simp [*]; done) | (split <;> (try rename_i h) <;> (first | (have e := congrArg (fun p => p.1.steady) h.symm; simp at e; clear h) | (have e := congrArg (fun p => p.2.steady) h.symm; simp at e; clear h) | (have e := congrArg (fun o => optSteady o s.steady) h.symm; simp at e; clear h) | skip)) | (with_reducible refine (each_steady _ (fun _ _ => ?_) _ _).trans ?_) | (simp))
@[simp] theorem State.lapNormal_steady (s : State)  :
    (State.lapNormal s).steady = s.steady := by
  unfold State.lapNormal
  simp
@[simp] theorem State.answer_steady (s : State) (r : Resp)  :
    (State.answer s r).1.steady = s.steady := by
  unfold State.answer
  simp
@[simp] theorem State.sign_steady (s : State) (priv : Nat) (head : List Nat) (body : List Nat)  :
    (State.sign s priv head body).1.steady = s.steady := by
  unfold State.sign
  simp
@[simp] theorem State.signWith_steady (s : State) (kind : Nat) (key : Nat) (slot : Nat) (fn : Nat) (nonce : Digest) (body : List Nat)  :
    (State.signWith s kind key slot fn nonce body).1.steady = s.steady := by
  unfold State.signWith
  split <;> simp
@[simp] theorem State.zoneJob_steady (s : State) (v : Via) (nsid zi : Nat) (k : Namespace → Zone → Eff)
    (h : ∀ n z, (k n z).1.steady = s.steady) : (State.zoneJob s v nsid zi k).1.steady = s.steady := by
  unfold State.zoneJob
  dsimp only
  repeat' (first | rfl | exact h _ _ | split)
@[simp] theorem State.rangeJob_steady (s : State) (v : Via) (nsid : Nat) (ex : List DigestExtent) (k : Namespace → Eff)
    (h : ∀ n, (k n).1.steady = s.steady) : (State.rangeJob s v nsid ex k).1.steady = s.steady := by
  unfold State.rangeJob
  dsimp only
  repeat' (first | rfl | exact h _ | split)
@[simp] theorem State.treeResult_steady (s : State) (nsid : Nat) (zi : Nat) (mismatched : List Nat) (lost : List Nat) (nodesOk : Bool)  :
    (State.treeResult s nsid zi mismatched lost nodesOk).steady = s.steady := by
  unfold State.treeResult
  simp
@[simp] theorem effGetIdentityCertificate_steady (s : State)  :
    (effGetIdentityCertificate s).1.steady = s.steady := by
  unfold effGetIdentityCertificate
  simp
@[simp] theorem effCreateOwnerAttestationKey_steady (v : Via) (slot : Nat) (s : State)  :
    (effCreateOwnerAttestationKey v slot s).1.steady = s.steady := by
  unfold effCreateOwnerAttestationKey
  simp
@[simp] theorem effDeleteOwnerAttestationKey_steady (slot : Nat) (s : State)  :
    (effDeleteOwnerAttestationKey slot s).1.steady = s.steady := by
  unfold effDeleteOwnerAttestationKey
  simp
@[simp] theorem State.syncSlots_steady (s : State)  :
    (State.syncSlots s).steady = s.steady := by
  unfold State.syncSlots
  simp
@[simp] theorem State.limitSlots_steady (s : State)  :
    (State.limitSlots s).steady = s.steady := by
  unfold State.limitSlots
  simp
@[simp] theorem State.endDrain_steady (s : State) (n : Nat)  :
    (State.endDrain s n).steady = s.steady := by
  unfold State.endDrain
  simp
@[simp] theorem State.loseVolatile_steady (s : State)  :
    (State.loseVolatile s).steady = s.steady := by
  unfold State.loseVolatile
  repeat' (first | (with_reducible rfl) | (with_reducible assumption) | (simp only [State.steady_ite, resSteady_ite, fst_steady_ite, snd_steady_ite, optSteady_ite, resSteady_next, resSteady_fault, optSteady_some, optSteady_none, ite_self, List.length_map, List.length_modify, List.length_zipIdx, State.endDrain_steady, State.modFns_steady, State.modKeys_steady, State.syncSlots_steady, each_steady]; done) | (simp only [State.steady_ite, resSteady_ite, fst_steady_ite, snd_steady_ite, optSteady_ite, resSteady_next, resSteady_fault, optSteady_some, optSteady_none, ite_self, List.length_map, List.length_modify, List.length_zipIdx, State.endDrain_steady, State.modFns_steady, State.modKeys_steady, State.syncSlots_steady, each_steady, *]; done) | (split <;> (try rename_i h) <;> (first | (have e := congrArg (fun p => p.1.steady) h.symm; simp only [State.steady_ite, resSteady_ite, fst_steady_ite, snd_steady_ite, optSteady_ite, resSteady_next, resSteady_fault, optSteady_some, optSteady_none, ite_self, List.length_map, List.length_modify, List.length_zipIdx, State.endDrain_steady, State.modFns_steady, State.modKeys_steady, State.syncSlots_steady, each_steady] at e; clear h) | (have e := congrArg (fun p => p.2.steady) h.symm; simp only [State.steady_ite, resSteady_ite, fst_steady_ite, snd_steady_ite, optSteady_ite, resSteady_next, resSteady_fault, optSteady_some, optSteady_none, ite_self, List.length_map, List.length_modify, List.length_zipIdx, State.endDrain_steady, State.modFns_steady, State.modKeys_steady, State.syncSlots_steady, each_steady] at e; clear h) | (have e := congrArg (fun o => optSteady o (State.steady s)) h.symm; simp only [State.steady_ite, resSteady_ite, fst_steady_ite, snd_steady_ite, optSteady_ite, resSteady_next, resSteady_fault, optSteady_some, optSteady_none, ite_self, List.length_map, List.length_modify, List.length_zipIdx, State.endDrain_steady, State.modFns_steady, State.modKeys_steady, State.syncSlots_steady, each_steady] at e; clear h) | skip)) | (with_reducible refine each_steady _ (fun _ _ => ?_) _ _) | (with_reducible refine (each_steady _ (fun _ _ => ?_) _ _).trans ?_) | (with_reducible refine resSteady_whenUnit _ _ _ ?_) | (simp only [State.steady_ite, resSteady_ite, fst_steady_ite, snd_steady_ite, optSteady_ite, resSteady_next, resSteady_fault, optSteady_some, optSteady_none, ite_self, List.length_map, List.length_modify, List.length_zipIdx, State.endDrain_steady, State.modFns_steady, State.modKeys_steady, State.syncSlots_steady, each_steady]))
@[simp] theorem State.raiseSlots_steady (s : State) (fn : Nat) (count : Nat)  :
    (State.raiseSlots s fn count).steady = s.steady := by
  unfold State.raiseSlots
  simp
@[simp] theorem State.releaseSlots_steady (s : State) (l : List Nat)  :
    (State.releaseSlots s l).steady = s.steady := by
  unfold State.releaseSlots
  simp
@[simp] theorem State.logImage_steady (s : State) (n : Nat) (value : Nat)  :
    (State.logImage s n value).steady = s.steady := by
  unfold State.logImage
  simp
@[simp] theorem effGetTransportKey_steady (s : State)  :
    (effGetTransportKey s).1.steady = s.steady := by
  unfold effGetTransportKey
  simp
@[simp] theorem effEstablishKek_steady (v : Via) (index : Nat) (persistent : Bool) (point : PubKey) (s : State)  :
    (effEstablishKek v index persistent point s).1.steady = s.steady := by
  unfold effEstablishKek
  simp
@[simp] theorem State.addEntry_steady (s : State) (e : KeyEntry)  :
    (State.addEntry s e).steady = s.steady := by
  unfold State.addEntry
  simp
@[simp] theorem State.raiseFloor_steady (s : State) (ref : Nat) (floor : Nat)  :
    (State.raiseFloor s ref floor).steady = s.steady := by
  unfold State.raiseFloor
  simp
@[simp] theorem State.putKey_steady (s : State) (slot : Nat) (key : BitVec 256) (ref : Nat) (persistent : Bool)  :
    (State.putKey s slot key ref persistent).steady = s.steady := by
  unfold State.putKey
  simp
  split <;> simp
@[simp] theorem State.takeLoad_steady (s : State) (slot : Nat) (persistent floorGiven : Bool) (floor : Nat) (key : BitVec 256) (ref : Nat) :
    (State.takeLoad s slot persistent floorGiven floor key ref).1.steady = s.steady := by
  unfold State.takeLoad
  simp
@[simp] theorem State.loadKeyAs_steady (s : State) (slot : Nat) (persistent saltGiven floorGiven : Bool) (salt : BitVec 32) (floor : Nat) (key : BitVec 256) (fp : Digest) :
    (State.loadKeyAs s slot persistent saltGiven floorGiven salt floor key fp).1.steady = s.steady := by
  unfold State.loadKeyAs
  split
  · split <;> simp
  · split
    · simp
    · simp
@[simp] theorem effLoadKey_steady (v : Via) (slot : Nat) (kek : Nat) (persistent : Bool) (saltGiven : Bool) (floorGiven : Bool) (salt : BitVec 32) (floor : Nat) (wrapped : BitVec 320) (s : State)  :
    (effLoadKey v slot kek persistent saltGiven floorGiven salt floor wrapped s).1.steady = s.steady := by
  unfold effLoadKey
  split
  · rfl
  split
  · rfl
  split
  · rfl
  rename_i k _
  generalize kwUnwrap (bytesLE 32 k.key.toNat) (bytesLE 40 wrapped.toNat) = u
  cases u with
  | none => rfl
  | some raw => exact State.loadKeyAs_steady _ _ _ _ _ _ _ _ _
@[simp] theorem State.eraseSlot_steady (s : State) (slot : Nat)  :
    (State.eraseSlot s slot).steady = s.steady := by
  unfold State.eraseSlot
  split <;> simp
@[simp] theorem effEraseKey_steady (v : Via) (slot : Nat) (s : State)  :
    (effEraseKey v slot s).1.steady = s.steady := by
  unfold effEraseKey
  simp
@[simp] theorem effBindNamespaceKey_steady (v : Via) (nsid : Nat) (slot : Nat) (s : State)  :
    (effBindNamespaceKey v nsid slot s).1.steady = s.steady := by
  unfold effBindNamespaceKey
  split <;> simp
@[simp] theorem effGetSlot_steady (v : Via) (slot : Nat) (s : State)  :
    (effGetSlot v slot s).1.steady = s.steady := by
  unfold effGetSlot
  simp
  split <;> simp
@[simp] theorem effExportKey_steady (v : Via) (slot : Nat) (dest : Digest) (s : State)  :
    (effExportKey v slot dest s).1.steady = s.steady := by
  unfold effExportKey
  simp
@[simp] theorem effGetKeyRegister_steady (first : Nat) (count : Nat) (s : State)  :
    (effGetKeyRegister first count s).1.steady = s.steady := by
  unfold effGetKeyRegister
  simp
@[simp] theorem State.giveUpUnit_steady (s : State) (mast : Nat) (g : Segment) (r : Nat) (u : Nat)  :
    (State.giveUpUnit s mast g r u).steady = s.steady := by
  unfold State.giveUpUnit
  simp
@[simp] theorem State.sealFault_steady (s : State) (mast : Nat) (n : Nat)  :
    (State.sealFault s mast n).steady = s.steady := by
  unfold State.sealFault
  split <;> simp
@[simp] theorem State.openFault_steady (s : State) (mast : Nat) (id : Nat) (i : Nat)  :
    (State.openFault s mast id i).steady = s.steady := by
  unfold State.openFault
  split <;> simp
@[simp] theorem State.parkOldest_steady (s : State)  :
    (State.parkOldest s).steady = s.steady := by
  unfold State.parkOldest
  split <;> simp
@[simp] theorem State.putAlloc_steady (s : State) (fn : Nat) (res : Nat) (v : Nat)  :
    (State.putAlloc s fn res v).steady = s.steady := by
  unfold State.putAlloc
  simp
@[simp] theorem effSetAllocation_steady (fn : Nat) (res : Nat) (value : Nat) (s : State)  :
    (effSetAllocation fn res value s).1.steady = s.steady := by
  unfold effSetAllocation
  simp
  (repeat' split) <;> simp
@[simp] theorem State.defaultAlloc_steady (s : State) (fn : Nat)  :
    (State.defaultAlloc s fn).steady = s.steady := by
  unfold State.defaultAlloc
  simp
@[simp] theorem effGetInstance_steady (fn : Nat) (s : State)  :
    (effGetInstance fn s).1.steady = s.steady := by
  unfold effGetInstance
  simp
@[simp] theorem effSetContract_steady (fn : Nat) (cls : Nat) (constantTime : Bool) (reserved : Nat) (burst : Nat) (t : Nat) (ceiling : Nat) (s : State)  :
    (effSetContract fn cls constantTime reserved burst t ceiling s).1.steady = s.steady := by
  unfold effSetContract
  simp
  split <;> simp
@[simp] theorem effGetContract_steady (fn : Nat) (s : State)  :
    (effGetContract fn s).1.steady = s.steady := by
  unfold effGetContract
  simp
@[simp] theorem effSetExpertEnable_steady (fn : Nat) (enable : Bool) (s : State)  :
    (effSetExpertEnable fn enable s).1.steady = s.steady := by
  unfold effSetExpertEnable
  simp
@[simp] theorem State.resetBoxes_steady (s : State) (p : Via → Bool) (status : Nat)  :
    (State.resetBoxes s p status).steady = s.steady := by
  unfold State.resetBoxes
  simp
@[simp] theorem State.resetRings_steady (s : State) (fn : Nat) (port1 : Bool)  :
    (State.resetRings s fn port1).steady = s.steady := by
  unfold State.resetRings
  simp
@[simp] theorem State.squashCmd_steady (s : State) (c : Cmd)  :
    (State.squashCmd s c).steady = s.steady := by
  unfold State.squashCmd
  simp
@[simp] theorem State.closeOpened_steady (s : State) (fn : Nat)  :
    (State.closeOpened s fn).steady = s.steady := by
  unfold State.closeOpened
  simp
@[simp] theorem State.drain_steady (s : State) (fn : Nat)  :
    (State.drain s fn).steady = s.steady := by
  unfold State.drain
  simp
@[simp] theorem State.releaseDrained_steady (s : State) (fn : Nat)  :
    (State.releaseDrained s fn).steady = s.steady := by
  unfold State.releaseDrained
  simp
@[simp] theorem State.instanceInitial_steady (s : State) (fn : Nat)  :
    (State.instanceInitial s fn).steady = s.steady := by
  unfold State.instanceInitial
  simp
@[simp] theorem State.queueReset_steady (s : State) (fn : Nat) (cause : ResetCause)  :
    (State.queueReset s fn cause).steady = s.steady := by
  unfold State.queueReset
  simp
@[simp] theorem State.leaveResetting_steady (s : State) (fn : Nat)  :
    (State.leaveResetting s fn).steady = s.steady := by
  unfold State.leaveResetting
  simp
@[simp] theorem State.leaveRetired_steady (s : State)  :
    (State.leaveRetired s).steady = s.steady := by
  unfold State.leaveRetired
  simp
@[simp] theorem State.clearVfEnable_steady (s : State)  :
    (State.clearVfEnable s).steady = s.steady := by
  unfold State.clearVfEnable
  simp
@[simp] theorem State.goOnline_steady (s : State) (fn : Nat)  :
    (State.goOnline s fn).steady = s.steady := by
  unfold State.goOnline
  simp
@[simp] theorem effInstanceOnline_steady (fn : Nat) (s : State)  :
    (effInstanceOnline fn s).1.steady = s.steady := by
  unfold effInstanceOnline
  simp
@[simp] theorem State.ensureSegments_steady (s : State) (n : Namespace) (zi : Nat) (count : Nat)  :
    optSteady (State.ensureSegments s n zi count) s.steady = s.steady := by
  unfold State.ensureSegments
  dsimp only
  generalize (if (count == 0) = true then _ else _) = need
  suffices H : ∀ (l : List Nat) (acc : Option State), optSteady acc s.steady = s.steady →
      optSteady (l.foldl (fun acc i => acc.bind fun s => (s.allocSegment (zoneProto n (n.zone zi) i)).map fun (q, s) =>
        s.modZone n.nsid zi fun z => { z with segs := z.segs ++ [q] }) acc) s.steady = s.steady from H need (some s) rfl
  intro l
  induction l with
  | nil => intro acc h; exact h
  | cons i l ih =>
    intro acc h
    rw [List.foldl_cons]
    apply ih
    cases acc with
    | none => rfl
    | some t =>
      rw [Option.bind_some]
      cases hh : t.allocSegment (zoneProto n (n.zone zi) i) with
      | none => rfl
      | some p => simpa [State.allocSegment_steady _ _ _ hh] using h
@[simp] theorem State.placeAt_steady (s : State) (nsid : Nat) (zi : Nat) (o : Nat) (b : Stored)  :
    (State.placeAt s nsid zi o b).steady = s.steady := by
  unfold State.placeAt
  simp
  split <;> simp
@[simp] theorem State.assignZone_steady (s : State) (nsid : Nat) (zi : Nat) (count : Nat) (mk : Nat → Stored)  :
    optSteady (State.assignZone s nsid zi count mk) s.steady = s.steady := by
  unfold State.assignZone
  split
  · rfl
  · rename_i n hn
    have e := State.ensureSegments_steady s n zi count
    cases h : s.ensureSegments n zi count with
    | none => rfl
    | some t =>
      rw [h] at e
      simp only [optSteady_some] at e
      simp only [Option.map_some, optSteady_some]
      split
      · simp [e]
      · split <;> simp [e]
@[simp] theorem State.unmapConv_steady (s : State) (nsid : Nat) (lba : Nat)  :
    (State.unmapConv s nsid lba).steady = s.steady := by
  unfold State.unmapConv
  dsimp only
  split <;> simp
@[simp] theorem State.assignConv_steady (s : State) (nsid : Nat) (lba : Nat) (ref : Nat) (b : Stored)  :
    optSteady (State.assignConv s nsid lba ref b) s.steady = s.steady := by
  unfold State.assignConv
  have e := State.convNext_steady s nsid ref
  split
  · rfl
  · rename_i q row unit idx t h
    rw [h] at e
    cases t.seg? q with
    | none => rfl
    | some g => simp [e]
@[simp] theorem State.wakePort_steady (s : State) (port : Nat)  :
    (State.wakePort s port).steady = s.steady := by
  unfold State.wakePort
  simp
@[simp] theorem State.probeOn_steady (s : State) (port : Nat) (target : Digest) (origin : Digest) (number : Nat) (latency : Nat) (hops : Nat) (wake : Bool)  :
    (State.probeOn s port target origin number latency hops wake).steady = s.steady := by
  unfold State.probeOn
  simp
@[simp] theorem State.sendProbe_steady (s : State) (target : Digest) (wake : Bool)  :
    (State.sendProbe s target wake).steady = s.steady := by
  unfold State.sendProbe
  simp
@[simp] theorem State.reach_steady (s : State) (fp : Digest)  :
    (State.reach s fp).steady = s.steady := by
  unfold State.reach
  simp
  split <;> simp
@[simp] theorem State.dropHReqs_steady (s : State) (p : HReq → Bool)  :
    (State.dropHReqs s p).steady = s.steady := by
  unfold State.dropHReqs
  simp
@[simp] theorem State.setJob_steady (s : State) (id : Nat) (st : JobState) (cause : Nat)  :
    (State.setJob s id st cause).steady = s.steady := by
  unfold State.setJob
  simp
@[simp] theorem State.releaseLanding_steady (s : State) (nsid : Nat)  :
    (State.releaseLanding s nsid).steady = s.steady := by
  unfold State.releaseLanding
  simp
@[simp] theorem State.returnZone_steady (s : State) (nsid : Nat) (zi : Nat)  :
    (State.returnZone s nsid zi).steady = s.steady := by
  unfold State.returnZone
  simp
@[simp] theorem State.closePeerJob_steady (s : State) (j : Job)  :
    (State.closePeerJob s j).steady = s.steady := by
  unfold State.closePeerJob
  simp
@[simp] theorem State.stopJob_steady (s : State) (id : Nat) (cause : Nat) (tell : Bool)  :
    (State.stopJob s id cause tell).steady = s.steady := by
  unfold State.stopJob
  split <;> simp
@[simp] theorem State.completeJob_steady (s : State) (id : Nat)  :
    (State.completeJob s id).steady = s.steady := by
  unfold State.completeJob
  split <;> simp
@[simp] theorem State.suspendJob_steady (s : State) (id : Nat) (cause : Nat)  :
    (State.suspendJob s id cause).steady = s.steady := by
  unfold State.suspendJob
  split <;> simp
@[simp] theorem State.loseStream_steady (s : State) (id : Nat) (path : Nat × Nat)  :
    (State.loseStream s id path).steady = s.steady := by
  unfold State.loseStream
  split <;> simp
@[simp] theorem State.sendOffer_steady (s : State) (j : Job)  :
    (State.sendOffer s j).steady = s.steady := by
  unfold State.sendOffer
  split <;> simp
@[simp] theorem State.sendMirrorOffer_steady (s : State) (m : Mirror)  :
    (State.sendMirrorOffer s m).steady = s.steady := by
  unfold State.sendMirrorOffer
  split <;> simp
@[simp] theorem State.partnerUp_steady (s : State) (fp : Digest)  :
    (State.partnerUp s fp).steady = s.steady := by
  unfold State.partnerUp
  simp
@[simp] theorem State.ackMirrored_steady (s : State) (m : Mirror)  :
    (State.ackMirrored s m).steady = s.steady := by
  unfold State.ackMirrored
  simp
@[simp] theorem State.breakMirror_steady (s : State) (id : Nat)  :
    (State.breakMirror s id).steady = s.steady := by
  unfold State.breakMirror
  split <;> simp
@[simp] theorem State.breakMirrors_steady (s : State) (fp : Digest)  :
    (State.breakMirrors s fp).steady = s.steady := by
  unfold State.breakMirrors
  simp
@[simp] theorem State.endMirrorSource_steady (s : State) (m : Mirror)  :
    (State.endMirrorSource s m).steady = s.steady := by
  unfold State.endMirrorSource
  simp
@[simp] theorem State.releaseMirrorZones_steady (s : State) (m : Mirror)  :
    (State.releaseMirrorZones s m).steady = s.steady := by
  unfold State.releaseMirrorZones
  repeat' (first | (with_reducible rfl) | (simp; done) | (simp [*]; done) | (split <;> (try rename_i h) <;> (first | (have e := congrArg (fun p => p.1.steady) h.symm; simp at e; clear h) | (have e := congrArg (fun p => p.2.steady) h.symm; simp at e; clear h) | (have e := congrArg (fun o => optSteady o s.steady) h.symm; simp at e; clear h) | skip)) | (with_reducible refine (each_steady _ (fun _ _ => ?_) _ _).trans ?_) | (simp))
@[simp] theorem State.wakeAsleep_steady (s : State) (fp : Digest)  :
    (State.wakeAsleep s fp).steady = s.steady := by
  unfold State.wakeAsleep
  split <;> simp
@[simp] theorem State.pathLost_steady (s : State) (fp : Digest) (path : Nat × Nat)  :
    (State.pathLost s fp path).steady = s.steady := by
  unfold State.pathLost
  simp

end Sys2Proof.Machine
end

