-- ==== Sys2Proof/Laws/SteadyPeer.lean ====
section
/-! SUPPORT. What the shared operations of the Halyard links, migration and mirrors leave as it is: the steady parts of a state (Safety.Steady). -/

namespace Sys2Proof.Machine

set_option maxRecDepth 4000
set_option linter.unusedSimpArgs false
set_option linter.unusedTactic false
set_option linter.unreachableTactic false

@[simp] theorem State.setPartner_steady (s : State) (fp : Digest) (st : LinkState)  :
    (State.setPartner s fp st).steady = s.steady := by
  unfold State.setPartner
  simp
@[simp] theorem State.ensurePartner_steady (s : State) (fp : Digest)  :
    optSteady (State.ensurePartner s fp) s.steady = s.steady := by
  unfold State.ensurePartner
  dsimp only
  split
  · rfl
  · split
    · simp
    · cases minBy Partner.downSince _ with
      | none => rfl
      | some p =>
        simp only [Option.map_some, optSteady_some]
        rw [State.modHal_steady, State.modHal_steady]
@[simp] theorem State.setLink_steady (s : State) (port : Nat) (st : LinkState)  :
    (State.setLink s port st).steady = s.steady := by
  unfold State.setLink
  simp
  split <;> simp
@[simp] theorem State.dropLabel_steady (s : State) (l : Label)  :
    (State.dropLabel s l).steady = s.steady := by
  unfold State.dropLabel
  split <;> simp
@[simp] theorem State.linkEnds_steady (s : State) (port : Nat) (reason : Nat)  :
    (State.linkEnds s port reason).steady = s.steady := by
  unfold State.linkEnds
  repeat' (first | (with_reducible rfl) | (simp; done) | (simp [*]; done) | (split <;> (try rename_i h) <;> (first | (have e := congrArg (fun p => p.1.steady) h.symm; simp at e; clear h) | (have e := congrArg (fun p => p.2.steady) h.symm; simp at e; clear h) | (have e := congrArg (fun o => optSteady o s.steady) h.symm; simp at e; clear h) | skip)) | (with_reducible refine (each_steady _ (fun _ _ => ?_) _ _).trans ?_) | (simp))
@[simp] theorem State.goDown_steady (s : State) (port : Nat) (reason : Nat)  :
    (State.goDown s port reason).steady = s.steady := by
  unfold State.goDown
  simp
@[simp] theorem State.spuriousWake_steady (s : State) (port : Nat)  :
    (State.spuriousWake s port).steady = s.steady := by
  unfold State.spuriousWake
  simp
@[simp] theorem State.wakeRefused_steady (s : State) (port : Nat)  :
    (State.wakeRefused s port).steady = s.steady := by
  unfold State.wakeRefused
  simp
@[simp] theorem State.refuse_steady (s : State) (port : Nat) (label : Nat) (reason : Nat) (tag : Nat)  :
    (State.refuse s port label reason tag).steady = s.steady := by
  unfold State.refuse
  simp
@[simp] theorem State.quarantine_steady (s : State) (fp : Digest) (cause : Nat) (port : Nat)  :
    (State.quarantine s fp cause port).steady = s.steady := by
  unfold State.quarantine
  simp
@[simp] theorem State.violation_steady (s : State) (port : Nat)  :
    (State.violation s port).steady = s.steady := by
  unfold State.violation
  split <;> simp
@[simp] theorem State.endQuarantine_steady (s : State) (fp : Digest)  :
    (State.endQuarantine s fp).steady = s.steady := by
  unfold State.endQuarantine
  simp
@[simp] theorem State.train_steady (s : State) (port : Nat)  :
    (State.train s port).steady = s.steady := by
  unfold State.train
  simp
@[simp] theorem State.resend_steady (s : State) (port : Nat)  :
    (State.resend s port).steady = s.steady := by
  unfold State.resend
  simp
@[simp] theorem State.timeout_steady (s : State) (port : Nat) (st : LinkState) (n : Nat)  :
    (State.timeout s port st n).steady = s.steady := by
  unfold State.timeout
  simp
@[simp] theorem State.retrain_steady (s : State) (port : Nat)  :
    (State.retrain s port).steady = s.steady := by
  unfold State.retrain
  simp
@[simp] theorem State.rx_steady (s : State) (port : Nat) (seq : Nat) (ptype : Nat) (packets : Nat) (k : State → State) (h_k : ∀ x0, (k x0).steady = x0.steady) :
    (State.rx s port seq ptype packets k).steady = s.steady := by
  unfold State.rx
  simp [h_k]
@[simp] theorem received_steady (port : Nat) (seq : Nat) (ptype : Nat) (s : State) (k : State → State) (packets : Nat) (h_k : ∀ x0, (k x0).steady = x0.steady) :
    resSteady (received port seq ptype s k packets) s.steady = s.steady := by
  unfold received
  simp [h_k]
@[simp] theorem State.modAuth_steady (s : State) (port : Nat) (path : Option Nat) (f : Auth → Auth)  :
    (State.modAuth s port path f).steady = s.steady := by
  unfold State.modAuth
  (repeat' split) <;> simp
@[simp] theorem State.sendAuth_steady (s : State) (port : Nat) (path : Option Nat) (ptype : Nat) (args : List Nat)  :
    (State.sendAuth s port path ptype args).steady = s.steady := by
  unfold State.sendAuth
  split <;> simp
@[simp] theorem State.sendShare_steady (s : State) (port : Nat) (path : Option Nat) (ptype : Nat) (last : Nat × Nat)  :
    (State.sendShare s port path ptype last).steady = s.steady := by
  unfold State.sendShare
  simp
@[simp] theorem State.sendSignature_steady (s : State) (port : Nat) (path : Option Nat) (ptype : Nat)  :
    (State.sendSignature s port path ptype).steady = s.steady := by
  have k : ∀ (a : State) (f : Auth → Auth) (l : List Nat), ((a.modAuth port path f).sendAuth port path ptype l).steady = a.steady := by
    intro a f l; rw [State.sendAuth_steady, State.modAuth_steady]
  unfold State.sendSignature
  dsimp only
  split
  · rfl
  · split
    · rfl
    · exact (k _ _ _).trans (State.modKeys_steady _ _)
@[simp] theorem State.quarantineAt_steady (s : State) (port : Nat) (path : Option Nat) (cause : Nat)  :
    (State.quarantineAt s port path cause).steady = s.steady := by
  unfold State.quarantineAt
  split <;> simp
@[simp] theorem State.sendDone_steady (s : State) (port : Nat) (path : Option Nat) (ptype : Nat)  :
    (State.sendDone s port path ptype).steady = s.steady := by
  unfold State.sendDone
  split <;> simp
@[simp] theorem State.sendEcho_steady (s : State) (port : Nat)  :
    (State.sendEcho s port).steady = s.steady := by
  unfold State.sendEcho
  simp
@[simp] theorem State.admitPartner_steady (s : State) (fp : Digest)  :
    (State.admitPartner s fp).1.steady = s.steady := by
  unfold State.admitPartner
  simp
@[simp] theorem State.paired_steady (s : State) (port : Nat) (fp : Digest)  :
    (State.paired s port fp).steady = s.steady := by
  unfold State.paired
  simp
@[simp] theorem State.sessionUp_steady (s : State) (port : Nat) (path : Option Nat)  :
    (State.sessionUp s port path).steady = s.steady := by
  unfold State.sessionUp
  simp
  (repeat' split) <;> simp
@[simp] theorem State.startAuth_steady (s : State) (port : Nat) (path : Option Nat)  :
    (State.startAuth s port path).steady = s.steady := by
  unfold State.startAuth
  simp
@[simp] theorem State.gotShare_steady (s : State) (port : Nat) (path : Option Nat) (ptype : Nat) (cause : Nat) (point : PubKey) (random : Digest) (last : Nat × Nat)  :
    (State.gotShare s port path ptype cause point random last).steady = s.steady := by
  unfold State.gotShare
  simp
@[simp] theorem State.gotSignature_steady (s : State) (port : Nat) (path : Option Nat) (ptype : Nat) (cause : Nat) (r : Nat) (sg : Nat)  :
    (State.gotSignature s port path ptype cause r sg).steady = s.steady := by
  unfold State.gotSignature
  simp
  split <;> simp
@[simp] theorem State.gotDone_steady (s : State) (port : Nat) (seq : Nat)  :
    (State.gotDone s port seq).steady = s.steady := by
  unfold State.gotDone
  simp
@[simp] theorem State.noPath_steady (s : State) (fp : Digest) (cause : Nat)  :
    (State.noPath s fp cause).steady = s.steady := by
  unfold State.noPath
  simp
@[simp] theorem State.departures_steady (s : State) (reason : Nat)  :
    (State.departures s reason).steady = s.steady := by
  unfold State.departures
  simp
@[simp] theorem effGetHalyardPort_steady (port : Nat) (s : State)  :
    (effGetHalyardPort port s).1.steady = s.steady := by
  unfold effGetHalyardPort
  simp
@[simp] theorem effListPartners_steady (first : Nat) (count : Nat) (s : State)  :
    (effListPartners first count s).1.steady = s.steady := by
  unfold effListPartners
  simp
@[simp] theorem State.pairNow_steady (s : State) (fp : Digest)  :
    (State.pairNow s fp).steady = s.steady := by
  unfold State.pairNow
  (repeat' split) <;> simp
@[simp] theorem effPairPartner_steady (fp : Digest) (s : State)  :
    (effPairPartner fp s).1.steady = s.steady := by
  unfold effPairPartner
  simp
  split <;> simp
@[simp] theorem State.unpairNow_steady (s : State) (fp : Digest)  :
    (State.unpairNow s fp).steady = s.steady := by
  unfold State.unpairNow
  simp
@[simp] theorem effUnpairPartner_steady (fp : Digest) (s : State)  :
    (effUnpairPartner fp s).1.steady = s.steady := by
  unfold effUnpairPartner
  simp
@[simp] theorem effReleaseQuarantine_steady (fp : Digest) (s : State)  :
    (effReleaseQuarantine fp s).1.steady = s.steady := by
  unfold effReleaseQuarantine
  simp
@[simp] theorem effSetAllowlist_steady (fps : List Digest) (s : State)  :
    (effSetAllowlist fps s).1.steady = s.steady := by
  unfold effSetAllowlist
  simp
@[simp] theorem effGetAllowlist_steady (s : State)  :
    (effGetAllowlist s).1.steady = s.steady := by
  unfold effGetAllowlist
  simp
@[simp] theorem State.portDisabled_steady (s : State) (port : Nat)  :
    (State.portDisabled s port).steady = s.steady := by
  unfold State.portDisabled
  simp
@[simp] theorem State.halyardCredits_steady (s : State)  :
    (State.halyardCredits s).steady = s.steady := by
  unfold State.halyardCredits
  simp
@[simp] theorem State.halyardFrame_steady (s : State)  :
    (State.halyardFrame s).steady = s.steady := by
  unfold State.halyardFrame
  simp
@[simp] theorem State.sendHReq_steady (s : State) (r : HReq)  :
    (State.sendHReq s r).steady = s.steady := by
  unfold State.sendHReq
  simp
  split <;> simp
@[simp] theorem State.admitPort_steady (a1 : Nat) (a2 : Nat) (a3 : State)  :
    (State.admitPort a1 a2 a3).steady = a3.steady := by
  induction a1 generalizing a3 with
  | zero => rfl
  | succ n ih =>
    unfold State.admitPort
    split
    · rfl
    · split
      · rw [ih]; simp
      · rfl
@[simp] theorem State.admitHalyard_steady (s : State)  :
    (State.admitHalyard s).steady = s.steady := by
  unfold State.admitHalyard
  simp
@[simp] theorem State.newReq_steady (s : State) (path : Nat × Nat) (op : Nat) (ident : Nat) (zone : Nat) (offset : Nat) (count : Nat) (declared : Nat)  :
    (State.newReq s path op ident zone offset count declared).steady = s.steady := by
  unfold State.newReq
  simp
@[simp] theorem State.respondPath_steady (s : State) (port : Nat) (label : Nat) (tag : Nat) (packets : Nat) (blocks : List Block) (metas : List Wide) (nodes : List Digest) (status : Nat) (pointer : Nat)  :
    (State.respondPath s port label tag packets blocks metas nodes status pointer).steady = s.steady := by
  unfold State.respondPath
  simp
@[simp] theorem State.failReq_steady (s : State) (port : Nat) (label : Nat) (status : Nat) (tag : Nat) (ident : Nat)  :
    (State.failReq s port label status tag ident).steady = s.steady := by
  unfold State.failReq
  split <;> simp
@[simp] theorem State.requestAt_steady (s : State) (port : Nat) (label : Nat) (r : HReq) (serve : State → Digest → State) (h_serve : ∀ x0 x1, (serve x0 x1).steady = x0.steady) :
    (State.requestAt s port label r serve).steady = s.steady := by
  unfold State.requestAt
  (repeat' split) <;> simp [h_serve]
theorem State.takeEntry_steady (s : State) (fp : Digest) (salt : BitVec 32) (floor : Nat) (p : Nat × State)
    (h : s.takeEntry fp salt floor = some p) : p.2.steady = s.steady := by
  unfold State.takeEntry at h
  dsimp only at h
  split at h
  · cases h; rfl
  · split at h
    · split at h
      · cases h; simp
      · cases h
    · split at h
      · simp only [Option.some.injEq] at h
        rw [← h]; simp
      · cases h
@[simp] theorem State.openLanding_steady (s : State) (n : Namespace) (zi : Nat) (cls : Nat) (gen : Nat) (ref : Nat)  :
    (State.openLanding s n zi cls gen ref).steady = s.steady := by
  unfold State.openLanding
  split <;> simp
@[simp] theorem State.landBlocks_steady (s : State) (nsid : Nat) (zi : Nat) (offset : Nat) (bs : List Stored)  :
    optSteady (State.landBlocks s nsid zi offset bs) s.steady = s.steady := by
  unfold State.landBlocks
  simp
@[simp] theorem State.enterLosses_steady (s : State) (nsid : Nat) (zi : Nat) (offset : Nat) (bs : List Stored)  :
    (State.enterLosses s nsid zi offset bs).steady = s.steady := by
  unfold State.enterLosses
  simp
@[simp] theorem State.refuseZone_steady (s : State) (j : Job) (zone : Nat) (reason : Nat)  :
    (State.refuseZone s j zone reason).steady = s.steady := by
  unfold State.refuseZone
  simp
theorem State.landChunk_steady (s : State) (nsid : Nat) (z : JobZone) (gen written : Nat) (l : Option Digest) (t : State)
    (h : s.landChunk nsid z gen written l = .placed t) : t.steady = s.steady := by
  unfold State.landChunk at h
  dsimp only at h
  repeat' (split at h <;> try cases h)
  all_goals (
    rename_i hu
    have e := congrArg (fun o => optSteady o s.steady) hu
    simp only [State.landBlocks_steady, optSteady_some] at e
    simp [← e])
@[simp] theorem State.finishLanding_steady (s : State) (nsid : Nat) (zi : Nat) (m : Manifest) (leaves : List Digest)  :
    (State.finishLanding s nsid zi m leaves).steady = s.steady := by
  unfold State.finishLanding
  split <;> simp
@[simp] theorem State.setJobZone_steady (s : State) (id : Nat) (zone : Nat) (f : JobZone → JobZone)  :
    (State.setJobZone s id zone f).steady = s.steady := by
  unfold State.setJobZone
  simp
@[simp] theorem State.restartLanding_steady (s : State) (nsid : Nat) (zone : Nat)  :
    (State.restartLanding s nsid zone).steady = s.steady := by
  unfold State.restartLanding
  simp
@[simp] theorem State.importChunk_steady (s : State) (id : Nat) (zone : Nat)  :
    (State.importChunk s id zone).steady = s.steady := by
  unfold State.importChunk
  dsimp only
  repeat' (first | rfl | (simp; done) | split)
  all_goals (rename_i h _; have e := State.landChunk_steady _ _ _ _ _ _ _ h; simp [e])
@[simp] theorem State.pull_steady (a1 : Nat) (a2 : Nat) (a3 : Nat × Nat) (a4 : State)  :
    (State.pull a1 a2 a3 a4).steady = a4.steady := by
  induction a1 generalizing a4 with
  | zero => rfl
  | succ n ih =>
    unfold State.pull
    dsimp only
    split
    · rfl
    · split
      · rfl
      · split
        · rfl
        · rw [ih]; simp
        · split <;> (rw [ih]; split <;> (try split) <;> simp)
@[simp] theorem State.announceReady_steady (s : State) (j : Job)  :
    (State.announceReady s j).steady = s.steady := by
  unfold State.announceReady
  repeat' (first | (with_reducible rfl) | (simp; done) | (simp [*]; done) | (split <;> (try rename_i h) <;> (first | (have e := congrArg (fun p => p.1.steady) h.symm; simp at e; clear h) | (have e := congrArg (fun p => p.2.steady) h.symm; simp at e; clear h) | (have e := congrArg (fun o => optSteady o s.steady) h.symm; simp at e; clear h) | skip)) | (with_reducible refine (each_steady _ (fun _ _ => ?_) _ _).trans ?_) | (simp))
@[simp] theorem State.exportFloor_steady (s : State) (ref : Nat) (job : Bool)  :
    (State.exportFloor s ref job).2.steady = s.steady := by
  unfold State.exportFloor
  simp
@[simp] theorem State.carryKey_steady (s : State) (j : Job) (ref : Nat)  :
    (State.carryKey s j ref).steady = s.steady := by
  unfold State.carryKey
  split <;> simp
@[simp] theorem effExportKeyTo_steady (v : Via) (slot : Nat) (dest : Digest) (s : State)  :
    (effExportKeyTo v slot dest s).1.steady = s.steady := by
  unfold effExportKeyTo
  simp
@[simp] theorem State.newIdent_steady (s : State)  :
    (State.newIdent s).2.steady = s.steady := by
  unfold State.newIdent
  simp
@[simp] theorem effStartMigration_steady (dest : Digest) (nsid : Nat) (charge : Bool) (streams : Nat) (zones : List Nat) (s : State)  :
    (effStartMigration dest nsid charge streams zones s).1.steady = s.steady := by
  unfold effStartMigration
  simp
  (repeat' split) <;> simp
@[simp] theorem State.raiseGen_steady (s : State) (stop : Nat)  :
    (State.raiseGen s stop).steady = s.steady := by
  unfold State.raiseGen
  simp
@[simp] theorem State.setLanding_steady (s : State) (nsid : Nat)  :
    (State.setLanding s nsid).steady = s.steady := by
  unfold State.setLanding
  simp
@[simp] theorem State.acceptJob_steady (s : State) (id : Nat) (nsid : Nat) (cls : Nat)  :
    (State.acceptJob s id nsid cls).steady = s.steady := by
  unfold State.acceptJob
  split <;> simp
@[simp] theorem effAcceptMigration_steady (source : Digest) (nsid : Nat) (cls : Nat) (s : State)  :
    (effAcceptMigration source nsid cls s).1.steady = s.steady := by
  unfold effAcceptMigration
  (repeat' split) <;> simp
@[simp] theorem State.acceptMirror_steady (s : State) (id : Nat) (nsid : Nat) (cls : Nat)  :
    (State.acceptMirror s id nsid cls).steady = s.steady := by
  unfold State.acceptMirror
  split <;> simp
@[simp] theorem State.sendManifest_steady (s : State) (j : Job) (zi : Nat)  :
    (State.sendManifest s j zi).steady = s.steady := by
  unfold State.sendManifest
  split <;> simp
@[simp] theorem State.consume_steady (s : State) (r : HReq) (blocks : List Block) (metas : List Wide) (nodes : List Digest) (status : Nat) (pointer : Nat)  :
    (State.consume s r blocks metas nodes status pointer).steady = s.steady := by
  unfold State.consume
  simp
  (repeat' split) <;> simp
@[simp] theorem State.resumeJob_steady (s : State) (id : Nat) (streams : List (Nat × Nat))  :
    (State.resumeJob s id streams).steady = s.steady := by
  unfold State.resumeJob
  simp
theorem State.takeMirror_steady (s : State) (m : Mirror) (zone : Nat) (p : Piece) (t : State)
    (h : s.takeMirror m zone p = some (some t)) : t.steady = s.steady := by
  unfold State.takeMirror at h
  dsimp only at h
  split at h
  · cases h
  · split at h
    · cases h
    · cases hu : s.landBlocks m.nsid zone p.offset (List.filterMap id ((p.blocks.zip p.metas).zipIdx.map fun x =>
          s.receivedBlock _ zone (p.offset + x.2) x.1.1 x.1.2)) with
      | none => rw [hu] at h; cases h
      | some u =>
        rw [hu] at h
        simp only [Option.map_some, Option.some.injEq] at h
        have e := congrArg (fun o => optSteady o s.steady) hu
        simp only [State.landBlocks_steady, optSteady_some] at e
        rw [← h, State.modMirror_steady, e]
@[simp] theorem State.mirrorIn_steady (s : State) (rel : Nat) (port : Nat) (label : Nat) (tag : Nat) (zone : Nat) (p : Piece)  :
    (State.mirrorIn s rel port label tag zone p).steady = s.steady := by
  unfold State.mirrorIn
  repeat' (first | (simp; done) | split)
  rename_i h
  have e := State.takeMirror_steady _ _ _ _ _ h
  simp [e]
@[simp] theorem State.pullMirror_steady (s : State) (rel : Nat) (path : Nat × Nat) (z : JobZone)  :
    (State.pullMirror s rel path z).steady = s.steady := by
  unfold State.pullMirror
  dsimp only
  repeat' (first | rfl | (simp; done) | split)
  rename_i h
  have e := State.takeMirror_steady _ _ _ _ _ h
  simp [e]
@[simp] theorem State.catchUpStep_steady (s : State) (m : Mirror)  :
    (State.catchUpStep s m).steady = s.steady := by
  unfold State.catchUpStep
  split <;> simp
@[simp] theorem State.feedZone_steady (s : State) (m : Mirror) (path : Nat × Nat) (z : MirZone)  :
    (State.feedZone s m path z).steady = s.steady := by
  unfold State.feedZone
  split <;> simp
@[simp] theorem State.peerFrame_steady (s : State)  :
    (State.peerFrame s).steady = s.steady := by
  unfold State.peerFrame
  repeat' (first | (with_reducible rfl) | (simp; done) | (simp [*]; done) | (split <;> (try rename_i h) <;> (first | (have e := congrArg (fun p => p.1.steady) h.symm; simp at e; clear h) | (have e := congrArg (fun p => p.2.steady) h.symm; simp at e; clear h) | (have e := congrArg (fun o => optSteady o s.steady) h.symm; simp at e; clear h) | skip)) | (with_reducible refine (each_steady _ (fun _ _ => ?_) _ _).trans ?_) | (simp))
@[simp] theorem effCancelMigration_steady (id : Nat) (s : State)  :
    (effCancelMigration id s).1.steady = s.steady := by
  unfold effCancelMigration
  split <;> simp
@[simp] theorem effGetMigrationJob_steady (id : Nat) (s : State)  :
    (effGetMigrationJob id s).1.steady = s.steady := by
  unfold effGetMigrationJob
  split <;> simp
@[simp] theorem effSetMirror_steady (role : Nat) (mode : Nat) (policy : Nat) (cls : Nat) (lag : Nat) (nsid : Nat) (firstZone : Nat) (zoneCount : Nat) (other : Digest) (s : State)  :
    (effSetMirror role mode policy cls lag nsid firstZone zoneCount other s).1.steady = s.steady := by
  unfold effSetMirror
  simp
  (repeat' split) <;> simp
@[simp] theorem effEndMirror_steady (rel : Nat) (s : State)  :
    (effEndMirror rel s).1.steady = s.steady := by
  unfold effEndMirror
  split <;> simp
@[simp] theorem effPromoteMirror_steady (rel : Nat) (s : State)  :
    (effPromoteMirror rel s).1.steady = s.steady := by
  unfold effPromoteMirror
  split <;> simp
@[simp] theorem effGetMirror_steady (rel : Nat) (s : State)  :
    (effGetMirror rel s).1.steady = s.steady := by
  unfold effGetMirror
  split <;> simp
@[simp] theorem State.mirrorSetting_steady (s : State) (ident : Nat) (scope : Nat) (value : Nat)  :
    (State.mirrorSetting s ident scope value).steady = s.steady := by
  unfold State.mirrorSetting
  simp
@[simp] theorem State.peerNsDeleted_steady (s : State) (nsid : Nat)  :
    (State.peerNsDeleted s nsid).steady = s.steady := by
  unfold State.peerNsDeleted
  simp
@[simp] theorem State.peerErased_steady (s : State)  :
    (State.peerErased s).steady = s.steady := by
  unfold State.peerErased
  simp

end Sys2Proof.Machine
end

