-- ==== Sys2Proof/Laws/SteadyDevice.lean ====
section
/-! SUPPORT. What the shared operations of namespaces, power, start-up, the host port, admission, the mailbox and the frame leave as it is: the steady parts of a state (Safety.Steady). -/

namespace Sys2Proof.Machine

set_option maxRecDepth 4000
set_option linter.unusedSimpArgs false
set_option linter.unusedTactic false
set_option linter.unreachableTactic false

@[simp] theorem State.createNs_steady (s : State) (r : NsRequest)  :
    (State.createNs s r).1.steady = s.steady := by
  unfold State.createNs
  repeat' (first | (with_reducible rfl) | (simp; done) | (simp [*]; done) | (intro _) | (split <;> (try rename_i h) <;> (first | (have e := congrArg (fun p => p.1.steady) h.symm; simp at e; clear h) | (have e := congrArg (fun p => p.2.steady) h.symm; simp at e; clear h) | (have e := congrArg (fun o => optSteady o s.steady) h.symm; simp at e; clear h) | skip)) | (with_reducible refine (each_steady _ (fun _ _ => ?_) _ _).trans ?_) | (simp))
@[simp] theorem effCreateNamespace_steady (r : NsRequest) (s : State)  :
    (effCreateNamespace r s).1.steady = s.steady := by
  unfold effCreateNamespace
  repeat' (first | (with_reducible rfl) | (simp; done) | (simp [*]; done) | (split <;> (try rename_i h) <;> (first | (have e := congrArg (fun p => p.1.steady) h.symm; simp at e; clear h) | (have e := congrArg (fun p => p.2.steady) h.symm; simp at e; clear h) | (have e := congrArg (fun o => optSteady o s.steady) h.symm; simp at e; clear h) | skip)) | (with_reducible refine (each_steady _ (fun _ _ => ?_) _ _).trans ?_) | (simp))
@[simp] theorem State.nvmeCreate_steady (s : State) (csi : Nat) (nsze : Nat) (ncap : Nat) (lbaf : Nat) (pi : Nat)  :
    (State.nvmeCreate s csi nsze ncap lbaf pi).1.steady = s.steady := by
  unfold State.nvmeCreate
  repeat' (first | (with_reducible rfl) | (simp; done) | (simp [*]; done) | (split <;> (try rename_i h) <;> (first | (have e := congrArg (fun p => p.1.steady) h.symm; simp at e; clear h) | (have e := congrArg (fun p => p.2.steady) h.symm; simp at e; clear h) | (have e := congrArg (fun o => optSteady o s.steady) h.symm; simp at e; clear h) | skip)) | (with_reducible refine (each_steady _ (fun _ _ => ?_) _ _).trans ?_) | (simp))
@[simp] theorem State.noticeNs_steady (s : State) (fn : Nat) (nsid : Nat)  :
    (State.noticeNs s fn nsid).steady = s.steady := by
  unfold State.noticeNs
  simp
@[simp] theorem State.attachPair_steady (s : State) (n : Namespace) (fn : Nat)  :
    (State.attachPair s n fn).steady = s.steady := by
  unfold State.attachPair
  simp
@[simp] theorem effAttachNamespace_steady (nsid : Nat) (fn : Nat) (s : State)  :
    (effAttachNamespace nsid fn s).1.steady = s.steady := by
  unfold effAttachNamespace
  split <;> simp
@[simp] theorem effConsentToAttach_steady (v : Via) (nsid : Nat) (fn : Nat) (s : State)  :
    (effConsentToAttach v nsid fn s).1.steady = s.steady := by
  unfold effConsentToAttach
  split <;> simp
@[simp] theorem State.nvmeAttach_steady (s : State) (nsid : Nat) (ctrls : List Nat)  :
    (State.nvmeAttach s nsid ctrls).1.steady = s.steady := by
  unfold State.nvmeAttach
  split <;> simp
@[simp] theorem State.purgeNs_steady (s : State) (nsid : Nat)  :
    (State.purgeNs s nsid).steady = s.steady := by
  unfold State.purgeNs
  split <;> simp
@[simp] theorem State.purgeDeleted_steady (s : State)  :
    (State.purgeDeleted s).steady = s.steady := by
  unfold State.purgeDeleted
  simp
@[simp] theorem effSetNamespaceAttributes_steady (nsid : Nat) (setCls : Bool) (setPerm : Bool) (setLimits : Bool) (cls : Nat) (permitted : Nat) (active : Nat) (opn : Nat) (s : State)  :
    (effSetNamespaceAttributes nsid setCls setPerm setLimits cls permitted active opn s).1.steady = s.steady := by
  unfold effSetNamespaceAttributes
  simp
  (repeat' split) <;> simp
@[simp] theorem effGetNamespace_steady (v : Via) (nsid : Nat) (s : State)  :
    (effGetNamespace v nsid s).1.steady = s.steady := by
  unfold effGetNamespace
  split <;> simp
@[simp] theorem effGetZoneRecord_steady (v : Via) (nsid : Nat) (zone : Nat) (s : State)  :
    (effGetZoneRecord v nsid zone s).1.steady = s.steady := by
  unfold effGetZoneRecord
  split <;> simp
@[simp] theorem State.nvmeOnline_steady (s : State) (ctrl : Nat)  :
    (State.nvmeOnline s ctrl).1.steady = s.steady := by
  unfold State.nvmeOnline
  simp
@[simp] theorem State.nvmeAssign_steady (s : State) (ctrl : Nat) (resource : Nat) (count : Nat)  :
    (State.nvmeAssign s ctrl resource count).1.steady = s.steady := by
  unfold State.nvmeAssign
  simp
@[simp] theorem State.linksLost_steady (s : State)  :
    (State.linksLost s).steady = s.steady := by
  unfold State.linksLost
  dsimp only
  suffices h : ∀ t : State, ∀ o e, ({ t with out := o, evt := e } : State).steady = t.steady by
    rw [h, State.modPeer_steady, State.modHal_steady, each_steady]
    intro s x; simp
  intros; rfl
@[simp] theorem State.giveBack_steady (s : State) (x : Nat) (b : Nat) (blank : Bool)  :
    (State.giveBack s x b blank).steady = s.steady := by
  unfold State.giveBack
  simp
@[simp] theorem State.orphan_steady (s : State) (seq : Nat) (unknown : Bool)  :
    (State.orphan s seq unknown).steady = s.steady := by
  unfold State.orphan
  split <;> simp
@[simp] theorem State.dropMove_steady (s : State) (g : Segment) (v : Move) (unknown : Bool)  :
    (State.dropMove s g v unknown).steady = s.steady := by
  unfold State.dropMove
  simp
@[simp] theorem State.lostZone_steady (s : State) (n : Namespace) (z : Zone)  :
    (State.lostZone s n z).steady = s.steady := by
  unfold State.lostZone
  simp
@[simp] theorem State.cutMedia_steady (s : State)  :
    (State.cutMedia s).steady = s.steady := by
  unfold State.cutMedia
  simp
@[simp] theorem State.chargeDark_steady (s : State) (ticks : Nat) (a : List (Option ℤ)) (b : List (Option ℤ))  :
    (State.chargeDark s ticks a b).steady = s.steady := by
  unfold State.chargeDark
  simp
@[simp] theorem State.rebase_steady (s : State)  :
    (State.rebase s).steady = s.steady := by
  unfold State.rebase
  repeat' (first | (with_reducible rfl) | (with_reducible assumption) | (simp only [State.steady_ite, resSteady_ite, fst_steady_ite, snd_steady_ite, optSteady_ite, resSteady_next, resSteady_fault, optSteady_some, optSteady_none, ite_self, List.length_map, List.length_modify, List.length_zipIdx, State.modEvt_steady, State.modHal_steady, State.modMedia_steady, State.modNss_steady, State.modPeer_steady, State.quarantine_steady]; done) | (simp only [State.steady_ite, resSteady_ite, fst_steady_ite, snd_steady_ite, optSteady_ite, resSteady_next, resSteady_fault, optSteady_some, optSteady_none, ite_self, List.length_map, List.length_modify, List.length_zipIdx, State.modEvt_steady, State.modHal_steady, State.modMedia_steady, State.modNss_steady, State.modPeer_steady, State.quarantine_steady, *]; done) | (split <;> (try rename_i h) <;> (first | (have e := congrArg (fun p => p.1.steady) h.symm; simp only [State.steady_ite, resSteady_ite, fst_steady_ite, snd_steady_ite, optSteady_ite, resSteady_next, resSteady_fault, optSteady_some, optSteady_none, ite_self, List.length_map, List.length_modify, List.length_zipIdx, State.modEvt_steady, State.modHal_steady, State.modMedia_steady, State.modNss_steady, State.modPeer_steady, State.quarantine_steady] at e; clear h) | (have e := congrArg (fun p => p.2.steady) h.symm; simp only [State.steady_ite, resSteady_ite, fst_steady_ite, snd_steady_ite, optSteady_ite, resSteady_next, resSteady_fault, optSteady_some, optSteady_none, ite_self, List.length_map, List.length_modify, List.length_zipIdx, State.modEvt_steady, State.modHal_steady, State.modMedia_steady, State.modNss_steady, State.modPeer_steady, State.quarantine_steady] at e; clear h) | (have e := congrArg (fun o => optSteady o (State.steady s)) h.symm; simp only [State.steady_ite, resSteady_ite, fst_steady_ite, snd_steady_ite, optSteady_ite, resSteady_next, resSteady_fault, optSteady_some, optSteady_none, ite_self, List.length_map, List.length_modify, List.length_zipIdx, State.modEvt_steady, State.modHal_steady, State.modMedia_steady, State.modNss_steady, State.modPeer_steady, State.quarantine_steady] at e; clear h) | skip)) | (with_reducible refine each_steady _ (fun _ _ => ?_) _ _) | (with_reducible refine (each_steady _ (fun _ _ => ?_) _ _).trans ?_) | (with_reducible refine resSteady_whenUnit _ _ _ ?_) | (simp only [State.steady_ite, resSteady_ite, fst_steady_ite, snd_steady_ite, optSteady_ite, resSteady_next, resSteady_fault, optSteady_some, optSteady_none, ite_self, List.length_map, List.length_modify, List.length_zipIdx, State.modEvt_steady, State.modHal_steady, State.modMedia_steady, State.modNss_steady, State.modPeer_steady, State.quarantine_steady]))
@[simp] theorem State.dumpFrom_steady (s : State) (f : Nat)  :
    (State.dumpFrom s f).steady = s.steady := by
  unfold State.dumpFrom
  simp
@[simp] theorem State.startDump_steady (s : State)  :
    (State.startDump s).steady = s.steady := by
  unfold State.startDump
  simp
@[simp] theorem State.postAtDump_steady (s : State) (c : Cmd)  :
    (State.postAtDump s c).steady = s.steady := by
  unfold State.postAtDump
  simp
@[simp] theorem State.abortAers_steady (s : State) (f : Nat) (port1 : Bool)  :
    (State.abortAers s f port1).steady = s.steady := by
  unfold State.abortAers
  simp
@[simp] theorem State.dumpFurl_steady (s : State)  :
    (State.dumpFurl s).steady = s.steady := by
  unfold State.dumpFurl
  repeat' (first | (with_reducible rfl) | (with_reducible assumption) | (simp only [State.steady_ite, resSteady_ite, fst_steady_ite, snd_steady_ite, optSteady_ite, resSteady_next, resSteady_fault, optSteady_some, optSteady_none, ite_self, List.length_map, List.length_modify, List.length_zipIdx, State.linksLost_steady, State.modIo_steady, State.modPwr_steady]; done) | (simp only [State.steady_ite, resSteady_ite, fst_steady_ite, snd_steady_ite, optSteady_ite, resSteady_next, resSteady_fault, optSteady_some, optSteady_none, ite_self, List.length_map, List.length_modify, List.length_zipIdx, State.linksLost_steady, State.modIo_steady, State.modPwr_steady, *]; done) | (split <;> (try rename_i h) <;> (first | (have e := congrArg (fun p => p.1.steady) h.symm; simp only [State.steady_ite, resSteady_ite, fst_steady_ite, snd_steady_ite, optSteady_ite, resSteady_next, resSteady_fault, optSteady_some, optSteady_none, ite_self, List.length_map, List.length_modify, List.length_zipIdx, State.linksLost_steady, State.modIo_steady, State.modPwr_steady] at e; clear h) | (have e := congrArg (fun p => p.2.steady) h.symm; simp only [State.steady_ite, resSteady_ite, fst_steady_ite, snd_steady_ite, optSteady_ite, resSteady_next, resSteady_fault, optSteady_some, optSteady_none, ite_self, List.length_map, List.length_modify, List.length_zipIdx, State.linksLost_steady, State.modIo_steady, State.modPwr_steady] at e; clear h) | (have e := congrArg (fun o => optSteady o (State.steady s)) h.symm; simp only [State.steady_ite, resSteady_ite, fst_steady_ite, snd_steady_ite, optSteady_ite, resSteady_next, resSteady_fault, optSteady_some, optSteady_none, ite_self, List.length_map, List.length_modify, List.length_zipIdx, State.linksLost_steady, State.modIo_steady, State.modPwr_steady] at e; clear h) | skip)) | (with_reducible refine each_steady _ (fun _ _ => ?_) _ _) | (with_reducible refine (each_steady _ (fun _ _ => ?_) _ _).trans ?_) | (with_reducible refine resSteady_whenUnit _ _ _ ?_) | (simp only [State.steady_ite, resSteady_ite, fst_steady_ite, snd_steady_ite, optSteady_ite, resSteady_next, resSteady_fault, optSteady_some, optSteady_none, ite_self, List.length_map, List.length_modify, List.length_zipIdx, State.linksLost_steady, State.modIo_steady, State.modPwr_steady]))
@[simp] theorem State.flushJournal_steady (s : State) (j : Nat) (blocks : Nat)  :
    (State.flushJournal s j blocks).steady = s.steady := by
  unfold State.flushJournal
  simp
@[simp] theorem State.dumpMast_steady (s : State) (luns : List Nat) (m : Nat)  :
    (State.dumpMast s luns m).steady = s.steady := by
  unfold State.dumpMast
  simp
@[simp] theorem State.deepBegins_steady (s : State)  :
    (State.deepBegins s).steady = s.steady := by
  unfold State.deepBegins
  simp
@[simp] theorem State.beginPrep_steady (s : State)  :
    (State.beginPrep s).steady = s.steady := by
  unfold State.beginPrep
  simp
@[simp] theorem State.startEntry_steady (s : State) (k : EntryKind)  :
    (State.startEntry s k).steady = s.steady := by
  unfold State.startEntry
  simp
@[simp] theorem State.entryEnds_steady (s : State) (e : Entry) (aborted : Bool) (refuser : Nat)  :
    (State.entryEnds s e aborted refuser).steady = s.steady := by
  unfold State.entryEnds
  simp
@[simp] theorem State.answerEntry_steady (s : State) (e : Entry)  :
    (State.answerEntry s e).steady = s.steady := by
  unfold State.answerEntry
  simp
  (repeat' split) <;> simp
@[simp] theorem State.answerEntries_steady (s : State)  :
    (State.answerEntries s).steady = s.steady := by
  unfold State.answerEntries
  simp
@[simp] theorem State.mastFurled_steady (s : State) (m : Nat)  :
    (State.mastFurled s m).steady = s.steady := by
  unfold State.mastFurled
  simp
@[simp] theorem State.furlDomain_steady (s : State) (d : Nat)  :
    (State.furlDomain s d).steady = s.steady := by
  unfold State.furlDomain
  simp
@[simp] theorem State.enterService_steady (s : State) (m : Nat)  :
    (State.enterService s m).steady = s.steady := by
  unfold State.enterService
  simp
@[simp] theorem State.parkAll_steady (s : State)  :
    (State.parkAll s).steady = s.steady := by
  unfold State.parkAll
  simp
@[simp] theorem State.measurePower_steady (s : State) (mw : Nat)  :
    (State.measurePower s mw).steady = s.steady := by
  unfold State.measurePower
  simp
@[simp] theorem effEnterCrowsNest_steady (interval : Nat) (s : State)  :
    (effEnterCrowsNest interval s).1.steady = s.steady := by
  unfold effEnterCrowsNest
  split <;> simp
@[simp] theorem effPowerDown_steady (s : State)  :
    (effPowerDown s).1.steady = s.steady := by
  unfold effPowerDown
  simp
@[simp] theorem effSetReefLimit_steady (level : Nat) (s : State)  :
    (effSetReefLimit level s).1.steady = s.steady := by
  unfold effSetReefLimit
  simp
@[simp] theorem State.putRing_steady (s : State) (fn : Nat) (r : Nat) (x : Ring)  :
    (State.putRing s fn r x).steady = s.steady := by
  unfold State.putRing
  simp
@[simp] theorem State.deliverEvents_steady (s : State)  :
    (State.deliverEvents s).steady = s.steady := by
  unfold State.deliverEvents
  simp
@[simp] theorem State.flushRing_steady (s : State) (fn : Nat) (r : Nat)  :
    (State.flushRing s fn r).steady = s.steady := by
  unfold State.flushRing
  simp
@[simp] theorem State.ringIgnored_steady (s : State) (fn : Nat) (r : Nat)  :
    (State.ringIgnored s fn r).steady = s.steady := by
  unfold State.ringIgnored
  simp
@[simp] theorem State.writeRctl_steady (s : State) (fn : Nat) (r : Nat) (size : Nat) (severity : Nat) (vector : Nat) (enable : Bool)  :
    (State.writeRctl s fn r size severity vector enable).steady = s.steady := by
  unfold State.writeRctl
  simp
@[simp] theorem State.earlyWarnings_steady (s : State)  :
    (State.earlyWarnings s).steady = s.steady := by
  unfold State.earlyWarnings
  simp
@[simp] theorem State.readyCtrls_steady (s : State)  :
    (State.readyCtrls s).steady = s.steady := by
  unfold State.readyCtrls
  simp
@[simp] theorem State.becomeReady_steady (s : State)  :
    (State.becomeReady s).steady = s.steady := by
  unfold State.becomeReady
  simp
@[simp] theorem State.reportIncomplete_steady (s : State) (w : Nat) (g : Nat) (l : Nat)  :
    (State.reportIncomplete s w g l).steady = s.steady := by
  unfold State.reportIncomplete
  split <;> simp
@[simp] theorem State.loseStored_steady (s : State) (b : Stored) (cause : Nat)  :
    (State.loseStored s b cause).steady = s.steady := by
  unfold State.loseStored
  simp
@[simp] theorem State.recoverPointer_steady (s : State) (n : Namespace) (z : Zone)  :
    (State.recoverPointer s n z).steady = s.steady := by
  unfold State.recoverPointer
  simp
@[simp] theorem State.relog_steady (s : State)  :
    (State.relog s).steady = s.steady := by
  unfold State.relog
  simp
@[simp] theorem State.noContinuation_steady (s : State)  :
    (State.noContinuation s).steady = s.steady := by
  unfold State.noContinuation
  simp
@[simp] theorem effGetControl_steady (ident : Nat) (scope : Nat) (s : State)  :
    (effGetControl ident scope s).1.steady = s.steady := by
  unfold effGetControl
  split <;> simp
@[simp] theorem effGetSignedObject_steady (object : Nat) (s : State)  :
    (effGetSignedObject object s).1.steady = s.steady := by
  unfold effGetSignedObject
  simp
  split <;> simp
@[simp] theorem State.emptyNamespace_steady (final : Bool) (s : State) (n : Namespace)  :
    (State.emptyNamespace final s n).steady = s.steady := by
  unfold State.emptyNamespace
  simp
@[simp] theorem State.emptyAll_steady (s : State) (final : Bool) (p : Namespace → Bool)  :
    (State.emptyAll s final p).steady = s.steady := by
  unfold State.emptyAll
  simp
@[simp] theorem State.abortCmd_steady (s : State) (c : Cmd) (st : NvmeStatus)  :
    (State.abortCmd s c st).steady = s.steady := by
  unfold State.abortCmd
  split <;> simp
@[simp] theorem State.formatNvm_steady (s : State) (nsid : Nat) (lbaf : Nat) (ses : Nat)  :
    (State.formatNvm s nsid lbaf ses).1.steady = s.steady := by
  unfold State.formatNvm
  simp
@[simp] theorem State.sanitizeStep_steady (s : State)  :
    (State.sanitizeStep s).steady = s.steady := by
  unfold State.sanitizeStep
  split <;> simp
@[simp] theorem effLeaveReadPreserve_steady (s : State)  :
    (effLeaveReadPreserve s).1.steady = s.steady := by
  unfold effLeaveReadPreserve
  simp
@[simp] theorem State.resumeAdmission_steady (s : State)  :
    (State.resumeAdmission s).steady = s.steady := by
  unfold State.resumeAdmission
  simp
@[simp] theorem State.noExpert_steady (s : State)  :
    (State.noExpert s).steady = s.steady := by
  unfold State.noExpert
  simp
@[simp] theorem State.fetchEntry_steady (s : State) (fn : Nat) (sq : Nat) (port1 : Bool) (op : Instr) (cid : Nat)  :
    (State.fetchEntry s fn sq port1 op cid).steady = s.steady := by
  unfold State.fetchEntry
  split <;> simp
@[simp] theorem State.submit_steady (s : State) (h : NvmeHdr) (op : Instr)  :
    (State.submit s h op).steady = s.steady := by
  unfold State.submit
  simp
  split <;> simp
@[simp] theorem submitted_steady (h : NvmeHdr) (op : Instr) (s : State)  :
    resSteady (submitted h op s) s.steady = s.steady := by
  unfold submitted
  simp
@[simp] theorem State.fetchFrom_steady (a1 : Nat) (a2 : Nat) (a3 : Nat) (a4 : Bool) (a5 : State)  :
    (State.fetchFrom a1 a2 a3 a4 a5).steady = a5.steady := by
  induction a1 generalizing a5 with
  | zero => rfl
  | succ n ih =>
    unfold State.fetchFrom
    dsimp only
    split
    · rfl
    · split
      · rfl
      · rw [ih]; simp
@[simp] theorem State.issueReads_steady (s : State) (id : Nat)  :
    (State.issueReads s id).steady = s.steady := by
  unfold State.issueReads
  split <;> simp
@[simp] theorem State.resumeFn_steady (s : State) (fn : Nat) (port1 : Bool)  :
    (State.resumeFn s fn port1).steady = s.steady := by
  unfold State.resumeFn
  simp
@[simp] theorem State.issueWaiting_steady (s : State)  :
    (State.issueWaiting s).steady = s.steady := by
  unfold State.issueWaiting
  simp
@[simp] theorem State.ackPme_steady (s : State) (port : Nat)  :
    (State.ackPme s port).steady = s.steady := by
  unfold State.ackPme
  simp
@[simp] theorem effPauseHostDma_steady (fns : Nat) (s : State)  :
    (effPauseHostDma fns s).1.steady = s.steady := by
  unfold effPauseHostDma
  simp
@[simp] theorem effResumeHostDma_steady (fns : Nat) (s : State)  :
    (effResumeHostDma fns s).1.steady = s.steady := by
  unfold effResumeHostDma
  simp
@[simp] theorem State.resumeAll_steady (s : State)  :
    (State.resumeAll s).steady = s.steady := by
  unfold State.resumeAll
  simp
@[simp] theorem State.markAdmitted_steady (s : State) (id : Nat) (k : LatClass) (reserved : Bool)  :
    (State.markAdmitted s id k reserved).steady = s.steady := by
  unfold State.markAdmitted
  simp
@[simp] theorem State.demoteReads_steady (s : State)  :
    (State.demoteReads s).steady = s.steady := by
  unfold State.demoteReads
  simp
@[simp] theorem State.demandFor_steady (s : State) (ms : List Nat)  :
    (State.demandFor s ms).steady = s.steady := by
  unfold State.demandFor
  simp
theorem State.assignZone_keeps_steady (u t : State) (d : Steady) (nsid zi count : Nat) (mk : Nat → Stored) (hu : u.steady = d)
    (h : u.assignZone nsid zi count mk = some t) : t.steady = d := by
  have e := congrArg (fun o => optSteady o u.steady) h
  simp only [State.assignZone_steady, optSteady_some] at e
  rw [← e, hu]
theorem State.assignRun_steady (n : Namespace) (ref : Nat) (mk : Nat → Stored) (l : List Nat) (s t : State)
    (h : State.assignRun n ref mk l s = .ok t) : t.steady = s.steady := by
  induction l generalizing s with
  | nil => cases h; rfl
  | cons x l ih =>
    unfold State.assignRun at h
    split at h
    · rename_i u hu
      have e := congrArg (fun o => optSteady o s.steady) hu
      simp only [State.assignConv_steady, optSteady_some] at e
      rw [ih _ h, ← e]
    · cases h
@[simp] theorem State.endZoneCmd_steady (s : State) (t : State) (id : Nat) (st : NvmeStatus) (wait : Bool) (ht : t.steady = s.steady) :
    (State.endZoneCmd s t id st wait).steady = s.steady := by
  unfold State.endZoneCmd
  simp [ht]
@[simp] theorem State.zoneSend_steady (s : State) (c : Cmd) (a : ZoneAction) (slba : Nat) (sel : Bool)  :
    (State.zoneSend s c a slba sel).steady = s.steady := by
  unfold State.zoneSend
  simp
  (repeat' split) <;> simp
@[simp] theorem State.zoneExtension_steady (s : State) (c : Cmd) (slba : Nat) (ext : Wide)  :
    (State.zoneExtension s c slba ext).steady = s.steady := by
  unfold State.zoneExtension
  simp
  (repeat' split) <;> simp
@[simp] theorem State.zoneInvalid_steady (s : State) (c : Cmd)  :
    (State.zoneInvalid s c).steady = s.steady := by
  unfold State.zoneInvalid
  split <;> simp
@[simp] theorem State.giveData_steady (s : State) (id : Nat) (fields : List Nat) (result : Nat)  :
    (State.giveData s id fields result).steady = s.steady := by
  unfold State.giveData
  simp
@[simp] theorem State.zoneReceive_steady (s : State) (c : Cmd) (slba : Nat) (filter : Nat) (part : Bool) (limit : Nat) (extended : Bool)  :
    (State.zoneReceive s c slba filter part limit extended).steady = s.steady := by
  unfold State.zoneReceive
  split <;> simp
@[simp] theorem State.dataset_steady (s : State) (c : Cmd) (deallocate : Bool) (ranges : List (Nat × Nat))  :
    (State.dataset s c deallocate ranges).steady = s.steady := by
  unfold State.dataset
  split <;> simp
@[simp] theorem State.flushCmd_steady (s : State) (c : Cmd)  :
    (State.flushCmd s c).steady = s.steady := by
  unfold State.flushCmd
  simp
@[simp] theorem State.runOther_steady (s : State) (c : Cmd)  :
    (State.runOther s c).steady = s.steady := by
  unfold State.runOther
  split <;> simp
@[simp] theorem State.charge_steady (s : State) (fn : Nat) (c : Cost)  :
    (State.charge s fn c).steady = s.steady := by
  unfold State.charge
  simp
@[simp] theorem State.holdFor_steady (s : State) (c : Cmd) (k : HoldCause)  :
    (State.holdFor s c k).steady = s.steady := by
  unfold State.holdFor
  simp
theorem State.logPage_steady (s : State) (c : Cmd) (lid : Nat) (p : State × List Nat) (h : s.logPage c lid = .ok p) :
    p.1.steady = s.steady := by
  unfold State.logPage at h
  dsimp only at h
  repeat' (split at h <;> try (cases h; first | rfl | (simp; done)))
  all_goals cases h
@[simp] theorem State.setFeature_steady (s : State) (c : Cmd) (fid : Nat) (value : Nat)  :
    (State.setFeature s c fid value).1.steady = s.steady := by
  unfold State.setFeature
  split <;> simp
@[simp] theorem State.createCq_steady (s : State) (c : Cmd) (qid : Nat) (size : Nat) (vector : Nat) (ien : Bool) (contiguous : Bool) (aligned : Bool)  :
    (State.createCq s c qid size vector ien contiguous aligned).1.steady = s.steady := by
  unfold State.createCq
  simp
@[simp] theorem State.createSq_steady (s : State) (c : Cmd) (qid : Nat) (size : Nat) (cqid : Nat) (contiguous : Bool) (aligned : Bool)  :
    (State.createSq s c qid size cqid contiguous aligned).1.steady = s.steady := by
  unfold State.createSq
  simp
@[simp] theorem State.deleteSq_steady (s : State) (c : Cmd) (qid : Nat)  :
    (State.deleteSq s c qid).1.steady = s.steady := by
  unfold State.deleteSq
  simp
@[simp] theorem State.deleteCq_steady (s : State) (c : Cmd) (qid : Nat)  :
    (State.deleteCq s c qid).1.steady = s.steady := by
  unfold State.deleteCq
  simp
@[simp] theorem State.abortOf_steady (s : State) (c : Cmd) (sq : Nat) (cid : Nat)  :
    (State.abortOf s c sq cid).1.steady = s.steady := by
  unfold State.abortOf
  split <;> simp
@[simp] theorem State.eventRequest_steady (s : State) (c : Cmd)  :
    (State.eventRequest s c).steady = s.steady := by
  unfold State.eventRequest
  simp
  split <;> simp
@[simp] theorem endAdmin_steady (c : Cmd) (r : State × NvmeStatus) : (endAdmin c r).steady = r.1.steady := by
  unfold endAdmin
  simp
@[simp] theorem State.mi_steady (s : State) (inBand : Bool) (fn : Nat) (k : State → State × Nat × List Nat) (h_k : ∀ x0, (k x0).1.steady = x0.steady) :
    (State.mi s inBand fn k).steady = s.steady := by
  unfold State.mi
  simp [h_k]
@[simp] theorem State.modCache_steady (s : State) (m : Nat) (f : Cache → Cache)  :
    (State.modCache s m f).steady = s.steady := by
  unfold State.modCache
  simp
@[simp] theorem State.onCache_steady (s : State) (m : Nat) (f : Cache → Cache)  :
    (State.onCache s m f).steady = s.steady := by
  unfold State.onCache
  simp
@[simp] theorem State.relockRecords_steady (s : State)  :
    (State.relockRecords s).steady = s.steady := by
  unfold State.relockRecords
  simp
@[simp] theorem State.unitLost_steady (s : State) (b : Stored)  :
    (State.unitLost s b).steady = s.steady := by
  unfold State.unitLost
  split <;> simp
@[simp] theorem State.dramError_steady (s : State) (a1 : MemHolds)  :
    (State.dramError s a1).steady = s.steady := by
  unfold State.dramError
  (repeat' split) <;> simp
@[simp] theorem effGetIdentity_steady (v : Via) (s : State)  :
    (effGetIdentity v s).1.steady = s.steady := by
  unfold effGetIdentity
  simp
@[simp] theorem effGetTime_steady (s : State)  :
    (effGetTime s).1.steady = s.steady := by
  unfold effGetTime
  simp
@[simp] theorem effGetOwnerChallenge_steady (v : Via) (s : State)  :
    (effGetOwnerChallenge v s).1.steady = s.steady := by
  unfold effGetOwnerChallenge
  simp
@[simp] theorem effGetPatrolStatus_steady (s : State)  :
    (effGetPatrolStatus s).1.steady = s.steady := by
  unfold effGetPatrolStatus
  simp
@[simp] theorem effGetLossLedger_steady (v : Via) (nsid : Nat) (first : Nat) (count : Nat) (s : State)  :
    (effGetLossLedger v nsid first count s).1.steady = s.steady := by
  unfold effGetLossLedger
  simp
@[simp] theorem effGetLunHealth_steady (glun : Nat) (s : State)  :
    (effGetLunHealth glun s).1.steady = s.steady := by
  unfold effGetLunHealth
  simp
@[simp] theorem effGetPowerStatus_steady (s : State)  :
    (effGetPowerStatus s).1.steady = s.steady := by
  unfold effGetPowerStatus
  simp
@[simp] theorem effGetThermal_steady (s : State)  :
    (effGetThermal s).1.steady = s.steady := by
  unfold effGetThermal
  simp
@[simp] theorem effGetPortStatistics_steady (port : Nat) (s : State)  :
    (effGetPortStatistics port s).1.steady = s.steady := by
  unfold effGetPortStatistics
  simp
@[simp] theorem effGetIncompleteStripeSets_steady (width : Nat) (first : Nat) (count : Nat) (s : State)  :
    (effGetIncompleteStripeSets width first count s).1.steady = s.steady := by
  unfold effGetIncompleteStripeSets
  simp
@[simp] theorem effGetMastStatus_steady (m : Nat) (s : State)  :
    (effGetMastStatus m s).1.steady = s.steady := by
  unfold effGetMastStatus
  simp
@[simp] theorem effGetInternalResources_steady (s : State)  :
    (effGetInternalResources s).1.steady = s.steady := by
  unfold effGetInternalResources
  simp
@[simp] theorem State.modMbxAt_steady (s : State) (v : Via) (f : Mbx → Mbx)  :
    (State.modMbxAt s v f).steady = s.steady := by
  unfold State.modMbxAt
  simp
@[simp] theorem State.spendChallenge_steady (s : State) (m : MbxHdr)  :
    (State.spendChallenge s m).steady = s.steady := by
  unfold State.spendChallenge
  split <;> simp
@[simp] theorem State.goWith_steady (s : State) (m : MbxHdr) (i : Instr) (c : MForm) (known : Bool)  :
    (State.goWith s m i c known).steady = s.steady := by
  unfold State.goWith
  (repeat' split) <;> simp
@[simp] theorem State.go_steady (s : State) (i : Instr)  :
    resSteady (State.go s i) s.steady = s.steady := by
  unfold State.go
  split <;> simp
@[simp] theorem State.finishMbx_steady (s : State) (m : MbxHdr) (c : MForm) (r : Resp)  :
    (State.finishMbx s m c r).steady = s.steady := by
  unfold State.finishMbx
  simp
  split <;> simp
@[simp] theorem State.reportBound_steady (s : State) (fn : Nat) (code : Nat) (count : Counters → Nat) (last : Counters → Nat) (at_ : Counters → Option Nat) (mark : Nat → Counters → Counters)  :
    (State.reportBound s fn code count last at_ mark).steady = s.steady := by
  unfold State.reportBound
  simp
@[simp] theorem State.reportBounds_steady (s : State)  :
    (State.reportBounds s).steady = s.steady := by
  unfold State.reportBounds
  simp
@[simp] theorem State.applyReef_steady (s : State)  :
    (State.applyReef s).steady = s.steady := by
  unfold State.applyReef
  simp
@[simp] theorem State.stepOf_steady (f : State → State) (s : State) (h_f : ∀ x0, (f x0).steady = x0.steady) :
    (State.stepOf f s).steady = s.steady := by
  unfold State.stepOf
  simp [h_f]
@[simp] theorem State.refreshCredits_steady (s : State)  :
    (State.refreshCredits s).steady = s.steady := by
  unfold State.refreshCredits
  simp
@[simp] theorem State.badAccess_steady (s : State) (fn : Nat) (port1 : Bool)  :
    (State.badAccess s fn port1).steady = s.steady := by
  unfold State.badAccess
  simp
@[simp] theorem State.latchRead_steady (s : State) (fn : Nat) (port1 : Bool) (offset : Nat) (bits : Nat) (latch : Ctrl → Ctrl)  :
    (State.latchRead s fn port1 offset bits latch).steady = s.steady := by
  unfold State.latchRead
  simp
@[simp] theorem jtagRes_steady (s : State) (k : State) (hk : k.steady = s.steady) :
    resSteady (jtagRes s k) s.steady = s.steady := by
  unfold jtagRes
  simp [hk]

end Sys2Proof.Machine
end

