-- ==== Sys2Proof/Machine/Image.lean ====
section
/-! DEFINITION. What stands on flash for the state (R240 to R256): the block at each position of a segment, the slot that holds it with
its page header and LDPC parity, scrambled. A reader of the media (R264) finds these bytes. -/

namespace Sys2Proof.Machine

/-- Format version of this ROM's structures (R239): 1.0. -/
def formatVersion : Nat := 0x10

/-- Identity of a block that is no data block of a zone (R249): the manual gives no zone offset for it. -/
def State.plainIdentity (g : Segment) (row idx marker : Nat) : List Nat :=
  identityBytes g.gen (Config.plainOffset row idx) (g.zone.getD 0x0FFFFFFF) marker
/-- A block of markers 1 to 6: no tag, no IV counter, no protection information (R249). -/
def plainBlock (payload ident : List Nat) : List Nat :=
  sealedBytes payload (List.replicate 16 0) 0 ident (List.replicate 8 0)
/-- Header row block (R254): the segment header in all 16 positions of every member's unit. -/
def State.headerBlock (s : State) (g : Segment) (idx : Nat) : List Nat :=
  let (lbaf, pi, segs) := match s.ns? g.nsid with
    | some n => (n.lbaf, n.pi, n.segsPerZone)
    | none => (0, 0, 1)
  plainBlock (segHeaderBytes formatVersion g (rowsOf s.profile) lbaf pi segs ((List.range g.width).map (s.memberGlun g)))
    (plainIdentity g 0 idx 5)

/-- Payloads of a zone's trailer positions (R255): the zone trailer, then the stored tree, 128 nodes to a block. -/
def State.trailerPayload (s : State) (nsid zi i : Nat) : List Nat :=
  let z := s.zone nsid zi
  if i == 0 then
    let entry := ((s.keys.register.find? fun e => e.number == z.keyRef)).getD zeroEntry
    trailerBytes formatVersion nsid z s.clk.poc s.clk.frame entry
  else padTo 4096 ((((treeNodes (s.treeLeaves nsid zi z.written)).drop (128 * (i - 1))).take 128).flatMap fun d => bytesLE 32 d.toNat)

/-- A row that holds a finished zone's trailer (R255): it follows the last written row, in the same segment. -/
def State.trailerRow (s : State) (g : Segment) (row : Nat) : Option Nat :=
  match g.zone with
  | none => none
  | some zi =>
    let z := s.zone g.nsid zi
    let last := 1 + (z.written - 1) % perSeg s.profile g.width / perRow g.width
    if z.state == .full && ! z.detached && 0 < z.written && g.index == (z.written - 1) / perSeg s.profile g.width && last < row then
      some (row - last - 1)
    else none

/-- The block of a data row at a codeword unit and index, where it is settled: a stored block, a fill block (R117), or in a trailer row
the zone trailer and the tree. -/
def State.dataBlock (s : State) (g : Segment) (row unit idx : Nat) : Option (List Nat) :=
  let at_ := unit * 16 + idx
  match s.media.blocks.find? fun b => b.seg == g.seq && b.row == row && b.unit == unit && b.idx == idx with
  | some b => if b.sealed || b.marker != .data then some (s.storedBytes b) else none
  | none =>
    match (g.row row).fillFrom with
    | none => none
    | some f =>
      if at_ < f then none
      else match g.zone, s.trailerRow g row with
        | some zi, some k => some (plainBlock (s.trailerPayload g.nsid zi (k * perRow g.width + at_)) (plainIdentity g row at_ 4))
        | some zi, none => some (plainBlock (List.replicate 4096 0) (identityBytes g.gen
            (g.index * perSeg s.profile g.width + (row - 1) * perRow g.width + at_) zi 1))
        | none, _ => some (plainBlock (List.replicate 4096 0) (plainIdentity g row at_ 1))

/-- Column `i` of a row's data blocks, in unit order; none while one is not settled. -/
def State.dataColumn (s : State) (g : Segment) (row idx i : Nat) : Option (List Nat) :=
  (List.range (dataOf g.width)).foldr (fun u acc => match s.dataBlock g row u idx, acc with
    | some b, some l => some (b.getD i 0 :: l)
    | _, _ => none) (some [])
/-- The block at any position of a row: header, data, or Reed–Solomon parity in all 4,160 byte positions (R85, R250, R254). -/
def State.blockOnFlash (s : State) (g : Segment) (row unit idx : Nat) : Option (List Nat) :=
  if row == 0 then some (s.headerBlock g idx)
  else if unit < dataOf g.width then s.dataBlock g row unit idx
  else (List.range 4160).foldr (fun i acc => match s.dataColumn g row idx i, acc with
    | some c, some l => some ((rsParity (parityOf g.width) c).getD (unit - dataOf g.width) 0 :: l)
    | _, _ => none) (some [])

/-- Bit `k` of a list of bytes (R247). -/
def bitOfBytes (l : List Nat) (k : Nat) : Bool := bit (l.getD (k / 8) 0) (k % 8)
/-- LDPC parity bytes of 4,176 information bytes under code `mb` (R246, R247). -/
def ldpcBytes (mb : Nat) (info : List Nat) : List Nat :=
  (List.range (48 * mb)).map fun i => bitmap ((List.range 8).filter fun k =>
    ldpcParity mb (bitOfBytes info) ((8 * i + k) / ldpcZ) ((8 * i + k) % ldpcZ))
/-- Kind of the page that holds a unit (R243). -/
def pageKindOf (g : Segment) (trailer : Bool) (row unit : Nat) : Nat :=
  if row == 0 then 0x03 else if dataOf g.width ≤ unit then 0x02 else if trailer then 0x04 else 0x01
/-- The slot that block index `t` of member `q`'s unit of a row occupies (R240 to R244): page header, block, LDPC parity, scrambled. A page of the header
row carries the segment's key reference (DESIGN CHOICE, log 60). -/
def State.slotOnFlash (s : State) (g : Segment) (q row t : Nat) : Option (List Nat) :=
  let p := s.profile
  let u := unitOf g.width q row
  let (page, slot) := pageIndexOf p row t
  let trailer := (s.trailerRow g row).isSome
  (s.blockOnFlash g row u t).map fun b =>
    let head := segPageHeader formatVersion (pageKindOf g trailer row u) slot row q (if row == 0 then 0xFF else u) (g.seq % 2 ^ 48)
      (if trailer then 0xFFFF else g.keyRef)
    scramble page slot (head ++ b ++ ldpcBytes p.ldpcCode (head ++ b))
/-- Column of a page at which a slot begins (R240). -/
def slotColumn (p : MediaProfile) (slot : Nat) : Nat := slot * slotLength p.ldpcCode
/-- The page at a segment page index of member `q`'s block (R240, R241): its slots, and 0xFF in the columns up to the end of the spare area. -/
def State.pageOnFlash (s : State) (g : Segment) (q index : Nat) : Option (List Nat) :=
  let p := s.profile
  let c := slotsPerPage p
  let n := max 1 (16 / max 1 c)
  ((List.range c).foldr (fun i acc => match s.slotOnFlash g q (index / n) (index % n * c + i), acc with
    | some b, some l => some (b ++ l)
    | _, _ => none) (some [])).map fun l => l ++ List.replicate (p.pageMain + p.pageSpare - slotColumn p c) 0xFF
/-- What a reader takes from a page: its slots; the columns above them are ignored (R240). -/
def slotsOfPage (p : MediaProfile) (page : List Nat) : List (List Nat) :=
  (List.range (slotsPerPage p)).map fun i => (page.drop (slotColumn p i)).take (slotLength p.ldpcCode)

end Sys2Proof.Machine
end

