-- ==== Sys2Proof/Machine/Layout.lean ====
section
/-! DEFINITION. Mailbox responses as bytes: the payload layouts of R419, the header of R409 and the MCTP message of R416; and
what R423 and R428 fix of an event record's bytes. -/

namespace Sys2Proof.Machine

/-- Where the fields of a response stand: offset and width of each field of the head, then entries of one size from an offset on, with the
offset and width of each of their fields. -/
structure RespLayout where
  head : List (Nat × Nat) := []
  first : Nat := 0
  size : Nat := 0
  entry : List (Nat × Nat) := []
  deriving DecidableEq, Repr, Inhabited

/-- Fields of `w` bytes each, `n` of them, from an offset on. -/
def runOf (off w n : Nat) : List (Nat × Nat) := (List.range n).map fun i => (off + w * i, w)
/-- Layout of a response by its opcode (R419). -/
def layoutOf (op : Nat) : RespLayout :=
  match op with
  | 0x0001 => { head := [(0, 8), (8, 2), (10, 1), (11, 1), (12, 1), (13, 1), (14, 2), (16, 20), (36, 32), (68, 4), (72, 1)] }
  | 0x0002 => { head := [(0, 8), (8, 4), (12, 1), (16, 8), (24, 8), (32, 8), (40, 8)] }
  | 0x0003 => { head := runOf 0 8 2 }
  | 0x0004 => { head := runOf 0 8 4 ++ [(32, 1), (33, 1)] }
  | 0x0005 | 0x0101 | 0x0502 | 0x0701 | 0x0702 | 0x0705 => { head := [(0, 8)] }
  | 0x0006 | 0x0A01 | 0x0A02 => { head := [(0, 32)] }
  | 0x0102 => { head := [(0, 1), (1, 1), (2, 1), (4, 4)] ++ runOf 8 8 16 ++ [(136, 2)], first := 138, size := 2, entry := [(0, 2)] }
  | 0x0108 => { head := [(0, 2), (2, 1), (3, 1), (4, 2), (6, 2), (8, 4), (12, 4)] ++ runOf 16 4 8 ++ runOf 48 8 12 }
  | 0x0201 => { head := [(0, 4), (4, 4), (8, 8), (16, 8), (24, 8)] }
  | 0x0205 => { head := [(0, 2), (2, 1), (3, 1), (4, 4), (8, 1), (9, 1), (10, 1), (11, 1), (12, 8), (20, 4), (24, 4), (28, 8), (36, 4), (40, 8), (48, 4),
      (52, 4), (56, 4), (60, 17), (77, 1)] }
  | 0x0209 => { head := [(0, 1), (1, 1), (2, 1), (3, 1), (4, 1), (5, 1), (6, 2), (8, 8), (16, 4), (20, 1), (21, 1), (24, 4), (28, 8)] }
  | 0x0301 | 0x0501 | 0x0305 => { head := [(0, 2)] }
  | 0x0303 => { head := [(0, 2), (2, 1), (4, 4)] }
  | 0x0304 => { head := [(0, 1), (4, 4)] }
  | 0x0306 => { head := [(0, 1), (1, 1), (2, 2), (4, 4), (8, 2), (12, 4), (16, 8)] }
  | 0x0308 => { head := [(0, 2)], first := 2, size := 40, entry := [(0, 40)] }
  | 0x0401 => { head := runOf 0 8 3 ++ [(24, 1), (32, 8), (40, 8), (48, 4)] }
  | 0x0402 => { head := runOf 0 4 2, first := 8, size := 48
                entry := [(0, 4), (4, 4), (8, 8), (16, 8), (24, 1), (25, 1), (26, 2), (28, 4), (32, 8), (40, 8)] }
  | 0x0403 => { head := runOf 0 1 3 ++ runOf 4 4 8 }
  | 0x0503 => { head := [(0, 1), (2, 2), (4, 8), (12, 4), (16, 64), (80, 336)], first := 416, size := 4, entry := [(0, 4)] }
  | 0x0504 => { head := [(0, 97), (100, 336)] }
  | 0x0601 => { head := [(0, 1), (1, 1), (2, 1), (3, 1), (4, 32), (36, 4), (40, 4)] }
  | 0x0602 => { head := [(0, 4)], first := 4, size := 64
                entry := [(0, 32), (32, 1), (33, 1), (34, 1), (36, 4), (40, 4), (44, 4), (48, 8)] }
  | 0x0607 => { head := [(0, 1)], first := 4, size := 32, entry := [(0, 32)] }
  | 0x0704 => { head := [(0, 1), (1, 1), (2, 1), (4, 32), (36, 4), (40, 4), (44, 4), (48, 4), (52, 8), (60, 8), (68, 2)] }
  | 0x0708 => { head := [(0, 1), (1, 1), (2, 1), (3, 1), (4, 4), (8, 4), (12, 4), (16, 4), (20, 32), (52, 1), (56, 8), (64, 8)] }
  | 0x0801 => { head := [(0, 1), (1, 1), (2, 1), (4, 4), (8, 16), (24, 4), (28, 4), (32, 1), (33, 1), (36, 4), (40, 4)] ++ runOf 44 8 4 }
  | 0x0802 => { head := [(0, 1)] }
  | 0x0805 => { head := runOf 0 2 25 ++ [(52, 4), (56, 1)] }
  | 0x0901 => { head := [(0, 1), (4, 8), (12, 8), (20, 4), (24, 4), (28, 4), (32, 1), (36, 4)] }
  | 0x0902 => { head := runOf 0 4 2, first := 8, size := 6, entry := [(0, 1), (1, 1), (2, 4)] }
  | 0x0903 => { head := [(0, 1), (1, 1), (2, 1), (4, 1), (8, 8), (16, 4)] }
  | 0x0906 | 0x0A04 => { head := [(0, 4)] }
  | 0x0907 => { head := runOf 0 4 19 }
  | 0x0A03 => { first := 0, size := 1, entry := [(0, 1)] }
  | _ => {}

/-- The bytes of a field (R13): a point is in its published form, every other field is little-endian. -/
def fieldBytes (w v : Nat) : List Nat := if w == 97 then pointBytes (BitVec.ofNat _ v) else bytesLE w v
/-- Fields at their offsets, with 0 between them. -/
def placeFields (at_ : List (Nat × Nat)) (fields : List Nat) : List Nat :=
  (at_.zip fields).foldl (fun acc (x : (Nat × Nat) × Nat) => padTo x.1.1 acc ++ fieldBytes x.1.2 x.2) []
/-- The payload of a response (R419). -/
def payloadOfResponse (op : Nat) (fields : List Nat) : List Nat :=
  let l := layoutOf op
  let rest := fields.drop l.head.length
  let n := rest.length / max 1 l.entry.length
  padTo l.first (placeFields l.head fields) ++
    (List.range n).flatMap fun i => padTo l.size (placeFields l.entry (rest.drop (l.entry.length * i)))

/-- The first 16 bytes of an event record (R423); its arguments follow. -/
def eventHead (e : Event) : List Nat :=
  bytesLE 8 e.frame ++ bytesLE 2 e.source ++ bytesLE 2 e.code ++ [e.severity, bitOf e.phase 0 + bitOf e.summary 1] ++ bytesLE 2 e.fn
/-- A summary record (R428): its count in 4 bytes and the frame of the first missed record in 8. -/
def summaryBytes (e : Event) : List Nat := padTo 32 (eventHead e ++ bytesLE 4 (e.args.getD 0 0) ++ bytesLE 8 (e.args.getD 1 0))

/-- The header once the response is there (R409): the host's bytes as the request left them, the device's own filled in. -/
def responseHeader (m : MbxHdr) (op : Nat) (r : Resp) (payload effect : Nat) : List Nat :=
  headerBytes m op ++ bytesLE 4 payload ++ bytesLE 2 r.status ++ bytesLE 2 r.detail ++ List.replicate 4 0 ++ bytesLE 8 r.argument ++
    bytesLE 8 m.extAddr ++ bytesLE 4 m.extLen ++ List.replicate 4 0 ++ bytesLE 8 effect ++ List.replicate 8 0
/-- What a mailbox's window holds once its command has been answered: the header, and the payload where the response is not in the extended
buffer (R408, R410). -/
def Mbx.window (m : MbxHdr) (b : Mbx) (r : Resp) : List Nat :=
  let payload := if r.status < 0x100 then payloadOfResponse b.opcode r.fields else []
  responseHeader m b.opcode r payload.length b.effect ++ (if m.extResp then [] else payload)
/-- The MCTP message that answers a request (R416): type, Plynham's vendor identifier, response, header and payload. -/
def mctpAnswer (m : MbxHdr) (b : Mbx) (r : Resp) : List Nat := [0x7E] ++ bytesBE 2 plynham ++ [0x02] ++ Mbx.window m b r

end Sys2Proof.Machine
end

