-- ==== Sys2Proof/Machine/Line.lean ====
section
/-! DEFINITION. Halyard packets as the bytes on the line: header, tag and payload layouts (R334, R336), the header of a request (R369), the
responses (R369) and the end-to-end control messages (R370, R371). -/

namespace Sys2Proof.Machine

/-- Virtual channel of a packet type (R335). -/
def channelOf (ptype : Nat) : Nat := if ptype == 0x20 then 1 else if ptype == 0x30 then 2 else 0
/-- The 16-byte header (R334). -/
def packetHeader (ptype label hops len seq : Nat) : List Nat :=
  [ptype, channelOf ptype] ++ bytesLE 2 (label % 2 ^ 12) ++ [hops % 256, 0] ++ bytesLE 2 len ++ bytesLE 8 seq
/-- A whole packet (R334): under a session key (32 key bytes, then the 4 of the salt) sealed with its header as additional data, else in clear
with the CRC-64 over header and payload. -/
def packetBytes (key : Option (BitVec 288)) (ptype label hops seq : Nat) (payload : List Nat) : List Nat :=
  let hd := packetHeader ptype label hops payload.length seq
  match key with
  | some k =>
    let y := bytesLE 36 k.toNat
    let (ct, tag) := gcmSeal (y.take 32) (y.drop 32 ++ bytesBE 8 seq) hd payload
    hd ++ ct ++ tag
  | none => hd ++ payload ++ bytesLE 8 (crc64 (hd ++ payload)) ++ List.replicate 8 0

/-- Payload of an Auth or Rekey packet (R336), from its sub-kind onward: a fragment of the certificate chain, a key share with the last sequences
in a rekey, a signature, or done. -/
def authPayload (args : List Nat) : List Nat :=
  match args with
  | [1, last, fragment, der] => [1, last] ++ bytesLE 2 fragment ++ bytesLE 508 der
  | 2 :: point :: random :: rest => [2, 1, 0, 0] ++ pointBytes (BitVec.ofNat _ point) ++ bytesLE 32 random ++ rest.flatMap (bytesLE 8)
  | [3, r, sg] => [3, 1, 0, 0] ++ bytesBE 48 r ++ bytesBE 48 sg
  | k :: _ => [k, 1, 0, 0]
  | [] => []
/-- An end-to-end control message (R370, R371) from its code; an end-to-end Hail or Auth follows its packet type. -/
def State.messageBytes (s : State) (args : List Nat) : List Nat :=
  match args with
  | 0x01 :: kind :: streams :: ident :: nsid :: n :: genEnd :: lbaf :: pi :: version :: rest =>
    if kind == 0x48 then 0x01 :: (kind :: streams :: ident :: nsid :: n :: genEnd :: lbaf :: pi :: version :: rest)
    else
      [0x01, kind, streams, 0] ++ bytesLE 8 ident ++ bytesLE 4 nsid ++ bytesLE 4 n ++ bytesLE 8 genEnd ++ [lbaf, pi, version, 0] ++
        match kind, rest with
        | 2, [first, count, mode, policy, lag] => bytesLE 4 first ++ bytesLE 4 count ++ [mode, policy, 0, 0] ++ bytesLE 4 lag
        | _, zones => zones.flatMap (bytesLE 4)
  | [0x02, accept, status, ident, nsid, cls] => [0x02, accept] ++ bytesLE 2 status ++ bytesLE 8 ident ++ bytesLE 4 nsid ++ [cls]
  | [0x03, version, zone, gen, written, leaves, root, utc, grade, fp, salt, floor, job] =>
    [0x03, version, 0, 0] ++ bytesLE 4 zone ++ bytesLE 8 gen ++ bytesLE 4 written ++ bytesLE 4 leaves ++ bytesLE 32 root ++ bytesLE 8 utc ++
      [grade, 0, 0, 0] ++ bytesLE 32 fp ++ bytesLE 4 salt ++ bytesLE 8 floor ++ bytesLE 8 job ++ List.replicate 8 0
  | [0x04, fp, point, wrapped, job] =>
    [0x04, 0, 0, 0] ++ bytesLE 32 fp ++ padTo 100 (pointBytes (BitVec.ofNat _ point)) ++ bytesLE 40 wrapped ++ bytesLE 8 job
  | [0x05, job, zone, chunks] => [0x05, 0, 0, 0] ++ bytesLE 8 job ++ bytesLE 4 zone ++ bytesLE 4 chunks
  | [0x06, phase, job, zone, gen] => [0x06, phase, 0, 0] ++ bytesLE 8 job ++ bytesLE 4 zone ++ bytesLE 8 gen
  | [0x07, status, tag, ident] => [0x07, 0] ++ bytesLE 2 status ++ bytesLE 4 tag ++ bytesLE 8 ident
  | [0x08, kind, reason, ident, zone] => [0x08, kind, reason, 0] ++ bytesLE 8 ident ++ bytesLE 4 zone
  | [0x09, action, state, cause, ident] => [0x09, action, state, 0] ++ bytesLE 2 cause ++ [0, 0] ++ bytesLE 8 ident
  | [0x10, ident, zone, gen, pointer, key] =>
    padTo 64 ([0x10, 0, 0, 0] ++ bytesLE 8 ident ++ bytesLE 4 zone ++ bytesLE 8 gen ++ bytesLE 4 pointer) ++ entryBytes (s.entryOf key)
  | [0x11, ident, zone, gen, written, root] =>
    padTo 104 ([0x11, 0, 0, 0] ++ bytesLE 8 ident ++ bytesLE 4 zone ++ bytesLE 8 gen ++ bytesLE 4 written ++ bytesLE 32 root)
  | 0x12 :: ident :: zone :: gen :: _ => padTo 104 ([0x12, 0, 0, 0] ++ bytesLE 8 ident ++ bytesLE 4 zone ++ bytesLE 8 gen)
  | 0x13 :: ident :: _ => padTo 104 ([0x13, 0, 0, 0] ++ bytesLE 8 ident)
  | code :: rest => if code == 0x02 || code == 0x0B then code :: authPayload rest else code :: rest
  | [] => []
/-- The payload of a packet, or of a run of them, from the fields that it was sent with (R336, R348, R369, R371). -/
def State.payloadBytes (s : State) (ptype packets : Nat) (args : List Nat) : List Nat :=
  match ptype, args with
  | 0x01, l => l
  | 0x02, l => authPayload l
  | 0x0B, l => authPayload l
  | 0x03, [accepted, ctl, req] => padTo 16 (bytesLE 8 accepted ++ bytesLE 2 ctl ++ bytesLE 2 req)
  | 0x04, [accepted, reason] => padTo 16 (bytesLE 8 accepted ++ [reason])
  | 0x05, [number] => padTo 16 (bytesLE 8 number)
  | 0x06, [number, turnaround] => padTo 16 (bytesLE 8 number ++ bytesLE 4 turnaround)
  | 0x07, [target, origin, number, latency, wake] =>
    padTo 80 (bytesLE 32 target ++ bytesLE 32 origin ++ bytesLE 4 number ++ bytesLE 4 latency ++ [wake])
  | 0x08, [target, origin, number, latency, hops] =>
    padTo 80 (bytesLE 32 target ++ bytesLE 32 origin ++ bytesLE 4 number ++ bytesLE 4 latency ++ [hops])
  | 0x09, [reason, fp] => padTo 8 [reason] ++ bytesLE 32 fp
  | 0x0A, [reason, poc] => padTo 4 [reason] ++ bytesLE 4 poc
  | 0x0C, [reason, tag, fp] => padTo 4 [reason] ++ bytesLE 4 tag ++ bytesLE 32 fp
  | 0x10, l => s.messageBytes l
  | 0x20, [op, tag, ident, zone, offset, count, declared] =>
    padTo 32 ([op, 0] ++ bytesLE 2 packets ++ bytesLE 4 tag ++ bytesLE 8 ident ++ bytesLE 4 zone ++ bytesLE 4 offset ++ bytesLE 2 count ++ bytesLE 2 declared)
  | _, _ => []

/-- Sealed blocks in offset order, 4,160 bytes each (R369). -/
def sealedRun (blocks : List Block) (metas : List Wide) : List Nat :=
  (blocks.zip metas).flatMap fun (b, m) => blockBytes b ++ bytesLE 64 m.toNat
/-- The payload of a response (R369): sealed blocks, tree nodes, or for a mirror write its tag, status and mirror pointer. -/
def responsePayload (tag : Nat) (blocks : List Block) (metas : List Wide) (nodes : List Digest) (status pointer : Nat) : List Nat :=
  if ! blocks.isEmpty then sealedRun blocks metas
  else if ! nodes.isEmpty then nodes.flatMap fun d => bytesLE 32 d.toNat
  else bytesLE 4 tag ++ bytesLE 2 status ++ [0, 0] ++ bytesLE 4 pointer
/-- A payload in packets of up to 512 bytes; an empty one still takes a packet. -/
def packetCuts (payload : List Nat) : List (List Nat) :=
  (List.range (max 1 (ceilDiv payload.length 512))).map fun i => (payload.drop (512 * i)).take 512

/-- The key that a packet of a port travels under: an Auth done packet is the first under the new session (R349), and before a session there is
none. -/
def State.lineKey (s : State) (port : Nat) (k : TxPkt) : Option (BitVec 288) :=
  let a := (s.hport port).auth
  if (k.ptype == 0x02 || k.ptype == 0x0B) && k.args.head? == some 4 then some a.nextOut
  else if a.session then some a.keyOut else none
/-- The packets that a transmit entry puts on the line, with the payload that follows its fields (R334, R337). -/
def State.linePackets (s : State) (port : Nat) (k : TxPkt) (rest : List Nat) : List (List Nat) :=
  let payload := (if k.ptype == 0x30 then [] else s.payloadBytes k.ptype k.count k.args) ++ rest
  (packetCuts payload).zipIdx.map fun (p, i) => packetBytes (s.lineKey port k) k.ptype k.label k.hops (k.seq + i) p

end Sys2Proof.Machine
end

