-- ==== Sys2Proof/WellFormed.lean ====
section
/-! DEFINITION. Which operands a command can carry: the widths of the registers, packet fields, command fields and payload fields that
bring them, and the numbers of units that a variant of the family has at most (R1, R7, R10, R11, R409, R419). -/

namespace Sys2Proof

/-- A field of `n` bits holds the value. -/
def below (n x : Nat) : Bool := decide (x < 2 ^ n)
/-- JTAG instruction codes with a meaning of their own (R529): every other code is BYPASS. -/
def jtagListed (code : Nat) : Bool := [0x01, 0x02, 0x03, 0x04, 0x05, 0x06, 0x07, 0x40, 0x41, 0x42, 0x43].contains code
/-- A mailbox that a variant has: four of function 0, one of an instance, or the MCTP endpoint (R408, R416). -/
def Via.wf : Via → Bool
  | .bar fn mb => decide (fn < 129) && decide (mb < if fn = 0 then 4 else 1)
  | .mctp => true
/-- A mailbox command's header (R409). -/
def MbxHdr.wf (m : MbxHdr) : Bool :=
  m.via.wf && below 16 m.tag && below 32 m.len && below 64 m.extAddr && below 32 m.extLen && m.rsvd.all (below 20) &&
  m.trailer.all fun t => below 384 t.r && below 384 t.s
/-- What every NVMe command carries: the port 1 controller is that of function 0 (R387, R395). -/
def NvmeHdr.wf (h : NvmeHdr) : Bool :=
  decide (h.fn < 129) && (! h.port1 || decide (h.fn = 0)) && below 16 h.sq && below 16 h.cid && below 32 h.nsid && below 32 h.hops
/-- The addressing of an I/O command: the field of the number of blocks is 0's based, 16 bits wide (R96, R101). -/
def Extent.wf (e : Extent) : Bool :=
  below 64 e.slba && decide (0 < e.nlb) && decide (e.nlb ≤ 65536) && below 16 e.appTag && below 32 e.refTag
/-- An extent of a digest (R274). -/
def DigestExtent.wf (e : DigestExtent) : Bool := below 64 e.lba && below 32 e.offset && below 64 e.bytes
/-- A patrol slice's report names a segment or the system blocks of a LUN (R205). -/
def SliceReport.wf (r : SliceReport) : Bool :=
  decide (r.seq < 2 ^ 64 + 1024) && decide (r.members.length ≤ 32) && r.decodes.all fun x => decide (x.1 < 32)
/-- What the reads of a relocation found names members of a segment (R209). -/
def CopyReport.wf (r : CopyReport) : Bool := (r.members.all fun x => decide (x.1 < 32)) && r.decodes.all fun x => decide (x.1 < 32)
/-- Protection information that travels with a block (R100). -/
def HostPi.wf (p : HostPi) : Bool := below 16 p.app && below 48 p.ref
/-- A Hail (R348). -/
def Hail.wf (h : Hail) : Bool :=
  below 8 h.version && below 8 h.sendPort && below 8 h.memusum && below 16 h.ctlCredits && below 16 h.reqCredits && below 16 h.respPool &&
  below 32 h.powerOn
/-- A zone manifest (R370). -/
def Manifest.wf (m : Manifest) : Bool :=
  below 8 m.version && below 32 m.zone && below 64 m.generation && below 32 m.written && below 32 m.leaves && below 64 m.utcFinish &&
  below 8 m.grade && below 64 m.floor && below 64 m.job

/-- Every operand of a command is one that its field can hold, and names a unit that some variant has. -/
def Instr.wf : Instr → Bool
  | .frameStart _ => true
  | .overrunRecoveryRun port => decide (port < 32)
  | .retrainingPass port cePassed excluded => decide (port < 32) && below 8 cePassed && (excluded.all fun e => decide (e.1 < 1024))
  | .retrainingTimeout port => decide (port < 32)
  | .portFailedAfterDrain port => decide (port < 32)
  | .dieOperationEnd glun _ _ _ => decide (glun < 1024)
  | .programPassIssue glun => decide (glun < 1024)
  | .blockErase glun block => decide (glun < 1024) && below 16 block
  | .framePllRelock _ => true
  | .ref100Loss => true
  | .ref100Return => true
  | .secondMark => true
  | .lastKnownTime => true
  | .aon32kStopped => true
  | .aon32kRunning => true
  | .ageClockAdvance => true
  | .mastPllLossOfLock mast => decide (mast < 8)
  | .missingHeartbeat mast => decide (mast < 8)
  | .watchdogExpiry _ index => decide (index < 32)
  | .mastRestartSuccess mast => decide (mast < 8)
  | .mastRestartTimeout mast _ => decide (mast < 8)
  | .deviceFault => true
  | .hostMemoryReadCompletion _ _ _ pi => pi.wf
  | .sealUnit mast => decide (mast < 8)
  | .digestLeaf nsid zone => below 32 nsid && below 32 zone
  | .journalRecordDurable journal => decide (journal < 9)
  | .journalCheckpoint journal => decide (journal < 9)
  | .parkDelay nsid zone => below 32 nsid && below 32 zone
  | .energyWaitLimit _ => true
  | .selfTestInterval v1 => below 16 v1
  | .huLoadRelease => true
  | .selfTestResult v2 => below 16 v2
  | .selfTestRetry v1 => below 16 v1
  | .huLoadHardwareRelease => true
  | .pwrfail _ => true
  | .dumpRound => true
  | .finalRound => true
  | .dumpRestart => true
  | .lowVin _ => true
  | .brownOut _ => true
  | .aonPowerOnReset _ => true
  | .restoredUnitCompletion seq row => below 64 seq && below 16 row
  | .shutdownNotification fn _ => decide (fn < 129)
  | .translation _ => true
  | .readDecode _ _ _ => true
  | .ladderStep _ _ => true
  | .rebuild _ _ members _ => members.all fun x => decide (x.1 < 32)
  | .constantTimeRelease _ => true
  | .patrolSlice r => r.wf
  | .lateLap => true
  | .patrolBatchDue => true
  | .memberRewrite source member => below 64 source.num && decide (member < 32) && source.found.wf
  | .segmentRefresh source => below 64 source.num && source.found.wf
  | .programFailureReplacement source => below 64 source.num && source.found.wf
  | .compaction source => below 32 source.num && source.found.wf
  | .drainEnd slot => below 16 slot
  | .counterReservation mast keyRef => decide (mast < 8) && below 16 keyRef
  | .cipherFault mast _ _ _ => decide (mast < 8)
  | .drbgReseed => true
  | .drainLimit fn => decide (fn < 129)
  | .resetRetire fn => decide (fn < 129)
  | .vfEnableChange _ numVfs => below 16 numVfs
  | .ccEnSet fn port1 => decide (fn < 129) && (! port1 || decide (fn = 0))
  | .ccEnClear fn port1 => decide (fn < 129) && (! port1 || decide (fn = 0))
  | .functionLevelReset fn port1 => decide (fn < 129) && (! port1 || decide (fn = 0))
  | .perst port => decide (port < 2)
  | .perstRelease port => decide (port < 2)
  | .nvmSubsystemReset fn _ => decide (fn < 129)
  | .hostReceiverBeacon port => decide (port < 2)
  | .wakePin => true
  | .hostLinkStateChange port _ rate width => decide (port < 2) && below 8 rate && below 8 width
  | .sqTailDoorbell fn port1 sq tail => decide (fn < 129) && below 16 sq && below 16 tail && (! port1 || decide (fn = 0))
  | .cqHeadDoorbell fn port1 cq head => decide (fn < 129) && below 16 cq && below 16 head && (! port1 || decide (fn = 0))
  | .commandFetch _ => true
  | .completionTimeout _ => true
  | .readBack _ _ => true
  | .busMasterEnableClear fn port1 => decide (fn < 129) && (! port1 || decide (fn = 0))
  | .busMasterEnableSet fn port1 => decide (fn < 129) && (! port1 || decide (fn = 0))
  | .pmeTurnOff port => decide (port < 2)
  | .pauseDrained fn port1 => decide (fn < 129) && (! port1 || decide (fn = 0))
  | .interruptCoalescing fn port1 vector => decide (fn < 129) && below 16 vector && (! port1 || decide (fn = 0))
  | .msixUnmask fn port1 vector _ => decide (fn < 129) && below 16 vector && (! port1 || decide (fn = 0))
  | .read h e => h.wf && e.wf
  | .write h e => h.wf && e.wf
  | .zoneAppend h e => h.wf && e.wf
  | .writeZeroes h e => h.wf && e.wf
  | .flush h => h.wf
  | .compare h e _ => h.wf && e.wf
  | .verify h e => h.wf && e.wf
  | .datasetManagement h _ ranges => h.wf && (decide (ranges.length ≤ 256) && ranges.all fun p => below 64 p.1 && below 32 p.2)
  | .closeZone h slba _ => h.wf && below 64 slba
  | .finishZone h slba _ => h.wf && below 64 slba
  | .openZone h slba _ => h.wf && below 64 slba
  | .resetZone h slba _ => h.wf && below 64 slba
  | .offlineZone h slba _ => h.wf && below 64 slba
  | .setZoneDescriptorExtension h slba _ _ => h.wf && below 64 slba
  | .reportZones h slba filter _ limit => h.wf && below 64 slba && below 8 filter && below 32 limit
  | .extendedReportZones h slba filter _ limit => h.wf && below 64 slba && below 8 filter && below 32 limit
  | .invalidCommandOpcode h opcode => h.wf && below 8 opcode
  | .identify h cns csi => h.wf && below 8 cns && below 8 csi
  | .getLogPage h lid => h.wf && below 8 lid
  | .setFeatures h fid value => h.wf && below 8 fid && below 32 value
  | .getFeatures h fid => h.wf && below 8 fid
  | .setFeaturesTimestamp h ms => h.wf && below 48 ms
  | .setFeaturesPowerManagement h ps => h.wf && below 5 ps
  | .createIoSubmissionQueue h qid size cqid _ _ => h.wf && below 16 qid && below 17 size && below 16 cqid
  | .createIoCompletionQueue h qid size vector _ _ _ => h.wf && below 16 qid && below 17 size && below 16 vector
  | .deleteIoSubmissionQueue h qid => h.wf && below 16 qid
  | .deleteIoCompletionQueue h qid => h.wf && below 16 qid
  | .abort h sq cid => h.wf && below 16 sq && below 16 cid
  | .asynchronousEventRequest h => h.wf
  | .namespaceManagementCreate h csi nsze ncap lbaf pi => h.wf && below 8 csi && below 64 nsze && below 64 ncap && below 8 lbaf && below 8 pi
  | .namespaceManagementDelete h => h.wf
  | .namespaceAttachmentAttach h ctrls => h.wf && ctrls.all (below 16)
  | .namespaceAttachmentDetach h ctrls => h.wf && ctrls.all (below 16)
  | .secondaryControllerOnline h ctrl => h.wf && below 16 ctrl
  | .secondaryControllerOffline h ctrl => h.wf && below 16 ctrl
  | .secondaryControllerAssign h ctrl resource count => h.wf && below 16 ctrl && below 8 resource && below 32 count
  | .formatNvm h lbaf ses => h.wf && below 8 lbaf && below 3 ses
  | .cryptoErase h => h.wf
  | .readNvmeMiDataStructure _ fn dtyp => decide (fn < 129) && below 8 dtyp
  | .nvmSubsystemHealthStatusPoll _ fn _ => decide (fn < 129)
  | .controllerHealthStatusPoll _ fn first count => decide (fn < 129) && below 32 first && below 32 count
  | .configurationGet _ fn ident => decide (fn < 129) && below 8 ident
  | .configurationSet _ fn ident value => decide (fn < 129) && below 8 ident && below 32 value
  | .getIdentity m => m.wf
  | .getTime m => m.wf
  | .setTime m seconds fraction => m.wf && below 64 seconds && below 32 fraction
  | .getControl m ident scope => m.wf && below 32 ident && below 32 scope
  | .setControl m ident scope value => m.wf && below 32 ident && below 32 scope && below 64 value
  | .getOwnerChallenge m => m.wf
  | .setAllocation m fn resource value => m.wf && below 16 fn && below 8 resource && below 64 value
  | .getInstance m fn => m.wf && below 16 fn
  | .instanceOnline m fn => m.wf && below 16 fn
  | .instanceOffline m fn => m.wf && below 16 fn
  | .resetInstance m fn => m.wf && below 16 fn
  | .deleteInstance m fn _ => m.wf && below 16 fn
  | .setContract m fn cls _ reserved burst t ceiling => m.wf && below 16 fn && below 8 cls && below 16 reserved && below 16 burst && below 32 t && below 32 ceiling
  | .getContract m fn => m.wf && below 16 fn
  | .setExpertEnable m fn _ => m.wf && below 16 fn
  | .consentToAttach m nsid fn => m.wf && below 32 nsid && below 16 fn
  | .createNamespace m origin lbaf pi zones segs wmax cls _ permitted active open_ conv => m.wf && decide (origin < 2 ^ 16) && below 8 lbaf && below 8 pi && below 32 zones && below 8 segs && below 8 wmax && below 8 cls && below 64 permitted && below 32 active && below 32 open_ && below 64 conv
  | .deleteNamespace m nsid => m.wf && below 32 nsid
  | .attachNamespace m nsid fn => m.wf && below 32 nsid && below 16 fn
  | .detachNamespace m nsid fn => m.wf && below 32 nsid && below 16 fn
  | .getNamespace m nsid => m.wf && below 32 nsid
  | .setNamespaceAttributes m nsid _ _ _ cls permitted active open_ => m.wf && below 32 nsid && below 8 cls && below 64 permitted && below 32 active && below 32 open_
  | .defineClass m cls width grade affinity => m.wf && below 8 cls && below 8 width && below 8 grade && below 8 affinity
  | .deleteClass m cls => m.wf && below 8 cls
  | .getZoneRecord m nsid zone => m.wf && below 32 nsid && below 32 zone
  | .getTransportKey m => m.wf
  | .establishKek m index _ _ => m.wf && below 8 index
  | .loadKey m slot kek _ _ _ _ floor _ => m.wf && below 16 slot && below 8 kek && below 64 floor
  | .eraseKey m slot => m.wf && below 16 slot
  | .bindNamespaceKey m nsid slot => m.wf && below 32 nsid && below 16 slot
  | .getSlot m slot => m.wf && below 16 slot
  | .exportKey m slot _ => m.wf && below 16 slot
  | .exportConsentLapse slot => below 16 slot
  | .getKeyRegister m first count => m.wf && below 32 first && below 32 count
  | .getPatrolStatus m => m.wf
  | .getLossLedger m nsid first count => m.wf && below 32 nsid && below 32 first && below 32 count
  | .getLunHealth m glun => m.wf && below 16 glun
  | .leaveReadPreserve m => m.wf
  | .getIdentityCertificate m => m.wf
  | .treeCheck m nsid zone _ => m.wf && below 32 nsid && below 32 zone
  | .rangeDigest m nsid alg extents _ => m.wf && below 32 nsid && below 8 alg && extents.all DigestExtent.wf
  | .zoneAttestation m nsid zone key slot _ _ _ => m.wf && below 32 nsid && below 32 zone && below 8 key && below 8 slot
  | .rangeAttestation m nsid alg extents key slot _ _ => m.wf && below 32 nsid && below 8 alg && extents.all DigestExtent.wf && below 8 key && below 8 slot
  | .keyBinding m slot _ => m.wf && below 8 slot
  | .fixityJobEnd job _ _ _ _ _ => below 64 job
  | .getFixityResult m job => m.wf && below 64 job
  | .fixityResultExpiry job => below 64 job
  | .createOwnerAttestationKey m slot => m.wf && below 8 slot
  | .deleteOwnerAttestationKey m slot => m.wf && below 8 slot
  | .getHalyardPort m port => m.wf && below 8 port
  | .listPartners m first count => m.wf && below 32 first && below 32 count
  | .pairPartner m _ => m.wf
  | .unpairPartner m _ => m.wf
  | .releaseQuarantine m _ => m.wf
  | .setAllowlist m fps => m.wf && below 8 fps.length
  | .getAllowlist m => m.wf
  | .startMigration m _ nsid _ streams zones => m.wf && below 32 nsid && below 8 streams && zones.all (below 32)
  | .acceptMigration m _ nsid cls => m.wf && below 32 nsid && below 8 cls
  | .cancelMigration m job => m.wf && below 64 job
  | .getMigrationJob m job => m.wf && below 64 job
  | .setMirror m role mode policy cls lag nsid firstZone zoneCount _ => m.wf && below 8 role && below 8 mode && below 8 policy && below 8 cls && below 32 lag && below 32 nsid && below 32 firstZone && below 32 zoneCount
  | .endMirror m rel => m.wf && below 64 rel
  | .promoteMirror m rel => m.wf && below 64 rel
  | .getMirror m rel => m.wf && below 64 rel
  | .getPowerStatus m => m.wf
  | .setReefLimit m level => m.wf && below 8 level
  | .enterCrowsNest m interval => m.wf && below 32 interval
  | .powerDown m => m.wf
  | .getThermal m => m.wf
  | .getPortStatistics m port => m.wf && below 8 port
  | .getIncompleteStripeSets m width first count => m.wf && below 8 width && below 32 first && below 32 count
  | .getMastStatus m mast => m.wf && below 8 mast
  | .pauseHostDma m fns => m.wf && below 136 fns
  | .resumeHostDma m fns => m.wf && below 136 fns
  | .startCapacitanceSelfTest m v1 => m.wf && below 16 v1
  | .getInternalResources m => m.wf
  | .takeOwnership m _ => m.wf
  | .transferOwnership m _ => m.wf
  | .getSignedObject m object => m.wf && below 8 object
  | .writeSignedObject m object _ _ r sg => m.wf && below 8 object && below 384 r && below 384 sg
  | .formatMedia m => m.wf
  | .restoreDefaultControls m group => m.wf && below 32 group
  | .unknownOpcode m opcode => m.wf && below 16 opcode
  | .doneClear fn mb _ => decide (fn < 129) && decide (mb < 4)
  | .receiverDetection port _ => decide (port < 3)
  | .foreignLinkNumber port number => decide (port < 3) && below 8 number
  | .foreignLinkRetry port => decide (port < 3)
  | .trainingComplete port rate width => decide (port < 3) && below 8 rate && below 8 width
  | .trainingTimeout port => decide (port < 3)
  | .hailTimeout port => decide (port < 3)
  | .authenticationTimeout port => decide (port < 3)
  | .retrainTimeout port => decide (port < 3)
  | .linkSilence port => decide (port < 3)
  | .hail port seq path hl => decide (port < 3) && below 64 seq && path.all (below 16) && hl.wf
  | .authCertificateChain port seq path fragment _ _ _ => decide (port < 3) && below 64 seq && path.all (below 16) && below 16 fragment
  | .authKeyShare port seq path _ _ => decide (port < 3) && below 64 seq && path.all (below 16)
  | .authSignature port seq path r sg => decide (port < 3) && below 64 seq && path.all (below 16) && below 384 r && below 384 sg
  | .authDone port seq path => decide (port < 3) && below 64 seq && path.all (below 16)
  | .ackAndCredit port seq accepted ctl _ => decide (port < 3) && below 64 seq && below 64 accepted && below 16 ctl
  | .nak port seq accepted reason => decide (port < 3) && below 64 seq && below 64 accepted && below 8 reason
  | .echoRequest port seq number => decide (port < 3) && below 64 seq && below 64 number
  | .echoReply port seq number turnaround roundTrip => decide (port < 3) && below 64 seq && below 64 number && below 32 turnaround && below 32 roundTrip
  | .pathProbe port seq label hops _ _ number latency _ => decide (port < 3) && below 64 seq && below 16 label && below 8 hops && below 32 number && below 32 latency
  | .pathReply port seq label _ _ number latency hops => decide (port < 3) && below 64 seq && below 16 label && below 32 number && below 32 latency && below 8 hops
  | .pathDown port seq label reason _ => decide (port < 3) && below 64 seq && below 16 label && below 8 reason
  | .departure port seq reason powerOn => decide (port < 3) && below 64 seq && below 8 reason && below 32 powerOn
  | .rekeyKeyShare port seq _ _ lastSent lastAccepted => decide (port < 3) && below 64 seq && below 64 lastSent && below 64 lastAccepted
  | .rekeySignature port seq r sg => decide (port < 3) && below 64 seq && below 384 r && below 384 sg
  | .rekeyDone port seq => decide (port < 3) && below 64 seq
  | .refuse port seq label reason tag _ => decide (port < 3) && below 64 seq && below 16 label && below 8 reason && below 32 tag
  | .reservedPacketType port seq ptype => decide (port < 3) && below 64 seq && below 8 ptype
  | .chunkRead port seq label tag job zone offset count declared => decide (port < 3) && below 64 seq && below 16 label && below 32 tag && below 64 job && below 32 zone && below 32 offset && below 32 count && below 16 declared
  | .treeRead port seq label tag job zone declared => decide (port < 3) && below 64 seq && below 16 label && below 32 tag && below 64 job && below 32 zone && below 16 declared
  | .mirrorWrite port seq label tag rel zone offset blocks metas => decide (port < 3) && below 64 seq && below 16 label && below 32 tag && below 64 rel && below 32 zone && below 32 offset && decide (metas.length = blocks.length)
  | .response port seq label tag _ _ _ _ status pointer => decide (port < 3) && below 64 seq && below 16 label && below 32 tag && below 16 status && below 32 pointer
  | .offer _ kind streams ident nsid zones genEnd lbaf pi version mode policy lag firstZone zoneCount => below 8 kind && below 8 streams && below 64 ident && below 32 nsid && zones.all (below 32) && below 64 genEnd && below 8 lbaf && below 8 pi && below 8 version && below 8 mode && below 8 policy && below 32 lag && below 32 firstZone && below 32 zoneCount
  | .answer _ _ status ident nsid cls => below 16 status && below 64 ident && below 32 nsid && below 8 cls
  | .zoneManifest _ m => m.wf
  | .keyCarry _ _ _ _ job => below 64 job
  | .checkpoint _ job zone chunks => below 64 job && below 32 zone && below 32 chunks
  | .cutOverReady _ job zone generation => below 64 job && below 32 zone && below 64 generation
  | .cutOverConfirmed _ job zone generation => below 64 job && below 32 zone && below 64 generation
  | .requestStatus _ status tag ident => below 16 status && below 32 tag && below 64 ident
  | .zoneWithdrawn _ reason ident zone => below 8 reason && below 64 ident && below 32 zone
  | .zoneRefused _ reason ident zone => below 8 reason && below 64 ident && below 32 zone
  | .suspend _ state cause ident => below 8 state && below 16 cause && below 64 ident
  | .resume _ state cause ident => below 8 state && below 16 cause && below 64 ident
  | .endOp _ state cause ident => below 8 state && below 16 cause && below 64 ident
  | .mirrorOpen _ rel zone generation _ => below 64 rel && below 32 zone && below 64 generation
  | .mirrorFinish _ rel zone generation written _ => below 64 rel && below 32 zone && below 64 generation && below 32 written
  | .mirrorReset _ rel zone generation => below 64 rel && below 32 zone && below 64 generation
  | .mirrorPromote _ rel => below 64 rel
  | .probeTimeout number => below 32 number
  | .flightTimeMeasure port => decide (port < 3)
  | .rekeyInterval port => decide (port < 3)
  | .quarantineEnd _ => true
  | .wakePatternReceived port => decide (port < 3)
  | .wakePatternRepeat port => decide (port < 3)
  | .wakeTimeout port => decide (port < 3)
  | .streamAdd job port label => below 64 job && decide (port < 3) && below 16 label
  | .jobResume job port label => below 64 job && decide (port < 3) && below 16 label
  | .resumeWindow ident => below 64 ident
  | .catchUp rel => below 64 rel
  | .ringEnable fn ring size severity vector => decide (fn < 129) && decide (ring < 2) && below 4 size && below 2 severity && below 11 vector
  | .ringDisable fn ring size severity vector => decide (fn < 129) && decide (ring < 2) && below 4 size && below 2 severity && below 11 vector
  | .rbaseWrite fn ring _ _ => decide (fn < 129) && decide (ring < 2)
  | .rheadWrite fn ring head => decide (fn < 129) && decide (ring < 2) && below 16 head
  | .rstsClear fn ring _ => decide (fn < 129) && decide (ring < 2)
  | .summaryRecord fn ring => decide (fn < 129) && decide (ring < 2)
  | .frameLoRead fn port1 bits => decide (fn < 129) && decide (bits = 32 ∨ bits = 64) && (! port1 || decide (fn = 0))
  | .markFloRead fn port1 bits => decide (fn < 129) && decide (bits = 32 ∨ bits = 64) && (! port1 || decide (fn = 0))
  | .utcLoRead fn port1 bits => decide (fn < 129) && decide (bits = 32 ∨ bits = 64) && (! port1 || decide (fn = 0))
  | .gstsClear fn port1 _ => decide (fn < 129) && (! port1 || decide (fn = 0))
  | .registerWrite fn port1 offset bits _ => decide (fn < 129) && below 20 offset && decide (bits = 32 ∨ bits = 64) && (! port1 || decide (fn = 0))
  | .bufferAllocate buffer _ fn engine _ => decide (buffer < 1835008) && (decide (fn < 129) || fn == 0xFF) && decide (engine < 17)
  | .bufferShare buffer engine => decide (buffer < 1835008) && decide (engine < 17)
  | .bufferDrop buffer engine => decide (buffer < 1835008) && decide (engine < 17)
  | .bufferZeroed buffer => decide (buffer < 1835008)
  | .clean mast _ first last => decide (mast < 8) && below 26 first && below 26 last
  | .invalidateBySetAndWay mast set way => decide (mast < 8) && below 10 set && below 4 way
  | .invalidateByRange mast first last => decide (mast < 8) && below 26 first && below 26 last
  | .cleanAndInvalidate mast _ first last => decide (mast < 8) && below 26 first && below 26 last
  | .evictionWriteBack mast => decide (mast < 8)
  | .cacheFill mast line _ => decide (mast < 8) && below 26 line
  | .wayDisable mast group way => decide (mast < 8) && below 10 group && below 4 way
  | .correctableError memory _ => decide (memory < 40)
  | .uncorrectableError memory _ _ => decide (memory < 40)
  | .memoryFill memory _ => decide (memory < 32)
  | .powerCorrectionCheck => true
  | .powerCorrectionRecovery => true
  | .graceTimeEnd => true
  | .mastFurl mast => decide (mast < 8)
  | .portFurl port => decide (port < 32)
  | .halyardFurl port => decide (port < 3)
  | .hostLinkFurl port => decide (port < 2)
  | .crowsNestEntry => true
  | .powerDownEntry => true
  | .handshakeTimeout _ => true
  | .abortHoldOff _ => true
  | .domainWake wake cause => decide (wake.domain < 81) && decide (cause ≤ 12)
  | .samplerWake vin bank temps => below 16 vin && below 16 bank && decide (temps.length ≤ 16)
  | .reentryDelay => true
  | .i3cPrivateTransfer => true
  | .dynamicAddressAssignment address => below 7 address
  | .rstdaa => true
  | .thermalSample raws bad => decide (raws.length = 25) && decide (bad.length = 25)
  | .thermalComparator input => decide (16 ≤ input) && decide (input ≤ 24)
  | .thermalDumpRestart => true
  | .vddqfLow => true
  | .stageRom _ => true
  | .stageOtp _ => true
  | .stageObjects => true
  | .stageMedia mastFail portCes excluded => (mastFail.all fun m => decide (m < 8)) && portCes.all (below 8) && (excluded.all fun e => decide (e.1 < 1024))
  | .stageReplay _ _ missing _ => missing.all fun x => below 32 x.1 && below 64 x.2
  | .startupLimit => true
  | .testLogicReset => true
  | .idcode => true
  | .samplePreload _ => true
  | .extest => true
  | .extestPulse => true
  | .extestTrain => true
  | .clamp => true
  | .highz => true
  | .bypass code => ! jtagListed code && below 8 code
  | .fuseSelect field => below 4 field
  | .fuseData _ => true
  | .fuseBurn _ vin => below 16 vin
  | .fuseRead => true
  | .fabricProtocolError mast => decide (mast < 8)
  | .configurationRequest fn port1 offset => decide (fn < 129) && decide (offset < 4096) && (! port1 || decide (fn = 0))
  | .tagOrCrcFailure port seq _ => decide (port < 3) && below 64 seq
  | .timedOutTagReuse _ => true
end Sys2Proof
end

