-- ==== Sys2Proof/Tests/Slice0.lean ====
section
/-! SUPPORT. Tests: the spec's worked examples, a few single steps, ill-formed commands that WellFormed refuses, and, for every
statement of Obligations.lean, a concrete state and operands that meet the hypotheses of each of its clauses, clause by clause
(test_witness_<Name>; the clauses stand in the statement's order). -/

namespace Sys2Proof.Tests
open Sys2Proof.Machine

set_option maxRecDepth 100000
set_option linter.unusedVariables false
set_option Elab.async false

/-! ## States and operands -/

def hail0 : Hail := { version := 16, sendPort := 0, fingerprint := 5, powerOn := 1 }
def okAnd {e a : Type} (x : Except e a) (p : a → Bool) : Bool := match x with
  | .ok v => p v
  | .error _ => false
def nextAnd (x : Host.Outcome State Fault Refusal) (p : State → Bool) : Bool := match x with
  | .next v => p v
  | .fault _ | .refused _ => false
def goAnd (x : Judged) (p : State → Cost → Bool) : Bool := match x with
  | .go t c => p t c
  | _ => false
def headAnd {a : Type} (l : List a) (p : a → List a → Bool) : Bool := match l with
  | [] => false
  | x :: r => p x r
def mkCmd (fn sq : Nat) (op : Instr) : Cmd := { id := 1, fn := fn, sq := sq, cid := 1, op := op, arrival := 0, translated := true }
def genPt : PubKey := pubFromPriv 1
def hdr1 : NvmeHdr := { fn := 0, sq := 1, cid := 1, nsid := 1 }
def box0 : MbxHdr := { via := .bar 0 0 }
def ctrlW : Ctrl := {
  ccEn := true, rdy := true
  sqs := [{ qid := 0, size := 64, cq := 0 }, { qid := 1, size := 64, cq := 1 }]
  cqs := [{ qid := 0, size := 64, vector := 0 }, { qid := 1, size := 64, vector := 0, tail := 3, entries := [⟨1, 1, 0, 0, true, 0⟩, ⟨1, 2, 0, 0, true, 0⟩] }] }
def zonesW : List Zone := [{ zi := 0 }, { zi := 1, state := .implicitOpen, gen := 1, width := 8, segs := [1] }, { zi := 2, state := .closed, gen := 2, width := 8 }, { zi := 3, state := .full, gen := 3, written := 1, width := 8 },
  { zi := 4, state := .readOnly, gen := 4 }, { zi := 5, state := .offline }]
/-- A working device: every domain on, formatted, long after reset, the clock set. -/
def dev0 : State :=
  let s := State.reset
  { s with
    pwr := { dev := .working }
    fuses := { s.fuses with lock := true, lockEff := true, makerKey := genPt, makerKeyEff := genPt }
    nrg := { cMeas := 10000, v := 20000, budget := 10 ^ 9, firstDone := true, raws := [20000] }
    clk := { frame := 2 ^ 40, poc := 3, isSet := true, secs := 1800000000 }
    start := { stage := 8, released := true, configReady := true }
    obj := { drive := some {}, media := some {}, formatted := true }
    masts := s.masts.map fun m => { m with state := .active }
    fns := s.fns.map fun f => { f with state := if f.fn < 2 then .online else .offline, ctrl := ctrlW, alloc := if f.fn < 4 then [2, 2, 1, 4, 8, 8, 32, 0] else [0, 0, 0, 0, 0, 0, 0, 0] }
    io := { ports := [{ link := .l0, perst := false }, {}], vfEnable := true, numVfs := 2 }
    nss := [{ nsid := 1, zoneCount := 10, attached := [0], zones := zonesW }, { nsid := 2, zoneCount := 4, origin := 1, attached := [1] },
      { nsid := 3, conv := true, size := 1000, attached := [0] }, { nsid := 4, zoneCount := 4 }] }
def mp (l : List HPort) (s : State := dev0) : State := s.modHal fun h => { h with ports := l }
def up (st : LinkState) (fp : Digest := 7) : HPort := {
  state := st, neighbour := some fp, txSeq := 5, rxNext := 1, ctlCredits := 64, reqCredits := 1024, auth := { session := true } }
def h1 : State := mp [up .paired, { state := .training }, {}]
def h2 : State := mp [{ state := .hailing }, { state := .authenticating, auth := { hail := some { version := 16, sendPort := 0, fingerprint := 5 } } }, up .known]
def h3 : State := mp [{ state := .training, before := some .paired }, { state := .quarantined }, { up .paired with auth := { session := true, rekey := true, doneSent := true } }]
def h4 : State := mp [{ up .paired with silent := 4, waking := some (2 ^ 40 - 62500, 2 ^ 40 - 62500) }, { waking := some (0, 0), neighbour := some 7 }, { wokenAt := some 0 }]
def h5 : State := mp [{ up .paired with wait := [{ seq := 0, ptype := 16 }], nakSeq := some 1, nakRun := 7, echoOut := some 1 }, { foreignUntil := some 5 }, { foreignUntil := some (2 ^ 41) }]
def h6 : State := mp [{ wokenAt := some 0, state := .paired }, { waking := some (2 ^ 40 - 62499, 2 ^ 40 - 62499), neighbour := some 7 }, { measured := 2 ^ 40 }]
def h7 : State := mp [{ state := .authenticating, neighbour := some 7, auth := { hail := some { version := 16, sendPort := 0, fingerprint := keyPrint genPt }, key := some genPt, share := some (genPt, 0), shareSent := true } },
  { state := .authenticating, neighbour := some 7, auth := { doneSent := true, sigOk := true, sigSent := true } }, { state := .authenticating, neighbour := some 7, auth := { sigOk := true, sigSent := true } }]
def h8 : State := mp [{ up .paired with auth := { session := true, hail := some { version := 16, sendPort := 0, fingerprint := BitVec.ofNat 256 (2 ^ 256 - 1) } } }, {}, { silent := 3 }]
def h9 : State := (mp [{ state := .training, since := 2 ^ 40 - 12500 }, { state := .training, before := some .known, since := 2 ^ 40 - 6250 }, { state := .hailing, since := 2 ^ 40 - 625 }])
def h10 : State := { dev0 with ctl := [(ctlHalPort, 1, 0), (ctlHalWake, 0, 0), (ctlPairPolicy, 0xFFFF, 1)] }
def man1 : Manifest := { version := 16, zone := 1, generation := 9, written := 300, leaves := 2, root := 0, utcFinish := 0, grade := 0, keyFp := 0, salt := 0, floor := 0, job := 3 }
/-- Peers: two Paired links and a Known one, paths, requests, jobs and relationships. -/
def p1 : State := { mp [up .paired 7, up .paired 8, up .known 9] with
  hal := { (mp [up .paired 7, up .paired 8, up .known 9]).hal with
    partners := [{ fp := 7, state := .paired }, { fp := 8, state := .paired }, { fp := 9, state := .known }]
    pairings := [(7, false), (8, true)], quarantine := [(10, 0), (11, 2 ^ 41)], probes := [{ number := 1, target := 7, sent := 0 }, { number := 2, target := 1, sent := 0, wake := true }]
    labels := [{ inPort := 0, inLabel := 1, outPort := some 1, outLabel := some 2 }, { inPort := 0, inLabel := 2, partner := 9 },
      { inPort := 0, inLabel := 3, outPort := some 2, outLabel := some 1 }, { inPort := 0, inLabel := 4, outPort := some 1, origin := 1, number := 2 }]
    reqs := [{ port := 0, label := 0, tag := 1, op := 1, ident := 3, zone := 1, declared := 2, sent := true }, { port := 0, label := 0, tag := 2, op := 2, ident := 3, zone := 1, declared := 2, sent := true },
      { port := 0, label := 0, tag := 3, op := 3, ident := 9, zone := 1, declared := 1, sent := true }, { port := 0, label := 0, tag := 4, op := 1, ident := 3, zone := 1, declared := 2, sent := true, mine := false, relay := some (1, 2) },
      { port := 0, label := 0, tag := 5, op := 1, ident := 3, zone := 1, declared := 1, received := 1, sent := true }, { port := 0, label := 0, tag := 6, op := 1, ident := 4, zone := 1, declared := 1, sent := true }] }
  peer := {
    jobs := [{ ident := 1, source := true, state := .running, partner := 7, nsid := 1, zones := [{ zone := 1, phase := 1 }, { zone := 2, phase := 2 }] },
      { ident := 2, source := true, state := .offered, partner := 7, nsid := 1, zones := [{ zone := 3 }] },
      { ident := 3, source := false, state := .running, partner := 7, nsid := 4, zones := [{ zone := 1, phase := 1, manifest := some man1 }, { zone := 3, phase := 5, manifest := some { man1 with zone := 3 } }] },
      { ident := 4, source := false, state := .running, partner := 7, nsid := 4, zones := [{ zone := 1, phase := 1, manifest := some man1, retried := true }] },
      { ident := 5, source := true, state := .suspended, partner := 7, nsid := 1, suspendedAt := some (2 ^ 40 - 1), zones := [{ zone := 1, phase := 1 }] },
      { ident := 6, source := true, state := .offered, partner := 7, nsid := 1, zones := [{ zone := 3, phase := 4 }] },
      { ident := 7, source := true, state := .complete, partner := 7, nsid := 1 }, { ident := 8, source := true, state := .running, partner := 7, nsid := 1, zones := [{ zone := 3, phase := 4 }] }]
    mirrors := [{ ident := 9, source := true, other := 7, nsid := 1, accepted := true, zones := [{ zone := 1, gen := 1, ack := 5, next := 9 }] },
      { ident := 10, source := false, other := 7, nsid := 4, accepted := true, zones := [{ zone := 1, gen := 0 }] },
      { ident := 11, source := true, other := 7, nsid := 1, accepted := true, broken := true, zones := [{ zone := 1, gen := 1, ack := 5, next := 9 }] },
      { ident := 12, source := false, other := 7, nsid := 4, accepted := true, broken := true, brokenAt := 2 ^ 40 },
      { ident := 13, source := false, other := 7, nsid := 4, accepted := true, ended := true }] } }
def p2 : State := { p1 with peer := { landings := [{ source := 7, nsid := 4, cls := 0 }, { source := 7, nsid := 4, cls := 0, mirror := true }] } }
def p3 : State := { p1 with clk := { frame := 2 ^ 60 } }
/-- Restarting. -/
def wr : State := { dev0 with pwr := { dev := .starting }, clk := { frame := 1000, dark := true } }
def wd : State := { dev0 with pwr := { dev := .dumping, dumpBegun := true, pwrLatch := true } }
def wc : State := { dev0 with pwr := { dev := .crowsNest } }
def dW : DieWork := { kind := .erase, block := 3, started := 0, plannedEnd := 100 }
def lunsW : List Lun := [{ glun := 0, work := some { dW with suspended := true } }, { glun := 1, work := some { dW with kind := .read } }, { glun := 2, work := some dW }, { glun := 3, work := some { dW with kind := .coarsePass } }]
def q1 : State := { dev0 with
  luns := lunsW
  clk := { frame := 2 ^ 40, aonRuns := false, ref100 := false, internalOsc := true }
  ports := { state := .degraded, clearRun := 2 ^ 30 } :: { state := .fenced, fencedAt := some (2 ^ 40 - 6250) } :: { state := .fenced, draining := true } :: { state := .failed } :: { overrunNow := true, window := List.replicate 64 true } :: { state := .degraded, overrunNow := true, window := List.replicate 64 true } :: List.replicate 26 {}
  jtag := { select := 1 }, start := { dev0.start with vddqf := true, begin := 0 }
  masts := { state := .restarting, restartFrame := some (2 ^ 40 - 62500) } :: { state := .furled } :: List.replicate 6 { state := .active, cache := { errors := [(0, 0, 2 ^ 20, 2 ^ 40)] } }
  mems := { lastEvent := some (2 ^ 40) } :: List.replicate 39 {}
  keys := { slots := [{ number := 1, owner := some 0, state := .draining }, { number := 2, owner := some 1, state := .draining, newKey := some 0 }, { number := 3, owner := some 0, state := .active, keyRef := 1 }, { number := 5, owner := some 0, state := .awaiting }, { number := 6, owner := some 0, state := .empty }]
            register := [{ number := 1, tenant := true, salt := 1, fp := 1 }], requests := 2 ^ 20, ownerKeys := [{ slot := 1, priv := 1, pub := 0 }] }
  side := { dynamic := some 8 }
  pool := { bufs := [{ number := 0, state := .held, holders := [0] }, { number := 1, state := .zeroing }], level := 3 }
  therm := { dev0.therm with grace := some 0, stage := 1 }
  nrg := { dev0.nrg with test := some (1, 2 ^ 40 - 6266), huLoad := true, released := some 0, invalidFrame := some 0 }
  fuses := { dev0.fuses with ownerBanks := List.replicate 16 1, vaultEpoch := 32 }
  media := { dev0.media with readPreserve := true, newerMajor := true, journals := List.replicate 9 { bytes := 33554432 } }
  fix := { jobs := [{ job := 1, kind := .treeCheck, via := .bar 0 0, fn := 0, nsid := 1, zone := 3 }, { job := 2, kind := .rangeDigest, via := .bar 0 0, fn := 0, nsid := 1 },
    { job := 3, kind := .keyBinding, via := .bar 0 0, fn := 0, signSlot := 9 }, { job := 4, kind := .treeCheck, via := .bar 0 0, fn := 0, nsid := 1, ended := true }, { job := 5, kind := .treeCheck, via := .bar 0 0, fn := 0, nsid := 1, zone := 3, gens := [(3, 99)] }] } }
def ex1 : Extent := { slba := 0, nlb := 1 }
def rb (s f : Nat) : RBlock := { nsid := 1, lba := 0, step := s, failedAt := f }
def q2 : State := { dev0 with
  io := { dev0.io with
    cmds := [{ mkCmd 0 1 (.read hdr1 ex1) with phase := .running, blocks := [rb 1 0, rb 1 5, rb 5 5, rb 4 0] }, { mkCmd 0 1 (.read hdr1 ex1) with id := 2, phase := .ready }, { mkCmd 0 1 (.write hdr1 ex1) with id := 3, cause := some .energy, heldSince := some 0 },
      { mkCmd 0 0 (.identify hdr1 1 0) with id := 4, phase := .ready, fields := [1] }, { mkCmd 0 1 (.read hdr1 ex1) with id := 5, phase := .running, blocks := [rb 1 (2 ^ 40 - 2)] }]
    reqs := [{ req := 1, fn := 0, cmd := 1, what := .data 0, issued := 0 }, { req := 2, fn := 0, cmd := 1, what := .readBack, issued := 2 ^ 40 }]
    submitted := [(0, 1, false, .read hdr1 ex1, 7)] }
  fns := dev0.fns.map fun f => if f.fn == 0 then { f with ctrl := { ctrlW with coalesce := [(0, 5)], aen := [1] } } else f
  pwr := { dev0.pwr with furled := [0, 1, 2, 3, 4, 5, 6, 7, 8, 75], wokenBy := some 2, holdOff := [(.mast 0, 0)], lastWake := 0, watts := List.replicate 64 100000, coolFrames := 4096, halvings := 1 }
  masts := { state := .furled } :: List.replicate 7 { state := .active } }
def q3 : State := { dev0 with
  fns := dev0.fns.map fun f => { f with ctrl := { ctrlW with ccEn := false, aer := List.replicate 8 1, pBme := true, pba := [1] }, state := if f.fn == 0 then .online else .resetting, draining := true }
  pwr := { dev0.pwr with entries := [{ kind := .mast 0, asked := some 0 }], poweringDown := true }
  io := { dev0.io with ports := [{ link := .l0, perst := false, pmeOff := true }, {}], reqs := [{ req := 1, fn := 0, cmd := 1, what := .data 0, issued := 0, retiredUntil := some 0 }] }
  start := { dev0.start with sanitize := some [] } }
def stg (n : Nat) : State := { dev0 with pwr := { dev := .starting, pwrLatch := true }, start := { stage := n } }
def stg2 : State := { dev0 with pwr := { dev := .starting }, start := { stage := 5, begin := 0, expiries := 1 }, obj := {} }
def wu : State := { dev0 with pwr := { dev := .dumped } }
def wt (n : Nat) : State := { dev0 with pwr := { dev := .dumped, thermalDump := true, thermalDumps := n } }
/-! Media: one segment of zone 1 of namespace 1 on masts 0 to 7. -/
def sg1 : Segment := { seq := 1, gen := 1, nsid := 1, zone := some 1, width := 8, members := List.replicate 8 20, headerSent := true }
def bk (i : Nat) (pl : Place) : Stored := { nsid := 1, lba := 262144 + i, gen := 1, sealed := true, place := pl, seg := 1, row := 1, unit := 0, idx := i, dirty := false, arrived := true }
def withMedia (g : Segment) (bs : List Stored) (s : State := dev0) : State := s.modMedia fun m => { m with segBlocks := 8000, segs := [g], blocks := bs, genEnd := 100, seqEnd := 100, nextSeq := 2, nextGen := 10 }
def d1 : State := withMedia { sg1 with progress := [(0, [2, 0])] } []
def d2 : State := { dev0 with luns := [{ glun := 0, work := some { kind := .finePass, block := 20, started := 0, plannedEnd := 10, ref1 := 1 } }], media := d1.media }
def d3 : State := withMedia { sg1 with rows := [{ row := 1, fillFrom := some 0 }] } []
def d4 : State := (withMedia sg1 ((List.range 256).map fun i => { bk i .flash with row := 1 + i / 96, unit := i / 16 % 6 })).modZone 1 1 fun z => { z with wp := 256 }
def d5 : State := withMedia sg1 [bk 0 .parked]
def d6 : State := dev0.modMedia fun m => { m with journals := List.replicate 9 { staged := [.checkpointEnd] } }
def d7 : State := { withMedia sg1 [bk 0 .flash, { bk 0 .flash with nsid := 3, lba := 0, seg := 2 }] with
  luns := [{ glun := 3, work := some { kind := .pslcProgram, block := 9, started := 0, plannedEnd := 10 } }]
  io := { dev0.io with cmds := [{ mkCmd 0 1 (.read hdr1 { slba := 262144, nlb := 1 }) with phase := .running, blocks := [{ nsid := 1, lba := 262144 }, { nsid := 1, lba := 262144, step := 4, glun := 3 }] }] } }
def patrolD (g : Segment) : State := (withMedia { g with full := true } []).modMedia fun m => { m with patrol := { running := true, todo := [1], issued := 2, done := 1, total := 5 } }
def d8 : State := patrolD sg1
def d9 : State := { patrolD { sg1 with candidates := [0] } with luns := [{ glun := 0, blocks := [{ number := 30, state := .free }] }] }
def d10 : State := patrolD { sg1 with candidates := [0] }
def d11 : State := patrolD { sg1 with refresh := true }
def d12 : State := { d11 with masts := List.replicate 8 { state := .failed } }
def d13 : State := patrolD { sg1 with replace := true }
def cg (v : Nat) : State := (withMedia { seq := 2, gen := 1, nsid := 3, width := 8, members := List.replicate 8 20, full := true, valid := v } [])
def d14 : State := cg 0
def d15 : State := cg 1
def d16 : State := { dev0 with
  fns := dev0.fns.map fun f => { f with ctrl := { ctrlW with pBme := true } }
  io := { dev0.io with reqs := [{ req := 1, fn := 0, cmd := 1, what := .data 0, issued := 0 }] }
  mbx := { boxes := { via := .bar 0 0, busy := true, bufs := 2 ^ 21 } :: dev0.mbx.boxes.drop 1 }
  therm := { dev0.therm with inputs := List.replicate 25 { sampled := true }, lastSample := 2 ^ 40 - 1 }
  pwr := { dev0.pwr with entries := [{ kind := .halyard 0 }] } }
def d17 : State := { wc with media := d8.media }
def d18 : State := { dev0 with pwr := { dev0.pwr with armed := some 0 }, io := { dev0.io with ports := [{ link := .l23 }, {}] } }
def d19 : State := { dev0 with pwr := { dev0.pwr with pwrLatch := true }, nrg := { dev0.nrg with invalidFrame := some 0 } }
def d20 : State := (withMedia { sg1 with gen := 1 } []).modZone 1 1 fun z => { z with wp := zoneCapacity {} 8 1 - 1 }
def mbxD (i : Instr) (r : Option Resp) : State := { dev0 with mbx := { boxes := { via := .bar 0 0, busy := true, cmd := some i, verdict := r } :: dev0.mbx.boxes.drop 1, order := [.bar 0 0] } }
def m1 : State := mbxD (.getIdentity box0) none
def m2 : State := mbxD (.getIdentity box0) (some { status := 0x0102 })
def m3 : State := mbxD (.resetInstance box0 1) none
def m4 : State := { dev0 with keys := { q1.keys with requests := 0 } }
def m5 : State := dev0.modMedia fun m => { m with readPreserve := true }
def m6 : State := p1.modHal fun h => { h with partners := h.partners ++ [{ fp := 12, state := .paired }] }
def m7 : State := p1.modHal fun h => { h with partners := [{ fp := 7, state := .paired, auth := { session := true } }] }
def p4 : State := { p1 with media := d4.media, nss := d4.nss }
def p5 : State := p1.modZone 1 1 fun z => { z with leaves := [1], written := 1, fullDurable := true }
def p6 : State := { p1 with peer := { p1.peer with jobs := p1.peer.jobs.map fun j => { j with zones := j.zones.map fun z => { z with manifest := z.manifest.map fun m => { m with root := merkleRoot [5, 6] } } } } }
def p7 : State := { p1 with keys := m4.keys }
def p8 : State := p1.modHal fun h => { h with partners := [{ fp := 7, state := .paired, auth := { doneSent := true } }] }
/-! Signatures and wrapped keys computed by hand: the maker's is s = r, the x of e G for the message hash e, under the key e G - (e / r) G. -/
def mkKey : PubKey := 0xA38A9AA90EF3E0365B18433AF7C9170134859D68FC9F888D013B55C1E4A0CF7A65E3D6E11F4CBE0BE8DDC0C09E00F2123A25887ED368AF45A67FBE13A69490261D66EC32E859E00D991DD722087304BD53F320FBE156EE4EC515426ACB3A2780
def mkSig : Nat := 0x5929DA17CCAAF93C45BBE1887D402FCEFA45AB2FB90E884BEC199736385FFF9F8E7A33E858C9186D27A6D5D55D042A0B
/-- A drive record whose fields are in range. -/
def rec5 : DriveRecord := { revision := 5, derate := [(25, 1024)] }
def m8 : State := { dev0 with fuses := { dev0.fuses with makerKeyEff := mkKey } }
def peerKey : PubKey := 0x755C43C47BC5C9060050BD2B6CF6B4ABFD116C68D4F632BBD2C5C359F35947C2DB1A224E117BBF885F6EB9A3B22D0B46A26CAFBE829CA6F18676D91E76BF04CDE03F5C7D020F7CC13EE73392BDADC3A260D3472D998A5D6C6062D2F4A3A10BD8
def peerSig : Nat := 0x1B2A937815B38E2A67C81B1832FC3DA4BD4528378DDB0A2AEF058BFE98A9692EBE2051D3BC22F24EAB5A148500036473
def h11 : State := mp [{ state := .authenticating, neighbour := some 7, rxNext := 1, auth := { hail := some { version := 16, sendPort := 0, fingerprint := 5 }, key := some peerKey, share := some (genPt, 0), shareSent := true } }]
/-- The key of bytes 0 to 31 under the key 5, and under the import key of a peer with fingerprint 7. -/
def wrapped5 : BitVec 320 := 0xAAFE86F0C9DA26488FBC6267C7A30DC0571DABD5A9C495C74776B4F2A1BD3EF5150B153D70DA6739
def wrapped7 : BitVec 320 := 0x907C343EDBB3641454733B8D4342D4F44850F09E0E3F911149A20D87525FEF4E2538EE5A70C34070
def rawPrint : Digest := 0x90C9BA7F681C70E36601F0183302353BF6770B5131D14A4E365AE03E0D3747CF
def k1 (reg : List KeyEntry) (slots : List Slot) : State := { dev0.modFn 1 fun f => { f with keks := [{ index := 0, key := 5, persistent := false }] } with keys := { slots := slots, register := reg } }
def slotA : Slot := { number := 8, owner := some 1, state := .empty }
def slotB : Slot := { number := 9, owner := some 1, state := .active, keyRef := 1 }
def entA : KeyEntry := { number := 1, tenant := true, salt := 1, fp := rawPrint }
def p9 : State := { p1 with keys := { slots := [{ number := 8, owner := some 0, state := .empty }], register := [entA] } }
/-- The 64 bytes behind a fill block of generation 0, zone 1, offset 0. -/
def fillMeta : Wide := 0x10000001000000000000000000000000B022524A507327E2000000000000000000000000000000000000000000000000

/-! ## The spec's worked examples -/

/-- R250: the CRC's check value, over the bytes of "123456789". -/
theorem test_crc64_check_value : crc64 (ascii "123456789") = 0x995DC9BBDF1939FA := by decide +kernel
/-- FIPS 197, appendix C.3: AES-256 of its example block. -/
theorem test_aes256_example :
    aesEnc (aesKeys (List.range 32)) ((List.range 16).map (17 * ·)) =
      [0x8E, 0xA2, 0xB7, 0xCA, 0x51, 0x67, 0x45, 0xBF, 0xEA, 0xFC, 0x49, 0x90, 0x4B, 0x49, 0x60, 0x89] := by decide +kernel
/-- FIPS 180-4: the constants are roots of primes, and SHA-256 of "abc". -/
theorem test_sha_constants : shaK32 = shaK sha32 ∧ shaH256 = shaH 32 0 := by decide +kernel
theorem test_sha256_abc : (sha256 (ascii "abc")).take 4 = [0xBA, 0x78, 0x16, 0xBF] := by decide +kernel
/-- 00_scope: global LUN 438 is local LUN 22 of port 13, on mast 3. -/
theorem test_global_lun : glunOf 13 22 = 438 ∧ portOfLun 438 = 13 ∧ localOfLun 438 = 22 ∧ mastOfLun 438 = 3 := by decide
/-- 03, stripe set (16, 1, 5) of the BTK8832: members 0 to 7 on ports 2, 6, …, 30, members 8 to 15 on ports 3, 7, …, 31. -/
theorem test_stripe_set : (List.range 16).map (memberLun 8 16 1 5) =
    (List.range 8).map (fun i => glunOf (4 * i + 2) 5) ++ (List.range 8).map (fun i => glunOf (4 * i + 3) 5) := by decide +kernel
/-- 03, parity of one byte position at width 8: d0 = 0x01 and d3 = 0x02. -/
theorem test_parity_width_8 : rsParity 2 [1, 0, 0, 2, 0, 0] = [0x61, 0x62] := by decide +kernel
/-- 03, the reference profile: segment blocks of a LUN, and the segment capacities of the three widths. -/
theorem test_reference_profile : segBlocksOf {} 3 = 7841 ∧ [8, 16, 32].map (perSeg {}) = [196512, 425776, 917056] := by decide +kernel
/-- 04, sixteen-segment zones at width 8. -/
theorem test_zone_capacity : trailerRows {} 8 16 = 3 ∧ zoneCapacity {} 8 16 = 3143904 ∧ zoneSizeOf {} 8 16 = 4194304 := by decide +kernel
/-- 04 and 08, zone offset 2,000,000: segment 10, row 364, unit 2, block 0, member 6. -/
theorem test_zone_offset : posOf {} 8 2000000 = { seg := 10, row := 364, unit := 2, idx := 0, member := 6 } := by decide +kernel
/-- 04, a region of 4,096,000 blocks at width 32 takes 8 segments. -/
theorem test_conventional_segments : convSegments {} 32 4096000 = 8 := by decide +kernel
/-- 05, the dirty limit of a BTK8832. -/
theorem test_dirty_limit : eUse 10000 33000 12000 880 = 4158000 ∧ tFix {} = 329 ∧ roundLen {} = 27 := by decide +kernel
/-- 20, the chip enable CE5_n of port 13 is ball 26.47, and its DQ0 ball 26.51. -/
theorem test_package_port_13 : ballAt 26 47 = some (.flash 13 (.ce 5)) ∧ ballAt 26 51 = some (.flash 13 (.dq 0)) := by decide +kernel

/-! ## One step -/

/-- What the first output of an outcome is. -/
def firstOut : Host.Outcome State Fault Refusal → Option Out
  | .next t => t.out.head?
  | _ => none
/-- 21, an event in wall time: the second mark of frame 5,400,062,500 at 2030-01-01T00:00:00Z, read at 0x110, 0x114 and 0x118. -/
def marked : State := { dev0 with clk := { dev0.clk with frame := 5400100000, markFrame := 5400062500, markSecs := 1893456000 } }
theorem test_mark_frame_read : firstOut (exec (.markFloRead 0 false 32) marked) = some (.regRead 0 0x110 0x41DE6A24) := by decide +kernel
theorem test_mark_latch : (match exec (.markFloRead 0 false 32) marked with
    | .next t => ((t.fn 0).ctrl.markFhi, (t.fn 0).ctrl.markUlo, (t.fn 0).ctrl.markUhi) == (1, 0x70DBD880, 0)
    | _ => false) = true := by decide +kernel
/-- 02, two returns from storage: the time since the last known time, for 200 and 1,095 days. -/
def returned : State := { dev0 with clk := { frame := 1875000, lastKnown := some (1800000000, 0), lastKnownFrame := none } }
theorem test_return_gap : ((effSetTime 1817280070 0 returned).1.clk.lastG, (effSetTime 1894608070 0 returned).1.clk.lastG) =
    (17280040, 94608040) := by decide +kernel
/-- From reset: nothing waits and the block idles; a frame starts and ends. -/
theorem test_reset_idles : step State.reset = .next State.reset := rfl
theorem test_frame_from_reset : completes (exec (.frameStart {}) State.reset) = true := by decide +kernel
/-- A command that names a unit no variant has stops by name (notes/assumptions/4.md). -/
theorem test_no_such_unit : (match exec (.evictionWriteBack 8) State.reset with
    | .fault .noSuchUnit => true
    | _ => false) = true := by decide +kernel

/-! ## WellFormed: plain commands pass, and each check refuses -/

theorem test_wellFormed_1 : (([.frameStart {}, .overrunRecoveryRun 0, .retrainingPass 0 0 [], .retrainingTimeout 0, .portFailedAfterDrain 0, .dieOperationEnd 0 false 0 0,
    .programPassIssue 0, .blockErase 0 0, .framePllRelock 0, .ref100Loss, .ref100Return, .secondMark, .lastKnownTime, .aon32kStopped, .aon32kRunning,
    .ageClockAdvance, .mastPllLossOfLock 0, .missingHeartbeat 0, .watchdogExpiry default 0, .mastRestartSuccess 0, .mastRestartTimeout 0 false,
    .deviceFault, .hostMemoryReadCompletion 0 default 0 {}, .sealUnit 0, .digestLeaf 0 0, .journalRecordDurable 0, .journalCheckpoint 0,
    .parkDelay 0 0, .energyWaitLimit 0, .selfTestInterval 0, .huLoadRelease, .selfTestResult 0, .selfTestRetry 0, .huLoadHardwareRelease, .pwrfail 0,
    .dumpRound, .finalRound, .dumpRestart, .lowVin 0, .brownOut 0, .aonPowerOnReset 0, .restoredUnitCompletion 0 0, .shutdownNotification 0 false,
    .translation 0, .readDecode 0 0 default, .ladderStep 0 0, .rebuild 0 0 [] default, .constantTimeRelease 0] : List Instr).all Instr.wf) = true := by decide +kernel
theorem test_wellFormed_2 : (([.patrolSlice { seq := 1 }, .lateLap, .patrolBatchDue, .memberRewrite ⟨0, {}⟩ 0, .segmentRefresh ⟨0, {}⟩, .programFailureReplacement ⟨0, {}⟩, .compaction ⟨0, {}⟩,
    .drainEnd 0, .counterReservation 0 0, .cipherFault 0 false 0 0, .drbgReseed, .drainLimit 0, .resetRetire 0, .vfEnableChange false 0,
    .ccEnSet 0 false, .ccEnClear 0 false, .functionLevelReset 0 false, .perst 0, .perstRelease 0, .nvmSubsystemReset 0 0, .hostReceiverBeacon 0,
    .wakePin, .hostLinkStateChange 0 default 0 0, .sqTailDoorbell 0 false 0 0, .cqHeadDoorbell 0 false 0 0, .commandFetch default, .completionTimeout 0,
    .readBack 0 default, .busMasterEnableClear 0 false, .busMasterEnableSet 0 false, .pmeTurnOff 0, .pauseDrained 0 false,
    .interruptCoalescing 0 false 0, .msixUnmask 0 false 0 false, .read hdr1 ex1, .write hdr1 ex1, .zoneAppend hdr1 ex1, .writeZeroes hdr1 ex1,
    .flush hdr1, .compare hdr1 ex1 [], .verify hdr1 ex1, .datasetManagement hdr1 false [], .closeZone hdr1 0 false, .finishZone hdr1 0 false,
    .openZone hdr1 0 false, .resetZone hdr1 0 false, .offlineZone hdr1 0 false, .setZoneDescriptorExtension hdr1 0 0 false] : List Instr).all Instr.wf) = true := by decide +kernel
theorem test_wellFormed_3 : (([.reportZones hdr1 0 0 false 0, .extendedReportZones hdr1 0 0 false 0, .invalidCommandOpcode hdr1 0, .identify hdr1 0 0, .getLogPage hdr1 0,
    .setFeatures hdr1 0 0, .getFeatures hdr1 0, .setFeaturesTimestamp hdr1 0, .setFeaturesPowerManagement hdr1 0,
    .createIoSubmissionQueue hdr1 0 0 0 false false, .createIoCompletionQueue hdr1 0 0 0 false false false, .deleteIoSubmissionQueue hdr1 0,
    .deleteIoCompletionQueue hdr1 0, .abort hdr1 0 0, .asynchronousEventRequest hdr1, .namespaceManagementCreate hdr1 0 0 0 0 0,
    .namespaceManagementDelete hdr1, .namespaceAttachmentAttach hdr1 [], .namespaceAttachmentDetach hdr1 [], .secondaryControllerOnline hdr1 0,
    .secondaryControllerOffline hdr1 0, .secondaryControllerAssign hdr1 0 0 0, .formatNvm hdr1 0 0, .cryptoErase hdr1,
    .readNvmeMiDataStructure false 0 0, .nvmSubsystemHealthStatusPoll false 0 false, .controllerHealthStatusPoll false 0 0 0,
    .configurationGet false 0 0, .configurationSet false 0 0 0, .getIdentity box0, .getTime box0, .setTime box0 0 0, .getControl box0 0 0,
    .setControl box0 0 0 0, .getOwnerChallenge box0, .setAllocation box0 0 0 0, .getInstance box0 0, .instanceOnline box0 0, .instanceOffline box0 0,
    .resetInstance box0 0, .deleteInstance box0 0 false, .setContract box0 0 0 false 0 0 0 0, .getContract box0 0, .setExpertEnable box0 0 false,
    .consentToAttach box0 0 0, .createNamespace box0 0 0 0 0 0 0 0 false 0 0 0 0, .deleteNamespace box0 0, .attachNamespace box0 0 0] : List Instr).all Instr.wf) = true := by decide +kernel
theorem test_wellFormed_4 : (([.detachNamespace box0 0 0, .getNamespace box0 0, .setNamespaceAttributes box0 0 false false false 0 0 0 0, .defineClass box0 0 0 0 0,
    .deleteClass box0 0, .getZoneRecord box0 0 0, .getTransportKey box0, .establishKek box0 0 false 0, .loadKey box0 0 0 false false false 0 0 0,
    .eraseKey box0 0, .bindNamespaceKey box0 0 0, .getSlot box0 0, .exportKey box0 0 0, .exportConsentLapse 0, .getKeyRegister box0 0 0,
    .getPatrolStatus box0, .getLossLedger box0 0 0 0, .getLunHealth box0 0, .leaveReadPreserve box0, .getIdentityCertificate box0,
    .treeCheck box0 0 0 false, .rangeDigest box0 0 0 [] false, .zoneAttestation box0 0 0 0 0 false false 0, .rangeAttestation box0 0 0 [] 0 0 false 0,
    .keyBinding box0 0 0, .fixityJobEnd 0 [] [] [] false false, .getFixityResult box0 0, .fixityResultExpiry 0, .createOwnerAttestationKey box0 0,
    .deleteOwnerAttestationKey box0 0, .getHalyardPort box0 0, .listPartners box0 0 0, .pairPartner box0 0, .unpairPartner box0 0,
    .releaseQuarantine box0 0, .setAllowlist box0 [], .getAllowlist box0, .startMigration box0 0 0 false 0 [], .acceptMigration box0 0 0 0,
    .cancelMigration box0 0, .getMigrationJob box0 0, .setMirror box0 0 0 0 0 0 0 0 0 0, .endMirror box0 0, .promoteMirror box0 0, .getMirror box0 0,
    .getPowerStatus box0, .setReefLimit box0 0, .enterCrowsNest box0 0] : List Instr).all Instr.wf) = true := by decide +kernel
theorem test_wellFormed_5 : (([.powerDown box0, .getThermal box0, .getPortStatistics box0 0, .getIncompleteStripeSets box0 0 0 0, .getMastStatus box0 0, .pauseHostDma box0 0,
    .resumeHostDma box0 0, .startCapacitanceSelfTest box0 0, .getInternalResources box0, .takeOwnership box0 0, .transferOwnership box0 0,
    .getSignedObject box0 0, .writeSignedObject box0 0 default default 0 0, .formatMedia box0, .restoreDefaultControls box0 0, .unknownOpcode box0 0,
    .doneClear 0 0 false, .receiverDetection 0 false, .foreignLinkNumber 0 0, .foreignLinkRetry 0, .trainingComplete 0 0 0, .trainingTimeout 0,
    .hailTimeout 0, .authenticationTimeout 0, .retrainTimeout 0, .linkSilence 0, .hail 0 0 none hail0, .authCertificateChain 0 0 none 0 false 0 false,
    .authKeyShare 0 0 none 0 0, .authSignature 0 0 none 0 0, .authDone 0 0 none, .ackAndCredit 0 0 0 0 0, .nak 0 0 0 0, .echoRequest 0 0 0,
    .echoReply 0 0 0 0 0, .pathProbe 0 0 0 0 0 0 0 0 false, .pathReply 0 0 0 0 0 0 0 0, .pathDown 0 0 0 0 0, .departure 0 0 0 0,
    .rekeyKeyShare 0 0 0 0 0 0, .rekeySignature 0 0 0 0, .rekeyDone 0 0, .refuse 0 0 0 0 0 0, .reservedPacketType 0 0 0, .chunkRead 0 0 0 0 0 0 0 0 0,
    .treeRead 0 0 0 0 0 0 0, .mirrorWrite 0 0 0 0 0 0 0 [] [], .response 0 0 0 0 false [] [] [] 0 0] : List Instr).all Instr.wf) = true := by decide +kernel
theorem test_wellFormed_6 : (([.offer 0 0 0 0 0 [] 0 0 0 0 0 0 0 0 0, .answer 0 false 0 0 0 0, .zoneManifest 0 man1, .keyCarry 0 0 0 0 0, .checkpoint 0 0 0 0,
    .cutOverReady 0 0 0 0, .cutOverConfirmed 0 0 0 0, .requestStatus 0 0 0 0, .zoneWithdrawn 0 0 0 0, .zoneRefused 0 0 0 0, .suspend 0 0 0 0,
    .resume 0 0 0 0, .endOp 0 0 0 0, .mirrorOpen 0 0 0 0 default, .mirrorFinish 0 0 0 0 0 0, .mirrorReset 0 0 0 0, .mirrorPromote 0 0, .probeTimeout 0,
    .flightTimeMeasure 0, .rekeyInterval 0, .quarantineEnd 0, .wakePatternReceived 0, .wakePatternRepeat 0, .wakeTimeout 0, .streamAdd 0 0 0,
    .jobResume 0 0 0, .resumeWindow 0, .catchUp 0, .ringEnable 0 0 0 0 0, .ringDisable 0 0 0 0 0, .rbaseWrite 0 0 false 0, .rheadWrite 0 0 0,
    .rstsClear 0 0 0, .summaryRecord 0 0, .frameLoRead 0 false 32, .markFloRead 0 false 32, .utcLoRead 0 false 32, .gstsClear 0 false 0,
    .registerWrite 0 false 0 32 0, .bufferAllocate 0 default 0 0 0, .bufferShare 0 0, .bufferDrop 0 0, .bufferZeroed 0, .clean 0 false 0 0,
    .invalidateBySetAndWay 0 0 0, .invalidateByRange 0 0 0, .cleanAndInvalidate 0 false 0 0, .evictionWriteBack 0] : List Instr).all Instr.wf) = true := by decide +kernel
theorem test_wellFormed_7 : (([.cacheFill 0 0 false, .wayDisable 0 0 0, .correctableError 0 0, .uncorrectableError 0 0 default, .memoryFill 0 [], .powerCorrectionCheck,
    .powerCorrectionRecovery, .graceTimeEnd, .mastFurl 0, .portFurl 0, .halyardFurl 0, .hostLinkFurl 0, .crowsNestEntry, .powerDownEntry,
    .handshakeTimeout 0, .abortHoldOff 0, .domainWake ⟨0, true⟩ 0, .samplerWake 0 0 [], .reentryDelay, .i3cPrivateTransfer, .dynamicAddressAssignment 0,
    .rstdaa, .thermalSample (List.replicate 25 0) (List.replicate 25 false), .thermalComparator 16, .thermalDumpRestart, .vddqfLow, .stageRom false,
    .stageOtp false, .stageObjects, .stageMedia [] [] [], .stageReplay false false [] [], .startupLimit, .testLogicReset, .idcode, .samplePreload 0,
    .extest, .extestPulse, .extestTrain, .clamp, .highz, .bypass 0xFF, .fuseSelect 0, .fuseData 0, .fuseBurn 0 0, .fuseRead, .fabricProtocolError 0,
    .configurationRequest 0 false 0, .tagOrCrcFailure 0 0 false] : List Instr).all Instr.wf) = true := by decide +kernel
theorem test_wellFormed_8 : (([.timedOutTagReuse 0] : List Instr).all Instr.wf) = true := by decide +kernel
theorem test_illFormed_1 : (([.overrunRecoveryRun 32, .retrainingPass 32 0 [], .retrainingPass 0 (2 ^ 8) [], .retrainingPass 0 0 [(1024, 0, 0)], .retrainingTimeout 32,
    .portFailedAfterDrain 32, .dieOperationEnd 1024 false 0 0, .hostMemoryReadCompletion 0 default 0 { app := 2 ^ 16 }, .hostMemoryReadCompletion 0 default 0 { ref := 2 ^ 48 }, .programPassIssue 1024, .blockErase 1024 0, .blockErase 0 (2 ^ 16), .mastPllLossOfLock 8,
    .missingHeartbeat 8, .watchdogExpiry default 32, .mastRestartSuccess 8, .mastRestartTimeout 8 false, .sealUnit 8, .digestLeaf (2 ^ 32) 0,
    .digestLeaf 0 (2 ^ 32), .journalRecordDurable 9, .journalCheckpoint 9, .parkDelay (2 ^ 32) 0, .parkDelay 0 (2 ^ 32), .selfTestInterval (2 ^ 16),
    .selfTestResult (2 ^ 16), .selfTestRetry (2 ^ 16), .restoredUnitCompletion (2 ^ 64) 0, .restoredUnitCompletion 0 (2 ^ 16),
    .shutdownNotification 129 false, .rebuild 0 0 [(32, default)] default, .patrolSlice { seq := 2 ^ 65 }, .patrolSlice { seq := 1, members := List.replicate 33 (0, 0) },
    .patrolSlice { seq := 1, decodes := [(32, [])] }, .memberRewrite ⟨(2 ^ 64), {}⟩ 0, .memberRewrite ⟨0, {}⟩ 32, .memberRewrite ⟨0, { members := [(32, 0, 0)] }⟩ 0,
    .segmentRefresh ⟨(2 ^ 64), {}⟩, .segmentRefresh ⟨0, { decodes := [(32, [])] }⟩, .programFailureReplacement ⟨(2 ^ 64), {}⟩, .compaction ⟨(2 ^ 32), {}⟩, .drainEnd (2 ^ 16), .counterReservation 8 0,
    .counterReservation 0 (2 ^ 16), .cipherFault 8 false 0 0, .drainLimit 129, .resetRetire 129, .vfEnableChange false (2 ^ 16), .ccEnSet 129 false,
    .ccEnSet 1 true, .ccEnClear 129 false, .ccEnClear 1 true, .functionLevelReset 129 false, .functionLevelReset 1 true] : List Instr).all fun i => ! i.wf) = true := by decide +kernel
theorem test_illFormed_2 : (([.perst 2, .perstRelease 2, .nvmSubsystemReset 129 0, .hostReceiverBeacon 2, .hostLinkStateChange 2 default 0 0,
    .hostLinkStateChange 0 default (2 ^ 8) 0, .hostLinkStateChange 0 default 0 (2 ^ 8), .sqTailDoorbell 129 false 0 0,
    .sqTailDoorbell 0 false (2 ^ 16) 0, .sqTailDoorbell 0 false 0 (2 ^ 16), .sqTailDoorbell 1 true 0 0, .cqHeadDoorbell 129 false 0 0,
    .cqHeadDoorbell 0 false (2 ^ 16) 0, .cqHeadDoorbell 0 false 0 (2 ^ 16), .cqHeadDoorbell 1 true 0 0, .busMasterEnableClear 129 false,
    .busMasterEnableClear 1 true, .busMasterEnableSet 129 false, .busMasterEnableSet 1 true, .pmeTurnOff 2, .pauseDrained 129 false,
    .pauseDrained 1 true, .interruptCoalescing 129 false 0, .interruptCoalescing 0 false (2 ^ 16), .interruptCoalescing 1 true 0,
    .msixUnmask 129 false 0 false, .msixUnmask 0 false (2 ^ 16) false, .msixUnmask 1 true 0 false, .read { hdr1 with fn := 129 } ex1,
    .read hdr1 { ex1 with nlb := 0 }, .write { hdr1 with fn := 129 } ex1, .write hdr1 { ex1 with nlb := 0 }, .zoneAppend { hdr1 with fn := 129 } ex1,
    .zoneAppend hdr1 { ex1 with nlb := 0 }, .writeZeroes { hdr1 with fn := 129 } ex1, .writeZeroes hdr1 { ex1 with nlb := 0 },
    .flush { hdr1 with fn := 129 }, .compare { hdr1 with fn := 129 } ex1 [], .compare hdr1 { ex1 with nlb := 0 } [],
    .verify { hdr1 with fn := 129 } ex1, .verify hdr1 { ex1 with nlb := 0 }, .datasetManagement { hdr1 with fn := 129 } false [],
    .datasetManagement hdr1 false (List.replicate 257 (0, 0)), .datasetManagement hdr1 false [(2 ^ 64, 0)], .datasetManagement hdr1 false [(0, 2 ^ 32)],
    .closeZone { hdr1 with fn := 129 } 0 false, .closeZone hdr1 (2 ^ 64) false, .finishZone { hdr1 with fn := 129 } 0 false] : List Instr).all fun i => ! i.wf) = true := by decide +kernel
theorem test_illFormed_3 : (([.finishZone hdr1 (2 ^ 64) false, .openZone { hdr1 with fn := 129 } 0 false, .openZone hdr1 (2 ^ 64) false,
    .resetZone { hdr1 with fn := 129 } 0 false, .resetZone hdr1 (2 ^ 64) false, .offlineZone { hdr1 with fn := 129 } 0 false,
    .offlineZone hdr1 (2 ^ 64) false, .setZoneDescriptorExtension { hdr1 with fn := 129 } 0 0 false, .setZoneDescriptorExtension hdr1 (2 ^ 64) 0 false,
    .reportZones { hdr1 with fn := 129 } 0 0 false 0, .reportZones hdr1 (2 ^ 64) 0 false 0, .reportZones hdr1 0 (2 ^ 8) false 0,
    .reportZones hdr1 0 0 false (2 ^ 32), .extendedReportZones { hdr1 with fn := 129 } 0 0 false 0, .extendedReportZones hdr1 (2 ^ 64) 0 false 0,
    .extendedReportZones hdr1 0 (2 ^ 8) false 0, .extendedReportZones hdr1 0 0 false (2 ^ 32), .invalidCommandOpcode { hdr1 with fn := 129 } 0,
    .invalidCommandOpcode hdr1 (2 ^ 8), .identify { hdr1 with fn := 129 } 0 0, .identify hdr1 (2 ^ 8) 0, .identify hdr1 0 (2 ^ 8),
    .getLogPage { hdr1 with fn := 129 } 0, .getLogPage hdr1 (2 ^ 8), .setFeatures { hdr1 with fn := 129 } 0 0, .setFeatures hdr1 (2 ^ 8) 0,
    .setFeatures hdr1 0 (2 ^ 32), .getFeatures { hdr1 with fn := 129 } 0, .getFeatures hdr1 (2 ^ 8), .setFeaturesTimestamp { hdr1 with fn := 129 } 0,
    .setFeaturesTimestamp hdr1 (2 ^ 48), .setFeaturesPowerManagement { hdr1 with fn := 129 } 0, .setFeaturesPowerManagement hdr1 (2 ^ 5),
    .createIoSubmissionQueue { hdr1 with fn := 129 } 0 0 0 false false, .createIoSubmissionQueue hdr1 (2 ^ 16) 0 0 false false,
    .createIoSubmissionQueue hdr1 0 (2 ^ 17) 0 false false, .createIoSubmissionQueue hdr1 0 0 (2 ^ 16) false false,
    .createIoCompletionQueue { hdr1 with fn := 129 } 0 0 0 false false false, .createIoCompletionQueue hdr1 (2 ^ 16) 0 0 false false false,
    .createIoCompletionQueue hdr1 0 (2 ^ 17) 0 false false false, .createIoCompletionQueue hdr1 0 0 (2 ^ 16) false false false,
    .deleteIoSubmissionQueue { hdr1 with fn := 129 } 0, .deleteIoSubmissionQueue hdr1 (2 ^ 16), .deleteIoCompletionQueue { hdr1 with fn := 129 } 0,
    .deleteIoCompletionQueue hdr1 (2 ^ 16), .abort { hdr1 with fn := 129 } 0 0, .abort hdr1 (2 ^ 16) 0, .abort hdr1 0 (2 ^ 16)] : List Instr).all fun i => ! i.wf) = true := by decide +kernel
theorem test_illFormed_4 : (([.asynchronousEventRequest { hdr1 with fn := 129 }, .namespaceManagementCreate { hdr1 with fn := 129 } 0 0 0 0 0,
    .namespaceManagementCreate hdr1 (2 ^ 8) 0 0 0 0, .namespaceManagementCreate hdr1 0 (2 ^ 64) 0 0 0, .namespaceManagementCreate hdr1 0 0 (2 ^ 64) 0 0,
    .namespaceManagementCreate hdr1 0 0 0 (2 ^ 8) 0, .namespaceManagementCreate hdr1 0 0 0 0 (2 ^ 8),
    .namespaceManagementDelete { hdr1 with fn := 129 }, .namespaceAttachmentAttach { hdr1 with fn := 129 } [], .namespaceAttachmentAttach hdr1 [2 ^ 16],
    .namespaceAttachmentDetach { hdr1 with fn := 129 } [], .namespaceAttachmentDetach hdr1 [2 ^ 16],
    .secondaryControllerOnline { hdr1 with fn := 129 } 0, .secondaryControllerOnline hdr1 (2 ^ 16),
    .secondaryControllerOffline { hdr1 with fn := 129 } 0, .secondaryControllerOffline hdr1 (2 ^ 16),
    .secondaryControllerAssign { hdr1 with fn := 129 } 0 0 0, .secondaryControllerAssign hdr1 (2 ^ 16) 0 0, .secondaryControllerAssign hdr1 0 (2 ^ 8) 0,
    .secondaryControllerAssign hdr1 0 0 (2 ^ 32), .formatNvm { hdr1 with fn := 129 } 0 0, .formatNvm hdr1 (2 ^ 8) 0, .formatNvm hdr1 0 (2 ^ 3),
    .cryptoErase { hdr1 with fn := 129 }, .readNvmeMiDataStructure false 129 0, .readNvmeMiDataStructure false 0 (2 ^ 8),
    .nvmSubsystemHealthStatusPoll false 129 false, .controllerHealthStatusPoll false 129 0 0, .controllerHealthStatusPoll false 0 (2 ^ 32) 0,
    .controllerHealthStatusPoll false 0 0 (2 ^ 32), .configurationGet false 129 0, .configurationGet false 0 (2 ^ 8), .configurationSet false 129 0 0,
    .configurationSet false 0 (2 ^ 8) 0, .configurationSet false 0 0 (2 ^ 32), .getIdentity { box0 with tag := 2 ^ 16 },
    .getTime { box0 with tag := 2 ^ 16 }, .setTime { box0 with tag := 2 ^ 16 } 0 0, .setTime box0 (2 ^ 64) 0, .setTime box0 0 (2 ^ 32),
    .getControl { box0 with tag := 2 ^ 16 } 0 0, .getControl box0 (2 ^ 32) 0, .getControl box0 0 (2 ^ 32),
    .setControl { box0 with tag := 2 ^ 16 } 0 0 0, .setControl box0 (2 ^ 32) 0 0, .setControl box0 0 (2 ^ 32) 0, .setControl box0 0 0 (2 ^ 64),
    .getOwnerChallenge { box0 with tag := 2 ^ 16 }] : List Instr).all fun i => ! i.wf) = true := by decide +kernel
theorem test_illFormed_5 : (([.setAllocation { box0 with tag := 2 ^ 16 } 0 0 0, .setAllocation box0 (2 ^ 16) 0 0, .setAllocation box0 0 (2 ^ 8) 0,
    .setAllocation box0 0 0 (2 ^ 64), .getInstance { box0 with tag := 2 ^ 16 } 0, .getInstance box0 (2 ^ 16),
    .instanceOnline { box0 with tag := 2 ^ 16 } 0, .instanceOnline box0 (2 ^ 16), .instanceOffline { box0 with tag := 2 ^ 16 } 0,
    .instanceOffline box0 (2 ^ 16), .resetInstance { box0 with tag := 2 ^ 16 } 0, .resetInstance box0 (2 ^ 16),
    .deleteInstance { box0 with tag := 2 ^ 16 } 0 false, .deleteInstance box0 (2 ^ 16) false,
    .setContract { box0 with tag := 2 ^ 16 } 0 0 false 0 0 0 0, .setContract box0 (2 ^ 16) 0 false 0 0 0 0, .setContract box0 0 (2 ^ 8) false 0 0 0 0,
    .setContract box0 0 0 false (2 ^ 16) 0 0 0, .setContract box0 0 0 false 0 (2 ^ 16) 0 0, .setContract box0 0 0 false 0 0 (2 ^ 32) 0,
    .setContract box0 0 0 false 0 0 0 (2 ^ 32), .getContract { box0 with tag := 2 ^ 16 } 0, .getContract box0 (2 ^ 16),
    .setExpertEnable { box0 with tag := 2 ^ 16 } 0 false, .setExpertEnable box0 (2 ^ 16) false, .consentToAttach { box0 with tag := 2 ^ 16 } 0 0,
    .consentToAttach box0 (2 ^ 32) 0, .consentToAttach box0 0 (2 ^ 16), .createNamespace { box0 with tag := 2 ^ 16 } 0 0 0 0 0 0 0 false 0 0 0 0,
    .createNamespace box0 (2 ^ 16) 0 0 0 0 0 0 false 0 0 0 0, .createNamespace box0 0 (2 ^ 8) 0 0 0 0 0 false 0 0 0 0,
    .createNamespace box0 0 0 (2 ^ 8) 0 0 0 0 false 0 0 0 0, .createNamespace box0 0 0 0 (2 ^ 32) 0 0 0 false 0 0 0 0,
    .createNamespace box0 0 0 0 0 (2 ^ 8) 0 0 false 0 0 0 0, .createNamespace box0 0 0 0 0 0 (2 ^ 8) 0 false 0 0 0 0,
    .createNamespace box0 0 0 0 0 0 0 (2 ^ 8) false 0 0 0 0, .createNamespace box0 0 0 0 0 0 0 0 false (2 ^ 64) 0 0 0,
    .createNamespace box0 0 0 0 0 0 0 0 false 0 (2 ^ 32) 0 0, .createNamespace box0 0 0 0 0 0 0 0 false 0 0 (2 ^ 32) 0,
    .createNamespace box0 0 0 0 0 0 0 0 false 0 0 0 (2 ^ 64), .deleteNamespace { box0 with tag := 2 ^ 16 } 0, .deleteNamespace box0 (2 ^ 32),
    .attachNamespace { box0 with tag := 2 ^ 16 } 0 0, .attachNamespace box0 (2 ^ 32) 0, .attachNamespace box0 0 (2 ^ 16),
    .detachNamespace { box0 with tag := 2 ^ 16 } 0 0, .detachNamespace box0 (2 ^ 32) 0, .detachNamespace box0 0 (2 ^ 16)] : List Instr).all fun i => ! i.wf) = true := by decide +kernel
theorem test_illFormed_6 : (([.getNamespace { box0 with tag := 2 ^ 16 } 0, .getNamespace box0 (2 ^ 32),
    .setNamespaceAttributes { box0 with tag := 2 ^ 16 } 0 false false false 0 0 0 0, .setNamespaceAttributes box0 (2 ^ 32) false false false 0 0 0 0,
    .setNamespaceAttributes box0 0 false false false (2 ^ 8) 0 0 0, .setNamespaceAttributes box0 0 false false false 0 (2 ^ 64) 0 0,
    .setNamespaceAttributes box0 0 false false false 0 0 (2 ^ 32) 0, .setNamespaceAttributes box0 0 false false false 0 0 0 (2 ^ 32),
    .defineClass { box0 with tag := 2 ^ 16 } 0 0 0 0, .defineClass box0 (2 ^ 8) 0 0 0, .defineClass box0 0 (2 ^ 8) 0 0, .defineClass box0 0 0 (2 ^ 8) 0,
    .defineClass box0 0 0 0 (2 ^ 8), .deleteClass { box0 with tag := 2 ^ 16 } 0, .deleteClass box0 (2 ^ 8),
    .getZoneRecord { box0 with tag := 2 ^ 16 } 0 0, .getZoneRecord box0 (2 ^ 32) 0, .getZoneRecord box0 0 (2 ^ 32),
    .getTransportKey { box0 with tag := 2 ^ 16 }, .establishKek { box0 with tag := 2 ^ 16 } 0 false 0, .establishKek box0 (2 ^ 8) false 0,
    .loadKey { box0 with tag := 2 ^ 16 } 0 0 false false false 0 0 0, .loadKey box0 (2 ^ 16) 0 false false false 0 0 0,
    .loadKey box0 0 (2 ^ 8) false false false 0 0 0, .loadKey box0 0 0 false false false 0 (2 ^ 64) 0, .eraseKey { box0 with tag := 2 ^ 16 } 0,
    .eraseKey box0 (2 ^ 16), .bindNamespaceKey { box0 with tag := 2 ^ 16 } 0 0, .bindNamespaceKey box0 (2 ^ 32) 0, .bindNamespaceKey box0 0 (2 ^ 16),
    .getSlot { box0 with tag := 2 ^ 16 } 0, .getSlot box0 (2 ^ 16), .exportKey { box0 with tag := 2 ^ 16 } 0 0, .exportKey box0 (2 ^ 16) 0,
    .exportConsentLapse (2 ^ 16), .getKeyRegister { box0 with tag := 2 ^ 16 } 0 0, .getKeyRegister box0 (2 ^ 32) 0, .getKeyRegister box0 0 (2 ^ 32),
    .getPatrolStatus { box0 with tag := 2 ^ 16 }, .getLossLedger { box0 with tag := 2 ^ 16 } 0 0 0, .getLossLedger box0 (2 ^ 32) 0 0,
    .getLossLedger box0 0 (2 ^ 32) 0, .getLossLedger box0 0 0 (2 ^ 32), .getLunHealth { box0 with tag := 2 ^ 16 } 0, .getLunHealth box0 (2 ^ 16),
    .leaveReadPreserve { box0 with tag := 2 ^ 16 }, .getIdentityCertificate { box0 with tag := 2 ^ 16 },
    .treeCheck { box0 with tag := 2 ^ 16 } 0 0 false] : List Instr).all fun i => ! i.wf) = true := by decide +kernel
theorem test_illFormed_7 : (([.treeCheck box0 (2 ^ 32) 0 false, .treeCheck box0 0 (2 ^ 32) false, .rangeDigest { box0 with tag := 2 ^ 16 } 0 0 [] false,
    .rangeDigest box0 (2 ^ 32) 0 [] false, .rangeDigest box0 0 (2 ^ 8) [] false,
    .rangeDigest box0 0 0 [{ lba := 2 ^ 64, offset := 0, bytes := 1 }] false, .rangeDigest box0 0 0 [{ lba := 0, offset := 2 ^ 32, bytes := 1 }] false,
    .rangeDigest box0 0 0 [{ lba := 0, offset := 0, bytes := 2 ^ 64 }] false, .zoneAttestation { box0 with tag := 2 ^ 16 } 0 0 0 0 false false 0,
    .zoneAttestation box0 (2 ^ 32) 0 0 0 false false 0, .zoneAttestation box0 0 (2 ^ 32) 0 0 false false 0,
    .zoneAttestation box0 0 0 (2 ^ 8) 0 false false 0, .zoneAttestation box0 0 0 0 (2 ^ 8) false false 0,
    .rangeAttestation { box0 with tag := 2 ^ 16 } 0 0 [] 0 0 false 0, .rangeAttestation box0 (2 ^ 32) 0 [] 0 0 false 0,
    .rangeAttestation box0 0 (2 ^ 8) [] 0 0 false 0, .rangeAttestation box0 0 0 [{ lba := 2 ^ 64, offset := 0, bytes := 1 }] 0 0 false 0,
    .rangeAttestation box0 0 0 [{ lba := 0, offset := 2 ^ 32, bytes := 1 }] 0 0 false 0,
    .rangeAttestation box0 0 0 [{ lba := 0, offset := 0, bytes := 2 ^ 64 }] 0 0 false 0, .rangeAttestation box0 0 0 [] (2 ^ 8) 0 false 0,
    .rangeAttestation box0 0 0 [] 0 (2 ^ 8) false 0, .keyBinding { box0 with tag := 2 ^ 16 } 0 0, .keyBinding box0 (2 ^ 8) 0,
    .fixityJobEnd (2 ^ 64) [] [] [] false false, .getFixityResult { box0 with tag := 2 ^ 16 } 0, .getFixityResult box0 (2 ^ 64),
    .fixityResultExpiry (2 ^ 64), .createOwnerAttestationKey { box0 with tag := 2 ^ 16 } 0, .createOwnerAttestationKey box0 (2 ^ 8),
    .deleteOwnerAttestationKey { box0 with tag := 2 ^ 16 } 0, .deleteOwnerAttestationKey box0 (2 ^ 8), .getHalyardPort { box0 with tag := 2 ^ 16 } 0,
    .getHalyardPort box0 (2 ^ 8), .listPartners { box0 with tag := 2 ^ 16 } 0 0, .listPartners box0 (2 ^ 32) 0, .listPartners box0 0 (2 ^ 32),
    .pairPartner { box0 with tag := 2 ^ 16 } 0, .unpairPartner { box0 with tag := 2 ^ 16 } 0, .releaseQuarantine { box0 with tag := 2 ^ 16 } 0,
    .setAllowlist { box0 with tag := 2 ^ 16 } [], .setAllowlist box0 (List.replicate 256 0), .getAllowlist { box0 with tag := 2 ^ 16 },
    .startMigration { box0 with tag := 2 ^ 16 } 0 0 false 0 [], .startMigration box0 0 (2 ^ 32) false 0 [], .startMigration box0 0 0 false (2 ^ 8) [],
    .startMigration box0 0 0 false 0 [2 ^ 32], .acceptMigration { box0 with tag := 2 ^ 16 } 0 0 0, .acceptMigration box0 0 (2 ^ 32) 0] : List Instr).all fun i => ! i.wf) = true := by decide +kernel
theorem test_illFormed_8 : (([.acceptMigration box0 0 0 (2 ^ 8), .cancelMigration { box0 with tag := 2 ^ 16 } 0, .cancelMigration box0 (2 ^ 64),
    .getMigrationJob { box0 with tag := 2 ^ 16 } 0, .getMigrationJob box0 (2 ^ 64), .setMirror { box0 with tag := 2 ^ 16 } 0 0 0 0 0 0 0 0 0,
    .setMirror box0 (2 ^ 8) 0 0 0 0 0 0 0 0, .setMirror box0 0 (2 ^ 8) 0 0 0 0 0 0 0, .setMirror box0 0 0 (2 ^ 8) 0 0 0 0 0 0,
    .setMirror box0 0 0 0 (2 ^ 8) 0 0 0 0 0, .setMirror box0 0 0 0 0 (2 ^ 32) 0 0 0 0, .setMirror box0 0 0 0 0 0 (2 ^ 32) 0 0 0,
    .setMirror box0 0 0 0 0 0 0 (2 ^ 32) 0 0, .setMirror box0 0 0 0 0 0 0 0 (2 ^ 32) 0, .endMirror { box0 with tag := 2 ^ 16 } 0,
    .endMirror box0 (2 ^ 64), .promoteMirror { box0 with tag := 2 ^ 16 } 0, .promoteMirror box0 (2 ^ 64), .getMirror { box0 with tag := 2 ^ 16 } 0,
    .getMirror box0 (2 ^ 64), .getPowerStatus { box0 with tag := 2 ^ 16 }, .setReefLimit { box0 with tag := 2 ^ 16 } 0, .setReefLimit box0 (2 ^ 8),
    .enterCrowsNest { box0 with tag := 2 ^ 16 } 0, .enterCrowsNest box0 (2 ^ 32), .powerDown { box0 with tag := 2 ^ 16 },
    .getThermal { box0 with tag := 2 ^ 16 }, .getPortStatistics { box0 with tag := 2 ^ 16 } 0, .getPortStatistics box0 (2 ^ 8),
    .getIncompleteStripeSets { box0 with tag := 2 ^ 16 } 0 0 0, .getIncompleteStripeSets box0 (2 ^ 8) 0 0, .getIncompleteStripeSets box0 0 (2 ^ 32) 0,
    .getIncompleteStripeSets box0 0 0 (2 ^ 32), .getMastStatus { box0 with tag := 2 ^ 16 } 0, .getMastStatus box0 (2 ^ 8),
    .pauseHostDma { box0 with tag := 2 ^ 16 } 0, .pauseHostDma box0 (2 ^ 136), .resumeHostDma { box0 with tag := 2 ^ 16 } 0,
    .resumeHostDma box0 (2 ^ 136), .startCapacitanceSelfTest { box0 with tag := 2 ^ 16 } 0, .startCapacitanceSelfTest box0 (2 ^ 16),
    .getInternalResources { box0 with tag := 2 ^ 16 }, .takeOwnership { box0 with tag := 2 ^ 16 } 0, .transferOwnership { box0 with tag := 2 ^ 16 } 0,
    .getSignedObject { box0 with tag := 2 ^ 16 } 0, .getSignedObject box0 (2 ^ 8), .writeSignedObject { box0 with tag := 2 ^ 16 } 0 default default 0 0,
    .writeSignedObject box0 (2 ^ 8) default default 0 0] : List Instr).all fun i => ! i.wf) = true := by decide +kernel
theorem test_illFormed_9 : (([.writeSignedObject box0 0 default default (2 ^ 384) 0, .writeSignedObject box0 0 default default 0 (2 ^ 384),
    .formatMedia { box0 with tag := 2 ^ 16 }, .restoreDefaultControls { box0 with tag := 2 ^ 16 } 0, .restoreDefaultControls box0 (2 ^ 32),
    .unknownOpcode { box0 with tag := 2 ^ 16 } 0, .unknownOpcode box0 (2 ^ 16), .doneClear 129 0 false, .doneClear 0 4 false,
    .receiverDetection 3 false, .foreignLinkNumber 3 0, .foreignLinkNumber 0 (2 ^ 8), .foreignLinkRetry 3, .trainingComplete 3 0 0,
    .trainingComplete 0 (2 ^ 8) 0, .trainingComplete 0 0 (2 ^ 8), .trainingTimeout 3, .hailTimeout 3, .authenticationTimeout 3, .retrainTimeout 3,
    .linkSilence 3, .hail 3 0 none hail0, .hail 0 (2 ^ 64) none hail0, .hail 0 0 (some (2 ^ 16)) hail0, .hail 0 0 none { hail0 with version := 256 },
    .authCertificateChain 3 0 none 0 false 0 false, .authCertificateChain 0 (2 ^ 64) none 0 false 0 false,
    .authCertificateChain 0 0 (some (2 ^ 16)) 0 false 0 false, .authCertificateChain 0 0 none (2 ^ 16) false 0 false, .authKeyShare 3 0 none 0 0,
    .authKeyShare 0 (2 ^ 64) none 0 0, .authKeyShare 0 0 (some (2 ^ 16)) 0 0, .authSignature 3 0 none 0 0, .authSignature 0 (2 ^ 64) none 0 0,
    .authSignature 0 0 (some (2 ^ 16)) 0 0, .authSignature 0 0 none (2 ^ 384) 0, .authSignature 0 0 none 0 (2 ^ 384), .authDone 3 0 none,
    .authDone 0 (2 ^ 64) none, .authDone 0 0 (some (2 ^ 16)), .ackAndCredit 3 0 0 0 0, .ackAndCredit 0 (2 ^ 64) 0 0 0, .ackAndCredit 0 0 (2 ^ 64) 0 0,
    .ackAndCredit 0 0 0 (2 ^ 16) 0, .nak 3 0 0 0, .nak 0 (2 ^ 64) 0 0, .nak 0 0 (2 ^ 64) 0, .nak 0 0 0 (2 ^ 8)] : List Instr).all fun i => ! i.wf) = true := by decide +kernel
theorem test_illFormed_10 : (([.echoRequest 3 0 0, .echoRequest 0 (2 ^ 64) 0, .echoRequest 0 0 (2 ^ 64), .echoReply 3 0 0 0 0, .echoReply 0 (2 ^ 64) 0 0 0,
    .echoReply 0 0 (2 ^ 64) 0 0, .echoReply 0 0 0 (2 ^ 32) 0, .echoReply 0 0 0 0 (2 ^ 32), .pathProbe 3 0 0 0 0 0 0 0 false,
    .pathProbe 0 (2 ^ 64) 0 0 0 0 0 0 false, .pathProbe 0 0 (2 ^ 16) 0 0 0 0 0 false, .pathProbe 0 0 0 (2 ^ 8) 0 0 0 0 false,
    .pathProbe 0 0 0 0 0 0 (2 ^ 32) 0 false, .pathProbe 0 0 0 0 0 0 0 (2 ^ 32) false, .pathReply 3 0 0 0 0 0 0 0, .pathReply 0 (2 ^ 64) 0 0 0 0 0 0,
    .pathReply 0 0 (2 ^ 16) 0 0 0 0 0, .pathReply 0 0 0 0 0 (2 ^ 32) 0 0, .pathReply 0 0 0 0 0 0 (2 ^ 32) 0, .pathReply 0 0 0 0 0 0 0 (2 ^ 8),
    .pathDown 3 0 0 0 0, .pathDown 0 (2 ^ 64) 0 0 0, .pathDown 0 0 (2 ^ 16) 0 0, .pathDown 0 0 0 (2 ^ 8) 0, .departure 3 0 0 0,
    .departure 0 (2 ^ 64) 0 0, .departure 0 0 (2 ^ 8) 0, .departure 0 0 0 (2 ^ 32), .rekeyKeyShare 3 0 0 0 0 0, .rekeyKeyShare 0 (2 ^ 64) 0 0 0 0,
    .rekeyKeyShare 0 0 0 0 (2 ^ 64) 0, .rekeyKeyShare 0 0 0 0 0 (2 ^ 64), .rekeySignature 3 0 0 0, .rekeySignature 0 (2 ^ 64) 0 0,
    .rekeySignature 0 0 (2 ^ 384) 0, .rekeySignature 0 0 0 (2 ^ 384), .rekeyDone 3 0, .rekeyDone 0 (2 ^ 64), .refuse 3 0 0 0 0 0,
    .refuse 0 (2 ^ 64) 0 0 0 0, .refuse 0 0 (2 ^ 16) 0 0 0, .refuse 0 0 0 (2 ^ 8) 0 0, .refuse 0 0 0 0 (2 ^ 32) 0, .reservedPacketType 3 0 0,
    .reservedPacketType 0 (2 ^ 64) 0, .reservedPacketType 0 0 (2 ^ 8), .chunkRead 3 0 0 0 0 0 0 0 0, .chunkRead 0 (2 ^ 64) 0 0 0 0 0 0 0] : List Instr).all fun i => ! i.wf) = true := by decide +kernel
theorem test_illFormed_11 : (([.chunkRead 0 0 (2 ^ 16) 0 0 0 0 0 0, .chunkRead 0 0 0 (2 ^ 32) 0 0 0 0 0, .chunkRead 0 0 0 0 (2 ^ 64) 0 0 0 0, .chunkRead 0 0 0 0 0 (2 ^ 32) 0 0 0,
    .chunkRead 0 0 0 0 0 0 (2 ^ 32) 0 0, .chunkRead 0 0 0 0 0 0 0 (2 ^ 32) 0, .chunkRead 0 0 0 0 0 0 0 0 (2 ^ 16), .treeRead 3 0 0 0 0 0 0,
    .treeRead 0 (2 ^ 64) 0 0 0 0 0, .treeRead 0 0 (2 ^ 16) 0 0 0 0, .treeRead 0 0 0 (2 ^ 32) 0 0 0, .treeRead 0 0 0 0 (2 ^ 64) 0 0,
    .treeRead 0 0 0 0 0 (2 ^ 32) 0, .treeRead 0 0 0 0 0 0 (2 ^ 16), .mirrorWrite 3 0 0 0 0 0 0 [] [], .mirrorWrite 0 (2 ^ 64) 0 0 0 0 0 [] [],
    .mirrorWrite 0 0 (2 ^ 16) 0 0 0 0 [] [], .mirrorWrite 0 0 0 (2 ^ 32) 0 0 0 [] [], .mirrorWrite 0 0 0 0 (2 ^ 64) 0 0 [] [],
    .mirrorWrite 0 0 0 0 0 (2 ^ 32) 0 [] [], .mirrorWrite 0 0 0 0 0 0 (2 ^ 32) [] [], .mirrorWrite 0 0 0 0 0 0 0 [] [0],
    .response 3 0 0 0 false [] [] [] 0 0, .response 0 (2 ^ 64) 0 0 false [] [] [] 0 0, .response 0 0 (2 ^ 16) 0 false [] [] [] 0 0,
    .response 0 0 0 (2 ^ 32) false [] [] [] 0 0, .response 0 0 0 0 false [] [] [] (2 ^ 16) 0, .response 0 0 0 0 false [] [] [] 0 (2 ^ 32),
    .offer 0 (2 ^ 8) 0 0 0 [] 0 0 0 0 0 0 0 0 0, .offer 0 0 (2 ^ 8) 0 0 [] 0 0 0 0 0 0 0 0 0, .offer 0 0 0 (2 ^ 64) 0 [] 0 0 0 0 0 0 0 0 0,
    .offer 0 0 0 0 (2 ^ 32) [] 0 0 0 0 0 0 0 0 0, .offer 0 0 0 0 0 [2 ^ 32] 0 0 0 0 0 0 0 0 0, .offer 0 0 0 0 0 [] (2 ^ 64) 0 0 0 0 0 0 0 0,
    .offer 0 0 0 0 0 [] 0 (2 ^ 8) 0 0 0 0 0 0 0, .offer 0 0 0 0 0 [] 0 0 (2 ^ 8) 0 0 0 0 0 0, .offer 0 0 0 0 0 [] 0 0 0 (2 ^ 8) 0 0 0 0 0,
    .offer 0 0 0 0 0 [] 0 0 0 0 (2 ^ 8) 0 0 0 0, .offer 0 0 0 0 0 [] 0 0 0 0 0 (2 ^ 8) 0 0 0, .offer 0 0 0 0 0 [] 0 0 0 0 0 0 (2 ^ 32) 0 0,
    .offer 0 0 0 0 0 [] 0 0 0 0 0 0 0 (2 ^ 32) 0, .offer 0 0 0 0 0 [] 0 0 0 0 0 0 0 0 (2 ^ 32), .answer 0 false (2 ^ 16) 0 0 0,
    .answer 0 false 0 (2 ^ 64) 0 0, .answer 0 false 0 0 (2 ^ 32) 0, .answer 0 false 0 0 0 (2 ^ 8), .zoneManifest 0 { man1 with version := 256 },
    .keyCarry 0 0 0 0 (2 ^ 64)] : List Instr).all fun i => ! i.wf) = true := by decide +kernel
theorem test_illFormed_12 : (([.checkpoint 0 (2 ^ 64) 0 0, .checkpoint 0 0 (2 ^ 32) 0, .checkpoint 0 0 0 (2 ^ 32), .cutOverReady 0 (2 ^ 64) 0 0, .cutOverReady 0 0 (2 ^ 32) 0,
    .cutOverReady 0 0 0 (2 ^ 64), .cutOverConfirmed 0 (2 ^ 64) 0 0, .cutOverConfirmed 0 0 (2 ^ 32) 0, .cutOverConfirmed 0 0 0 (2 ^ 64),
    .requestStatus 0 (2 ^ 16) 0 0, .requestStatus 0 0 (2 ^ 32) 0, .requestStatus 0 0 0 (2 ^ 64), .zoneWithdrawn 0 (2 ^ 8) 0 0,
    .zoneWithdrawn 0 0 (2 ^ 64) 0, .zoneWithdrawn 0 0 0 (2 ^ 32), .zoneRefused 0 (2 ^ 8) 0 0, .zoneRefused 0 0 (2 ^ 64) 0, .zoneRefused 0 0 0 (2 ^ 32),
    .suspend 0 (2 ^ 8) 0 0, .suspend 0 0 (2 ^ 16) 0, .suspend 0 0 0 (2 ^ 64), .resume 0 (2 ^ 8) 0 0, .resume 0 0 (2 ^ 16) 0, .resume 0 0 0 (2 ^ 64),
    .endOp 0 (2 ^ 8) 0 0, .endOp 0 0 (2 ^ 16) 0, .endOp 0 0 0 (2 ^ 64), .mirrorOpen 0 (2 ^ 64) 0 0 default, .mirrorOpen 0 0 (2 ^ 32) 0 default,
    .mirrorOpen 0 0 0 (2 ^ 64) default, .mirrorFinish 0 (2 ^ 64) 0 0 0 0, .mirrorFinish 0 0 (2 ^ 32) 0 0 0, .mirrorFinish 0 0 0 (2 ^ 64) 0 0,
    .mirrorFinish 0 0 0 0 (2 ^ 32) 0, .mirrorReset 0 (2 ^ 64) 0 0, .mirrorReset 0 0 (2 ^ 32) 0, .mirrorReset 0 0 0 (2 ^ 64), .mirrorPromote 0 (2 ^ 64),
    .probeTimeout (2 ^ 32), .flightTimeMeasure 3, .rekeyInterval 3, .wakePatternReceived 3, .wakePatternRepeat 3, .wakeTimeout 3,
    .streamAdd (2 ^ 64) 0 0, .streamAdd 0 3 0, .streamAdd 0 0 (2 ^ 16), .jobResume (2 ^ 64) 0 0] : List Instr).all fun i => ! i.wf) = true := by decide +kernel
theorem test_illFormed_13 : (([.jobResume 0 3 0, .jobResume 0 0 (2 ^ 16), .resumeWindow (2 ^ 64), .catchUp (2 ^ 64), .ringEnable 129 0 0 0 0, .ringEnable 0 2 0 0 0,
    .ringEnable 0 0 (2 ^ 4) 0 0, .ringEnable 0 0 0 (2 ^ 2) 0, .ringEnable 0 0 0 0 (2 ^ 11), .ringDisable 129 0 0 0 0, .ringDisable 0 2 0 0 0,
    .ringDisable 0 0 (2 ^ 4) 0 0, .ringDisable 0 0 0 (2 ^ 2) 0, .ringDisable 0 0 0 0 (2 ^ 11), .rbaseWrite 129 0 false 0, .rbaseWrite 0 2 false 0,
    .rheadWrite 129 0 0, .rheadWrite 0 2 0, .rheadWrite 0 0 (2 ^ 16), .rstsClear 129 0 0, .rstsClear 0 2 0, .summaryRecord 129 0, .summaryRecord 0 2,
    .frameLoRead 129 false 32, .frameLoRead 0 false 16, .frameLoRead 1 true 32, .markFloRead 129 false 32, .markFloRead 0 false 16,
    .markFloRead 1 true 32, .utcLoRead 129 false 32, .utcLoRead 0 false 16, .utcLoRead 1 true 32, .gstsClear 129 false 0, .gstsClear 1 true 0,
    .registerWrite 129 false 0 32 0, .registerWrite 0 false (2 ^ 20) 32 0, .registerWrite 0 false 0 16 0, .registerWrite 1 true 0 32 0,
    .bufferAllocate 1835008 default 0 0 0, .bufferAllocate 0 default 129 0 0, .bufferAllocate 0 default 0 17 0, .bufferShare 1835008 0,
    .bufferShare 0 17, .bufferDrop 1835008 0, .bufferDrop 0 17, .bufferZeroed 1835008, .clean 8 false 0 0, .clean 0 false (2 ^ 26) 0] : List Instr).all fun i => ! i.wf) = true := by decide +kernel
theorem test_illFormed_14 : (([.clean 0 false 0 (2 ^ 26), .invalidateBySetAndWay 8 0 0, .invalidateBySetAndWay 0 (2 ^ 10) 0, .invalidateBySetAndWay 0 0 (2 ^ 4),
    .invalidateByRange 8 0 0, .invalidateByRange 0 (2 ^ 26) 0, .invalidateByRange 0 0 (2 ^ 26), .cleanAndInvalidate 8 false 0 0,
    .cleanAndInvalidate 0 false (2 ^ 26) 0, .cleanAndInvalidate 0 false 0 (2 ^ 26), .evictionWriteBack 8, .cacheFill 8 0 false,
    .cacheFill 0 (2 ^ 26) false, .wayDisable 8 0 0, .wayDisable 0 (2 ^ 10) 0, .wayDisable 0 0 (2 ^ 4), .correctableError 40 0,
    .uncorrectableError 40 0 default, .memoryFill 32 [], .mastFurl 8, .portFurl 32, .halyardFurl 3, .hostLinkFurl 2, .domainWake ⟨81, true⟩ 0, .domainWake ⟨0, true⟩ 13,
    .samplerWake (2 ^ 16) 0 [], .samplerWake 0 (2 ^ 16) [], .samplerWake 0 0 (List.replicate 17 0), .dynamicAddressAssignment (2 ^ 7),
    .thermalSample [] (List.replicate 25 false), .thermalSample (List.replicate 25 0) [], .thermalComparator 15, .thermalComparator 25,
    .stageMedia [8] [] [], .stageMedia [] [2 ^ 8] [], .stageMedia [] [] [(1024, 0, 0)], .stageReplay false false [(2 ^ 32, 0)] [], .stageReplay false false [(0, 2 ^ 64)] [], .bypass 1, .bypass (2 ^ 8),
    .fuseSelect (2 ^ 4), .fuseBurn 0 (2 ^ 16), .fabricProtocolError 8, .configurationRequest 129 false 0, .configurationRequest 0 false 4096,
    .configurationRequest 1 true 0, .tagOrCrcFailure 3 0 false, .tagOrCrcFailure 0 (2 ^ 64) false] : List Instr).all fun i => ! i.wf) = true := by decide +kernel

/-! ## Hypotheses that rest on a key's unwrapping or on a full key register -/

def kek5 : Kek := { index := 0, key := 5, persistent := false }
def viaOne : MbxHdr := { via := .bar 1 0 }
theorem test_unwrap_under_kek : kwUnwrap (bytesLE 32 kek5.key.toNat) (bytesLE 40 wrapped5.toNat) = some (List.range 32) := by decide +kernel
theorem test_unwrap_of_peer : kwUnwrap (importKey (ecdh p9.fuses.transportPriv.toNat genPt) p9.ownFp 7) (bytesLE 40 wrapped7.toNat) =
    some (List.range 32) := by decide +kernel
/-- The slot and the key-encryption key that Load Key's clauses ask for. -/
def loadReady (s : State) : Bool :=
  (s.slot 8).owner == some (callerOf viaOne.via) && (s.slot 8).state != .draining &&
    (s.fn (callerOf viaOne.via)).keks.find? (fun x => x.index == 0) == some kek5
/-- Obligations.NamespaceAndKeyEffects, Load Key: the wrap does not open; its key is held by another slot; its key is new. -/
theorem test_witness_load_key_bad_wrap :
    loadReady (k1 [] [slotA]) = true ∧ kwUnwrap (bytesLE 32 kek5.key.toNat) (bytesLE 40 (0 : BitVec 320).toNat) = none := by decide +kernel
theorem test_witness_load_key_held : let s := k1 [entA] [slotA, slotB]
    loadReady s = true ∧ s.refOf (keyFingerprint (List.range 32)) = some 1 ∧ s.refHolder 1 8 = some 9 := by decide +kernel
theorem test_witness_load_key_new : let s := k1 [] [slotA]
    loadReady s = true ∧ s.refOf (keyFingerprint (List.range 32)) = none ∧ s.nextRef = some 1 ∧ (s.slot 8).state = .empty := by decide +kernel
def fullRegister : List KeyEntry := List.replicate 0xFFFE { number := 1, tenant := true, salt := 0, fp := 3 }
theorem refOf_full (s : State) (h : s.keys.register = fullRegister) (d : Digest) (hz : (d == zeroEntry.fp) = false) (h3 : (3 == d) = false) :
    s.refOf d = none := by
  rw [State.refOf, hz, h, fullRegister, List.find?_replicate, h3]
  rfl
theorem nextRef_full (s : State) (h : s.keys.register = fullRegister) : s.nextRef = none := by
  rw [State.nextRef, h, fullRegister, List.length_replicate]
  rfl
/-- … and its key is new while the register is full. -/
theorem test_witness_load_key_full : let s := k1 fullRegister [slotA]
    loadReady s = true ∧ s.refOf (keyFingerprint (List.range 32)) = none ∧ s.nextRef = none :=
  ⟨by decide +kernel, refOf_full _ rfl _ (by decide +kernel) (by decide +kernel), nextRef_full _ rfl⟩
/-- Obligations.Mirroring: a key entry for which the register has no room. -/
theorem test_witness_entry_full : let s := k1 fullRegister []
    (5 : Digest) ≠ 0 ∧ s.refOf 5 = none ∧ s.nextRef = none :=
  ⟨by decide, refOf_full _ rfl _ (by decide +kernel) (by decide), nextRef_full _ rfl⟩
/-- Obligations.PeerMessages, a carried key that the destination takes, and one that it does not. -/
def carries7 : Bool := match p9.job? 3 with
  | some j => ! j.source && j.partner == 7 && j.state == .running && onCurve genPt && (match p9.ns? j.nsid with
    | some n => ((p9.slotsOf n.origin).find? fun k => (p9.slot k).state == .empty) == some 8
    | none => false)
  | none => false
theorem test_witness_key_carry : carries7 = true ∧ p9.refOf rawPrint = some 1 ∧ keyFingerprint (List.range 32) = rawPrint ∧
    p9.refHolder 1 8 = none := by decide +kernel
theorem test_witness_key_carry_refused : carries7 = true ∧ p9.refOf zeroEntry.fp = some 0 := by decide +kernel
/-- The checks of the records inside a command: each check refuses. -/
theorem test_illFormed_records :
    (([{ via := .bar 129 0 }, { via := .bar 0 4 }, { via := .bar 1 1 }, { box0 with tag := 2 ^ 16 }, { box0 with len := 2 ^ 32 },
      { box0 with extAddr := 2 ^ 64 }, { box0 with extLen := 2 ^ 32 }, { box0 with rsvd := some (2 ^ 20) },
      { box0 with trailer := some { challenge := 0, r := 2 ^ 384, s := 0 } }, { box0 with trailer := some { challenge := 0, r := 0, s := 2 ^ 384 } }] :
        List MbxHdr).all fun m => ! m.wf) ∧
    (([{ hdr1 with fn := 129 }, { hdr1 with fn := 1, port1 := true }, { hdr1 with sq := 2 ^ 16 }, { hdr1 with cid := 2 ^ 16 },
      { hdr1 with nsid := 2 ^ 32 }, { hdr1 with hops := 2 ^ 32 }] : List NvmeHdr).all fun h => ! h.wf) ∧
    (([{ ex1 with slba := 2 ^ 64 }, { ex1 with nlb := 0 }, { ex1 with nlb := 65537 }, { ex1 with appTag := 2 ^ 16 }, { ex1 with refTag := 2 ^ 32 }] :
        List Extent).all fun e => ! e.wf) ∧
    (({ seq := 2 ^ 64 + 1024 } : SliceReport).wf = false) ∧
    (([{ hail0 with version := 256 }, { hail0 with sendPort := 256 }, { hail0 with memusum := 256 }, { hail0 with ctlCredits := 2 ^ 16 },
      { hail0 with reqCredits := 2 ^ 16 }, { hail0 with respPool := 2 ^ 16 }, { hail0 with powerOn := 2 ^ 32 }] : List Hail).all fun h => ! h.wf) ∧
    (([{ man1 with version := 256 }, { man1 with zone := 2 ^ 32 }, { man1 with generation := 2 ^ 64 }, { man1 with written := 2 ^ 32 },
      { man1 with leaves := 2 ^ 32 }, { man1 with utcFinish := 2 ^ 64 }, { man1 with grade := 256 }, { man1 with floor := 2 ^ 64 },
      { man1 with job := 2 ^ 64 }] : List Manifest).all fun m => ! m.wf) := by decide +kernel

/-! ## Every clause of every statement has a case -/

theorem test_witness_StepRunsTheFrontCommand :
    (
     (let s : State := dev0; decide (s.pending = []))) = true := by decide +kernel
theorem test_witness_StepKeepsUnits :
    (
     (let s : State := State.reset;
       decide ((s.masts.length = 8 ∧ s.ports.length = 32 ∧ s.fns.length = 129 ∧ s.hal.ports.length = 3 ∧ s.io.ports.length = 2 ∧ s.media.journals.length = 9 ∧ s.mems.length = 40 ∧ s.therm.inputs.length = 25)) &&
       (nextAnd (step s) fun t => (true)))) = true := by decide +kernel
theorem test_witness_FrameNumber :
    (
     (let s : State := dev0; (let c : Instr := .secondMark; (nextAnd (exec c s) fun t => (true)))) &&
     (let s : State := dev0; decide (s.clk.dark = false))) = true := by decide +kernel
theorem test_witness_FusesBurnOnce :
    (
     (let s : State := dev0; (let c : Instr := .secondMark; (nextAnd (exec c s) fun t => (true)))) &&
     (let s : State := { State.reset with jtag := { select := 3 } }; (let tcks : Nat := 200000; (let vin : Nat := 3000; decide (s.powered = true) &&
       decide (s.fuses.lock = false) && decide (1 ≤ s.jtag.select) && decide (s.jtag.select ≤ 3) && decide (s.fuses.field s.jtag.select = 0) &&
       decide (3000 ≤ vin) && decide (200000 ≤ tcks))))) = true := by decide +kernel
theorem test_witness_StatusSequence :
    (
     (let s : State := dev0; (let c : Instr := .secondMark; (nextAnd (exec c s) fun t => (true))))) = true := by decide +kernel
theorem test_witness_FrameSteps :
    (
     (let s : State := wr; decide (s.clk.dark = true)) &&
     (let s : State := dev0; decide (s.clk.dark = false) && (let inp : FrameIn := {};
       (let a := ((s.stepOf (State.latchInputs inp)).stepOf State.latchPower).stepOf State.dumpFrameStep; true))) &&
     (let s : State := dev0; (let a := ((s.stepOf State.collect).stepOf State.changes).stepOf State.decisions; decide (a.clk.dark = false) &&
       (let b := a.stepOf State.refreshCredits; decide (b.pwr.dev = .working))))) = true := by decide +kernel
theorem test_witness_ClockCommands :
    (
     (let s : State := dev0; decide (s.clk.dark = false) && decide (s.clk.isSet = true) && decide (s.clk.markSecs ≠ s.clk.secs)) &&
     (let s : State := dev0; decide (s.clk.dark = false) && decide (s.clk.isSet = true) &&
       decide (((s.clk.lastKnownFrame).all fun f => decide (f + 2 ^ 22 ≤ s.clk.frame)) = true)) &&
     (let s : State := dev0; decide (s.clk.aonRuns = true) && decide (s.pwr.dev ≠ .crowsNest)) &&
     (let s : State := q1; decide (s.clk.aonRuns = false)) &&
     (let s : State := dev0; decide (s.clk.ref100 = true) && decide (s.clk.dark = false)) &&
     (let s : State := q1; decide (s.clk.ref100 = false) && decide (s.clk.internalOsc = true)) &&
     (let s : State := dev0; decide (s.clk.dark = false) && decide (s.media.ageFrame + 62500 ≤ s.clk.frame))) = true := by decide +kernel
theorem test_witness_DarkTime :
    (
     (let s : State := wr; decide (s.clk.dark = true) && decide (s.pwr.dev = .starting))) = true := by decide +kernel
theorem test_witness_PortStates :
    (
     (let s : State := q1; (let p : Nat := 0; decide (p < 32) && decide ((s.port p).state = .degraded) &&
       decide (s.ctlValue ctlOverrunN ≤ (s.port p).clearRun))) &&
     (let s : State := q1; (let p : Nat := 1; decide (p < s.ports.length) && decide (p < 32) && decide ((s.port p).state = .fenced) &&
       decide ((s.port p).draining = false) && (((s.port p).fencedAt).any fun f => (decide (s.clk.frame ≤ f + 6250) && (let ces : Nat := 1;
       decide (bitmap ((bitsOf ces 8).filter (bit s.record.ceBitmap)) ≠ 0)))))) &&
     (let s : State := q1; (let p : Nat := 1; decide (p < 32) && decide ((s.port p).state = .fenced) && decide ((s.port p).draining = false) &&
       (((s.port p).fencedAt).any fun f => (decide (f + 6250 ≤ s.clk.frame))))) &&
     (let s : State := q1; (let p : Nat := 2; decide (p < 32) && decide ((s.port p).state = .fenced) && decide ((s.port p).draining = true) &&
       decide ((s.luns).all (fun l => decide (portOfLun l.glun = p → l.work = none)) = true))) &&
     (let s : State := dev0; (let p : Nat := 0; decide (p < s.ports.length))) &&
     (let s : State := dev0; (let p : Nat := 0; decide (p < 32) && decide (p < s.ports.length)))) = true := by decide +kernel
theorem test_witness_PortReport :
    (
     (let s : State := q1; (let p : Nat := 4; decide (p < s.ports.length) && (let w := ((s.port p).overrunNow :: (s.port p).window).take 64;
       decide (s.ctlValue ctlOverrunD ≤ countIf id w) && decide ((s.port p).state = .normal)))) &&
     (let s : State := q1; (let p : Nat := 5; decide (p < s.ports.length) && (let w := ((s.port p).overrunNow :: (s.port p).window).take 64;
       decide (s.ctlValue ctlOverrunD ≤ countIf id w) && decide ((s.port p).state = .degraded)))) &&
     (let s : State := dev0; (let p : Nat := 0; decide (p < s.ports.length) && (let w := ((s.port p).overrunNow :: (s.port p).window).take 64;
       decide (countIf id w < s.ctlValue ctlOverrunD))))) = true := by decide +kernel
theorem test_witness_SteadyParts :
    (
     (let s : State := dev0; (let c : Instr := .read hdr1 ex1; decide (changesSteady c = false) && (nextAnd (exec c s) fun t => (true))))) = true := by decide +kernel
/-- The operation on a LUN is over (dieOver), as a decision. -/
def isOver (s : State) (glun : Nat) (w : DieWork) : Bool := (s.lun glun).work == some w && ! w.suspended && ! w.cmd && w.dataLeft == 0 &&
  (! s.takesPlans (portOfLun glun) || decide (w.plannedEnd ≤ s.clk.frame))
theorem test_witness_DieStarts :
    (
     (let s : State := d1; decide (s.dumping = false) && (let glun : Nat := 0; decide (glun < 1024) &&
       decide ((s.mast (mastOfLun glun)).state = .active) && decide ((s.port (portOfLun glun)).state ≠ .fenced) &&
       decide ((s.port (portOfLun glun)).state ≠ .failed) && decide (s.lunExcluded glun = false) && decide ((s.lun glun).work = none) &&
       decide (s.readOn glun = false) && ((s.passOn glun).any fun x => (
       let k := (if x.pass + 1 = s.profile.passesPerWl then DieOp.finePass else DieOp.coarsePass);
       decide (suspendLimit s.profile k x.seg.archival ≠ 0 ∨ s.budgetAllows glun = true))))) &&
     (let s : State := dev0; (let glun : Nat := 0; (let block : Nat := 100; decide (glun < 1024) && decide ((s.lun glun).work = none) &&
       decide (s.readOn glun = false) && decide (suspendLimit s.profile .erase false ≠ 0 ∨ s.budgetAllows glun = true) &&
       decide (s.eraseBarred glun = false) && decide (s.dumping = false) && decide ((s.mast (mastOfLun glun)).state = .active) &&
       decide (s.lunErased glun = false) && decide (s.lunExcluded glun = false) &&
       decide (((s.lun glun).block block).state = .pendingErase ∧ (s.lun glun).poolBlock s.profile block = true ∨ ((s.lun glun).block block).state = .allocated ∧ ((s.lun glun).block block).erased = false) &&
       decide ((s.journal (mastOfLun glun)).staged = []))))) = true := by decide +kernel
theorem test_witness_DieOperationEnds :
    (
     (let s : State := q1; (let glun : Nat := 0; decide (glun < 1024) && (((s.lun glun).work).any fun w => (decide (w.suspended = true))))) &&
     (let s : State := dev0; (let glun : Nat := 4; decide (glun < 1024) && decide ((s.lun glun).work = none))) &&
     (let s : State := q1; (let glun : Nat := 1; decide (glun < 1024) && (((s.lun glun).work).any fun w => (isOver s glun w &&
       decide (w.kind = .read ∨ w.kind = .pslcRead ∨ w.kind = .reset ∨ w.kind = .feature))))) &&
     ([DieOp.finePass, .coarsePass].all fun k => (let s : State := d2.modLun 0 fun l => { l with work := l.work.map fun w => { w with kind := k } };
       (let glun : Nat := 0; decide (glun < 1024) && (((s.lun glun).work).any fun w => (isOver s glun w && decide (w.kind = k) &&
       decide (w.kind = .coarsePass ∨ w.kind = .finePass) && ((s.seg? w.ref1).any fun g => (
       ((((List.range g.width).find? fun q => s.memberGlun g q == glun)).any fun q => (decide (w.block = g.members.getD q 0) &&
       decide (mastOfLun glun < s.media.journals.length)))))))))) &&
     (let s : State := q1; (let glun : Nat := 2; decide (glun < 1024) && (((s.lun glun).work).any fun w => (isOver s glun w && decide (w.kind = .erase))))) &&
     (let s : State := dev0.modLun 0 fun l => { l with blocks := [{ number := 30, state := .pendingErase }, { number := 31, state := .allocated }] };
       decide (((s.lun 0).block 30).state ≠ .retired) && decide (((s.lun 0).block 30).state = .pendingErase) &&
       decide ((s.lun 0).poolBlock s.profile 30 = true) && decide (((s.lun 0).block 31).state ≠ .retired) &&
       decide (((s.lun 0).block 31).state ≠ .pendingErase)) &&
     (let s : State := q1; (let glun : Nat := 3; decide (glun < 1024) && (((s.lun glun).work).any fun w => (isOver s glun w &&
       decide (w.kind = .coarsePass ∨ w.kind = .finePass))))) &&
     (let r := runEntries 0 [{ lun := 0, cycles := 1500 }, { lun := 0, cycles := 1500 }]; r.1.length == 1 && r.2.length == 1)) = true := by decide +kernel
theorem test_witness_MastFaults :
    (
     (let m : Nat := 0; decide (m < 8)) &&
     (let s : State := dev0; (let m : Nat := 0; decide (m < s.masts.length) && decide ((s.mast m).state = .active))) &&
     (let s : State := dev0; (let m : Nat := 0; decide (m < s.masts.length) && decide ((s.mast m).state = .active) &&
       decide ((s.mast m).restartUsed = false))) &&
     (let s : State := { dev0 with luns := [{ glun := 0, retired := 1 }] }; (let m : Nat := 0; (let item : Nat := 0; decide (m < s.masts.length) &&
       decide ((s.mast m).state = .active) && (((s.mastFault m item).luns)[0]?.any fun l => (decide (l ∈ (s.mastFault m item).luns) &&
       decide (mastOfLun l.glun = m)))))) &&
     (let s : State := q1; (let m : Nat := 0; decide (m < s.masts.length) && decide ((s.mast m).state = .restarting))) &&
     (let s : State := q2; (let m : Nat := 0; decide (m < s.masts.length) && decide ((s.mast m).state = .furled) && decide (9 * m ∈ s.pwr.furled))) &&
     (let s : State := q1; (let m : Nat := 1; decide (m < s.masts.length) && decide ((s.mast m).state = .furled) && decide (9 * m ∉ s.pwr.furled))) &&
     (let s : State := q1; decide (s.start.vddqf = true)) &&
     (let s : State := dev0; ((s.deviceFault.fns)[0]?.any fun f => (decide (f ∈ s.deviceFault.fns)))) &&
     (let s : State := dev0; decide (s.pwr.dev = .working) && decide (s.clk.dark = false))) = true := by decide +kernel
theorem test_witness_MastRestart :
    (
     (let s : State := { q1 with mems := q1.mems.map fun u => { u with filled := true } }; (let m : Nat := 0; decide (m < 8) &&
       decide ((s.mast m).state = .restarting) && (((s.mast m).restartFrame).any fun f => (
       decide (s.clk.frame ≤ f + 62500) && decide ((s.mem m).filled = true) && decide ((s.mem (16 + m)).filled = true))))) &&
     (let s : State := dev0; (let m : Nat := 0; decide (m < s.masts.length))) &&
     (let s : State := State.reset; (let m : Nat := 0; decide (m < s.masts.length) && (((s.mastUp m).pwr.furled)[0]?.any fun d => (
       decide (d ∈ (s.mastUp m).pwr.furled))))) &&
     (let s : State := q1; (let m : Nat := 0; decide (m < 8) && decide ((s.mast m).state = .restarting) && (((s.mast m).restartFrame).any fun f => (
       decide (f + 62500 ≤ s.clk.frame))))) &&
     (let s : State := q1; (let m : Nat := 0; decide (m < s.masts.length) && ((mastDomains m)[0]?.any fun d => decide (d ∈ mastDomains m)))) &&
     (let s : State := q1; (let m : Nat := 0; decide (m < 8) && decide ((s.mem m).filled = false ∨ (s.mem (16 + m)).filled = false)))) = true := by decide +kernel
theorem test_witness_MemoryProtection :
    (
     (let s : State := dev0; (let i : Nat := 0; decide (memUnit i = true) && decide (i < 32) && decide (s.memPresent i = true) && (let a : Nat := 0;
       decide (((s.mem i).corrected).all (fun x => decide (x.1 ≠ a / wordBytes i)) = true)))) &&
     (let s : State := dev0; decide (s.clk.dark = false) && (let i : Nat := 0;
       decide ((((s.mem i).lastEvent).all fun f => decide (f + 62500 ≤ s.clk.frame)) = true))) &&
     (let s : State := q1; (let i : Nat := 0; (((s.mem i).lastEvent).any fun f => (decide (s.clk.frame < f + 62500))))) &&
     (let s : State := dev0; (let i : Nat := 32; decide (32 ≤ i) && decide (i < 40) && decide (s.memPresent i = true))) &&
     (let i : Nat := 16; (let s : State := dev0; decide (memUnit i = true) && decide (s.memPresent i = true) && decide (isDram i = false) &&
       ((memMast i).any fun m => (true)))) &&
     (let i : Nat := 24; (let s : State := dev0; decide (memUnit i = true) && decide (s.memPresent i = true) && decide (isDram i = false) &&
       decide (memMast i = none))) &&
     (let s : State := d5; (let i : Nat := 0; decide (i < 9) && decide (s.memPresent i = true) && decide (holdsIn s i (.unit 1 262144) = true) &&
       ((s.block? 1 262144).any fun b => true))) &&
     (let s : State := d5; (let i : Nat := 1; decide (i < 9) && decide (s.memPresent i = true) && decide (holdsIn s i (.unit 1 262144) = false))) &&
     (let i : Nat := 16; (let s : State := stg 1; decide (memUnit i = true) && decide (i < 32) && decide (i < s.mems.length) &&
       decide (s.memPresent i = true) && decide (isDram i = false) && decide (s.inStage 1 = true ∨ s.inStage 2 = true)))) = true := by decide +kernel
theorem test_witness_WriteDatapath :
    (
     (let s : State := d3; (let m : Nat := 1; decide (m < 8) && decide ((s.mast m).state = .active) && ((s.nextUnit m).any fun (g, r, u) => (true)))) &&
     (let s : State := q2; (let q : Nat := 1; ((s.io.reqs.find? (fun x => x.req == q)).any fun r => (decide (r.retiredUntil = none) &&
       ((s.cmd? r.cmd).any fun c => ((let i : Nat := 0; decide (r.what = .data i)))))))) &&
     (let s : State := q2; (let q : Nat := 1; ((s.io.reqs.find? (fun x => x.req == q)).any fun r => (decide (r.retiredUntil = none) &&
       (let i : Nat := 0; decide (r.what = .data i)))))) &&
     (let s : State := dev0; (let q : Nat := 0; decide (s.io.reqs.find? (fun x => x.req == q) = none))) &&
     (let n : Namespace := { nsid := 1, lbaf := 1 }; (let e : Extent := { ex1 with prchkApp := true, appTag := 5 };
       decide (n.lbaf ≠ 1 ∨ { e with pract := true }.pract = true) && decide (n.lbaf = 1) && decide (e.pract = false) &&
       decide (({ guardOk := false } : HostPi).guardOk = false) && decide (({ app := 0xFFFF } : HostPi).guardOk = true) &&
       decide (e.prchkApp = true) && decide (({ app := 6 } : HostPi).app ≠ 0xFFFF) && decide (({ app := 6 } : HostPi).app ≠ e.appTag))) &&
     (let s : State := d4; (let n : Nat := 1; (let zi : Nat := 1;
       decide ((s.zone n zi).state = .implicitOpen ∨ (s.zone n zi).state = .explicitOpen ∨ (s.zone n zi).state = .closed) &&
       decide (256 * ((s.zone n zi).leaves.length + 1) ≤ (s.zone n zi).wp) &&
       ((s.leafOf n zi (s.zone n zi).wp (s.zone n zi).leaves.length).any fun d => (true))))) &&
     (let s : State := dev0; decide (s.pwr.dev = .working) && (let n : Nat := 1; (let zi : Nat := 1; decide ((s.zone n zi).state.isOpen = true) &&
       decide ((s.zone n zi).parked = false) && decide ((s.zone n zi).lastFrame + s.ctlValue ctlParkDelay ≤ s.clk.frame)))) &&
     (let s : State := q2; (let id : Nat := 3; ((s.cmd? id).any fun c => (decide (c.phase = .held) &&
       decide (c.cause = some .energy ∨ c.cause = some .mirror) && (c.heldSince.any fun f => (
       decide (f + s.ctlValue ctlEnergyWait < s.clk.frame))))))) &&
     (let s : State := d5; (let q : Nat := 1; (let r : Nat := 1; ((s.seg? q).any fun g => (decide (g.replace = false) &&
       decide ((s.media.blocks).any (fun b => decide (b.seg = q ∧ b.row = r ∧ b.place = .parked)) = true))))))) = true := by decide +kernel
theorem test_witness_Journals :
    (
     (let s : State := d6; (let j : Nat := 0; decide (j < 8) && (headAnd ((s.journal j).staged) fun r rest => (decide (s.recordReady r = true))))) &&
     (let s : State := d6; (headAnd ((s.journal 8).staged) fun r rest => (decide (s.recordReady r = true) &&
       (let a := (s.modJournal 8 fun x => { x with staged := rest, bytes := x.bytes + s.recordSize r });
       decide ((((a.logWear (a.journalPage 8) 8).recordDurable r).io.cmds).all (fun c => decide (c.waitsFor = none)) = true))))) &&
     (let s : State := dev0; (let j : Nat := 0; decide (j < 9) && decide ((s.journal j).staged = []))) &&
     (let s : State := q1; (let j : Nat := 0; decide (j < 9) && decide (j < s.media.journals.length) && decide (33554432 ≤ (s.journal j).bytes))) &&
     (let s : State := dev0; (let j : Nat := 0; decide (j < 9) && decide ((s.journal j).bytes < 33554432)))) = true := by decide +kernel
/-- A running read of one block: the step's reads have arrived, unless said otherwise. -/
def rdS (b : RBlock) (c : Cmd := { mkCmd 0 1 (.read hdr1 { slba := 262144, nlb := 1 }) with cls := .c }) (s : State := withMedia sg1 [bk 0 .flash]) : State :=
  { s with io := { s.io with cmds := [{ c with phase := .running, blocks := [{ b with nsid := 1, lba := 262144 }] }] } }
def home0 : Nat := ((withMedia sg1 [bk 0 .flash]).memberAt 1 262144).elim 0 fun x => (withMedia sg1 []).memberGlun x.1 x.2.1
def others0 : List Nat := ((List.range 8).map ((withMedia sg1 []).memberGlun sg1)).filter (· != home0)
def arr0 : RBlock := { nsid := 1, lba := 262144, glun := home0, reads := [home0], planned := true, burst := 5 }
def reb0 : RBlock := { arr0 with step := 4, reads := others0 }
theorem test_witness_ReadPath :
    (
     (let s : State := d7; (let id : Nat := 1; ((s.cmd? id).any fun c => (((readExtent c.op).any fun e => (
       decide ((s.homesOf c.nsid e.slba e.nlb).all (fun m => decide ((s.mast m).state = .active)) = true))))))) &&
     ([0, 1000].all fun bits => (let s : State := rdS arr0; (let id : Nat := 1; (let i : Nat := 0; ((s.cmd? id).any fun c => (((c.blocks[i]?).any fun b => (
       decide (c.phase = .running) && decide (b.phase = 0) && decide (b.step = 1) && decide (b.failedAt = 0) && decide (b.tried = false) &&
       decide (b.glun ∈ b.reads) && decide (b.arrived s.clk.frame = true) && decide (s.lunErased b.glun = false) && decide (b.rebuilds = false) &&
       ((s.memberAt b.nsid b.lba).any fun (g, m, k) => (decide (bits ≤ s.profile.rewriteBits) == (bits == 0))))))))))) &&
     (let s : State := rdS { arr0 with planned := false }; (let id : Nat := 1; (let i : Nat := 0; ((s.cmd? id).any fun c => (((c.blocks[i]?).any fun b => (
       decide (b.arrived s.clk.frame = false)))))))) &&
     (let s : State := { rdS arr0 with masts := List.replicate 8 { state := .failed } }; (let id : Nat := 1; (let i : Nat := 0; ((s.cmd? id).any fun c => (
       ((c.blocks[i]?).any fun b => (decide (s.lunErased b.glun = true)))))))) &&
     (let s : State := rdS { arr0 with reads := [] }; (let id : Nat := 1; (let i : Nat := 0; ((s.cmd? id).any fun c => (((c.blocks[i]?).any fun b => (
       decide (b.glun ∉ b.reads)))))))) &&
     (let s : State := q2; (let id : Nat := 5; ((s.cmd? id).any fun c => ((let i : Nat := 0; ((c.blocks[i]?).any fun b => (decide (b.phase = 0) &&
       decide (b.failedAt ≠ 0) && decide (s.clk.frame < b.failedAt + 3)))))))) &&
     (let s : State := q2; (let id : Nat := 1; ((s.cmd? id).any fun c => (decide (c.phase = .running) && (let i : Nat := 2;
       ((c.blocks[i]?).any fun b => (decide (b.phase = 0) && decide (b.failedAt ≠ 0) && decide (b.failedAt + 3 ≤ s.clk.frame) &&
       decide (5 ≤ b.step)))))))) &&
     ([1, 2, 3, 4].all fun st => (let s : State := { rdS { arr0 with step := st, failedAt := 5 } with ctl := if st == 2 then [(ctlRetryDepth, deviceScope, 0)] else [] };
       (let id : Nat := 1; (let i : Nat := 0; ((s.cmd? id).any fun c => (((c.blocks[i]?).any fun b => (
       decide (c.phase = .running) && decide (c.bounded = false) && decide (c.cls = .c) && decide (b.reserves = []) && decide (b.phase = 0) &&
       decide (b.failedAt ≠ 0) && decide (b.failedAt + 3 ≤ s.clk.frame) && decide (b.step < 5) && decide (b.step = st) &&
       (decide (s.ctlValue ctlRetryDepth = 0) == (st == 2)) &&
       ((s.memberAt b.nsid b.lba).any fun (g, m, k) => ((s.block? b.nsid b.lba).any fun x => decide (m ∉ s.rowErasures g x.row)))))))))) ) &&
     ([[], (List.range 8).map fun q => (q, DecodeEnd.ok 0 [])].all fun ms => (let s : State := rdS reb0; (let id : Nat := 1; (let i : Nat := 0;
       ((s.cmd? id).any fun c => (((c.blocks[i]?).any fun b => (
       decide (c.phase = .running) && decide (b.phase = 0) && decide (b.failedAt = 0) && decide (b.rebuilt = false) && decide (b.rebuilds = true) &&
       decide (c.bounded = false ∨ c.cls ≠ .a ∨ b.step ≠ 1 ∨ b.glun ∉ b.reads ∨ b.tried = true) && decide (b.arrived s.clk.frame = true) &&
       decide (s.opener b.glun ≠ none) && ((s.memberAt b.nsid b.lba).any fun (g, m, k) => ((s.block? b.nsid b.lba).any fun x => (
       decide (rebuildNeeds g c b ≤ (s.intactOf g x.row m b ms).length) == ! ms.isEmpty))))))))))) &&
     (let s : State := q2; (let id : Nat := 2; ((s.cmd? id).any fun c => (decide (c.phase = .ready) && decide (c.sq ≠ 0) &&
       decide (s.delays c = false)))))) = true := by decide +kernel
theorem test_witness_HoldUpTest :
    (
     (let s : State := dev0; (let v : Nat := 1000; decide (s.pwr.dev = .working) &&
       decide (((s.nrg.lastTest).all fun f => decide (f + s.ctlValue ctlTestInterval ≤ s.clk.frame)) = true) && decide (s.nrg.test = none) &&
       decide (s.selfTestPasses (bankRaw s.record v) = true))) &&
     (let s : State := q1; (s.nrg.test.any fun (v, f) => (decide (s.nrg.huLoad = true) && decide (f + s.record.tTest ≤ s.clk.frame)))) &&
     (let s : State := q1; (s.nrg.test.any fun (v1, f) => ((s.nrg.released.any fun g => (decide (g + 20 ≤ s.clk.frame)))))) &&
     (let s : State := dev0; (let c : Nat := 10000; decide (s.record.cCfg ≤ 4 * c) && decide (2 * c ≤ 3 * s.record.cCfg))) &&
     (let s : State := dev0; (let c : Nat := 0; decide (4 * c < s.record.cCfg ∨ 3 * s.record.cCfg < 2 * c))) &&
     (let s : State := d19; (let v : Nat := 1000; (s.nrg.invalidFrame.any fun f => (decide (s.pwr.dev = .working) &&
       decide (f + 62500 ≤ s.clk.frame) && decide (s.nrg.test = none) && decide (s.selfTestPasses (bankRaw s.record v) = true))))) &&
     (let s : State := { d19 with nrg := { d19.nrg with heldZero := true } }; (s.nrg.invalidFrame.any fun f => (decide (s.pwr.dev = .working) &&
       decide (f + 62500 ≤ s.clk.frame) && decide (s.nrg.test = none) && decide (s.nrg.heldZero = true ∧ s.dirty.all (· == 0) = true)))) &&
     (let s : State := q1; (s.nrg.test.any fun (v, f) => (decide (s.nrg.huLoad = true) && decide (f + 6266 ≤ s.clk.frame))))) = true := by decide +kernel
theorem test_witness_PowerLoss :
    (
     (let s : State := dev0; decide (s.pwr.dev ≠ .unpowered) && (let ns : Nat := 200; decide (200 ≤ ns))) &&
     (let ns : Nat := 0; decide (ns < 50)) &&
     (let s : State := dev0; decide (s.pwr.dev ≠ .unpowered) && (let ns : Nat := 50; decide (50 ≤ ns) && decide (ns < 200))) &&
     (let s : State := dev0; decide (s.pwr.dev ≠ .unpowered) && (let ns : Nat := 1000; decide (1000 ≤ ns))) &&
     (let s : State := d19; decide (s.pwr.pwrLatch = true) && decide (s.start.deepWanted = false) && decide (s.pwr.dev = .working)) &&
     (let s : State := stg 1; decide (s.pwr.pwrLatch = true) && decide (s.start.deepWanted = false) && decide (s.pwr.dev = .starting)) &&
     (let s : State := dev0; decide (s.pwr.dev ≠ .unpowered) && (let ns : Nat := 2000; decide (2000 ≤ ns))) &&
     (let x : List (List JRec) := [[.mapRecord 1 2 0]]; decide (JRec.mapRecord 1 2 0 ∈ onceDurable x 0)) &&
     (let x : List (List JRec) := List.replicate 8 [] ++ [[.mapRecord 1 2 0]]; decide (JRec.mapRecord 1 2 0 ∈ onceDurable x 8))) = true := by decide +kernel
theorem test_witness_Dumps :
    (
     (let s : State := wd; decide (s.pwr.dev = .dumping) && decide (s.pwr.dumpBegun = true) && decide (s.roundAt ≤ s.clk.frame) && decide (s.start.fault = false)) &&
     (let s : State := wd; decide (s.pwr.dev = .dumping) && decide (s.pwr.dumpBegun = true) &&
       decide (s.roundAt ≤ s.clk.frame) && decide (s.passRuns = false) &&
       decide (s.unsealedKept = false) && decide ((s.mastIds).all (fun m => decide (s.undumped m = [])) = true) &&
       decide (s.start.nssrLatched = false) && decide (s.start.deepDump = false)) &&
     (let s : State := { wd with nrg := { wd.nrg with u := List.replicate 8 1 } }; ((s.roundLuns)[0]?.any fun x => decide (x ∈ s.roundLuns))) &&
     (let s : State := wu; decide (s.pwr.dev = .dumped) && decide (s.start.fault = false) && decide (s.pwr.thermalDump = false)) &&
     (let s : State := wt 1; decide (s.pwr.dev = .dumped) && decide (s.start.fault = false) && decide (s.pwr.thermalDump = true) &&
       decide (s.pwr.thermalDumps < 3)) &&
     (let s : State := wt 3; decide (s.pwr.dev = .dumped) && decide (3 ≤ s.pwr.thermalDumps)) &&
     (let s : State := dev0; decide (s.clk.dark = false) && decide (s.pwr.dev = .working) && (let i : Nat := 16; decide (16 ≤ i) &&
       decide (i ≤ 24) && decide (s.inputOn i = true))) &&
     (let s : State := dev0; decide (s.pwr.dev = .working ∨ s.pwr.dev = .starting)) &&
     (let f : Nat := 0; decide (f ≤ 128) && (let v : Word := 0; decide (f ≠ 0 ∨ v ≠ 0x4E564D65)))) = true := by decide +kernel
theorem test_witness_PatrolAndRelocation :
    (
     (let s : State := d8; (let r : SliceReport := { seq := 1 }; decide (s.media.patrol.running = true) && decide (s.lapLeft.head? = some r.seq) &&
       decide (s.media.patrol.done < s.media.patrol.issued) && decide (s.pwr.dev = .working) && ((s.seg? r.seq).any fun g => (
       decide (s.behind (if s.media.patrol.raised then rankRaised else rankPatrol) 0 = false))))) &&
     (let s : State := d8; decide (s.media.patrol.running = true) && decide (s.media.patrol.late = false) &&
       decide (s.media.patrol.lapStart + s.lapTarget ≤ s.clk.frame)) &&
     (let s : State := d9; (let seq : Nat := 1; (let q : Nat := 0; ((s.seg? seq).any fun g => (decide (s.mayRewrite g q = true) &&
       decide (s.behind (rewriteRank g q) seq = false) && ((s.freeBlock (s.memberGlun g q)).any fun b => (true))))))) &&
     (let s : State := d10; (let seq : Nat := 1; (let q : Nat := 0; ((s.seg? seq).any fun g => (decide (s.mayRewrite g q = true) &&
       decide (s.behind (rewriteRank g q) seq = false) && decide (s.freeBlock (s.memberGlun g q) = none)))))) &&
     (let s : State := d11; (let seq : Nat := 1; ((s.seg? seq).any fun g => (decide (s.mayRefresh g = true) &&
       decide (s.behind (s.refreshRank g) seq = false) && ((s.replaceSegment seq).any fun t => (true)))))) &&
     (let s : State := d12; (let seq : Nat := 1; ((s.seg? seq).any fun g => (decide (s.mayRefresh g = true) &&
       decide (s.behind (s.refreshRank g) seq = false) && decide (s.replaceSegment seq = none))))) &&
     (let s : State := d13; (let seq : Nat := 1; ((s.seg? seq).any fun g => (decide (s.mayReplace g = true) &&
       decide (s.behind rankReplace seq = false) && ((s.replaceSegment seq).any fun t => (true)))))) &&
     (let s : State := { d13 with masts := List.replicate 8 { state := .failed } }; (let seq : Nat := 1; ((s.seg? seq).any fun g => (
       decide (s.mayReplace g = true) && decide (s.behind rankReplace seq = false) && decide (s.replaceSegment seq = none))))) &&
     (let s : State := d14; (let nsid : Nat := 3; ((s.ns? nsid).any fun n => (decide (n.conv = true) && decide (s.media.readPreserve = false) &&
       ((s.compactionPick n).any fun (g, score) => (decide (n.csegsLeft ≤ 2 ∨ s.ctlValue ctlCompaction ≤ score) &&
       decide (s.behind (compactRank n) g.seq = false) && decide (g.valid = 0))))))) &&
     (let s : State := d15; (let nsid : Nat := 3; ((s.ns? nsid).any fun n => (decide (n.conv = true) && decide (s.media.readPreserve = false) &&
       ((s.compactionPick n).any fun (g, score) => (decide (n.csegsLeft ≤ 2 ∨ s.ctlValue ctlCompaction ≤ score) &&
       decide (s.behind (compactRank n) g.seq = false) && decide (g.valid ≠ 0))))))) &&
     (let s : State := patrolD { sg1 with replace := true };
       (let s2 := s.modMedia fun m => { m with segs := m.segs ++ [{ sg1 with seq := 2, replace := true, full := true }] };
       (let seq : Nat := 2; (let q : Nat := 0; ((s2.seg? seq).any fun g => (decide (s2.behind (rewriteRank g q) seq = true) &&
       decide (s2.behind (s2.refreshRank g) seq = true) && decide (s2.behind rankReplace seq = true))))))) &&
     (let s : State := d13; ((s.media.segs)[0]?.any fun g => (decide (g ∈ s.media.segs) && decide (s.mayReplace g = true) &&
       decide (s.chooseSet g.width ≠ none) && decide (rankReplace < rankPatrol))))) = true := by decide +kernel
theorem test_witness_HostLinks :
    (
     (let s : State := dev0; decide (s.clk.dark = false) && decide (72 ∉ s.pwr.furled) && decide ((s.hostPort 0).perst = false) && (let f : Nat := 3;
       decide (f ≤ 128) && decide (s.configOpen f false = false))) &&
     (let s : State := dev0; decide (s.clk.dark = false) && decide (72 ∉ s.pwr.furled) && decide ((s.hostPort 0).perst = false) && (let f : Nat := 0;
       decide (f ≤ 128) && decide (s.configOpen f false = true))) &&
     (let f : Nat := 1; decide (f ≠ 0)) &&
     (let s : State := dev0; (let p : Nat := 0; (let r : Nat := 64; (let w : Nat := 8; decide (p < 2) && decide (s.clk.dark = false) &&
       decide ((s.hostPort p).perst = false) && decide (p ∈ s.hostPorts) && decide (s.belowFull r w = false))))) &&
     (let s : State := dev0; decide (s.clk.dark = false) && decide (s.ctlValue ctlCrowOnL2 = 1) && decide (s.pwr.armed = none) &&
       ((s.hostPorts)[0]?.any fun p => (decide (p < 2) && decide ((s.hostPort p).perst = false) && decide (p ∈ s.hostPorts)))) &&
     (let s : State := dev0; decide (s.io.ports.length = 2) && decide (s.clk.dark = false)) &&
     (let s : State := State.reset; decide ((s.hostPort 0).perst = true) && decide (s.start.fault = false)) &&
     (let p : Nat := 0; decide (p < 2)) &&
     (let s : State := wc; (let src : Nat := 0;
       decide (s.pwr.dev = .crowsNest ∨ (s.pwr.dev = .poweredDown ∧ (src = 3 ∨ src = 4 ∨ src = 5 ∨ src = 9)))))) = true := by decide +kernel
theorem test_witness_Controllers :
    (
     (let s : State := q3; (let f : Nat := 0; decide (f ≤ 128) && decide (s.configOpen f false = true) && decide ((s.ctrl f false).ccEn = false) &&
       decide ((s.fn f).queuedReset = none) && decide (f = 0 ∨ (s.fn f).state = .online))) &&
     (let s : State := dev0; (let f : Nat := 1; decide (f ≠ 0) && decide (f ≤ 128) && decide (s.configOpen f false = true) &&
       decide ((s.ctrl f false).ccEn = true))) &&
     (let s : State := dev0; (let f : Nat := 1; decide (f ≠ 0) && decide (f ≤ 128) && decide (s.configOpen f false = true))) &&
     (let s : State := dev0; (let f : Nat := 0; decide (f < s.fns.length) && decide ((s.fn f).queuedReset = none))) &&
     (let s : State := dev0; (let f : Nat := 1; decide (f < s.fns.length) && decide ((s.fn f).fn = f) && decide (f ≠ 0) &&
       decide ((s.fn f).state = .online))) &&
     (let s : State := q3; (let f : Nat := 1; decide (f ≤ 128) && decide ((s.fn f).state = .resetting) && decide ((s.fn f).draining = true) &&
       decide ((s.fn f).resetFrame + s.ctlValue ctlDrainLimit f ≤ s.clk.frame))) &&
     (let s : State := q3; (let f : Nat := 1; decide (f ≤ 128) && decide ((s.fn f).state = .resetting) &&
       decide ((s.io.cmds).all (fun c => decide (c.fn ≠ f)) = true) &&
       decide ((s.io.reqs).all (fun r => decide (r.fn = f → r.retiredUntil ≠ none)) = true) &&
       decide ((s.pool.bufs).all (fun b => decide (b.fn = f → b.state ≠ .zeroing)) = true))) &&
     (let s : State := dev0; (let n : Nat := 1; decide (n ≤ 128) &&
       decide ((s.fns).all (fun f => decide (f.fn ≠ 0 → n < f.fn → f.state = .offline ∧ f.expert = false)) = true)))) = true := by decide +kernel
theorem test_witness_ClearVfs :
    (
     (let s : State := dev0.modFn 3 fun f => { f with expert := true };
       decide ((List.range s.fns.length).all (fun i => (s.fn i).fn == i) = true) &&
       decide (1 < s.fns.length ∧ 1 ≠ 0 ∧ (s.fn 1).state ≠ .offline) && decide ((s.fn 3).state = .offline ∧ (s.fn 3).expert = true) &&
       decide (3 < s.fns.length ∧ 4 < s.fns.length ∧ (s.fn 4).state = .offline ∧ (s.fn 4).expert = false))) = true := by decide +kernel
theorem test_witness_Doorbells :
    (
     (let s : State := dev0; (let f : Nat := 0; decide (f ≤ 128) && decide (s.configOpen f false = true) && decide ((s.ctrl f false).ccEn = true) &&
       (let q : Nat := 0; (((s.ctrl f false).sqs.find? (fun y => y.qid == q)).any fun x => ((let t : Nat := 0; decide (t < x.size))))))) &&
     (let s : State := dev0; (let f : Nat := 0; decide (f ≤ 128) && decide (s.configOpen f false = true) && decide ((s.ctrl f false).ccEn = true) &&
       (let q : Nat := 0; (((s.ctrl f false).sqs.find? (fun y => y.qid == q)).any fun x => ((let t : Nat := 127; decide (x.size ≤ t))))))) &&
     (let s : State := dev0; (let f : Nat := 0; decide (f ≤ 128) && decide (s.configOpen f false = true) && decide ((s.ctrl f false).ccEn = true) &&
       (let q : Nat := 0; (((s.ctrl f false).cqs.find? (fun y => y.qid == q)).any fun x => ((let h : Nat := 0; decide (h < x.size) &&
       decide ((h + x.size - x.head) % max 1 x.size ≤ x.entries.length))))))) &&
     (let s : State := dev0; (let f : Nat := 0; decide (f ≤ 128) && decide (s.configOpen f false = true) && decide ((s.ctrl f false).ccEn = true) &&
       (let q : Nat := 2; decide ((s.ctrl f false).cqs.find? (fun y => y.qid == q) = none)))) &&
     (let s : State := q2; (s.fetchTurn.any fun (f, q, p1) => (true))) &&
     (let s : State := dev0; (let f : Nat := 1; decide (f ≠ 0) && decide (f < s.fns.length) && (let code : Nat := 0; (let q : Nat := 0;
       ((((s.dmaFailed { req := 0, fn := f, port1 := false, what := .sqFetch q, issued := s.clk.frame } code).ctrl f false).sqs)[0]?.any fun x => (
       decide (x ∈ ((s.dmaFailed { req := 0, fn := f, port1 := false, what := .sqFetch q, issued := s.clk.frame } code).ctrl f false).sqs) &&
       decide (x.qid = q)))))))) = true := by decide +kernel
theorem test_witness_Requests :
    (
     (let s : State := q2; (let q : Nat := 1; ((s.io.reqs.find? (fun x => x.req == q)).any fun r => (decide (r.retiredUntil = none) &&
       decide (r.port1 = false) && decide (r.issued + timeoutOf (s.hostPort 0).cto ≤ s.clk.frame) && decide (s.paused r.fn false = false))))) &&
     (let s : State := d16; (let q : Nat := 1; ((s.io.reqs.find? (fun x => x.req == q)).any fun r => (decide (r.retiredUntil = none) &&
       decide (r.port1 = false) && decide (r.issued + timeoutOf (s.hostPort 0).cto ≤ s.clk.frame) && decide (s.paused r.fn false = true))))) &&
     (let s : State := q2; (let q : Nat := 2; ((s.io.reqs.find? (fun x => x.req == q)).any fun r => (decide (r.what = .readBack) &&
       decide (r.retiredUntil = none) && ((s.cmd? r.cmd).any fun c => (true)))))) &&
     (let s : State := dev0; (let f : Nat := 0; decide (f ≤ 128) && decide (s.configOpen f false = true))) &&
     (let s : State := q3; (let f : Nat := 0; decide (f ≤ 128) && decide (s.configOpen f false = true) && decide ((s.ctrl f false).pBme = true))) &&
     (let s : State := dev0; decide (s.clk.dark = false) && ((s.hostPorts)[0]?.any fun p => (decide (p < 2) &&
       decide ((s.hostPort p).perst = false) && decide (p ∈ s.hostPorts)))) &&
     (let s : State := q3; (let f : Nat := 0; decide (f ≤ 128) && (let p1 : Bool := false; decide (p1 = true → f = 0) &&
       decide (s.drained f p1 = true)))) &&
     (let s : State := q3; (let p : Nat := 0; decide ((s.hostPort p).pmeOff = true) && decide ((s.hostPort p).acked = false) &&
       decide ((portFns p).all (fun x => decide (s.drained x.1 x.2 = true)) = true))) &&
     (let s : State := q2; (let f : Nat := 0; decide (f ≤ 128) && (let v : Nat := 0; (let frame : Nat := 5;
       decide ((v, frame) ∈ (s.ctrl f false).coalesce) && decide (frame ≤ s.clk.frame))))) &&
     (let s : State := dev0; (let f : Nat := 0; decide (f ≤ 128) && decide (s.barOpen f false = true))) &&
     (let s : State := dev0; (let f : Nat := 1; decide (f ≤ 128) && decide (s.barOpen f false = true) && decide (f ≠ 0) &&
       decide (f < s.fns.length) && (let v : Nat := 0; decide (v ∉ (s.ctrl f false).pba))))) = true := by decide +kernel
theorem test_witness_KeyStore :
    (
     (let s : State := q1; (let n : Nat := 1; decide ((s.slot n).state = .draining) && decide (s.refCount n = 0))) &&
     (let s : State := q1; (let n : Nat := 1; decide ((s.slot n).state = .draining) && decide (s.refCount n = 0) &&
       decide ((s.slot n).newKey = none))) &&
     (let s : State := q1; (let n : Nat := 2; decide ((s.slot n).state = .draining) && decide (s.refCount n = 0) &&
       (((s.slot n).newKey).any fun k => (true)))) &&
     (let s : State := q1; decide ((s.journal 8).staged = []) && (let m : Nat := 2; decide (m < 8) && decide ((s.mast m).state = .active) &&
       decide ((s.mast m).iv = []) && (let ref : Nat := 1; decide (s.keys.register.any (fun e => e.number == ref) = true) && decide (ref ≠ 0) &&
       decide ((s.keyRef ref).high < (s.keyRef ref).limit) && decide (s.refLimited ref = false)))) &&
     (let s : State := q1; decide (1048576 ≤ s.keys.requests)) &&
     (let s : State := dev0; decide (s.keys.requests < 1048576)) &&
     (let s : State := dev0; (let m : Nat := 0; decide (m < 8) && decide ((s.mast m).state = .active))) &&
     (let s : State := rdS arr0; (let id : Nat := 1; (let i : Nat := 0; ((s.cmd? id).any fun c => (((c.blocks[i]?).any fun b => (
       decide (c.phase = .running) && decide (b.phase = 0) && decide (b.cipher = 0) && ((s.opener b.glun).any fun m => decide (s.opener b.glun ≠ some (m + 1)))))))))) &&
     (let s : State := dev0; decide (s.peer.jobs = []))) = true := by decide +kernel
theorem test_witness_FixityJobs :
    (
     (let s : State := q1; (let n : Nat := 1; ((s.fix.jobs.find? (fun j => j.job == n && !j.ended)).any fun j => (decide (j.kind = .treeCheck) &&
       decide (s.jobChanged j = none))))) &&
     (let s : State := q1; (let n : Nat := 5; ((s.fix.jobs.find? (fun j => j.job == n && !j.ended)).any fun j => (
       decide (j.kind = .treeCheck ∨ j.kind = .zoneAttestation) && ((s.jobChanged j).any fun zi => (true)))))) &&
     (let s : State := q1; (let n : Nat := 2; ((s.fix.jobs.find? (fun j => j.job == n && !j.ended)).any fun j => (
       decide (j.kind = .rangeDigest ∨ j.kind = .rangeAttestation))))) &&
     (let s : State := q1; (let n : Nat := 3; ((s.fix.jobs.find? (fun j => j.job == n && !j.ended)).any fun j => (decide (j.kind = .keyBinding) &&
       decide (s.signer 2 j.signSlot = none))))) &&
     (let s : State := q1; (let n : Nat := 1; ((s.fix.jobs.find? (fun j => j.job == n && !j.ended)).any fun j => (true))))) = true := by decide +kernel
theorem test_witness_RingRegisters :
    (
     (let s : State := dev0; (let f : Nat := 0; decide (f ≤ 128) && (let r : Nat := 0; decide (r < 2) && decide (s.hasRing f r = true) &&
       decide ((s.ring f r).enabled = false) && (let sz : Nat := 0; decide (sz ≤ 8) && (let v : Nat := 0;
       decide (v < s.vectors f (s.ringPort1 f r))))))) &&
     (let s : State := dev0; (let f : Nat := 0; decide (f ≤ 128) && (let r : Nat := 0; decide (r < 2) && decide (s.hasRing f r = true) &&
       (let sz : Nat := 0; (let v : Nat := 127;
       decide (8 < sz ∨ s.vectors f (s.ringPort1 f r) ≤ v ∨ ((s.ring f r).enabled = true ∧ sz ≠ (s.ring f r).sizeCode))))))) &&
     (let s : State := dev0; (let f : Nat := 0; decide (f ≤ 128) && (let r : Nat := 0; decide (r < 2) && decide (s.hasRing f r = true) &&
       (let sz : Nat := 0; decide (sz ≤ 8) && decide ((s.ring f r).enabled = true → sz = (s.ring f r).sizeCode) && (let v : Nat := 0;
       decide (v < s.vectors f (s.ringPort1 f r))))))) &&
     (let s : State := dev0; (let f : Nat := 0; decide (f ≤ 128) && (let r : Nat := 0; decide (r < 2) && decide (s.hasRing f r = true) &&
       decide ((s.ring f r).enabled = false)))) &&
     (let s : State := dev0; (let f : Nat := 0; decide (f ≤ 128) && (let r : Nat := 0; decide (r < 2) && decide (s.hasRing f r = true) &&
       (let h : Nat := 0; decide (h < 128 * 2 ^ (s.ring f r).sizeCode))))) &&
     (let s : State := dev0; (let f : Nat := 0; decide (f ≤ 128) && (let r : Nat := 0; decide (r < 2) && decide (s.hasRing f r = true)))) &&
     (let s : State := dev0; decide (s.clk.dark = false) && (let f : Nat := 0; decide (f ≤ 128) && (let r : Nat := 0; decide (r < 2))))) = true := by decide +kernel
theorem test_witness_WindowAccesses :
    (
     (let s : State := dev0; (let f : Nat := 0; decide (f ≤ 128) && decide (s.barOpen f false = true))) &&
     (let s : State := dev0; (let f : Nat := 0; decide (f ≤ 128) && decide (s.barOpen f false = true) && (let b : Nat := 0; decide (b ≠ 32) &&
       decide (b ≠ 64)))) &&
     (let s : State := dev0; (let f : Nat := 0; decide (f ≤ 128) && decide (s.barOpen f false = true))) &&
     (let s : State := dev0; (let f : Nat := 0; decide (f ≤ 128) && decide (s.barOpen f false = true) && (let mb : Nat := 0; decide (mb < 4) &&
       decide (s.hasBox f false mb = true)))) &&
     (let w : Nat := 1; decide (bit w 0 = true) && (let b : Mbx := { via := .mctp, busy := true }; decide (b.busy = true))) &&
     (let s : State := dev0; (let o : Nat := 0x600; decide (s.barOpen 0 false = true) && decide (o < 0x1000) && decide (o % 4 = 0) &&
       decide (0x400 ≤ o) && decide (expertReg o = true) && decide ((s.fn 0).expert = false))) &&
     (let s : State := dev0; (let f : Nat := 0; decide (f ≤ 128) && decide (s.barOpen f false = true) && (let o : Nat := 1; decide (o < 0x1000) &&
       decide (o % 4 ≠ 0)))) &&
     (let s : State := dev0; (let f : Nat := 0; decide (f ≤ 128) && decide (s.barOpen f false = true) && (let o : Nat := 0;
       decide (o = 0 ∨ o = 4 ∨ o = 8 ∨ o = 0x100) && decide (f ≠ 0 ∨ expertReg o = false))))) = true := by decide +kernel
theorem test_witness_JtagPort :
    (
     (let s : State := dev0; decide (s.pwr.dev ≠ .unpowered)) &&
     (let s : State := dev0; decide (s.pwr.dev ≠ .unpowered)) &&
     (let s : State := dev0; decide (s.pwr.dev ≠ .unpowered)) &&
     (let s : State := dev0; decide (s.pwr.dev ≠ .unpowered)) &&
     (let s : State := dev0; decide (s.pwr.dev ≠ .unpowered)) &&
     (let s : State := dev0; decide (s.pwr.dev ≠ .unpowered)) &&
     (let s : State := dev0; decide (s.pwr.dev ≠ .unpowered) && decide (s.start.released = true)) &&
     (let s : State := State.reset; decide (s.pwr.dev ≠ .unpowered) && decide (s.start.released = false))) = true := by decide +kernel
theorem test_witness_SidebandAndLeds :
    (
     (let s : State := dev0; decide (s.pwr.dev ≠ .unpowered)) &&
     (let s : State := q1; (s.side.dynamic.any fun a => (true))) &&
     (let s : State := dev0; decide (s.side.dynamic = none)) &&
     (let s : State := State.reset; decide (s.pwr.dev ≠ .working)) &&
     (let s : State := dev0; decide (s.pwr.dev = .working) && decide (s.io.cmds = []) && decide (s.io.submitted = [])) &&
     (let s : State := q2; decide (s.pwr.dev = .working) && decide (s.io.cmds ≠ [])) &&
     (let s : State := wu; decide (s.start.fault = true ∨ s.pwr.dev = .dumped)) &&
     (let s : State := q1; decide (s.start.fault = false) && decide (s.pwr.dev ≠ .dumped) && decide (s.media.readPreserve = true))) = true := by decide +kernel
theorem test_witness_BufferPool :
    (
     (let s : State := dev0; (let n : Nat := 0; decide (n < 1835008) && decide (n < poolSize s.variant) && decide ((s.pool.buf n).state = .free) &&
       (let e : Nat := 0; decide (e < 17) && (let c : BufClass := .writeRows; (let f : Nat := 0; decide (s.grantRoom c f = true)))))) &&
     (let s : State := d16; (let c : BufClass := .mailbox; (let n : Nat := 5; (let e : Nat := 0; decide (n < 1835008) &&
       decide (n < poolSize s.variant) && decide (e < 17) && decide ((s.pool.buf n).state = .free) && (let f : Nat := 0; decide (s.grantRoom c f = false)))))) &&
     (let s : State := q1; (let n : Nat := 0; decide (n < 1835008) && decide ((s.pool.buf n).state = .held) &&
       decide ((s.pool.buf n).holders.length < 4) && (let e : Nat := 1; decide (e < 17) && decide (e ∉ (s.pool.buf n).holders)))) &&
     (let s : State := q1; (let n : Nat := 0; decide (n < 1835008) && decide ((s.pool.buf n).state = .held) &&
       (((s.pool.buf n).holders)[0]?.any fun e => (decide (e < 17) && decide (e ∈ (s.pool.buf n).holders))))) &&
     (let s : State := dev0; (let n : Nat := 0; decide (n < 1835008) && (let e : Nat := 0; decide (e < 17) &&
       decide ((s.pool.buf n).state ≠ .held ∨ e ∉ (s.pool.buf n).holders)))) &&
     (let s : State := q1; decide (s.pool.waiting = []) && (let n : Nat := 1; decide (n < 1835008) && decide ((s.pool.buf n).state = .zeroing)))) = true := by decide +kernel
theorem test_witness_TableCache :
    (
     (let s : State := dev0; (let m : Nat := 0; decide (m < 8) && decide ((s.mast m).state = .active) && (let line : Nat := 0;
       decide (line < 33554432)))) &&
     (let line : Nat := 0; (let c : Cache := { lines := [{ set := 0, way := 0, tag := 0 }], evict := [(1, true), (2, true)] };
       ((c.find line).any fun l => (true)))) &&
     (let s : State := dev0; (let m : Nat := 0; decide (m < 8) && decide ((s.mast m).state = .active))) &&
     (let c : Cache := { lines := [{ set := 0, way := 0, tag := 0 }], evict := [(1, true), (2, true)] };
       (headAnd c.evict fun a l_ => headAnd l_ fun b rest => (true))) &&
     (let s : State := dev0; (let m : Nat := 0; decide (m < 8) && decide ((s.mast m).state = .active) && (let a : Nat := 0; decide (a < 33554432) &&
       (let b : Nat := 0; decide (b < 33554432))))) &&
     (let s : State := dev0; (let m : Nat := 0; decide (m < 8) && decide ((s.mast m).state = .active) && (let set : Nat := 0; decide (set < 4096) &&
       (let way : Nat := 0; decide (way < 16))))) &&
     (let r : Bool := false; (let a : Nat := 0; (let b : Nat := 0;
       (let c : Cache := { lines := [{ set := 0, way := 0, tag := 0 }], evict := [(1, true), (2, true)] }; (((c.clean r a b).lines)[0]?.any fun l => (
       decide (l ∈ (c.clean r a b).lines) && decide (l.covered r a b = true))))))) &&
     (let r : Bool := false; (let a : Nat := 0; (let b : Nat := 1;
       (let c : Cache := { lines := [{ set := 0, way := 0, tag := 0 }], evict := [(1, true), (2, true)] };
       (((c.flush r a b true).lines)[0]?.any fun l => (decide (l ∈ (c.flush r a b true).lines))))))) &&
     (let c : Cache := { lines := [{ set := 0, way := 0, tag := 0, locked := true }] }; (let r : Bool := true; (let a : Nat := 0;
       (let b : Nat := 100; (((c.flush r a b false).lines)[0]?.any fun l => (decide (l ∈ (c.flush r a b false).lines) &&
       decide (l.covered r a b = true))))))) &&
     (let s : State := q1; (let m : Nat := 2; decide (m < 8) && decide ((s.mast m).state = .active) && (let g : Nat := 0; decide (g < 16) &&
       (let w : Nat := 0; decide (w < 16) && decide (s.wayDue m g w = true))))) &&
     (let s : State := State.reset; (let m : Nat := 0; decide (m < 8) && decide ((s.mast m).state ≠ .active) && (let line : Nat := 0;
       decide (line < 33554432))))) = true := by decide +kernel
theorem test_witness_Throttle :
    (
     (let s : State := dev0; decide (s.clk.dark = false) && decide (s.therm.lastSample + 256 ≤ s.clk.frame)) &&
     (let s : State := d16; decide (s.clk.frame < s.therm.lastSample + 256) && ((s.therm.inputs)[0]?.any fun i => (decide (i ∈ s.therm.inputs) &&
       decide (i.sampled = true)))) &&
     (let s : State := dev0; (let i : Nat := 24; decide (i < s.therm.inputs.length) && decide (s.inputOn i = true))) &&
     (let s : State := dev0; (let i : Nat := 16; decide (i < s.therm.inputs.length) && decide (s.inputOn i = true) && decide (16 ≤ i) &&
       (let raw : Int := 0; decide (-880 ≤ raw) && decide (raw ≤ 2400)))) &&
     (let cool : List Nat := [8, 8, 8, 8]; (let t : Int := 0; decide ((List.range 4).all (fun k => decide (8 ≤ cool.getD k 0)) = true))) &&
     (let k : Nat := 1; decide (1 ≤ k) && decide (k ≤ 4)) &&
     (let s : State := q1; (s.therm.grace.any fun f => (decide (f + 62500 * s.ctlValue ctlGrace ≤ s.clk.frame) && decide (0 < s.therm.stage) &&
       decide (s.therm.enforced = false))))) = true := by decide +kernel
theorem test_witness_PowerCorrection :
    (
     (let s : State := q2; decide (((s.pwr.lastHalving).all fun f => decide (f + 64 ≤ s.clk.frame)) = true) && decide (64 ≤ s.pwr.watts.length) &&
       decide (64 * capOf s.reef < s.wattSum)) &&
     (let s : State := dev0; decide (s.wattSum ≤ 64 * capOf s.reef)) &&
     (let s : State := q2; decide (4096 ≤ s.pwr.coolFrames) && decide (0 < s.pwr.halvings)) &&
     (let s : State := wc; (let b : Nat := 1000; (let v : Nat := 2000; decide (s.pwr.dev = .crowsNest) && decide (s.clk.aonRuns = true) &&
       decide (s.pwr.watched = []) && decide (s.record.vMin + s.ctlValue ctlBankMargin ≤ bankRaw s.record b) && decide (s.ctlValue ctlVinLow ≤ v) &&
       decide (v ≤ s.ctlValue ctlVinHigh)))) &&
     (let s : State := d17; decide (s.pwr.dev = .crowsNest) && decide (s.media.patrol.running = true) &&
       decide ((s.pwr.armed.all fun k => decide (s.media.patrol.batchTick ≤ s.pwr.sampleTick + 32768 * k)) = true)) &&
     (let s : State := { d17 with pwr := { d17.pwr with armed := some 0 }, media := { d17.media with patrol := { d17.media.patrol with batchTick := 1 } } };
       (s.pwr.armed.any fun k => decide (s.pwr.sampleTick + 32768 * k < s.media.patrol.batchTick)))) = true := by decide +kernel
theorem test_witness_FurlEntries :
    (
     (let m : Nat := 0; decide (m < 8)) &&
     (let p : Nat := 0; decide (p < 32)) &&
     (let p : Nat := 0; decide (p < 3)) &&
     (let p : Nat := 0; decide (p < 2)) &&
     (let s : State := dev0; decide (s.pwr.dev = .working) && (let k : EntryKind := .mast 0; decide (s.causeStands k = true) &&
       decide ((s.pwr.entries).all (fun e => decide (e.kind ≠ k)) = true) && decide (k ≠ .crowsNest) && ((s.entryDomains k)[0]?.any fun d => (
       decide (d ∈ s.entryDomains k) && decide (s.domainOff d = false))))) &&
     (let s : State := d18; (let d : Nat := 0; decide (s.pwr.dev = .working) && decide (s.causeStands .crowsNest = true) &&
       decide (d ∈ s.entryDomains .crowsNest) && decide (s.domainOff d = false) &&
       decide ((s.pwr.entries).all (fun e => decide (e.kind ≠ .crowsNest)) = true))) &&
     (let s : State := dev0; (let k : EntryKind := .port 0; decide (s.pwr.dev ≠ .working ∨ s.causeStands k = false))) &&
     (let s : State := q2; (let n : Nat := 0; ((s.pwr.holdOff[n]?).any fun (k, f) => (decide (f + s.ctlValue ctlHoldOff ≤ s.clk.frame) &&
       decide ((s.pwr.entries).all (fun e => decide (e.kind ≠ k)) = true))))) &&
     (let s : State := q2; (s.pwr.wokenBy.any fun src => (true))) &&
     (let s : State := q3; (let n : Nat := 0; ((s.pwr.entries[n]?).any fun e => ((e.asked.any fun g => (decide (e.waking = false) &&
       decide (g + s.ctlValue ctlHandshake ≤ s.clk.frame)))))))) = true := by decide +kernel
theorem test_witness_WakeAndShutdown :
    (
     (let s : State := q2; decide (s.pwr.dev = .working) && decide (s.pwr.entries = []) && ((s.pwr.furled)[9]?.any fun d => (decide (72 ≤ d) &&
       decide (d < 80) && decide (d ∈ s.pwr.furled) && (let c : Nat := 1; decide (1 ≤ c) && decide (c ≤ 12))))) &&
     (let s : State := q2; decide (s.pwr.dev = .working) && decide (s.pwr.entries = []) && ((s.pwr.furled)[0]?.any fun d => (decide (d < 72) &&
       decide (d / 9 < s.mastN) && decide (d ∈ s.pwr.furled) && decide ((s.mast (d / 9)).state = .furled) && (let c : Nat := 1; decide (1 ≤ c) &&
       decide (c ≤ 12))))) &&
     (let s : State := d16; (let d : Nat := 75; decide (72 ≤ d) && decide (d < 80) && decide (s.pwr.dev = .working) &&
       ((s.pwr.entries)[0]?.any fun e => (decide (s.pwr.entries = [e]) && decide (e.waking = false) && decide (d ∈ s.entryDomains e.kind))))) &&
     (let s : State := dev0; decide (s.pwr.dev = .working) && decide ((s.fn 0).ctrl.ccEn = true) && decide ((s.fn 0).ctrl.shst = 0)) &&
     (let s : State := dev0; decide (s.io.cmds = [])) &&
     (let s : State := dev0; decide (s.pwr.dev = .working) && (let f : Nat := 1; decide (f ≠ 0) && decide (f ≤ 128) &&
       decide ((s.fn f).ctrl.ccEn = true) && decide ((s.fn f).ctrl.shst = 0) && decide ((s.io.cmds).all (fun c => decide (c.fn ≠ f)) = true)))) = true := by decide +kernel
theorem test_witness_StartUpStages :
    (
     (let s : State := stg 3; decide (s.inStage 3 = true)) &&
     (let s : State := stg 4; decide (s.inStage 4 = true)) &&
     (let s : State := { stg 5 with obj := { dev0.obj with drive := some rec5 } }; decide (s.inStage 5 = true) && (s.obj.drive.any fun d => ((s.obj.media.any fun m => (decide (s.obj.nextDrive = none) &&
       decide (s.obj.nextMedia = none) && decide (recordOk d = true) && decide (s.profileOk m = true)))))) &&
     (let s : State := stg2; decide (s.inStage 5 = true) && decide (s.obj.drive = none) && decide (s.obj.nextDrive = none)) &&
     (let s : State := stg 6; decide (s.inStage 6 = true) && decide (s.masts.length = 8)) &&
     (let s : State := stg 7; decide (s.inStage 7 = true)) &&
     (let s : State := stg 7; decide (s.inStage 7 = true)) &&
     (let s : State := dev0; ((s.becomeReady.fns)[0]?.any fun f => (decide (f ∈ s.becomeReady.fns)))) &&
     (let s : State := stg 1; decide (s.pwr.dev = .starting) && decide (s.clk.dark = false) && decide (s.start.failed = false) &&
       decide (s.start.fault = false) && decide (s.start.sanitize = none) && decide (s.start.begin + s.startLimit ≤ s.clk.frame) &&
       decide (s.start.expiries = 0)) &&
     (let s : State := stg2; decide (s.pwr.dev = .starting) && decide (s.clk.dark = false) && decide (s.start.failed = false) &&
       decide (s.start.fault = false) && decide (s.start.sanitize = none) && decide (s.start.begin + s.startLimit ≤ s.clk.frame) &&
       decide (s.start.expiries ≠ 0))) = true := by decide +kernel
theorem test_witness_NvmeEntriesFetched :
    (
     (let op : Instr := .read hdr1 ex1; ((nvmeHdr op).any fun h => (true))) &&
     (let op : Instr := .read { hdr1 with hops := 1 } ex1; ((nvmeHdr op).any fun h => (decide (0 < h.hops)))) &&
     (let s : State := dev0; decide (s.io.reqs.length < tagLimit) && (let op : Instr := .read { hdr1 with hops := 1 } ex1;
       ((nvmeHdr op).any fun h => (decide (0 < h.hops))))) &&
     (let op : Instr := .read hdr1 ex1; ((nvmeHdr op).any fun h => (decide (0 < h.hops ∨ h.chainBad = false)))) &&
     (let s : State := q2; (let id : Nat := 1; ((s.cmd? id).any fun c => (decide (s.delays c = false) && decide (s.paused c.fn c.port1 = false) &&
       decide (c.fields = []) && decide (c.fn < s.fns.length) && (((s.ctrl c.fn c.port1).sqs.find? (fun x => x.qid == c.sq)).any fun q => (
       (((s.ctrl c.fn c.port1).cqs.find? (fun x => x.qid == q.cq)).any fun k => (true)))))))) &&
     (let s : State := q2; (let id : Nat := 4; ((s.cmd? id).any fun c => (decide (s.delays c = false) && decide (s.paused c.fn c.port1 = false) &&
       decide (c.fields ≠ []) && decide (c.delivered = false)))))) = true := by decide +kernel
theorem test_witness_ZoneManagement_1 :
    (
     (let s : State := dev0; (let h : NvmeHdr := { fn := 0, sq := 1, cid := 1, nsid := 1 }; (let slba : Nat := 0;
       (let c : Cmd := mkCmd 0 1 (.closeZone h slba false); (okAnd (s.zonedNs c) fun n => ((okAnd (s.zoneAt n slba) fun zi => (
       decide (c.op = .closeZone h slba false))))))))) &&
     (let s : State := dev0; (let h : NvmeHdr := { fn := 0, sq := 1, cid := 1, nsid := 1 }; (let slba : Nat := 0;
       (let c : Cmd := mkCmd 0 1 (.openZone h slba false); (okAnd (s.zonedNs c) fun n => ((okAnd (s.zoneAt n slba) fun zi => (
       decide (c.op = .openZone h slba false))))))))) &&
     (let s : State := dev0; (let h : NvmeHdr := { fn := 0, sq := 1, cid := 1, nsid := 1 }; (let slba : Nat := 0;
       (let c : Cmd := mkCmd 0 1 (.finishZone h slba false); (okAnd (s.zonedNs c) fun n => ((okAnd (s.zoneAt n slba) fun zi => (
       decide (c.op = .finishZone h slba false))))))))) &&
     (let s : State := dev0; (let h : NvmeHdr := { fn := 0, sq := 1, cid := 1, nsid := 1 }; (let slba : Nat := 0;
       (let c : Cmd := mkCmd 0 1 (.resetZone h slba false); (okAnd (s.zonedNs c) fun n => ((okAnd (s.zoneAt n slba) fun zi => (
       decide (c.op = .resetZone h slba false))))))))) &&
     (let s : State := dev0; (let h : NvmeHdr := { fn := 0, sq := 1, cid := 1, nsid := 1 }; (let slba : Nat := 0;
       (let c : Cmd := mkCmd 0 1 (.offlineZone h slba false); (okAnd (s.zonedNs c) fun n => ((okAnd (s.zoneAt n slba) fun zi => (
       decide (c.op = .offlineZone h slba false))))))))) &&
     (let s : State := dev0; (let h : NvmeHdr := { fn := 0, sq := 1, cid := 1, nsid := 1 }; (let slba : Nat := 0;
       (let c : Cmd := mkCmd 0 1 (.closeZone h slba true); (okAnd (s.zonedNs c) fun n => (decide (c.op = .closeZone h slba true))))))) &&
     (let s : State := dev0; (let h : NvmeHdr := { fn := 0, sq := 1, cid := 1, nsid := 1 }; (let slba : Nat := 0;
       (let c : Cmd := mkCmd 0 1 (.openZone h slba true); (okAnd (s.zonedNs c) fun n => (decide (c.op = .openZone h slba true))))))) &&
     (let s : State := dev0; (let h : NvmeHdr := { fn := 0, sq := 1, cid := 1, nsid := 1 }; (let slba : Nat := 0;
       (let c : Cmd := mkCmd 0 1 (.finishZone h slba true); (okAnd (s.zonedNs c) fun n => (decide (c.op = .finishZone h slba true))))))) &&
     (let s : State := dev0; (let h : NvmeHdr := { fn := 0, sq := 1, cid := 1, nsid := 1 }; (let slba : Nat := 0;
       (let c : Cmd := mkCmd 0 1 (.offlineZone h slba true); (okAnd (s.zonedNs c) fun n => (decide (c.op = .offlineZone h slba true))))))) &&
     (let s : State := dev0; (let h : NvmeHdr := { fn := 0, sq := 1, cid := 1, nsid := 1 }; (let slba : Nat := 0;
       (let c : Cmd := mkCmd 0 1 (.resetZone h slba true); (okAnd (s.zonedNs c) fun n => (decide (c.op = .resetZone h slba true))))))) &&
     (let s : State := dev0; ((s.nss)[0]?.any fun n => (decide (s.ns? n.nsid = some n) && (let zi : Nat := 1;
       decide ((n.zone zi).state.isOpen = true))))) &&
     (let s : State := dev0; ((s.nss)[0]?.any fun n => (decide (s.ns? n.nsid = some n) && (let zi : Nat := 0;
       decide ((n.zone zi).state = .empty ∨ (n.zone zi).state.active = true))))) &&
     (let s : State := dev0; ((s.nss)[0]?.any fun n => (decide (s.ns? n.nsid = some n) && (let zi : Nat := 1;
       decide ((n.zone zi).state = .empty ∨ (n.zone zi).state.active = true) && decide ((n.zone zi).state ≠ .empty))))) &&
     (let s : State := dev0; ((s.nss)[0]?.any fun n => (decide (s.ns? n.nsid = some n) && (let zi : Nat := 1;
       decide ((n.zone zi).state.active = true ∨ (n.zone zi).state = .full))))) &&
     (let s : State := dev0; ((s.nss)[0]?.any fun n => (decide (s.ns? n.nsid = some n) && (let zi : Nat := 4;
       decide ((n.zone zi).state = .readOnly)))))) = true := by decide +kernel
theorem test_witness_ZoneManagement_2 :
    (
     (let s : State := dev0; ((s.nss)[0]?.any fun n => (decide (s.ns? n.nsid = some n) && (let zi : Nat := 0; decide ((n.zone zi).state = .empty))))) &&
     (let s : State := dev0; ((s.nss)[0]?.any fun n => (decide (s.ns? n.nsid = some n) && (let zi : Nat := 3; decide ((n.zone zi).state = .full))))) &&
     (let s : State := dev0; ((s.nss)[0]?.any fun n => (decide (s.ns? n.nsid = some n) && (let zi : Nat := 5;
       decide ((n.zone zi).state = .offline))))) &&
     (let s : State := dev0; ((s.nss)[0]?.any fun n => (decide (s.ns? n.nsid = some n) && (let zi : Nat := 1; decide ((n.zone zi).state ≠ .empty) &&
       decide ((n.zone zi).state ≠ .offline))))) &&
     (let s : State := d7; (let n : Namespace := (dev0.ns? 1).getD default; (let zi : Nat := 2; (let into : ZoneState := .empty;
       decide (s.ns? n.nsid = some n) && decide ((n.zone zi).state ≠ .empty) && decide ((n.zone zi).state ≠ .offline) &&
       (((s.commitRelease n.nsid zi (n.zone zi).gen into).media.blocks)[0]?.any fun b => (
       decide (b ∈ (s.commitRelease n.nsid zi (n.zone zi).gen into).media.blocks) && decide (b.nsid = n.nsid))))))) &&
     (let s : State := (d7.modMedia fun m => { m with ledger := [{ nsid := 1, lba := 262144, count := 1, gen := 1, cause := 0, foundBy := 2, fn := 255, poc := 0, frame := 0, utc := 0 }] });
       (let n : Namespace := (dev0.ns? 1).getD default; (let zi : Nat := 2; (let into : ZoneState := .empty; decide (s.ns? n.nsid = some n) &&
       decide ((n.zone zi).state ≠ .empty) && decide ((n.zone zi).state ≠ .offline) &&
       (((s.commitRelease n.nsid zi (n.zone zi).gen into).media.ledger)[0]?.any fun e => (
       decide (e ∈ (s.commitRelease n.nsid zi (n.zone zi).gen into).media.ledger) && decide (e.nsid = n.nsid))))))) &&
     (let s : State := dev0; ((s.nss)[0]?.any fun n => (decide (s.ns? n.nsid = some n) && decide (n.openZones < n.open_) && (let zi : Nat := 1;
       decide ((n.zone zi).state = .implicitOpen ∨ (n.zone zi).state = .closed))))) &&
     (let s : State := (dev0.modNs 1 fun n => { n with open_ := 1 });
       (let n : Namespace := ((dev0.modNs 1 fun n => { n with open_ := 1 }).ns? 1).getD default; (let zi : Nat := 2;
       decide (s.ns? n.nsid = some n) && decide ((n.zone zi).state = .closed) && decide (n.open_ ≤ n.openZones)))) &&
     (let s : State := dev0; ((s.nss)[0]?.any fun n => (decide (s.ns? n.nsid = some n) && (let zi : Nat := 0; decide ((n.zone zi).state ≠ .closed) &&
       decide ((n.zone zi).state.isOpen = false))))) &&
     (let s : State := dev0; ((s.nss)[0]?.any fun n => (decide (s.ns? n.nsid = some n) && (let zi : Nat := 4;
       decide ((n.zone zi).state = .readOnly ∨ (n.zone zi).state = .offline))))) &&
     (let s : State := dev0; ((s.nss)[0]?.any fun n => (decide (s.ns? n.nsid = some n) && (let zi : Nat := 0;
       decide ((n.zone zi).state ≠ .readOnly) && decide ((n.zone zi).state ≠ .offline))))) &&
     (let s : State := dev0; ((s.nss)[0]?.any fun n => (decide (s.ns? n.nsid = some n) && (let zi : Nat := 3;
       decide ((n.zone zi).state = .full ∨ (n.zone zi).state = .readOnly ∨ (n.zone zi).state = .offline)))))) = true := by decide +kernel
theorem test_witness_ZoneManagement_3 :
    (
     (let s : State := (dev0.modNs 1 fun n => { n with open_ := 1 });
       (let n : Namespace := ((dev0.modNs 1 fun n => { n with open_ := 1 }).ns? 1).getD default; decide (s.ns? n.nsid = some n) &&
       decide (n.open_ - n.openZones < ((List.range n.zoneCount).filter fun zi => (n.zone zi).state == .closed).length))) &&
     (let s : State := dev0; (let c : Cmd := mkCmd 0 1 (.setZoneDescriptorExtension hdr1 262144 0 false); (let h : NvmeHdr := hdr1;
       (let slba : Nat := 262144; (let x : Wide := 0; (okAnd (s.zonedNs c) fun n => ((okAnd (s.zoneAt n slba) fun zi => (
       decide (c.op = .setZoneDescriptorExtension h slba x false) && decide (n.pie = true → x.toNat / 2 ^ 9 % 2 ^ 23 = 0) &&
       decide ((n.zone zi).state ≠ .empty)))))))))) &&
     (let s : State := dev0; (let h : NvmeHdr := hdr1; (let c : Cmd := mkCmd 0 1 (.setZoneDescriptorExtension h 0 0 true);
       (okAnd (s.zonedNs c) fun _ => decide (c.op = .setZoneDescriptorExtension h 0 0 true))))) &&
     (let s : State := dev0; (let h : NvmeHdr := hdr1; (let c : Cmd := mkCmd 0 1 (.invalidCommandOpcode h 0x79);
       (okAnd (s.zonedNs c) fun _ => decide (c.op = .invalidCommandOpcode h 0x79))))) &&
     (let s : State := dev0; decide (s.media.readPreserve = false) && (let h : NvmeHdr := { fn := 0, sq := 1, cid := 1, nsid := 1 };
       (let slba : Nat := 0; (let x : Wide := 0; (let c : Cmd := mkCmd 0 1 (.setZoneDescriptorExtension h slba x false); (okAnd (s.zonedNs c) fun n => (
       (okAnd (s.zoneAt n slba) fun zi => (decide (c.op = .setZoneDescriptorExtension h slba x false) &&
       decide (n.pie = true → x.toNat / 2 ^ 9 % 2 ^ 23 = 0) && decide ((n.zone zi).state = .empty) &&
       decide (s.classCheck n (n.zoneClass { n.zone zi with ext := x, extValid := true }) = none) && decide (n.activeZones < n.active) &&
       decide (s.sealCheck n (s.currentKey n) 0 = none)))))))))) &&
     (let s : State := dev0; (let h : NvmeHdr := { fn := 0, sq := 1, cid := 1, nsid := 1 }; (let slba : Nat := 0; (let f : Nat := 0;
       decide (f ≤ 7) && (let k : Nat := 0; (let part : Bool := false; (let c : Cmd := mkCmd 0 1 (.reportZones h slba f part k);
       (okAnd (s.zonedNs c) fun n => (decide (slba < n.blocks s.profile) && decide (c.op = .reportZones h slba f part k)))))))))) &&
     (let s : State := dev0; (let h : NvmeHdr := { fn := 0, sq := 1, cid := 1, nsid := 1 }; (let slba : Nat := 0; (let f : Nat := 0;
       decide (f ≤ 7) && (let k : Nat := 0; (let part : Bool := false; (let c : Cmd := mkCmd 0 1 (.extendedReportZones h slba f part k);
       (okAnd (s.zonedNs c) fun n => (decide (slba < n.blocks s.profile) && decide (c.op = .extendedReportZones h slba f part k)))))))))) &&
     (let s : State := dev0; ((s.nss)[0]?.any fun n => (decide (s.ns? n.nsid = some n) && (let zi : Nat := 1;
       decide ((n.zone zi).state.active = true)))))) = true := by decide +kernel
/-- Every mast failed: no stripe set of any width survives (R40, R41). -/
def noMast : State := { d5 with masts := List.replicate 8 { state := .failed } }
theorem test_witness_needsBarred :
    (
     (let s : State := dev0; ((s.nss)[0]?.any fun n => (decide (s.ns? n.nsid = some n) && (let zi : Nat := 1; decide ((n.zone zi).state = .implicitOpen))))) &&
     (let s : State := dev0; ((s.nss)[0]?.any fun n => (decide (s.ns? n.nsid = some n) && (let zi : Nat := 2; decide ((n.zone zi).state = .closed) &&
       decide (n.openZones < n.open_) && decide (s.needsBarred (n.zone zi) 1 = false))))) &&
     (let s : State := noMast; ((s.nss)[0]?.any fun n => (decide (s.ns? n.nsid = some n) && (let zi : Nat := 2; decide ((n.zone zi).state = .closed) &&
       decide (s.needsBarred (n.zone zi) 1 = true))))) &&
     (let s : State := (noMast.modZone 1 1 fun z => { z with segs := [] }); (let n : Namespace := (s.ns? 1).getD default; (let e : Extent := { slba := 262144, nlb := 1 };
       (let z := n.zone (e.slba / max 1 (n.zoneSize s.profile)); decide (s.ns? n.nsid = some n) && decide (z.state.isOpen = true) &&
       decide (e.slba = e.slba / max 1 (n.zoneSize s.profile) * max 1 (n.zoneSize s.profile) + z.wp) && decide (z.wp + e.nlb ≤ s.zoneCap n z) &&
       decide (s.media.readPreserve = false) && decide (s.needsBarred z e.nlb = true))))) &&
     (let s : State := d5; (let n : Namespace := (d5.ns? 1).getD default; decide (s.needsBarred (n.zone 1) 1 = false))) &&
     (let s : State := d20; (let n : Namespace := (d20.ns? 1).getD default; decide (s.needsBarred (n.zone 1) 1 = false))) &&
     (let s : State := (dev0.modNs 1 fun n => { n with open_ := 1 }); (let n : Namespace := (s.ns? 1).getD default; (let zi : Nat := 2;
       decide (s.ns? n.nsid = some n) && decide ((n.zone zi).state = .closed) && decide (s.needsBarred (n.zone zi) 1 = false) && decide (n.open_ ≤ n.openZones))))) = true := by decide +kernel
theorem test_witness_IoAdmission_1 :
    (
     (let s : State := dev0; (let n : Namespace := (dev0.ns? 1).getD default; (let k : WriteKind := .append;
       (let e : Extent := { slba := 262144, nlb := 257 }; decide (256 < e.nlb))))) &&
     (let s : State := dev0; (let n : Namespace := (dev0.ns? 1).getD default; (let k : WriteKind := .write;
       (let e : Extent := { slba := 786432, nlb := 1 }; (let z := n.zone (e.slba / max 1 (n.zoneSize s.profile));
       decide (¬ (k = .append ∧ 256 < e.nlb)) && decide (z.state = .full)))))) &&
     (let s : State := dev0; (let n : Namespace := (dev0.ns? 1).getD default; (let k : WriteKind := .write;
       (let e : Extent := { slba := 1048576, nlb := 1 }; (let z := n.zone (e.slba / max 1 (n.zoneSize s.profile));
       decide (¬ (k = .append ∧ 256 < e.nlb)) && decide (z.state = .readOnly)))))) &&
     (let s : State := dev0; (let n : Namespace := (dev0.ns? 1).getD default; (let k : WriteKind := .write;
       (let e : Extent := { slba := 1310720, nlb := 1 }; (let z := n.zone (e.slba / max 1 (n.zoneSize s.profile));
       decide (¬ (k = .append ∧ 256 < e.nlb)) && decide (z.state = .offline)))))) &&
     (let s : State := dev0; (let n : Namespace := (dev0.ns? 1).getD default; (let k : WriteKind := .append;
       (let e : Extent := { slba := 262145, nlb := 1 }; (let z := n.zone (e.slba / max 1 (n.zoneSize s.profile));
       decide (¬ (k = .append ∧ 256 < e.nlb)) && decide (z.state = .empty ∨ z.state.active = true) && decide (k = .append) &&
       decide (e.slba % max 1 (n.zoneSize s.profile) ≠ 0)))))) &&
     (let s : State := dev0; ((s.nss)[0]?.any fun n => ((let k : WriteKind := .write; decide (k ≠ .append) &&
       (let e : Extent := { slba := 1, nlb := 1 }; (let z := n.zone (e.slba / max 1 (n.zoneSize s.profile));
       decide (¬ (k = .append ∧ 256 < e.nlb)) && decide (z.state = .empty ∨ z.state.active = true) &&
       decide (e.slba ≠ e.slba / max 1 (n.zoneSize s.profile) * max 1 (n.zoneSize s.profile) + z.wp))))))) &&
     (let s : State := (dev0.modZone 1 1 fun z => { z with wp := zoneCapacity {} 8 1 });
       (let n : Namespace := ((dev0.modZone 1 1 fun z => { z with wp := zoneCapacity {} 8 1 }).ns? 1).getD default; (let k : WriteKind := .write;
       (let e : Extent := { slba := 262144 + zoneCapacity {} 8 1, nlb := 1 }; (let z := n.zone (e.slba / max 1 (n.zoneSize s.profile));
       decide (¬ (k = .append ∧ 256 < e.nlb)) && decide (z.state = .empty ∨ z.state.active = true) && decide (k ≠ .append) &&
       decide (e.slba = e.slba / max 1 (n.zoneSize s.profile) * max 1 (n.zoneSize s.profile) + z.wp) && decide (s.zoneCap n z < z.wp + e.nlb)))))) &&
     (let s : State := d5; (let c : Cmd := mkCmd 0 1 (.write hdr1 { slba := 262144, nlb := 1 }); (let n : Namespace := (d5.ns? 1).getD default;
       (let k : WriteKind := .write; (let e : Extent := { slba := 262144, nlb := 1 }; (let zi := e.slba / max 1 (n.zoneSize s.profile);
       (let base := zi * max 1 (n.zoneSize s.profile); (let z := n.zone zi; decide (s.ns? n.nsid = some n) && decide (z.state.isOpen = true) &&
       decide (¬ (k = .append ∧ 256 < e.nlb)) && decide (e.slba = base + (if k = .append then 0 else z.wp)) &&
       decide (z.wp + e.nlb ≤ s.zoneCap n z) && decide (s.media.readPreserve = false) &&
       ((s.assignZone n.nsid zi e.nlb (fun i => blockOfWrite n c k e (base + z.wp + i) i)).any fun t => (
       decide (s.sealCheck n (some z.keyRef) e.nlb = none) && decide (s.mirrorCheck n z = none))))))))))) &&
     (let s : State := d20; (let c : Cmd := mkCmd 0 1 (.write hdr1 { slba := 262144, nlb := 1 }); (let n : Namespace := (d20.ns? 1).getD default;
       (let k : WriteKind := .write; (let e : Extent := { slba := 262144 + (zoneCapacity {} 8 1 - 1), nlb := 1 };
       (let zi := e.slba / max 1 (n.zoneSize s.profile); (let base := zi * max 1 (n.zoneSize s.profile); (let z := n.zone zi;
       decide (s.ns? n.nsid = some n) && decide (z.state.isOpen = true) && decide (¬ (k = .append ∧ 256 < e.nlb)) &&
       decide (e.slba = base + (if k = .append then 0 else z.wp)) && decide (z.wp + e.nlb ≤ s.zoneCap n z) &&
       decide (s.media.readPreserve = false) && ((s.assignZone n.nsid zi e.nlb (fun i => blockOfWrite n c k e (base + z.wp + i) i)).any fun t => (
       decide (s.sealCheck n (some z.keyRef) e.nlb = none) && decide (s.mirrorCheck n z = none) &&
       decide ((t.zone n.nsid zi).wp = t.zoneCap n (t.zone n.nsid zi)))))))))))) &&
     (let s : State := q1;
       (((s.io.cmds ++ [mkCmd 0 1 (.read hdr1 ex1), mkCmd 1 0 (.setFeatures hdr1 1 1), mkCmd 0 0 (.flush hdr1), mkCmd 1 0 (.namespaceManagementDelete hdr1)]))[0]?.any fun c => (
       (let e : Extent := { slba := 0, nlb := 1 }; decide ((s.fnRoom c.fn e.nlb && s.classRoom .writeRows e.nlb && s.slotRoom c.fn) = false))))) &&
     (let s : State := dev0;
       (((s.io.cmds ++ [mkCmd 0 1 (.read hdr1 ex1), mkCmd 1 0 (.setFeatures hdr1 1 1), mkCmd 0 0 (.flush hdr1), mkCmd 1 0 (.namespaceManagementDelete hdr1)]))[0]?.any fun c => (
       (let e : Extent := { slba := 0, nlb := 1 }; decide ((s.fnRoom c.fn e.nlb && s.classRoom .writeRows e.nlb && s.slotRoom c.fn) = true))))) &&
     (let s : State := dev0; decide (s.nrg.firstDone = true) && (let t : State := dev0;
       decide (s.energyAdmits (addedDirty (s.newBlocks t)) = true) &&
       (((s.io.cmds ++ [mkCmd 0 1 (.read hdr1 ex1), mkCmd 1 0 (.setFeatures hdr1 1 1), mkCmd 0 0 (.flush hdr1), mkCmd 1 0 (.namespaceManagementDelete hdr1)]))[0]?.any fun c => (
       (let e : Extent := { slba := 0, nlb := 1 }; decide ((s.fnRoom c.fn e.nlb && s.classRoom .writeRows e.nlb && s.slotRoom c.fn) = true))))))) = true := by decide +kernel
theorem test_witness_IoAdmission_2 :
    (
     (let s : State := dev0;
       (((s.io.cmds ++ [mkCmd 0 1 (.read hdr1 ex1), mkCmd 1 0 (.setFeatures hdr1 1 1), mkCmd 0 0 (.flush hdr1), mkCmd 1 0 (.namespaceManagementDelete hdr1)]))[1]?.any fun c => (
       decide (s.ioNs c = none)))) &&
     (let s : State := dev0;
       (((s.io.cmds ++ [mkCmd 0 1 (.read hdr1 ex1), mkCmd 1 0 (.setFeatures hdr1 1 1), mkCmd 0 0 (.flush hdr1), mkCmd 1 0 (.namespaceManagementDelete hdr1)]))[0]?.any fun c => (
       ((s.ioNs c).any fun n => ((let e : Extent := { slba := 0, nlb := 513 }; decide (e.nlb = 0 ∨ transfersData c.op = true) &&
       decide (512 < e.nlb))))))) &&
     (let s : State := dev0; (let c : Cmd := mkCmd 0 1 (.read hdr1 ex1); (let e : Extent := { slba := 2 ^ 40, nlb := 1 }; ((s.ioNs c).any fun n => (
       decide (e.nlb ≠ 0) && decide (¬ (transfersData c.op = true ∧ 512 < e.nlb)) && decide (n.blocks s.profile < e.slba + e.nlb)))))) &&
     (let s : State := dev0; (let c : Cmd := { mkCmd 0 1 (.read hdr1 ex1) with translated := false }; (let e : Extent := { slba := 0, nlb := 1 };
       ((s.ioNs c).any fun n => (decide (e.nlb ≠ 0) && decide (e.nlb ≤ 512) && decide (e.slba + e.nlb ≤ n.blocks s.profile) &&
       decide (c.translated = false)))))) &&
     (let s : State := dev0; (let r : Bool := false;
       (((s.io.cmds ++ [mkCmd 0 1 (.read hdr1 ex1), mkCmd 1 0 (.setFeatures hdr1 1 1), mkCmd 0 0 (.flush hdr1), mkCmd 1 0 (.namespaceManagementDelete hdr1)]))[0]?.any fun c => (
       ((s.ioNs c).any fun n => (decide (c.translated = true) && (let e : Extent := { slba := 0, nlb := 1 }; decide (e.nlb ≠ 0) &&
       decide (e.nlb ≤ 512) && decide (e.slba + e.nlb ≤ n.blocks s.profile) && (goAnd (s.judgeRead c e r) fun t cost => (true))))))))) &&
     (let s : State := dev0;
       (((s.io.cmds ++ [mkCmd 0 1 (.read hdr1 ex1), mkCmd 1 0 (.setFeatures hdr1 1 1), mkCmd 0 0 (.flush hdr1), mkCmd 1 0 (.namespaceManagementDelete hdr1)]))[1]?.any fun c => (
       decide (writeExtent c.op = none) && decide (readExtent c.op = none) && decide (s.slotRoom c.fn = true)))) &&
     (let s : State := dev0; (let h : NvmeHdr := { fn := 0, sq := 1, cid := 1, nsid := 1 }; (let e : Extent := { slba := 0, nlb := 1 };
       (let c : Cmd := mkCmd 0 1 (.read h e); decide (c.op = .read h e))))) &&
     (let s : State := dev0; (let h : NvmeHdr := { fn := 0, sq := 1, cid := 1, nsid := 1 }; (let e : Extent := { slba := 0, nlb := 1 };
       (let ds : List Block := []; (let c : Cmd := mkCmd 0 1 (.compare h e ds); decide (c.op = .compare h e ds)))))) &&
     (let s : State := dev0; (let h : NvmeHdr := { fn := 0, sq := 1, cid := 1, nsid := 1 }; (let e : Extent := { slba := 0, nlb := 1 };
       (let c : Cmd := mkCmd 0 1 (.verify h e); decide (c.op = .verify h e))))) &&
     (let s : State := dev0; (let h : NvmeHdr := { fn := 0, sq := 1, cid := 1, nsid := 1 }; (let e : Extent := { slba := 0, nlb := 1 };
       (let c : Cmd := mkCmd 0 1 (.write h e); decide (c.op = .write h e))))) &&
     (let s : State := dev0; (let h : NvmeHdr := { fn := 0, sq := 1, cid := 1, nsid := 1 }; (let e : Extent := { slba := 0, nlb := 1 };
       (let c : Cmd := mkCmd 0 1 (.zoneAppend h e); decide (c.op = .zoneAppend h e))))) &&
     (let s : State := dev0; (let h : NvmeHdr := { fn := 0, sq := 1, cid := 1, nsid := 1 }; (let e : Extent := { slba := 0, nlb := 1 };
       (let c : Cmd := mkCmd 0 1 (.writeZeroes h e); decide (c.op = .writeZeroes h e)))))) = true := by decide +kernel
theorem test_witness_IoAdmission_3 :
    (
     (let s : State := dev0; (let h : NvmeHdr := { fn := 0, sq := 1, cid := 1, nsid := 1 }; (let c : Cmd := mkCmd 0 1 (.flush h);
       ((s.ioNs c).any fun n => (decide (c.op = .flush h)))))) &&
     (let s : State := dev0; (let h : NvmeHdr := { fn := 0, sq := 1, cid := 1, nsid := 1 }; (let ranges : List (Nat × Nat) := [];
       (let c : Cmd := mkCmd 0 1 (.datasetManagement h false ranges); ((s.ioNs c).any fun n => (
       decide (c.op = .datasetManagement h false ranges))))))) &&
     (let s : State := dev0; (let h : NvmeHdr := { fn := 0, sq := 1, cid := 1, nsid := 1 }; (let ranges : List (Nat × Nat) := [];
       (let c : Cmd := mkCmd 0 1 (.datasetManagement h true ranges); ((s.ioNs c).any fun n => (decide (c.op = .datasetManagement h true ranges) &&
       decide (n.conv = false))))))) &&
     (let s : State := dev0; (let h : NvmeHdr := { fn := 0, sq := 1, cid := 1, nsid := 1 }; (let op : Nat := 0;
       (let c : Cmd := mkCmd 0 1 (.invalidCommandOpcode h op); ((s.ioNs c).any fun n => (decide (c.op = .invalidCommandOpcode h op) && decide (op ≠ 0x79) && decide (op ≠ 0x7A))))))) &&
     (let s : State := dev0; (let c : Cmd := mkCmd 0 1 (.datasetManagement { hdr1 with nsid := 3 } true [(0, 1)]);
       (let h : NvmeHdr := { hdr1 with nsid := 3 }; (let ranges : List (Nat × Nat) := [(0, 1)]; ((s.ioNs c).any fun n => (
       decide (c.op = .datasetManagement h true ranges) && decide (n.conv = true) &&
       decide ((ranges).all (fun x => decide (x.1 + x.2 ≤ n.blocks s.profile)) = true) && decide (s.media.readPreserve = false))))))) &&
     (let s : State := dev0; (let h : NvmeHdr := { fn := 0, sq := 1, cid := 1, nsid := 1 }; (let e : Extent := { slba := 0, nlb := 1 };
       (let ds : List Block := []; (let c : Cmd := mkCmd 0 1 (.compare h e ds); decide (c.op = .compare h e ds) &&
       decide ((c.blocks).all (fun b => decide (b.phase ≠ 2)) = true))))))) = true := by decide +kernel
theorem test_witness_AdminCommands_1 :
    (
     (let s : State := dev0;
       (((s.io.cmds ++ [mkCmd 0 1 (.read hdr1 ex1), mkCmd 1 0 (.setFeatures hdr1 1 1), mkCmd 0 0 (.flush hdr1), mkCmd 1 0 (.namespaceManagementDelete hdr1)]))[3]?.any fun c => (
       decide (managerOnly c.op = true) && decide (c.fn ≠ 0)))) &&
     (let s : State := dev0; (let h : NvmeHdr := { fn := 0, sq := 1, cid := 1, nsid := 1 }; (let csi : Nat := 0;
       (let c : Cmd := mkCmd 0 1 (.identify h 0x01 csi); decide (c.op = .identify h 0x01 csi))))) &&
     (let s : State := dev0; (let h : NvmeHdr := { fn := 0, sq := 1, cid := 1, nsid := 1 }; (let cns : Nat := 29; decide (0x1D ≤ cns) &&
       (let csi : Nat := 0; (let c : Cmd := mkCmd 0 1 (.identify h cns csi); decide (c.op = .identify h cns csi)))))) &&
     (let s : State := dev0; (let h : NvmeHdr := { fn := 0, sq := 1, cid := 1, nsid := 1 }; (let c : Cmd := mkCmd 0 1 (.getLogPage h 0x04);
       decide (c.op = .getLogPage h 0x04)))) &&
     (let s : State := dev0; (let h : NvmeHdr := { fn := 0, sq := 1, cid := 1, nsid := 1 }; (let c : Cmd := mkCmd 0 1 (.getLogPage h 0x02);
       decide (c.op = .getLogPage h 0x02)))) &&
     (let s : State := dev0; (let h : NvmeHdr := { fn := 0, sq := 1, cid := 1, nsid := 1 }; (let lid : Nat := 0; decide (lid = 0 ∨ 0xC0 ≤ lid) &&
       (let c : Cmd := mkCmd 0 1 (.getLogPage h lid); decide (c.op = .getLogPage h lid))))) &&
     (let s : State := dev0; (let h : NvmeHdr := { fn := 0, sq := 1, cid := 1, nsid := 1 }; (let v : Nat := 0;
       (let c : Cmd := mkCmd 0 1 (.setFeatures h 0x01 v); decide (c.op = .setFeatures h 0x01 v))))) &&
     (let s : State := dev0; (let h : NvmeHdr := { fn := 0, sq := 1, cid := 1, nsid := 1 }; (let c : Cmd := mkCmd 0 1 (.getFeatures h 0x01);
       decide (c.op = .getFeatures h 0x01)))) &&
     (let s : State := dev0; (let h : NvmeHdr := { fn := 0, sq := 1, cid := 1, nsid := 1 }; (let c : Cmd := mkCmd 0 1 (.getFeatures h 0x0E);
       decide (c.op = .getFeatures h 0x0E)))) &&
     (let s : State := dev0; (let h : NvmeHdr := { fn := 0, sq := 1, cid := 1, nsid := 1 }; (let c : Cmd := mkCmd 0 1 (.getFeatures h 0x02);
       decide (c.op = .getFeatures h 0x02)))) &&
     (let s : State := dev0; (let h : NvmeHdr := { fn := 0, sq := 1, cid := 1, nsid := 1 }; (let c : Cmd := mkCmd 0 1 (.getFeatures h 0x03);
       decide (c.op = .getFeatures h 0x03)))) &&
     (let s : State := dev0; (let h : NvmeHdr := { fn := 0, sq := 1, cid := 1, nsid := 1 }; (let ps : Nat := 0;
       (let c : Cmd := mkCmd 1 0 (.setFeaturesPowerManagement h ps);
       decide (c.op = .setFeaturesPowerManagement h ps ∨ c.op = .setFeatures h 0x02 ps) && decide (c.fn ≠ 0)))))) = true := by decide +kernel
theorem test_witness_AdminCommands_2 :
    (
     (let s : State := dev0; (let h : NvmeHdr := { fn := 0, sq := 1, cid := 1, nsid := 1 }; (let ps : Nat := 5; decide (4 < ps % 32) &&
       (let c : Cmd := mkCmd 0 1 (.setFeaturesPowerManagement h ps);
       decide (c.op = .setFeaturesPowerManagement h ps ∨ c.op = .setFeatures h 0x02 ps) && decide (c.fn = 0))))) &&
     (let s : State := dev0; (let h : NvmeHdr := { fn := 0, sq := 1, cid := 1, nsid := 1 }; (let ps : Nat := 0; decide (ps % 32 ≤ 4) &&
       (let c : Cmd := mkCmd 0 1 (.setFeaturesPowerManagement h ps);
       decide (c.op = .setFeaturesPowerManagement h ps ∨ c.op = .setFeatures h 0x02 ps) && decide (c.fn = 0))))) &&
     (let s : State := dev0; (let h : NvmeHdr := { fn := 0, sq := 1, cid := 1, nsid := 1 }; (let ms : Nat := 0;
       (let c : Cmd := mkCmd 1 0 (.setFeaturesTimestamp h ms); decide (c.op = .setFeaturesTimestamp h ms) && decide (c.fn ≠ 0))))) &&
     (let s : State := dev0; (let h : NvmeHdr := { fn := 0, sq := 1, cid := 1, nsid := 1 }; (let ms : Nat := 0; decide (ms / 1000 < 1735689600) &&
       (let c : Cmd := mkCmd 0 1 (.setFeaturesTimestamp h ms); decide (c.op = .setFeaturesTimestamp h ms) && decide (c.fn = 0))))) &&
     (let s : State := dev0; (let c : Cmd := mkCmd 0 0 (.setFeaturesTimestamp hdr1 1800000000000); (let h : NvmeHdr := hdr1;
       (let ms : Nat := 1800000000000; decide (c.op = .setFeaturesTimestamp h ms) && decide (c.fn = 0) && decide (1735689600 ≤ ms / 1000) &&
       decide (s.clk.aonRuns = true))))) &&
     (let s : State := dev0; (let h : NvmeHdr := { fn := 0, sq := 1, cid := 1, nsid := 1 }; (let qid : Nat := 2; decide (0 < qid) &&
       (let size : Nat := 2; decide (2 ≤ size) && decide (size ≤ 65536) && (let v : Nat := 0; (let i : Bool := false;
       (let c : Cmd := mkCmd 0 1 (.createIoCompletionQueue h qid size v i true true);
       decide (c.op = .createIoCompletionQueue h qid size v i true true) && decide (qid ≤ s.pairsOf c.fn c.port1) &&
       decide (((s.ctrl c.fn c.port1).cqs.any fun x => x.qid == qid) = false) && decide (v < s.vectors c.fn c.port1)))))))) &&
     (let s : State := dev0; (let h : NvmeHdr := { fn := 0, sq := 1, cid := 1, nsid := 1 }; (let qid : Nat := 2; decide (0 < qid) &&
       (let size : Nat := 2; decide (2 ≤ size) && decide (size ≤ 65536) && (let v : Nat := 2; (let i : Bool := false;
       (let c : Cmd := mkCmd 1 0 (.createIoCompletionQueue h qid size v i true true);
       decide (c.op = .createIoCompletionQueue h qid size v i true true) && decide (qid ≤ s.pairsOf c.fn c.port1) &&
       decide (((s.ctrl c.fn c.port1).cqs.any fun x => x.qid == qid) = false) && decide (s.vectors c.fn c.port1 ≤ v)))))))) &&
     (let s : State := dev0; (let h : NvmeHdr := { fn := 0, sq := 1, cid := 1, nsid := 1 }; (let qid : Nat := 2; decide (0 < qid) &&
       (let size : Nat := 2; decide (2 ≤ size) && decide (size ≤ 65536) && (let cq : Nat := 1; decide (0 < cq) &&
       (let c : Cmd := mkCmd 0 1 (.createIoSubmissionQueue h qid size cq true true);
       decide (c.op = .createIoSubmissionQueue h qid size cq true true) && decide (((s.ctrl c.fn c.port1).cqs.any fun x => x.qid == cq) = true) &&
       decide (qid ≤ s.pairsOf c.fn c.port1) && decide (((s.ctrl c.fn c.port1).sqs.any fun x => x.qid == qid) = false))))))) &&
     (let s : State := dev0; (let h : NvmeHdr := { fn := 0, sq := 1, cid := 1, nsid := 1 }; (let qid : Nat := 2; decide (0 < qid) &&
       (let size : Nat := 0; decide (size < 2 ∨ 65536 < size) && (let cq : Nat := 1; decide (0 < cq) &&
       (let c : Cmd := mkCmd 0 1 (.createIoSubmissionQueue h qid size cq true true);
       decide (c.op = .createIoSubmissionQueue h qid size cq true true) && decide (((s.ctrl c.fn c.port1).cqs.any fun x => x.qid == cq) = true) &&
       decide (qid ≤ s.pairsOf c.fn c.port1) && decide (((s.ctrl c.fn c.port1).sqs.any fun x => x.qid == qid) = false))))))) &&
     (let s : State := dev0; (let h : NvmeHdr := { fn := 0, sq := 1, cid := 1, nsid := 1 }; (let qid : Nat := 0; (let size : Nat := 0;
       (let cq : Nat := 2; (let c : Cmd := mkCmd 0 1 (.createIoSubmissionQueue h qid size cq true true);
       decide (c.op = .createIoSubmissionQueue h qid size cq true true) && decide (((s.ctrl c.fn c.port1).cqs.any fun x => x.qid == cq) = false))))))) &&
     (let s : State := dev0; (let h : NvmeHdr := { fn := 0, sq := 1, cid := 1, nsid := 1 }; (let qid : Nat := 1; decide (0 < qid) &&
       (let c : Cmd := mkCmd 0 1 (.deleteIoCompletionQueue h qid); decide (c.op = .deleteIoCompletionQueue h qid) &&
       decide (((s.ctrl c.fn c.port1).cqs.any fun x => x.qid == qid) = true))))) &&
     (let s : State := dev0; (let qid : Nat := 1; decide (0 < qid) &&
       (((s.io.cmds ++ [mkCmd 0 1 (.read hdr1 ex1), mkCmd 1 0 (.setFeatures hdr1 1 1), mkCmd 0 0 (.flush hdr1), mkCmd 1 0 (.namespaceManagementDelete hdr1)]))[0]?.any fun c => (
       decide (((s.ctrl c.fn c.port1).sqs.any fun x => x.qid == qid) = true) && decide (c.fn < s.fns.length)))))) = true := by decide +kernel
theorem test_witness_AdminCommands_3 :
    (
     (let s : State := dev0; (let qid : Nat := 1; decide (0 < qid) &&
       (((s.io.cmds ++ [mkCmd 0 1 (.read hdr1 ex1), mkCmd 1 0 (.setFeatures hdr1 1 1), mkCmd 0 0 (.flush hdr1), mkCmd 1 0 (.namespaceManagementDelete hdr1)]))[0]?.any fun c => (
       decide (((s.ctrl c.fn c.port1).sqs.any fun x => x.qid == qid) = true) && decide (c.fn < s.fns.length) &&
       ((((s.deleteSq c qid).1.ctrl c.fn c.port1).sqs)[0]?.any fun q => (decide (q ∈ ((s.deleteSq c qid).1.ctrl c.fn c.port1).sqs))))))) &&
     (let s : State := q2; (let qid : Nat := 1; decide (0 < qid) &&
       (((s.io.cmds ++ [mkCmd 0 1 (.read hdr1 ex1), mkCmd 1 0 (.setFeatures hdr1 1 1), mkCmd 0 0 (.flush hdr1), mkCmd 1 0 (.namespaceManagementDelete hdr1)]))[6]?.any fun c => (
       decide (((s.ctrl c.fn c.port1).sqs.any fun x => x.qid == qid) = true) && decide (c.fn < s.fns.length) &&
       (((s.deleteSq c qid).1.io.submitted)[0]?.any fun x => (decide (x ∈ (s.deleteSq c qid).1.io.submitted))))))) &&
     (let s : State := dev0; (let h : NvmeHdr := { fn := 0, sq := 1, cid := 1, nsid := 1 }; (let qid : Nat := 0;
       (let c : Cmd := mkCmd 0 1 (.deleteIoSubmissionQueue h qid); decide (c.op = .deleteIoSubmissionQueue h qid))))) &&
     (let s : State := q2; (let h : NvmeHdr := { fn := 0, sq := 1, cid := 1, nsid := 1 }; (let sq : Nat := 1; (let cid : Nat := 1;
       (let c : Cmd := mkCmd 0 1 (.abort h sq cid); decide (c.op = .abort h sq cid) && (((s.io.cmds.find? fun x => x.fn == c.fn &&
       x.port1 == c.port1 && x.sq == sq && x.cid == cid && x.phase == .held && x.id != c.id)).any fun x => (true))))))) &&
     (let s : State := dev0; (let h : NvmeHdr := { fn := 0, sq := 1, cid := 1, nsid := 1 }; (let sq : Nat := 0; (let cid : Nat := 0;
       (let c : Cmd := mkCmd 0 1 (.abort h sq cid); decide (c.op = .abort h sq cid) &&
       decide ((s.io.cmds).all (fun x => decide (¬ (x.fn = c.fn ∧ x.port1 = c.port1 ∧ x.sq = sq ∧ x.cid = cid ∧ x.phase = .held))) = true)))))) &&
     (let s : State := q2; (let h : NvmeHdr := { fn := 0, sq := 1, cid := 1, nsid := 1 }; (let c : Cmd := mkCmd 0 1 (.asynchronousEventRequest h);
       decide (c.op = .asynchronousEventRequest h) && (headAnd ((s.ctrl c.fn c.port1).aen) fun e rest => (true))))) &&
     (let s : State := q3; (let h : NvmeHdr := { fn := 0, sq := 1, cid := 1, nsid := 1 }; (let c : Cmd := mkCmd 0 1 (.asynchronousEventRequest h);
       decide (c.op = .asynchronousEventRequest h) && decide ((s.ctrl c.fn c.port1).aen = []) && decide (8 ≤ (s.ctrl c.fn c.port1).aer.length)))) &&
     (let s : State := dev0; (let h : NvmeHdr := { fn := 0, sq := 1, cid := 1, nsid := 1 }; (let c : Cmd := mkCmd 0 1 (.asynchronousEventRequest h);
       decide (c.op = .asynchronousEventRequest h) && decide ((s.ctrl c.fn c.port1).aen = []) && decide ((s.ctrl c.fn c.port1).aer.length < 8)))) &&
     (let s : State := dev0; (let h : NvmeHdr := { fn := 0, sq := 1, cid := 1, nsid := 1 }; (let csi : Nat := 0; (let z : Nat := 0;
       (let k : Nat := 0; (let l : Nat := 0; (let p : Nat := 0; (let c : Cmd := mkCmd 0 1 (.namespaceManagementCreate h csi z k l p);
       decide (c.fn = 0) && decide (c.op = .namespaceManagementCreate h csi z k l p))))))))) &&
     (let s : State := dev0; (let csi : Nat := 0; (let z : Nat := 0; (let k : Nat := 0; (let l : Nat := 0; (let p : Nat := 0;
       (let (t, stOk, id) := s.nvmeCreate csi z k l p; (true)))))))) &&
     (let csi : Nat := 0; decide (csi ≠ 2)) &&
     (let s : State := dev0; (let h : NvmeHdr := { fn := 0, sq := 1, cid := 1, nsid := 1 }; (let c : Cmd := mkCmd 0 1 (.namespaceManagementDelete h);
       decide (c.fn = 0) && decide (c.op = .namespaceManagementDelete h))))) = true := by decide +kernel
theorem test_witness_AdminCommands_4 :
    (
     (let s : State := dev0; ((s.nss)[0]?.any fun n => (decide (s.ns? n.nsid = some n) && decide (n.nsid ≠ 0xFFFFFFFF) && decide (n.conv = false)))) &&
     (let s : State := dev0; (let h : NvmeHdr := { fn := 0, sq := 1, cid := 1, nsid := 1 }; (let l : List Nat := [];
       (let c : Cmd := mkCmd 0 1 (.namespaceAttachmentAttach h l); decide (c.fn = 0) && decide (c.op = .namespaceAttachmentAttach h l))))) &&
     (let s : State := dev0; (let h : NvmeHdr := { fn := 0, sq := 1, cid := 1, nsid := 1 }; (let l : List Nat := [];
       (let c : Cmd := mkCmd 0 1 (.namespaceAttachmentDetach h l); decide (c.fn = 0) && decide (c.op = .namespaceAttachmentDetach h l))))) &&
     (let s : State := dev0; ((s.nss)[0]?.any fun n => (decide (s.ns? n.nsid = some n) && (let f : Nat := 1; decide (f ≤ 128) &&
       decide (n.attached.contains f = false) && decide (s.attachable n f = true))))) &&
     (let s : State := dev0; ((s.nss)[0]?.any fun n => (decide (s.ns? n.nsid = some n) && (let f : Nat := 0; decide (f ≤ 128) &&
       decide (n.attached.contains f = true))))) &&
     (let s : State := dev0; ((s.nss)[1]?.any fun n => (decide (s.ns? n.nsid = some n) && (let f : Nat := 0; decide (f ≤ 128) &&
       decide (n.attached.contains f = false) && decide (s.attachable n f = false))))) &&
     (let s : State := dev0; ((s.nss)[0]?.any fun n => (decide (s.ns? n.nsid = some n) && (let f : Nat := 1; decide (f ≤ 128) &&
       decide (n.attached.contains f = false))))) &&
     (let s : State := dev0; (let c : Cmd := mkCmd 0 0 (.secondaryControllerOnline hdr1 2); (let h : NvmeHdr := hdr1; (let k : Nat := 2;
       decide (c.fn = 0) && decide (c.op = .secondaryControllerOnline h k) && decide (k ≤ 128) && decide (s.canGoOnline k = true))))) &&
     (let s : State := dev0; (let h : NvmeHdr := { fn := 0, sq := 1, cid := 1, nsid := 1 }; (let k : Nat := 0; decide (s.canGoOnline k = false) &&
       (let c : Cmd := mkCmd 0 1 (.secondaryControllerOnline h k); decide (c.fn = 0) && decide (c.op = .secondaryControllerOnline h k))))) &&
     (let s : State := dev0; (let h : NvmeHdr := { fn := 0, sq := 1, cid := 1, nsid := 1 }; (let k : Nat := 1; decide (1 ≤ k) && decide (k ≤ 128) &&
       decide ((s.fn k).state = .online) && (let c : Cmd := mkCmd 0 1 (.secondaryControllerOffline h k); decide (c.fn = 0) &&
       decide (c.op = .secondaryControllerOffline h k))))) &&
     (let s : State := dev0; (let h : NvmeHdr := { fn := 0, sq := 1, cid := 1, nsid := 1 }; (let k : Nat := 2; decide (1 ≤ k) && decide (k ≤ 128) &&
       decide ((s.fn k).state = .offline) && (let c : Cmd := mkCmd 0 1 (.secondaryControllerOffline h k); decide (c.fn = 0) &&
       decide (c.op = .secondaryControllerOffline h k))))) &&
     (let s : State := dev0; (let h : NvmeHdr := { fn := 0, sq := 1, cid := 1, nsid := 1 }; (let k : Nat := 2; decide (1 ≤ k) && decide (k ≤ 128) &&
       (let r : Nat := 0; decide (r ≤ 1) && (let v : Nat := 0; decide ((effSetAllocation k (r + 1) v s).2.status = 0) &&
       (let c : Cmd := mkCmd 0 1 (.secondaryControllerAssign h k r v); decide (c.fn = 0) && decide (c.op = .secondaryControllerAssign h k r v)))))))) = true := by decide +kernel
theorem test_witness_AdminCommands_5 :
    (
     (let s : State := dev0; (let h : NvmeHdr := { fn := 0, sq := 1, cid := 1, nsid := 1 }; (let k : Nat := 1; decide (1 ≤ k) && decide (k ≤ 128) &&
       (let r : Nat := 2; decide (1 < r) && (let v : Nat := 0; (let c : Cmd := mkCmd 0 1 (.secondaryControllerAssign h k r v); decide (c.fn = 0) &&
       decide (c.op = .secondaryControllerAssign h k r v))))))) &&
     (let s : State := q3; decide (s.start.sanitize.isSome = true) && (let h : NvmeHdr := { fn := 0, sq := 1, cid := 1, nsid := 1 };
       (let l : Nat := 0; (let e : Nat := 0; (let c : Cmd := mkCmd 0 1 (.formatNvm h l e); decide (c.fn = 0) && decide (c.op = .formatNvm h l e)))))) &&
     (let s : State := dev0; decide (s.start.sanitize = none) && decide (s.media.readPreserve = false) &&
       (let h : NvmeHdr := { fn := 0, sq := 1, cid := 1, nsid := 1 }; (let l : Nat := 0; (let e : Nat := 0; decide (e < 2) &&
       (let c : Cmd := mkCmd 0 1 (.formatNvm h l e); decide (c.fn = 0) && decide (c.op = .formatNvm h l e) &&
       decide ((s.nss).any (fun n => decide (n.deleted = false ∧ n.nsid = c.nsid)) = true) && decide (c.nsid ≠ 0xFFFFFFFF) &&
       decide ((s.nss).all (fun n => decide (n.deleted = false → n.nsid = c.nsid → n.lbaf = l)) = true)))))) &&
     (let s : State := q1; decide (32 ≤ s.fuses.vaultEpoch) && (let h : NvmeHdr := { fn := 0, sq := 1, cid := 1, nsid := 1 };
       (let c : Cmd := mkCmd 0 1 (.cryptoErase h); decide (c.fn = 0) && decide (c.op = .cryptoErase h)))) &&
     (let s : State := dev0; decide (s.fuses.vaultEpoch < 32) && decide (s.start.sanitize = none) &&
       (let h : NvmeHdr := { fn := 0, sq := 1, cid := 1, nsid := 1 }; (let c : Cmd := mkCmd 0 1 (.cryptoErase h); decide (c.fn = 0) &&
       decide (c.op = .cryptoErase h)))) &&
     (let s : State := m4; (let c : Cmd := mkCmd 0 0 (.cryptoErase hdr1); (let h : NvmeHdr := hdr1; decide (c.fn = 0) &&
       decide (c.op = .cryptoErase h) && decide (s.fuses.vaultEpoch < 32) && decide (s.start.sanitize = none) &&
       (((s.runAdmin c).keys.slots)[0]?.any fun k => (decide (k ∈ (s.runAdmin c).keys.slots) && decide (dataSlot k.number = true)))))) &&
     (true)) = true := by decide +kernel
theorem test_witness_ManagementInterface :
    (
     (let s : State := dev0; decide (s.hcxOn = true) && decide (s.halted = false) && decide (s.dumping = false)) &&
     (let s : State := dev0; decide (s.hcxOn = true) && decide (s.halted = false) && decide (s.dumping = false) && (let x : Nat := 5; decide (5 ≤ x))) &&
     (let s : State := dev0; decide (s.hcxOn = true) && decide (s.halted = false) && decide (s.dumping = false) && (let x : Nat := 4; decide (4 ≤ x))) &&
     (let s : State := dev0; decide (s.hcxOn = true) && decide (s.halted = false) && decide (s.dumping = false) && (let x : Nat := 1;
       decide (1 ≤ x) && decide (x ≤ 3))) &&
     (let s : State := dev0; decide (s.hcxOn = true) && decide (s.halted = false) && decide (s.dumping = false) && (let x : Nat := 64;
       decide (64 ≤ x) && decide (x ≤ 250))) &&
     (let s : State := dev0; decide (s.hcxOn = true) && decide (s.halted = false) && decide (s.dumping = false)) &&
     (let s : State := dev0; decide (s.hcxOn = true) && decide (s.halted = false) && decide (s.dumping = false) && (let x : Nat := 0;
       decide (x < 64))) &&
     (let s : State := dev0; decide (s.hcxOn = true) && decide (s.halted = false) && decide (s.dumping = false) && (let fn : Nat := 1;
       decide (fn ≠ 0))) &&
     (let s : State := wr; decide (s.hcxOn = false ∨ s.halted = true ∨ s.dumping = true))) = true := by decide +kernel
theorem test_witness_MailboxAnswers_1 :
    (
     (let s : State := wr; (let m : MbxHdr := box0; (let c : MForm := { op := 0x0201, actors := [.m] }; decide (s.pwr.dev = .starting) &&
       decide (earlyOp c.op = false)))) &&
     (let s : State := dev0; (let m : MbxHdr := { via := .bar 1 0 }; (let c : MForm := { op := 0x0001, actors := [.m] };
       decide (s.deviceRefuses c = none) && decide (.t ∉ c.actors) && decide (.a ∉ c.actors) && (let f : Nat := 1; decide (f ≠ 0) &&
       (let mb : Nat := 0; decide (m.via = .bar f mb)))))) &&
     (let s : State := dev0; (let m : MbxHdr := { via := .mctp }; decide (m.via = .mctp) && (let c : MForm := { op := 0x0001, actors := [.m] };
       decide (s.deviceRefuses c = none) && decide (.x ∉ c.actors) && decide (.o ∉ c.actors)))) &&
     (let s : State := dev0; (let m : MbxHdr := { via := .mctp, extReq := true }; (let c : MForm := { op := 0x0001, actors := [.a, .x] };
       decide (s.deviceRefuses c = none) && decide (m.via = .mctp) && decide (m.extReq = true ∨ m.extResp = true)))) &&
     (let s : State := dev0; (let m : MbxHdr := { box0 with len := 4033 }; (let c : MForm := { op := 0x0001, actors := [.a, .x] };
       decide (s.deviceRefuses c = none) && decide (admits c.actors m.via = none) && decide (m.extReq = false) && decide (m.extResp = false) &&
       decide (4032 < m.len)))) &&
     (let s : State := dev0; (let m : MbxHdr := { box0 with len := 3 }; (let c : MForm := { op := 0x0001, actors := [.a, .x] };
       decide (s.deviceRefuses c = none) && decide (admits c.actors m.via = none) && decide (m.extReq = false) && decide (m.extResp = false) &&
       decide (m.len ≤ 4032) && decide (m.trailer = none) && decide (c.actors ≠ [.o]) && decide (m.len ≠ c.len)))) &&
     (let s : State := dev0; (let m : MbxHdr := { box0 with rsvdFlags := true }; (let c : MForm := { op := 0x0001, actors := [.a, .x] };
       decide (s.deviceRefuses c = none) && decide (admits c.actors m.via = none) && decide (m.extReq = false) && decide (m.extResp = false) &&
       decide (m.len ≤ 4032) && decide (m.trailer = none) && decide (c.actors ≠ [.o]) && decide (m.len = c.len) && decide (m.rsvdFlags = true)))) &&
     (let s : State := dev0; (let m : MbxHdr := { via := .bar 0 0 }; decide (m.extReq = false) && decide (m.extResp = false) &&
       decide (m.len ≤ 4032) && decide (m.trailer = none) && decide (m.rsvdFlags = false) && decide (m.rsvd = none) &&
       decide (isManager m.via = true) && decide (s.callerExpert m.via = false) &&
       (let c : MForm := { op := 0x0001, actors := [.m, .x], expert := true }; decide (s.deviceRefuses c = none) &&
       decide (admits c.actors m.via = none) && decide (c.actors ≠ [.o]) && decide (m.len = c.len) && decide (c.expert = true)))) &&
     (let s : State := dev0; (let m : MbxHdr := { via := .bar 0 0 }; decide (m.extReq = false) && decide (m.extResp = false) &&
       decide (m.len ≤ 4032) && decide (m.trailer = none) && decide (m.rsvdFlags = false) && decide (m.rsvd = none) &&
       decide (isManager m.via = true) && decide (m.ownerFlag = false) && (let c : MForm := { op := 0x0001, actors := [.m, .x], bad := some 0 };
       decide (s.deviceRefuses c = none) && decide (admits c.actors m.via = none) && decide (m.len = c.len) && decide (c.actors = [.m, .x]) &&
       decide (c.expert = false) && (c.bad.any fun o => (true))))) &&
     (let s : State := dev0; decide (s.ownerKey = none) && (let c : MForm := { op := 0x0001, actors := [.o] }; decide (c.actors = [.o]))) &&
     (let s : State := m1; (let v : Via := .bar 0 0; (let q : Bool := false; ((s.mbxAt v).any fun b => (decide (b.busy = true) &&
       decide (b.waiting = false) && (b.cmd.any fun i => (((mbxForm s i).any fun (m, c) => (decide (c.query ≠ q)))))))))) &&
     (let s : State := m2; (let v : Via := .bar 0 0; (let q : Bool := true; ((s.mbxAt v).any fun b => (decide (b.busy = true) &&
       decide (b.waiting = false) && (b.cmd.any fun i => (((mbxForm s i).any fun (m, c) => (decide (c.query = q) && (b.verdict.any fun r => (
       true)))))))))))) = true := by decide +kernel
theorem test_witness_MailboxAnswers_2 :
    (
     (let s : State := m1; (let v : Via := .bar 0 0; (let q : Bool := true; ((s.mbxAt v).any fun b => (decide (b.busy = true) &&
       decide (b.waiting = false) && (b.cmd.any fun i => (((mbxForm s i).any fun (m, c) => (decide (c.query = q) && decide (b.verdict = none) &&
       decide ((c.ns.any fun id => (s.ns? id).any (fun n => n.deleted)) = false) && (let (t, o_) := applyMbx i s; o_.any fun r => (
       decide (256 ≤ r.status ∨ endsDurable i = false)))))))))))) &&
     (let s : State := m3; (let v : Via := .bar 0 0; (let q : Bool := false; ((s.mbxAt v).any fun b => (decide (b.busy = true) &&
       decide (b.waiting = false) && (b.cmd.any fun i => (((mbxForm s i).any fun (m, c) => (decide (c.query = q) && decide (b.verdict = none) &&
       decide ((c.ns.any fun id => (s.ns? id).any (fun n => n.deleted)) = false) && (let (t, o_) := applyMbx i s; o_.isNone && (true))))))))))) &&
     (let m : MbxHdr := { via := .bar 0 0 }; (let c : MForm := { op := 0x0001, actors := [.m] }; (let r : Resp := { status := 0 };
       decide (256 ≤ r.status ∨ c.rlen r.fields = 0 ∨ m.extResp = false) && decide (c.rlen r.fields ≤ 4032)))) &&
     (let m : MbxHdr := { via := .bar 0 0 }; decide (m.extResp = false) && (let c : MForm := { op := 0x0001, actors := [.a], rlen := fun _ => 4033 };
       (let r : Resp := { status := 0 }; decide (r.status < 256) && decide (4032 < c.rlen r.fields)))) &&
     (let s : State := dev0; (let f : Nat := 0; (let mb : Nat := 0; ((s.mbxAt (.bar f mb)).any fun b => (true))))) &&
     (let s : State := dev0; ((s.mbxAt .mctp).any fun b => (true))) &&
     (let s : State := dev0; (let fn : Nat := 0; (let mb : Nat := 0; decide (hasMailbox (.bar fn mb) = true) && decide (s.barOpen fn (s.dual &&
       fn == 0 && decide (2 ≤ mb)) = true)))) &&
     (let s : State := dev0; (let fn : Nat := 3; (let mb : Nat := 0; decide (hasMailbox (.bar fn mb) = true) && decide (s.barOpen fn (s.dual &&
       fn == 0 && decide (2 ≤ mb)) = false))))) = true := by decide +kernel
theorem test_witness_MailboxQueries_1 :
    (
     (true) &&
     (let s : State := dev0; decide (s.clk.isSet = true)) &&
     (let s : State := State.reset; decide (s.clk.isSet = false)) &&
     (let s : State := dev0; (let i : Nat := 0; (let sc : Nat := 0; decide (controlSpec s i sc = none)))) &&
     (let s : State := dev0; (let i : Nat := 0x00020001; (let sc : Nat := deviceScope; ((controlSpec s i sc).any fun k => (
       decide (scopeOk k.scope sc = true) && decide (perRelationship i = false)))))) &&
     (let s : State := dev0; (let nsid : Nat := 0; decide (s.ns? nsid = none))) &&
     (let s : State := dev0; (let m : MbxHdr := { via := .bar 1 0 }; (let nsid : Nat := 1; ((s.ns? nsid).any fun n => (
       decide (n.visibleTo m.via = false)))))) &&
     (let s : State := dev0; (let m : MbxHdr := { via := .bar 0 0 }; (let nsid : Nat := 1; ((s.ns? nsid).any fun n => (
       decide (n.visibleTo m.via = true)))))) &&
     (let s : State := dev0; (let m : MbxHdr := { via := .bar 0 0 }; (let nsid : Nat := 2; ((s.ns? nsid).any fun n => (
       decide (n.visibleTo m.via = true) && (let z : Nat := 4; decide (n.zoneCount ≤ z))))))) &&
     (let s : State := dev0; (let m : MbxHdr := { via := .bar 0 0 }; (let nsid : Nat := 1; ((s.ns? nsid).any fun n => (
       decide (n.visibleTo m.via = true) && (let z : Nat := 0; decide (z < n.zoneCount))))))) &&
     (let s : State := q1; (let m : MbxHdr := { via := .bar 1 0 }; decide (isManager m.via = false) && (let n : Nat := 1; decide (1 ≤ n) &&
       decide (n ≤ 4091) && (((s.slot n).owner).any fun f => (decide (callerOf m.via ≠ f)))))) &&
     (let s : State := q1; (let m : MbxHdr := { via := .bar 0 0 }; (let n : Nat := 1; decide (1 ≤ n) && decide (n ≤ 4091) &&
       (((s.slot n).owner).any fun f => (decide (isManager m.via = true ∨ callerOf m.via = f))))))) = true := by decide +kernel
theorem test_witness_MailboxQueries_2 :
    (
     (let s : State := dev0; (let m : MbxHdr := { via := .bar 0 0 }; decide (isManager m.via = true) && (let n : Nat := 1; decide (1 ≤ n) &&
       decide (n ≤ 4091) && decide ((s.slot n).owner = none)))) &&
     (let b : Nat := 84; decide (83 < b)) &&
     (let s : State := dev0; (let b : Nat := 0; decide (b ≤ 83) && (let n : Nat := 5; decide (n ≠ 0) && decide (s.ns? n = none)))) &&
     (let m : MbxHdr := { via := .bar 0 0 }; decide (isManager m.via = true) && (let b : Nat := 0; decide (b ≤ 83))) &&
     (let s : State := dev0; (let p : Nat := 32; decide (s.portN ≤ p))) &&
     (let s : State := dev0; (let p : Nat := 0; decide (p < s.portN))) &&
     (let p : Nat := 8; decide (8 ≤ p)) &&
     (let p : Nat := 0; decide (p < 8)) &&
     (let s : State := dev0; (let j : Nat := 0; decide (s.job? j = none))) &&
     (let s : State := dev0; (let j : Nat := 0; decide (s.mirror? j = none))) &&
     (let s : State := p1; (let j : Nat := 1; ((s.job? j).any fun x => (true)))) &&
     (let s : State := p1; (let j : Nat := 9; ((s.mirror? j).any fun x => (true))))) = true := by decide +kernel
theorem test_witness_MailboxQueries_3 :
    (
     (let s : State := dev0; (let j : Nat := 0; decide (s.fix.jobs.find? (fun x => x.job == j) = none))) &&
     (let s : State := q1; (let m : MbxHdr := { via := .bar 1 0 }; (let j : Nat := 1; ((s.fix.jobs.find? (fun x => x.job == j)).any fun x => (
       decide (callerOf x.via ≠ callerOf m.via)))))) &&
     (let s : State := q1; (let m : MbxHdr := { via := .bar 0 0 }; (let j : Nat := 1; ((s.fix.jobs.find? (fun x => x.job == j)).any fun x => (
       decide (callerOf x.via = callerOf m.via) && decide (x.ended = false)))))) &&
     (let s : State := q1; (let m : MbxHdr := { via := .bar 0 0 }; (let j : Nat := 4; ((s.fix.jobs.find? (fun x => x.job == j)).any fun x => (
       decide (callerOf x.via = callerOf m.via) && decide (x.ended = true)))))) &&
     (let s : State := State.reset; decide (s.obj.drive = none)) &&
     (let s : State := dev0; (s.obj.drive.any fun r => (true)))) = true := by decide +kernel
theorem test_witness_ManagerEffects_1 :
    (
     (let secs : Nat := 0; decide (secs < 1735689600)) &&
     (let s : State := q1; decide (s.clk.aonRuns = false) && (let secs : Nat := 1735689600; decide (1735689600 ≤ secs))) &&
     (let s : State := dev0; decide (s.clk.aonRuns = true) && (let secs : Nat := 1735689600; decide (1735689600 ≤ secs))) &&
     (let s : State := dev0; (let i : Nat := 0x00020001; (let sc : Nat := deviceScope; (let v : Nat := 2 ^ 40; ((controlSpec s i sc).any fun k => (
       decide (scopeOk k.scope sc = true) && decide (perRelationship i = false) && decide (i ≠ ctlAllowlist) && decide (i ≠ ctlCharge0) &&
       decide (v < k.lo ∨ k.hi < v))))))) &&
     (let s : State := dev0; (let i : Nat := 0x00070006; (let sc : Nat := deviceScope; (let v : Nat := 20; ((controlSpec s i sc).any fun k => (
       decide (scopeOk k.scope sc = true) && decide (perRelationship i = false) && decide (i ≠ ctlAllowlist) && decide (i ≠ ctlCharge0) &&
       decide (k.lo ≤ v) && decide (v ≤ k.hi) && decide (settingCombinationBad s i sc v = false) && decide (i ≠ ctlSpare) &&
       decide (i ≠ ctlHalPort))))))) &&
     (let s : State := dev0; (let i : Nat := 0x00070006; (let sc : Nat := deviceScope; ((controlSpec s i sc).any fun k => decide (absentInput s k.scope sc = false))))) &&
     (let s : State := { dev0 with variant := .btk8208 }; (let i : Nat := 0x00120013; (let sc : Nat := 16 + s.mastN; ((controlSpec s i sc).any fun k => (
       decide (scopeOk k.scope sc = true) && decide (perRelationship i = false) && decide (i ≠ ctlAllowlist) && decide (i ≠ ctlCharge0) &&
       decide (k.lo ≤ k.dflt) && decide (k.dflt ≤ k.hi) && decide (settingCombinationBad s i sc k.dflt = false) && decide (i ≠ ctlSpare) &&
       decide (i ≠ ctlHalPort) && decide (absentInput s k.scope sc = true)))))) &&
     (let s : State := dev0; (let i : Nat := 0; (let sc : Nat := 0; decide (controlSpec s i sc = none)))) &&
     (let s : State := dev0; (let i : Nat := 0x00020001; (let sc : Nat := 0; ((controlSpec s i sc).any fun k => (
       decide (scopeOk k.scope sc = false)))))) &&
     (let s : State := dev0; (let f : Nat := 0; decide (f < s.fns.length) && decide ((s.fn f).alloc.length = 8) && (let res : Nat := 1;
       decide (1 ≤ res) && decide (res ≤ 6)))) &&
     (let s : State := dev0; (let f : Nat := 1; decide (f < s.fns.length) && decide ((s.fn f).alloc.length = 8) && decide (1 ≤ f) &&
       (let v : Nat := 1025; decide (1024 < v)))) &&
     (let s : State := dev0; (let f : Nat := 1; decide (f < s.fns.length) && decide ((s.fn f).alloc.length = 8) && decide (1 ≤ f) &&
       (let v : Nat := 1023; decide (v ≤ 1024) && decide (s.allocOf f 3 < v) && decide (s.available f 3 < v)))) &&
     (let s : State := dev0; (let f : Nat := 1; decide (f < s.fns.length) && decide ((s.fn f).alloc.length = 8) && decide (1 ≤ f) &&
       (let v : Nat := 1; decide (v ≤ 1024) && decide (v ≤ s.allocOf f 3 ∨ v ≤ s.available f 3) && decide (s.useOf f 3 ≤ v)))) &&
     (let s : State := dev0; (let f : Nat := 1; decide (f < s.fns.length) && decide ((s.fn f).alloc.length = 8) && decide (1 ≤ f) &&
       (let v : Nat := 0; decide (v ≤ 1024) && decide (v ≤ s.allocOf f 3 ∨ v ≤ s.available f 3) && decide (v < s.useOf f 3))))) = true := by decide +kernel
theorem test_witness_ManagerEffects_2 :
    (
     (let s : State := dev0; (let f : Nat := 1; decide (f < s.fns.length) && decide ((s.fn f).alloc.length = 8) && decide (1 ≤ f) &&
       decide ((s.fn f).state ≠ .offline) && (let v : Nat := 0; decide (v ≤ 256)))) &&
     (let s : State := dev0; (let f : Nat := 2; decide (f < s.fns.length) && decide (s.canGoOnline f = true))) &&
     (let s : State := dev0; (let f : Nat := 0; decide (f < s.fns.length) && decide (s.canGoOnline f = false))) &&
     (let s : State := dev0; (let f : Nat := 1; decide (f < s.fns.length) && decide (1 ≤ f) && decide ((s.fn f).state = .online))) &&
     (let s : State := q3; (let f : Nat := 1; decide (f < s.fns.length) && decide ((s.fn f).state = .resetting))) &&
     (let s : State := dev0; (let f : Nat := 1; decide (1 ≤ f) && decide (f < s.fns.length) && decide ((s.fn f).state ≠ .offline))) &&
     (let s : State := dev0; (let f : Nat := 2; decide (1 ≤ f) && decide (f < s.fns.length) && decide ((s.fn f).state = .offline) &&
       decide (s.originNs f = []))) &&
     (let r := 0; (let s : State := dev0; (let f : Nat := 0; decide (f < s.fns.length) && (let c : Nat := 0; decide (960 < r ∨ c < 2))))) &&
     (let s : State := dev0; (let f : Nat := 0; decide (f < s.fns.length) && (let r : Nat := 1; decide (r ≤ 960) && decide (1 ≤ r) &&
       (let b : Nat := 0; decide (b < r ∨ 1024 < b))))) &&
     (let s : State := dev0; (let f : Nat := 0; decide (f < s.fns.length) && (let r : Nat := 1; decide (1 ≤ r) &&
       decide (sumOf (fun x => if x.fn == f then 0 else x.contract.reserved) s.fns + r ≤ 960) && (let b : Nat := 1; decide (r ≤ b) &&
       decide (b ≤ 1024) && (let g : Nat := 1; decide (1 ≤ g) && decide (g ≤ 1024)))))) &&
     (let s : State := dev0; (let f : Nat := 0; decide (f < s.fns.length))) &&
     (let s : State := dev0; decide (s.crowBarred = none))) = true := by decide +kernel
theorem test_witness_ManagerEffects_3 :
    (
     (let s : State := State.reset; (s.crowBarred.any fun d => (true))) &&
     (let s : State := q3; decide (s.pwr.poweringDown = true)) &&
     (let s : State := dev0; decide (s.pwr.poweringDown = false)) &&
     (let s : State := q1; decide (s.nrg.test.isSome = true)) &&
     (let s : State := dev0; (let v : Nat := 1000; decide (s.nrg.test = none) && decide (s.selfTestPasses (bankRaw s.record v) = true))) &&
     (let s : State := dev0; (let fns : Nat := 1; (let f : Nat := 0; decide (f ≤ 128) && decide (f < s.fns.length) && decide (bit fns f = true)))) &&
     (let s : State := q1; decide (s.fuses.ownerBanks ≠ [])) &&
     (let s : State := dev0; decide (s.fuses.ownerBanks = []) && (let key : PubKey := 0; decide (onCurve key = false))) &&
     (let s : State := dev0; decide (s.fuses.ownerBanks = []) && (let key : PubKey := genPt; decide (onCurve key = true))) &&
     (let s : State := q1; decide (s.fuses.ownerBanks.length = 16)) &&
     (let s : State := dev0; decide (s.fuses.ownerBanks.length < 16) && (let key : PubKey := genPt; decide (onCurve key = true))) &&
     (let s : State := State.reset; decide (s.provision = .unassembled))) = true := by decide +kernel
theorem test_witness_ManagerEffects_4 :
    (
     (let s : State := dev0; decide (s.provision ≠ .unassembled) && (let d : DriveRecord := {};
       decide (d.revision ≤ max ((s.obj.drive.map (fun x => x.revision)).getD 0) ((s.obj.nextDrive.map (fun x => x.revision)).getD 0)))) &&
     (let s : State := dev0; (let d : DriveRecord := { revision := 5 }; (let r : Nat := 0; (let g : Nat := 0; decide (s.provision ≠ .unassembled) &&
       decide (max ((s.obj.drive.map (fun x => x.revision)).getD 0) ((s.obj.nextDrive.map (fun x => x.revision)).getD 0) < d.revision) &&
       decide (s.makerSigned (driveMessage { d with sigR := r, sigS := g }) r g = false))))) &&
     (let s : State := m8; (let d : DriveRecord := rec5; (let r : Nat := mkSig; (let g : Nat := mkSig;
       decide (s.provision = .formatted) &&
       decide (max ((s.obj.drive.map (fun x => x.revision)).getD 0) ((s.obj.nextDrive.map (fun x => x.revision)).getD 0) < d.revision) &&
       decide (recordOk { d with sigR := r, sigS := g } = true) &&
       decide (s.makerSigned (driveMessage { d with sigR := r, sigS := g }) r g = true) &&
       decide (recordKeeps s.record { d with sigR := r, sigS := g } = true))))) &&
     (let s : State := State.reset; decide (s.provision = .unassembled)) &&
     (let s : State := { dev0 with nss := [] }; decide (s.provision = .unformatted ∨ s.provision = .formatted) &&
       decide ((s.peer.jobs).all (fun j => decide (j.live = false)) = true) && decide (s.peer.mirrors = []) &&
       decide ((s.nss).all (fun n => decide (n.deleted = true)) = true) && decide (s.media.readPreserve = false)) &&
     (let s : State := dev0; decide (s.media.readPreserve = false)) &&
     (let s : State := q1; decide (s.media.readPreserve = true) && decide (s.media.newerMajor = true ∨ s.availableBlocks < s.reservedBlocks)) &&
     (let s : State := m5; decide (s.media.readPreserve = true) && decide (s.media.newerMajor = false) &&
       decide (s.reservedBlocks ≤ s.availableBlocks) && decide ((widthsOf s.variant).all s.obtainable = true)) &&
     (let s : State := q1; (let k : Nat := 1; decide ((s.keys.ownerKeys.any fun x => x.slot == k) = true))) &&
     (let s : State := dev0; (let k : Nat := 0; decide ((s.keys.ownerKeys.any fun x => x.slot == k) = false))) &&
     (let g : Nat := 1; decide (g ≠ 0) && decide (g ∉ controlGroups))) = true := by decide +kernel
theorem test_witness_NamespaceAndKeyEffects_1 :
    (
     (let s : State := d5; (let l : Nat := 0; (let z : Nat := 1; decide (l ≤ 1) && decide (1 ≤ z) && decide (1 ≤ s.roomOf 0 5) &&
       decide (1 ≤ s.roomOf 0 6) && decide (1 ≤ s.roomOf 0 3) && decide (z * s.widest ≤ s.roomOf 0 4) && decide (s.nsCount < 1024) &&
       decide (s.reservedBlocks + z * s.widest ≤ s.availableBlocks)))) &&
     (let l : Nat := 2; decide (1 < l)) &&
     (let l : Nat := 0; decide (l ≤ 1)) &&
     (let l : Nat := 0; decide (l ≤ 1) && (let z : Nat := 1; decide (1 ≤ z) && (let sg : Nat := 17; decide (16 < sg)))) &&
     (let s : State := dev0; (let l : Nat := 0; decide (l ≤ 1) && (let z : Nat := 1; decide (1 ≤ z) && (let sg : Nat := 0; decide (sg ≤ 16) &&
       (let w : Nat := 1; decide (w ≠ 0) && decide (w ∉ widthsOf s.variant)))))) &&
     (let s : State := dev0; (let id : Nat := 0; decide (s.ns? id = none))) &&
     (let s : State := dev0; ((s.nss)[2]?.any fun n => (decide (s.ns? n.nsid = some n) && decide (n.conv = true)))) &&
     (let s : State := dev0; ((s.nss)[0]?.any fun n => (decide (s.ns? n.nsid = some n) && decide (n.conv = false)))) &&
     (let s : State := dev0; ((s.nss)[0]?.any fun n => (decide (s.ns? n.nsid = some n) && (let f : Nat := 1;
       decide (n.attached.contains f = false) && decide (s.attachable n f = true))))) &&
     (let s : State := dev0; ((s.nss)[1]?.any fun n => (decide (s.ns? n.nsid = some n) && (let f : Nat := 0;
       decide (n.attached.contains f = false) && decide (s.attachable n f = false))))) &&
     (let s : State := dev0; ((s.nss)[0]?.any fun n => (decide (s.ns? n.nsid = some n) && (let f : Nat := 0; decide (n.attached.contains f = true))))) &&
     (let s : State := dev0; ((s.nss)[0]?.any fun n => (decide (s.ns? n.nsid = some n) && (let f : Nat := 1;
       decide (n.attached.contains f = false)))))) = true := by decide +kernel
theorem test_witness_NamespaceAndKeyEffects_2 :
    (
     (let s : State := dev0; (let m : MbxHdr := { via := .bar 0 0 }; ((s.nss)[1]?.any fun n => (decide (s.ns? n.nsid = some n) &&
       decide (n.origin ≠ callerOf m.via))))) &&
     (let s : State := dev0; (let m : MbxHdr := { via := .bar 0 0 }; ((s.nss)[0]?.any fun n => (decide (s.ns? n.nsid = some n) &&
       decide (n.origin = callerOf m.via) && decide (n.origin < s.fns.length))))) &&
     (let s : State := dev0; ((s.nss)[0]?.any fun n => (decide (s.ns? n.nsid = some n) && decide (n.conv = false) && (let c : Nat := 2;
       decide (c ∉ n.permitted))))) &&
     (let s : State := dev0; ((s.nss)[0]?.any fun n => (decide (s.ns? n.nsid = some n) && decide (n.conv = false) && decide (n.permitted = [0, 1]) &&
       ((n.permitted)[0]?.any fun c => (decide (c = 0 ∨ c = 1) && decide (c ∈ n.permitted)))))) &&
     (let s : State := { (dev0.modNs 1 fun n => { n with permitted := [0, 1, 5], wmax := 32 }) with classes := [{ number := 5, width := 8, archival := false, affinity := 255 }] };
       (let n : Namespace := (s.ns? 1).getD default; (let c : Nat := 5; decide (s.ns? n.nsid = some n) && decide (n.conv = false) &&
       ((s.class? c).any fun k => decide (k.width ≤ n.wmax)) && decide (c ∈ n.permitted)))) &&
     (let c : Nat := 0; decide (c < 2 ∨ 63 < c)) &&
     (let s : State := dev0; ((widthsOf s.variant)[0]?.any fun w => (decide (w ∈ widthsOf s.variant) && (let c : Nat := 2; decide (2 ≤ c) &&
       decide (c ≤ 63) && decide ((s.nss).all (fun n => decide (n.cls ≠ c)) = true) && (let g : Nat := 0; decide (g ≤ 1) && (let a : Nat := 1;
       decide (1 ≤ a) && decide (a < 2 ^ s.mastN))))))) &&
     (let s : State := dev0; (let c : Nat := 2; decide (2 ≤ c) && decide (c ≤ 63) && decide (s.class? c = none))) &&
     (let s : State := { dev0 with classes := [{ number := 5, width := 8, archival := false, affinity := 255 }] }; (let c : Nat := 5;
       decide (2 ≤ c) && decide (c ≤ 63) && decide ((s.class? c).isSome = true) && decide ((s.nss).all (fun n => decide (n.cls ≠ c)) = true))) &&
     (let pt : PubKey := 0; decide (onCurve pt = false)) &&
     (let s : State := dev0; (let m : MbxHdr := { via := .bar 0 0 }; decide (callerOf m.via < s.fns.length) && (let pt : PubKey := genPt;
       decide (onCurve pt = true)))) &&
     (let s : State := dev0; (let m : MbxHdr := { via := .bar 0 0 }; (let sl : Nat := 0; decide ((s.slot sl).owner ≠ some (callerOf m.via))))) &&
     (let s : State := q1; (let m : MbxHdr := { via := .bar 0 0 }; (let sl : Nat := 1; decide ((s.slot sl).owner = some (callerOf m.via)) &&
       decide ((s.slot sl).state = .draining))))) = true := by decide +kernel
theorem test_witness_NamespaceAndKeyEffects_3 :
    (
     (let s : State := q1; (let m : MbxHdr := { via := .bar 0 0 }; (let sl : Nat := 3; decide ((s.slot sl).owner = some (callerOf m.via)) &&
       decide ((s.slot sl).state ≠ .draining) && (let k : Nat := 0; decide ((s.fn (callerOf m.via)).keks.find? (fun x => x.index == k) = none))))) &&
     (let s : State := q1; (let m : MbxHdr := { via := .bar 0 0 }; (let sl : Nat := 1;
       decide ((s.slot sl).owner = some (callerOf m.via) ∨ isManager m.via = true) && decide ((s.slot sl).owner.isSome = true) &&
       decide ((s.slot sl).state = .draining)))) &&
     (let s : State := q1; (let m : MbxHdr := { via := .bar 0 0 }; (let sl : Nat := 3;
       decide ((s.slot sl).owner = some (callerOf m.via) ∨ isManager m.via = true) && decide ((s.slot sl).owner.isSome = true) &&
       decide ((s.slot sl).state = .active ∨ (s.slot sl).state = .limited)))) &&
     (let s : State := q1; (let m : MbxHdr := { via := .bar 0 0 }; (let sl : Nat := 5;
       decide ((s.slot sl).owner = some (callerOf m.via) ∨ isManager m.via = true) && decide ((s.slot sl).owner.isSome = true) &&
       decide ((s.slot sl).state = .awaiting)))) &&
     (let s : State := dev0; (let m : MbxHdr := { via := .bar 0 0 }; ((s.nss)[0]?.any fun n => (decide (s.ns? n.nsid = some n) &&
       decide (n.attached.contains (callerOf m.via) = true))))) &&
     (let s : State := q1; (let m : MbxHdr := { via := .bar 0 0 }; ((s.nss)[0]?.any fun n => (decide (s.ns? n.nsid = some n) &&
       decide (n.attached.contains (callerOf m.via) = true) && (let sl : Nat := 1; decide (1 ≤ sl) && decide (sl ≤ 4091) &&
       decide ((s.slot sl).owner = some (callerOf m.via))))))) &&
     (let s : State := dev0; (let m : MbxHdr := { via := .bar 0 0 }; ((s.nss)[0]?.any fun n => (decide (s.ns? n.nsid = some n) &&
       decide (n.attached.contains (callerOf m.via) = true) && (let sl : Nat := 1; decide (1 ≤ sl) && decide (sl ≤ 4091) &&
       decide ((s.slot sl).owner ≠ some (callerOf m.via))))))) &&
     (let s : State := dev0; (let m : MbxHdr := { via := .bar 0 0 }; (let sl : Nat := 0; decide ((s.slot sl).owner ≠ some (callerOf m.via))))) &&
     (let s : State := q1; decide (s.peer.jobs = []) && (let m : MbxHdr := { via := .bar 0 0 }; (let sl : Nat := 3;
       decide ((s.slot sl).owner = some (callerOf m.via)) && decide ((s.slot sl).state = .active ∨ (s.slot sl).state = .limited))))) = true := by decide +kernel
theorem test_witness_PeerCommandEffects_1 :
    (
     (let s : State := { dev0 with ctl := [(ctlPairPolicy, deviceScope, 1)] }; decide (s.ctlValue ctlPairPolicy = 1)) &&
     (let s : State := dev0; decide (s.ctlValue ctlPairPolicy ≠ 1) && (let fp : Digest := 0; decide (s.partner? fp = none))) &&
     (let s : State := p1; decide (s.ctlValue ctlPairPolicy ≠ 1) && (let fp : Digest := 7; ((s.partner? fp).any fun p => (
       decide (s.hasPairing fp = true))))) &&
     (let s : State := m6; (let fp : Digest := 12; decide (s.ctlValue ctlPairPolicy ≠ 1) && ((s.partner? fp).any fun p => (
       decide (s.hasPairing fp = false) && decide (p.state ≠ .known))))) &&
     (let s : State := p1; decide (s.ctlValue ctlPairPolicy ≠ 1) && decide (s.hal.pairings.length < 64) && (let fp : Digest := 9;
       ((s.partner? fp).any fun p => (decide (s.hasPairing fp = false) && decide (p.state = .known))))) &&
     (let s : State := dev0; (let fp : Digest := 0; decide (s.hasPairing fp = false))) &&
     (let s : State := p1; (let fp : Digest := 7; decide (s.hasPairing fp = true))) &&
     (let s : State := dev0; (let fp : Digest := 0; decide (s.inQuarantine fp = false))) &&
     (let s : State := p1; (let fp : Digest := 10; decide (s.inQuarantine fp = true))) &&
     (let s : State := dev0; (let d : Digest := 0; ((s.noStart d).any fun r => (true)))) &&
     (let s : State := p1; (let d : Digest := 7; decide (s.noStart d = none) && (let nsid : Nat := 0; decide (s.ns? nsid = none)))) &&
     (let s : State := p1; (let d : Digest := 7; decide (s.noStart d = none) && (let nsid : Nat := 3; ((s.ns? nsid).any fun n => (
       decide (n.conv = true ∨ n.landing = true))))))) = true := by decide +kernel
theorem test_witness_PeerCommandEffects_2 :
    (
     (let s : State := p1; (let d : Digest := 7; decide (s.noStart d = none) && (let nsid : Nat := 1; ((s.ns? nsid).any fun n => (
       decide (n.conv = false) && decide (n.landing = false) && (let zs : List Nat := [0];
       decide ((zs).all (fun z => decide (z < n.zoneCount)) = true) && decide (zs ≠ []))))))) &&
     (let s : State := dev0; (let d : Digest := 0; decide ((s.isPaired d || s.hasPairing d) = false))) &&
     (let s : State := p1; (let d : Digest := 7; decide ((s.isPaired d || s.hasPairing d) = true) && (let nsid : Nat := 0;
       ((s.landable nsid).any fun r => (true))))) &&
     (let s : State := p1; (let d : Digest := 7; decide ((s.isPaired d || s.hasPairing d) = true) &&
       decide ((s.peer.jobs).all (fun j => decide (¬ (j.source = false ∧ j.state = .offered ∧ j.partner = d))) = true) && (let nsid : Nat := 4;
       decide (s.landable nsid = none) && ((s.ns? nsid).any fun n => ((let c : Nat := 0; ((s.classFields n c).any fun k => (true)))))))) &&
     (let s : State := dev0; (let id : Nat := 0; decide (s.job? id = none))) &&
     (let s : State := p1; (let id : Nat := 7; ((s.job? id).any fun j => (decide (j.live = false))))) &&
     (let s : State := p1; (let id : Nat := 1; ((s.job? id).any fun j => (decide (j.live = true))))) &&
     (let s : State := dev0; (let d : Digest := 0; ((s.noStart d).any fun r => (true)))) &&
     (let s : State := p1; decide (s.peer.mirrors.length < 64) && (let nsid : Nat := 1; ((s.ns? nsid).any fun n => (decide (n.conv = false) &&
       decide (n.landing = false) && (let a : Nat := 0; (let k : Nat := 1; decide (1 ≤ k) && decide (a + k ≤ n.zoneCount) && (let d : Digest := 7;
       decide (s.noStart d = none)))))))) &&
     (let s : State := dev0; (let id : Nat := 0; decide (s.mirror? id = none))) &&
     (let s : State := p1; (let id : Nat := 9; ((s.mirror? id).any fun x => (decide (x.source = true))))) &&
     (let s : State := p1; (let id : Nat := 10; ((s.mirror? id).any fun x => (decide (x.source = false) && decide (x.ended = false)))))) = true := by decide +kernel
theorem test_witness_PeerCommandEffects_3 :
    (
     (let s : State := p1; (let id : Nat := 10; ((s.mirror? id).any fun x => (decide (x.source = false)))))) = true := by decide +kernel
theorem test_witness_HalyardPackets_1 :
    (
     (let s : State := h1; (let port : Nat := 0; (let seq : Nat := 1; decide (s.accepts port seq 0x03 1 = true)))) &&
     (let a : Nat := 0; decide (a ≠ 2 ^ 64 - 1) && (let p : HPort := {}; decide (¬ (p.auth.doneSent = true ∧ p.auth.doneGot = false)))) &&
     (let a : Nat := 0; decide (a ≠ 2 ^ 64 - 1) && (let p : HPort := {}; decide (¬ (p.auth.doneSent = true ∧ p.auth.doneGot = false)))) &&
     (let s : State := h1; (let port : Nat := 0; decide ((s.hport port).wait = []) && (let k : TxPkt := { seq := 0, ptype := 16 };
       decide (carries (s.hport port).state k.ptype = true) && decide (freePacket k.ptype = false) && decide (k.count ≤ (s.hport port).ctlCredits)))) &&
     (let s : State := h5; (let port : Nat := 0; (let k : TxPkt := { seq := 0, ptype := 16 }; decide (carries (s.hport port).state k.ptype = true) &&
       decide (freePacket k.ptype = false) && decide ((s.hport port).wait ≠ [] ∨ (s.hport port).ctlCredits < k.count)))) &&
     (let s : State := h1; (let port : Nat := 0; decide (port < s.hal.ports.length) && (let seq : Nat := 1;
       decide (s.accepts port seq 0x04 1 = true) && (let a : Nat := 0;
       (let run := (if (s.hport port).nakSeq = some a then (s.hport port).nakRun + 1 else 1); decide (run < 8)))))) &&
     (let s : State := h5; (let port : Nat := 0; decide (port < s.hal.ports.length) && (let seq : Nat := 1;
       decide (s.accepts port seq 0x04 1 = true) && (let a : Nat := 1;
       (let run := (if (s.hport port).nakSeq = some a then (s.hport port).nakRun + 1 else 1); decide (8 ≤ run)))))) &&
     (let s : State := h1; (let port : Nat := 0; (let seq : Nat := 1; decide (s.accepts port seq 0x05 1 = true)))) &&
     (let s : State := h5; (let port : Nat := 0; decide (port < s.hal.ports.length) && (((s.hport port).echoOut).any fun n => ((let seq : Nat := 1;
       decide (s.accepts port seq 0x06 1 = true)))))) &&
     (let s : State := h1; (let port : Nat := 0; decide (port < s.hal.ports.length) && (let seq : Nat := 1;
       decide (s.accepts port seq 0x06 1 = true) && (let n : Nat := 0; decide ((s.hport port).echoOut ≠ some n))))) &&
     (let s : State := p1; (let port : Nat := 0; (let u := s.took port 0x07 1; (let seq : Nat := 1; decide (s.accepts port seq 0x07 1 = true) &&
       (let o : Digest := 10; decide ((u.inQuarantine s.ownFp || u.inQuarantine o) = true)))))) &&
     (let s : State := h1; (let port : Nat := 0; (let u := s.took port 0x07 1; decide (u.inQuarantine s.ownFp = false) &&
       ((u.freeLabel port).any fun l => ((let seq : Nat := 1; decide (s.accepts port seq 0x07 1 = true) && (let num : Nat := 0; (let o : Digest := 0;
       decide (u.inQuarantine o = false) && decide ((u.hal.seen.any fun e => e.1 == o && e.2.1 == num &&
       decide (u.clk.frame < e.2.2 + 64)) = false) && ((u.ensurePartner o).any fun v => (true))))))))))) = true := by decide +kernel
theorem test_witness_HalyardPackets_2 :
    (
     (let s : State := h1; (let port : Nat := 0; (let u := s.took port 0x07 1; (let seq : Nat := 1; decide (s.accepts port seq 0x07 1 = true) &&
       (let hops : Nat := 255; (let lat : Nat := 0; decide (s.ctlValue ctlRelaying ≠ 1 ∨ 255 ≤ hops ∨ s.pathBudget < lat + (u.hport port).hopNs) &&
       (let t : Digest := 0; decide (u.inQuarantine t = false) && decide (t ≠ s.ownFp) && (let o : Digest := 0;
       decide (u.inQuarantine o = false))))))))) &&
     (let s : State := h1; (let port : Nat := 0; (let u := s.took port 0x08 1; (let seq : Nat := 1; decide (s.accepts port seq 0x08 1 = true) &&
       (let num : Nat := 0; (let t : Digest := 0; decide ((u.hal.probes.any fun p => p.number == num && p.target == t) = false))))))) &&
     (let s : State := m7; (let port : Nat := 0; (let seq : Nat := 1; (let num : Nat := 1; (let t : Digest := 7;
       decide (s.accepts port seq 0x08 1 = true) && (let u := s.took port 0x08 1; decide ((u.hal.probes.any fun p => p.number == num &&
       p.target == t) = true) && ((u.ensurePartner t).any fun v => (
       decide (((v.partner? t).getD { fp := t }).auth.session = true ∨ ((v.partner? t).getD { fp := t }).auth.hailSent = true))))))))) &&
     (let s : State := p1; (let port : Nat := 1; (let u := s.took port 0x08 1; (let seq : Nat := 1; decide (s.accepts port seq 0x08 1 = true) &&
       (let num : Nat := 2; (let o : Digest := 1; decide (o ≠ s.ownFp) && (((u.hal.labels.find? fun l => l.outPort == some port &&
       l.outLabel.isNone && l.origin == o && l.number == num)).any fun k => (true)))))))) &&
     (let s : State := h1; (let port : Nat := 0; (let seq : Nat := 1; decide (s.accepts port seq 0x09 1 = true) && (let lb : Nat := 0;
       (let u := (s.took port 0x09 1).raise (halSrc port 10) 1 1 [lb]; decide ((u.hal.labels.find? fun l => l.inPort == port &&
       l.inLabel == lb || l.outPort == some port && l.outLabel == some lb) = none)))))) &&
     (let s : State := p1; (let port : Nat := 0; (let seq : Nat := 1; decide (s.accepts port seq 0x09 1 = true) && (let lb : Nat := 2;
       (let u := (s.took port 0x09 1).raise (halSrc port 10) 1 1 [lb]; (((u.hal.labels.find? fun l => l.inPort == port &&
       l.inLabel == lb || l.outPort == some port && l.outLabel == some lb)).any fun k => (decide (u.relayOf port lb = none)))))))) &&
     (let s : State := p2; decide (s.peer.jobs = []) && (let port : Nat := 0; (((s.hport port).neighbour).any fun fp => (
       ((s.partner? fp).any fun p => ((let seq : Nat := 1; decide (s.accepts port seq 0x0A 1 = true)))))))) &&
     (let s : State := h1; (let port : Nat := 0; (let u := s.took port 0x0C 1; (let seq : Nat := 1; decide (s.accepts port seq 0x0C 1 = true) &&
       (let lb : Nat := 0; decide (u.relayOf port lb = none) && (let tag : Nat := 0; decide ((u.hal.reqs.find? fun x => x.port == port &&
       x.label == lb && x.tag == tag && tag != 0) = none))))))) &&
     (let s : State := p1; (let port : Nat := 0; (let u := s.took port 0x0C 1; (let seq : Nat := 1; decide (s.accepts port seq 0x0C 1 = true) &&
       (let lb : Nat := 0; (let tag : Nat := 1; (((u.hal.reqs.find? fun x => x.port == port && x.label == lb && x.tag == tag &&
       tag != 0)).any fun x => (decide (x.relay = none))))))))) &&
     (let s : State := h1; (let port : Nat := 0; decide ((s.hport port).auth.session = true) && (let seq : Nat := 1; (let t : Nat := 0;
       decide (s.accepts port seq t 1 = true))))) &&
     (let s : State := h2; (let port : Nat := 0; decide ((s.hport port).auth.session = false) && (let seq : Nat := 0; (let t : Nat := 1;
       decide (s.accepts port seq t 1 = true))))) &&
     (let s : State := h1; (let port : Nat := 0; decide (port < 3) && decide ((s.hport port).state ≠ .down) &&
       decide ((s.hport port).state ≠ .training)))) = true := by decide +kernel
theorem test_witness_HalyardPackets_3 :
    (
     (let s : State := dev0; (let port : Nat := 0; decide (port < 3) && decide ((s.hport port).state = .down ∨ (s.hport port).state = .training)))) = true := by decide +kernel
theorem test_witness_HalyardLinks_1 :
    (
     (let s : State := dev0; (let port : Nat := 0; decide (port < 3) && decide ((s.hport port).state = .down) && decide (s.portRuns port = true) &&
       decide ((s.hport port).foreignUntil = none) &&
       decide ((s.hport port).lastDetect = none ∨ ((((s.hport port).lastDetect).any fun f => decide (f + 62500 ≤ s.clk.frame)) = true)))) &&
     (let s : State := dev0; (let port : Nat := 0; decide (port < 3) && decide ((s.hport port).state = .down) && decide (s.portRuns port = true) &&
       decide ((s.hport port).foreignUntil = none) &&
       decide ((s.hport port).lastDetect = none ∨ ((((s.hport port).lastDetect).any fun f => decide (f + 62500 ≤ s.clk.frame)) = true)))) &&
     (let s : State := State.reset; (let port : Nat := 0; decide (port < 3) && decide ((s.hport port).state ≠ .down ∨ s.portRuns port = false))) &&
     (let s : State := dev0; (let port : Nat := 0; decide (port < s.hal.ports.length))) &&
     (let s : State := h1; (let port : Nat := 1; decide (port < 3) && decide (port < s.hal.ports.length) &&
       decide ((s.hport port).state = .training) && (let n : Nat := 0; decide (n ≠ 0x48)))) &&
     (let s : State := h1; (let port : Nat := 1; decide (port < 3) && decide ((s.hport port).state = .training))) &&
     (let s : State := h5; (let port : Nat := 1; decide (port < 3) && (((s.hport port).foreignUntil).any fun f => (decide (f ≤ s.clk.frame) &&
       decide (s.portRuns port = true))))) &&
     (let s : State := h5; (let port : Nat := 2; decide (port < 3) && (((s.hport port).foreignUntil).any fun f => (decide (s.clk.frame < f))))) &&
     (let s : State := h9; (let port : Nat := 0; decide (port < 3) && decide (port < s.hal.ports.length) &&
       decide ((s.hport port).state = .training) && decide ((s.hport port).before = none) && decide (s.clk.frame ≤ (s.hport port).since + 12500))) &&
     (let s : State := h9; (let port : Nat := 1; decide (port < 3) && decide (port < s.hal.ports.length) &&
       decide ((s.hport port).state = .training) && (((s.hport port).before).any fun st => (decide (s.clk.frame ≤ (s.hport port).since + 6250))))) &&
     (let s : State := dev0; (let port : Nat := 0; decide (port < 3) &&
       decide ((s.hport port).state ≠ .training ∨ (s.hport port).since + 12500 < s.clk.frame))) &&
     (let s : State := h1; (let port : Nat := 1; decide (port < 3) && decide ((s.hport port).state = .training) &&
       decide ((s.hport port).before = none) && decide ((s.hport port).since + 12500 ≤ s.clk.frame)))) = true := by decide +kernel
theorem test_witness_HalyardLinks_2 :
    (
     (let s : State := h2; (let port : Nat := 0; decide (port < 3) && decide ((s.hport port).state = .hailing) &&
       decide ((s.hport port).since + 625 ≤ s.clk.frame))) &&
     (let s : State := h2; (let port : Nat := 1; decide (port < 3) && decide ((s.hport port).state = .authenticating) &&
       decide ((s.hport port).since + 6250 ≤ s.clk.frame))) &&
     (let s : State := h3; (let port : Nat := 0; decide (port < 3) && decide ((s.hport port).state = .training) &&
       decide ((s.hport port).before.isSome = true) && decide ((s.hport port).since + 6250 ≤ s.clk.frame))) &&
     (let s : State := h4; (let port : Nat := 0; decide (port < 3) && decide ((s.hport port).state = .authenticating ∨ (s.hport port).up = true) &&
       decide (4 ≤ (s.hport port).silent))) &&
     (let s : State := dev0; (let port : Nat := 0; decide (port < 3) && decide ((s.hport port).silent < 4))) &&
     (let s : State := dev0; (let port : Nat := 0; decide (port < 3) && decide ((s.hport port).state ≠ .hailing))) &&
     (let s : State := dev0; (let port : Nat := 0; decide (port < 3) && decide ((s.hport port).state ≠ .authenticating))) &&
     (let s : State := h1; (let port : Nat := 0; decide (port < s.hal.ports.length) && decide ((s.hport port).state ≠ .down))) &&
     (let s : State := p1; (let fp : Digest := 10; decide ((s.hal.quarantine.any fun e => e.1 == fp && decide (e.2 ≤ s.clk.frame)) = true))) &&
     (let s : State := dev0; (let fp : Digest := 0; decide ((s.hal.quarantine.any fun e => e.1 == fp && decide (e.2 ≤ s.clk.frame)) = false))) &&
     (let s : State := h8; (let port : Nat := 0; decide (port < 3) && decide ((s.hport port).up = true) &&
       decide ((s.hport port).auth.rekey = false) && decide (s.isL (s.hport port).auth = true) &&
       decide ((s.hport port).auth.sessionFrame + s.ctlValue ctlRekey ≤ s.clk.frame ∨ 2 ^ 39 ≤ (s.hport port).txSeq))) &&
     (let s : State := dev0; (let port : Nat := 0; decide (port < 3) && decide ((s.hport port).up = false)))) = true := by decide +kernel
theorem test_witness_HalyardLinks_3 :
    (
     (let s : State := dev0; (let port : Nat := 0; decide (port < 3) && decide (s.isL (s.hport port).auth = false))) &&
     (let s : State := dev0; (let port : Nat := 0; decide (port < 3) && decide ((s.hport port).measured + 62500 ≤ s.clk.frame))) &&
     (let s : State := State.reset; (let port : Nat := 0; decide (port < 3) && decide (s.clk.frame < (s.hport port).measured + 62500))) &&
     (let s : State := h1; (let port : Nat := 0; decide (port < s.hal.ports.length) && decide ((s.hport port).up = true) &&
       decide ((s.hport port).echoSent = false))) &&
     (let s : State := p1; (let n : Nat := 1; (((s.hal.probes.find? fun p => p.number == n && decide (p.sent + 62500 ≤ s.clk.frame))).any fun p => (
       decide (p.wake = false))))) &&
     (let s : State := p1; (let n : Nat := 2; (((s.hal.probes.find? fun p => p.number == n && decide (p.sent + 62500 ≤ s.clk.frame))).any fun p => (
       decide (p.wake = true))))) &&
     (let s : State := dev0; (let n : Nat := 0; decide ((s.hal.probes).all (fun p => decide (p.number = n → s.clk.frame < p.sent + 62500)) = true))) &&
     (let s : State := h4; (let port : Nat := 0; decide (port < 3) && (((s.hport port).waking).any fun (b, l) => (decide (l + 62500 ≤ s.clk.frame) &&
       decide (s.clk.frame < b + s.ctlValue ctlWakeTimeout))))) &&
     (let s : State := h6; (let port : Nat := 1; decide (port < 3) && (((s.hport port).waking).any fun (b, l) => (decide (s.clk.frame < l + 62500))))) &&
     (let s : State := h4; (let port : Nat := 1; decide (port < 3) && (((s.hport port).waking).any fun (b, l) => (
       decide (b + s.ctlValue ctlWakeTimeout ≤ s.clk.frame))))) &&
     (let s : State := h4; (let port : Nat := 1; decide (port < 3) && (((s.hport port).waking).any fun (b, l) => (
       decide ((s.hport port).wokenAt = none) && (((s.hport port).neighbour).any fun fp => (decide (b + s.ctlValue ctlWakeTimeout ≤ s.clk.frame))))))) &&
     (let s : State := h4; (let port : Nat := 0; decide (port < 3) && (((s.hport port).waking).any fun (b, l) => (
       decide ((s.hport port).wokenAt = none) && (((s.hport port).neighbour).any fun fp => (decide (s.clk.frame < b + s.ctlValue ctlWakeTimeout)))))))) = true := by decide +kernel
theorem test_witness_HalyardLinks_4 :
    (
     (let s : State := h10; (let port : Nat := 0; decide (port < 3) && decide (s.ctlValue ctlHalWake port = 0 ∨ s.portEnabled port = false))) &&
     (let s : State := wc; decide (s.pwr.dev = .crowsNest) && (let port : Nat := 0; decide (port < 3) && decide (s.ctlValue ctlHalWake port ≠ 0) &&
       decide (s.portEnabled port = true))) &&
     (let s : State := dev0; decide (s.ready = true) && (let port : Nat := 0; decide (port < 3) && decide (s.ctlValue ctlHalWake port ≠ 0) &&
       decide (s.portEnabled port = true) && decide ((s.hport port).state = .down) && decide (s.portRuns port = true))) &&
     (let s : State := h1; decide (s.ready = true) && (let port : Nat := 0; decide (port < 3) && decide (s.ctlValue ctlHalWake port ≠ 0) &&
       decide (s.portEnabled port = true) && decide ((s.hport port).state ≠ .down))) &&
     (let s : State := h4; (let port : Nat := 2; decide (port < 3) && decide ((s.hport port).waking = none) &&
       (((s.hport port).wokenAt).any fun f => (decide (f + s.ctlValue ctlWakeTimeout ≤ s.clk.frame) && decide ((s.hport port).state ≠ .paired))))) &&
     (let s : State := h6; (let port : Nat := 0; decide (port < 3) && decide ((s.hport port).waking = none) &&
       (((s.hport port).wokenAt).any fun f => (decide ((s.hport port).state = .paired)))))) = true := by decide +kernel
theorem test_witness_HalyardAuthentication_1 :
    (
     (let s : State := h1; (let hl : Hail := { version := 32, sendPort := 0, fingerprint := 5, powerOn := 1 }; decide (hl.version / 16 ≠ 1) &&
       (let port : Nat := 0; (let seq : Nat := 1; decide (s.accepts port seq 0x01 1 = true))))) &&
     (let s : State := h1; (let hl : Hail := { version := 16, sendPort := 0, fingerprint := dev0.ownFp, powerOn := 3 };
       decide (hl.version / 16 = 1) && decide (hl.fingerprint = s.ownFp) && decide (hl.powerOn = s.clk.poc) && (let port : Nat := 0;
       (let seq : Nat := 1; decide (s.accepts port seq 0x01 1 = true))))) &&
     (let s : State := h1; (let hl : Hail := { version := 16, sendPort := 0, fingerprint := dev0.ownFp, powerOn := 1 };
       decide (hl.version / 16 = 1) && decide (hl.fingerprint = s.ownFp) && decide (hl.powerOn ≠ s.clk.poc) && (let port : Nat := 0;
       (let u := s.took port 0x01 1; ((u.ensurePartner hl.fingerprint).any fun v => ((let seq : Nat := 1;
       decide (s.accepts port seq 0x01 1 = true)))))))) &&
     (let s : State := p1; (let hl : Hail := { version := 16, sendPort := 0, fingerprint := 11, powerOn := 1 }; decide (hl.version / 16 = 1) &&
       decide (hl.fingerprint ≠ s.ownFp) && decide (s.inQuarantine hl.fingerprint = true) && (let port : Nat := 0; (let seq : Nat := 1;
       decide (s.accepts port seq 0x01 1 = true))))) &&
     (let s : State := h1; decide (s.hal.partners.length < 256) &&
       (let hl : Hail := { version := 16, sendPort := 0, fingerprint := 5, powerOn := 1 }; decide (hl.version / 16 = 1) &&
       decide (hl.fingerprint ≠ s.ownFp) && decide (s.inQuarantine hl.fingerprint = false) && (let port : Nat := 0;
       decide (port < s.hal.ports.length) && (let seq : Nat := 1; decide (s.accepts port seq 0x01 1 = true))))) &&
     (let s : State := h1; (let hl : Hail := { version := 16, sendPort := 0, fingerprint := 5, powerOn := 1 }; (let port : Nat := 0;
       (let u := s.took port 0x10 1; (let seq : Nat := 1; decide (s.accepts port seq 0x10 1 = true) && (let l : Nat := 0;
       decide (u.peerOf port l ≠ some hl.fingerprint))))))) &&
     (let s : State := dev0; decide (s.hal.partners.length < 256)) &&
     (let s : State := h1; (let port : Nat := 0; (let seq : Nat := 1; decide (s.accepts port seq 0x02 1 = true)))) &&
     (let s : State := h2; (let port : Nat := 1; (let u := s.took port 0x02 1; (((u.hport port).auth.hail).any fun hl => ((let seq : Nat := 0;
       decide (s.accepts port seq 0x02 1 = true) && (let key : PubKey := 0; decide (keyPrint key ≠ hl.fingerprint)))))))) &&
     (let s : State := h7; (let port : Nat := 0; (let u := s.took port 0x02 1; (((u.hport port).auth.hail).any fun hl => ((let seq : Nat := 0;
       decide (s.accepts port seq 0x02 1 = true) && (let key : PubKey := genPt; decide (keyPrint key = hl.fingerprint)))))))) &&
     (let s : State := h1; (let port : Nat := 0; (let seq : Nat := 1; decide (s.accepts port seq 0x02 1 = true) && (let pt : PubKey := 0;
       decide (onCurve pt = false))))) &&
     (let s : State := h1; (let port : Nat := 0; (let seq : Nat := 1; decide (s.accepts port seq 0x02 1 = true) && (let pt : PubKey := genPt;
       decide (onCurve pt = true)))))) = true := by decide +kernel
theorem test_witness_HalyardAuthentication_2 :
    (
     (let s : State := h7; (let port : Nat := 0; decide (port < s.hal.ports.length) && (((s.hport port).auth.share).any fun (pt, rnd) => (
       decide ((s.hport port).auth.shareSent = true) && decide ((s.hport port).auth.sigSent = false))))) &&
     (let s : State := h1; (let port : Nat := 0; (let u := s.took port 0x02 1; decide ((u.hport port).auth.key = none) && (let seq : Nat := 1;
       decide (s.accepts port seq 0x02 1 = true))))) &&
     (let s : State := h7; (let port : Nat := 0; (let u := s.took port 0x02 1; (((u.hport port).auth.key).any fun key => ((let seq : Nat := 0;
       decide (s.accepts port seq 0x02 1 = true) && (let r : Nat := 0; (let g : Nat := 0;
       decide (ecdsaVerify key (authMessage (u.transcript port (u.hport port).auth)) r g = false))))))))) &&
     (let s : State := h11; (let port : Nat := 0; (let seq : Nat := 1; (let r : Nat := peerSig; (let g : Nat := peerSig;
       decide (s.accepts port seq 0x02 1 = true) && (let u := s.took port 0x02 1; (((u.hport port).auth.key).any fun key => (
       decide ((u.hport port).auth.share.isSome = true) && decide ((u.hport port).auth.shareSent = true) &&
       decide (ecdsaVerify key (authMessage (u.transcript port (u.hport port).auth)) r g = true))))))))) &&
     (let s : State := h7; (let port : Nat := 2; decide (port < s.hal.ports.length) && decide ((s.hport port).auth.sigOk = true) &&
       decide ((s.hport port).auth.sigSent = true) && decide ((s.hport port).auth.doneSent = false))) &&
     (let s : State := dev0; (let port : Nat := 0; decide (port < 3) && decide ((s.hport port).state ≠ .authenticating))) &&
     (let s : State := h2; (let port : Nat := 1; decide (port < 3) && decide ((s.hport port).state = .authenticating) && (let seq : Nat := 0;
       decide (seq ≠ 0 ∨ (s.hport port).auth.doneSent = false)))) &&
     (let s : State := h7; (let port : Nat := 1; decide (port < 3) && decide (port < s.hal.ports.length) &&
       decide ((s.hport port).state = .authenticating) && decide ((s.hport port).auth.doneSent = true) &&
       decide ((s.hport port).auth.rekey = false) && (((s.hport port).neighbour).any fun fp => (true)))) &&
     (let s : State := h1; (let port : Nat := 0; (let u := s.took port 0x10 1; (let seq : Nat := 1; decide (s.accepts port seq 0x10 1 = true) &&
       (let l : Nat := 0; decide ((u.authOf port (some l)).doneSent = false)))))) &&
     (let s : State := p8; (let port : Nat := 0; (let seq : Nat := 1; (let l : Nat := 0; decide (s.accepts port seq 0x10 1 = true) &&
       (let u := s.took port 0x10 1; decide ((u.authOf port (some l)).doneSent = true)))))) &&
     (let s : State := h3; (let port : Nat := 2; (let u := s.took port 0x0B 1; decide ((u.hport port).auth.rekey = true) && (let seq : Nat := 1;
       decide (s.accepts port seq 0x0B 1 = true))))) &&
     (let s : State := h1; (let port : Nat := 0; (let u := s.took port 0x0B 1; decide ((u.hport port).auth.rekey = false) && (let seq : Nat := 1;
       decide (s.accepts port seq 0x0B 1 = true)))))) = true := by decide +kernel
theorem test_witness_HalyardAuthentication_3 :
    (
     (let s : State := h1; (let port : Nat := 0; (let u := s.took port 0x0B 1; decide ((u.hport port).auth.rekey = false) && (let seq : Nat := 1;
       decide (s.accepts port seq 0x0B 1 = true))))) &&
     (let s : State := h3; (let port : Nat := 2; (let u := s.took port 0x0B 1; decide ((u.hport port).auth.rekey = true) && (let seq : Nat := 1;
       decide (s.accepts port seq 0x0B 1 = true))))) &&
     (let s : State := h3; (let port : Nat := 2; decide (port < 3) && decide (port < s.hal.ports.length) && decide ((s.hport port).up = true) &&
       decide ((s.hport port).auth.rekey = true) && decide ((s.hport port).auth.doneSent = true))) &&
     (let s : State := dev0; (let port : Nat := 0; decide (port < 3) && decide ((s.hport port).up = false ∨ (s.hport port).auth.rekey = false)))) = true := by decide +kernel
theorem test_witness_PeerRequests_1 :
    (
     (let s : State := h2; (let i : Instr := .chunkRead 2 1 0 1 1 0 0 16 1000; ((requestOf i).any fun (seq, r, pk) => (
       decide (s.accepts r.port seq 0x20 pk = true) && decide ((s.hport r.port).state ≠ .paired))))) &&
     (let s : State := h1; (let i : Instr := .chunkRead 0 1 0 1 1 0 0 16 1000; ((requestOf i).any fun (seq, r, pk) => (
       decide (s.accepts r.port seq 0x20 pk = true) && (let u := s.took r.port 0x20 pk; decide ((s.hport r.port).state = .paired) &&
       decide (u.relayOf r.port r.label = none) && ((u.peerOf r.port r.label).any fun fp => (decide (u.isPaired fp = false)))))))) &&
     (let s : State := p1; (let i : Instr := .chunkRead 0 1 3 1 1 0 0 16 1000; ((requestOf i).any fun (seq, r, pk) => (
       decide (s.accepts r.port seq 0x20 pk = true) && (let u := s.took r.port 0x20 pk; decide ((s.hport r.port).state = .paired) &&
       ((u.relayOf r.port r.label).any fun (q, m) => (decide (s.ctlValue ctlRelaying ≠ 1 ∨ (u.hport q).state ≠ .paired)))))))) &&
     (let s : State := p1; decide (s.ctlValue ctlRelaying = 1) && (let i : Instr := .chunkRead 0 1 1 1 1 0 0 16 1000;
       ((requestOf i).any fun (seq, r, pk) => (decide (s.accepts r.port seq 0x20 pk = true) && (let u := s.took r.port 0x20 pk;
       decide ((s.hport r.port).state = .paired) && ((u.relayOf r.port r.label).any fun (q, m) => (decide ((u.hport q).state = .paired)))))))) &&
     (let s : State := p1; (let port : Nat := 0; (let u := s.took port 0x20 1; decide ((u.hport port).state = .paired) && (let seq : Nat := 1;
       decide (s.accepts port seq 0x20 1 = true) && (let label : Nat := 0; decide (u.relayOf port label = none) &&
       ((u.peerOf port label).any fun fp => (decide (u.isPaired fp = true) && (let offset : Nat := 0; (let count : Nat := 0;
       decide (count % 16 ≠ 0 ∨ count = 0 ∨ 256 < offset % 256 + count)))))))))) &&
     (let s : State := p1; (let port : Nat := 0; (let u := s.took port 0x20 1; decide ((u.hport port).state = .paired) && (let seq : Nat := 1;
       decide (s.accepts port seq 0x20 1 = true) && (let label : Nat := 0; decide (u.relayOf port label = none) &&
       ((u.peerOf port label).any fun fp => (decide (u.isPaired fp = true) && (let offset : Nat := 0; (let count : Nat := 16;
       decide (count % 16 = 0) && decide (count ≠ 0) && decide (offset % 256 + count ≤ 256) && (let declared : Nat := 0;
       decide (declared < ceilDiv (4160 * count) 512))))))))))) &&
     (let s : State := p1; (let port : Nat := 0; (let u := s.took port 0x20 1; decide ((u.hport port).state = .paired) && (let seq : Nat := 1;
       decide (s.accepts port seq 0x20 1 = true) && (let label : Nat := 0; decide (u.relayOf port label = none) &&
       ((u.peerOf port label).any fun fp => (decide (u.isPaired fp = true) && (let job : Nat := 0; (let zone : Nat := 0;
       decide (u.served fp job zone = none) && (let offset : Nat := 0; (let count : Nat := 16; decide (count % 16 = 0) && decide (count ≠ 0) &&
       decide (offset % 256 + count ≤ 256) && (let declared : Nat := 255; decide (ceilDiv (4160 * count) 512 ≤ declared))))))))))))) &&
     (let s : State := p1; (let port : Nat := 0; (let u := s.took port 0x20 1; decide ((u.hport port).state = .paired) && (let seq : Nat := 1;
       decide (s.accepts port seq 0x20 1 = true) && (let label : Nat := 0; decide (u.relayOf port label = none) &&
       ((u.peerOf port label).any fun fp => (decide (u.isPaired fp = true) && (let job : Nat := 1; (let zone : Nat := 1;
       ((u.served fp job zone).any fun n => ((let offset : Nat := 0; (let count : Nat := 16; decide (count % 16 = 0) && decide (count ≠ 0) &&
       decide (offset % 256 + count ≤ 256) && decide (u.sealedBlocks n zone offset count = none) && (let declared : Nat := 255;
       decide (ceilDiv (4160 * count) 512 ≤ declared))))))))))))))) &&
     (let s : State := p4; (let port : Nat := 0; (let seq : Nat := 1; (let label : Nat := 0; (let job : Nat := 1; (let zone : Nat := 1;
       (let offset : Nat := 0; (let count : Nat := 16; (let declared : Nat := 130; decide (s.accepts port seq 0x20 1 = true) &&
       (let u := s.took port 0x20 1; decide ((u.hport port).state = .paired) && decide (u.relayOf port label = none) &&
       ((u.peerOf port label).any fun fp => (decide (u.isPaired fp = true) && decide (count % 16 = 0) && decide (count ≠ 0) &&
       decide (offset % 256 + count ≤ 256) && decide (ceilDiv (4160 * count) 512 ≤ declared) && ((u.served fp job zone).any fun n => (
       ((u.sealedBlocks n zone offset count).any fun l => (true)))))))))))))))) &&
     (let s : State := p1; (let port : Nat := 0; (let u := s.took port 0x20 1; decide ((u.hport port).state = .paired) && (let seq : Nat := 1;
       decide (s.accepts port seq 0x20 1 = true) && (let label : Nat := 0; decide (u.relayOf port label = none) &&
       ((u.peerOf port label).any fun fp => (decide (u.isPaired fp = true) && (let job : Nat := 0; (let zone : Nat := 0;
       decide (u.served fp job zone = none)))))))))) &&
     (let s : State := p5; (let port : Nat := 0; (let seq : Nat := 1; (let label : Nat := 0; (let job : Nat := 1; (let zone : Nat := 1;
       (let declared : Nat := 0; decide (s.accepts port seq 0x20 1 = true) && (let u := s.took port 0x20 1;
       decide ((u.hport port).state = .paired) && decide (u.relayOf port label = none) && ((u.peerOf port label).any fun fp => (
       decide (u.isPaired fp = true) && ((u.served fp job zone).any fun n => (
       decide (declared < ceilDiv (32 * (2 * (u.treeLeaves n.nsid zone (n.zone zone).written).length - 1)) 512))))))))))))) &&
     (let s : State := p1; (let port : Nat := 0; (let u := s.took port 0x20 1; decide ((u.hport port).state = .paired) && (let seq : Nat := 1;
       decide (s.accepts port seq 0x20 1 = true) && (let label : Nat := 0; decide (u.relayOf port label = none) &&
       ((u.peerOf port label).any fun fp => (decide (u.isPaired fp = true) && (let job : Nat := 1; (let zone : Nat := 1;
       ((u.served fp job zone).any fun n => ((let declared : Nat := 0;
       decide (ceilDiv (32 * (2 * (u.treeLeaves n.nsid zone (n.zone zone).written).length - 1)) 512 ≤ declared)))))))))))))) = true := by decide +kernel
theorem test_witness_PeerRequests_2 :
    (
     (let s : State := p1; (let port : Nat := 0; (let seq : Nat := 1; (let label : Nat := 0; (let rel : Nat := 0; (let bs : List Block := [];
       decide (s.accepts port seq 0x20 (ceilDiv (32 + 4160 * bs.length) 512) = true) &&
       (let u := s.took port 0x20 (ceilDiv (32 + 4160 * bs.length) 512); decide ((u.hport port).state = .paired) &&
       decide (u.relayOf port label = none) && ((u.peerOf port label).any fun fp => (decide (u.isPaired fp = true) &&
       decide (((s.mirror? rel).all fun m => decide (m.source = true ∨ m.other ≠ fp ∨ m.accepted = false ∨ m.ended = true)) = true)))))))))) &&
     (let s : State := { p1 with media := { p1.media with readPreserve := true } }; (let port : Nat := 0; (let seq : Nat := 1; (let label : Nat := 0; (let rel : Nat := 10; (let bs : List Block := [0];
       decide (s.accepts port seq 0x20 (ceilDiv (32 + 4160 * bs.length) 512) = true) &&
       (let u := s.took port 0x20 (ceilDiv (32 + 4160 * bs.length) 512); decide ((u.hport port).state = .paired) &&
       decide (u.relayOf port label = none) && ((u.peerOf port label).any fun fp => (decide (u.isPaired fp = true) && ((s.mirror? rel).any fun m => (
       decide (m.source = false) && decide (m.other = fp) && decide (m.accepted = true) && decide (m.ended = false) && decide (s.media.readPreserve = true)))))))))))) &&
     (let s : State := p1; decide (s.media.readPreserve = false)) &&
     (let s : State := p1; (let port : Nat := 0; (let seq : Nat := 1; (let label : Nat := 0; (let rel : Nat := 10; (let zone : Nat := 1;
       (let offset : Nat := 5; (let bs : List Block := []; (let ms : List Wide := [];
       decide (s.accepts port seq 0x20 (ceilDiv (32 + 4160 * bs.length) 512) = true) &&
       (let u := s.took port 0x20 (ceilDiv (32 + 4160 * bs.length) 512); decide ((u.hport port).state = .paired) &&
       decide (u.relayOf port label = none) && ((u.peerOf port label).any fun fp => (decide (u.isPaired fp = true) && ((s.mirror? rel).any fun m => (
       decide (m.source = false) && decide (m.other = fp) && decide (m.accepted = true) && decide (m.ended = false) &&
       ((m.zones.find? (fun x => x.zone == zone)).any fun z => (decide (z.ack < offset))))))))))))))))) &&
     (let s : State := p1; (let port : Nat := 0; (let seq : Nat := 1; (let label : Nat := 0; (let rel : Nat := 10; (let zone : Nat := 9;
       (let offset : Nat := 5; (let bs : List Block := []; (let ms : List Wide := [];
       decide (s.accepts port seq 0x20 (ceilDiv (32 + 4160 * bs.length) 512) = true) &&
       (let u := s.took port 0x20 (ceilDiv (32 + 4160 * bs.length) 512); decide ((u.hport port).state = .paired) &&
       decide (u.relayOf port label = none) && ((u.peerOf port label).any fun fp => (decide (u.isPaired fp = true) && ((s.mirror? rel).any fun m => (
       decide (m.source = false) && decide (m.other = fp) && decide (m.accepted = true) && decide (m.ended = false) &&
       decide ((m.zones).all (fun z => decide (z.zone ≠ zone)) = true))))))))))))))) &&
     (let s : State := p1; (let port : Nat := 0; (let seq : Nat := 1; (let label : Nat := 0; (let rel : Nat := 10; (let zone : Nat := 1;
       (let offset : Nat := 0; (let bs : List Block := []; (let ms : List Wide := [];
       decide (s.accepts port seq 0x20 (ceilDiv (32 + 4160 * bs.length) 512) = true) &&
       (let u := s.took port 0x20 (ceilDiv (32 + 4160 * bs.length) 512); decide ((u.hport port).state = .paired) &&
       decide (u.relayOf port label = none) && ((u.peerOf port label).any fun fp => (decide (u.isPaired fp = true) && ((s.mirror? rel).any fun m => (
       decide (m.source = false) && decide (m.other = fp) && decide (m.accepted = true) && decide (m.ended = false) &&
       ((u.takeMirror m zone { offset := offset, blocks := bs, metas := ms }).any fun o_ => o_.any fun t => (true)))))))))))))))) &&
     (let s : State := { p1 with nrg := { p1.nrg with deficit := true } }; (let port : Nat := 0; (let seq : Nat := 1; (let label : Nat := 0;
       (let rel : Nat := 10; (let zone : Nat := 1; (let offset : Nat := 0; (let bs : List Block := [0]; (let ms : List Wide := [fillMeta];
       decide (s.accepts port seq 0x20 (ceilDiv (32 + 4160 * bs.length) 512) = true) &&
       (let u := s.took port 0x20 (ceilDiv (32 + 4160 * bs.length) 512); decide ((u.hport port).state = .paired) &&
       decide (u.relayOf port label = none) && ((u.peerOf port label).any fun fp => (decide (u.isPaired fp = true) && ((s.mirror? rel).any fun m => (
       decide (m.source = false) && decide (m.other = fp) && decide (m.accepted = true) && decide (m.ended = false) &&
       decide (u.takeMirror m zone { offset := offset, blocks := bs, metas := ms } = none))))))))))))))) &&
     (let s : State := p1; ((s.peer.mirrors)[0]?.any fun m => (decide (s.mirror? m.ident = some m) && (let zone : Nat := 1;
       ((m.zones.find? (fun x => x.zone == zone)).any fun z => ((let p : Piece := { offset := 0 };
       decide (p.offset + p.blocks.length ≤ (s.zone m.nsid zone).wp) && ((s.takeMirror m zone p).any fun o_ => o_.any fun t => (true))))))))) &&
     (let s : State := h1; (let port : Nat := 0; (let seq : Nat := 1; decide (s.accepts port seq 0x30 1 = true) && (let label : Nat := 0;
       decide (label = 0 ∨ ∃ l ∈ s.hal.labels, (l.inPort = port ∧ l.inLabel = label) ∨ (l.outPort = some port ∧ l.outLabel = some label)) &&
       (let tag : Nat := 0;
       decide ((s.hal.reqs).all (fun r => decide (¬ (r.port = port ∧ r.label = label ∧ r.tag = tag ∧ r.sent = true))) = true)))))) &&
     (let s : State := h1; (let port : Nat := 0; (let seq : Nat := 1; decide (s.accepts port seq 0x30 1 = true) && (let label : Nat := 1;
       decide (label ≠ 0) &&
       decide ((s.hal.labels).all (fun l => decide (¬ (l.inPort = port ∧ l.inLabel = label) ∧ ¬ (l.outPort = some port ∧ l.outLabel = some label))) = true) &&
       (let tag : Nat := 0;
       decide ((s.hal.reqs).all (fun r => decide (¬ (r.port = port ∧ r.label = label ∧ r.tag = tag ∧ r.sent = true))) = true)))))) &&
     (let s : State := p1; (let port : Nat := 0; (let u := s.took port 0x30 1; (let seq : Nat := 1; decide (s.accepts port seq 0x30 1 = true) &&
       (let label : Nat := 0; (let tag : Nat := 5; (((s.hal.reqs.find? fun x => x.port == port && x.label == label && x.tag == tag &&
       x.sent)).any fun r => (
       (let v := (u.modHal fun h => { h with reqs := updIf (fun x => x.port == port && x.label == label && x.tag == tag && x.sent) (fun x => { x with received := x.received + 1 }) h.reqs }).modHport port (fun p => { p with reserved := p.reserved - 1 });
       decide (r.declared ≤ r.received)))))))))) &&
     (let s : State := p1; (let port : Nat := 0; (let u := s.took port 0x30 1; (let seq : Nat := 1; decide (s.accepts port seq 0x30 1 = true) &&
       (let label : Nat := 0; (let tag : Nat := 1; (((s.hal.reqs.find? fun x => x.port == port && x.label == label && x.tag == tag &&
       x.sent)).any fun r => (
       (let v := (u.modHal fun h => { h with reqs := updIf (fun x => x.port == port && x.label == label && x.tag == tag && x.sent) (fun x => { x with received := x.received + 1 }) h.reqs }).modHport port (fun p => { p with reserved := p.reserved - 1 });
       decide (r.received < r.declared) && decide (r.relay = none)))))))))) &&
     (let s : State := p1; (let port : Nat := 0; (let u := s.took port 0x30 1; (let seq : Nat := 1; decide (s.accepts port seq 0x30 1 = true) &&
       (let label : Nat := 0; (let tag : Nat := 4; (((s.hal.reqs.find? fun x => x.port == port && x.label == label && x.tag == tag &&
       x.sent)).any fun r => (
       (let v := (u.modHal fun h => { h with reqs := updIf (fun x => x.port == port && x.label == label && x.tag == tag && x.sent) (fun x => { x with received := x.received + 1 }) h.reqs }).modHport port (fun p => { p with reserved := p.reserved - 1 });
       decide (r.received < r.declared) && (r.relay.any fun (q, m) => (true))))))))))) &&
     (let s : State := p6; (let port : Nat := 0; (let seq : Nat := 1; (let label : Nat := 0; (let tag : Nat := 2;
       (let ns : List Digest := treeNodes [5, 6]; decide (s.accepts port seq 0x30 1 = true) && (let u := s.took port 0x30 1;
       (((s.hal.reqs.find? fun x => x.port == port && x.label == label && x.tag == tag && x.sent)).any fun r => (
       (let v := (u.modHal fun h => { h with reqs := updIf (fun x => x.port == port && x.label == label && x.tag == tag && x.sent) (fun x => { x with received := x.received + 1 }) h.reqs }).modHport port (fun p => { p with reserved := p.reserved - 1 });
       decide (r.received < r.declared) && decide (r.relay = none) && decide (r.op = 2) && ((s.job? r.ident).any fun j => (
       (((j.zones.find? fun z => z.zone == r.zone && !z.settled)).any fun m => ((m.manifest.any fun l => (
       decide (ns = treeNodes (ns.take l.leaves)) && decide (merkleRoot (ns.take l.leaves) = l.root) &&
       decide ((ns.take l.leaves).length = l.leaves)))))))))))))))))) = true := by decide +kernel
theorem test_witness_PeerRequests_3 :
    (
     (let s : State := p1; (let port : Nat := 0; (let u := s.took port 0x30 1; (let seq : Nat := 1; decide (s.accepts port seq 0x30 1 = true) &&
       (let label : Nat := 0; (let tag : Nat := 2; (((s.hal.reqs.find? fun x => x.port == port && x.label == label && x.tag == tag &&
       x.sent)).any fun r => (
       (let v := (u.modHal fun h => { h with reqs := updIf (fun x => x.port == port && x.label == label && x.tag == tag && x.sent) (fun x => { x with received := x.received + 1 }) h.reqs }).modHport port (fun p => { p with reserved := p.reserved - 1 });
       decide (r.received < r.declared) && decide (r.relay = none) && decide (r.op = 2) && ((s.job? r.ident).any fun j => (
       (((j.zones.find? fun z => z.zone == r.zone && !z.settled)).any fun m => ((m.manifest.any fun l => ((let ns : List Digest := [];
       decide (ns ≠ treeNodes (ns.take l.leaves) ∨ merkleRoot (ns.take l.leaves) ≠ l.root ∨ (ns.take l.leaves).length ≠ l.leaves))))))))))))))))) &&
     (let s : State := p1; (let port : Nat := 0; (let u := s.took port 0x30 1; (let seq : Nat := 1; decide (s.accepts port seq 0x30 1 = true) &&
       (let label : Nat := 0; (let tag : Nat := 1; (((s.hal.reqs.find? fun x => x.port == port && x.label == label && x.tag == tag &&
       x.sent)).any fun r => (
       (let v := (u.modHal fun h => { h with reqs := updIf (fun x => x.port == port && x.label == label && x.tag == tag && x.sent) (fun x => { x with received := x.received + 1 }) h.reqs }).modHport port (fun p => { p with reserved := p.reserved - 1 });
       decide (r.received < r.declared) && decide (r.relay = none) && decide (r.op = 1) && ((s.job? r.ident).any fun j => (
       decide ((j.zones).all (fun z => decide (z.zone = r.zone → z.settled = false)) = true)))))))))))) &&
     (let s : State := p1; (let port : Nat := 0; (let u := s.took port 0x30 1; (let seq : Nat := 1; decide (s.accepts port seq 0x30 1 = true) &&
       (let label : Nat := 0; (let tag : Nat := 3; (((s.hal.reqs.find? fun x => x.port == port && x.label == label && x.tag == tag &&
       x.sent)).any fun r => (
       (let v := (u.modHal fun h => { h with reqs := updIf (fun x => x.port == port && x.label == label && x.tag == tag && x.sent) (fun x => { x with received := x.received + 1 }) h.reqs }).modHport port (fun p => { p with reserved := p.reserved - 1 });
       decide (r.received < r.declared) && decide (r.relay = none) && decide (r.op = 3) && ((s.mirror? r.ident).any fun m => (true)))))))))))) = true := by decide +kernel
theorem test_witness_PeerMessages_1 :
    (
     (let s : State := dev0; (let d : Digest := 0; decide (s.isPaired d = false))) &&
     (let s : State := p1; (let d : Digest := 7; decide (s.isPaired d = true) && (let ver : Nat := 0; decide (ver / 16 ≠ 1)))) &&
     (let s : State := p1; (let d : Digest := 7; decide (s.isPaired d = true) &&
       decide ((s.peer.landings).all (fun l => decide (¬ (l.mirror = false ∧ l.source = d))) = true) && (let id : Nat := 0;
       decide (s.job? id = none) && (let ver : Nat := 16; decide (ver / 16 = 1))))) &&
     (let s : State := p2; (let d : Digest := 7; decide (s.isPaired d = true) && (((s.peer.landings.find? fun l => !l.mirror &&
       l.source == d)).any fun l => ((let id : Nat := 0; decide (s.job? id = none) && (let lb : Nat := 0; (let pi : Nat := 0;
       decide (s.formatFits l.nsid lb pi = false) && (let ver : Nat := 16; decide (ver / 16 = 1))))))))) &&
     (let s : State := p2; (let d : Digest := 7; decide (s.isPaired d = true) && (((s.peer.landings.find? fun l => !l.mirror &&
       l.source == d)).any fun l => ((let id : Nat := 0; decide (s.job? id = none) && (let lb : Nat := 0; (let pi : Nat := 1;
       decide (s.formatFits l.nsid lb pi = true) && (let ver : Nat := 16; decide (ver / 16 = 1))))))))) &&
     (let s : State := dev0; (let id : Nat := 0; decide (s.job? id = none) && decide (s.mirror? id = none))) &&
     (let s : State := p1; (let d : Digest := 0; (let id : Nat := 1; ((s.job? id).any fun j => (
       decide (j.source = false ∨ j.partner ≠ d ∨ j.state ≠ .offered)))))) &&
     (let s : State := p1; (let id : Nat := 2; ((s.job? id).any fun j => (decide (j.source = true) && (let d := j.partner;
       decide (j.state = .offered)))))) &&
     (let s : State := p1; (let id : Nat := 2; ((s.job? id).any fun j => (decide (j.source = true) && (let d := j.partner;
       decide (j.state = .offered) && decide ((j.zones).any (fun z => decide (z.phase = 0)) = true)))))) &&
     (let s : State := p1; (let id : Nat := 6; ((s.job? id).any fun j => (decide (j.source = true) && (let d := j.partner;
       decide (j.state = .offered) && decide ((j.zones).all (fun z => decide (z.settled = true)) = true)))))) &&
     (let s : State := p1; (let id : Nat := 9; decide (s.job? id = none) && ((s.mirror? id).any fun m => (decide (m.source = true) &&
       (let d := m.other; true))))) &&
     (let s : State := dev0; (let m : Manifest := man1; decide (s.job? m.job = none)))) = true := by decide +kernel
theorem test_witness_PeerMessages_2 :
    (
     (let s : State := p1; (let m : Manifest := { man1 with zone := 2, version := 0 }; ((s.job? m.job).any fun j => (decide (j.source = false) &&
       (let d := j.partner; decide (j.state = .running) &&
       decide ((j.zones).all (fun z => decide (z.zone = m.zone → z.phase = 0 ∧ z.manifest = none)) = true) && ((s.ns? j.nsid).any fun n => (
       ((s.refusal j n m).any fun r => (true))))))))) &&
     (let s : State := p1; (let m : Manifest := { man1 with zone := 2 }; ((s.job? m.job).any fun j => (decide (j.source = false) &&
       (let d := j.partner; decide (j.state = .running) &&
       decide ((j.zones).all (fun z => decide (z.zone = m.zone → z.phase = 0 ∧ z.manifest = none)) = true) && ((s.ns? j.nsid).any fun n => (
       decide (s.refusal j n m = none)))))))) &&
     (let s : State := p1; ((s.peer.jobs)[0]?.any fun j => (((s.nss)[0]?.any fun n => (((s.classFields n j.cls).any fun k => (
       (let m : Manifest := { man1 with zone := 2, version := 0 }; decide (m.version / 16 ≠ 1))))))))) &&
     (let s : State := p1; ((s.peer.jobs)[0]?.any fun j => (((s.nss)[1]?.any fun n => (((s.classFields n j.cls).any fun k => (
       (let m : Manifest := { man1 with zone := 9 }; decide (m.version / 16 = 1) && decide (n.zoneCount ≤ m.zone))))))))) &&
     (let s : State := p1; ((s.peer.jobs)[0]?.any fun j => (((s.nss)[0]?.any fun n => (((s.classFields n j.cls).any fun k => (
       (let m : Manifest := { man1 with written := 2 ^ 60 }; decide (m.version / 16 = 1) && decide (m.zone < n.zoneCount) &&
       decide (zoneCapacity s.profile k.width n.segsPerZone < m.written))))))))) &&
     (let s : State := d5; (let n : Namespace := (d5.ns? 1).getD default; (let m : Manifest := { man1 with generation := 1 };
       (let j : Job := { ident := 3, source := false, partner := 7, nsid := 1 }; ((s.classFields n j.cls).any fun k => (
       decide (m.version / 16 = 1) && decide (m.zone < n.zoneCount) && decide (m.written ≤ zoneCapacity s.profile k.width n.segsPerZone) &&
       decide ((s.media.segs).any (fun y => decide (y.gen = m.generation)) = true))))))) &&
     (let s : State := m4; (let n : Namespace := (m4.ns? 1).getD default; (let m : Manifest := { man1 with keyFp := 1, salt := 0 };
       (let j : Job := { ident := 3, source := false, partner := 7, nsid := 1 }; ((s.classFields n j.cls).any fun k => (
       decide (m.version / 16 = 1) && decide (m.zone < n.zoneCount) && decide (m.written ≤ zoneCapacity s.profile k.width n.segsPerZone) &&
       decide (s.genFree m.generation = true) && decide (m.keyFp ≠ 0) && ((s.refOf m.keyFp).any fun ref => (decide (ref ≠ 0) &&
       decide ((s.keys.register).all (fun e => decide (e.number = ref → e.salt ≠ m.salt)) = true))))))))) &&
     (let s : State := p1; ((s.peer.jobs)[0]?.any fun j => (((s.nss)[0]?.any fun n => (((s.classFields n j.cls).any fun k => (
       (let m : Manifest := man1; decide (m.version / 16 = 1) && decide (m.zone < n.zoneCount) &&
       decide (m.written ≤ zoneCapacity s.profile k.width n.segsPerZone) && decide (s.genFree m.generation = true) && decide (m.keyFp = 0))))))))) &&
     (let s : State := p1; (let d : Digest := 0; (let id : Nat := 1; ((s.job? id).any fun j => ((let pt : PubKey := 0;
       decide (j.source = true ∨ j.partner ≠ d ∨ j.state ≠ .running ∨ onCurve pt = false))))))) &&
     (let s : State := p1; (let id : Nat := 1; ((s.job? id).any fun j => (decide (j.source = true) && (let d := j.partner; true))))) &&
     (let s : State := dev0; (let id : Nat := 0; decide (s.job? id = none))) &&
     (let s : State := p1; (let id : Nat := 1; ((s.job? id).any fun j => (decide (j.source = true) && (let d := j.partner; (let zone : Nat := 2;
       (let g := (s.zone j.nsid zone).gen; (((j.zones.find? fun z => z.zone == zone)).any fun z => (decide (z.phase = 2))))))))))) = true := by decide +kernel
theorem test_witness_PeerMessages_3 :
    (
     (let s : State := p1; (let id : Nat := 1; ((s.job? id).any fun j => (decide (j.source = true) && (let d := j.partner; decide (j.live = true) &&
       (let zone : Nat := 1; (let g := (s.zone j.nsid zone).gen; (((j.zones.find? fun z => z.zone == zone)).any fun z => (
       decide (z.phase = 0 ∨ z.phase = 1)))))))))) &&
     (let s : State := p1; (let d : Digest := 0; (let id : Nat := 1; ((s.job? id).any fun j => ((let zone : Nat := 0; (let g : Nat := 0;
       decide (j.source = false ∨ j.partner ≠ d ∨ (s.zone j.nsid zone).gen ≠ g)))))))) &&
     (let s : State := p1; (let id : Nat := 3; (let zone : Nat := 3; (let g : Nat := 9; (let d : Digest := 7; ((s.job? id).any fun j => (
       decide (j.source = false) && decide (j.partner = d) && decide (j.zones.any (fun z => z.zone == zone && z.phase == 5 &&
       z.manifest.any fun m => m.generation == g) = true)))))))) &&
     (let s : State := p1; (let id : Nat := 1; ((s.job? id).any fun j => ((let zone : Nat := 0;
       decide ((j.zones).all (fun z => decide (z.zone = zone → z.phase ≠ 5)) = true)))))) &&
     (let s : State := dev0; (let d : Digest := 0; (let tag : Nat := 0; (let id : Nat := 0; decide ((s.hal.reqs.find? fun r => ofOp id r &&
       r.tag == tag && s.peerOf r.port r.label == some d) = none))))) &&
     (let s : State := p1; (let d : Digest := 7; (let tag : Nat := 6; (let id : Nat := 4; (((s.hal.reqs.find? fun r => ofOp id r && r.tag == tag &&
       s.peerOf r.port r.label == some d)).any fun r => (decide (r.op ≠ 3) && ((s.job? id).any fun j => (
       decide ((j.zones).all (fun z => decide (z.zone = r.zone → z.settled = false)) = true) &&
       decide ((j.zones).any (fun z => decide (z.zone = r.zone ∧ z.retried = true)) = true))))))))) &&
     (let s : State := p1; (let d : Digest := 7; (let tag : Nat := 1; (let id : Nat := 3; (((s.hal.reqs.find? fun r => ofOp id r && r.tag == tag &&
       s.peerOf r.port r.label == some d)).any fun r => (decide (r.op ≠ 3) && ((s.job? id).any fun j => (
       decide ((j.zones).all (fun z => decide (z.zone = r.zone → z.settled = false)) = true) &&
       decide ((j.zones).all (fun z => decide (z.zone = r.zone → z.retried = false)) = true))))))))) &&
     (let s : State := p1; (let id : Nat := 7; ((s.job? id).any fun j => ((let d := j.partner; decide (j.live = false)))))) &&
     (let s : State := p1; (let id : Nat := 1; ((s.job? id).any fun j => ((let d := j.partner; decide (j.live = true) && (let zone : Nat := 1;
       decide ((j.zones).any (fun z => decide (z.zone = zone ∧ z.settled = false)) = true))))))) &&
     (let s : State := p1; (let id : Nat := 1; ((s.job? id).any fun j => ((let d := j.partner; decide (j.live = true)))))) &&
     (let s : State := p1; (let id : Nat := 8; ((s.job? id).any fun j => (decide (j.state = .running) &&
       decide ((j.zones).all (fun z => decide (z.settled = true)) = true) && decide (j.source = true ∨ j.all = false))))) &&
     (let s : State := p1; (let id : Nat := 1; ((s.job? id).any fun j => (decide (j.state = .running) &&
       decide ((j.zones).any (fun z => decide (z.settled = false)) = true)))))) = true := by decide +kernel
theorem test_witness_PeerMessages_4 :
    (
     (let s : State := p1; (let d : Digest := 0; (let id : Nat := 1; ((s.job? id).any fun j => (decide (j.partner ≠ d ∨ j.state ≠ .running)))))) &&
     (let s : State := p1; (let id : Nat := 1; ((s.job? id).any fun j => ((let d := j.partner; decide (j.state = .running)))))) &&
     (let s : State := dev0; (let id : Nat := 0; decide (s.job? id = none) && decide (s.mirror? id = none))) &&
     (let s : State := p1; (let id : Nat := 5; ((s.job? id).any fun j => ((let d := j.partner; decide (j.state = .suspended)))))) &&
     (let s : State := p1; (let id : Nat := 7; ((s.job? id).any fun j => ((let d := j.partner; decide (j.state = .stopped ∨ j.state = .complete)))))) &&
     (let s : State := p1; (let id : Nat := 1; ((s.job? id).any fun j => ((let d := j.partner; decide (j.state = .offered ∨ j.state = .running)))))) &&
     (let s : State := p1; (let id : Nat := 1; ((s.job? id).any fun j => ((let d := j.partner; decide (j.live = true)))))) &&
     (let s : State := p1; (let id : Nat := 1; ((s.job? id).any fun j => ((let d := j.partner; decide (j.live = true) && (let st : Nat := 0;
       decide (st ≠ JobState.complete.num))))))) &&
     (let s : State := p1; (let id : Nat := 5; ((s.job? id).any fun j => (decide (j.state = .suspended) && decide (s.isPaired j.partner = true) &&
       (let port : Nat := 0; (let label : Nat := 0;
       decide ((s.pathsTo j.partner).any (fun p => decide (p.port = port ∧ p.label = label ∧ p.latency ≤ s.pathBudget)) = true))))))) &&
     (let s : State := p1; (let id : Nat := 1; ((s.job? id).any fun j => (decide (j.state ≠ .suspended ∨ s.isPaired j.partner = false))))) &&
     (let s : State := p1; (let id : Nat := 1; ((s.job? id).any fun j => (decide (j.state = .running) &&
       decide (j.streams.length < min 3 j.maxStreams) && (let port : Nat := 0; decide ((j.streams).all (fun p => decide (p.1 ≠ port)) = true) &&
       (let label : Nat := 0;
       decide ((s.pathsTo j.partner).any (fun p => decide (p.port = port ∧ p.label = label ∧ p.latency ≤ s.pathBudget)) = true))))))) &&
     (let s : State := p1; (let id : Nat := 2; ((s.job? id).any fun j => ((let port : Nat := 0;
       decide (j.state ≠ .running ∨ min 3 j.maxStreams ≤ j.streams.length ∨ ∃ p ∈ j.streams, p.1 = port))))))) = true := by decide +kernel
theorem test_witness_PeerMessages_5 :
    (
     (let s : State := p1; (let id : Nat := 2; ((s.job? id).any fun j => (decide (j.live = true) &&
       (((if j.state = .offered then some j.offeredAt else j.suspendedAt)).any fun f => (
       decide (f + s.ctlValue ctlResumeWindow * 5400000000 ≤ s.clk.frame))))))) &&
     (let s : State := p1; (let id : Nat := 5; ((s.job? id).any fun j => (decide (j.live = true) &&
       (((if j.state = .offered then some j.offeredAt else j.suspendedAt)).any fun f => (
       decide (s.clk.frame < f + s.ctlValue ctlResumeWindow * 5400000000)))))))) = true := by decide +kernel
theorem test_witness_Mirroring_1 :
    (
     (let s : State := p1; (let d : Digest := 7; decide (s.isPaired d = true) && (let kd : Nat := 0; decide (kd ≠ 1) && (let id : Nat := 9;
       decide ((((s.mirror? id).any fun m => decide (True)) = true) ∨ 64 ≤ s.peer.mirrors.length) && (let ver : Nat := 16; decide (ver / 16 = 1)))))) &&
     (let s : State := p1; decide (s.peer.mirrors.length < 64) && (let d : Digest := 7; decide (s.isPaired d = true) && (let kd : Nat := 0;
       decide (kd ≠ 1) && (let id : Nat := 0; decide (s.mirror? id = none) && (let ver : Nat := 16; decide (ver / 16 = 1)))))) &&
     (let s : State := p1; (let d : Digest := 0; (let id : Nat := 9; ((s.mirror? id).any fun m => (((s.ns? m.nsid).any fun n => (
       decide (m.source = true ∨ m.other ≠ d ∨ m.accepted = false ∨ m.ended = true)))))))) &&
     (let s : State := p1; (let id : Nat := 10; ((s.mirror? id).any fun m => (((s.ns? m.nsid).any fun n => (decide (m.source = false) &&
       (let d := m.other; decide (m.accepted = true) && decide (m.ended = false) && (let zone : Nat := 4;
       decide (n.zoneCount ≤ zone ∨ (n.zone zone).state ≠ .empty))))))))) &&
     (let s : State := p1; (let id : Nat := 10; ((s.mirror? id).any fun m => (((s.ns? m.nsid).any fun n => (decide (m.source = false) &&
       (let d := m.other; decide (m.accepted = true) && decide (m.ended = false) && (let zone : Nat := 0; decide (zone < n.zoneCount) &&
       decide ((n.zone zone).state = .empty) && (let g : Nat := 0; decide (s.genFree g = false)))))))))) &&
     (let s : State := { p1 with media := { p1.media with readPreserve := true } }; (let id : Nat := 10; ((s.mirror? id).any fun m => (((s.ns? m.nsid).any fun n => (
       decide (m.source = false) && decide (m.accepted = true) && decide (m.ended = false) && (let zone : Nat := 0; decide (zone < n.zoneCount) &&
       decide ((n.zone zone).state = .empty) && decide (s.media.readPreserve = true) && decide (p1.media.readPreserve = false) && decide (p7.media.readPreserve = false)))))))) &&
     (let s : State := p7; (let id : Nat := 10; (let d : Digest := 7; (let zone : Nat := 2; (let g : Nat := 9;
       (let e : KeyEntry := { number := 1, tenant := true, salt := 0, fp := 1 }; ((s.mirror? id).any fun m => (((s.ns? m.nsid).any fun n => (
       decide (m.source = false) && decide (m.other = d) && decide (m.accepted = true) && decide (m.ended = false) && decide (zone < n.zoneCount) &&
       decide ((n.zone zone).state = .empty) && decide (s.genFree g = true) &&
       decide (s.takeEntry (if e.number == 0 then 0 else e.fp) e.salt (if e.number == 0 then 0 else 2 ^ 48) = none))))))))))) &&
     (let s : State := p1; (let id : Nat := 10; ((s.mirror? id).any fun m => (((s.ns? m.nsid).any fun n => (decide (m.source = false) &&
       (let d := m.other; decide (m.accepted = true) && decide (m.ended = false) && (let zone : Nat := 0; decide (zone < n.zoneCount) &&
       decide ((n.zone zone).state = .empty) && (let g : Nat := 5; decide (s.genFree g = true) &&
       (let e : KeyEntry := { number := 0, tenant := false, salt := 0, fp := 0 };
       ((s.takeEntry (if e.number == 0 then 0 else e.fp) e.salt (if e.number == 0 then 0 else 2 ^ 48)).any fun (r, t) => (true)))))))))))) &&
     (let s : State := dev0; ((s.nss)[0]?.any fun n => (decide (s.ns? n.nsid = some n) && (let c : Nat := 0; ((s.classFields n c).any fun k => (
       true)))))) &&
     (let s : State := q1; (let fp : Digest := 1; decide (fp ≠ 0) && ((s.refOf fp).any fun r => (decide (r ≠ 0) && (let salt : BitVec 32 := 0;
       decide ((s.keys.register).all (fun e => decide (e.number = r → e.salt ≠ salt)) = true)))))) &&
     (let s : State := p1; (let d : Digest := 0; (let id : Nat := 9; ((s.mirror? id).any fun m => (((s.ns? m.nsid).any fun n => (
       (let zone : Nat := 0; (let g : Nat := 0; decide (m.source = true ∨ m.other ≠ d ∨ (n.zone zone).gen ≠ g ∨ ∀ z ∈ m.zones, z.zone ≠ zone)))))))))) &&
     (let s : State := p1; (let id : Nat := 10; ((s.mirror? id).any fun m => (((s.ns? m.nsid).any fun n => (decide (m.source = false) &&
       (let d := m.other; (let zone : Nat := 1; (let g := (n.zone zone).gen; decide ((m.zones).any (fun z => decide (z.zone = zone)) = true) &&
       (let u := (if (n.zone zone).state.isOpen = true then s.finishZone n zone false else s); (let w := (u.zone m.nsid zone).written;
       (let root := u.rootOver m.nsid zone w; true)))))))))))) &&
     (let s : State := p1; (let root : Digest := 0; (let id : Nat := 10; ((s.mirror? id).any fun m => (((s.ns? m.nsid).any fun n => (
       decide (m.source = false) && (let d := m.other; (let zone : Nat := 1; (let g := (n.zone zone).gen;
       decide ((m.zones).any (fun z => decide (z.zone = zone)) = true) &&
       (let u := (if (n.zone zone).state.isOpen = true then s.finishZone n zone false else s); (let w : Nat := 1;
       decide ((u.zone m.nsid zone).written ≠ w ∨ u.rootOver m.nsid zone w ≠ root)))))))))))))) = true := by decide +kernel
theorem test_witness_Mirroring_2 :
    (
     (let s : State := p1; (let d : Digest := 0; (let id : Nat := 9; ((s.mirror? id).any fun m => ((let zone : Nat := 0; (let g : Nat := 0;
       decide (m.source = true ∨ m.other ≠ d ∨ (s.zone m.nsid zone).gen ≠ g)))))))) &&
     (let s : State := p1; (let id : Nat := 10; ((s.mirror? id).any fun m => (decide (m.source = false) && (let d := m.other; (let zone : Nat := 0;
       (let g := (s.zone m.nsid zone).gen; true))))))) &&
     (let s : State := p1; (let id : Nat := 9; decide (s.job? id = none) && ((s.mirror? id).any fun m => (decide (m.source = true) &&
       (let d := m.other; true))))) &&
     (let s : State := p1; (let id : Nat := 9; decide (s.job? id = none) && ((s.mirror? id).any fun m => (decide (m.source = true) &&
       (let d := m.other; true))))) &&
     (let s : State := p1; (let id : Nat := 10; decide (s.job? id = none) && ((s.mirror? id).any fun m => (decide (m.source = false) &&
       (let d := m.other; true))))) &&
     (let s : State := p1; (let id : Nat := 10; decide (s.job? id = none) && ((s.mirror? id).any fun m => (decide (m.source = false))))) &&
     (let s : State := p1; (let d : Digest := 0; (let id : Nat := 9; decide (s.job? id = none) && ((s.mirror? id).any fun m => (
       decide (m.other ≠ d)))))) &&
     (let s : State := p1; (let id : Nat := 11; decide (s.job? id = none) && ((s.mirror? id).any fun m => (decide (m.source = true) &&
       decide (m.broken = true) && (let d := m.other; true))))) &&
     (let s : State := p1; (let id : Nat := 9; decide (s.job? id = none) && ((s.mirror? id).any fun m => (decide (m.broken = false))))) &&
     (let s : State := p1; (let id : Nat := 9; ((s.mirror? id).any fun m => (
       decide (m.broken = false ∨ m.catchingUp = true ∨ m.ended = true ∨ s.isPaired m.other = false))))) &&
     (let s : State := p1; (let id : Nat := 11; ((s.mirror? id).any fun m => (decide (m.broken = true) && decide (m.catchingUp = false) &&
       decide (m.ended = false) && decide (s.isPaired m.other = true) && decide (s.goodPaths m.other ≠ []))))) &&
     (let s : State := p1; (let id : Nat := 9; ((s.mirror? id).any fun m => (decide (m.broken = false) && decide (m.ended = false) &&
       decide (m.accepted = true)))))) = true := by decide +kernel
theorem test_witness_Mirroring_3 :
    (
     (let s : State := p1; (let id : Nat := 9; decide (s.job? id = none) && ((s.mirror? id).any fun m => (
       decide (m.broken = false ∨ s.clk.frame < m.brokenAt + s.ctlValue ctlResumeWindow * 5400000000))))) &&
     (let s : State := p1; (let id : Nat := 11; decide (s.job? id = none) && ((s.mirror? id).any fun m => (decide (m.broken = true) &&
       decide (m.brokenAt + s.ctlValue ctlResumeWindow * 5400000000 ≤ s.clk.frame)))))) = true := by decide +kernel
theorem test_witness_PackageBalls :
    (
     (let p : Nat := 0; decide (p ≤ 2) && (let l : Nat := 0; decide (l ≤ 1))) &&
     (let r : Nat := 33; (let c : Nat := 40; decide (inRegion r c .gapB = true) && decide (((List.range 3).all fun p => (
       List.range 2).all fun l => decide (c = 41 + 3 * p + l → r ≠ 34 ∧ r ≠ 35 ∧ r ≠ 37 ∧ r ≠ 38)) = true))) &&
     (let r : Nat := 13; (let c : Nat := 1; decide (inRegion r c .gapD = true) &&
       decide ((r, c) ∉ [(14, 2), (14, 4), (14, 6), (14, 8), (14, 10), (18, 6), (16, 2), (16, 4), (16, 8), (16, 10), (18, 2), (18, 4)]))) &&
     (let r : Nat := 1; decide (1 ≤ r) && decide (r ≤ 51) && (let c : Nat := 1; decide (1 ≤ c) && decide (c ≤ 51))) &&
     (let p : Nat := 0; decide (p < 32) && (let u : Nat := 0; decide (u < 8) && (let v : Nat := 0; decide (v < 6)))) &&
     (let r : Nat := 14; (let c : Nat := 2; decide (ballAt r c = some .tck))) &&
     (let s : State := dev0; (let p : Nat := 0; decide (p < s.portN) && (let c : Nat := 0; decide (c < 8)))) &&
     (let s : State := dev0; (let p : Nat := 0; (let x : Nat := 0; ((s.ceLow p x)[0]?.any fun c => decide (c ∈ s.ceLow p x)))))) = true := by decide +kernel

/-! Halyard packets, written out from the layouts of R334, R336 and R369. -/
theorem test_line_packet :
    let p := packetBytes none 0x03 0 0 7 (dev0.payloadBytes 0x03 1 [5, 2, 1])
    p.take 32 = [3, 0, 0, 0, 0, 0, 16, 0, 7, 0, 0, 0, 0, 0, 0, 0, 5, 0, 0, 0, 0, 0, 0, 0, 2, 0, 1, 0, 0, 0, 0, 0] ∧
      p.drop 40 = List.replicate 8 0 := by decide +kernel
theorem test_line_request :
    dev0.payloadBytes 0x20 1 [1, 9, 3, 2, 256, 16, 130] =
      [1, 0, 1, 0, 9, 0, 0, 0, 3, 0, 0, 0, 0, 0, 0, 0, 2, 0, 0, 0, 0, 1, 0, 0, 16, 0, 130, 0, 0, 0, 0, 0] := by decide +kernel
theorem test_line_message :
    dev0.messageBytes [0x07, 0x0104, 9, 3] = [7, 0, 4, 1, 9, 0, 0, 0, 3, 0, 0, 0, 0, 0, 0, 0] ∧
      (dev0.messageBytes [0x12, 3, 2, 5]).length = 104 := by decide +kernel

/-- R419: Get Time has the seconds at byte 0, the fraction at 8, the flag at 12 and the frame number at 16 of 48 bytes. -/
theorem test_time_payload :
    payloadOfResponse 0x0002 [5, 6, 1, 7, 0, 0, 9] =
      [5, 0, 0, 0, 0, 0, 0, 0, 6, 0, 0, 0, 1, 0, 0, 0, 7, 0, 0, 0, 0, 0, 0, 0] ++ List.replicate 16 0 ++ [9, 0, 0, 0, 0, 0, 0, 0] := by decide +kernel
/-- R419: incomplete stripe sets are entries of 6 bytes from byte 8 on. -/
theorem test_list_payload : payloadOfResponse 0x0902 [2, 2, 1, 2, 3, 4, 5, 6] = [2, 0, 0, 0, 2, 0, 0, 0, 1, 2, 3, 0, 0, 0, 4, 5, 6, 0, 0, 0] := by decide +kernel

end Sys2Proof.Tests
end

section
/-! SUPPORT. Every command but four leaves the shape of a state (Safety.Shape): one lemma for each row whose meaning branches on what it
finds, then the case split over the commands. -/

namespace Sys2Proof.Machine

theorem State.replaceSegment_some_shape {s t : State} {seq : Nat} (h : s.replaceSegment seq = some t) : t.shape = s.shape := by
  have e := State.replaceSegment_shape s seq
  rwa [h, optShape_some] at e
theorem State.ensurePartner_some_shape {s t : State} {fp : Digest} (h : s.ensurePartner fp = some t) : t.shape = s.shape := by
  have e := State.ensurePartner_shape s fp
  rwa [h, optShape_some] at e

/-- A mailbox row only issues its command. -/
theorem exec_go_shape {i : Instr} {s : State} (h : exec i s = s.go i) : resShape (exec i s) s.shape = s.shape := by
  rw [h, State.go_shape]
/-- An NVMe row only submits its entry. -/
theorem exec_submitted_shape {i : Instr} {s : State} {n : NvmeHdr} (h : exec i s = submitted n i s) :
    resShape (exec i s) s.shape = s.shape := by
  rw [h, submitted_shape]

theorem execRestoredUnitCompletion_shape (seq row : Nat) (s : State) :
    resShape (execRestoredUnitCompletion seq row s) s.shape = s.shape := by
  unfold execRestoredUnitCompletion
  dsimp only [resShape_next]
  split
  · rfl
  · split
    · rfl
    · split
      · split
        · rfl
        · split
          · next h => exact State.replaceSegment_some_shape h
          · rfl
      · simp
theorem execLadderStep_shape (id index : Nat) (s : State) : resShape (execLadderStep id index s) s.shape = s.shape := by
  unfold execLadderStep
  dsimp only [resShape_next]
  split
  · rfl
  · split
    · rfl
    · split
      · simp
      · split
        · rfl
        · simp only [State.shape_ite, State.setBlockAt_shape, State.modCmd_shape, State.candidate_shape, State.modFn_shape, ite_self]
theorem execRebuild_shape (id index : Nat) (members : List (Nat × DecodeEnd)) (result : RebuildEnd) (s : State) :
    resShape (execRebuild id index members result s) s.shape = s.shape := by
  unfold execRebuild
  dsimp only [resShape_next]
  split
  · rfl
  · split
    · rfl
    · simp
theorem execAgeClockAdvance_shape (s : State) : resShape (execAgeClockAdvance s) s.shape = s.shape := by
  unfold execAgeClockAdvance
  dsimp only [resShape_next]
  split
  · rfl
  · rw [State.modMedia_shape _ _ rfl, State.modTherm_shape _ _ (List.length_map _)]
    simp
theorem execSegmentRefresh_shape (source : CopySource) (s : State) : resShape (execSegmentRefresh source s) s.shape = s.shape := by
  unfold execSegmentRefresh
  dsimp only [resShape_next]
  split
  · rfl
  · split
    · rfl
    · split
      · next h => simp [State.replaceSegment_some_shape h]
      · simp
theorem execProgramFailureReplacement_shape (source : CopySource) (s : State) :
    resShape (execProgramFailureReplacement source s) s.shape = s.shape := by
  unfold execProgramFailureReplacement
  dsimp only [resShape_next]
  split
  · rfl
  · split
    · rfl
    · split
      · next h => simp [State.replaceSegment_some_shape h]
      · simp
theorem execHail_shape (port seq : Nat) (path : Option Nat) (hl : Hail) (s : State) :
    resShape (execHail port seq path hl s) s.shape = s.shape := by
  unfold execHail
  refine received_shape _ _ _ _ _ _ fun s => ?_
  dsimp only
  split
  · rfl
  · split
    · simp
    · split
      · split
        · simp
        · split
          · next h => simp [State.ensurePartner_some_shape h]
          · rfl
      · split
        · simp
        · split
          · simp
          · next h =>
            split <;> simp [State.ensurePartner_some_shape h]
theorem execAuthDone_shape (port seq : Nat) (path : Option Nat) (s : State) :
    resShape (execAuthDone port seq path s) s.shape = s.shape := by
  unfold execAuthDone
  split
  · exact resShape_whenUnit _ _ _ (by simp)
  · exact received_shape _ _ _ _ _ _ fun s => by split <;> simp
theorem execPathProbe_shape (port seq _label hops : Nat) (target origin : Digest) (number latency : Nat) (wake : Bool) (s : State) :
    resShape (execPathProbe port seq _label hops target origin number latency wake s) s.shape = s.shape := by
  unfold execPathProbe
  refine received_shape _ _ _ _ _ _ fun s => ?_
  dsimp only
  split
  · simp
  · split
    · rfl
    · split
      · split
        · next h => simp [State.ensurePartner_some_shape h]
        · rfl
      · split
        · rfl
        · refine (each_shape _ (fun s q => ?_) _ _).trans (by simp)
          split <;> simp
theorem execPathReply_shape (port seq label : Nat) (target origin : Digest) (number latency hops : Nat) (s : State) :
    resShape (execPathReply port seq label target origin number latency hops s) s.shape = s.shape := by
  unfold execPathReply
  refine received_shape _ _ _ _ _ _ fun s => ?_
  dsimp only
  split
  · split
    · rfl
    · split
      · rfl
      · next h => simp [State.ensurePartner_some_shape h]
  · split
    · rfl
    · simp only [State.tx_shape, State.modHal_shape]
theorem execKeyCarry_shape (partner fp : Digest) (point : PubKey) (wrapped : BitVec 320) (job : Nat) (s : State) :
    resShape (execKeyCarry partner fp point wrapped job s) s.shape = s.shape := by
  unfold execKeyCarry
  dsimp only [resShape_next]
  split
  · rfl
  · split
    · rfl
    · split
      · split
        · rfl
        · exact State.putKey_shape _ _ _ _ _
      · rfl
theorem execOffer_shape (partner : Digest) (kind streams ident _nsid : Nat) (zones : List Nat) (genEnd lbaf pi version mode policy lag
    firstZone zoneCount : Nat) (s : State) :
    resShape (execOffer partner kind streams ident _nsid zones genEnd lbaf pi version mode policy lag firstZone zoneCount s) s.shape = s.shape := by
  unfold execOffer
  dsimp only [resShape_next]
  split
  · simp
  · split
    · simp
    · split
      · split
        · simp
        · split <;> simp
      · split
        · rfl
        · split <;> simp
theorem execAnswer_shape (partner : Digest) (accept : Bool) (status ident _nsid _cls : Nat) (s : State) :
    resShape (execAnswer partner accept status ident _nsid _cls s) s.shape = s.shape := by
  unfold execAnswer
  dsimp only [resShape_next]
  split
  · split
    · rfl
    · split
      · simp
      · have floors : ∀ l : List Nat, (l.foldl (fun (acc : List (Nat × Nat) × State) ref =>
            (acc.1 ++ [(ref, (acc.2.exportFloor ref true).1)], (acc.2.exportFloor ref true).2)) ([], s)).2.shape = s.shape :=
          fun l => foldl_shape (fun b : List (Nat × Nat) × State => b.2) _ (fun b x => State.exportFloor_shape _ _ _) l _
        split
        · simp [floors]
        · simp [floors]
  · split
    · rfl
    · split <;> simp
  · rfl
theorem execZoneManifest_shape (partner : Digest) (m : Manifest) (s : State) :
    resShape (execZoneManifest partner m s) s.shape = s.shape := by
  unfold execZoneManifest
  dsimp only [resShape_next]
  split
  · rfl
  · split
    · rfl
    · split
      · rfl
      · split
        · next h => simp [State.takeEntry_shape _ _ _ _ _ h]
        · simp
        · simp
theorem execMirrorOpen_shape (partner : Digest) (rel zone generation : Nat) (entry : KeyEntry) (s : State) :
    resShape (execMirrorOpen partner rel zone generation entry s) s.shape = s.shape := by
  unfold execMirrorOpen
  dsimp only [resShape_next]
  split
  · rfl
  · split
    · rfl
    · split
      · rfl
      · split
        · simp
        · split
          · simp
          · split
            · simp
            · split
              · simp
              · next h => simp [State.takeEntry_shape _ _ _ _ _ h]
theorem execPatrolBatchDue_shape (s : State) : resShape (execPatrolBatchDue s) s.shape = s.shape := by
  unfold execPatrolBatchDue
  simp only [resShape_next, State.shape_ite, State.wake_shape]
  rw [State.modMedia_shape _ _ rfl, State.modClk_shape _ _ (Clock.tick_frame _ _), ite_self]
theorem execRef100Loss_shape (s : State) : resShape (execRef100Loss s) s.shape = s.shape := by
  unfold execRef100Loss
  dsimp only [resShape_next]
  split
  · rfl
  · split
    · exact State.modClk_shape _ _ rfl
    · refine (each_shape _ (fun s i => State.goDown_shape s i _) _ _).trans ?_
      rw [State.raise_shape, State.modClk_shape _ _ rfl]
      exact State.modClk_shape _ _ rfl
theorem execRef100Return_shape (s : State) : resShape (execRef100Return s) s.shape = s.shape := by
  unfold execRef100Return
  dsimp only [resShape_next]
  split
  · rfl
  · split
    · exact State.modClk_shape _ _ rfl
    · rw [State.raise_shape, State.modClk_shape _ _ rfl]
      exact State.modClk_shape _ _ rfl
theorem execMemoryFill_shape (memory : Nat) (failed : List Nat) (s : State) :
    resShape (execMemoryFill memory failed s) s.shape = s.shape := by
  unfold execMemoryFill
  refine resShape_whenUnit _ _ _ ?_
  dsimp only [resShape_next]
  split
  · rfl
  · split <;> split <;> simp
theorem execConfigurationSet_shape (inBand : Bool) (fn ident value : Nat) (s : State) :
    resShape (execConfigurationSet inBand fn ident value s) s.shape = s.shape := by
  unfold execConfigurationSet
  refine (State.mi_shape _ _ _ _ fun s => ?_)
  split <;> simp
theorem execRbaseWrite_shape (fn ring : Nat) (high : Bool) (value : Word) (s : State) :
    resShape (execRbaseWrite fn ring high value s) s.shape = s.shape := by
  simp [execRbaseWrite]
theorem execRheadWrite_shape (fn ring head : Nat) (s : State) : resShape (execRheadWrite fn ring head s) s.shape = s.shape := by
  simp [execRheadWrite]
theorem execRstsClear_shape (fn ring : Nat) (value : Word) (s : State) : resShape (execRstsClear fn ring value s) s.shape = s.shape := by
  simp [execRstsClear]
theorem writeRing_shape (fn r off : Nat) (value : Word) (s : State) : resShape (writeRing fn r off value s) s.shape = s.shape := by
  unfold writeRing
  split
  · exact execRbaseWrite_shape _ _ _ _ _
  · exact execRbaseWrite_shape _ _ _ _ _
  · exact State.writeRctl_shape _ _ _ _ _ _ _
  · exact execRheadWrite_shape _ _ _ _
  · exact execRstsClear_shape _ _ _ _
  · rfl
theorem execRegisterWrite_shape (fn : Nat) (port1 : Bool) (offset bits : Nat) (value : Word) (s : State) :
    resShape (execRegisterWrite fn port1 offset bits value s) s.shape = s.shape := by
  unfold execRegisterWrite
  refine resShape_whenUnit _ _ _ ?_
  simp [writeRing_shape]

/-- The commands that change the shape: the frame number and the status sequence (R43, R44, R536), and the fuses of JTAG (R530). -/
def changesShape : Instr → Bool
  | .frameStart .. | .framePllRelock .. | .aonPowerOnReset .. | .fuseBurn .. => true
  | _ => false

/-- Every other command leaves the shape as it is. -/
theorem exec_shape (c : Instr) (s : State) (h : changesShape c = false) : resShape (exec c s) s.shape = s.shape := by
  cases c
  case frameStart | framePllRelock | aonPowerOnReset | fuseBurn => cases h
  case getIdentity | getTime | setTime | getControl | setControl | getOwnerChallenge | setAllocation | getInstance | instanceOnline |
    instanceOffline | resetInstance | deleteInstance | setContract | getContract | setExpertEnable | consentToAttach | createNamespace |
    deleteNamespace | attachNamespace | detachNamespace | getNamespace | setNamespaceAttributes | defineClass | deleteClass |
    getZoneRecord | getTransportKey | establishKek | loadKey | eraseKey | bindNamespaceKey | getSlot | exportKey | getKeyRegister |
    getPatrolStatus | getLossLedger | getLunHealth | leaveReadPreserve | getIdentityCertificate | treeCheck | rangeDigest |
    zoneAttestation | rangeAttestation | keyBinding | getFixityResult | createOwnerAttestationKey | deleteOwnerAttestationKey |
    getHalyardPort | listPartners | pairPartner | unpairPartner | releaseQuarantine | setAllowlist | getAllowlist | startMigration |
    acceptMigration | cancelMigration | getMigrationJob | setMirror | endMirror | promoteMirror | getMirror | getPowerStatus |
    setReefLimit | enterCrowsNest | powerDown | getThermal | getPortStatistics | getIncompleteStripeSets | getMastStatus | pauseHostDma |
    resumeHostDma | startCapacitanceSelfTest | getInternalResources | takeOwnership | transferOwnership | getSignedObject |
    writeSignedObject | formatMedia | restoreDefaultControls | unknownOpcode =>
    exact exec_go_shape rfl
  case read | write | zoneAppend | writeZeroes | flush | compare | verify | datasetManagement | closeZone | finishZone | openZone |
    resetZone | offlineZone | setZoneDescriptorExtension | reportZones | extendedReportZones | invalidCommandOpcode | identify |
    getLogPage | setFeatures | getFeatures | setFeaturesTimestamp | setFeaturesPowerManagement | createIoSubmissionQueue |
    createIoCompletionQueue | deleteIoSubmissionQueue | deleteIoCompletionQueue | abort | asynchronousEventRequest |
    namespaceManagementCreate | namespaceManagementDelete | namespaceAttachmentAttach | namespaceAttachmentDetach |
    secondaryControllerOnline | secondaryControllerOffline | secondaryControllerAssign | formatNvm | cryptoErase =>
    exact exec_submitted_shape rfl
  -- digest trees
  case digestLeaf =>
    dsimp only [exec, execDigestLeaf]
    (repeat' split) <;> simp
  -- the write path
  case hostMemoryReadCompletion | blockErase | journalCheckpoint | parkDelay | selfTestInterval | huLoadHardwareRelease =>
    simp [exec, execHostMemoryReadCompletion, execBlockErase, execJournalCheckpoint, execParkDelay, execSelfTestInterval,
      execHuLoadHardwareRelease]
  case energyWaitLimit | huLoadRelease | selfTestResult | selfTestRetry =>
    dsimp only [exec, execEnergyWaitLimit, execHuLoadRelease, execSelfTestResult, execSelfTestRetry]
    (repeat' split) <;> simp
  case sealUnit | programPassIssue | journalRecordDurable =>
    dsimp only [exec, execSealUnit, execProgramPassIssue, execJournalRecordDurable]
    refine resShape_whenUnit _ _ _ ?_
    dsimp only [resShape_next]
    (repeat' split) <;> simp
  -- the read path
  case translation | readDecode | constantTimeRelease =>
    dsimp only [exec, execTranslation, execReadDecode, execConstantTimeRelease]
    (repeat' split) <;> simp
  case dieOperationEnd =>
    dsimp only [exec, execDieOperationEnd]
    refine resShape_whenUnit _ _ _ ?_
    dsimp only [resShape_next]
    (repeat' split) <;> simp
  -- ports and masts
  case overrunRecoveryRun | retrainingPass | portFailedAfterDrain | mastPllLossOfLock | missingHeartbeat | fabricProtocolError |
    deviceFault =>
    simp [exec, execOverrunRecoveryRun, execRetrainingPass, execPortFailedAfterDrain, execMastPllLossOfLock, execMissingHeartbeat,
      execFabricProtocolError, execDeviceFault]
  case watchdogExpiry =>
    dsimp only [exec, execWatchdogExpiry]
    (repeat' split) <;> simp
  case retrainingTimeout | mastRestartSuccess | mastRestartTimeout =>
    dsimp only [exec, execRetrainingTimeout, execMastRestartSuccess, execMastRestartTimeout]
    refine resShape_whenUnit _ _ _ ?_
    dsimp only [resShape_next]
    (repeat' split) <;> simp
  -- temperature
  case thermalSample =>
    simp [exec, execThermalSample]
  case graceTimeEnd =>
    dsimp only [exec, execGraceTimeEnd]
    (repeat' split) <;> simp
  -- media health
  case lateLap =>
    simp [exec, execLateLap]
  case memberRewrite | compaction | patrolSlice =>
    dsimp only [exec, execMemberRewrite, execCompaction, execPatrolSlice]
    (repeat' split) <;> simp
  -- the clocks
  case secondMark | lastKnownTime | aon32kRunning =>
    simp [exec, execSecondMark, execLastKnownTime, execAon32kRunning]
  -- fixity jobs
  case fixityResultExpiry =>
    simp [exec, execFixityResultExpiry]
  case fixityJobEnd =>
    dsimp only [exec, execFixityJobEnd]
    (repeat' split) <;> simp
  -- keys and the cipher
  case drainEnd | exportConsentLapse | counterReservation | drbgReseed | cipherFault =>
    simp [exec, execDrainEnd, execExportConsentLapse, execCounterReservation, execDrbgReseed, execCipherFault]
  -- the buffer pool
  case bufferAllocate | bufferShare | bufferDrop | bufferZeroed =>
    simp [exec, execBufferAllocate, execBufferShare, execBufferDrop, execBufferZeroed]
  -- instances
  case drainLimit | resetRetire | vfEnableChange =>
    simp [exec, execDrainLimit, execResetRetire, execVfEnableChange]
  -- the Halyard links
  case quarantineEnd | receiverDetection | foreignLinkNumber | trainingTimeout | hailTimeout | authenticationTimeout | retrainTimeout |
    linkSilence | ackAndCredit | nak | tagOrCrcFailure | reservedPacketType | authCertificateChain | authKeyShare | authSignature |
    rekeyInterval | rekeyKeyShare | rekeySignature | rekeyDone | echoRequest | echoReply | flightTimeMeasure =>
    simp [exec, execQuarantineEnd, execReceiverDetection, execForeignLinkNumber, execTrainingTimeout, execHailTimeout,
      execAuthenticationTimeout, execRetrainTimeout, execLinkSilence, execAckAndCredit, execNak, execTagOrCrcFailure,
      execReservedPacketType, execAuthCertificateChain, execAuthKeyShare, execAuthSignature, execRekeyInterval, execRekeyKeyShare,
      execRekeySignature, execRekeyDone, execEchoRequest, execEchoReply, execFlightTimeMeasure]
  case probeTimeout =>
    dsimp only [exec, execProbeTimeout]
    (repeat' split) <;> simp
  case foreignLinkRetry | trainingComplete | wakePatternRepeat | wakeTimeout =>
    dsimp only [exec, execForeignLinkRetry, execTrainingComplete, execWakePatternRepeat, execWakeTimeout]
    refine resShape_whenUnit _ _ _ ?_
    dsimp only [resShape_next]
    (repeat' split) <;> simp
  case pathDown | departure | refuse =>
    dsimp only [exec, execPathDown, execDeparture, execRefuse]
    refine received_shape _ _ _ _ _ _ fun s => ?_
    (repeat' split) <;> simp
  -- migration and mirrors
  case suspend | mirrorWrite =>
    simp [exec, execSuspend, execMirrorWrite]
  case requestStatus | checkpoint | cutOverReady | cutOverConfirmed | zoneWithdrawn | zoneRefused | jobResume | resume | endOp |
    resumeWindow | streamAdd | mirrorFinish | mirrorReset | mirrorPromote | catchUp =>
    dsimp only [exec, execRequestStatus, execCheckpoint, execCutOverReady, execCutOverConfirmed, execZoneWithdrawn, execZoneRefused,
      execJobResume, execResume, execEndOp, execResumeWindow, execStreamAdd, execMirrorFinish, execMirrorReset, execMirrorPromote,
      execCatchUp]
    (repeat' split) <;> simp
  case response =>
    dsimp only [exec, execResponse]
    refine received_shape _ _ _ _ _ _ fun s => ?_
    (repeat' split) <;> simp
  case chunkRead | treeRead =>
    dsimp only [exec, execChunkRead, execTreeRead]
    refine received_shape _ _ _ _ _ _ fun s => State.requestAt_shape _ _ _ _ _ fun s fp => ?_
    (repeat' split) <;> simp
  -- power cuts and wakes
  case samplerWake | wakePin | hostReceiverBeacon | wakePatternReceived | aon32kStopped | lowVin | pwrfail | brownOut =>
    simp [exec, execSamplerWake, execWakePin, execHostReceiverBeacon, execWakePatternReceived, execAon32kStopped, execLowVin, execPwrfail,
      execBrownOut]
  -- dumps
  case dumpRound | finalRound | dumpRestart | thermalDumpRestart | vddqfLow =>
    simp [exec, execDumpRound, execFinalRound, execDumpRestart, execThermalDumpRestart, execVddqfLow]
  case thermalComparator | nvmSubsystemReset =>
    dsimp only [exec, execThermalComparator, execNvmSubsystemReset]
    refine resShape_whenUnit _ _ _ ?_
    dsimp only [resShape_next]
    (repeat' split) <;> simp
  -- power entries
  case mastFurl | portFurl | halyardFurl | hostLinkFurl | crowsNestEntry | powerDownEntry | reentryDelay | domainWake |
    shutdownNotification | powerCorrectionCheck | powerCorrectionRecovery =>
    simp [exec, execMastFurl, execPortFurl, execHalyardFurl, execHostLinkFurl, execCrowsNestEntry, execPowerDownEntry, execReentryDelay,
      execDomainWake, execShutdownNotification, execPowerCorrectionCheck, execPowerCorrectionRecovery]
  case handshakeTimeout | abortHoldOff =>
    dsimp only [exec, execHandshakeTimeout, execAbortHoldOff]
    (repeat' split) <;> simp
  -- event rings
  case ringEnable | ringDisable | summaryRecord =>
    simp [exec, execRingEnable, execRingDisable, execSummaryRecord]
  -- start-up
  case stageRom | stageOtp | stageObjects | stageMedia | stageReplay | startupLimit =>
    simp [exec, execStageRom, execStageOtp, execStageObjects, execStageMedia, execStageReplay, execStartupLimit]
  -- the host port
  case configurationRequest | ccEnSet | ccEnClear | functionLevelReset | perst | perstRelease | hostLinkStateChange | timedOutTagReuse |
    busMasterEnableClear | busMasterEnableSet | pmeTurnOff | pauseDrained | interruptCoalescing | msixUnmask =>
    simp [exec, execConfigurationRequest, execCcEnSet, execCcEnClear, execFunctionLevelReset, execPerst, execPerstRelease,
      execHostLinkStateChange, execTimedOutTagReuse, execBusMasterEnableClear, execBusMasterEnableSet, execPmeTurnOff, execPauseDrained,
      execInterruptCoalescing, execMsixUnmask]
  case commandFetch | completionTimeout | readBack =>
    dsimp only [exec, execCommandFetch, execCompletionTimeout, execReadBack]
    (repeat' split) <;> simp
  case sqTailDoorbell | cqHeadDoorbell =>
    dsimp only [exec, execSqTailDoorbell, execCqHeadDoorbell]
    refine resShape_whenUnit _ _ _ ?_
    dsimp only [resShape_next]
    (repeat' split) <;> simp
  -- the table caches
  case cacheFill | evictionWriteBack | clean | invalidateBySetAndWay | invalidateByRange | cleanAndInvalidate | wayDisable =>
    simp [exec, execCacheFill, execEvictionWriteBack, execClean, execInvalidateBySetAndWay, execInvalidateByRange, execCleanAndInvalidate,
      execWayDisable]
  -- protected memories
  case correctableError =>
    simp [exec, execCorrectableError]
  case uncorrectableError =>
    dsimp only [exec, execUncorrectableError]
    refine resShape_whenUnit _ _ _ ?_
    dsimp only [resShape_next]
    (repeat' split) <;> simp
  -- NVMe-MI
  case nvmSubsystemHealthStatusPoll | controllerHealthStatusPoll =>
    simp [exec, execNvmSubsystemHealthStatusPoll, execControllerHealthStatusPoll]
  case readNvmeMiDataStructure | configurationGet =>
    dsimp only [exec, execReadNvmeMiDataStructure, execConfigurationGet]
    (repeat' split) <;> simp
  -- mailboxes
  case doneClear =>
    simp [exec, execDoneClear]
  -- the device window
  case frameLoRead | markFloRead | utcLoRead | gstsClear =>
    simp [exec, execFrameLoRead, execMarkFloRead, execUtcLoRead, execGstsClear]
  -- the sideband and JTAG
  case dynamicAddressAssignment | rstdaa | i3cPrivateTransfer | idcode | samplePreload | extest | extestPulse | extestTrain | clamp |
    highz | bypass | fuseRead =>
    simp [exec, execDynamicAddressAssignment, execRstdaa, execI3cPrivateTransfer, execIdcode, execSamplePreload, execExtest,
      execExtestPulse, execExtestTrain, execClamp, execHighz, execBypass, execFuseRead]
  case testLogicReset | fuseSelect | fuseData =>
    exact jtagRes_shape _ _ (State.modJtag_shape _ _)
  -- the rows with a lemma of their own
  all_goals
    simp only [exec, execRestoredUnitCompletion_shape, execLadderStep_shape, execRebuild_shape, execAgeClockAdvance_shape,
      execSegmentRefresh_shape, execProgramFailureReplacement_shape, execHail_shape, execAuthDone_shape, execPathProbe_shape,
      execPathReply_shape, execKeyCarry_shape, execOffer_shape, execAnswer_shape, execZoneManifest_shape, execMirrorOpen_shape,
      execPatrolBatchDue_shape, execRef100Loss_shape, execRef100Return_shape, execRbaseWrite_shape, execRheadWrite_shape,
      execRstsClear_shape, execMemoryFill_shape, execConfigurationSet_shape, execRegisterWrite_shape]

end Sys2Proof.Machine
end

section
/-! SUPPORT. What the four commands that change the shape change of it. -/

namespace Sys2Proof.Machine

/-- The shape after an update of the clocks differs in the frame number alone. -/
theorem State.modClk_shape_frame (s : State) (f : Clock → Clock) : (s.modClk f).shape = { s.shape with frame := (f s.clk).frame } := rfl

theorem execFramePllRelock_idle (aonTicks : Nat) (s : State) (h : ¬ (s.clk.dark = true ∧ s.pwr.dev = .starting)) :
    execFramePllRelock aonTicks s = .next s := by
  unfold execFramePllRelock
  rw [if_pos]
  simpa [Decidable.imp_iff_not_or] using h

/-- The frames of R44 are added after dark ones. -/
theorem execFramePllRelock_shape (aonTicks : Nat) (s : State) (hdark : s.clk.dark = true) (hstart : s.pwr.dev = .starting) :
    resShape (execFramePllRelock aonTicks s) s.shape =
      { s.shape with frame := firstFrame s.clk.frame s.clk.t0 (max aonTicks s.clk.ticks) } := by
  unfold execFramePllRelock
  simp only [hdark, hstart, Bool.not_true, bne_self_eq_false, Bool.or_self, Bool.false_eq_true, if_false, resShape_next]
  rw [State.modEvt_shape, State.modMedia_shape _ _ rfl, State.modStart_shape, State.modClk_shape_frame, State.chargeDark_shape]
  have clk : ∀ t a b, (s.chargeDark t a b).clk = s.clk := fun t a b => congrArg Steady.clk (State.chargeDark_steady s t a b)
  simp only [clk]

/-- An AON power-on reset begins frame 0 and leaves the rest of the shape. -/
theorem execAonPowerOnReset_shape (r : Nat) (s : State) :
    resShape (execAonPowerOnReset r s) s.shape = { s.shape with frame := 0 } := by
  have cut : s.powerCut.rebase.shape = s.shape := by rw [State.rebase_shape, State.powerCut_shape]
  unfold execAonPowerOnReset
  generalize s.powerCut.rebase = u at cut
  simp only [resShape_next]
  rw [State.modEvt_shape, State.modFns_shape _ _ (List.length_map _), State.modFn_shape, State.modSide_shape, State.modKeys_shape,
    State.modMems_shape _ _ (List.length_map _), State.modNrg_shape, State.modPorts_shape _ _ (List.length_map _),
    State.modMasts_shape _ _ (List.length_map _), State.bump_shape, State.modPwr_shape, State.modStart_shape,
    State.modClk_shape_frame, State.modJtag_shape, State.modFuses_shape, cut] <;> rfl

/-- Steps 1 to 10 of a frame, before its record is delivered. -/
def State.frameBody (inp : FrameIn) (s : State) : State :=
  let t := ((s.stepOf (State.latchInputs inp)).stepOf State.latchPower).stepOf State.dumpFrameStep
  if t.pwr.dev == .starting || t.ready then t.frameSteps else t

theorem State.frameBody_shape (inp : FrameIn) (s : State) : (s.frameBody inp).shape = { s.shape with frame := s.clk.frame + 1 } := by
  have first : (s.stepOf (State.latchInputs inp)).shape = { s.shape with frame := s.clk.frame + 1 } := by
    rw [State.stepOf, State.settleEvents_shape, State.latchInputs_shape]
  simp only [State.frameBody, State.shape_ite, State.frameSteps_shape, ite_self]
  rw [State.stepOf_shape _ _ State.dumpFrameStep_shape, State.stepOf_shape _ _ State.latchPower_shape, first]

theorem execFrameStart_off (inp : FrameIn) (s : State) (h : s.hcxOn = false) : execFrameStart inp s = .next s := by
  simp [execFrameStart, h]

theorem execFrameStart_on (inp : FrameIn) (s : State) (h : s.hcxOn = true) :
    execFrameStart inp s = .next (if ! (s.frameBody inp).hcxOn then s.frameBody inp else
      { (s.frameBody inp).deliverEvents with stseq := (s.frameBody inp).deliverEvents.stseq + 1 }) := by
  unfold execFrameStart
  rw [h]
  rfl

/-- A frame adds one to the frame number and may advance the status sequence. -/
theorem execFrameStart_shape (inp : FrameIn) (s : State) (h : s.hcxOn = true) :
    ∃ q, resShape (execFrameStart inp s) s.shape = { s.shape with frame := s.clk.frame + 1, stseq := q } := by
  rw [execFrameStart_on inp s h]
  simp only [resShape_next]
  split
  · exact ⟨s.stseq, State.frameBody_shape inp s⟩
  · refine ⟨(s.frameBody inp).deliverEvents.stseq + 1, ?_⟩
    have e := (State.deliverEvents_shape (s.frameBody inp)).trans (State.frameBody_shape inp s)
    exact congrArg (fun h : Shape => { h with stseq := (s.frameBody inp).deliverEvents.stseq + 1 }) e

theorem execFuseBurn_shape (tcks vin : Nat) (s : State) :
    ∃ k p l, resShape (execFuseBurn tcks vin s) s.shape = { s.shape with makerKey := k, portFuse := p, lock := l } := by
  unfold execFuseBurn jtagRes
  simp only [resShape_next]
  split
  · split
    · exact ⟨_, _, _, rfl⟩
    · exact ⟨_, _, _, rfl⟩
  · exact ⟨_, _, _, rfl⟩

/-- The shape without the fuses of JTAG, the status sequence and the frame number: the variant, the numbers of units and the commands that
wait. -/
def Shape.units (h : Shape) : Shape := { h with makerKey := 0, portFuse := false, lock := false, stseq := 0, frame := 0 }

theorem execFrameStart_units (inp : FrameIn) (s : State) : (resShape (execFrameStart inp s) s.shape).units = s.shape.units := by
  cases h : s.hcxOn with
  | false => rw [execFrameStart_off inp s h]; rfl
  | true =>
    obtain ⟨q, e⟩ := execFrameStart_shape inp s h
    rw [e]; rfl

theorem execFramePllRelock_units (k : Nat) (s : State) : (resShape (execFramePllRelock k s) s.shape).units = s.shape.units := by
  by_cases h : s.clk.dark = true ∧ s.pwr.dev = .starting
  · rw [execFramePllRelock_shape k s h.1 h.2]; rfl
  · rw [execFramePllRelock_idle k s h]; rfl

theorem execAonPowerOnReset_units (r : Nat) (s : State) : (resShape (execAonPowerOnReset r s) s.shape).units = s.shape.units := by
  rw [execAonPowerOnReset_shape]; rfl

theorem execFuseBurn_units (tcks vin : Nat) (s : State) : (resShape (execFuseBurn tcks vin s) s.shape).units = s.shape.units := by
  obtain ⟨k, p, l, e⟩ := execFuseBurn_shape tcks vin s
  rw [e]; rfl

/-- Every command keeps the units and the commands that wait. -/
theorem exec_units (c : Instr) (s : State) : (resShape (exec c s) s.shape).units = s.shape.units := by
  cases hc : changesShape c with
  | false => rw [exec_shape c s hc]
  | true =>
    cases c
    case frameStart inp => exact execFrameStart_units inp s
    case framePllRelock k => exact execFramePllRelock_units k s
    case aonPowerOnReset r => exact execAonPowerOnReset_units r s
    case fuseBurn tcks vin => exact execFuseBurn_units tcks vin s
    all_goals cases hc

theorem wellShaped_of_units {s t : State} (h : t.shape.units = s.shape.units) (hs : s.WellShaped) : t.WellShaped := by
  have e : ∀ f : Shape → Nat, f t.shape.units = f s.shape.units := fun f => congrArg f h
  obtain ⟨masts, ports, fns, halyard, hostPorts, journals, memories, inputs⟩ := hs
  exact ⟨(e Shape.masts).trans masts, (e Shape.ports).trans ports, (e Shape.fns).trans fns, (e Shape.halyard).trans halyard,
    (e Shape.hostPorts).trans hostPorts, (e Shape.journals).trans journals, (e Shape.memories).trans memories,
    (e Shape.inputs).trans inputs⟩

/-- Settles O3: an idle block stays as it is, and the command in front keeps the units of the state with the queue's rest. -/
theorem stepKeepsUnits : Obligations.StepKeepsUnits := by
  intro s t hs h
  unfold step at h
  split at h
  next hp =>
    obtain rfl : s = t := by simpa using h
    exact ⟨hs, rfl, by rw [hp]; rfl⟩
  next c rest hp =>
    have e : t.shape.units = ({ s with pending := rest } : State).shape.units := by
      have := exec_units c { s with pending := rest }
      rwa [h] at this
    refine ⟨wellShaped_of_units e hs, congrArg Shape.variant e, ?_⟩
    rw [hp]
    exact congrArg Shape.pending e

end Sys2Proof.Machine
end

section
/-! SUPPORT. The commands outside Safety.changesSteady leave the steady parts of a state (Safety.Steady). -/

namespace Sys2Proof.Machine

theorem State.replaceSegment_some_steady {s t : State} {seq : Nat} (h : s.replaceSegment seq = some t) : t.steady = s.steady := by
  have e := State.replaceSegment_steady s seq
  rwa [h, optSteady_some] at e
theorem State.ensurePartner_some_steady {s t : State} {fp : Digest} (h : s.ensurePartner fp = some t) : t.steady = s.steady := by
  have e := State.ensurePartner_steady s fp
  rwa [h, optSteady_some] at e

/-- A mailbox row only issues its command. -/
theorem exec_go_steady {i : Instr} {s : State} (h : exec i s = s.go i) : resSteady (exec i s) s.steady = s.steady := by
  rw [h, State.go_steady]
/-- An NVMe row only submits its entry. -/
theorem exec_submitted_steady {i : Instr} {s : State} {n : NvmeHdr} (h : exec i s = submitted n i s) :
    resSteady (exec i s) s.steady = s.steady := by
  rw [h, submitted_steady]

@[simp] theorem State.mastFailed_steady (s : State) (m item : Nat) : (s.mastFailed m item).steady = s.steady := by
  simp [State.mastFailed]
theorem execRestoredUnitCompletion_steady (seq row : Nat) (s : State) :
    resSteady (execRestoredUnitCompletion seq row s) s.steady = s.steady := by
  unfold execRestoredUnitCompletion
  dsimp only [resSteady_next]
  split
  · rfl
  · split
    · rfl
    · split
      · split
        · rfl
        · split
          · next h => exact State.replaceSegment_some_steady h
          · rfl
      · simp
theorem execLadderStep_steady (id index : Nat) (s : State) : resSteady (execLadderStep id index s) s.steady = s.steady := by
  unfold execLadderStep
  dsimp only [resSteady_next]
  split
  · rfl
  · split
    · rfl
    · split
      · simp
      · split
        · rfl
        · simp only [State.steady_ite, State.setBlockAt_steady, State.modCmd_steady, State.candidate_steady, State.modFn_steady, ite_self]
theorem execRebuild_steady (id index : Nat) (members : List (Nat × DecodeEnd)) (result : RebuildEnd) (s : State) :
    resSteady (execRebuild id index members result s) s.steady = s.steady := by
  unfold execRebuild
  dsimp only [resSteady_next]
  split
  · rfl
  · split
    · rfl
    · simp
theorem execSegmentRefresh_steady (source : CopySource) (s : State) : resSteady (execSegmentRefresh source s) s.steady = s.steady := by
  unfold execSegmentRefresh
  dsimp only [resSteady_next]
  split
  · rfl
  · split
    · rfl
    · split
      · next h => simp [State.replaceSegment_some_steady h]
      · simp
theorem execProgramFailureReplacement_steady (source : CopySource) (s : State) :
    resSteady (execProgramFailureReplacement source s) s.steady = s.steady := by
  unfold execProgramFailureReplacement
  dsimp only [resSteady_next]
  split
  · rfl
  · split
    · rfl
    · split
      · next h => simp [State.replaceSegment_some_steady h]
      · simp
theorem execHail_steady (port seq : Nat) (path : Option Nat) (hl : Hail) (s : State) :
    resSteady (execHail port seq path hl s) s.steady = s.steady := by
  unfold execHail
  refine received_steady _ _ _ _ _ _ fun s => ?_
  dsimp only
  split
  · rfl
  · split
    · simp
    · split
      · split
        · simp
        · split
          · next h => simp [State.ensurePartner_some_steady h]
          · rfl
      · split
        · simp
        · split
          · simp
          · next h =>
            split <;> simp [State.ensurePartner_some_steady h]
theorem execAuthDone_steady (port seq : Nat) (path : Option Nat) (s : State) :
    resSteady (execAuthDone port seq path s) s.steady = s.steady := by
  unfold execAuthDone
  split
  · exact resSteady_whenUnit _ _ _ (by simp)
  · exact received_steady _ _ _ _ _ _ fun s => by split <;> simp
theorem execPathProbe_steady (port seq _label hops : Nat) (target origin : Digest) (number latency : Nat) (wake : Bool) (s : State) :
    resSteady (execPathProbe port seq _label hops target origin number latency wake s) s.steady = s.steady := by
  unfold execPathProbe
  refine received_steady _ _ _ _ _ _ fun s => ?_
  dsimp only
  split
  · simp
  · split
    · rfl
    · split
      · split
        · next h => simp [State.ensurePartner_some_steady h]
        · rfl
      · split
        · rfl
        · refine (each_steady _ (fun s q => ?_) _ _).trans (by simp)
          split <;> simp
theorem execPathReply_steady (port seq label : Nat) (target origin : Digest) (number latency hops : Nat) (s : State) :
    resSteady (execPathReply port seq label target origin number latency hops s) s.steady = s.steady := by
  unfold execPathReply
  refine received_steady _ _ _ _ _ _ fun s => ?_
  dsimp only
  split
  · split
    · rfl
    · split
      · rfl
      · next h => simp [State.ensurePartner_some_steady h]
  · split
    · rfl
    · simp only [State.tx_steady, State.modHal_steady]
theorem execKeyCarry_steady (partner fp : Digest) (point : PubKey) (wrapped : BitVec 320) (job : Nat) (s : State) :
    resSteady (execKeyCarry partner fp point wrapped job s) s.steady = s.steady := by
  unfold execKeyCarry
  dsimp only [resSteady_next]
  split
  · rfl
  · split
    · rfl
    · split
      · split
        · rfl
        · exact State.putKey_steady _ _ _ _ _
      · rfl
theorem execOffer_steady (partner : Digest) (kind streams ident _nsid : Nat) (zones : List Nat) (genEnd lbaf pi version mode policy lag
    firstZone zoneCount : Nat) (s : State) :
    resSteady (execOffer partner kind streams ident _nsid zones genEnd lbaf pi version mode policy lag firstZone zoneCount s) s.steady = s.steady := by
  unfold execOffer
  dsimp only [resSteady_next]
  split
  · simp
  · split
    · simp
    · split
      · split
        · simp
        · split <;> simp
      · split
        · rfl
        · split <;> simp
theorem execAnswer_steady (partner : Digest) (accept : Bool) (status ident _nsid _cls : Nat) (s : State) :
    resSteady (execAnswer partner accept status ident _nsid _cls s) s.steady = s.steady := by
  unfold execAnswer
  dsimp only [resSteady_next]
  split
  · split
    · rfl
    · split
      · simp
      · have floors : ∀ l : List Nat, (l.foldl (fun (acc : List (Nat × Nat) × State) ref =>
            (acc.1 ++ [(ref, (acc.2.exportFloor ref true).1)], (acc.2.exportFloor ref true).2)) ([], s)).2.steady = s.steady :=
          fun l => foldl_steady (fun b : List (Nat × Nat) × State => b.2) _ (fun b x => State.exportFloor_steady _ _ _) l _
        split
        · simp [floors]
        · simp [floors]
  · split
    · rfl
    · split <;> simp
  · rfl
theorem execZoneManifest_steady (partner : Digest) (m : Manifest) (s : State) :
    resSteady (execZoneManifest partner m s) s.steady = s.steady := by
  unfold execZoneManifest
  dsimp only [resSteady_next]
  split
  · rfl
  · split
    · rfl
    · split
      · rfl
      · split
        · next h => simp [State.takeEntry_steady _ _ _ _ _ h]
        · simp
        · simp
theorem execMirrorOpen_steady (partner : Digest) (rel zone generation : Nat) (entry : KeyEntry) (s : State) :
    resSteady (execMirrorOpen partner rel zone generation entry s) s.steady = s.steady := by
  unfold execMirrorOpen
  dsimp only [resSteady_next]
  split
  · rfl
  · split
    · rfl
    · split
      · rfl
      · split
        · simp
        · split
          · simp
          · split
            · simp
            · split
              · simp
              · next h => simp [State.takeEntry_steady _ _ _ _ _ h]
theorem execRbaseWrite_steady (fn ring : Nat) (high : Bool) (value : Word) (s : State) :
    resSteady (execRbaseWrite fn ring high value s) s.steady = s.steady := by
  simp [execRbaseWrite]
theorem execRheadWrite_steady (fn ring head : Nat) (s : State) : resSteady (execRheadWrite fn ring head s) s.steady = s.steady := by
  simp [execRheadWrite]
theorem execRstsClear_steady (fn ring : Nat) (value : Word) (s : State) : resSteady (execRstsClear fn ring value s) s.steady = s.steady := by
  simp [execRstsClear]
theorem writeRing_steady (fn r off : Nat) (value : Word) (s : State) : resSteady (writeRing fn r off value s) s.steady = s.steady := by
  unfold writeRing
  split
  · exact execRbaseWrite_steady _ _ _ _ _
  · exact execRbaseWrite_steady _ _ _ _ _
  · exact State.writeRctl_steady _ _ _ _ _ _ _
  · exact execRheadWrite_steady _ _ _ _
  · exact execRstsClear_steady _ _ _ _
  · rfl
theorem execRegisterWrite_steady (fn : Nat) (port1 : Bool) (offset bits : Nat) (value : Word) (s : State) :
    resSteady (execRegisterWrite fn port1 offset bits value s) s.steady = s.steady := by
  unfold execRegisterWrite
  refine resSteady_whenUnit _ _ _ ?_
  simp [writeRing_steady]

/-- A command that is not of the named kinds leaves the steady parts as they are. -/
theorem exec_steady (c : Instr) (s : State) (h : changesSteady c = false) : resSteady (exec c s) s.steady = s.steady := by
  cases c
  case selfTestInterval | huLoadRelease | selfTestResult | selfTestRetry | huLoadHardwareRelease | dieOperationEnd | overrunRecoveryRun |
    retrainingPass | retrainingTimeout | portFailedAfterDrain | mastPllLossOfLock | missingHeartbeat | fabricProtocolError | deviceFault |
    watchdogExpiry | thermalSample | graceTimeEnd | ageClockAdvance | secondMark | lastKnownTime | aon32kRunning | fixityJobEnd |
    fixityResultExpiry | bufferAllocate | bufferShare | bufferDrop | bufferZeroed | drainLimit | framePllRelock | samplerWake |
    patrolBatchDue | wakePin | hostReceiverBeacon | wakePatternReceived | aon32kStopped | brownOut | aonPowerOnReset | ref100Loss |
    ref100Return | finalRound | thermalComparator | dumpRestart | thermalDumpRestart | vddqfLow | domainWake | stageRom | stageOtp |
    stageObjects | stageMedia | stageReplay | startupLimit | perstRelease | correctableError | uncorrectableError | memoryFill |
    configurationSet | frameStart | dynamicAddressAssignment | rstdaa | i3cPrivateTransfer | testLogicReset | idcode | samplePreload |
    extest | extestPulse | extestTrain | clamp | highz | bypass | fuseSelect | fuseData | fuseBurn | fuseRead => cases h
  case getIdentity | getTime | setTime | getControl | setControl | getOwnerChallenge | setAllocation | getInstance | instanceOnline |
    instanceOffline | resetInstance | deleteInstance | setContract | getContract | setExpertEnable | consentToAttach | createNamespace |
    deleteNamespace | attachNamespace | detachNamespace | getNamespace | setNamespaceAttributes | defineClass | deleteClass |
    getZoneRecord | getTransportKey | establishKek | loadKey | eraseKey | bindNamespaceKey | getSlot | exportKey | getKeyRegister |
    getPatrolStatus | getLossLedger | getLunHealth | leaveReadPreserve | getIdentityCertificate | treeCheck | rangeDigest |
    zoneAttestation | rangeAttestation | keyBinding | getFixityResult | createOwnerAttestationKey | deleteOwnerAttestationKey |
    getHalyardPort | listPartners | pairPartner | unpairPartner | releaseQuarantine | setAllowlist | getAllowlist | startMigration |
    acceptMigration | cancelMigration | getMigrationJob | setMirror | endMirror | promoteMirror | getMirror | getPowerStatus |
    setReefLimit | enterCrowsNest | powerDown | getThermal | getPortStatistics | getIncompleteStripeSets | getMastStatus | pauseHostDma |
    resumeHostDma | startCapacitanceSelfTest | getInternalResources | takeOwnership | transferOwnership | getSignedObject |
    writeSignedObject | formatMedia | restoreDefaultControls | unknownOpcode =>
    exact exec_go_steady rfl
  case read | write | zoneAppend | writeZeroes | flush | compare | verify | datasetManagement | closeZone | finishZone | openZone |
    resetZone | offlineZone | setZoneDescriptorExtension | reportZones | extendedReportZones | invalidCommandOpcode | identify |
    getLogPage | setFeatures | getFeatures | setFeaturesTimestamp | setFeaturesPowerManagement | createIoSubmissionQueue |
    createIoCompletionQueue | deleteIoSubmissionQueue | deleteIoCompletionQueue | abort | asynchronousEventRequest |
    namespaceManagementCreate | namespaceManagementDelete | namespaceAttachmentAttach | namespaceAttachmentDetach |
    secondaryControllerOnline | secondaryControllerOffline | secondaryControllerAssign | formatNvm | cryptoErase =>
    exact exec_submitted_steady rfl
  -- digest trees
  case digestLeaf =>
    dsimp only [exec, execDigestLeaf]
    (repeat' split) <;> simp
  -- the write path
  case hostMemoryReadCompletion | blockErase | journalCheckpoint | parkDelay =>
    simp [exec, execHostMemoryReadCompletion, execBlockErase, execJournalCheckpoint, execParkDelay]
  case energyWaitLimit =>
    dsimp only [exec, execEnergyWaitLimit]
    (repeat' split) <;> simp
  case sealUnit | programPassIssue | journalRecordDurable =>
    dsimp only [exec, execSealUnit, execProgramPassIssue, execJournalRecordDurable]
    refine resSteady_whenUnit _ _ _ ?_
    dsimp only [resSteady_next]
    (repeat' split) <;> simp
  -- the read path
  case translation | readDecode | constantTimeRelease =>
    dsimp only [exec, execTranslation, execReadDecode, execConstantTimeRelease]
    (repeat' split) <;> simp
  -- ports and masts
  case mastRestartSuccess | mastRestartTimeout =>
    dsimp only [exec, execMastRestartSuccess, execMastRestartTimeout]
    refine resSteady_whenUnit _ _ _ ?_
    dsimp only [resSteady_next]
    (repeat' split) <;> simp
  -- media health
  case lateLap =>
    simp [exec, execLateLap]
  case memberRewrite | compaction | patrolSlice =>
    dsimp only [exec, execMemberRewrite, execCompaction, execPatrolSlice]
    (repeat' split) <;> simp
  -- keys and the cipher
  case drainEnd | exportConsentLapse | counterReservation | drbgReseed | cipherFault =>
    simp [exec, execDrainEnd, execExportConsentLapse, execCounterReservation, execDrbgReseed, execCipherFault]
  -- instances
  case resetRetire | vfEnableChange =>
    simp [exec, execResetRetire, execVfEnableChange]
  -- the Halyard links
  case quarantineEnd | receiverDetection | foreignLinkNumber | trainingTimeout | hailTimeout | authenticationTimeout | retrainTimeout |
    linkSilence | ackAndCredit | nak | tagOrCrcFailure | reservedPacketType | authCertificateChain | authKeyShare | authSignature |
    rekeyInterval | rekeyKeyShare | rekeySignature | rekeyDone | echoRequest | echoReply | flightTimeMeasure =>
    simp [exec, execQuarantineEnd, execReceiverDetection, execForeignLinkNumber, execTrainingTimeout, execHailTimeout,
      execAuthenticationTimeout, execRetrainTimeout, execLinkSilence, execAckAndCredit, execNak, execTagOrCrcFailure,
      execReservedPacketType, execAuthCertificateChain, execAuthKeyShare, execAuthSignature, execRekeyInterval, execRekeyKeyShare,
      execRekeySignature, execRekeyDone, execEchoRequest, execEchoReply, execFlightTimeMeasure]
  case probeTimeout =>
    dsimp only [exec, execProbeTimeout]
    (repeat' split) <;> simp
  case foreignLinkRetry | trainingComplete | wakePatternRepeat | wakeTimeout =>
    dsimp only [exec, execForeignLinkRetry, execTrainingComplete, execWakePatternRepeat, execWakeTimeout]
    refine resSteady_whenUnit _ _ _ ?_
    dsimp only [resSteady_next]
    (repeat' split) <;> simp
  case pathDown | departure | refuse =>
    dsimp only [exec, execPathDown, execDeparture, execRefuse]
    refine received_steady _ _ _ _ _ _ fun s => ?_
    (repeat' split) <;> simp
  -- migration and mirrors
  case suspend | mirrorWrite =>
    simp [exec, execSuspend, execMirrorWrite]
  case requestStatus | checkpoint | cutOverReady | cutOverConfirmed | zoneWithdrawn | zoneRefused | jobResume | resume | endOp |
    resumeWindow | streamAdd | mirrorFinish | mirrorReset | mirrorPromote | catchUp =>
    dsimp only [exec, execRequestStatus, execCheckpoint, execCutOverReady, execCutOverConfirmed, execZoneWithdrawn, execZoneRefused,
      execJobResume, execResume, execEndOp, execResumeWindow, execStreamAdd, execMirrorFinish, execMirrorReset, execMirrorPromote,
      execCatchUp]
    (repeat' split) <;> simp
  case response =>
    dsimp only [exec, execResponse]
    refine received_steady _ _ _ _ _ _ fun s => ?_
    (repeat' split) <;> simp
  case chunkRead | treeRead =>
    dsimp only [exec, execChunkRead, execTreeRead]
    refine received_steady _ _ _ _ _ _ fun s => State.requestAt_steady _ _ _ _ _ fun s fp => ?_
    (repeat' split) <;> simp
  -- power cuts and wakes
  case lowVin | pwrfail =>
    simp [exec, execLowVin, execPwrfail]
  -- dumps
  case dumpRound =>
    simp [exec, execDumpRound]
  case nvmSubsystemReset =>
    dsimp only [exec, execNvmSubsystemReset]
    refine resSteady_whenUnit _ _ _ ?_
    dsimp only [resSteady_next]
    (repeat' split) <;> simp
  -- power entries
  case mastFurl | portFurl | halyardFurl | hostLinkFurl | crowsNestEntry | powerDownEntry | reentryDelay | shutdownNotification |
    powerCorrectionCheck | powerCorrectionRecovery =>
    simp [exec, execMastFurl, execPortFurl, execHalyardFurl, execHostLinkFurl, execCrowsNestEntry, execPowerDownEntry, execReentryDelay,
      execShutdownNotification, execPowerCorrectionCheck, execPowerCorrectionRecovery]
  case handshakeTimeout | abortHoldOff =>
    dsimp only [exec, execHandshakeTimeout, execAbortHoldOff]
    (repeat' split) <;> simp
  -- event rings
  case ringEnable | ringDisable | summaryRecord =>
    simp [exec, execRingEnable, execRingDisable, execSummaryRecord]
  -- the host port
  case configurationRequest | ccEnSet | ccEnClear | functionLevelReset | perst | hostLinkStateChange | timedOutTagReuse |
    busMasterEnableClear | busMasterEnableSet | pmeTurnOff | pauseDrained | interruptCoalescing | msixUnmask =>
    simp [exec, execConfigurationRequest, execCcEnSet, execCcEnClear, execFunctionLevelReset, execPerst, execHostLinkStateChange,
      execTimedOutTagReuse, execBusMasterEnableClear, execBusMasterEnableSet, execPmeTurnOff, execPauseDrained, execInterruptCoalescing,
      execMsixUnmask]
  case commandFetch | completionTimeout | readBack =>
    dsimp only [exec, execCommandFetch, execCompletionTimeout, execReadBack]
    (repeat' split) <;> simp
  case sqTailDoorbell | cqHeadDoorbell =>
    dsimp only [exec, execSqTailDoorbell, execCqHeadDoorbell]
    refine resSteady_whenUnit _ _ _ ?_
    dsimp only [resSteady_next]
    (repeat' split) <;> simp
  -- the table caches
  case cacheFill | evictionWriteBack | clean | invalidateBySetAndWay | invalidateByRange | cleanAndInvalidate | wayDisable =>
    simp [exec, execCacheFill, execEvictionWriteBack, execClean, execInvalidateBySetAndWay, execInvalidateByRange, execCleanAndInvalidate,
      execWayDisable]
  -- NVMe-MI
  case nvmSubsystemHealthStatusPoll | controllerHealthStatusPoll =>
    simp [exec, execNvmSubsystemHealthStatusPoll, execControllerHealthStatusPoll]
  case readNvmeMiDataStructure | configurationGet =>
    dsimp only [exec, execReadNvmeMiDataStructure, execConfigurationGet]
    (repeat' split) <;> simp
  -- mailboxes
  case doneClear =>
    simp [exec, execDoneClear]
  -- the device window
  case frameLoRead | markFloRead | utcLoRead | gstsClear =>
    simp [exec, execFrameLoRead, execMarkFloRead, execUtcLoRead, execGstsClear]
  -- the rows with a lemma of their own
  all_goals
    simp only [exec, execRestoredUnitCompletion_steady, execLadderStep_steady, execRebuild_steady, execSegmentRefresh_steady,
      execProgramFailureReplacement_steady, execHail_steady, execAuthDone_steady, execPathProbe_steady, execPathReply_steady,
      execKeyCarry_steady, execOffer_steady, execAnswer_steady, execZoneManifest_steady, execMirrorOpen_steady, execRbaseWrite_steady,
      execRheadWrite_steady, execRstsClear_steady, execRegisterWrite_steady]

/-- Settles O12, by the case split over the commands. -/
theorem steadyParts : Obligations.SteadyParts := by
  intro c s t hc h
  have e := exec_steady c s hc
  rwa [h] at e

end Sys2Proof.Machine
end

section
/-! SUPPORT. The state after reset (R1, R43, R486). -/

namespace Sys2Proof.Machine

theorem mastCount_le (v : Variant) : mastCount v ≤ 8 := by cases v <;> decide

theorem State.resetOf_mast (v : Variant) (m : Nat) :
    ((State.resetOf v).mast m).state = if m < mastCount v then .furled else .absent := by
  have le := mastCount_le v
  by_cases hm : m < 8
  · simp [State.mast, State.resetOf, List.getD_eq_getElem?_getD, hm]
  · rw [if_neg (by omega)]
    simp [State.mast, State.resetOf, List.getD_eq_getElem?_getD, hm]

theorem State.resetOf_wellShaped (v : Variant) : (State.resetOf v).WellShaped := by
  simp [State.WellShaped, State.resetOf]

/-- Settles O2: each field of the reset state is read off; a mast index below the variant's count is furled. -/
theorem resetIsWellShaped : Obligations.ResetIsWellShaped := fun v =>
  ⟨State.resetOf_wellShaped v, rfl, rfl, rfl, rfl, rfl, State.resetOf_mast v⟩

end Sys2Proof.Machine
end

section
/-! SUPPORT. What the rules of one function's record say of it and of the others. -/

namespace Sys2Proof.Machine

/-- A run of updates that each leave a view of the state leaves it. -/
theorem each_view {α β : Type} (view : State → β) (f : State → α → State) (h : ∀ s x, view (f s x) = view s) (l : List α) (s : State) :
    view (each l f s) = view s := by
  unfold each
  induction l generalizing s with
  | nil => rfl
  | cons x l ih => rw [List.foldl_cons, ih, h]

theorem State.modFn_fn_same (s : State) (f : Nat) (g : Fn → Fn) (h : f < s.fns.length) : (s.modFn f g).fn f = g (s.fn f) := by
  simp [State.modFn, State.fn, List.getD_eq_getElem?_getD, h]
theorem State.modFn_fn_other (s : State) (f i : Nat) (g : Fn → Fn) (h : i ≠ f) : (s.modFn f g).fn i = s.fn i := by
  simp [State.modFn, State.fn, List.getD_eq_getElem?_getD, Ne.symm h]
@[simp] theorem State.modFn_fns_length (s : State) (f : Nat) (g : Fn → Fn) : (s.modFn f g).fns.length = s.fns.length :=
  congrArg Shape.fns (State.modFn_shape s f g)

/-- The widest cause stays queued (R500). -/
theorem State.queueReset_vfGone_same (s : State) (f : Nat) (h : f < s.fns.length) :
    ((s.queueReset f .vfGone).fn f).queuedReset = some .vfGone := by
  rw [State.queueReset, State.modFn_fn_same s f _ h]
  dsimp only
  split
  next e => exact eq_of_beq e
  · rfl

/-- The loss of the functions of `l` is queued (R314). -/
def State.queueLosses (s : State) (l : List Fn) : State := each l (fun s f => s.queueReset f.fn .vfGone) s

theorem State.queueLosses_view {β : Type} (view : State → β) (h : ∀ (s : State) (g : List Fn → List Fn), view (s.modFns g) = view s) (s : State) (l : List Fn) :
    view (s.queueLosses l) = view s := each_view view _ (fun s _ => h s _) l s

theorem State.queueLosses_fns_length (s : State) (l : List Fn) : (s.queueLosses l).fns.length = s.fns.length :=
  each_view (fun s => s.fns.length) _ (fun s _ => s.modFn_fns_length _ _) l s

theorem State.queueLosses_other (s : State) (l : List Fn) (i : Nat) (h : i ∉ l.map Fn.fn) : (s.queueLosses l).fn i = s.fn i := by
  induction l generalizing s with
  | nil => rfl
  | cons x l ih =>
    rw [List.map_cons, List.mem_cons, not_or] at h
    exact (ih (s.queueReset x.fn .vfGone) h.2).trans (s.modFn_fn_other _ _ _ h.1)

theorem State.queueLosses_same (s : State) (l : List Fn) (i : Nat) (h : i ∈ l.map Fn.fn) (hi : i < s.fns.length) :
    ((s.queueLosses l).fn i).queuedReset = some .vfGone := by
  induction l generalizing s with
  | nil => cases h
  | cons x l ih =>
    have hlen : i < (s.queueReset x.fn .vfGone).fns.length := by rwa [State.queueReset, State.modFn_fns_length]
    by_cases later : i ∈ l.map Fn.fn
    · exact ih (s.queueReset x.fn .vfGone) later hlen
    · obtain rfl : i = x.fn := (List.mem_cons.mp h).resolve_right later
      have e : (s.queueLosses (x :: l)).fn x.fn = (s.queueReset x.fn .vfGone).fn x.fn :=
        State.queueLosses_other (s.queueReset x.fn .vfGone) l x.fn later
      rw [e]
      exact s.queueReset_vfGone_same x.fn hi

/-- The instances that clearing VF Enable takes away. -/
def State.lostVfs (s : State) : List Fn := s.fns.filter fun f => f.fn != 0 && (f.state != .offline || f.expert)

theorem execVfEnableChange_clear (n : Nat) (s : State) :
    execVfEnableChange false n s = .next ((s.modIo fun h => { h with vfEnable := false, numVfs := min 128 n }).queueLosses s.lostVfs) := by
  simp [execVfEnableChange, State.queueLosses, State.lostVfs]

/-- Where each record stands at its own number, the functions taken away are those other than 0 that are not offline or have Expert. -/
theorem State.mem_lostVfs_iff (s : State) (num : ∀ i, i < s.fns.length → (s.fn i).fn = i) (i : Nat) (hi : i < s.fns.length) :
    i ∈ s.lostVfs.map Fn.fn ↔ i ≠ 0 ∧ ((s.fn i).state ≠ .offline ∨ (s.fn i).expert = true) := by
  have at_ : ∀ j (hj : j < s.fns.length), s.fn j = s.fns[j] := fun j hj => by
    simp [State.fn, List.getD_eq_getElem?_getD, hj]
  constructor
  · intro h
    obtain ⟨f, hf, rfl⟩ := List.mem_map.mp h
    obtain ⟨hmem, hp⟩ := List.mem_filter.mp hf
    obtain ⟨j, hj, rfl⟩ := List.mem_iff_getElem.mp hmem
    have e : s.fns[j].fn = j := by rw [← at_ j hj, num j hj]
    rw [e, at_ j hj]
    simpa [e] using hp
  · intro h
    refine List.mem_map.mpr ⟨s.fn i, List.mem_filter.mpr ⟨?_, ?_⟩, num i hi⟩
    · rw [at_ i hi]; exact List.getElem_mem hi
    · simpa [num i hi] using h

/-- Settles O27: the functions in the list of the lost have their reset queued, and the others are as before. -/
theorem clearVfs : Obligations.ClearVfs := by
  intro n s num
  refine ⟨_, execVfEnableChange_clear n s, ?_, ?_, ?_, ?_, ?_, ?_⟩
  · exact congrArg HostIo.vfEnable (State.queueLosses_view State.io (fun _ _ => rfl) _ _)
  · exact State.queueLosses_fns_length _ _
  · exact State.queueLosses_view State.clk (fun _ _ => rfl) _ _
  · exact State.queueLosses_view State.media (fun _ _ => rfl) _ _
  · intro i hi h0 h
    exact State.queueLosses_same _ _ i ((s.mem_lostVfs_iff num i hi).mpr ⟨h0, h⟩) hi
  · intro i hi h
    refine State.queueLosses_other _ _ i fun hmem => ?_
    obtain ⟨h0, hlost⟩ := (s.mem_lostVfs_iff num i hi).mp hmem
    rcases h with rfl | ⟨offline, noExpert⟩
    · exact h0 rfl
    · simp [offline, noExpert] at hlost

end Sys2Proof.Machine
end

section
/-! SUPPORT. What the work of commands does not reach. A view of the state that the updates of the host port leave is left by a completion, and
one that the updates of media, power and jobs leave as well is left by all that squashes a function's work. -/

namespace Sys2Proof.Machine

/-- A view of the state that no update of the host port, of a controller or of a function's counters changes. -/
structure HostBlind {α : Type} (view : State → α) : Prop where
  io (s : State) (f : HostIo → HostIo) : view (s.modIo f) = view s
  ctrl (s : State) (f : Nat) (port1 : Bool) (g : Ctrl → Ctrl) : view (s.modCtrl f port1 g) = view s
  counters (s : State) (f : Nat) (g : Counters → Counters) : view (s.modFn f fun x => { x with counters := g x.counters }) = view s
  emit (s : State) (o : Out) : view (s.emit o) = view s

/-- One that no update of media, namespaces, LUNs, masts, power entries, events or fixity jobs changes either. -/
structure WorkBlind {α : Type} (view : State → α) : Prop extends HostBlind view where
  media (s : State) (f : Media → Media) : view (s.modMedia f) = view s
  nss (s : State) (f : List Namespace → List Namespace) : view (s.modNss f) = view s
  luns (s : State) (f : List Lun → List Lun) : view (s.modLuns f) = view s
  masts (s : State) (f : List Mast → List Mast) : view (s.modMasts f) = view s
  pwr (s : State) (f : Power → Power) : view (s.modPwr f) = view s
  start (s : State) (f : Startup → Startup) : view (s.modStart f) = view s
  evt (s : State) (f : Events → Events) : view (s.modEvt f) = view s
  fix (s : State) (f : Fixity → Fixity) : view (s.modFix f) = view s

section
variable {α : Type} {view : State → α} (h : HostBlind view) (s : State)
include h

theorem HostBlind.modCmd (id : Nat) (f : Cmd → Cmd) : view (s.modCmd id f) = view s := h.io _ _
theorem HostBlind.errorLog (f : Nat) (port1 : Bool) (status what : Nat) : view (s.errorLog f port1 status what) = view s := h.ctrl _ _ _ _
theorem HostBlind.request (r : DmaReq) : view (s.request r) = view s := h.io _ _
theorem HostBlind.dropReqs (id : Nat) : view (s.dropReqs id) = view s := h.io _ _
theorem HostBlind.dropCmd (c : Cmd) : view (s.dropCmd c) = view s := (h.dropReqs _ _).trans (h.io _ _)

theorem HostBlind.dropSquashed (id : Nat) : view (s.dropSquashed id) = view s := by
  unfold State.dropSquashed
  split
  · rfl
  · split
    · exact h.dropCmd _ _
    · rfl

theorem HostBlind.interrupt (f : Nat) (port1 : Bool) (v : Nat) : view (s.interrupt f port1 v) = view s := by
  unfold State.interrupt
  split
  · rfl
  · split
    · exact h.ctrl _ _ _ _
    · exact h.emit _ _

theorem HostBlind.cqInterrupt (f : Nat) (port1 : Bool) (cq : Cq) : view (s.cqInterrupt f port1 cq) = view s := by
  unfold State.cqInterrupt
  split
  · rfl
  · dsimp only
    split
    · split
      · rfl
      · exact h.ctrl _ _ _ _
    · exact h.interrupt _ _ _ _

theorem HostBlind.postEntry (f : Nat) (port1 : Bool) (e : Cqe) : view (s.postEntry f port1 e) = view s := by
  unfold State.postEntry
  dsimp only
  split
  · rfl
  · split
    · rfl
    · exact (h.cqInterrupt _ _ _ _).trans (h.ctrl _ _ _ _)

theorem HostBlind.post (c : Cmd) : view (s.post c) = view s :=
  (h.postEntry _ _ _ _).trans ((h.counters _ c.fn fun k => k.ended c s.clk.frame).trans (h.io _ _))

theorem HostBlind.tryPost (id : Nat) : view (s.tryPost id) = view s := by
  unfold State.tryPost
  split
  · rfl
  · split
    · exact h.modCmd _ _ _
    · exact h.post _ _

theorem HostBlind.deliver (id : Nat) (data : List HostBlock) : view (s.deliver id data) = view s := by
  unfold State.deliver
  split
  · rfl
  · split
    · exact h.tryPost _ _
    · split
      · exact h.modCmd _ _ _
      · refine (h.request _ _).trans ((h.modCmd _ _ _).trans ?_)
        have sent (c : Cmd) := each_view view (fun s x => s.emit (.hostWrite c.fn c.cid x.1 x.2.1 x.2.2)) (fun _ _ => h.emit _ _) data s
        split
        · exact sent _
        · exact (h.emit _ _).trans (sent _)

theorem HostBlind.conclude (id : Nat) (st : NvmeStatus) (data : List HostBlock) (result : Nat) (lba : Option Nat) :
    view (s.conclude id st data result lba) = view s := by
  have ready (t : State) (c : Cmd) :
      view (if t.delays c then t.modCmd id fun c => { c with phase := .ready } else t.deliver id data) = view t := by
    split
    · exact h.modCmd _ _ _
    · exact h.deliver _ _ _
  unfold State.conclude
  split
  · rfl
  · refine (ready _ _).trans ?_
    split
    · split
      · exact (h.errorLog _ _ _ _ _).trans (h.modCmd _ _ _)
      · exact h.modCmd _ _ _
    · exact h.modCmd _ _ _

theorem HostBlind.drain (fn : Nat) : view (s.drain fn) = view s :=
  (each_view view _ (fun _ _ => h.conclude _ _ _ _ _ _) _ _).trans (h.io _ _)
theorem HostBlind.releaseDrained (fn : Nat) : view (s.releaseDrained fn) = view s :=
  each_view view _ (fun _ _ => h.deliver _ _ _) _ _
end

section
variable {α : Type} {view : State → α} (h : WorkBlind view) (s : State)
include h

theorem WorkBlind.log (j : Nat) (r : JRec) : view (s.log j r) = view s := (h.start _ _).trans (h.media _ _)
theorem WorkBlind.raise (source code severity : Nat) (args : List Nat) (fn : Nat) : view (s.raise source code severity args fn) = view s := by
  unfold State.raise
  split
  · rfl
  · exact h.evt _ _
theorem WorkBlind.modBlocks (p : Stored → Bool) (f : Stored → Stored) : view (s.modBlocks p f) = view s := h.media _ _
theorem WorkBlind.modZone (nsid zi : Nat) (f : Zone → Zone) : view (s.modZone nsid zi f) = view s := h.nss _ _
theorem WorkBlind.modBlock (glun b : Nat) (f : EBlock → EBlock) : view (s.modBlock glun b f) = view s := h.luns _ _
theorem WorkBlind.modMast (m : Nat) (f : Mast → Mast) : view (s.modMast m f) = view s := h.masts _ _
theorem WorkBlind.logZone (nsid zi : Nat) : view (s.logZone nsid zi) = view s := h.log _ _ _

theorem WorkBlind.releaseSegment (seq : Nat) : view (s.releaseSegment seq) = view s := by
  unfold State.releaseSegment
  split
  · rfl
  · refine (h.media _ _).trans ((each_view view _ (fun s mv => ?_) _ _).trans (each_view view _ (fun s q => ?_) _ _))
    · dsimp only
      split
      · rfl
      · exact (h.log _ _ _).trans (h.modBlock _ _ _ _)
    · dsimp only
      split
      · rfl
      · exact (h.log _ _ _).trans (h.modBlock _ _ _ _)

theorem WorkBlind.sealHeld (p : Stored → Bool) : view (s.sealHeld p) = view s := by
  refine each_view view _ (fun s b => ?_) _ _
  split
  · rfl
  · exact (h.modBlocks _ _ _).trans (h.modMast _ _ _)

theorem WorkBlind.rescuePut (x pages : Nat) : view (s.rescuePut x pages).2 = view s := h.modMast _ _ _

theorem WorkBlind.rescueRun (luns : List Nat) (id : Nat × Nat) (first : Bool) (l : List Stored) :
    view (s.rescueRun luns id first l) = view s := by
  unfold State.rescueRun
  split
  · rfl
  · exact each_view view _ (fun s i => (h.modBlocks _ _ _).trans (h.rescuePut _ _ _)) _ _

theorem WorkBlind.park (nsid zi : Nat) : view (s.park nsid zi) = view s :=
  (h.modZone _ _ _ _).trans ((each_view view _ (fun _ _ => (h.log _ _ _).trans (h.rescueRun _ _ _ _ _)) _ _).trans (h.sealHeld _ _))

theorem WorkBlind.setZone (nsid zi : Nat) (into : ZoneState) : view (s.setZone nsid zi into) = view s := by
  have entered : view ((s.modZone nsid zi fun z => { z with state := into }).logZone nsid zi) = view s :=
    (h.logZone _ _ _).trans (h.modZone _ _ _ _)
  unfold State.setZone
  dsimp only
  split
  · exact (h.park _ _ _).trans entered
  · exact entered

theorem WorkBlind.closeZone (nsid zi : Nat) : view (s.closeZone nsid zi) = view s := by
  unfold State.closeZone
  dsimp only
  split
  · exact (h.logZone _ _ _).trans ((h.modZone _ _ _ _).trans (each_view view _ (fun _ _ => h.releaseSegment _ _) _ _))
  · exact h.setZone _ _ _ _

theorem WorkBlind.closeOpened (fn : Nat) : view (s.closeOpened fn) = view s :=
  each_view view _ (fun _ _ => h.closeZone _ _ _) _ _

theorem WorkBlind.demandMast (m : Nat) : view (s.demandMast m) = view s := h.pwr _ _

theorem WorkBlind.markOverflow (nsid lba : Nat) : view (s.markOverflow nsid lba) = view s := by
  unfold State.markOverflow
  split
  · rfl
  · split
    · exact h.media _ _
    · exact (h.media _ _).trans (h.modZone _ _ _ _)

theorem WorkBlind.enterLoss (nsid lba count gen cause foundBy fn mast : Nat) :
    view (s.enterLoss nsid lba count gen cause foundBy fn mast) = view s := by
  have reported (t : State) (sev : Nat) : view (if (t.mast mast).state == .active then t.raise (60 * mast + 14) cause sev [nsid, lba, count]
      else t.raise 595 6 2 [nsid, lba, count]) = view t := by
    split <;> exact h.raise _ _ _ _ _ _
  refine (reported _ _).trans ((h.evt _ _).trans ?_)
  split
  · exact h.markOverflow _ _ _
  · exact (h.log _ _ _).trans (h.media _ _)

theorem WorkBlind.readLoss (c : Cmd) (b : RBlock) (cause glun gen : Nat) : view (s.readLoss c b cause glun gen) = view s := by
  unfold State.readLoss
  dsimp only
  split
  · exact h.enterLoss _ _ _ _ _ _ _ _ _
  · exact (h.modCmd _ _ _).trans (h.enterLoss _ _ _ _ _ _ _ _ _)

theorem WorkBlind.awaitLoss (id nsid lba : Nat) : view (s.awaitLoss id nsid lba) = view s := by
  unfold State.awaitLoss
  split
  · exact h.modCmd _ _ _
  · rfl

theorem WorkBlind.lookAt (c : Cmd) (b : RBlock) : view (s.lookAt c b).1 = view s := by
  unfold State.lookAt
  dsimp only
  split
  · rfl
  · split
    case h_2 => exact h.awaitLoss _ _ _ _
    case h_7 =>
      split
      · rfl
      · split
        · exact h.readLoss _ _ _ _ _ _
        · exact each_view view _ (fun _ _ => h.demandMast _ _) _ _
        · rfl
        · rfl
    all_goals rfl

theorem WorkBlind.lookAll (c : Cmd) : view (s.lookAll c) = view s := by
  have looked (l : List RBlock) (st : State × List RBlock) : view (l.foldl (fun (st : State × List RBlock) b =>
      let (s, b) := st.1.lookAt c b
      (s, st.2 ++ [b])) st).1 = view st.1 := by
    induction l generalizing st with
    | nil => rfl
    | cons b l ih => exact (ih _).trans (h.lookAt _ _ _)
  exact (h.modCmd _ _ _).trans (looked _ _)

theorem WorkBlind.finishRead (id : Nat) : view (s.finishRead id) = view s := by
  unfold State.finishRead
  split
  · rfl
  · split
    · rfl
    · exact h.conclude _ _ _ _ _ _

theorem WorkBlind.retryReads (p : Cmd → RBlock → Bool) : view (s.retryReads p) = view s := by
  refine each_view view _ (fun s c => ?_) _ _
  split
  · rfl
  · exact (h.finishRead _ _).trans (h.lookAll _ _)

theorem WorkBlind.voidBlocks (c : Cmd) : view (s.voidBlocks c) = view s :=
  (h.modCmd _ _ _).trans ((h.dropReqs _ _).trans (h.modBlocks _ _ _))

theorem WorkBlind.squashCmd (c : Cmd) : view (s.squashCmd c) = view s := by
  unfold State.squashCmd
  split
  · rfl
  · split
    · exact (h.dropSquashed _ _).trans ((h.dropReqs _ _).trans (h.modCmd _ _ _))
    · split
      · exact (h.dropCmd _ _).trans (h.voidBlocks _ _)
      · exact h.dropCmd _ _

theorem WorkBlind.closeJob (job : Nat) (f : FixJob → FixJob) : view (s.closeJob job f) = view s := by
  unfold State.closeJob
  split
  · rfl
  · exact (h.raise _ _ _ _ _ _).trans (h.fix _ _)

theorem WorkBlind.abortJobs (p : FixJob → Bool) (status : Nat) : view (s.abortJobs p status) = view s :=
  each_view view _ (fun _ _ => h.closeJob _ _ _) _ _

theorem WorkBlind.squash (fn : Nat) (port1 : Bool) (status : Nat) : view (s.squash fn port1 status) = view s :=
  calc view (s.squash fn port1 status)
    _ = _ := h.closeOpened _ _
    _ = _ := h.abortJobs _ _ _
    _ = _ := h.retryReads _ _
    _ = _ := each_view view _ (fun _ _ => h.squashCmd _ _) _ _
    _ = _ := h.io _ _
end

end Sys2Proof.Machine
end

section
/-! SUPPORT. The manager commands of the clock, of controls, of challenges and of the instances' records (R3, R8, R60, R315, R322). -/

namespace Sys2Proof.Machine

/-- The answer that a command with its effect at its step gives. -/
theorem now_eq {e : Eff} {t : State} {r : Resp} (h : e = (t, r)) : (e.1, some e.2) = (t, some r) := by
  rw [h]

theorem State.measureGap_clk (s : State) (secs : Nat) (last : Option Nat) :
    ∃ g, (s.measureGap secs last).clk = { s.clk with lastG := g } := by
  have aged (t : State) (n m : Nat) : (if n < m then t.chargeAll (m - n) else t.lapNormal).clk = t.clk := by
    split
    · exact congrArg Steady.clk (State.chargeAll_steady t (m - n))
    · exact congrArg Steady.clk (State.lapNormal_steady _)
  cases last with
  | none => exact ⟨s.clk.lastG, rfl⟩
  | some t =>
    refine ⟨(secs : Int) - t - (s.clk.frame * 16 / 1000000 : Nat), ?_⟩
    unfold State.measureGap
    dsimp only
    split
    · exact congrArg Steady.clk (State.raise_steady _ _ _ _ _ _)
    · exact aged _ _ _

theorem State.recordTime_clk (s : State) : ∃ k f, s.recordTime.clk = { s.clk with lastKnown := k, lastKnownFrame := f } := by
  unfold State.recordTime
  split
  · exact ⟨s.clk.lastKnown, s.clk.lastKnownFrame, rfl⟩
  · exact ⟨_, _, rfl⟩

theorem State.setClock_clk (s : State) (secs frac : Nat) : ∃ k f g, (s.setClock secs frac).clk =
    { s.clk with isSet := true, secs := secs, frac := frac, measured := true, lastKnown := k, lastKnownFrame := f, lastG := g } := by
  have told (t : State) (a b : Bool) (x y : List Nat) :
      (if a then t.raise 593 1 0 x else if b then t.raise 593 2 1 y else t).clk = t.clk := by
    split
    · exact congrArg Steady.clk (State.raise_steady _ _ _ _ _ _)
    · split
      · exact congrArg Steady.clk (State.raise_steady _ _ _ _ _ _)
      · rfl
  unfold State.setClock
  dsimp only
  obtain ⟨k, f, written⟩ := State.recordTime_clk _
  rw [written]
  split
  · obtain ⟨g, measured⟩ := State.measureGap_clk _ _ _
    rw [measured, told]
    exact ⟨k, f, g, rfl⟩
  · rw [told]
    exact ⟨k, f, s.clk.lastG, rfl⟩

section
variable {s : State} {secs frac : Nat}

theorem effSetTime_early (h : secs < 1735689600) : effSetTime secs frac s = (s, errR 0x0104 0) := if_pos h

theorem effSetTime_stopped (h : 1735689600 ≤ secs) (ha : s.clk.aonRuns = false) : effSetTime secs frac s = (s, errR 0x0202 0 0x24) :=
  (if_neg (Nat.not_lt.mpr h)).trans (if_pos (by simp [ha]))

theorem effSetTime_sets (frac : Nat) (h : 1735689600 ≤ secs) (ha : s.clk.aonRuns = true) : ∃ t g,
    effSetTime secs frac s = (t, okR [if s.clk.isSet then s.clk.secs else 0, g]) ∧
      t.clk.isSet = true ∧ t.clk.secs = secs ∧ t.clk.frac = frac ∧ t.clk.frame = s.clk.frame := by
  obtain ⟨_, _, _, clk⟩ := s.setClock_clk secs frac
  refine ⟨s.setClock secs frac, _, (if_neg (Nat.not_lt.mpr h)).trans (if_neg (by simp [ha])), ?_⟩
  rw [clk]
  exact ⟨rfl, rfl, rfl, rfl⟩
end

/-- A setting put is the one found. -/
theorem find?_insertBy {α : Type} (le : α → α → Bool) (p : α → Bool) (x : α) (hx : p x = true) (l : List α) (h : ∀ y ∈ l, p y = false) :
    (insertBy le x l).find? p = some x := by
  induction l with
  | nil => simp [insertBy, hx]
  | cons y l ih =>
    unfold insertBy
    split
    · rw [List.find?_cons_of_neg (by simp [h y])]
      exact ih fun z hz => h z (List.mem_cons_of_mem _ hz)
    · exact List.find?_cons_of_pos hx

theorem State.setCtl_ctlValue (s : State) (i sc v : Nat) : (s.setCtl i sc v).ctlValue i sc = v := by
  have found : ((s.setCtl i sc v).ctl.find? fun (a, b, _) => a == i && b == sc) = some (i, sc, v) :=
    find?_insertBy _ _ _ (by simp) _ (by simp; tauto)
  rw [State.ctlValue, found]

theorem State.settingOf_own {s : State} {i sc : Nat} (h : perRelationship i = false) : s.settingOf i sc = s.ctlValue i sc := by
  simp [State.settingOf, h]

theorem State.applySetting_own {s : State} {i sc v : Nat} (h : perRelationship i = false) (hp : i ≠ ctlHalPort) :
    s.applySetting i sc v = s.setCtl i sc v := by
  simp [State.applySetting, h, hp]

theorem State.controlRefused_none {s : State} {i sc : Nat} {k : ControlSpec} (hk : controlSpec s i sc = some k)
    (hs : scopeOk k.scope sc = true) (hr : perRelationship i = false) : s.controlRefused i sc = none := by
  simp [State.controlRefused, hk, hs, hr]

section
variable {s : State} {i sc v : Nat} {k : ControlSpec}

theorem effSetControl_unlisted (h : controlSpec s i sc = none) : effSetControl i sc v s = (s, errR 0x0101) := by
  simp [effSetControl, State.controlRefused, h]

theorem effSetControl_scope (h : controlSpec s i sc = some k) (hs : scopeOk k.scope sc = false) :
    effSetControl i sc v s = (s, errR 0x0104 4) := by
  simp [effSetControl, State.controlRefused, h, hs]

theorem effSetControl_range (h : controlSpec s i sc = some k) (hs : scopeOk k.scope sc = true) (hr : perRelationship i = false)
    (ha : i ≠ ctlAllowlist) (hc : i ≠ ctlCharge0) (hv : v < k.lo ∨ k.hi < v) : effSetControl i sc v s = (s, errR 0x0104 8) := by
  simp [effSetControl, State.controlRefused_none h hs hr, h, ha, hc, hv]

theorem effSetControl_in_range (h : controlSpec s i sc = some k) (hs : scopeOk k.scope sc = true) (hr : perRelationship i = false)
    (ha : i ≠ ctlAllowlist) (hc : i ≠ ctlCharge0) (hlo : k.lo ≤ v) (hhi : v ≤ k.hi) (hb : settingCombinationBad s i sc v = false)
    (hsp : i ≠ ctlSpare) (hp : i ≠ ctlHalPort) : effSetControl i sc v s =
      if absentInput s k.scope sc then (s, okR [s.ctlValue i sc]) else (s.setCtl i sc v, okR [v]) := by
  simp [effSetControl, State.controlRefused_none h hs hr, h, ha, hc, Nat.not_lt.mpr hlo, Nat.not_lt.mpr hhi, hb, hsp,
    State.settingOf_own hr, State.applySetting_own hr hp, State.setCtl_ctlValue]
end

section
variable {s : State} {f : Nat}

theorem State.putAlloc_alloc {res v : Nat} (h : f < s.fns.length) : ((s.putAlloc f res v).fn f).alloc = (s.fn f).alloc.set (res - 1) v :=
  congrArg Fn.alloc (s.modFn_fn_same f _ h)

theorem effSetAllocation_own {res v : Nat} (h : res ≤ 6) : effSetAllocation 0 res v s = (s, errR 0x0104 2) := by
  simp [effSetAllocation, h]

theorem effSetAllocation_namespaces_range {v : Nat} (hf : 1 ≤ f) (hv : 1024 < v) : effSetAllocation f 3 v s = (s, errR 0x0104 8) := by
  simp [effSetAllocation, resourceMax, hv, Nat.ne_of_gt hf]

/-- The checks of Set Allocation on a count of namespaces in its range. -/
theorem effSetAllocation_namespaces {v : Nat} (hf : 1 ≤ f) (hv : v ≤ 1024) : effSetAllocation f 3 v s =
    if s.allocOf f 3 < v ∧ s.available f 3 < v then (s, errR 0x0301 3)
    else if v < s.useOf f 3 then (s, errR 0x0203 3)
    else (s.putAlloc f 3 v, okR [v]) := by
  simp [effSetAllocation, resourceMax, Nat.not_lt.mpr hv, Nat.ne_of_gt hf]

theorem effSetAllocation_queues_online {v : Nat} (hf : 1 ≤ f) (ho : (s.fn f).state ≠ .offline) (hv : v ≤ 256) :
    effSetAllocation f 1 v s = (s, errR 0x0201 f (s.fn f).state.num) := by
  simp [effSetAllocation, resourceMax, Nat.not_lt.mpr hv, Nat.ne_of_gt hf, ho]
end

end Sys2Proof.Machine
end

section
/-! SUPPORT. The life of a function (R313, R315, R500) does not depend on the work squashed or drained with its reset. -/

namespace Sys2Proof.Machine

/-- The life of a function: its state, the cause of its reset, and whether it drains. -/
def Fn.life (f : Fn) : InstState × Option ResetCause × Bool := (f.state, f.resetCause, f.draining)

/-- The lives of the functions. -/
def State.lives (s : State) : List (InstState × Option ResetCause × Bool) := s.fns.map Fn.life

theorem State.lives_fn (s : State) (f : Nat) : (s.fn f).life = s.lives.getD f (Fn.life { fn := f }) := by
  simp only [State.lives, State.fn]
  exact (List.getD_map _ _ _).symm

theorem State.modFn_lives_congr {s t : State} (h : s.fns = t.fns) (f : Nat) {g k : Fn → Fn} (hg : ∀ x, (g x).life = (k x).life) :
    (s.modFn f g).lives = (t.modFn f k).lives := by
  refine List.ext_getElem? fun i => ?_
  simp only [State.lives, State.modFn, State.modFns, h, List.getElem?_map, List.getElem?_modify]
  split <;> simp [Function.comp_def, hg]

theorem State.modFn_lives (s : State) (f : Nat) {g : Fn → Fn} (hg : ∀ x, (g x).life = x.life) : (s.modFn f g).lives = s.lives := by
  refine (State.modFn_lives_congr rfl f (k := id) hg).trans ?_
  simp [State.modFn, State.modFns]

theorem State.lives_workBlind : WorkBlind State.lives where
  io _ _ := rfl
  ctrl s f port1 g := by
    unfold State.modCtrl
    split
    · rfl
    · exact s.modFn_lives f fun _ => rfl
  counters s f _ := s.modFn_lives f fun _ => rfl
  emit _ _ := rfl
  media _ _ := rfl
  nss _ _ := rfl
  luns _ _ := rfl
  masts _ _ := rfl
  pwr _ _ := rfl
  start _ _ := rfl
  evt _ _ := rfl
  fix _ _ := rfl

theorem State.pwr_hostBlind : HostBlind State.pwr where
  io _ _ := rfl
  ctrl s f port1 g := by
    unfold State.modCtrl
    split <;> rfl
  counters _ _ _ := rfl
  emit _ _ := rfl

/-- The reset of an online function begins: it drains when the manager asked for the reset and its policy says so (R500). -/
theorem State.beginReset_lives {s : State} {f : Nat} (h : (s.fn f).state = .online) (cause : ResetCause) :
    (s.beginReset f cause).lives = (s.modFn f fun x => { x with
      state := .resetting, resetCause := some cause
      draining := (cause == .resetInstance || cause == .offline) && s.ctlValue ctlResetPolicy f == 0 }).lives := by
  unfold State.beginReset
  simp only [h]
  split
  · exact (State.lives_workBlind.abortJobs _ _ _).trans ((State.lives_workBlind.releaseDrained _ _).trans
      ((State.lives_workBlind.drain _ _).trans (State.modFn_lives_congr rfl f fun _ => rfl)))
  · exact (State.lives_workBlind.squash _ _ _ _).trans (State.modFn_lives_congr rfl f fun _ => rfl)

theorem State.beginReset_life {s : State} {f : Nat} (hf : f < s.fns.length) (h : (s.fn f).state = .online) (cause : ResetCause) :
    ((s.beginReset f cause).fn f).life =
      (.resetting, some cause, (cause == .resetInstance || cause == .offline) && s.ctlValue ctlResetPolicy f == 0) := by
  rw [State.lives_fn, State.beginReset_lives h, ← State.lives_fn, State.modFn_fn_same s f _ hf]
  rfl

theorem State.beginReset_life_offline {s : State} {f : Nat} (hf : f < s.fns.length) (h : (s.fn f).state = .online) :
    ((s.beginReset f .offline).fn f).state = .resetting ∧ ((s.beginReset f .offline).fn f).resetCause = some .offline ∧
      ((s.beginReset f .offline).fn f).draining = (s.ctlValue ctlResetPolicy f == 0) := by
  have life := State.beginReset_life hf h .offline
  exact ⟨congrArg (·.1) life, congrArg (·.2.1) life, congrArg (·.2.2) life⟩

theorem effReset_online {s : State} {f : Nat} (hf : 1 ≤ f) (h : (s.fn f).state = .online) (cause : ResetCause) :
    effReset f cause s = (s.beginReset f cause, none) := by
  simp [effReset, h, Nat.ne_of_gt hf]

theorem effReset_resetting {s : State} {f : Nat} (h : (s.fn f).state = .resetting) (cause : ResetCause) :
    effReset f cause s = (s, some (errR 0x0201 f 2)) := by
  simp [effReset, h]

end Sys2Proof.Machine
end

section
/-! SUPPORT. Delete Instance, Set Contract and Set Expert Enable (R8, R313, R322, R329). -/

namespace Sys2Proof.Machine

theorem mem_insertBy {α : Type} {le : α → α → Bool} {a x : α} {l : List α} : a ∈ insertBy le x l ↔ a = x ∨ a ∈ l := by
  induction l with
  | nil => simp [insertBy]
  | cons y l ih =>
    unfold insertBy
    split
    · simp [ih, or_left_comm]
    · simp

theorem mem_sortBy {α : Type} {le : α → α → Bool} {a : α} {l : List α} : a ∈ sortBy le l ↔ a ∈ l := by
  have folded (l acc : List α) : a ∈ l.foldl (fun acc x => insertBy le x acc) acc ↔ a ∈ l ∨ a ∈ acc := by
    induction l generalizing acc with
    | nil => simp
    | cons x l ih => rw [List.foldl_cons, ih, mem_insertBy, List.mem_cons, or_left_comm, or_assoc]
  simp [sortBy, folded]

/-- What Delete Instance makes of a slot. -/
def Slot.released (k : Slot) : Slot := { k with
  owner := none, state := .empty, key := 0, keyRef := 0xFFFF, newKey := none, newRef := 0xFFFF, persistent := false, newPersistent := false
  generation := if k.state == .empty then k.generation else k.generation + 1 }

theorem mem_putBy {α : Type} {key : α → Nat} {x y : α} {l : List α} (h : y ∈ putBy key x l) : y = x ∨ (y ∈ l ∧ key y ≠ key x) := by
  unfold putBy at h
  split at h
  · obtain ⟨z, hz, rfl⟩ := List.mem_map.mp h
    split
    · exact .inl rfl
    next ne => exact .inr ⟨hz, by simpa using ne⟩
  next none =>
    rcases List.mem_append.mp h with hy | hy
    · exact .inr ⟨hy, fun e => none (List.any_eq_true.mpr ⟨y, hy, by simp [e]⟩)⟩
    · exact .inl (List.mem_singleton.mp hy)

/-- A slot after the release of one is free, or is another slot as it was. -/
theorem State.modSlot_released_slots {s : State} {n : Nat} {k : Slot} (h : k ∈ (s.modSlot n Slot.released).keys.slots) :
    k.owner = none ∨ (k ∈ s.keys.slots ∧ k.number ≠ n) := by
  have number : ((s.keys.slots.find? (·.number == n)).getD { number := n }).number = n := by
    cases e : s.keys.slots.find? (·.number == n) with
    | none => rfl
    | some k => simpa using List.find?_some e
  rcases mem_putBy h with rfl | ⟨hk, ne⟩
  · exact .inl rfl
  · exact .inr ⟨hk, fun e => ne (e.trans number.symm)⟩

theorem State.releaseSlots_slots {s : State} {l : List Nat} {k : Slot} (h : k ∈ (s.releaseSlots l).keys.slots) :
    k.owner = none ∨ (k ∈ s.keys.slots ∧ k.number ∉ l) := by
  change k ∈ (each l (fun s n => s.modSlot n Slot.released) s).keys.slots at h
  induction l generalizing s with
  | nil => exact .inr ⟨h, List.not_mem_nil⟩
  | cons n l ih =>
    rcases ih h with free | ⟨hk, hl⟩
    · exact .inl free
    · rcases State.modSlot_released_slots hk with free | ⟨hs, ne⟩
      · exact .inl free
      · exact .inr ⟨hs, by simp [ne, hl]⟩

theorem State.releaseSlots_fns (s : State) (l : List Nat) : (s.releaseSlots l).fns = s.fns :=
  each_view State.fns (fun s n => s.modSlot n Slot.released) (fun _ _ => rfl) l s

theorem State.slotsOf_eq_nil {s : State} {f : Nat} (h : ∀ k ∈ s.keys.slots, k.owner = some f → dataSlot k.number = false) :
    s.slotsOf f = [] := by
  have none : (s.keys.slots.filter fun k => k.owner == some f && dataSlot k.number) = [] := by
    rw [List.filter_eq_nil_iff]
    intro k hk
    simpa using h k hk
  rw [State.slotsOf, none]
  rfl

theorem State.mem_slotsOf {s : State} {f : Nat} {k : Slot} (hk : k ∈ s.keys.slots) (ho : k.owner = some f)
    (hd : dataSlot k.number = true) : k.number ∈ s.slotsOf f := by
  refine mem_sortBy.mpr (List.mem_map.mpr ⟨k, List.mem_filter.mpr ⟨hk, ?_⟩, rfl⟩)
  simp [ho, hd]

/-- What Delete Instance makes of the record of its function. -/
def Fn.deleted (f : Fn) : Fn := ({ f with
  keks := [], alloc := [0, 0, 0, 0, 0, 0, 0, 0], contract := {}, expert := false, consents := [] } : Fn).zeroCredit

/-- The slots' images kept with Delete Instance. -/
def State.logImages (s : State) (l : List Nat) : State := each l (fun s n => s.logImage n (s.slot n).generation) s

theorem State.logImages_view {β : Type} (view : State → β) (h : ∀ (s : State) (j : Nat) (r : JRec), view (s.log j r) = view s)
    (s : State) (l : List Nat) : view (s.logImages l) = view s := each_view view _ (fun s _ => h s _ _) l s

section
variable {s : State} {f : Nat} (b : Bool)

theorem effDeleteInstance_started (hf : 1 ≤ f) (ho : (s.fn f).state ≠ .offline) :
    effDeleteInstance f b s = (s, errR 0x0201 f (s.fn f).state.num) := by
  simp [effDeleteInstance, Nat.ne_of_gt hf, ho]

/-- The state that Delete Instance leaves of a function without namespaces of its own. -/
theorem effDeleteInstance_empty (hf : 1 ≤ f) (ho : (s.fn f).state = .offline) (hn : s.originNs f = []) : effDeleteInstance f b s =
    (((((s.releaseSlots (s.slotsOf f)).logImages (s.slotsOf f)).modFn f Fn.deleted).modCtl fun l =>
      l.filter fun (i, sc, _) => ! ((i == ctlResetPolicy || i == ctlDrainLimit) && sc == f)).log 8 (.setting 0x00F00009 f 0), okR) := by
  rw [effDeleteInstance, hn, if_neg (by simpa using Nat.ne_of_gt hf), if_neg (by simp [ho])]
  rfl

theorem effDeleteInstance_leaves_nothing (h : f < s.fns.length) (hf : 1 ≤ f) (ho : (s.fn f).state = .offline) (hn : s.originNs f = []) :
    ∃ t, effDeleteInstance f b s = (t, okR) ∧ t.fn f = (s.fn f).deleted ∧ t.slotsOf f = [] := by
  refine ⟨_, effDeleteInstance_empty b hf ho hn, ?_, State.slotsOf_eq_nil fun k hk own => ?_⟩
  · have fns : ((s.releaseSlots (s.slotsOf f)).logImages (s.slotsOf f)).fns = s.fns :=
      (State.logImages_view State.fns (fun _ _ _ => rfl) _ _).trans (State.releaseSlots_fns _ _)
    refine (State.modFn_fn_same _ f _ (by rwa [fns])).trans ?_
    rw [State.fn, fns]
    rfl
  · have slots : ((s.releaseSlots (s.slotsOf f)).logImages (s.slotsOf f)).keys = (s.releaseSlots (s.slotsOf f)).keys :=
      State.logImages_view State.keys (fun _ _ _ => rfl) _ _
    change k ∈ ((s.releaseSlots (s.slotsOf f)).logImages (s.slotsOf f)).keys.slots at hk
    rw [slots] at hk
    rcases State.releaseSlots_slots hk with free | ⟨mem, out⟩
    · simp [free] at own
    · by_contra hd
      exact out (State.mem_slotsOf mem own (by simpa using hd))
end

section
variable {s : State} {f c r b t g : Nat} {ct : Bool}

theorem classOf_eq_c {c : Nat} : classOf c = .c ↔ 2 ≤ c := by
  unfold classOf
  split
  next h => simp_all
  · split
    next h => simp_all
    next h k => simp_all; omega

theorem effSetContract_reserved (h : 960 < r ∨ (c < 2 ∧ r = 0)) : effSetContract f c ct r b t g s = (s, errR 0x0104 4) := by
  simp only [effSetContract]
  rw [if_pos]
  rcases h with h | ⟨hc, hr⟩
  · simp [h]
  · have : classOf c ≠ .c := fun e => Nat.not_le.mpr hc (classOf_eq_c.mp e)
    simp [hr, this]

theorem effSetContract_burst (hr : r ≤ 960) (h1 : 1 ≤ r) (h : b < r ∨ 1024 < b) : effSetContract f c ct r b t g s = (s, errR 0x0104 6) := by
  simp only [effSetContract]
  rw [if_neg (by simp; omega), if_pos (by simpa using h)]

theorem effSetContract_kept (hf : f < s.fns.length) (h1 : 1 ≤ r) (hb : r ≤ b) (hb' : b ≤ 1024) (hg : 1 ≤ g) (hg' : g ≤ 1024)
    (hsum : sumOf (fun x => if x.fn == f then 0 else x.contract.reserved) s.fns + r ≤ 960) :
    ∃ u, effSetContract f c ct r b 0 g s = (u, okR) ∧
      (u.fn f).contract = { cls := classOf c, constantTime := ct, reserved := r, burst := b, t := none, ceiling := g } := by
  simp only [effSetContract]
  rw [if_neg (by simp; omega), if_neg (by simp; omega), if_neg (by decide)]
  simp only [State.newT]
  rw [if_pos (by decide)]
  dsimp only
  rw [if_neg (by simp; omega), if_neg (by simpa using hsum)]
  exact ⟨_, rfl, congrArg Fn.contract (s.modFn_fn_same f _ hf)⟩
end

theorem effSetExpertEnable_kept {s : State} {f : Nat} (hf : f < s.fns.length) (b : Bool) : ∃ t, effSetExpertEnable f b s = (t, okR) ∧
    (t.fn f).expert = b ∧ ∀ k, k ≠ f → t.fn k = s.fn k :=
  ⟨_, rfl, congrArg Fn.expert (s.modFn_fn_same f _ hf), fun _ hk => s.modFn_fn_other f _ _ hk⟩

end Sys2Proof.Machine
end

section
/-! SUPPORT. The reef limit, the crow's nest, Power Down, the capacitance test, the pauses and the restored controls (R16, R235, R417, R493). -/

namespace Sys2Proof.Machine

section
variable {s : State}

theorem State.tx_pwr (s : State) (port : Nat) (k : TxPkt) : (s.tx port k).pwr = s.pwr := by
  unfold State.tx
  dsimp only
  repeat' split
  all_goals rfl

theorem State.departures_pwr (s : State) (reason : Nat) : (s.departures reason).pwr = s.pwr := by
  refine each_view State.pwr _ (fun s i => ?_) _ _
  split
  · exact s.tx_pwr _ _
  · rfl

theorem State.beginPrep_pwr (s : State) : s.beginPrep.pwr = { s.pwr with stopped := true, prep := 1 } :=
  each_view State.pwr _ (fun _ _ => State.pwr_hostBlind.conclude _ _ _ _ _ _) _ _

theorem effPowerDown_again (h : s.pwr.poweringDown = true) : effPowerDown s = (s, some (errR 0x0202 0 0x22)) := by
  simp [effPowerDown, h]

theorem effPowerDown_begins (h : s.pwr.poweringDown = false) : ∃ t, effPowerDown s = (t, none) ∧
    t.pwr = { s.pwr with poweringDown := true, stopped := true, prep := 1 } := by
  refine ⟨_, by rw [effPowerDown, if_neg (by simp [h])], ?_⟩
  rw [State.beginPrep_pwr, State.modPwr_pwr, State.departures_pwr]

theorem effSetReefLimit_status (s : State) (l : Nat) : ∃ r, effSetReefLimit l s = (s.modPwr fun p => { p with hostLimit := l }, r) ∧
    r.status = if l < (s.modPwr fun p => { p with hostLimit := l }).reef then 1 else 0 := by
  refine ⟨_, rfl, ?_⟩
  split <;> rfl

theorem effEnterCrowsNest_armed (h : s.crowBarred = none) (n : Nat) :
    effEnterCrowsNest n s = (s.modPwr fun p => { p with armed := some n }, okR) := by
  simp [effEnterCrowsNest, h]

theorem effEnterCrowsNest_barred {d : Nat} (h : s.crowBarred = some d) (n : Nat) : effEnterCrowsNest n s = (s, errR 0x0202 0 d) := by
  simp [effEnterCrowsNest, h]

theorem effStartCapacitanceSelfTest_running (h : s.nrg.test.isSome = true) (v : Nat) : effStartCapacitanceSelfTest v s = (s, none) := by
  simp [effStartCapacitanceSelfTest, h]

theorem effStartCapacitanceSelfTest_starts {v : Nat} (h : s.nrg.test = none) (hv : s.selfTestPasses (bankRaw s.record v) = true) :
    effStartCapacitanceSelfTest v s = (s.startSelfTest (bankRaw s.record v), none) := by
  simp [effStartCapacitanceSelfTest, h, hv]
end

/-- One controller's DMA paused for a command. -/
def State.pauseDma (s : State) (x : Nat × Bool) : State := s.modCtrl x.1 x.2 fun c => { c with pCmd := true }

theorem State.pauseDma_fns_length (s : State) (x : Nat × Bool) : (s.pauseDma x).fns.length = s.fns.length :=
  congrArg Shape.fns (State.modCtrl_shape s x.1 x.2 _)

theorem State.pauseDma_view {β : Type} (view : State → β) (h1 : ∀ s (g : Ctrl → Ctrl), view (s.modCtrl1 g) = view s)
    (h : ∀ s (g : List Fn → List Fn), view (s.modFns g) = view s) (s : State) (x : Nat × Bool) : view (s.pauseDma x) = view s := by
  unfold State.pauseDma State.modCtrl
  split
  · exact h1 _ _
  · exact h _ _

theorem State.pauseDma_self {s : State} {f : Nat} (h : f < s.fns.length) : ((s.pauseDma (f, false)).ctrl f false).pCmd = true :=
  congrArg (fun x : Fn => x.ctrl.pCmd) (s.modFn_fn_same f _ h)

theorem State.pauseDma_keeps {s : State} {f : Nat} (h : f < s.fns.length) (x : Nat × Bool) (hp : (s.ctrl f false).pCmd = true) :
    ((s.pauseDma x).ctrl f false).pCmd = true := by
  unfold State.pauseDma State.modCtrl
  split
  · exact hp
  · by_cases hf : f = x.1
    · subst hf
      exact congrArg (fun x : Fn => x.ctrl.pCmd) (s.modFn_fn_same _ _ h)
    · exact (congrArg (fun x : Fn => x.ctrl.pCmd) (s.modFn_fn_other _ _ _ hf)).trans hp

theorem State.pauseDma_each {s : State} {f : Nat} (h : f < s.fns.length) {l : List (Nat × Bool)}
    (hl : (f, false) ∈ l ∨ (s.ctrl f false).pCmd = true) : ((each l State.pauseDma s).ctrl f false).pCmd = true := by
  induction l generalizing s with
  | nil => exact hl.resolve_left List.not_mem_nil
  | cons x l ih =>
    refine ih (by rwa [State.pauseDma_fns_length]) ?_
    rcases hl with mem | paused
    · rcases List.mem_cons.mp mem with rfl | mem
      · exact .inr (State.pauseDma_self h)
      · exact .inl mem
    · exact .inr (State.pauseDma_keeps h x paused)

theorem mem_fnsOf {fns f : Nat} (h : f ≤ 128) (hb : bit fns f = true) : (f, false) ∈ fnsOf fns := by
  refine List.mem_flatMap.mpr ⟨f, List.mem_filter.mpr ⟨List.mem_range.mpr (by omega), hb⟩, ?_⟩
  split
  next e => simp [eq_of_beq e]
  · simp

theorem effPauseHostDma_pauses {s : State} {fns f : Nat} (h : f ≤ 128) (hf : f < s.fns.length) (hb : bit fns f = true) :
    ∃ t, effPauseHostDma fns s = (t, okR) ∧ (t.ctrl f false).pCmd = true ∧ t.io = s.io ∧ t.nss = s.nss :=
  ⟨each (fnsOf fns) State.pauseDma s, rfl, State.pauseDma_each hf (.inl (mem_fnsOf h hb)),
    each_view State.io _ (State.pauseDma_view State.io (fun _ _ => rfl) fun _ _ => rfl) _ _,
    each_view State.nss _ (State.pauseDma_view State.nss (fun _ _ => rfl) fun _ _ => rfl) _ _⟩

theorem effResumeHostDma_eq (fns : Nat) (s : State) : effResumeHostDma fns s =
    (each (fnsOf fns) (fun s x => (s.modCtrl x.1 x.2 fun c => { c with pCmd := false }).resumeFn x.1 x.2) s, okR) := rfl

theorem State.unsetCtl_ctl (s : State) (i sc : Nat) : (s.unsetCtl i sc).ctl = s.ctl.filter fun (a, b, _) => ! (a == i && b == sc) := rfl

/-- The defaults of the settings of `l`. -/
def State.unsetAll (s : State) (l : List (Nat × Nat × Nat)) : State := each l (fun s (i, sc, _) => s.unsetCtl i sc) s

theorem State.mem_unsetAll_ctl {s : State} {l : List (Nat × Nat × Nat)} {x : Nat × Nat × Nat} (h : x ∈ (s.unsetAll l).ctl) :
    x ∈ s.ctl ∧ x ∉ l := by
  induction l generalizing s with
  | nil => exact ⟨h, List.not_mem_nil⟩
  | cons y l ih =>
    obtain ⟨kept, out⟩ := ih (s := s.unsetCtl y.1 y.2.1) h
    rw [State.unsetCtl_ctl, List.mem_filter] at kept
    refine ⟨kept.1, fun mem => ?_⟩
    rcases List.mem_cons.mp mem with rfl | mem
    · simp at kept
    · exact out mem

theorem State.unsetAll_own (s : State) : (s.unsetAll s.ctl).ctl = [] :=
  List.eq_nil_iff_forall_not_mem.mpr fun _ h => (State.mem_unsetAll_ctl h).2 (State.mem_unsetAll_ctl h).1

theorem State.wakeDomain_halyard_ctl (s : State) (p : Nat) : (s.wakeDomain (75 + p)).ctl = s.ctl := by
  unfold State.wakeDomain
  rw [if_neg (show ¬ 75 + p < 72 by omega)]
  split <;> rfl

theorem State.switchPort_on_ctl (s : State) (p : Nat) : (s.switchPort p true).ctl = s.ctl := by
  unfold State.switchPort
  rw [if_pos rfl]
  split
  · exact s.wakeDomain_halyard_ctl p
  · rfl

theorem effRestoreDefaultControls_unlisted {s : State} {g : Nat} (h0 : g ≠ 0) (h : g ∉ controlGroups) :
    effRestoreDefaultControls g s = (s, errR 0x0104 0) := by
  simp [effRestoreDefaultControls, h0, h]

theorem effRestoreDefaultControls_all (s : State) : ∃ t, effRestoreDefaultControls 0 s = (t, okR) ∧ t.ctl = [] ∧ t.hal.allowlist = [] := by
  have all : (s.ctl.filter fun (_, _, _) => true) = s.ctl := List.filter_eq_self.mpr fun _ _ => rfl
  refine ⟨_, rfl, ?_, rfl⟩
  change (each ([0, 1, 2].filter fun p => ! s.portEnabled p) (fun s p => s.switchPort p true) (s.unsetAll (s.ctl.filter fun (_, _, _) => true))).ctl = []
  rw [all, each_view State.ctl _ (fun s p => s.switchPort_on_ctl p), State.unsetAll_own]

end Sys2Proof.Machine
end

section
/-! SUPPORT. Ownership, signed objects, Format Media, read-preserve and attestation keys (R16, R329, R417, R494). -/

namespace Sys2Proof.Machine

section
variable {s : State}

theorem State.burnOwner_ownerKey (s : State) (key : PubKey) : (s.burnOwner key).ownerKey = some key := by
  simp [State.burnOwner, State.ownerKey]

theorem effTakeOwnership_taken {key : PubKey} (h : s.fuses.ownerBanks ≠ []) : effTakeOwnership key s = (s, errR 0x0201 0) := by
  simp [effTakeOwnership, h]

theorem effTakeOwnership_off_curve {key : PubKey} (h : s.fuses.ownerBanks = []) (hk : onCurve key = false) :
    effTakeOwnership key s = (s, errR 0x0601) := by
  simp [effTakeOwnership, h, hk]

theorem effTakeOwnership_burns {key : PubKey} (h : s.fuses.ownerBanks = []) (hk : onCurve key = true) :
    effTakeOwnership key s = (s.burnOwner key, okR [(keyPrint key).toNat]) := by
  simp [effTakeOwnership, h, hk]

theorem effTransferOwnership_full {key : PubKey} (h : s.fuses.ownerBanks.length = 16) : effTransferOwnership key s = (s, errR 0x0302) := by
  simp [effTransferOwnership, h]

theorem effTransferOwnership_burns {key : PubKey} (h : s.fuses.ownerBanks.length < 16) (hk : onCurve key = true) :
    effTransferOwnership key s = (s.burnOwner key, okR [(keyPrint key).toNat]) := by
  simp [effTransferOwnership, Nat.not_le.mpr h, hk]

/-- The highest revision of the drive record that the device has. -/
def State.driveRevision (s : State) : Nat :=
  max ((s.obj.drive.map (fun x => x.revision)).getD 0) ((s.obj.nextDrive.map (fun x => x.revision)).getD 0)

section
variable {d : DriveRecord} {p : MediaProfile} {r g : Nat}

theorem effWriteSignedObject_unassembled (h : s.provision = .unassembled) : effWriteSignedObject 1 d p r g s = (s, errR 0x0608) := by
  simp [effWriteSignedObject, h]

theorem effWriteSignedObject_old (h : s.provision ≠ .unassembled) (hd : d.revision ≤ s.driveRevision) :
    effWriteSignedObject 1 d p r g s = (s, errR 0x0104 12) := by
  simp only [effWriteSignedObject]
  rw [if_neg (by simpa using h)]
  exact if_pos hd

theorem effWriteSignedObject_unsigned (h : s.provision ≠ .unassembled) (hd : s.driveRevision < d.revision)
    (hs : s.makerSigned (driveMessage { d with sigR := r, sigS := g }) r g = false) : effWriteSignedObject 1 d p r g s = (s, errR 0x0608) := by
  simp only [effWriteSignedObject]
  rw [if_neg (by simpa using h)]
  refine (if_neg (Nat.not_le.mpr hd)).trans (if_pos ?_)
  simp [hs]

theorem effWriteSignedObject_kept (h : s.provision = .formatted) (hd : s.driveRevision < d.revision)
    (hr : recordOk { d with sigR := r, sigS := g } = true) (hs : s.makerSigned (driveMessage { d with sigR := r, sigS := g }) r g = true)
    (hk : recordKeeps s.record { d with sigR := r, sigS := g } = true) : effWriteSignedObject 1 d p r g s =
      (s.modObj fun b => { b with nextDrive := some { d with sigR := r, sigS := g } }, okR [d.revision]) := by
  simp only [effWriteSignedObject]
  rw [if_neg (by simp [h])]
  refine (if_neg (Nat.not_le.mpr hd)).trans ?_
  rw [if_neg (by simp [hr, hs]), if_neg (by simp [hk]), if_neg (by simp [h])]
  rfl
end

theorem effFormatMedia_unassembled (h : s.provision = .unassembled) : effFormatMedia s = (s, errR 0x0202 0 0x10) := by
  simp [effFormatMedia, h]

theorem find?_not_deleted (h : ∀ n ∈ s.nss, n.deleted = true) : s.nss.find? (! ·.deleted) = none :=
  List.find?_eq_none.mpr fun n hn => by simp [h n hn]

theorem effFormatMedia_logs (h : s.provision = .unformatted ∨ s.provision = .formatted) (hj : ∀ j ∈ s.peer.jobs, j.live = false)
    (hm : s.peer.mirrors = []) (hn : ∀ n ∈ s.nss, n.deleted = true) (hr : s.media.readPreserve = false) :
    effFormatMedia s = (s.log 8 .formatRecord, okR) := by
  have jobs : s.peer.jobs.find? Job.live = none := List.find?_eq_none.mpr fun j hj' => by simp [hj j hj']
  have namespaces : (s.nss.filter (! ·.deleted)) = [] := List.filter_eq_nil_iff.mpr fun n hn' => by simp [hn n hn']
  rcases h with h | h <;> simp [effFormatMedia, h, jobs, hm, namespaces, minBy, hr]

/-- What the media hold, and whether they are formatted. -/
def State.stored (s : State) : Bool × List Segment × List Stored × List Loss := (s.obj.formatted, s.media.segs, s.media.blocks, s.media.ledger)

theorem State.raise_stored (s : State) (source code severity : Nat) (args : List Nat) (fn : Nat) :
    (s.raise source code severity args fn).stored = s.stored := by
  unfold State.raise
  split <;> rfl

theorem State.putAlloc_stored (s : State) (fn res v : Nat) : (s.putAlloc fn res v).stored = s.stored := rfl

theorem State.raiseSlots_stored (s : State) (fn count : Nat) : (s.raiseSlots fn count).stored = s.stored :=
  each_view State.stored (fun s n => s.modSlot n fun k => { k with owner := some fn, state := .empty }) (fun _ _ => rfl) _ _

theorem State.defaultAlloc_stored (s : State) (fn : Nat) : (s.defaultAlloc fn).stored = s.stored := by
  refine (State.raiseSlots_stored _ _ _).trans ((each_view State.stored _ (fun s x => ?_) _ _).trans rfl)
  exact s.putAlloc_stored fn x.1 x.2

theorem State.formatMedia_stored (s : State) : s.formatMedia.stored = (true, [], [], []) := by
  have report (t : State) (l : List Nat) :
      (each l (fun s g => s.raise (60 * mastOfLun g + 4 + portOfLun g % 4) 4 2 [g, 0]) t).stored = t.stored :=
    each_view State.stored _ (fun _ _ => State.raise_stored _ _ _ _ _ _) _ _
  have formatted (t : State) : (t.modObj fun b => { b with formatted := true }).stored = (true, t.stored.2) := rfl
  have defaults (t : State) :
      (each ((List.range 128).map (· + 1)) State.defaultAlloc (((t.putAlloc 0 7 4).raiseSlots 0 4).putAlloc 0 8 256)).stored = t.stored :=
    (each_view State.stored _ State.defaultAlloc_stored _ _).trans ((State.putAlloc_stored _ _ _ _).trans
      ((State.raiseSlots_stored _ _ _).trans (State.putAlloc_stored _ _ _ _)))
  unfold State.formatMedia
  dsimp only
  split
  · rw [formatted, report]
    rfl
  · rw [defaults, formatted, report]
    rfl

theorem State.heldEffect_formatMedia (m : MbxHdr) (r : Resp) (h : ∀ n ∈ s.nss, n.deleted = true) :
    s.heldEffect (.formatMedia m) r = (s.formatMedia, r) := by
  simp only [State.heldEffect, find?_not_deleted h]

theorem effLeaveReadPreserve_idle (h : s.media.readPreserve = false) : effLeaveReadPreserve s = (s, okR) := by
  simp [effLeaveReadPreserve, h]

theorem effLeaveReadPreserve_barred (h : s.media.readPreserve = true) (hb : s.media.newerMajor = true ∨ s.availableBlocks < s.reservedBlocks) :
    effLeaveReadPreserve s = (s, errR 0x0202 0 0x20) := by
  rcases hb with hb | hb <;> simp [effLeaveReadPreserve, h, hb]

theorem effLeaveReadPreserve_left (h : s.media.readPreserve = true) (hm : s.media.newerMajor = false) (hb : s.reservedBlocks ≤ s.availableBlocks)
    (hw : (widthsOf s.variant).all s.obtainable = true) : ∃ t, effLeaveReadPreserve s = (t, okR) ∧ t.media.readPreserve = false := by
  have left (t : State) : (t.raise 599 2 0 []).media = t.media := by
    unfold State.raise
    split <;> rfl
  refine ⟨_, by rw [effLeaveReadPreserve, if_neg (by simp [h]), if_neg (by simp [hm, hw, Nat.not_lt.mpr hb])], ?_⟩
  rw [left]
  rfl

theorem State.signWith_ownerKeys (s : State) (kind key slot fn : Nat) (nonce : Digest) (body : List Nat) :
    (s.signWith kind key slot fn nonce body).1.keys.ownerKeys = s.keys.ownerKeys := by
  unfold State.signWith
  split <;> rfl

theorem two_pow_sub_bounds {w v c : Nat} (hv : v ≤ w) (hc : 0 < c) (h : 1 + c < 2 ^ v) : 1 < 2 ^ w - c ∧ 2 ^ w - c < 2 ^ w := by
  have le : 2 ^ v ≤ 2 ^ w := Nat.pow_le_pow_right Nat.two_pos hv
  omega

theorem pN_bounds : 1 < pN ∧ pN < 2 ^ 384 := two_pow_sub_bounds (v := 192) (by decide) (by decide) (by norm_num)

/-- A scalar below the order of a curve is kept by a register as wide as the order. -/
theorem toNat_scalar {w n : Nat} (h1 : 1 < n) (hw : n < 2 ^ w) (x : Nat) : (BitVec.ofNat w (1 + x % (n - 1))).toNat = 1 + x % (n - 1) := by
  have below : x % (n - 1) < n - 1 := Nat.mod_lt _ (by omega)
  rw [BitVec.toNat_ofNat, Nat.mod_eq_of_lt (lt_trans (by omega) hw)]

/-- The key that Create Owner Attestation Key makes. -/
def State.madeKey (s : State) (k : Nat) : OwnerKey :=
  let d := 1 + (Config.drbgScalar s.keys.draws).toNat % (pN - 1)
  { slot := k, priv := BitVec.ofNat 384 d, pub := pubFromPriv d }

theorem effCreateOwnerAttestationKey_held {k : Nat} (v : Via) (h : (s.keys.ownerKeys.any fun x => x.slot == k) = true) :
    effCreateOwnerAttestationKey v k s = (s, errR 0x0203 k) := by
  rw [effCreateOwnerAttestationKey, if_pos h]

theorem effCreateOwnerAttestationKey_made {k : Nat} (v : Via) (h : (s.keys.ownerKeys.any fun x => x.slot == k) = false) :
    ∃ t r, effCreateOwnerAttestationKey v k s = (t, okR r) ∧ t.keys.ownerKeys.length = s.keys.ownerKeys.length + 1 ∧
      ∃ x ∈ t.keys.ownerKeys, x.slot = k ∧ x.pub = pubFromPriv x.priv.toNat := by
  have keys : (effCreateOwnerAttestationKey v k s).1.keys.ownerKeys = s.keys.ownerKeys ++ [s.madeKey k] := by
    rw [effCreateOwnerAttestationKey, if_neg (by simp [h])]
    exact State.signWith_ownerKeys _ _ _ _ _ _ _
  have answer : ∃ r, (effCreateOwnerAttestationKey v k s).2 = okR r := by
    rw [effCreateOwnerAttestationKey, if_neg (by simp [h])]
    exact ⟨_, rfl⟩
  obtain ⟨r, answer⟩ := answer
  refine ⟨_, r, Prod.ext rfl answer, ?_, s.madeKey k, ?_, rfl, ?_⟩
  · rw [keys, List.length_append, List.length_singleton]
  · rw [keys]
    exact List.mem_append_right _ (List.mem_singleton_self _)
  · exact congrArg pubFromPriv (toNat_scalar pN_bounds.1 pN_bounds.2 _).symm

theorem effDeleteOwnerAttestationKey_none {k : Nat} (h : (s.keys.ownerKeys.any fun x => x.slot == k) = false) :
    effDeleteOwnerAttestationKey k s = (s, errR 0x0201 k) := by
  simp only [effDeleteOwnerAttestationKey]
  rw [if_neg (by simp [h])]

theorem effDeleteOwnerAttestationKey_deletes {k : Nat} (h : (s.keys.ownerKeys.any fun x => x.slot == k) = true) :
    ∃ t, effDeleteOwnerAttestationKey k s = (t, okR) ∧ ∀ x ∈ t.keys.ownerKeys, x.slot ≠ k := by
  refine ⟨_, by rw [effDeleteOwnerAttestationKey, if_pos h], fun x hx => ?_⟩
  have := (List.mem_filter.mp hx).2
  simpa using this
end

end Sys2Proof.Machine
end

section
/-! SUPPORT. The effects of the manager commands, row by row. -/

namespace Sys2Proof.Machine

/-- Settles O51, by the effect of each row on what the statement names; what a reset squashes or drains reaches no function's life. -/
theorem managerEffects : Obligations.ManagerEffects := by
  unfold Obligations.ManagerEffects
  refine ⟨?setTime, ?setControl, ?controlScope, ?challenge, ?allocation, ?instances, ?delete, ?contract, ?expert, ?power, ?pause, ?resume,
    ?owner, ?object, ?format, ?readPreserve, ?attestation, ?noGroup, ?restore⟩
  case setTime =>
    refine fun s _ secs frac => ⟨fun h => now_eq (effSetTime_early h), fun h ha => now_eq (effSetTime_stopped h ha), fun h ha => ?_⟩
    obtain ⟨t, g, e, set⟩ := effSetTime_sets frac h ha
    exact ⟨t, g, now_eq e, set⟩
  case setControl =>
    refine fun s _ i sc v k hk hs hr ha hc => ⟨fun hv => now_eq (effSetControl_range hk hs hr ha hc hv), fun hlo hhi hb hsp hp =>
      ⟨fun present => ⟨?_, s.setCtl_ctlValue i sc v⟩, fun absent => ?_⟩⟩
    · exact now_eq ((effSetControl_in_range hk hs hr ha hc hlo hhi hb hsp hp).trans (if_neg (by simp [present])))
    · exact now_eq ((effSetControl_in_range hk hs hr ha hc hlo hhi hb hsp hp).trans (if_pos absent))
  case controlScope =>
    exact fun s _ i sc v => ⟨fun h => now_eq (effSetControl_unlisted h), fun k h hs => now_eq (effSetControl_scope h hs)⟩
  case challenge =>
    exact fun s m => ⟨_, rfl, rfl, rfl, fun x hx => by simpa using (List.mem_filter.mp hx).2⟩
  case allocation =>
    refine fun s _ f v hf _ => ⟨fun res _ h => now_eq (effSetAllocation_own h), fun h hv => now_eq (effSetAllocation_namespaces_range h hv),
      fun h hv ha hr => now_eq ?_, fun h hv hr hu => ?_, fun h hv hr hu => now_eq ?_, fun h ho hv => now_eq (effSetAllocation_queues_online h ho hv)⟩
    · rw [effSetAllocation_namespaces h hv, if_pos ⟨ha, hr⟩]
    · refine ⟨s.putAlloc f 3 v, now_eq ?_, State.putAlloc_alloc hf, rfl⟩
      rw [effSetAllocation_namespaces h hv, if_neg (by omega), if_neg (by omega)]
    · rw [effSetAllocation_namespaces h hv, if_neg (by omega), if_pos hu]
  case instances =>
    refine fun s _ f hf => ⟨fun h => ⟨s.goOnline f, now_eq (if_pos h), congrArg Fn.state (s.modFn_fn_same f _ hf)⟩,
      fun h => now_eq (if_neg (by simp [h])), fun h1 h => ?_, fun h => ⟨effReset_resetting h _, effReset_resetting h _⟩⟩
    obtain ⟨state, cause, drains⟩ := State.beginReset_life_offline hf h
    exact ⟨effReset_online h1 h _, effReset_online h1 h _, state, cause, drains⟩
  case delete =>
    refine fun s _ f b h1 hf => ⟨fun h => now_eq (effDeleteInstance_started b h1 h), fun h hn => ?_⟩
    obtain ⟨t, e, record, slots⟩ := effDeleteInstance_leaves_nothing b hf h1 h hn
    refine ⟨t, now_eq e, ?_, ?_, ?_, ?_, slots⟩ <;> rw [record] <;> rfl
  case contract =>
    refine fun s _ f c r b t g ct hf => ⟨fun h => now_eq (effSetContract_reserved h), fun hr h1 h => now_eq (effSetContract_burst hr h1 h),
      fun h1 hb hb' hg hg' hs => ?_⟩
    obtain ⟨u, e, kept⟩ := effSetContract_kept (c := c) (ct := ct) hf h1 hb hb' hg hg' hs
    exact ⟨u, now_eq e, kept⟩
  case expert =>
    intro s _ f b hf
    obtain ⟨t, e, kept⟩ := effSetExpertEnable_kept hf b
    exact ⟨t, now_eq e, kept⟩
  case power =>
    refine fun s _ l n v => ⟨?_, fun h => now_eq (effEnterCrowsNest_armed h n), fun d h => now_eq (effEnterCrowsNest_barred h n),
      effPowerDown_again, fun h => ?_, fun h => effStartCapacitanceSelfTest_running h v,
      fun h hv => ⟨_, effStartCapacitanceSelfTest_starts h hv, rfl, rfl⟩⟩
    · obtain ⟨r, e, status⟩ := effSetReefLimit_status s l
      exact ⟨r, now_eq e, status⟩
    · obtain ⟨t, e, power⟩ := effPowerDown_begins h
      exact ⟨t, e, by rw [power], by rw [power], by rw [power]⟩
  case pause =>
    intro s _ fns f h hf hb
    obtain ⟨t, e, paused⟩ := effPauseHostDma_pauses h hf hb
    exact ⟨t, now_eq e, paused⟩
  case resume => exact fun s _ fns => now_eq (effResumeHostDma_eq fns s)
  case owner =>
    refine fun s _ key => ⟨fun h => now_eq (effTakeOwnership_taken h), fun h hk => now_eq (effTakeOwnership_off_curve h hk),
      fun h hk => ⟨_, _, now_eq (effTakeOwnership_burns h hk), s.burnOwner_ownerKey key, rfl⟩,
      fun h => now_eq (effTransferOwnership_full h),
      fun h hk => ⟨_, _, now_eq (effTransferOwnership_burns h hk), s.burnOwner_ownerKey key, List.length_append⟩⟩
  case object =>
    exact fun s _ d p r g => ⟨fun h => now_eq (effWriteSignedObject_unassembled h), fun h hd => now_eq (effWriteSignedObject_old h hd),
      fun h hd hs => now_eq (effWriteSignedObject_unsigned h hd hs), fun h hd hr hs hk => now_eq (effWriteSignedObject_kept h hd hr hs hk)⟩
  case format =>
    refine fun s m => ⟨fun h => now_eq (effFormatMedia_unassembled h), fun h hj hm hn hr => ⟨now_eq (effFormatMedia_logs h hj hm hn hr),
      s.formatMedia, State.heldEffect_formatMedia m okR hn, ?_⟩⟩
    obtain ⟨formatted, segs, blocks, ledger⟩ : _ ∧ _ ∧ _ ∧ _ := by simpa [State.stored] using s.formatMedia_stored
    exact ⟨formatted, segs, blocks, ledger⟩
  case readPreserve =>
    refine fun s _ => ⟨fun h => now_eq (effLeaveReadPreserve_idle h), fun h hb => now_eq (effLeaveReadPreserve_barred h hb),
      fun h hm hb hw => ?_⟩
    obtain ⟨t, e, left⟩ := effLeaveReadPreserve_left h hm hb hw
    exact ⟨t, now_eq e, left⟩
  case attestation =>
    refine fun s m k => ⟨fun h => ⟨now_eq (effCreateOwnerAttestationKey_held m.via h), ?_⟩,
      fun h => ⟨now_eq (effDeleteOwnerAttestationKey_none h), ?_⟩⟩
    · obtain ⟨t, e, gone⟩ := effDeleteOwnerAttestationKey_deletes h
      exact ⟨t, now_eq e, gone⟩
    · obtain ⟨t, r, e, made⟩ := effCreateOwnerAttestationKey_made m.via h
      exact ⟨t, r, now_eq e, made⟩
  case noGroup => exact fun s _ g h0 h => now_eq (effRestoreDefaultControls_unlisted h0 h)
  case restore =>
    intro s _
    obtain ⟨t, e, restored⟩ := effRestoreDefaultControls_all s
    exact ⟨t, now_eq e, restored⟩

end Sys2Proof.Machine
end

section
/-! SUPPORT. What work in progress leaves of the masts, the LUNs and the furled domains: the standing of each mast, every LUN and the domains
that are off stay as they are while units are sealed again, losses are entered, zones are rehomed and reads are looked at again (R36 to R38). -/

namespace Sys2Proof.Machine

/-- A mast without what sealing and rescue programs change of it: the next values of its reservations, and its rescue blocks. -/
def Mast.standing (k : Mast) : Mast := { k with iv := k.iv.map fun r => { r with next := 0 }, rescue := [] }

theorem Mast.standing_of_takeIv {k k' : Mast} {ref v : Nat} (h : k.takeIv ref = some (v, k')) : k'.standing = k.standing := by
  unfold Mast.takeIv at h
  split at h
  · cases h
  next r _ =>
    cases h
    have same : (fun x : IvRes => { (if x == r then { x with next := x.next + 1 } else x) with next := 0 }) = fun x => { x with next := 0 } := by
      funext x
      dsimp only
      split <;> rfl
    unfold Mast.standing
    rw [List.map_map]
    exact congrArg (fun f => { k with iv := k.iv.map f, rescue := [] }) same

/-- The standing of the masts, the LUNs and the furled domains. -/
def State.bearing (s : State) : List Mast × List Lun × List Nat := (s.masts.map Mast.standing, s.luns, s.pwr.furled)

theorem State.mast_standing (s : State) (m : Nat) : (s.mast m).standing = s.bearing.1.getD m (Mast.standing { state := .absent }) :=
  (List.getD_map _ _ _).symm

theorem State.modMast_bearing (s : State) (m : Nat) {f : Mast → Mast} (h : (f (s.mast m)).standing = (s.mast m).standing) :
    (s.modMast m f).bearing = s.bearing := by
  have masts : (s.masts.modify m f).map Mast.standing = s.masts.map Mast.standing := by
    refine List.ext_getElem? fun i => ?_
    rw [List.getElem?_map, List.getElem?_map, List.getElem?_modify]
    by_cases hi : m = i
    · subst hi
      cases hk : s.masts[m]? with
      | none => rfl
      | some k =>
        have e : s.mast m = k := by simp [State.mast, List.getD_eq_getElem?_getD, hk]
        simpa [e] using h
    · simp [hi]
  simp [State.bearing, State.modMast, masts]

theorem State.bearing_hostBlind : HostBlind State.bearing where
  io _ _ := rfl
  ctrl s f port1 g := by
    unfold State.modCtrl
    split <;> rfl
  counters _ _ _ := rfl
  emit _ _ := rfl

section
variable (s : State)

theorem State.log_bearing (j : Nat) (r : JRec) : (s.log j r).bearing = s.bearing := rfl
theorem State.raise_bearing (source code severity : Nat) (args : List Nat) (fn : Nat) :
    (s.raise source code severity args fn).bearing = s.bearing := by
  unfold State.raise
  split <;> rfl
theorem State.modBlocks_bearing (p : Stored → Bool) (f : Stored → Stored) : (s.modBlocks p f).bearing = s.bearing := rfl
theorem State.modZone_bearing (nsid zi : Nat) (f : Zone → Zone) : (s.modZone nsid zi f).bearing = s.bearing := rfl
theorem State.demandMast_bearing (m : Nat) : (s.demandMast m).bearing = s.bearing := rfl

theorem State.asyncEvent_bearing (f : Nat) (port1 : Bool) (info : Nat) : (s.asyncEvent f port1 info).bearing = s.bearing := by
  unfold State.asyncEvent
  split
  · rfl
  · split
    · exact State.bearing_hostBlind.ctrl _ _ _ _
    · exact (State.bearing_hostBlind.postEntry _ _ _ _).trans (State.bearing_hostBlind.ctrl _ _ _ _)

theorem State.notifyZone_bearing (nsid zi : Nat) : (s.notifyZone nsid zi).bearing = s.bearing := by
  unfold State.notifyZone
  dsimp only
  split
  · rfl
  · refine (each_view State.bearing _ (fun s f => ?_) _ _).trans rfl
    split
    · exact (State.asyncEvent_bearing _ _ _ _).trans (State.asyncEvent_bearing _ _ _ _)
    · exact State.asyncEvent_bearing _ _ _ _

theorem State.sealHeld_bearing (p : Stored → Bool) : (s.sealHeld p).bearing = s.bearing := by
  refine each_view State.bearing _ (fun s b => ?_) _ _
  split
  · rfl
  next v k taken => exact (State.modBlocks_bearing _ _ _).trans (s.modMast_bearing _ (Mast.standing_of_takeIv taken))

theorem State.rescuePut_bearing (x pages : Nat) : (s.rescuePut x pages).2.bearing = s.bearing := s.modMast_bearing _ rfl

theorem State.rescueRun_bearing (luns : List Nat) (id : Nat × Nat) (first : Bool) (l : List Stored) :
    (s.rescueRun luns id first l).bearing = s.bearing := by
  unfold State.rescueRun
  split
  · rfl
  · exact each_view State.bearing _ (fun s _ => (State.modBlocks_bearing _ _ _).trans (s.rescuePut_bearing _ _)) _ _

theorem State.park_bearing (nsid zi : Nat) : (s.park nsid zi).bearing = s.bearing :=
  (State.modZone_bearing _ _ _ _).trans ((each_view State.bearing _
    (fun s _ => (State.log_bearing _ _ _).trans (s.rescueRun_bearing _ _ _ _)) _ _).trans (s.sealHeld_bearing _))

theorem State.setZone_bearing (nsid zi : Nat) (into : ZoneState) : (s.setZone nsid zi into).bearing = s.bearing := by
  unfold State.setZone
  dsimp only
  split
  · exact (State.park_bearing _ _ _).trans rfl
  · rfl

theorem State.markOverflow_bearing (nsid lba : Nat) : (s.markOverflow nsid lba).bearing = s.bearing := by
  unfold State.markOverflow
  split
  · rfl
  · split <;> rfl

theorem State.enterLoss_bearing (nsid lba count gen cause foundBy fn mast : Nat) :
    (s.enterLoss nsid lba count gen cause foundBy fn mast).bearing = s.bearing := by
  have reported (t : State) (sev : Nat) : (if (t.mast mast).state == .active then t.raise (60 * mast + 14) cause sev [nsid, lba, count]
      else t.raise 595 6 2 [nsid, lba, count]).bearing = t.bearing := by
    split <;> exact t.raise_bearing _ _ _ _ _
  refine (reported _ _).trans (Eq.trans rfl ?_)
  split
  · exact s.markOverflow_bearing _ _
  · rfl

theorem State.readLoss_bearing (c : Cmd) (b : RBlock) (cause glun gen : Nat) : (s.readLoss c b cause glun gen).bearing = s.bearing := by
  unfold State.readLoss
  dsimp only
  split
  · exact s.enterLoss_bearing _ _ _ _ _ _ _ _
  · exact Eq.trans rfl (s.enterLoss_bearing _ _ _ _ _ _ _ _)

theorem State.lookAt_bearing (c : Cmd) (b : RBlock) : (s.lookAt c b).1.bearing = s.bearing := by
  unfold State.lookAt
  dsimp only
  split
  · rfl
  · split
    case h_2 =>
      unfold State.awaitLoss
      split <;> rfl
    case h_7 =>
      split
      · rfl
      · split
        · exact s.readLoss_bearing _ _ _ _ _
        · exact each_view State.bearing _ (fun s m => s.demandMast_bearing m) _ _
        · rfl
        · rfl
    all_goals rfl

theorem State.lookAll_bearing (c : Cmd) : (s.lookAll c).bearing = s.bearing := by
  have looked (l : List RBlock) (st : State × List RBlock) : (l.foldl (fun (st : State × List RBlock) b =>
      let (s, b) := st.1.lookAt c b
      (s, st.2 ++ [b])) st).1.bearing = st.1.bearing := by
    induction l generalizing st with
    | nil => rfl
    | cons b l ih => exact (ih _).trans (st.1.lookAt_bearing c b)
  exact Eq.trans rfl (looked _ _)

theorem State.finishRead_bearing (id : Nat) : (s.finishRead id).bearing = s.bearing := by
  unfold State.finishRead
  split
  · rfl
  · split
    · rfl
    · exact State.bearing_hostBlind.conclude _ _ _ _ _ _

theorem State.retryReads_bearing (p : Cmd → RBlock → Bool) : (s.retryReads p).bearing = s.bearing := by
  refine each_view State.bearing _ (fun s c => ?_) _ _
  split
  · rfl
  · exact (State.finishRead_bearing _ _).trans (State.lookAll_bearing _ _)

theorem State.recheckBounds_bearing : s.recheckBounds.bearing = s.bearing := by
  refine each_view State.bearing _ (fun s c => ?_) _ _
  dsimp only
  split
  · rfl
  · split
    · rfl
    · split <;> rfl

theorem State.checkRow_bearing (seq r : Nat) : (s.checkRow seq r).bearing = s.bearing := by
  unfold State.checkRow
  split
  · rfl
  · dsimp only
    split <;> rfl

theorem State.loseRow_bearing (g : Segment) (w : Row) (lost : Nat → Bool) (gone : Option Nat) : (s.loseRow g w lost gone).bearing = s.bearing := by
  unfold State.loseRow
  dsimp only
  split
  · rfl
  · split
    · exact (State.checkRow_bearing _ _ _).trans rfl
    · rfl

theorem State.loseUnits_bearing (lost : Nat → Bool) (gone : Option Nat) : (s.loseUnits lost gone).bearing = s.bearing := by
  refine each_view State.bearing _ (fun s x => ?_) _ _
  exact s.loseRow_bearing _ _ _ _

theorem State.enterGapLosses_bearing (lost : Nat → Bool) (cause by_ : Nat) : (s.enterGapLosses lost cause by_).bearing = s.bearing := by
  refine each_view State.bearing _ (fun s x => ?_) _ _
  exact each_view State.bearing _ (fun s b => s.enterLoss_bearing _ _ _ _ _ _ _ _) _ _

theorem State.rehome_bearing (m : Nat) : (s.rehome m).bearing = s.bearing :=
  each_view State.bearing _ (fun _ _ => State.modZone_bearing _ _ _ _) _ _

theorem State.loseMastZones_bearing : s.loseMastZones.bearing = s.bearing := by
  refine each_view State.bearing _ (fun s x => ?_) _ _
  refine (State.notifyZone_bearing _ _ _).trans ((State.raise_bearing _ _ _ _ _ _).trans ((State.setZone_bearing _ _ _ _).trans
    ((State.modZone_bearing _ _ _ _).trans (each_view State.bearing _ (fun s c => ?_) _ _))))
  exact (State.bearing_hostBlind.conclude _ _ _ _ _ _).trans (State.modBlocks_bearing _ _ _)

end

end Sys2Proof.Machine
end

section
/-! SUPPORT. The fault of a mast, its restart and its failure (R35 to R37), and the device fault (R23, R499). -/

namespace Sys2Proof.Machine

theorem State.modMast_mast_same (s : State) (m : Nat) (f : Mast → Mast) (h : m < s.masts.length) : (s.modMast m f).mast m = f (s.mast m) := by
  simp [State.modMast, State.mast, List.getD_eq_getElem?_getD, h]

@[simp] theorem State.modMast_masts_length (s : State) (m : Nat) (f : Mast → Mast) : (s.modMast m f).masts.length = s.masts.length :=
  congrArg Shape.masts (State.modMast_shape s m f)

theorem dedupN_append_singleton (l : List Nat) (x : Nat) : dedupN (l ++ [x]) = if x ∈ dedupN l then dedupN l else dedupN l ++ [x] := by
  simp [dedupN]

theorem mem_dedupN {l : List Nat} {x : Nat} : x ∈ dedupN l ↔ x ∈ l := by
  induction l using List.reverseRecOn with
  | nil => rfl
  | append_singleton l y ih =>
    rw [dedupN_append_singleton]
    split
    next seen => by_cases h : x = y <;> simp_all
    next => simp [ih]

/-- A mast that a fault has taken out of service: fenced, with nothing loaded. -/
def Mast.lost (k : Mast) (into : MastState) : Mast :=
  { k with state := into, fenced := true, iv := [], slots := [], cache := { disabled := k.cache.disabled } }
/-- A mast that has failed. -/
def Mast.failed (k : Mast) : Mast := { k with state := .failed, restartFrame := none }
/-- A fault by an item of R35 as the mast records it. -/
def Mast.faulted (k : Mast) (item frame : Nat) (into : MastState) : Mast := { k with
  faults := k.faults + 1, lastFault := item, lastFaultFrame := frame, restartUsed := true
  restartFrame := if into == .restarting then some frame else none }
/-- A LUN of mast `m` without the die operation that it had. -/
def Lun.idled (m : Nat) (x : Lun) : Lun := if mastOfLun x.glun == m then { x with work := none } else x

theorem State.loseMast_bearing (s : State) (m : Nat) (into : MastState) : (s.loseMast m into).bearing =
    ((s.modMast m fun k => k.lost into).masts.map Mast.standing, s.luns.map (Lun.idled m), dedupN (s.pwr.furled ++ mastDomains m)) :=
  calc (s.loseMast m into).bearing
    _ = _ := State.recheckBounds_bearing _
    _ = _ := State.retryReads_bearing _ _
    _ = _ := State.loseMastZones_bearing _
    _ = _ := State.rehome_bearing _ _
    _ = _ := State.loseUnits_bearing _ _ _
    _ = _ := rfl

theorem State.mastFailed_bearing (s : State) (m item : Nat) : (s.mastFailed m item).bearing =
    ((s.modMast m Mast.failed).masts.map Mast.standing, s.luns, dedupN (s.pwr.furled ++ mastDomains m)) :=
  calc (s.mastFailed m item).bearing
    _ = _ := State.retryReads_bearing _ _
    _ = _ := State.enterGapLosses_bearing _ _ _ _
    _ = _ := State.raise_bearing _ _ _ _ _ _
    _ = _ := rfl

/-- The standing of a mast in a state whose masts stand as after an update of that mast. -/
theorem State.mast_standing_of_bearing {s t : State} {m : Nat} {f : Mast → Mast} (h : t.bearing.1 = (s.modMast m f).masts.map Mast.standing)
    (hm : m < s.masts.length) : (t.mast m).standing = (f (s.mast m)).standing := by
  rw [← s.modMast_mast_same m f hm, State.mast_standing, State.mast_standing, h]
  rfl

theorem State.luns_of_bearing {s : State} {b : List Mast × List Lun × List Nat} (h : s.bearing = b) : s.luns = b.2.1 := h ▸ rfl
theorem State.furled_of_bearing {s : State} {b : List Mast × List Lun × List Nat} (h : s.bearing = b) : s.pwr.furled = b.2.2 := h ▸ rfl

theorem Mast.of_standing {k k' : Mast} (h : k.standing = k'.standing) : k.state = k'.state ∧ k.restartFrame = k'.restartFrame ∧
    k.restartUsed = k'.restartUsed ∧ k.fenced = k'.fenced ∧ k.faults = k'.faults ∧ k.lastFault = k'.lastFault ∧
    k.lastFaultFrame = k'.lastFaultFrame ∧ k.slots = k'.slots ∧ (k'.iv = [] → k.iv = []) := by
  have same {α : Type} (field : Mast → α) : field k.standing = field k'.standing := congrArg field h
  refine ⟨same Mast.state, same Mast.restartFrame, same Mast.restartUsed, same Mast.fenced, same Mast.faults, same Mast.lastFault,
    same Mast.lastFaultFrame, same Mast.slots, fun empty => ?_⟩
  simpa [Mast.standing, empty] using same Mast.iv

theorem Mast.failed_standing (k : Mast) : k.failed.standing = k.standing.failed := rfl

theorem State.mastFailed_standing (s : State) (m item : Nat) (hm : m < s.masts.length) :
    ((s.mastFailed m item).mast m).standing = (s.mast m).failed.standing :=
  State.mast_standing_of_bearing (congrArg Prod.fst (s.mastFailed_bearing m item)) hm
theorem State.mastFailed_luns (s : State) (m item : Nat) : (s.mastFailed m item).luns = s.luns :=
  State.luns_of_bearing (s.mastFailed_bearing m item)
theorem State.mastFailed_furled (s : State) (m item : Nat) : (s.mastFailed m item).pwr.furled = dedupN (s.pwr.furled ++ mastDomains m) :=
  State.furled_of_bearing (s.mastFailed_bearing m item)

/-- A mast's fault is recorded and takes it out of service. -/
def State.faultMast (s : State) (m item : Nat) (into : MastState) : State :=
  ((s.modMast m fun k => k.faulted item s.clk.frame into).loseMast m into).raise 592 1 2 [m, item]

theorem State.faultMast_bearing (s : State) (m item : Nat) (into : MastState) : (s.faultMast m item into).bearing =
    ((s.modMast m fun k => (k.faulted item s.clk.frame into).lost into).masts.map Mast.standing, s.luns.map (Lun.idled m),
      dedupN (s.pwr.furled ++ mastDomains m)) := by
  refine (State.raise_bearing _ _ _ _ _ _).trans ((State.loseMast_bearing _ _ _).trans ?_)
  simp [State.modMast, List.modify_modify_eq, Function.comp_def]

theorem State.faultMast_standing (s : State) (m item : Nat) (into : MastState) (hm : m < s.masts.length) :
    ((s.faultMast m item into).mast m).standing = (((s.mast m).faulted item s.clk.frame into).lost into).standing :=
  State.mast_standing_of_bearing (congrArg Prod.fst (s.faultMast_bearing m item into)) hm
theorem State.faultMast_luns (s : State) (m item : Nat) (into : MastState) : (s.faultMast m item into).luns = s.luns.map (Lun.idled m) :=
  State.luns_of_bearing (s.faultMast_bearing m item into)
theorem State.faultMast_masts_length (s : State) (m item : Nat) (into : MastState) : (s.faultMast m item into).masts.length = s.masts.length := by
  have h := congrArg (fun b => b.1.length) (s.faultMast_bearing m item into)
  simpa [State.bearing] using h

/-- The restarting mast has its domains powered again (R37). -/
def State.powerMast (s : State) (m : Nat) : State := s.modPwr fun p => { p with
  furled := p.furled.filter fun d => ! (mastDomains m).contains d, off := p.off.filter (· != 9 * m + 8) }
theorem State.powerMast_mast (s : State) (m i : Nat) : (s.powerMast m).mast i = s.mast i := rfl
theorem State.powerMast_luns (s : State) (m : Nat) : (s.powerMast m).luns = s.luns := rfl

section
variable {s : State} {m : Nat} (item : Nat)

theorem State.mastFault_first (h : (s.mast m).state = .active) (unused : (s.mast m).restartUsed = false) :
    s.mastFault m item = (s.faultMast m item .restarting).powerMast m := by
  unfold State.mastFault
  simp only [h, unused, Bool.false_eq_true, if_false]
  rfl
theorem State.mastFault_further (h : (s.mast m).state = .active) (used : (s.mast m).restartUsed = true) :
    s.mastFault m item = (s.faultMast m item .failed).mastFailed m item := by
  unfold State.mastFault
  simp only [h, used, if_true]
  rfl
theorem State.mastFault_restarting (h : (s.mast m).state = .restarting) :
    s.mastFault m item = (s.modMast m fun k => { k with faults := k.faults + 1 }).mastFailed m (s.mast m).lastFault := by
  unfold State.mastFault
  simp only [h]
theorem State.mastFault_off (h : (s.mast m).state = .furled) (off : 9 * m ∈ s.pwr.furled) : s.mastFault m item = s := by
  unfold State.mastFault
  simp [h, off]
theorem State.mastFault_untested (h : (s.mast m).state = .furled) (on : 9 * m ∉ s.pwr.furled) :
    s.mastFault m item = (s.faultMast m item .failed).mastFailed m item := by
  unfold State.mastFault
  simp [h, on]
  rfl

/-- The standing of a mast after a fault that fails it. -/
theorem State.faultMast_mastFailed_standing (hm : m < s.masts.length) : (((s.faultMast m item .failed).mastFailed m item).mast m).standing =
    ((((s.mast m).faulted item s.clk.frame .failed).lost .failed).failed).standing := by
  rw [State.mastFailed_standing _ _ _ (by rwa [State.faultMast_masts_length])]
  rw [Mast.failed_standing, Mast.failed_standing, s.faultMast_standing m item .failed hm]
end

/-- No die operation goes on at a LUN of the mast. -/
theorem Lun.work_of_mem_idled {l : List Lun} {m : Nat} {x : Lun} (h : x ∈ l.map (Lun.idled m)) (hx : mastOfLun x.glun = m) : x.work = none := by
  obtain ⟨y, -, rfl⟩ := List.mem_map.mp h
  unfold Lun.idled at hx ⊢
  split
  · rfl
  next other => simp [other] at hx; simp [hx] at other

/-- What a fault leaves of an active mast, by whether its restart was used (R36, R37). -/
theorem State.mastFault_active_standing {s : State} {m : Nat} (item : Nat) (hm : m < s.masts.length) (h : (s.mast m).state = .active) :
    ((s.mastFault m item).mast m).standing = (((s.mast m).faulted item s.clk.frame (if (s.mast m).restartUsed then .failed else .restarting)).lost
      (if (s.mast m).restartUsed then .failed else .restarting)).standing := by
  cases used : (s.mast m).restartUsed with
  | false =>
    rw [State.mastFault_first item h used, State.powerMast_mast]
    exact s.faultMast_standing m item .restarting hm
  | true =>
    rw [State.mastFault_further item h used]
    exact State.faultMast_mastFailed_standing item hm

theorem State.mastFault_active_luns {s : State} {m : Nat} (item : Nat) (h : (s.mast m).state = .active) :
    (s.mastFault m item).luns = s.luns.map (Lun.idled m) := by
  cases used : (s.mast m).restartUsed with
  | false =>
    rw [State.mastFault_first item h used, State.powerMast_luns]
    exact s.faultMast_luns m item .restarting
  | true =>
    rw [State.mastFault_further item h used, State.mastFailed_luns]
    exact s.faultMast_luns m item .failed

/-- A controller that reports fatal status (R23). -/
def Ctrl.fatal (c : Ctrl) : Ctrl := { c with cfs := true, rdy := false }
/-- The state in which a device fault stops the device, before its dump begins. -/
def State.stopped (s : State) : State :=
  (((s.modStart fun x => { x with fault := true }).modFns fun l => l.map fun f => { f with ctrl := f.ctrl.fatal }).modCtrl1 Ctrl.fatal).modNrg
    fun n => { n with huLoad := false, test := none, released := none }

/-- A device fault stops the device; of the rest it only changes the power state. -/
theorem State.deviceFault_eq (s : State) : ∃ f, s.deviceFault = s.stopped.modPwr f := by
  unfold State.deviceFault
  dsimp only
  split
  · exact ⟨id, rfl⟩
  · split
    · exact ⟨_, rfl⟩
    · exact ⟨_, rfl⟩

theorem State.deviceFault_working {s : State} (h : s.pwr.dev = .working) (on : s.clk.dark = false) : s.deviceFault.pwr = { s.pwr with
    dev := .dumping, dumpFrame := some s.clk.frame, rounds := 0, thermalDump := false, stopped := true } := by
  unfold State.deviceFault
  simp [State.dumping, h, on]

/-- Settles O15: what a mast's fault does is read off the mast's standing, which the loss of its units, zones and reads leaves. -/
theorem mastFaults : Obligations.MastFaults := by
  unfold Obligations.MastFaults
  refine ⟨?rows, ?active, ?restarting, ?furled, ?deviceRows, ?device⟩
  case rows =>
    intro m s hm
    simp [exec, execMastPllLossOfLock, execMissingHeartbeat, execFabricProtocolError, execWatchdogExpiry, whenUnit, hm]
  case active =>
    intro m item s hm h
    obtain ⟨state, began, used, fenced, faults, last, frame, slots, iv⟩ := Mast.of_standing (State.mastFault_active_standing item hm h)
    refine ⟨state, used, fenced, faults, last, frame, iv rfl, slots, fun unused => ?_, fun l hl hx => ?_⟩
    · rw [began, unused]
      rfl
    · rw [State.mastFault_active_luns item h] at hl
      exact Lun.work_of_mem_idled hl hx
  case restarting =>
    intro m item s hm h
    rw [State.mastFault_restarting item h]
    obtain ⟨state, began, -⟩ := Mast.of_standing (State.mastFailed_standing (s.modMast m fun k => { k with faults := k.faults + 1 }) m
      (s.mast m).lastFault (by simpa using hm))
    exact ⟨state, began⟩
  case furled =>
    intro m item s hm h
    refine ⟨State.mastFault_off item h, fun on => ?_⟩
    rw [State.mastFault_untested item h on]
    exact (Mast.of_standing (State.faultMast_mastFailed_standing item hm)).1
  case deviceRows =>
    exact fun s => ⟨rfl, rfl, fun powered => congrArg Host.Outcome.next (if_pos powered)⟩
  case device =>
    intro s
    obtain ⟨f, e⟩ := s.deviceFault_eq
    have fatal : ∀ x ∈ s.stopped.fns, x.ctrl.cfs = true ∧ x.ctrl.rdy = false := by
      intro x hx
      obtain ⟨y, -, rfl⟩ := List.mem_map.mp hx
      exact ⟨rfl, rfl⟩
    refine ⟨?_, ?_, ?_, ?_, fun h on => ?_, ?_, ?_, ?_, ?_⟩
    case refine_5 => simp [State.deviceFault_working h on]
    all_goals rw [e]
    case refine_4 => exact fatal
    all_goals rfl

/-- Settles O16: the restart's rows by their guards, and the masts' standing after a failure. -/
theorem mastRestart : Obligations.MastRestart := by
  unfold Obligations.MastRestart
  refine ⟨?success, ?up, ?timeout, ?failed, ?unfilled⟩
  case success =>
    intro m f s hm restarting began inTime dram sram
    simp [exec, execMastRestartSuccess, whenUnit, hm, restarting, began, inTime, dram, sram]
  case up =>
    intro m s hm
    have e : (s.mastUp m).mast m = { s.mast m with
        state := .active, fenced := false, restartFrame := none, slots := s.liveSlots, lastWork := s.clk.frame } := s.modMast_mast_same m _ hm
    refine ⟨?_, ?_, ?_, ?_, fun d hd => ?_, fun hd => ?_⟩
    case refine_5 => simpa using (List.mem_filter.mp hd).2
    case refine_6 => simpa using (List.mem_filter.mp hd).2
    all_goals rw [e]
  case timeout =>
    intro m f failed s hm restarting began out
    have due : (failed || decide (f + 62500 ≤ s.clk.frame)) = true := by simpa using out
    simp only [exec, execMastRestartTimeout, whenUnit, hm, restarting, began, due, decide_true, if_true]
  case failed =>
    intro m item s hm
    obtain ⟨state, began, -⟩ := Mast.of_standing (s.mastFailed_standing m item hm)
    refine ⟨state, began, fun d hd => ?_⟩
    rw [State.mastFailed_furled]
    exact mem_dedupN.mpr (List.mem_append_right _ hd)
  case unfilled =>
    intro m s hm unfilled
    simp only [exec, execMastRestartSuccess, whenUnit, hm, decide_true, if_true]
    split
    · rcases unfilled with h | h <;> simp [h]
    · rfl

end Sys2Proof.Machine
end

section
/-! SUPPORT. Power failures and the AON power-on reset (R27, R49, R163, R457, R490, R517, R521, R530): what the loss of the switched domains
leaves is what its work leaves, and the rest is set outright. -/

namespace Sys2Proof.Machine

/-- What the loss of the switched domains ends before it clears what they held: unfinished writes, links, volatile keys and media work. -/
def State.cutWork (s : State) : State :=
  let s := (each (s.io.cmds.filter fun c => ! c.waiting.isEmpty) State.voidBlocks s).linksLost
  let n := s.evt.raised.length
  (s.loseVolatile.modEvt fun e => { e with later := e.later ++ e.raised.drop n, raised := [] }).cutMedia

theorem State.cutWork_steady (s : State) : s.cutWork.steady = s.steady := by
  unfold State.cutWork
  simp

/-- The steady parts that a power cut leaves: fuses, clocks, the signed objects in effect and the placement classes. -/
def State.lasting (s : State) : Fuses × Clock × Option DriveRecord × Option MediaProfile × List PClass :=
  (s.steady.fuses, s.steady.clk, s.steady.obj.drive, s.steady.obj.media, s.steady.classes)

theorem State.lasting_of_steady {s t : State} (h : t.steady = s.steady) : t.lasting = s.lasting := by
  simp only [State.lasting, h]

theorem State.powerCut_lasting (s : State) : s.powerCut.lasting = s.lasting :=
  calc s.powerCut.lasting
    _ = s.cutWork.lasting := by simp [State.lasting, State.steady, State.powerCut, State.cutWork]
    _ = s.lasting := State.lasting_of_steady s.cutWork_steady

/-- The parts of it one by one. -/
theorem State.of_lasting {s t : State} (h : t.lasting = s.lasting) : t.fuses = s.fuses ∧ t.clk = s.clk ∧ t.obj.drive = s.obj.drive ∧
    t.obj.media = s.obj.media ∧ t.classes = s.classes := by
  simpa [State.lasting, State.steady] using h

theorem State.powerCut_furled (s : State) : s.powerCut.pwr.furled = switched := by simp [State.powerCut]
theorem State.powerCut_cmds (s : State) : s.powerCut.io.cmds = [] := by simp [State.powerCut]
theorem State.powerCut_reqs (s : State) : s.powerCut.io.reqs = [] := by simp [State.powerCut]

theorem State.cutMedia_idle (s : State) : ∀ l ∈ s.cutMedia.luns, l.work = none := by
  intro l hl
  simp only [State.cutMedia, State.modLuns_luns] at hl
  obtain ⟨x, -, rfl⟩ := List.mem_map.mp hl
  rfl
theorem State.powerCut_idle (s : State) : ∀ l ∈ s.powerCut.luns, l.work = none := by
  have same : s.powerCut.luns = s.cutWork.luns := by simp [State.powerCut, State.cutWork]
  rw [same]
  exact State.cutMedia_idle _

/-- The state in which step 2 of a frame has read and cleared its latches (R49, R521). -/
def State.latchesRead (s : State) : State :=
  (s.modPwr fun p => { p with pwrLatch := false }).modStart fun x => { x with deepWanted := false }

theorem State.latchPower_working {s : State} (low : s.pwr.pwrLatch = true) (noDeep : s.start.deepWanted = false) (h : s.pwr.dev = .working) :
    s.latchPower = (s.latchesRead.modPwr fun p => { p with thermalDump := false }).dumpFrom (s.clk.frame - 1) := by
  unfold State.latchPower
  simp [low, noDeep, h]
  rfl

theorem State.latchPower_starting {s : State} (low : s.pwr.pwrLatch = true) (noDeep : s.start.deepWanted = false) (h : s.pwr.dev = .starting) :
    s.latchPower = s.latchesRead.stopStart := by
  unfold State.latchPower
  simp [low, noDeep, h]
  rfl

theorem State.stopStart_clk_dark (s : State) : s.stopStart.clk.dark = true := by
  obtain ⟨-, clk, -⟩ := State.of_lasting s.hcxOff.powerCut_lasting
  rw [State.stopStart, State.modPwr_clk, clk]
  rfl
theorem State.stopStart_furled (s : State) : s.stopStart.pwr.furled = switched := by
  simp only [State.stopStart, State.modPwr_pwr, State.powerCut_furled]

/-- What a record of which one copy is durable says of the journals: it is staged in this one, and in no other that holds it (R163). -/
theorem mem_onceDurable {staged : List (List JRec)} {j : Nat} {r : JRec} (h : r ∈ onceDurable staged j) :
    r ∈ staged.getD j [] ∧ ∀ i, i ≠ j → (j = 8 ∨ i = 8) → r ∉ staged.getD i [] := by
  obtain ⟨here, only⟩ := List.mem_filter.mp h
  refine ⟨here, fun i hi hj there => ?_⟩
  have absent : r ∉ (staged.zipIdx.filter fun x => x.2 != j && (j == 8 || x.2 == 8)).flatMap (·.1) := by
    split at only
    case h_5 => cases only
    all_goals simpa using only
  refine absent (List.mem_flatMap.mpr ⟨(staged.getD i [], i), List.mem_filter.mpr ⟨?_, by simp [hi, hj]⟩, there⟩)
  have len : i < staged.length := by
    by_contra out
    simp [List.getD_eq_getElem?_getD, List.getElem?_eq_none (not_lt.mp out)] at there
  rw [List.mem_zipIdx_iff_getElem?]
  simp [List.getD_eq_getElem?_getD, len]

/-- A mast after the AON power-on reset: what it keeps are its rescue blocks, which stand on flash (R457). -/
def Mast.powerOn (k : Mast) : Mast :=
  if k.state == .absent then { state := .absent } else { state := .furled, rescue := k.rescue, rescueRetired := k.rescueRetired }

theorem Mast.powerOn_off (k : Mast) : k.powerOn.state = .absent ∨ k.powerOn.state = .furled := by
  unfold Mast.powerOn
  split
  · exact Or.inl rfl
  · exact Or.inr rfl

theorem execAonPowerOnReset_answers (r : Nat) (s : State) : Answers (execAonPowerOnReset r s) fun t =>
    t.fuses = { s.powerCut.rebase.fuses with
      makerKeyEff := s.powerCut.rebase.fuses.makerKey, dual := s.powerCut.rebase.fuses.hostPort, lockEff := s.powerCut.rebase.fuses.lock } ∧
    t.jtag = {} ∧ t.side = {} ∧ t.clk.poc = s.powerCut.rebase.clk.poc ∧ t.clk.frame = 0 ∧ t.clk.isSet = false ∧ t.start.stage = 1 ∧
    t.pwr.dev = .starting ∧ t.pwr.furled = [75, 76, 77] ∧ t.obj.drive = s.powerCut.rebase.obj.drive ∧
    t.obj.media = s.powerCut.rebase.obj.media ∧ t.io = s.powerCut.rebase.io ∧ ∀ m ∈ t.masts, m.state = .absent ∨ m.state = .furled := by
  unfold execAonPowerOnReset
  refine ⟨_, rfl, ?_⟩
  generalize s.powerCut.rebase = u
  have masts : ∀ k ∈ u.masts, k.powerOn.state = .absent ∨ k.powerOn.state = .furled := fun k _ => k.powerOn_off
  simpa [State.modFn, State.bump, startFurled, Mast.powerOn] using masts

theorem State.rebase_io (s : State) : s.rebase.io = s.io := by simp [State.rebase]
theorem State.rebase_powerCut_lasting (s : State) : s.powerCut.rebase.lasting = s.lasting := by
  rw [State.lasting_of_steady s.powerCut.rebase_steady, State.powerCut_lasting]

/-- Settles O22: the rows by their guards; a cut leaves its lasting parts, and the reset sets the rest. -/
theorem powerLoss : Obligations.PowerLoss := by
  unfold Obligations.PowerLoss
  refine ⟨?latched, ?rejected, ?between, ?lowVin, ?read, ?brownOut, ?once, ?reset, ?vqsel⟩
  case latched =>
    intro ns s long powered
    have : ¬ ns < 50 := by omega
    have : ¬ ns < 200 := by omega
    simp [exec, execPwrfail, *]
  case rejected =>
    intro ns s short
    simp [exec, execPwrfail, short]
  case between =>
    intro ns s h50 h200 powered
    refine ⟨Config.freeNat s.fresh % 2 == 1, ?_⟩
    have : ¬ ns < 50 := by omega
    simp [exec, execPwrfail, *]
  case lowVin =>
    intro ns s long powered
    have : ¬ ns < 1000 := by omega
    simp [exec, execLowVin, *]
  case read =>
    intro s low noDeep
    refine ⟨fun h => ?_, fun h => ?_⟩
    · rw [State.latchPower_working low noDeep h]
      exact ⟨rfl, rfl, rfl, rfl⟩
    · rw [State.latchPower_starting low noDeep h]
      exact ⟨rfl, State.stopStart_clk_dark _, State.stopStart_furled _⟩
  case brownOut =>
    intro ns s long powered
    have : ¬ ns < 2000 := by omega
    refine ⟨(s.powerCut.modClk fun c => { c with dark := true }).modPwr fun p => { p with dev := .unpowered },
      by simp [exec, execBrownOut, *], ?_⟩
    obtain ⟨fuses, -, drive, media, classes⟩ := State.of_lasting s.powerCut_lasting
    simpa [fuses, drive, media, classes, State.powerCut_furled, State.powerCut_cmds, State.powerCut_reqs] using s.powerCut_idle
  case once =>
    intro staged j r h
    obtain ⟨here, only⟩ := mem_onceDurable h
    refine ⟨here, fun hj => only 8 (Ne.symm hj) (Or.inr rfl), fun hj i hi => only i (by omega) (Or.inl hj)⟩
  case reset =>
    intro r s
    obtain ⟨t, e, fuses, jtag, side, poc, frame, unset, stage, dev, furled, drive, media, io, masts⟩ := execAonPowerOnReset_answers r s
    obtain ⟨hfuses, hclk, hdrive, hmedia, -⟩ := State.of_lasting s.rebase_powerCut_lasting
    rw [hfuses] at fuses
    rw [hclk] at poc
    have cmds : t.io.cmds = [] := by rw [io, State.rebase_io, State.powerCut_cmds]
    exact ⟨t, e, fuses, jtag, side, poc, frame, unset, stage, dev, furled, drive.trans hdrive, media.trans hmedia, cmds, masts⟩
  case vqsel => exact fun o => rfl

end Sys2Proof.Machine
end

section
/-! SUPPORT. The key store's drains, reservations, faults and consents (R290, R295, R300, R307, R366). -/

namespace Sys2Proof.Machine

theorem find?_putBy_same {α : Type} (key : α → Nat) (x : α) (l : List α) : (putBy key x l).find? (fun y => key y == key x) = some x := by
  unfold putBy
  split
  next any =>
    induction l with
    | nil => cases any
    | cons y l ih =>
      by_cases h : key y = key x
      · simp [h]
      · have later : l.any (fun y => key y == key x) = true := by simpa [h] using any
        simpa [h] using ih later
  next other =>
    have absent : l.find? (fun y => key y == key x) = none := by simpa using other
    simp [List.find?_append, absent]

theorem State.modSlot_slot_same (s : State) (n : Nat) (f : Slot → Slot) (h : (f (s.slot n)).number = n) : (s.modSlot n f).slot n = f (s.slot n) := by
  have found := find?_putBy_same Slot.number (f (s.slot n)) s.keys.slots
  rw [h] at found
  exact congrArg (fun x => Option.getD x { number := n }) found

theorem State.slot_number (s : State) (n : Nat) : (s.slot n).number = n := by
  unfold State.slot State.slot?
  cases h : s.keys.slots.find? (·.number == n) with
  | none => rfl
  | some k => simpa using List.find?_some h

theorem State.raise_keys (s : State) (source code severity : Nat) (args : List Nat) (fn : Nat) : (s.raise source code severity args fn).keys = s.keys := by
  unfold State.raise
  split <;> rfl

/-- A Draining slot after the end of its drain: with its new key, or Empty. -/
def Slot.drained (k : Slot) (into : SlotState) : Slot := { k with
  state := into, key := k.newKey.getD 0, keyRef := k.newRef, persistent := k.newPersistent, newKey := none, newRef := 0xFFFF, newPersistent := false }

theorem State.endDrain_slot {s : State} {n : Nat} (h : (s.slot n).state = .draining) : (s.endDrain n).slot n =
    (s.slot n).drained (match (s.slot n).newKey with | some _ => s.keyedState (s.slot n).newRef | none => .empty) := by
  unfold State.endDrain
  simp only [h, bne_self_eq_false, Bool.false_eq_true, if_false]
  unfold State.slot State.slot?
  rw [State.raise_keys]
  exact State.modSlot_slot_same s n (fun k => k.drained _) (s.slot_number n)

/-- Settles O30, row by row. -/
theorem keyStore : Obligations.KeyStore := by
  unfold Obligations.KeyStore
  refine ⟨?drain, ?reservation, ?reseed, ?noReseed, ?cipher, ?openFault, ?otherEngine, ?consent⟩
  case drain =>
    intro n s draining unused
    refine ⟨by simp [exec, execDrainEnd, draining, unused], fun none => ?_, fun k some => ?_⟩
    · rw [State.endDrain_slot draining, none]
      simp [Slot.drained, none]
    · rw [State.endDrain_slot draining, some]
      simp [Slot.drained, some]
  case reservation =>
    intro m ref s hm active known hr unasked empty room unlimited
    have bounds : (s.keyRef ref).high < min ((s.keyRef ref).high + 2 ^ 20) (s.keyRef ref).limit := by omega
    simp only [exec, execCounterReservation, whenUnit, hm, decide_true, if_true, known, empty, active, unlimited, sumOf, List.foldl_nil,
      beq_eq_false_iff_ne.mpr hr, Bool.false_eq_true, if_false]
    refine congrArg Host.Outcome.next (if_neg ?_)
    simp only [bne_self_eq_false, Bool.false_or, Bool.or_true, Bool.not_true, Bool.or_false, not_le.mpr bounds, decide_false, Bool.false_and,
      Nat.not_lt_zero, List.any_eq_true, not_exists, not_and]
    intro r staged grants
    split at grants
    next k m' a b =>
      obtain ⟨rfl, rfl⟩ : k = ref ∧ m' = m := by simpa using grants
      exact unasked a b staged
    · cases grants
  case reseed =>
    intro s due
    exact congrArg Host.Outcome.next (if_pos due)
  case noReseed =>
    intro s early
    exact congrArg Host.Outcome.next (if_neg (not_le.mpr early))
  case cipher =>
    intro m item i s hm active
    simp [exec, execCipherFault, whenUnit, hm, active]
  case openFault =>
    intro m id i c b s hc hb running waiting first opener
    unfold State.openFault
    simp only [hc, Option.bind_some, hb, Option.map_some, running, waiting, first, opener, bne_self_eq_false, Bool.or_false, beq_self_eq_true,
      Bool.false_eq_true, if_false, if_true]
    exact ⟨_, rfl⟩
  case otherEngine =>
    intro m id i c b s hc hb other
    unfold State.openFault
    simp [hc, hb, other]
  case consent =>
    intro n s idle
    refine ⟨_, rfl, fun e => ?_, rfl, rfl, rfl, rfl⟩
    have lapses : (e.1 == n && decide (e.2.2 + 62500 ≤ s.clk.frame)) = true ↔ e.1 = n ∧ e.2.2 + 62500 ≤ s.clk.frame := by simp
    simp only [State.modKeys_keys, List.mem_filter, idle, List.any_nil, Bool.not_false, Bool.and_true, ← lapses, Bool.not_eq_true', Bool.not_eq_true]

end Sys2Proof.Machine
end

section
/-! SUPPORT. Wakes of domains and shutdown notifications (R34, R165, R467, R468, R470). -/

namespace Sys2Proof.Machine

/-- A wake touches power, the fill of a DRAM and the mast that enters service. -/
theorem State.wakeDomain_view {β : Type} (view : State → β) (mems : ∀ s f, view (State.modMems s f) = view s)
    (masts : ∀ s f, view (State.modMasts s f) = view s) (pwr : ∀ s f, view (State.modPwr s f) = view s) (s : State) (d : Nat) :
    view (s.wakeDomain d) = view s := by
  have refilled (t : State) (c : Bool) (i : Nat) : view (if c then t.modMem i fun x => { x with filled := false } else t) = view t := by
    split
    · exact mems _ _
    · rfl
  have entered (t : State) (m : Nat) : view (t.enterService m) = view t := by
    unfold State.enterService
    split
    · exact masts _ _
    · rfl
  unfold State.wakeDomain
  dsimp only
  split
  · exact (entered _ _).trans ((pwr _ _).trans (refilled _ _ _))
  · exact (pwr _ _).trans (refilled _ _ _)

theorem State.enterService_pwr (s : State) (m : Nat) : (s.enterService m).pwr = s.pwr := by
  unfold State.enterService
  split <;> rfl

theorem State.wakeDomain_on (s : State) (d : Nat) : d ∉ (s.wakeDomain d).pwr.furled ∧ d ∉ (s.wakeDomain d).pwr.off := by
  have on (t : State) : d ∉ (t.modPwr fun p => { p with furled := p.furled.filter (· != d), off := p.off.filter (· != d) }).pwr.furled ∧
      d ∉ (t.modPwr fun p => { p with furled := p.furled.filter (· != d), off := p.off.filter (· != d) }).pwr.off := by
    simp
  unfold State.wakeDomain
  dsimp only
  split
  · rw [State.enterService_pwr]
    exact on _
  · exact on _

theorem State.domainAbsent_central {s : State} {d : Nat} (h : 72 ≤ d) : s.domainAbsent d = false := by
  simp [State.domainAbsent, h]
theorem State.domainAbsent_mast {s : State} {d : Nat} (h : d / 9 < s.mastN) : s.domainAbsent d = false := by
  simp [State.domainAbsent, h]
theorem State.domainOff_of_furled {s : State} {d : Nat} (h : d ∈ s.pwr.furled) : s.domainOff d = true := by
  simp [State.domainOff, h]

/-- Settles O41: the guards of each row, and what a wake leaves. -/
theorem wakeAndShutdown : Obligations.WakeAndShutdown := by
  unfold Obligations.WakeAndShutdown
  refine ⟨?central, ?mast, ?wake, ?demand, ?shutdown, ?prep, ?function⟩
  case central =>
    intro d c s h72 h80 working furled noEntry h1 h12 ok
    have central : ¬ d < 72 := not_lt.mpr h72
    simp [exec, execDomainWake, whenUnit, State.ready, h80, working, State.domainAbsent_central h72, central, noEntry,
      State.domainOff_of_furled furled, h1, h12]
  case mast =>
    intro d c s h72 present working furled noEntry off h1 h12
    have h80 : d < 80 := by omega
    simp [exec, execDomainWake, whenUnit, State.ready, h80, working, State.domainAbsent_mast present, h72, noEntry, off,
      State.domainOff_of_furled furled, h1, h12]
  case wake =>
    intro d s
    obtain ⟨furled, off⟩ := s.wakeDomain_on d
    exact ⟨furled, off, State.wakeDomain_view State.clk (fun _ _ => rfl) (fun _ _ => rfl) (fun _ _ => rfl) s d,
      State.wakeDomain_view State.media (fun _ _ => rfl) (fun _ _ => rfl) (fun _ _ => rfl) s d,
      State.wakeDomain_view State.keys (fun _ _ => rfl) (fun _ _ => rfl) (fun _ _ => rfl) s d⟩
  case demand =>
    intro d c e s h72 h80 working entries awake hit ok
    simp [exec, execDomainWake, whenUnit, State.ready, h80, working, State.domainAbsent_central h72, not_lt.mpr h72, entries, awake, hit, updIf,
      State.modPwr]
  case shutdown =>
    intro a s working enabled none
    simp [exec, execShutdownNotification, whenUnit, State.ready, working, enabled, none]
  case prep =>
    intro s idle
    simp [State.beginPrep, idle, each]
  case function =>
    intro f a s hf h128 working enabled none idle
    have others : (s.io.cmds.filter fun c => c.fn == f && c.phase == .held) = [] := by
      rw [List.filter_eq_nil_iff]
      intro c hc
      simp [idle c hc]
    simp only [exec, execShutdownNotification, whenUnit, h128, decide_true, if_true, State.ready, working, enabled, none]
    simp [hf, State.modFn, others, each]

end Sys2Proof.Machine
end

section
/-! SUPPORT. The read path's rows: decode, ladder, rebuild and release (R88, R166 to R172, R190, R196, R197). -/

namespace Sys2Proof.Machine

theorem find?_updIf {α : Type} (p : α → Bool) (f : α → α) (keeps : ∀ x, p x = true → p (f x) = true) (l : List α) :
    (updIf p f l).find? p = (l.find? p).map f := by
  induction l with
  | nil => rfl
  | cons x l ih =>
    cases h : p x with
    | true => simp [updIf, h, keeps x h]
    | false => simpa [updIf, h] using ih

theorem State.modCmd_cmd? (s : State) (id : Nat) (f : Cmd → Cmd) (same : ∀ c, (f c).id = c.id) : (s.modCmd id f).cmd? id = (s.cmd? id).map f :=
  find?_updIf _ f (fun c h => by rwa [same c]) s.io.cmds

theorem State.modCmd_self (s : State) (id : Nat) : (s.modCmd id fun c => c) = s := by
  simp [State.modCmd, State.modIo, updIf]

theorem State.setBlockAt_cmd? (s : State) (id i : Nat) (f : RBlock → RBlock) :
    (s.setBlockAt id i f).cmd? id = (s.cmd? id).map fun c => { c with blocks := c.blocks.modify i f } := s.modCmd_cmd? id _ fun _ => rfl

section
variable {s : State} {id i : Nat} {c : Cmd} {b : RBlock}

/-- A block at its first step, of a running command, whose reads are its target's (R168). -/
structure FirstRead (s : State) (c : Cmd) (b : RBlock) : Prop where
  running : c.phase = .running
  waiting : b.phase = 0
  first : b.step = 1
  notFailed : b.failedAt = 0
  notTried : b.tried = false
  target : b.glun ∈ b.reads
  arrived : b.arrived s.clk.frame = true
  there : s.lunErased b.glun = false

theorem execReadDecode_first (hc : s.cmd? id = some c) (hb : c.blocks[i]? = some b) (h : FirstRead s c b) {g : Segment} {m k : Nat}
    (member : s.memberAt b.nsid b.lba = some (g, m, k)) :
    (∀ bits refs, execReadDecode id i (.ok bits refs) s = .next ((s.memberDecoded g m 1 b.nsid b.lba (.ok bits refs)).serveAt c i b)) ∧
    execReadDecode id i .ldpc s = .next ((s.memberDecoded g m 1 b.nsid b.lba .ldpc).setBlockAt id i RBlock.failTarget) ∧
    execReadDecode id i .crc s = .next ((s.memberDecoded g m 1 b.nsid b.lba .crc).setBlockAt id i RBlock.failTarget) := by
  obtain ⟨running, waiting, first, notFailed, notTried, target, arrived, there⟩ := h
  have hr : b.reads.contains b.glun = true := by simpa using target
  simp only [execReadDecode, hc, Option.bind_some, hb, Option.map_some, running, waiting, first, notFailed, notTried, hr, arrived, there, member]
  exact ⟨fun _ _ => rfl, rfl, rfl⟩

/-- What a decode reports of a member at its first step: tracked offsets, and a rewrite candidate above the limit (R172, R209). -/
theorem State.memberDecoded_few (g : Segment) (m nsid lba : Nat) {bits : Nat} (refs : List (Nat × Nat)) (few : bits ≤ s.profile.rewriteBits) :
    s.memberDecoded g m 1 nsid lba (.ok bits refs) = s.memberTracked g m refs := by
  have limit : ¬ (s.memberTracked g m refs).profile.rewriteBits < bits := not_lt.mpr few
  simp [State.memberDecoded, limit]
theorem State.memberDecoded_many (g : Segment) (m nsid lba : Nat) {bits : Nat} (refs : List (Nat × Nat)) (many : s.profile.rewriteBits < bits) :
    s.memberDecoded g m 1 nsid lba (.ok bits refs) = (s.memberTracked g m refs).candidate g.seq m := by
  have limit : (s.memberTracked g m refs).profile.rewriteBits < bits := many
  simp [State.memberDecoded, limit]

theorem execReadDecode_nothing (hc : s.cmd? id = some c) (hb : c.blocks[i]? = some b) (res : DecodeEnd)
    (h : b.arrived s.clk.frame = false ∨ s.lunErased b.glun = true ∨ b.glun ∉ b.reads) : execReadDecode id i res s = .next s := by
  unfold execReadDecode
  simp only [hc, Option.bind_some, hb, Option.map_some]
  refine congrArg Host.Outcome.next (if_pos ?_)
  rcases h with h | h | h <;> simp [h]

theorem execLadderStep_early (hc : s.cmd? id = some c) (hb : c.blocks[i]? = some b) (early : s.clk.frame < b.failedAt + 3) :
    execLadderStep id i s = .next s := by
  unfold execLadderStep
  simp only [hc, Option.bind_some, hb, Option.map_some]
  exact congrArg Host.Outcome.next (if_pos (by simp [early]))

/-- A running command's block whose step has failed, three frames later (R171). -/
theorem ladderGuard (running : c.phase = .running) (waiting : b.phase = 0) (failed : b.failedAt ≠ 0) (later : b.failedAt + 3 ≤ s.clk.frame) :
    ¬ (c.phase != .running || b.phase != 0 || b.failedAt == 0 || decide (s.clk.frame < b.failedAt + 3)) = true := by
  simp [running, waiting, failed, not_lt.mpr later]

theorem execLadderStep_last (hc : s.cmd? id = some c) (hb : c.blocks[i]? = some b) (running : c.phase = .running) (waiting : b.phase = 0)
    (failed : b.failedAt ≠ 0) (later : b.failedAt + 3 ≤ s.clk.frame) (last : 5 ≤ b.step) :
    execLadderStep id i s = .next (s.unrecovered c i b) := by
  unfold execLadderStep
  simp only [hc, Option.bind_some, hb, Option.map_some]
  exact congrArg Host.Outcome.next ((if_neg (ladderGuard running waiting failed later)).trans (if_pos last))

/-- The charge and the rewrite candidate of a ladder step, before its reads begin (R170, R209). -/
def State.stepCharged (s : State) (c : Cmd) (b : RBlock) (g : Segment) (m n : Nat) (reads : List Nat) : State :=
  (s.modFn c.fn fun f => f.charge { units := 0, ports := s.portsOf (c.cls != .c) 1 reads } s.portN).iff
    (decide (2 ≤ n) && reads.contains b.glun) fun s => s.candidate g.seq m

theorem State.stepCharged_view {β : Type} (view : State → β) (fns : ∀ s f, view (State.modFns s f) = view s)
    (seg : ∀ s q f, view (State.modSeg s q f) = view s) (s : State) (c : Cmd) (b : RBlock) (g : Segment) (m n : Nat) (reads : List Nat) :
    view (s.stepCharged c b g m n reads) = view s := by
  unfold State.stepCharged State.iff
  split
  · exact (seg _ _ _).trans (fns _ _)
  · exact fns _ _

theorem State.nextStep_unbounded (unbounded : c.bounded = false) :
    s.nextStep c b false = if b.step = 2 ∧ s.ctlValue ctlRetryDepth = 0 then 4 else b.step + 1 := by
  simp [State.nextStep, unbounded]

theorem execLadderStep_next {g : Segment} {m k n : Nat} {x : Stored} (hc : s.cmd? id = some c) (hb : c.blocks[i]? = some b)
    (running : c.phase = .running) (unbounded : c.bounded = false) (free : c.cls = .c) (noReserve : b.reserves = []) (waiting : b.phase = 0)
    (failed : b.failedAt ≠ 0) (later : b.failedAt + 3 ≤ s.clk.frame) (more : b.step < 5) (member : s.memberAt b.nsid b.lba = some (g, m, k))
    (stored : s.block? b.nsid b.lba = some x) (there : m ∉ s.rowErasures g x.row)
    (hn : n = if b.step = 2 ∧ s.ctlValue ctlRetryDepth = 0 then 4 else b.step + 1) :
    execLadderStep id i s = .next ((s.stepCharged c b g m n (s.stepReads g x.row m n b)).setBlockAt id i fun y =>
      y.beginStep n s.clk.frame (s.stepReads g x.row m n b)) := by
  have erased : (s.rowErasures g x.row).contains m = false := by simpa using there
  have step : s.nextStep c b false = n := hn ▸ State.nextStep_unbounded unbounded
  have clk := State.stepCharged_view State.clk (fun _ _ => rfl) (fun _ _ _ => rfl) s c b g m n (s.stepReads g x.row m n b)
  unfold execLadderStep
  simp only [hc, Option.bind_some, hb, Option.map_some]
  refine congrArg Host.Outcome.next ((if_neg (ladderGuard running waiting failed later)).trans ((if_neg (not_le.mpr more)).trans ?_))
  rw [← clk]
  simp only [member, stored, noReserve, erased, step, free, unbounded, State.stepCharged, State.iff, List.isEmpty_nil, Bool.not_true,
    Bool.not_false, Bool.false_and, Bool.true_and, Bool.and_false, Bool.or_false, bne_self_eq_false, Bool.false_eq_true, if_false]
  exact congrArg (fun t : State => t.setBlockAt id i _) (State.modCmd_self _ id)

/-- What a rebuild has of a block when it may run (R168, R169, R189): its target has failed or takes no part, and its bursts have run. -/
structure RebuildDue (s : State) (c : Cmd) (b : RBlock) : Prop where
  running : c.phase = .running
  waiting : b.phase = 0
  notFailed : b.failedAt = 0
  notRebuilt : b.rebuilt = false
  rebuilds : b.rebuilds = true
  noHedge : c.bounded = false ∨ c.cls ≠ .a ∨ b.step ≠ 1 ∨ b.glun ∉ b.reads ∨ b.tried = true
  arrived : b.arrived s.clk.frame = true
  opener : s.opener b.glun ≠ none

/-- The members whose blocks the present step read and the report gives, decoded in turn (R168, R172, R209). -/
def State.membersDecoded (s : State) (g : Segment) (m : Nat) (b : RBlock) (ms : List (Nat × DecodeEnd)) : State :=
  each (ms.filter fun y => decide (y.1 < g.width) && y.1 != m && b.reads.contains (s.memberGlun g y.1))
    (fun s y => s.memberDecoded g y.1 (if b.step == 5 then 2 else 1) b.nsid b.lba y.2) s

theorem execRebuild_due {ms : List (Nat × DecodeEnd)} {g : Segment} {m k : Nat} {x : Stored} (hc : s.cmd? id = some c)
    (hb : c.blocks[i]? = some b) (h : RebuildDue s c b) (member : s.memberAt b.nsid b.lba = some (g, m, k))
    (stored : s.block? b.nsid b.lba = some x) (res : RebuildEnd) : execRebuild id i ms res s = .next (
      if decide (rebuildNeeds g c b ≤ (s.intactOf g x.row m b ms).length) && res == .ok then (s.membersDecoded g m b ms).serveAt c i b
      else if decide (rebuildNeeds g c b ≤ (s.intactOf g x.row m b ms).length) && res == .tag then (s.membersDecoded g m b ms).tagFailed c i b
      else (if res == .identity then (s.membersDecoded g m b ms).raise 595 1 2 [b.nsid, b.lba, 0] else s.membersDecoded g m b ms).setBlockAt id i
        fun y => { y.failRebuild with got := s.intactOf g x.row m b ms, step := if ! c.bounded && y.step == 1 then 0 else y.step }) := by
  obtain ⟨running, waiting, notFailed, notRebuilt, rebuilds, noHedge, arrived, opener⟩ := h
  have hedge : (c.bounded && c.cls == .a && b.step == 1 && b.reads.contains b.glun && ! b.tried) = false := by
    rcases noHedge with h | h | h | h | h <;> simp [h]
  have opens : (s.opener b.glun).isNone = false := by simpa [Option.isSome_iff_ne_none] using opener
  unfold execRebuild
  simp only [hc, Option.bind_some, hb, Option.map_some, member, stored, running, waiting, notFailed, notRebuilt, rebuilds, hedge, arrived, opens]
  rfl

theorem rebuildNeeds_bounds (g : Segment) (c : Cmd) (b : RBlock) :
    dataOf g.width ≤ rebuildNeeds g c b ∧ rebuildNeeds g c b ≤ dataOf g.width + 1 := by
  unfold rebuildNeeds
  dsimp only
  split <;> omega

end

/-- Settles O20, row by row. -/
theorem readPath : Obligations.ReadPath := by
  unfold Obligations.ReadPath
  refine ⟨?translation, ?decode, ?failTarget, ?nothing, ?early, ?last, ?ladder, ?rebuild, ?needs, ?release⟩
  case translation =>
    intro id c e s hc he homes
    simp only [exec, execTranslation, hc, he]
    exact congrArg Host.Outcome.next (if_pos (by simpa using homes))
  case decode =>
    intro id i bits refs c b g m k s hc hb running waiting first notFailed notTried target arrived there member
    obtain ⟨ok, ldpc, crc⟩ := execReadDecode_first hc hb ⟨running, waiting, first, notFailed, notTried, target, arrived, there⟩ member
    refine ⟨fun few => ?_, fun many => ?_, ldpc, crc⟩
    · rw [← State.memberDecoded_few g m b.nsid b.lba refs few]
      exact ok bits refs
    · rw [← State.memberDecoded_many g m b.nsid b.lba refs many]
      exact ok bits refs
  case failTarget =>
    intro b alone
    simp [RBlock.failTarget, alone]
  case nothing => exact fun id i res c b s hc hb => execReadDecode_nothing hc hb res
  case early => exact fun id i c b s hc hb _ _ => execLadderStep_early hc hb
  case last => exact fun id i c b s hc hb => execLadderStep_last hc hb
  case ladder =>
    intro id i m k n c b g x s hc hb running unbounded free noReserve waiting failed later more member stored there hn
    refine ⟨_, execLadderStep_next hc hb running unbounded free noReserve waiting failed later more member stored there hn, ?_⟩
    have kept {β : Type} (view : State → β) (fns : ∀ s f, view (State.modFns s f) = view s) (seg : ∀ s q f, view (State.modSeg s q f) = view s) :=
      State.stepCharged_view view fns seg s c b g m n (s.stepReads g x.row m n b)
    refine ⟨kept State.clk (fun _ _ => rfl) (fun _ _ _ => rfl), kept State.nss (fun _ _ => rfl) (fun _ _ _ => rfl),
      kept State.keys (fun _ _ => rfl) (fun _ _ _ => rfl), kept (fun s => s.media.blocks) (fun _ _ => rfl) (fun _ _ _ => rfl), ?_⟩
    have cmd := kept (fun s => s.cmd? id) (fun _ _ => rfl) (fun _ _ _ => rfl)
    refine ⟨_, by rw [State.setBlockAt_cmd?, cmd, hc]; rfl, ?_⟩
    simp [hb]
  case rebuild =>
    intro id i m k ms c b g x s a hc hb running waiting notFailed notRebuilt rebuilds noHedge arrived opener member stored ha
    have row := execRebuild_due (ms := ms) hc hb ⟨running, waiting, notFailed, notRebuilt, rebuilds, noHedge, arrived, opener⟩ member stored
    rw [show s.membersDecoded g m b ms = a from ha.symm] at row
    refine ⟨fun enough => ⟨?_, ?_⟩, fun few => ?_⟩
    · exact (row .ok).trans (by simp [enough])
    · exact (row .tag).trans (by simp [enough])
    · exact (row .ok).trans (by simp [not_le.mpr few])
  case needs => exact rebuildNeeds_bounds
  case release =>
    intro id c s hc ready io prompt
    simp [exec, execConstantTimeRelease, hc, ready, io, prompt]

end Sys2Proof.Machine
end

section
/-! SUPPORT. The frame number, the status sequence and the steps of a frame (R43, R44, R49, R536): read off the shape that each command leaves. -/

namespace Sys2Proof.Machine

theorem shape_of_next {r : Res} {t : State} (h : r = .next t) (d : Shape) : resShape r d = t.shape := h ▸ rfl

theorem frame_of_shape {s : State} {h : Shape} (e : s.shape = h) : s.clk.frame = h.frame := congrArg Shape.frame e
theorem stseq_of_shape {s : State} {h : Shape} (e : s.shape = h) : s.stseq = h.stseq := congrArg Shape.stseq e

theorem State.hcxOn_eq_true {s : State} : s.hcxOn = true ↔ s.clk.dark = false := by simp [State.hcxOn]
theorem State.hcxOn_eq_false {s : State} : s.hcxOn = false ↔ s.clk.dark = true := by simp [State.hcxOn]

/-- A frame begun at a dark clock is none; one that runs adds one to the frame number. -/
theorem execFrameStart_frame {inp : FrameIn} {s t : State} (h : execFrameStart inp s = .next t) :
    t = s ∨ (s.clk.dark = false ∧ t.clk.frame = s.clk.frame + 1 ∧ (t.stseq = s.stseq ∨ t.stseq = s.stseq + 1)) := by
  cases on : s.hcxOn with
  | false =>
    rw [execFrameStart_off inp s on] at h
    exact .inl (Host.Outcome.next.inj h).symm
  | true =>
    have body := State.frameBody_shape inp s
    rw [execFrameStart_on inp s on] at h
    refine .inr ⟨State.hcxOn_eq_true.1 on, ?_⟩
    obtain rfl := Host.Outcome.next.inj h
    split
    · exact ⟨frame_of_shape body, .inl (stseq_of_shape body)⟩
    · have ended := (State.deliverEvents_shape (s.frameBody inp)).trans body
      exact ⟨frame_of_shape ended, .inr (congrArg (· + 1) (stseq_of_shape ended))⟩

/-- What a command can do to the frame number and the status sequence (R43, R44, R536): a frame that runs advances both, the end of dark frames
and an AON power-on reset set the frame number alone, and everything else leaves both. -/
theorem exec_next_frame {c : Instr} {s t : State} (h : exec c s = .next t) :
    (t.clk.frame = s.clk.frame ∧ t.stseq = s.stseq) ∨
    (∃ inp, c = .frameStart inp ∧ s.clk.dark = false ∧ t.clk.frame = s.clk.frame + 1 ∧ (t.stseq = s.stseq ∨ t.stseq = s.stseq + 1)) ∨
    (∃ k, c = .framePllRelock k ∧ s.clk.dark = true ∧ t.clk.frame = firstFrame s.clk.frame s.clk.t0 (max k s.clk.ticks) ∧ t.stseq = s.stseq) ∨
    (∃ r, c = .aonPowerOnReset r ∧ t.clk.frame = 0 ∧ t.stseq = s.stseq) := by
  have shape := shape_of_next h s.shape
  have same : resShape (exec c s) s.shape = s.shape → t.clk.frame = s.clk.frame ∧ t.stseq = s.stseq := fun e =>
    have e := shape.symm.trans e
    ⟨frame_of_shape e, stseq_of_shape e⟩
  cases hc : changesShape c with
  | false => exact .inl (same (exec_shape c s hc))
  | true =>
    cases c
    case frameStart inp =>
      obtain rfl | ran := execFrameStart_frame h
      · exact .inl ⟨rfl, rfl⟩
      · exact .inr (.inl ⟨inp, rfl, ran⟩)
    case framePllRelock k =>
      by_cases back : s.clk.dark = true ∧ s.pwr.dev = .starting
      · have e := shape.symm.trans (execFramePllRelock_shape k s back.1 back.2)
        exact .inr (.inr (.inl ⟨k, rfl, back.1, frame_of_shape e, stseq_of_shape e⟩))
      · exact .inl (same (congrArg (resShape · s.shape) (execFramePllRelock_idle k s back)))
    case aonPowerOnReset r =>
      have e := shape.symm.trans (execAonPowerOnReset_shape r s)
      exact .inr (.inr (.inr ⟨r, rfl, frame_of_shape e, stseq_of_shape e⟩))
    case fuseBurn tcks vin =>
      obtain ⟨k, p, l, e⟩ := execFuseBurn_shape tcks vin s
      have e := shape.symm.trans e
      exact .inl ⟨frame_of_shape e, stseq_of_shape e⟩
    all_goals cases hc

/-- Settles O4, by what a command can do to the frame number; that a reset and a frame do it is read off the shapes they answer. -/
theorem frameNumber : Obligations.FrameNumber := by
  refine ⟨fun c s t h => ?_, fun r s => ⟨_, rfl, frame_of_shape (execAonPowerOnReset_shape r s)⟩, fun inp s on => ⟨_, rfl, ?_⟩⟩
  · obtain ⟨frame, -⟩ | ⟨inp, rfl, on, frame, -⟩ | ⟨k, rfl, dark, frame, -⟩ | ⟨r, rfl, frame, -⟩ := exec_next_frame h
    · exact .inl frame
    · exact .inr (.inl ⟨inp, rfl, on, frame⟩)
    · exact .inr (.inr (.inl ⟨k, rfl, dark, frame⟩))
    · exact .inr (.inr (.inr ⟨r, rfl, frame⟩))
  · obtain ⟨q, e⟩ := execFrameStart_shape inp s (State.hcxOn_eq_true.2 on)
    exact frame_of_shape e

/-- Settles O6: of the commands that may change the shape only a frame that runs advances the sequence. -/
theorem statusSequence : Obligations.StatusSequence := by
  intro c s t h
  obtain ⟨-, q⟩ | ⟨inp, rfl, on, -, q | q⟩ | ⟨k, rfl, -, -, q⟩ | ⟨r, rfl, -, q⟩ := exec_next_frame h
  · exact .inl q
  · exact .inl q
  · exact .inr ⟨⟨inp, rfl⟩, on, q⟩
  · exact .inl q
  · exact .inl q

/-- Settles O1: a step is exec of the front command, and an empty queue is the other case of its definition. -/
theorem stepRunsTheFrontCommand : Obligations.StepRunsTheFrontCommand := by
  refine ⟨fun c rest s => rfl, fun s idle => ?_⟩
  unfold step
  rw [idle]

theorem State.frameSteps_running {s a b : State} (ha : a = ((s.stepOf State.collect).stepOf State.changes).stepOf State.decisions)
    (on : a.clk.dark = false) (hb : b = a.stepOf State.refreshCredits) (works : b.pwr.dev = .working) : s.frameSteps =
      ((((b.stepOf State.energyBudget).stepOf State.admission).stepOf State.patrolStep).stepOf State.dispatchWork).deepBegins := by
  subst hb ha
  simp [State.frameSteps, State.hcxOn, State.ready, on, works]

/-- Settles O7: the frame's own definition, with a frame's body as the state before its records are delivered. -/
theorem frameSteps : Obligations.FrameSteps := by
  refine ⟨fun inp s dark => execFrameStart_off inp s (State.hcxOn_eq_false.2 dark), fun inp s a b on ha hb => ?_,
    fun s a b c ha on hb works hc => hc ▸ State.frameSteps_running ha on hb works⟩
  have body : s.frameBody inp = b := by
    subst hb ha
    simp [State.frameBody, State.ready]
  rw [exec, execFrameStart_on inp s (State.hcxOn_eq_true.2 on), body]
  simp [State.hcxOn]

end Sys2Proof.Machine
end

section
/-! SUPPORT. The clocks' own rows and the end of dark frames (R44, R45, R47, R59, R63, R64, R201, R202, R468). -/

namespace Sys2Proof.Machine

theorem Clock.tick_ticks {c : Clock} (runs : c.aonRuns = true) (n : Nat) : (c.tick n).ticks = c.ticks + n := by simp [Clock.tick, runs]

/-- Dark time is charged to the age clocks, and the refresh it makes due: to the media alone. -/
theorem State.chargeDark_media (s : State) (n : Nat) (a b : List (Option Int)) : ∃ f, s.chargeDark n a b = s.modMedia f := by
  unfold State.chargeDark
  split
  · exact ⟨fun m => m, rfl⟩
  · exact ⟨fun _ => State.media (State.refreshByAge _), rfl⟩

/-- Settles O9: dark time is charged to the media; the updates that follow are read off. -/
theorem darkTime : Obligations.DarkTime := by
  refine ⟨fun k s dark start => ?_, fun t0 t1 last => rfl⟩
  obtain ⟨f, charged⟩ := s.chargeDark_media (max k s.clk.ticks - s.pwr.sampleTick) s.pwr.sampled s.pwr.sampled
  refine ⟨_, rfl, ?_⟩
  simp only [dark, start, charged, Bool.not_true, bne_self_eq_false, Bool.or_self, Bool.false_eq_true, if_false]
  refine ⟨rfl, rfl, rfl, rfl, ?_, fun runs => ?_, rfl, rfl⟩
  · simp only [State.modEvt_evt, List.length_append, List.length_map, State.modMedia_evt, State.modStart_evt, State.modClk_evt]
  · simp [Clock.tick_ticks runs]

/-- Settles O8, clause by clause: the row's condition holds, so its update is made. -/
theorem clockCommands : Obligations.ClockCommands := by
  refine ⟨fun s on set new => ?_, fun s on set due => ?_, fun s runs crow => ?_, fun s stopped => ?_, fun s ref on => ?_,
    fun s lost osc => ?_, fun s on due => ?_⟩
  · simp [exec, execSecondMark, on, set, new]
  · have recorded : s.recordTime = _ := if_neg (by simp [set])
    simp only [exec, execLastKnownTime, on, ← recorded]
    cases last : s.clk.lastKnownFrame with
    | none => rfl
    | some f =>
      have late : ¬ s.clk.frame < f + 4194304 := by simpa using due f last
      simp [late]
  · simp [exec, execAon32kStopped, runs, crow]
  · simp [exec, execAon32kRunning, stopped]
  · simp [exec, execRef100Loss, ref, on]
    rfl
  · simp [exec, execRef100Return, lost, osc]
    rfl
  · have due : ¬ (s.clk.dark || decide (s.clk.frame < s.media.ageFrame + 62500)) = true := by simpa [on] using due
    exact ⟨_, congrArg Host.Outcome.next (if_neg due), rfl, rfl, rfl, rfl⟩

end Sys2Proof.Machine
end

section
/-! SUPPORT. The states of the flash ports (R54 to R56, R71, R501): the reads that a transition has looked at again leave the ports as they are. -/

namespace Sys2Proof.Machine

theorem State.modPort_port_same (s : State) (p : Nat) (f : Port → Port) (h : p < s.ports.length) : (s.modPort p f).port p = f (s.port p) := by
  simp [State.port, State.modPort, List.getD_eq_getElem?_getD, h]
theorem State.port_of_steady {s t : State} (h : t.steady = s.steady) (p : Nat) : t.port p = s.port p := by
  have ports : t.ports = s.ports := congrArg Steady.ports h
  rw [State.port, State.port, ports]

/-- An overrun frame marks its port and counts what was carried (R53, R54). -/
theorem State.overrun_port (s : State) (p n cycles : Nat) (h : p < s.ports.length) : (s.overrun p n cycles).port p = { s.port p with
    overrunNow := true, carriedEntries := (s.port p).carriedEntries + n, largest := max (s.port p).largest cycles } :=
  State.modPort_port_same s p _ h

theorem State.overrun_ports_length (s : State) (p n cycles : Nat) : (s.overrun p n cycles).ports.length = s.ports.length :=
  congrArg Shape.ports (State.overrun_shape s p n cycles)

/-- A port after a change of state: its window and its run of clear frames begin anew. -/
def Port.entered (x : Port) (into : PortState) : Port := { x with state := into, window := [], clearRun := 0 }

theorem State.setPort_port (s : State) (p : Nat) (into : PortState) (code severity : Nat) (f : Port → Port) (h : p < s.ports.length) :
    (s.setPort p into code severity f).port p = f ((s.port p).entered into) := by
  unfold State.setPort
  rw [State.port_of_steady ((State.raise_steady _ _ _ _ _ _).trans (State.recheckBounds_steady _)), State.modPort_port_same _ _ _ h]
  rfl
theorem State.setPort_ports_length (s : State) (p : Nat) (into : PortState) (code severity : Nat) (f : Port → Port) :
    (s.setPort p into code severity f).ports.length = s.ports.length :=
  have e : (s.setPort p into code severity f).shape = s.shape := by simp [State.setPort, State.modPort]
  congrArg Shape.ports e

/-- A failed port: the loss of its units and the reads that look again leave the port's record. -/
theorem State.failPort_port (s : State) (p : Nat) (h : p < s.ports.length) :
    (s.failPort p).port p = { (s.port p).entered .failed with fencedAt := none, draining := false } := by
  unfold State.failPort
  rw [State.port_of_steady ((State.retryReads_steady _ _).trans ((State.enterGapLosses_steady _ _ _ _).trans (State.loseUnits_steady _ _ _))),
    State.setPort_port _ _ _ _ _ _ h]

/-- What exclusion after training leaves of a port: all but its excluded LUNs. -/
theorem State.excludeAfter_port (s : State) (p ces : Nat) (named : List (Nat × Nat × Nat)) (h : p < s.ports.length) :
    ∃ l, (s.excludeAfter p ces named).port p = { s.port p with excluded := l } := by
  have raised (t : State) (l : List (Nat × Nat × Nat)) (r : List Nat) : (each r (fun s x => (s.raise (60 * (p / 4) + 4 + p % 4) 1 2
      [x, Config.freeNat s.fresh]).bump) (each l (fun s x => s.raise (60 * (p / 4) + 4 + p % 4) x.2.1 2 [x.1, x.2.2]) t)).steady = t.steady := by
    simp
  unfold State.excludeAfter
  dsimp only
  rw [State.port_of_steady (raised _ _ _)]
  split
  · exact ⟨_, rfl⟩
  · exact ⟨_, State.modPort_port_same _ _ _ h⟩

/-- A port's record once the mark of the frame before has joined its window `w` (R54). -/
def Port.reported (w : List Bool) (x : Port) : Port := { x with
  window := w, clearRun := if x.overrunNow then 0 else x.clearRun + 1
  overruns := x.overruns + (if x.overrunNow then 1 else 0), overrunNow := false }
/-- The window that the mark of the frame before makes. -/
def Port.nextWindow (x : Port) : List Bool := (x.overrunNow :: x.window).take 64
/-- An entry into degraded is counted. -/
def Port.degrade (x : Port) : Port := { x with degradedEntries := x.degradedEntries + 1 }
/-- Retraining passed with the chip enables `ces`. -/
def Port.retrain (ces : Nat) (x : Port) : Port := { x.degrade with cePassed := ces, fencedAt := none }
/-- A fenced port: the third entry of a power-on drains it (R55). -/
def Port.fence (frame : Nat) (x : Port) : Port := { x with
  fencedEntries := x.fencedEntries + 1, fencedAt := some frame, draining := decide (2 ≤ x.fencedBefore + x.fencedEntries) }

/-- The state in which the report of a frame finds port `p`: the mark has joined. -/
def State.marked (s : State) (p : Nat) : State := s.modPort p (Port.reported (s.port p).nextWindow)

/-- What the report of a frame does to a port (R54, R55). -/
theorem State.portReport_cases (s : State) (p : Nat) :
    (s.ctlValue ctlOverrunD ≤ countIf id (s.port p).nextWindow ∧ (s.port p).state = .normal ∧
      s.portReport p = (s.marked p).setPort p .degraded 1 1 Port.degrade) ∨
    (s.ctlValue ctlOverrunD ≤ countIf id (s.port p).nextWindow ∧ (s.port p).state = .degraded ∧
      s.portReport p = ((s.marked p).setPort p .fenced 3 2 (Port.fence s.clk.frame)).retryReads fun _ b => b.phase == 0) ∨
    (¬ (s.ctlValue ctlOverrunD ≤ countIf id (s.port p).nextWindow ∧ ((s.port p).state = .normal ∨ (s.port p).state = .degraded)) ∧
      s.portReport p = s.marked p) := by
  unfold State.portReport
  dsimp only
  split
  · next state many => exact .inl ⟨of_decide_eq_true many, state, rfl⟩
  · next state many => exact .inr (.inl ⟨of_decide_eq_true many, state, rfl⟩)
  · next normal degraded =>
    refine .inr (.inr ⟨fun h => ?_, rfl⟩)
    obtain ⟨many, state | state⟩ := h
    · exact normal state (decide_eq_true many)
    · exact degraded state (decide_eq_true many)

/-- Settles O11: the mark joins the window, and the count of overrun frames in it decides with the port's state. -/
theorem portReport : Obligations.PortReport := by
  intro p s w h hw
  have hw : w = (s.port p).nextWindow := hw
  have length : p < (s.marked p).ports.length := by simpa [State.marked, State.modPort] using h
  have joined : (s.marked p).port p = (s.port p).reported w := by rw [hw]; exact State.modPort_port_same _ _ _ h
  have cases := s.portReport_cases p
  rw [← hw] at cases
  obtain ⟨many, state, e⟩ | ⟨many, state, e⟩ | ⟨other, e⟩ := cases
  · have at_ := State.setPort_port _ p .degraded 1 1 Port.degrade length
    rw [← e, joined] at at_
    rw [at_]
    exact ⟨fun _ _ => ⟨rfl, rfl⟩, fun _ degraded => by simp [state] at degraded, fun few => absurd many (Nat.not_le.2 few)⟩
  · have at_ := (State.port_of_steady (State.retryReads_steady _ fun _ b => b.phase == 0) p).trans
      (State.setPort_port _ p .fenced 3 2 (Port.fence s.clk.frame) length)
    rw [← e, joined] at at_
    rw [at_]
    exact ⟨fun _ normal => by simp [state] at normal, fun _ _ => ⟨rfl, rfl, rfl⟩, fun few => absurd many (Nat.not_le.2 few)⟩
  · rw [e, joined]
    exact ⟨fun many normal => absurd ⟨many, .inl normal⟩ other, fun many degraded => absurd ⟨many, .inr degraded⟩ other,
      fun _ => ⟨rfl, rfl, rfl, rfl⟩⟩

/-- Settles O10: each row's condition holds, and a transition's port is read off past the reads that look again. -/
theorem portStates : Obligations.PortStates := by
  refine ⟨fun p s hp degraded run => ?_, fun p ces ex f s h hp fenced noDrain since inTime passed => ?_,
    fun p f s hp fenced noDrain since late => ?_, fun p s hp fenced drains idle => ?_, fun p s h => ⟨_, rfl, ?_⟩, fun p s hp h => ?_⟩
  · simp [exec, execOverrunRecoveryRun, whenUnit, hp, degraded, run]
  · generalize hk : bitmap ((bitsOf ces 8).filter (bit s.record.ceBitmap)) = k at passed ⊢
    have passes : exec (.retrainingPass p ces ex) s =
        .next (((s.setPort p .degraded 1 1 (Port.retrain k)).excludeAfter p k ex).retryReads fun _ b => b.phase == 0) := by
      simp [exec, execRetrainingPass, whenUnit, hp, fenced, noDrain, since, inTime, hk, passed]
      rfl
    refine ⟨_, passes, ?_⟩
    obtain ⟨l, excluded⟩ := State.excludeAfter_port (s.setPort p .degraded 1 1 (Port.retrain k)) p k ex (by rwa [State.setPort_ports_length])
    rw [State.port_of_steady (State.retryReads_steady _ _), excluded, State.setPort_port _ _ _ _ _ _ h]
    exact ⟨rfl, rfl, rfl, rfl, rfl⟩
  · simp [exec, execRetrainingTimeout, whenUnit, hp, fenced, noDrain, since, late]
  · have idle : (s.luns.any fun l => portOfLun l.glun == p && l.work.isSome) = false := by
      simpa using idle
    simp [exec, execPortFailedAfterDrain, whenUnit, hp, fenced, drains, idle]
  · beta_reduce
    rw [State.failPort_port s p h]
    exact ⟨rfl, rfl⟩
  · refine ⟨_, if_pos (decide_eq_true hp), ?_⟩
    beta_reduce
    rw [State.modPort_port_same _ _ _ (by rwa [State.overrun_ports_length]), State.overrun_port s p 0 0 h]
    exact ⟨rfl, rfl, rfl⟩

end Sys2Proof.Machine
end

section
/-! SUPPORT. The start of program passes and erases (R138, R157, R158, R219, R231). -/

namespace Sys2Proof.Machine

/-- A pass that may start: the condition of PROGRAM_PASS_ISSUE lets the row go on to the next pass of the LUN. -/
theorem execProgramPassIssue_starts {s : State} {glun : Nat} {x : NextPass} (unit : glun < 1024) (active : (s.mast (mastOfLun glun)).state = .active)
    (unfenced : (s.port (portOfLun glun)).state ≠ .fenced) (whole : (s.port (portOfLun glun)).state ≠ .failed) (used : s.lunExcluded glun = false)
    (idle : (s.lun glun).work = none) (unread : s.readOn glun = false) (up : s.dumping = false) (next : s.passOn glun = some x)
    (final : Bool) (hfinal : (x.pass + 1 == s.profile.passesPerWl) = final) (k : DieOp) (hk : k = if final then .finePass else .coarsePass)
    (budget : suspendLimit s.profile k x.seg.archival ≠ 0 ∨ s.budgetAllows glun = true) :
    execProgramPassIssue glun s = .next (s.modLun glun fun l => { l with work := some { s.dieWork glun k x.block
      (if final then (if x.seg.archival then s.profile.fineArchNs else s.profile.fineStdNs) else s.profile.coarseNs)
      (suspendLimit s.profile k x.seg.archival) (passBursts s.profile) with ref1 := x.seg.seq, ref2 := x.wl, pass := x.pass } }) := by
  have open_ : (suspendLimit s.profile k x.seg.archival == 0 && ! s.budgetAllows glun) = false := by
    obtain limit | allowed := budget
    · simp [limit]
    · simp [allowed]
  subst hk
  simp [execProgramPassIssue, whenUnit, unit, active, unfenced, whole, used, idle, unread, up, next, hfinal, open_]

/-- Settles O13: each row's condition holds, and the work it puts on the LUN is dieWork with the pass's own fields. -/
theorem dieStarts : Obligations.DieStarts := by
  refine ⟨fun glun ns s x k unit active unfenced whole used idle unread up next hk hns budget => ?_,
    fun glun block s unit idle unread budget allowed up active present used due => ?_⟩
  · have starts := execProgramPassIssue_starts unit active unfenced whole used idle unread up next _ rfl k (by simpa using hk) budget
    subst hns
    exact starts.trans (by simp [State.dieWork])
  · have open_ : (suspendLimit s.profile .erase false != 0 || s.budgetAllows glun) = true := by
      obtain limit | within := budget
      · simp [limit]
      · simp [within]
    refine (if_pos (decide_eq_true unit)).trans (congrArg Host.Outcome.next ?_)
    have ready : ((s.lun glun).work.isNone && ! s.readOn glun && (suspendLimit s.profile .erase false != 0 || s.budgetAllows glun) &&
        ! s.eraseBarred glun && ! s.dumping && (s.mast (mastOfLun glun)).state == .active && ! s.lunErased glun && ! s.lunExcluded glun) = true := by
      simp [idle, unread, open_, allowed, up, active, present, used]
    dsimp only
    rw [ready]
    refine if_pos (Bool.or_eq_true_iff.2 (due.imp (fun h => ?_) fun h => List.contains_iff_mem.2 h))
    obtain ⟨kind, noRecord⟩ := h
    simp only [Bool.and_eq_true, Bool.not_eq_true', List.any_eq_false]
    refine ⟨by simpa using kind, fun r mem same => ?_⟩
    split at same
    · simp only [Bool.and_eq_true, beq_iff_eq] at same
      obtain ⟨rfl, rfl⟩ := same
      exact noRecord _ _ mem
    · simp at same

end Sys2Proof.Machine
end

section
/-! SUPPORT. The end of a die operation and the delays it brings (R51 to R53, R138, R157, R163, R214, R216). -/

namespace Sys2Proof.Machine

/-! ## Entries that run late (R53) -/

/-- One entry more: it runs from where the entries before it ended, or is carried with all that follow. -/
def runOne (st : Nat × List PlanEntry × List PlanEntry) (e : PlanEntry) : Nat × List PlanEntry × List PlanEntry :=
  if st.2.2.isEmpty && decide (max st.1 e.start + e.cycles ≤ 2000) then
    (max st.1 e.start + e.cycles, st.2.1 ++ [{ e with start := max st.1 e.start }], [])
  else (st.1, st.2.1, st.2.2 ++ [{ e with start := 0 }])
theorem runEntries_eq (n : Nat) (l : List PlanEntry) : runEntries n l = (l.foldl runOne (n, [], [])).2 := rfl

/-- What an entry is, whatever its cycle. -/
def PlanEntry.work (e : PlanEntry) : Nat × Nat × Nat := (e.lun, e.kind, e.cycles)

/-- The entries `l` run or are carried, in their order: those that run do so from cycle `n` on and within the frame, the others from cycle 0. -/
structure RunFrom (n : Nat) (l : List PlanEntry) (st : Nat × List PlanEntry × List PlanEntry) : Prop where
  from_ : n ≤ st.1
  run : ∀ e ∈ st.2.1, n ≤ e.start ∧ e.start + e.cycles ≤ 2000
  carried : ∀ e ∈ st.2.2, e.start = 0
  order : (st.2.1 ++ st.2.2).map PlanEntry.work = l.map PlanEntry.work

theorem RunFrom.runOne {n : Nat} {l : List PlanEntry} {st : Nat × List PlanEntry × List PlanEntry} (h : RunFrom n l st) (e : PlanEntry) :
    RunFrom n (l ++ [e]) (runOne st e) := by
  obtain ⟨from_, run, carried, order⟩ := h
  unfold Machine.runOne
  split
  · next fits =>
    obtain ⟨none, ends⟩ : st.2.2 = [] ∧ max st.1 e.start + e.cycles ≤ 2000 := by simpa using fits
    refine ⟨by dsimp only; omega, fun x mem => ?_, by simp, ?_⟩
    obtain mem | rfl := List.mem_append.1 mem |>.imp_right List.mem_singleton.1
    · exact run x mem
    · exact ⟨le_trans from_ (le_max_left _ _), ends⟩
    · rw [none, List.append_nil] at order
      simp only [List.append_nil, List.map_append, order]
      rfl
  · refine ⟨from_, run, fun x mem => ?_, ?_⟩
    · obtain mem | rfl := List.mem_append.1 mem |>.imp_right List.mem_singleton.1
      · exact carried x mem
      · rfl
    · rw [← List.append_assoc, List.map_append, order, List.map_append]
      rfl

theorem runEntries_runFrom (n : Nat) (l : List PlanEntry) : RunFrom n l (l.foldl runOne (n, [], [])) := by
  induction l using List.reverseRecOn with
  | nil => exact ⟨le_refl n, by simp, by simp, rfl⟩
  | append_singleton l e ih =>
    rw [List.foldl_append]
    exact ih.runOne e

/-! ## LUNs and their erase blocks -/

theorem find?_putBy_other {α : Type} (key : α → Nat) (x : α) {k : Nat} (other : k ≠ key x) (l : List α) :
    (putBy key x l).find? (fun y => key y == k) = l.find? (fun y => key y == k) := by
  have skip : (key x == k) = false := by simpa using other.symm
  unfold putBy
  split
  · next any =>
    clear any
    induction l with
    | nil => rfl
    | cons y l ih =>
      by_cases same : key y = key x
      · have skipped : (key y == k) = false := by rw [same]; exact skip
        simpa [same, skip, skipped] using ih
      · by_cases found : key y = k
        · simp [found, other]
        · simpa [same, found] using ih
  · simp [List.find?_append, skip]

theorem State.lun_glun (s : State) (g : Nat) : (s.lun g).glun = g := by
  unfold State.lun
  cases found : s.luns.find? (·.glun == g) with
  | none => rfl
  | some l => simpa using List.find?_some found
theorem Lun.block_number (l : Lun) (b : Nat) : (l.block b).number = b := by
  unfold Lun.block
  cases found : l.blocks.find? (·.number == b) with
  | none => rfl
  | some e => simpa using List.find?_some found

theorem State.modLun_lun_same (s : State) (g : Nat) (f : Lun → Lun) (keeps : (f (s.lun g)).glun = g) : (s.modLun g f).lun g = f (s.lun g) := by
  have found := find?_putBy_same Lun.glun (f (s.lun g)) s.luns
  rw [keeps] at found
  unfold State.modLun State.lun
  rw [State.modLuns_luns]
  exact congrArg (Option.getD · _) found
theorem State.modLun_lun_other (s : State) (g x : Nat) (f : Lun → Lun) (keeps : (f (s.lun g)).glun = g) (other : x ≠ g) :
    (s.modLun g f).lun x = s.lun x := by
  have found := find?_putBy_other Lun.glun (f (s.lun g)) (k := x) (by rwa [keeps]) s.luns
  unfold State.lun
  rw [State.modLun, State.modLuns_luns]
  exact congrArg (Option.getD · _) found

theorem State.modBlock_block_same (s : State) (glun b : Nat) (f : EBlock → EBlock) (keeps : (f ((s.lun glun).block b)).number = b) :
    ((s.modBlock glun b f).lun glun).block b = f ((s.lun glun).block b) := by
  have found := find?_putBy_same EBlock.number (f ((s.lun glun).block b)) (s.lun glun).blocks
  rw [keeps] at found
  rw [State.modBlock, State.modLun_lun_same _ _ _ (s.lun_glun glun)]
  exact congrArg (Option.getD · _) found
theorem State.modBlock_lun_other (s : State) (glun b x : Nat) (f : EBlock → EBlock) (other : x ≠ glun) : (s.modBlock glun b f).lun x = s.lun x :=
  s.modLun_lun_other _ _ _ (s.lun_glun glun) other

/-! ## What the end of an operation brings about -/

theorem dieOver.guard {s : State} {glun : Nat} {w : DieWork} (ended : dieOver s glun w) :
    (w.suspended || w.cmd || w.dataLeft != 0 || (s.takesPlans (portOfLun glun) && decide (s.clk.frame < w.plannedEnd))) = false := by
  obtain ⟨-, awake, sent, filled, due⟩ := ended
  cases takes : s.takesPlans (portOfLun glun) with
  | false => simp [awake, sent, filled]
  | true => simpa [awake, sent, filled] using due takes

/-- The LUN without its operation. -/
def State.freed (s : State) (glun : Nat) : State := s.modLun glun fun l => { l with work := none }

theorem State.freed_work (s : State) (glun : Nat) : ((s.freed glun).lun glun).work = none := by
  rw [State.freed, State.modLun_lun_same _ _ _ (s.lun_glun glun)]

theorem State.freed_block (s : State) (glun b : Nat) : ((s.freed glun).lun glun).block b = (s.lun glun).block b := by
  rw [State.freed, State.modLun_lun_same _ _ _ (s.lun_glun glun)]
  rfl

section
variable {s : State} {glun : Nat} {w : DieWork} (unit : glun < 1024) (ended : dieOver s glun w)
include unit ended

/-- The end of a pass that is over, when no entry of its port is late. -/
theorem execDieOperationEnd_pass (kind : w.kind = .coarsePass ∨ w.kind = .finePass) :
    execDieOperationEnd glun true 0 0 s = .next ((s.freed glun).passDone glun w) ∧
    execDieOperationEnd glun false 0 0 s = .next ((s.freed glun).programFailed glun w.block w.ref1) := by
  have guard := ended.guard
  have work := ended.1
  obtain kind | kind := kind <;> simp [execDieOperationEnd, whenUnit, unit, work, guard, kind, State.freed]

/-- The end of an erase that is over, when no entry of its port is late. -/
theorem execDieOperationEnd_erase (kind : w.kind = .erase) :
    execDieOperationEnd glun true 0 0 s = .next ((s.freed glun).log (mastOfLun glun)
      (.blockState glun w.block 3 (((s.lun glun).block w.block).erases + 1))) ∧
    execDieOperationEnd glun false 0 0 s = .next ((s.freed glun).eraseFailed glun w.block) := by
  have guard := ended.guard
  have work := ended.1
  rw [← State.freed_block]
  simp [execDieOperationEnd, whenUnit, unit, work, guard, kind, State.freed, State.eraseDone]
end

theorem mem_updIf {α : Type} {p : α → Bool} {f : α → α} {l : List α} {x : α} (mem : x ∈ updIf p f l) : ∃ y ∈ l, x = if p y then f y else y := by
  obtain ⟨y, mem, e⟩ := List.mem_map.1 mem
  exact ⟨y, mem, e.symm⟩

theorem State.log_staged {s : State} {j : Nat} (h : j < s.media.journals.length) (r : JRec) :
    ((s.log j r).journal j).staged = (s.journal j).staged ++ [r] := by
  simp [State.log, State.modJournal, State.journal, List.getD_eq_getElem?_getD, h]

/-- The passes of member `q` of a segment with one wordline more for the pass of `w`. -/
def Segment.counted (g : Segment) (s : State) (q : Nat) (w : DieWork) (x : Segment) : Segment := { x with
  progress := x.progress.filter (fun y => y.1 != q) ++ [(q, (List.range s.profile.passesPerWl).map fun i => g.passes q i + bitOf (i == w.pass) 0)]
  headerSent := true }
/-- The segment with the pass counted, and its record in the journal. -/
def State.passCounted (s : State) (glun : Nat) (g : Segment) (q : Nat) (w : DieWork) : State :=
  (s.modSeg g.seq (g.counted s q w)).log (mastOfLun glun) (.passComplete g.seq q w.ref2 (w.pass + 1) w.block)
theorem State.passCounted_rest (s : State) (glun : Nat) (g : Segment) (q : Nat) (w : DieWork) : (s.passCounted glun g q w).clk = s.clk ∧
    (s.passCounted glun g q w).nss = s.nss ∧ (s.passCounted glun g q w).keys = s.keys ∧ (s.passCounted glun g q w).ports = s.ports ∧
    (s.passCounted glun g q w).io = s.io ∧ (s.passCounted glun g q w).luns = s.luns ∧ (s.passCounted glun g q w).media.blocks = s.media.blocks ∧
    (s.passCounted glun g q w).media.segs = updIf (·.seq == g.seq) (g.counted s q w) s.media.segs := ⟨rfl, rfl, rfl, rfl, rfl, rfl, rfl, rfl⟩
/-- The blocks of a wordline of a member. -/
def State.onWordline (s : State) (g : Segment) (q wl : Nat) (b : Stored) : Bool :=
  b.seg == g.seq && wordlineOf s.profile b.row == wl && memberOf g.width b.unit b.row == q

/-- A pass of the segment's own member is counted and journalled, and a final one clears the wordline's dirty blocks (R138). -/
theorem State.passDone_member {s : State} {glun q : Nat} {w : DieWork} {g : Segment} (seg : s.seg? w.ref1 = some g)
    (member : ((List.range g.width).find? fun q => s.memberGlun g q == glun) = some q) (own : w.block = g.members.getD q 0) :
    (w.kind ≠ .finePass → s.passDone glun w = s.passCounted glun g q w) ∧
    (w.kind = .finePass → s.passDone glun w =
      (s.passCounted glun g q w).modBlocks (s.onWordline g q w.ref2) fun b => { b with dirty := false }) := by
  have counted : s.passDone glun w = if w.kind != .finePass then s.passCounted glun g q w
      else (s.passCounted glun g q w).modBlocks (s.onWordline g q w.ref2) fun b => { b with dirty := false } := by
    unfold State.passDone
    rw [seg]
    dsimp only
    rw [member]
    simp only [own, bne_self_eq_false, Bool.false_eq_true, if_false, State.passCounted]
    rfl
  rw [counted]
  exact ⟨fun coarse => by simp [coarse], fun fine => by simp [fine]⟩

/-- The state that a durable free record gives a block (R163). -/
def State.freeState (s : State) (glun b : Nat) : BlockState :=
  if ((s.lun glun).block b).state != .pendingErase then ((s.lun glun).block b).state
  else if (s.lun glun).poolBlock s.profile b then .free else .system
/-- A durable free record: the block is erased with its new count, and its rescue slots are returned (R145, R163). -/
theorem State.blockFree_good {s : State} {glun b : Nat} (n : Nat) (good : ((s.lun glun).block b).state ≠ .retired) :
    ∃ f, s.blockFree glun b n = (s.modMasts f).modBlock glun b fun e => { e with
      erases := n, erased := true, state := s.freeState glun b, offsets := [] } :=
  ⟨_, if_neg fun retired => good (beq_iff_eq.1 retired)⟩

/-- Settles O14: the guard of the row holds its operation or lets it end, and the end of each kind is read off; entries run late by an induction
over them. -/
theorem dieOperationEnds : Obligations.DieOperationEnds := by
  refine ⟨fun glun late repeated ok s w unit work held => ?_, fun glun late repeated ok s unit idle => ?_,
    fun glun late repeated ok s w unit ended kind => ?_, fun glun s w g q unit ended kind seg member own journal => ?_,
    fun glun s w unit ended kind => ?_, fun glun b n s good => ?_, fun glun s w unit ended kind => ?_, fun glun s w unit ended kind => ?_,
    fun n l => ?_⟩
  · have guard : (w.suspended || w.cmd || w.dataLeft != 0 || (s.takesPlans (portOfLun glun) && decide (s.clk.frame < w.plannedEnd))) = true := by
      simpa [or_assoc] using held
    simp [exec, execDieOperationEnd, whenUnit, unit, work, guard]
  · simp [exec, execDieOperationEnd, whenUnit, unit, idle]
  · have guard := ended.guard
    have work := ended.1
    obtain kind | kind | kind | kind := kind <;> simp [exec, execDieOperationEnd, whenUnit, unit, work, guard, kind]
  · obtain ⟨coarse, fine⟩ := State.passDone_member (s := s.freed glun) seg member own
    have staged : (((s.freed glun).passCounted glun g q w).journal (mastOfLun glun)).staged = _ := State.log_staged journal _
    obtain ⟨clk, nss, keys, ports, io, luns, blocks, segs⟩ := (s.freed glun).passCounted_rest glun g q w
    refine ⟨_, (execDieOperationEnd_pass unit ended kind).1, ?_⟩
    have idle : (((s.freed glun).passCounted glun g q w).lun glun).work = none := by
      rw [State.lun, luns]
      exact s.freed_work glun
    generalize (s.freed glun).passCounted glun g q w = t at *
    obtain kind | kind := kind
    · rw [coarse (by simp [kind])]
      exact ⟨idle, clk, nss, keys, ports, io, by simp [kind], fun _ => blocks, staged, segs⟩
    · rw [fine kind]
      refine ⟨idle, clk, nss, keys, ports, io, fun _ b mem seg wl member => ?_, by simp [kind], staged, segs⟩
      obtain ⟨a, -, rfl⟩ := mem_updIf mem
      split
      · rfl
      · next other =>
        refine absurd ?_ other
        rw [if_neg other] at seg wl member
        simp [State.onWordline, seg, member, ← wl]
        rfl
  · exact (execDieOperationEnd_erase unit ended kind).1
  · obtain ⟨f, freed⟩ := State.blockFree_good n good
    have freed : s.recordDurable (.blockState glun b 3 n) = _ := freed
    rw [freed, State.modBlock_block_same _ _ _ _ (Lun.block_number _ _)]
    refine ⟨rfl, rfl, fun pending pool => ?_, fun other => ?_, fun x ne => State.modBlock_lun_other _ _ _ _ _ ne, rfl⟩
    · simp [State.freeState, pending, pool]
    · simp [State.freeState, other]
  · exact (execDieOperationEnd_erase unit ended kind).2
  · exact (execDieOperationEnd_pass unit ended kind).2
  · obtain ⟨-, run, carried, order⟩ := runEntries_runFrom n l
    exact ⟨run, carried, order⟩

end Sys2Proof.Machine
end

section
/-! SUPPORT. The stages of the start-up (R46, R71, R161, R486 to R491): what training and replay leave of the clocks, the fuses and the masts. -/

namespace Sys2Proof.Machine

/-! ## Training (R71) -/

theorem State.setPort_lasting (s : State) (p : Nat) (into : PortState) (code severity : Nat) (f : Port → Port) :
    (s.setPort p into code severity f).lasting = s.lasting :=
  State.lasting_of_steady (s := s.modPort p fun x => f { x with state := into, window := [], clearRun := 0 })
    ((State.raise_steady _ _ _ _ _ _).trans (State.recheckBounds_steady _))
theorem State.setPort_bearing (s : State) (p : Nat) (into : PortState) (code severity : Nat) (f : Port → Port) :
    (s.setPort p into code severity f).bearing = s.bearing :=
  (State.raise_bearing _ _ _ _ _ _).trans (State.recheckBounds_bearing _)

theorem State.failPort_lasting (s : State) (p : Nat) : (s.failPort p).lasting = s.lasting :=
  (State.lasting_of_steady ((State.retryReads_steady _ _).trans ((State.enterGapLosses_steady _ _ _ _).trans (State.loseUnits_steady _ _ _)))).trans
    (State.setPort_lasting _ _ _ _ _ _)
theorem State.failPort_bearing (s : State) (p : Nat) : (s.failPort p).bearing = s.bearing :=
  (State.retryReads_bearing _ _).trans ((State.enterGapLosses_bearing _ _ _ _).trans ((State.loseUnits_bearing _ _ _).trans (State.setPort_bearing _ _ _ _ _ _)))

/-- A view of the state that neither the records of ports nor events change is left by the exclusion of LUNs. -/
theorem State.excludeAfter_view {β : Type} (view : State → β) (ports : ∀ s f, view (State.modPorts s f) = view s)
    (raised : ∀ s a b c l, view (State.raise s a b c l) = view s) (bumped : ∀ s, view (State.bump s) = view s)
    (s : State) (p ces : Nat) (named : List (Nat × Nat × Nat)) : view (s.excludeAfter p ces named) = view s := by
  unfold State.excludeAfter
  refine (each_view view _ (fun s x => (bumped _).trans (raised _ _ _ _ _)) _ _).trans
    ((each_view view _ (fun s x => raised _ _ _ _ _) _ _).trans ?_)
  split
  · rfl
  · exact ports _ _

/-- The same of the training of a port, where it is left by a port's change of state and its failure as well. -/
theorem State.trainPort_view {β : Type} (view : State → β) (ports : ∀ s f, view (State.modPorts s f) = view s)
    (raised : ∀ s a b c l, view (State.raise s a b c l) = view s) (bumped : ∀ s, view (State.bump s) = view s)
    (set : ∀ s p into code severity f, view (State.setPort s p into code severity f) = view s) (failed : ∀ s p, view (State.failPort s p) = view s)
    (s : State) (p ces : Nat) (named : List (Nat × Nat × Nat)) : view (s.trainPort p ces named) = view s := by
  unfold State.trainPort
  refine (State.excludeAfter_view view ports raised bumped _ _ _ _).trans ?_
  dsimp only
  split
  · split
    · exact ports _ _
    · exact (failed _ _).trans (ports _ _)
  · split
    · exact (ports _ _).trans (ports _ _)
    · exact (set _ _ _ _ _ _).trans ((ports _ _).trans (ports _ _))

theorem State.trainPort_lasting (s : State) (p ces : Nat) (named : List (Nat × Nat × Nat)) : (s.trainPort p ces named).lasting = s.lasting :=
  State.trainPort_view State.lasting (fun _ _ => rfl) (fun _ _ _ _ _ => State.lasting_of_steady (State.raise_steady _ _ _ _ _ _)) (fun _ => rfl)
    State.setPort_lasting State.failPort_lasting s p ces named
theorem State.trainPort_bearing (s : State) (p ces : Nat) (named : List (Nat × Nat × Nat)) : (s.trainPort p ces named).bearing = s.bearing :=
  State.trainPort_view State.bearing (fun _ _ => rfl) (fun _ _ _ _ _ => State.raise_bearing _ _ _ _ _ _) (fun _ => rfl)
    State.setPort_bearing State.failPort_bearing s p ces named

theorem State.modMast_mast_other (s : State) (m i : Nat) (f : Mast → Mast) (h : i ≠ m) : (s.modMast m f).mast i = s.mast i := by
  simp [State.modMast, State.mast, List.getD_eq_getElem?_getD, Ne.symm h]
@[simp] theorem State.mastUp_masts_length (s : State) (m : Nat) : (s.mastUp m).masts.length = s.masts.length :=
  congrArg Shape.masts (State.mastUp_shape s m)

/-- A mast that comes into service is active, and no other changes. -/
theorem State.mastUp_active (s : State) (m i : Nat) (h : i < s.masts.length) (in_ : i = m ∨ (s.mast i).state = .active) :
    ((s.mastUp m).mast i).state = .active := by
  by_cases same : i = m
  · subst same
    have up : (s.mastUp i).mast i = _ := s.modMast_mast_same i _ h
    rw [up]
  · have other : (s.mastUp m).mast i = _ := s.modMast_mast_other m i _ same
    rw [other]
    exact in_.resolve_left same

/-- The masts of a list come into service, and those in service stay so. -/
theorem State.mastsUp_active (l : List Nat) (s : State) (i : Nat) (h : i < s.masts.length) (in_ : i ∈ l ∨ (s.mast i).state = .active) :
    ((each l (fun s m => s.mastUp m) s).mast i).state = .active := by
  induction l generalizing s with
  | nil => exact in_.resolve_left List.not_mem_nil
  | cons m l ih =>
    refine ih (s.mastUp m) (by simpa using h) ?_
    obtain mem | active := in_
    · obtain rfl | later := List.mem_cons.1 mem
      · exact .inr (s.mastUp_active _ _ h (.inl rfl))
      · exact .inl later
    · exact .inr (s.mastUp_active _ _ h (.inr active))

/-! ## Replay (R46, R161) -/

/-- The charge of the unpowered gap leaves the steady parts but the charge itself (R65). -/
theorem State.chargeGap_steady (s : State) : ∃ g, s.chargeGap.steady = { s.steady with clk := { s.clk with gapCharge := g } } := by
  unfold State.chargeGap
  extract_lets age done charged
  clear_value age
  have e : ∃ g, charged.steady = { s.steady with clk := { s.clk with gapCharge := g } } := by
    simp only [charged]
    split
    · exact ⟨s.clk.gapCharge, rfl⟩
    · exact ⟨some (s.clk.poc, age), congrArg (fun k : Steady => { k with clk := { k.clk with gapCharge := some (k.clk.poc, age) } })
        (State.chargeAll_steady s age)⟩
  obtain ⟨g, e⟩ := e
  exact ⟨g, (State.startLap_steady _ _).trans e⟩

/-- The clock at the end of replay: the power-on is counted once, with the charge `g` of the gap (R46, R65). -/
def Clock.powerOn (c : Clock) (g : Option (Nat × Nat)) : Clock :=
  if c.pocCounted then c else { c with poc := (c.poc + 1) % 4294967296, pocCounted := true, gapCharge := g }

/-- Replay leaves the steady parts but the power-on count and the charge of the gap. -/
theorem State.replay_steady (s : State) (missing : List (Nat × Nat)) (disagree : List (Nat × List Nat)) :
    ∃ g, (s.replay missing disagree).steady = { s.steady with clk := s.clk.powerOn g } := by
  unfold State.replay
  extract_lets unclean renewed aged numbered counted lost disagreed kept continued zs pointed forgot closed relogged erased
  have aged_steady : aged.steady = s.steady := by
    simp only [aged]
    split
    · exact State.chargeAll_steady _ _
    · rfl
  have lost_steady : lost.steady = counted.steady := each_steady _ (fun _ _ => State.loseStored_steady _ _ _) _ _
  have disagreed_steady : disagreed.steady = lost.steady := each_steady _ (fun s x => by
    dsimp only
    split
    · rfl
    · exact (each_steady _ (fun _ _ => State.loseStored_steady _ _ _) _ _).trans (State.raise_steady _ _ _ _ _ _)) _ _
  have kept_steady : kept.steady = disagreed.steady := State.modBlocks_steady _ _ _
  have continued_steady : continued.steady = kept.steady := by
    simp only [continued]
    split
    · rfl
    · exact State.noContinuation_steady _
  have pointed_steady : pointed.steady = continued.steady := each_steady _ (fun _ _ => State.recoverPointer_steady _ _ _) _ _
  have forgot_steady : forgot.steady = pointed.steady := by
    simp only [forgot]
    split <;> rfl
  have closed_steady : closed.steady = forgot.steady := each_steady _ (fun _ _ => State.closeZone_steady _ _ _) _ _
  have relogged_steady : relogged.steady = closed.steady := (State.loseMastZones_steady _).trans (State.relog_steady _)
  have erased_steady : erased.steady = relogged.steady := each_steady _ (fun _ _ => State.eraseDone_steady _ _ _) _ _
  have counted_steady : ∃ g, counted.steady = { s.steady with clk := s.clk.powerOn g } := by
    have clk : aged.clk = s.clk := congrArg Steady.clk aged_steady
    simp only [counted, clk, Clock.powerOn]
    split
    · exact ⟨none, aged_steady⟩
    · obtain ⟨g, charged⟩ := (numbered.log 8 (.powerOnCount numbered.clk.poc)).chargeGap_steady
      have numbered_steady : numbered.steady = { aged.steady with clk := { aged.clk with poc := (aged.clk.poc + 1) % 4294967296, pocCounted := true } } := rfl
      exact ⟨g, by rw [charged, State.log_steady, numbered_steady, aged_steady, ← clk]; rfl⟩
  clear_value erased relogged closed forgot pointed zs continued kept disagreed lost counted
  obtain ⟨g, counted_steady⟩ := counted_steady
  have tail : relogged.steady = counted.steady := relogged_steady.trans (closed_steady.trans (forgot_steady.trans (pointed_steady.trans
    (continued_steady.trans (kept_steady.trans (disagreed_steady.trans lost_steady))))))
  refine ⟨g, Eq.trans ?_ counted_steady⟩
  split
  · exact tail
  · exact erased_steady.trans tail

/-! ## Ready (R487, R488) -/

theorem State.becomeReady_core (s : State) : s.becomeReady.pwr.dev = .working ∧ s.becomeReady.start.stage = 8 ∧ s.becomeReady.pwr.stopped = false ∧
    s.becomeReady.start.clean = false ∧ s.becomeReady.pwr.readyFrame = s.clk.frame ∧ s.becomeReady.start.configReady = s.start.configReady := by
  unfold State.becomeReady State.readyCtrls
  dsimp only
  split <;> exact ⟨rfl, rfl, rfl, rfl, rfl, rfl⟩

theorem State.becomeReady_rdy (s : State) : ∀ f ∈ s.becomeReady.fns, f.ctrl.rdy = (f.ctrl.ccEn && (f.fn == 0 || f.state == .online) && ! f.ctrl.cfs) := by
  intro f mem
  obtain ⟨g, -, rfl⟩ := List.mem_map.1 mem
  rfl

/-- Stage 5 with both objects verified and nothing newer: nothing of them changes. -/
theorem execStageObjects_verified {s : State} {d : DriveRecord} {m : MediaProfile} (stage : s.inStage 5 = true) (drive : s.obj.drive = some d)
    (media : s.obj.media = some m) (noDrive : s.obj.nextDrive = none) (noMedia : s.obj.nextMedia = none) (driveOk : recordOk d = true)
    (mediaOk : s.profileOk m = true) : execStageObjects s = .next (s.modStart fun x => { x with configReady := true, stage := 6 }) := by
  have kept : (s.modObj fun b => { b with drive := some d, nextDrive := none, media := some m, nextMedia := none }) = s := by
    rw [← drive, ← media, ← noDrive, ← noMedia]
    rfl
  simp [execStageObjects, stage, drive, media, noDrive, noMedia, pickObject, driveOk, mediaOk, kept]
  rfl

/-- Stage 5 without a drive record: the device is unprovisioned and ready, with configuration requests answered. -/
theorem execStageObjects_unprovisioned {s : State} (stage : s.inStage 5 = true) (drive : s.obj.drive = none) (noDrive : s.obj.nextDrive = none) :
    ∃ u : State, execStageObjects s = .next u.becomeReady ∧ u.start.configReady = true ∧ u.obj.drive = none := by
  unfold execStageObjects
  rw [if_neg (by simp [stage]), drive, noDrive]
  generalize pickObject s.profileOk s.obj.nextMedia s.obj.media = media
  obtain ⟨m, nm⟩ := media
  refine ⟨_, rfl, rfl, ?_⟩
  rw [State.modStart_obj]
  split
  · rfl
  · exact congrArg (fun k : Steady => k.obj.drive) (each_steady _ (fun _ _ => State.raise_steady _ _ _ _ _ _) _ _)

theorem State.reportIncomplete_bearing (s : State) (w g l : Nat) : (s.reportIncomplete w g l).bearing = s.bearing := by
  unfold State.reportIncomplete
  split
  · rfl
  · exact State.raise_bearing _ _ _ _ _ _

/-- Stage 6 without a failed self-test: the furled masts come into service, and training leaves the clocks, the fuses and the masts' states. -/
theorem execStageMedia_passes {ces : List Nat} {s : State} (stage : s.inStage 6 = true) :
    ∃ t : State, execStageMedia [] ces [] s = .next t ∧ t.start.stage = 7 ∧ t.lasting = s.lasting ∧
      ∀ m, (t.mast m).state = ((each (s.mastIds.filter fun m => (s.mast m).state == .furled) (fun s m => s.mastUp m) s).mast m).state := by
  unfold execStageMedia
  rw [if_neg (by simp [stage])]
  extract_lets up ports trained powered reported
  have up_eq : up = each (s.mastIds.filter fun m => (s.mast m).state == .furled) (fun s m => s.mastUp m) s :=
    congrArg (each _ · s) (funext fun s => funext fun m => if_neg (by simp))
  have trained_bearing : trained.bearing = up.bearing := each_view State.bearing _ (fun _ _ => State.trainPort_bearing _ _ _ _) _ _
  have up_lasting : up.lasting = s.lasting := State.lasting_of_steady (each_steady _ (fun _ _ => State.mastUp_steady _ _) _ _)
  have trained_lasting : trained.lasting = up.lasting := each_view State.lasting _ (fun _ _ => State.trainPort_lasting _ _ _ _) _ _
  rw [← up_eq]
  clear_value trained up
  have reported_bearing : reported.bearing = powered.bearing := by
    refine each_view State.bearing _ (fun s w => ?_) _ _
    refine each_view State.bearing _ (fun s x => ?_) _ _
    exact State.reportIncomplete_bearing s w x.1 x.2
  have powered_lasting : powered.lasting = trained.lasting := rfl
  have reported_lasting : reported.lasting = powered.lasting := by
    refine State.lasting_of_steady (each_steady _ (fun s w => ?_) _ _)
    refine each_steady _ (fun s x => ?_) _ _
    exact State.reportIncomplete_steady s w x.1 x.2
  have masts : powered.bearing.1 = trained.bearing.1 := rfl
  have standing : reported.bearing.1 = up.bearing.1 :=
    (congrArg Prod.fst reported_bearing).trans (masts.trans (congrArg Prod.fst trained_bearing))
  refine ⟨_, rfl, rfl, reported_lasting.trans (powered_lasting.trans (trained_lasting.trans up_lasting)), fun m => ?_⟩
  clear_value reported powered
  have same : (reported.mast m).standing = (up.mast m).standing := by rw [State.mast_standing, State.mast_standing, standing]
  exact (Mast.of_standing same).1

/-- Stage 7 with a journal that verifies: the replay, the power-up test of the bank, and ready. -/
theorem execStageReplay_ready {s : State} (stage : s.inStage 7 = true) (missing : List (Nat × Nat)) (disagree : List (Nat × List Nat)) :
    ∃ (u : State) (g : Option (Nat × Nat)), execStageReplay true false missing disagree s = .next u.becomeReady ∧ u.fuses = s.fuses ∧
      u.clk = s.clk.powerOn g := by
  obtain ⟨g, replayed⟩ := (s.modMedia fun m => { m with newerMajor := false }).replay_steady missing disagree
  unfold execStageReplay
  rw [if_neg (by simp [stage]), if_neg (by decide), if_neg (by decide)]
  extract_lets back measured v1 tested
  have replayed : back.steady = _ := replayed
  clear_value back
  have tested_lasting : tested.lasting = back.lasting := by
    simp only [tested]
    split <;> rfl
  have warned : tested.earlyWarnings.lasting = back.lasting := (State.lasting_of_steady (State.earlyWarnings_steady _)).trans tested_lasting
  obtain ⟨fuses, clk, -⟩ := State.of_lasting warned
  exact ⟨_, g, rfl, fuses.trans (congrArg Steady.fuses replayed), clk.trans (congrArg Steady.clk replayed)⟩

theorem Clock.powerOn_frame (c : Clock) (g : Option (Nat × Nat)) : (c.powerOn g).frame = c.frame := by
  unfold Clock.powerOn
  split <;> rfl

/-- Settles O42, stage by stage. -/
theorem startUpStages : Obligations.StartUpStages := by
  refine ⟨fun s stage => ⟨?_, ?_⟩, fun s stage => ⟨?_, ?_⟩, fun d m s stage drive media noDrive noMedia driveOk mediaOk =>
      execStageObjects_verified stage drive media noDrive noMedia driveOk mediaOk, fun s stage drive noDrive => ?_, fun ces s stage masts => ?_,
    fun nm s stage => ?_, fun s stage => ?_, fun s => ?_, fun s starting on unfailed unfaulted none late => ⟨fun first => ?_, fun again => ?_⟩⟩
  · simp [exec, execStageRom, stage]
  · simp [exec, execStageRom, stage]
  · simp [exec, execStageOtp, stage]
  · simp [exec, execStageOtp, stage]
  · obtain ⟨u, ends, config, noRecord⟩ := execStageObjects_unprovisioned stage drive noDrive
    obtain ⟨dev, stage, -, -, -, kept⟩ := u.becomeReady_core
    exact ⟨_, ends, dev, stage, kept.trans config, (congrArg (fun k : Steady => k.obj.drive) u.becomeReady_steady).trans noRecord⟩
  · obtain ⟨t, ends, stage, lasting, states⟩ := execStageMedia_passes stage
    obtain ⟨fuses, clk, -⟩ := State.of_lasting lasting
    refine ⟨t, ends, stage, clk, fuses, fun m hm furled => ?_⟩
    have present : m < s.masts.length := by
      rw [masts]
      exact lt_of_lt_of_le hm (mastCount_le s.variant)
    rw [states]
    exact State.mastsUp_active _ _ _ present (.inl (List.mem_filter.2 ⟨List.mem_range.2 hm, beq_iff_eq.2 furled⟩))
  · simp [exec, execStageReplay, stage]
  · obtain ⟨u, g, ends, fuses, clk⟩ := execStageReplay_ready stage [] []
    obtain ⟨dev, stage, going, clean, -, -⟩ := u.becomeReady_core
    have ready := u.becomeReady_steady
    have clk : u.becomeReady.clk = s.clk.powerOn g := (congrArg Steady.clk ready).trans clk
    refine ⟨_, ends, dev, stage, going, (congrArg Steady.fuses ready).trans fuses, ?_, clean, fun uncounted => ?_⟩
    · rw [clk, Clock.powerOn_frame]
    · simp [clk, Clock.powerOn, uncounted]
  · obtain ⟨dev, stage, -, -, frame, -⟩ := s.becomeReady_core
    exact ⟨dev, stage, frame, s.becomeReady_rdy⟩
  · simp [exec, execStartupLimit, State.hcxOn, starting, on, unfailed, unfaulted, none, late, first]
  · simp [exec, execStartupLimit, State.hcxOn, starting, on, unfailed, unfaulted, none, late, again]

end Sys2Proof.Machine
end


section
/-! SUPPORT. What the release of data does not reach. Deleting, detaching and emptying namespaces end commands and jobs, release segments, write
records and tell partners; a view that none of those updates changes is left by all of it. The cards of the namespaces are one such view. -/

namespace Sys2Proof.Machine

/-- What the commands that manage namespaces decide of one: its identifier, format and owner, its attachments, and whether it is deleted. -/
structure NsCard where
  nsid : Nat
  origin : Nat
  zoneCount : Nat
  lbaf : Nat
  pi : Nat
  attached : List Nat
  deleted : Bool

def Namespace.card (n : Namespace) : NsCard :=
  { nsid := n.nsid, origin := n.origin, zoneCount := n.zoneCount, lbaf := n.lbaf, pi := n.pi, attached := n.attached, deleted := n.deleted }

def State.cards (s : State) : List NsCard := s.nss.map Namespace.card

/-- A view that the host port's updates leave, and those of media, LUNs, masts, events, jobs, the mailboxes, Halyard and the partners, and
those of a namespace that leave its card. -/
structure ReleaseBlind {α : Type} (view : State → α) : Prop extends HostBlind view where
  media (s : State) (f : Media → Media) : view (s.modMedia f) = view s
  luns (s : State) (f : List Lun → List Lun) : view (s.modLuns f) = view s
  masts (s : State) (f : List Mast → List Mast) : view (s.modMasts f) = view s
  start (s : State) (f : Startup → Startup) : view (s.modStart f) = view s
  evt (s : State) (f : Events → Events) : view (s.modEvt f) = view s
  fix (s : State) (f : Fixity → Fixity) : view (s.modFix f) = view s
  mbx (s : State) (f : Mailboxes → Mailboxes) : view (s.modMbx f) = view s
  hal (s : State) (f : Halyard → Halyard) : view (s.modHal f) = view s
  peer (s : State) (f : Peer → Peer) : view (s.modPeer f) = view s
  ns (s : State) (nsid : Nat) (f : Namespace → Namespace) (keeps : ∀ n, (f n).card = n.card) : view (s.modNs nsid f) = view s

section
variable {α : Type} {view : State → α} (h : ReleaseBlind view) (s : State)
include h

theorem ReleaseBlind.asyncEvent (f : Nat) (port1 : Bool) (info : Nat) : view (s.asyncEvent f port1 info) = view s := by
  unfold State.asyncEvent
  split
  · rfl
  · split
    · exact h.ctrl _ _ _ _
    · exact (h.postEntry _ _ _ _).trans (h.ctrl _ _ _ _)

theorem ReleaseBlind.noticeNs (fn nsid : Nat) : view (s.noticeNs fn nsid) = view s := by
  have first (t : State) (g : Ctrl → Ctrl) : view ((t.modCtrl fn false g).asyncEvent fn false 0x040002) = view t :=
    (h.asyncEvent _ _ _ _).trans (h.ctrl _ _ _ _)
  have second (t : State) (g : Ctrl → Ctrl) : view (t.modCtrl1 g) = view t := h.ctrl t 0 true g
  unfold State.noticeNs
  dsimp only
  split
  · exact (h.asyncEvent _ _ _ _).trans ((second _ _).trans (first _ _))
  · exact first _ _

theorem ReleaseBlind.log (j : Nat) (r : JRec) : view (s.log j r) = view s := (h.start _ _).trans (h.media _ _)
theorem ReleaseBlind.logZone (nsid zi : Nat) : view (s.logZone nsid zi) = view s := h.log _ _ _
theorem ReleaseBlind.logImage (n value : Nat) : view (s.logImage n value) = view s := h.log _ _ _
theorem ReleaseBlind.raise (source code severity : Nat) (args : List Nat) (fn : Nat) : view (s.raise source code severity args fn) = view s := by
  unfold State.raise
  split
  · rfl
  · exact h.evt _ _
theorem ReleaseBlind.modZone (nsid zi : Nat) (f : Zone → Zone) : view (s.modZone nsid zi f) = view s := h.ns _ _ _ fun _ => rfl

theorem ReleaseBlind.notifyZone (nsid zi : Nat) : view (s.notifyZone nsid zi) = view s := by
  have marked (g : Namespace → List Nat) : view (s.modNs nsid fun n => { n with changed := g n }) = view s := h.ns _ _ _ fun _ => rfl
  unfold State.notifyZone
  dsimp only
  split
  · exact marked _
  · refine (each_view view _ (fun s f => ?_) _ _).trans (marked _)
    split
    · exact (h.asyncEvent _ _ _ _).trans (h.asyncEvent _ _ _ _)
    · exact h.asyncEvent _ _ _ _

theorem ReleaseBlind.respond (via : Via) (r : Resp) : view (s.respond via r) = view s := by
  unfold State.respond
  split
  · rfl
  · dsimp only
    split
    · exact (h.emit _ _).trans (h.mbx _ _)
    · split
      · exact (h.interrupt _ _ _ _).trans (h.mbx _ _)
      · exact h.mbx _ _

theorem ReleaseBlind.releaseSegment (seq : Nat) : view (s.releaseSegment seq) = view s := by
  unfold State.releaseSegment
  split
  · rfl
  · refine (h.media _ _).trans ((each_view view _ (fun s mv => ?_) _ _).trans (each_view view _ (fun s q => ?_) _ _))
    · dsimp only
      split
      · rfl
      · exact (h.log _ _ _).trans (h.luns _ _)
    · dsimp only
      split
      · rfl
      · exact (h.log _ _ _).trans (h.luns _ _)

theorem ReleaseBlind.voidBlocks (c : Cmd) : view (s.voidBlocks c) = view s :=
  (h.modCmd _ _ _).trans ((h.dropReqs _ _).trans (h.media _ _))

theorem ReleaseBlind.abortCmd (c : Cmd) (st : NvmeStatus) : view (s.abortCmd c st) = view s := by
  have ended (t : State) : view (((t.dropReqs c.id).modCmd c.id fun c => { c with blocks := [], waitsFor := none }).conclude c.id st) = view t :=
    (h.conclude _ _ _ _ _ _).trans ((h.modCmd _ _ _).trans (h.dropReqs _ _))
  unfold State.abortCmd
  split
  case h_1 | h_2 | h_3 => rfl
  all_goals
    refine (ended _).trans ?_
    split
    · rfl
    · exact h.voidBlocks _ _

theorem ReleaseBlind.abortJobs (p : FixJob → Bool) (status : Nat) : view (s.abortJobs p status) = view s := by
  refine each_view view _ (fun s j => ?_) _ _
  unfold State.closeJob
  split
  · rfl
  · exact (h.raise _ _ _ _ _ _).trans (h.fix _ _)

theorem ReleaseBlind.retireRescue : view s.retireRescue = view s := by
  refine each_view view _ (fun s m => each_view view _ (fun s r => ?_) _ _) _ _
  split
  · rfl
  · exact h.log _ _ _

theorem ReleaseBlind.sealHeld (p : Stored → Bool) : view (s.sealHeld p) = view s := by
  refine each_view view _ (fun s b => ?_) _ _
  split
  · rfl
  · exact (h.media _ _).trans (h.masts _ _)

theorem ReleaseBlind.rescueRun (luns : List Nat) (id : Nat × Nat) (first : Bool) (l : List Stored) :
    view (s.rescueRun luns id first l) = view s := by
  unfold State.rescueRun
  split
  · rfl
  · exact each_view view _ (fun s _ => (h.media _ _).trans (h.masts _ _)) _ _

theorem ReleaseBlind.park (nsid zi : Nat) : view (s.park nsid zi) = view s :=
  (h.modZone _ _ _ _).trans ((each_view view _ (fun _ _ => (h.log _ _ _).trans (h.rescueRun _ _ _ _ _)) _ _).trans (h.sealHeld _ _))

theorem ReleaseBlind.setZone (nsid zi : Nat) (into : ZoneState) : view (s.setZone nsid zi into) = view s := by
  have entered : view ((s.modZone nsid zi fun z => { z with state := into }).logZone nsid zi) = view s :=
    (h.logZone _ _ _).trans (h.modZone _ _ _ _)
  unfold State.setZone
  dsimp only
  split
  · exact (h.park _ _ _).trans entered
  · exact entered

/-! Partners: packets, jobs and mirrors. -/

theorem ReleaseBlind.put (port : Nat) (k : TxPkt) : view (s.put port k) = view s := (h.emit _ _).trans (h.hal _ _)

theorem ReleaseBlind.sendOp (fp : Digest) (code : Nat) (args : List Nat) (packets : Nat) : view (s.sendOp fp code args packets) = view s := by
  unfold State.sendOp
  split
  · rfl
  · split
    · unfold State.tx
      dsimp only
      split
      · rfl
      · split
        · exact h.put _ _ _
        · split
          · exact (h.put _ _ _).trans (h.hal _ _)
          · exact h.hal _ _
    · rfl

theorem ReleaseBlind.dropHReqs (p : HReq → Bool) : view (s.dropHReqs p) = view s :=
  (each_view view _ (fun _ _ => h.hal _ _) _ _).trans (h.hal _ _)

theorem ReleaseBlind.releaseLanding (nsid : Nat) : view (s.releaseLanding nsid) = view s := h.ns _ _ _ fun _ => rfl

theorem ReleaseBlind.returnZone (nsid zi : Nat) : view (s.returnZone nsid zi) = view s := by
  unfold State.returnZone
  dsimp only
  split
  · rfl
  · exact (h.log _ _ _).trans (h.log _ _ _)

theorem ReleaseBlind.closePeerJob (j : Job) : view (s.closePeerJob j) = view s := by
  have dropped (g : Job → Job) : view ((s.dropHReqs (ofOp j.ident)).modJob j.ident g) = view s := (h.peer _ _).trans (h.dropHReqs _ _)
  unfold State.closePeerJob
  dsimp only
  split
  · exact dropped _
  · exact (h.releaseLanding _ _).trans ((each_view view _ (fun _ _ => h.returnZone _ _ _) _ _).trans (dropped _))

theorem ReleaseBlind.setJob (id : Nat) (st : JobState) (cause : Nat) : view (s.setJob id st cause) = view s :=
  (h.log _ _ _).trans ((h.raise _ _ _ _ _ _).trans (h.peer _ _))

theorem ReleaseBlind.stopJob (id cause : Nat) (tell : Bool) : view (s.stopJob id cause tell) = view s := by
  unfold State.stopJob
  split
  · rfl
  · split
    · rfl
    · refine (h.setJob _ _ _ _).trans ((h.closePeerJob _ _).trans ?_)
      split
      · exact h.sendOp _ _ _ _ _
      · rfl

theorem ReleaseBlind.ackWrite (id : Nat) : view (s.ackWrite id) = view s := by
  unfold State.ackWrite
  split
  · rfl
  · dsimp only
    rw [apply_ite view, h.conclude, ite_self]

theorem ReleaseBlind.endMirrorSource (m : Mirror) : view (s.endMirrorSource m) = view s :=
  calc view (s.endMirrorSource m)
    _ = _ := h.log _ _ _
    _ = _ := each_view view _ (fun _ _ => h.ackWrite _ _) _ _
    _ = _ := h.ns _ _ _ fun _ => rfl
    _ = _ := h.peer _ _
    _ = _ := h.dropHReqs _ _

theorem ReleaseBlind.releaseMirrorZones (m : Mirror) : view (s.releaseMirrorZones m) = view s := by
  refine (h.log _ _ _).trans ((h.peer _ _).trans ((h.releaseLanding _ _).trans ((each_view view _ (fun s z => ?_) _ _).trans (h.dropHReqs _ _))))
  split
  · rfl
  · split
    · exact h.returnZone _ _ _
    · exact h.setZone _ _ _ _

theorem ReleaseBlind.peerNsDeleted (nsid : Nat) : view (s.peerNsDeleted nsid) = view s := by
  unfold State.peerNsDeleted
  dsimp only
  refine (h.peer _ _).trans ((each_view view _ (fun s m => ?_) _ _).trans (each_view view _ (fun _ _ => h.stopJob _ _ _ _) _ _))
  split
  · exact (h.endMirrorSource _ _).trans (h.sendOp _ _ _ _ _)
  · exact (h.releaseMirrorZones _ _).trans (h.sendOp _ _ _ _ _)

/-! Zones and namespaces: the release of a zone, the shrink of capacity, and the emptying of a namespace. -/

theorem ReleaseBlind.commitRelease (nsid zi gen : Nat) (into : ZoneState) : view (s.commitRelease nsid zi gen into) = view s := by
  unfold State.commitRelease
  split
  · rfl
  · dsimp only
    split
    · rfl
    · refine (h.modZone _ _ _ _).trans ((h.retireRescue _).trans ((each_view view _ (fun _ _ => ?_) _ _).trans ?_))
      · exact (h.sendOp _ _ _ _ _).trans (h.peer _ _)
      · have released (t : State) (l : List Nat) : view (each l State.releaseSegment t) = view t :=
          each_view view _ (fun _ _ => h.releaseSegment _ _) _ _
        split
        · refine (h.sendOp _ _ _ _ _).trans ((h.peer _ _).trans ((h.media _ _).trans ((h.media _ _).trans ((released _ _).trans
            (each_view view _ (fun s c => ?_) _ _)))))
          split
          · exact h.conclude _ _ _ _ _ _
          · exact (h.conclude _ _ _ _ _ _).trans ((h.modCmd _ _ _).trans (h.dropReqs _ _))
        · refine (h.media _ _).trans ((h.media _ _).trans ((released _ _).trans (each_view view _ (fun s c => ?_) _ _)))
          split
          · exact h.conclude _ _ _ _ _ _
          · exact (h.conclude _ _ _ _ _ _).trans ((h.modCmd _ _ _).trans (h.dropReqs _ _))

theorem ReleaseBlind.shrinkOnce {t : State} (step : s.shrinkOnce = some t) : view t = view s := by
  unfold State.shrinkOnce at step
  dsimp only at step
  split at step
  · cases step
  · split at step
    · cases step
    · cases step
      exact (h.notifyZone _ _ _).trans ((h.raise _ _ _ _ _ _).trans ((h.logZone _ _ _).trans ((h.modZone _ _ _ _).trans (h.ns _ _ _ fun _ => rfl))))

theorem ReleaseBlind.shrinkLoop (fuel : Nat) : view (s.shrinkLoop fuel) = view s := by
  induction fuel generalizing s with
  | zero => rfl
  | succ fuel ih =>
    unfold State.shrinkLoop
    split
    · rfl
    · split
      · rfl
      next t step => exact (ih t).trans (h.shrinkOnce s step)

theorem ReleaseBlind.shrink : view s.shrink = view s := by
  unfold State.shrink
  dsimp only
  split
  · exact (h.raise _ _ _ _ _ _).trans ((h.media _ _).trans (h.shrinkLoop _ _))
  · split
    · exact (h.raise _ _ _ _ _ _).trans ((h.media _ _).trans (h.shrinkLoop _ _))
    · exact h.shrinkLoop _ _

theorem ReleaseBlind.emptyNamespace (final : Bool) (n : Namespace) : view (s.emptyNamespace final n) = view s := by
  have zones (l : List Zone) : view (each l (fun s z =>
      if z.state == .offline then
        (s.modNs n.nsid fun n => { n with reserved := n.reserved + n.segsPerZone * n.wmax }).modZone n.nsid z.zi fun z =>
          { zi := z.zi, cls := n.cls, gen := z.gen }
      else (s.commitRelease n.nsid z.zi z.gen .empty).logZone n.nsid z.zi) s) = view s := by
    refine each_view view _ (fun s z => ?_) _ _
    split
    · exact (h.modZone _ _ _ _).trans (h.ns _ _ _ fun _ => rfl)
    · exact (h.logZone _ _ _).trans (h.commitRelease _ _ _ _ _)
  unfold State.emptyNamespace
  dsimp only
  split
  · exact zones _
  · refine (h.ns _ _ _ ?_).trans ((h.media _ _).trans ((h.media _ _).trans
      ((each_view view _ (fun _ _ => h.releaseSegment _ _) _ _).trans (zones _))))
    exact fun _ => rfl

theorem ReleaseBlind.emptyAll (final : Bool) (p : Namespace → Bool) : view (s.emptyAll final p) = view s :=
  (h.shrink _).trans (each_view view _ (fun _ _ => h.emptyNamespace _ _ _) _ _)
end

/-! Two such views: the cards, and what a Crypto Erase sets first. -/

theorem map_card_updIf (p : Namespace → Bool) {f : Namespace → Namespace} (keeps : ∀ n, (f n).card = n.card) (l : List Namespace) :
    (updIf p f l).map Namespace.card = l.map Namespace.card := by
  induction l with
  | nil => rfl
  | cons n l ih =>
    simp only [updIf, List.map_cons, List.map_map] at ih ⊢
    rw [ih]
    split
    · rw [keeps]
    · rfl

theorem State.cards_releaseBlind : ReleaseBlind State.cards where
  io _ _ := rfl
  ctrl s f port1 g := by unfold State.modCtrl; split <;> rfl
  counters _ _ _ := rfl
  emit _ _ := rfl
  media _ _ := rfl
  luns _ _ := rfl
  masts _ _ := rfl
  start _ _ := rfl
  evt _ _ := rfl
  fix _ _ := rfl
  mbx _ _ := rfl
  hal _ _ := rfl
  peer _ _ := rfl
  ns s _ _ keeps := map_card_updIf _ keeps s.nss

/-- What a Crypto Erase sets before it empties the media: fuses, keys and the power state. -/
def State.secrets (s : State) : Fuses × Keys × Power := (s.fuses, s.keys, s.pwr)

theorem State.secrets_releaseBlind : ReleaseBlind State.secrets where
  io _ _ := rfl
  ctrl s f port1 g := by unfold State.modCtrl; split <;> rfl
  counters _ _ _ := rfl
  emit _ _ := rfl
  media _ _ := rfl
  luns _ _ := rfl
  masts _ _ := rfl
  start _ _ := rfl
  evt _ _ := rfl
  fix _ _ := rfl
  mbx _ _ := rfl
  hal _ _ := rfl
  peer _ _ := rfl
  ns _ _ _ _ := rfl

end Sys2Proof.Machine
end


section
/-! SUPPORT. What becomes of the namespaces (R103, R317 to R320): creation, attachment, detachment and deletion, read off their cards. -/

namespace Sys2Proof.Machine

/-- The card of the namespace that an identifier finds. -/
def State.card? (s : State) (x : Nat) : Option NsCard := s.cards.find? (·.nsid == x)

theorem State.ns?_card (s : State) (x : Nat) : (s.ns? x).map Namespace.card = s.card? x := by
  simp only [State.card?, State.cards, List.find?_map]
  rfl

theorem State.card?_congr {s t : State} (h : s.cards = t.cards) (x : Nat) : s.card? x = t.card? x := by
  rw [State.card?, State.card?, h]

theorem State.modNs_card? (s : State) (id x : Nat) {f : Namespace → Namespace} {g : NsCard → NsCard} (same : ∀ n, (f n).nsid = n.nsid)
    (reads : ∀ n, (f n).card = g n.card) : (s.modNs id f).card? x = (s.card? x).map fun k => if k.nsid == id then g k else k := by
  have found : (s.modNs id f).ns? x = (s.ns? x).map fun n => if n.nsid == id then f n else n := by
    simp only [State.ns?, State.modNs, State.modNss, updIf, List.find?_map]
    congr 2
    funext n
    dsimp only [Function.comp]
    split
    · rw [same]
    · rfl
  simp only [← State.ns?_card, found, Option.map_map]
  congr 1
  funext n
  dsimp only [Function.comp]
  rw [apply_ite Namespace.card, reads]
  rfl

/-! Creation. -/

/-- The card that a creation request asks for. -/
def NsRequest.card (r : NsRequest) (id : Nat) : NsCard :=
  { nsid := id, origin := r.origin, zoneCount := r.zones, lbaf := r.lbaf, pi := if r.pi == 0 then 1 else r.pi, attached := [], deleted := false }

/-- A check that passed. -/
theorem eq_of_ite_eq {α : Type} {c : Prop} [Decidable c] {a b x : α} (h : (if c then a else b) = x) (ne : a ≠ x) : b = x := by
  split at h
  · exact absurd h ne
  · exact h

theorem State.createNs_card {s t : State} {r : NsRequest} {id comp : Nat} (made : s.createNs r = (t, .ok (id, comp))) : r.card id ∈ t.cards := by
  unfold State.createNs at made
  extract_lets p pi segs wmax permitted room active opn count bad home cw blocks convBlocks ids nsid companion n s₁ k s₂ at made
  have refused (e : Resp) : bad e ≠ (t, .ok (id, comp)) := fun h => by cases congrArg Prod.snd h
  iterate 5 replace made := eq_of_ite_eq made (refused _)
  cases checked : s.classSetBad wmax r.cls permitted 10 12 with
  | some e => rw [checked] at made; exact absurd made (refused e)
  | none =>
  rw [checked] at made
  iterate 8 replace made := eq_of_ite_eq made (refused _)
  have kept : t.cards = s₂.cards := by
    have e : t = (s₂.log 8 (.setting 0x00F0000A nsid 1)).shrink := (congrArg Prod.fst made).symm
    rw [e]
    exact (State.cards_releaseBlind.shrink _).trans (State.cards_releaseBlind.log _ _ _)
  have named : nsid = id := by
    have e := congrArg Prod.snd made
    simp at e
    exact e.1
  have first : r.card id ∈ s₁.cards := by
    simp [s₁, State.cards, State.modNss]
    exact .inr (by rw [← named]; rfl)
  rw [kept]
  by_cases alone : companion.isNone
  · simpa [s₂, alone] using first
  · simp only [s₂, alone]
    exact List.mem_map.mpr (by
      obtain ⟨m, hm, e⟩ := List.mem_map.mp first
      exact ⟨m, List.mem_append_left _ hm, e⟩)

theorem State.nvmeCreate_ok {s t : State} {csi z k l p id : Nat} (made : s.nvmeCreate csi z k l p = (t, stOk, id)) :
    ∃ comp, s.createNs { origin := 0, lbaf := l, pi := p, zones := z / zoneSizeOf s.profile s.widest 1 } = (t, .ok (id, comp)) := by
  unfold State.nvmeCreate at made
  dsimp only at made
  split at made
  · cases congrArg (·.2.1) made
  · split at made
    next u id' comp e =>
      cases made
      exact ⟨comp, e⟩
    next u e _ =>
      have status := congrArg (·.2.1) made
      dsimp only at status
      split at status
      · cases status
      · split at status <;> cases status

/-! Attachment. -/

/-- A namespace's card after each of the pair took an update and was told of it. -/
theorem State.eachPair_card? {s : State} {n : Namespace} {f : Nat} {u : Namespace → Namespace} {g : NsCard → NsCard} {k : NsCard}
    (same : ∀ n, (u n).nsid = n.nsid) (reads : ∀ n, (u n).card = g n.card) (P : NsCard → Prop) (takes : ∀ k, P (g k))
    (found : s.card? n.nsid = some k) :
    ∃ m, (each n.pair (fun s id => (s.modNs id u).noticeNs f id) s).card? n.nsid = some m ∧ P m := by
  have step (t : State) (id : Nat) : ((t.modNs id u).noticeNs f id).card? n.nsid =
      (t.card? n.nsid).map fun k => if k.nsid == id then g k else k :=
    (State.card?_congr (State.cards_releaseBlind.noticeNs _ _ _) _).trans (State.modNs_card? _ _ _ same reads)
  have own : k.nsid = n.nsid := by simpa using List.find?_some found
  cases alone : n.companion with
  | none => exact ⟨g k, by simp [Namespace.pair, alone, each, step, found, own], takes k⟩
  | some id =>
    refine ⟨_, by simp [Namespace.pair, alone, each, step, found, own]; rfl, ?_⟩
    split
    · exact takes _
    · exact takes _

theorem State.attachPair_card? {s : State} {n : Namespace} {f : Nat} {k : NsCard} (found : s.card? n.nsid = some k) :
    ∃ m, (s.attachPair n f).card? n.nsid = some m ∧ f ∈ m.attached := by
  obtain ⟨m, at_, has⟩ := State.eachPair_card? (f := f) (u := fun n => { n with attached := dedupN (n.attached ++ [f]) })
    (g := fun k => { k with attached := dedupN (k.attached ++ [f]) }) (fun _ => rfl) (fun _ => rfl) (fun k => f ∈ k.attached)
    (fun k => mem_dedupN.mpr (List.mem_append_right _ (List.mem_singleton.mpr rfl))) found
  exact ⟨m, (State.card?_congr (State.cards_releaseBlind.log _ _ _) _).trans at_, has⟩

theorem State.detachPair_card? {s : State} {n : Namespace} {f : Nat} {k : NsCard} (found : s.card? n.nsid = some k) :
    ∃ m, (s.detachPair n f).card? n.nsid = some m ∧ f ∉ m.attached := by
  obtain ⟨m, at_, has⟩ := State.eachPair_card? (f := f) (u := fun n => { n with attached := n.attached.filter (· != f) })
    (g := fun k => { k with attached := k.attached.filter (· != f) }) (fun _ => rfl) (fun _ => rfl) (fun k => f ∉ k.attached)
    (fun k => by simp) found
  exact ⟨m, (State.card?_congr ((State.cards_releaseBlind.log _ _ _).trans (State.cards_releaseBlind.abortJobs _ _ _)) _).trans at_, has⟩

theorem State.ns?_of_card? {s : State} {x : Nat} {k : NsCard} (found : s.card? x = some k) : ∃ n, s.ns? x = some n ∧ n.card = k := by
  rw [← State.ns?_card] at found
  exact Option.map_eq_some_iff.mp found

theorem State.card?_of_ns? {s : State} {x : Nat} {n : Namespace} (found : s.ns? x = some n) : s.card? x = some n.card := by
  rw [← State.ns?_card, found]
  rfl

section
variable {s : State} {n : Namespace} {f : Nat} (found : s.ns? n.nsid = some n) (isCtrl : f ≤ 128)
include found isCtrl

theorem State.nvmeAttach_one : s.nvmeAttach n.nsid [f] = if n.attached.contains f then (s, stNsAttached)
    else if s.attachable n f then (s.attachPair n f, stOk) else (s, stNsPrivate) := by
  simp only [State.nvmeAttach, found]
  simp [State.fnOfCtrl, isCtrl, dedupN, each]
  split
  · rfl
  · cases s.attachable n f <;> rfl

theorem State.nvmeDetach_one : s.nvmeDetach n.nsid [f] = if n.attached.contains f then (s.detachPair n f, stOk) else (s, stNsNotAttached) := by
  simp only [State.nvmeDetach, found]
  simp [State.fnOfCtrl, isCtrl, dedupN, each]
end

/-! Deletion: from the moment that a namespace is marked deleted, every card of its identifier says so, and none lists an attachment. -/

/-- Every card with an identifier is of a deleted namespace that is attached to nothing. -/
def AllDeleted (x : Nat) (l : List NsCard) : Prop := ∀ k ∈ l, k.nsid = x → k.deleted = true ∧ k.attached = []

theorem State.purgeNs_cards (s : State) (nsid : Nat) : (s.purgeNs nsid).cards ⊆ s.cards := by
  have filtered (t : State) (p : Namespace → Bool) : (t.modNss fun l => l.filter p).cards ⊆ t.cards := fun k hk => by
    obtain ⟨n, hn, e⟩ := List.mem_map.mp hk
    exact List.mem_map.mpr ⟨n, (List.mem_filter.mp hn).1, e⟩
  unfold State.purgeNs
  split
  · exact List.Subset.refl _
  · split
    · exact List.Subset.refl _
    · have kept {t : State} (h : t.cards = s.cards) : t.cards ⊆ s.cards := h ▸ List.Subset.refl _
      exact List.Subset.trans (filtered _ _) <| kept <| (State.cards_releaseBlind.media _ _).trans ((State.cards_releaseBlind.media _ _).trans
        ((each_view State.cards _ (fun _ _ => State.cards_releaseBlind.releaseSegment _ _) _ _).trans
          (each_view State.cards _ (fun _ _ => State.cards_releaseBlind.commitRelease _ _ _ _ _) _ _)))

theorem State.eachPurge_cards (l : List Nat) (s : State) : (each l State.purgeNs s).cards ⊆ s.cards := by
  induction l generalizing s with
  | nil => exact List.Subset.refl _
  | cons x l ih => exact List.Subset.trans (ih _) (s.purgeNs_cards x)

/-- The mark that a deletion leaves on a namespace. -/
def Namespace.delete (n : Namespace) : Namespace := { n with deleted := true, attached := [], reserved := 0, bound := .none, landing := false }

theorem State.modNs_delete_allDeleted {s : State} {id x : Nat} (h : id = x ∨ AllDeleted x s.cards) : AllDeleted x (s.modNs id Namespace.delete).cards := by
  intro k hk own
  obtain ⟨m, hm, rfl⟩ := List.mem_map.mp hk
  obtain ⟨n, hn, rfl⟩ := List.mem_map.mp hm
  by_cases hit : n.nsid = id
  · simp [hit, Namespace.delete, Namespace.card]
  · simp only [hit, beq_iff_eq, if_false] at own ⊢
    rcases h with rfl | all
    · exact absurd own hit
    · exact all _ (List.mem_map_of_mem hn) own

theorem State.eachDelete_allDeleted (x : Nat) (l : List Nat) (s : State) : AllDeleted x (each (x :: l) (fun s id => s.modNs id Namespace.delete) s).cards := by
  have first : AllDeleted x (s.modNs x Namespace.delete).cards := State.modNs_delete_allDeleted (.inl rfl)
  show AllDeleted x (each l (fun s id => s.modNs id Namespace.delete) (s.modNs x Namespace.delete)).cards
  generalize s.modNs x Namespace.delete = t at first
  induction l generalizing t with
  | nil => exact first
  | cons id l ih => exact ih _ (State.modNs_delete_allDeleted (.inr first))

theorem State.deleteNs_allDeleted (s : State) (n : Namespace) : AllDeleted n.nsid (s.deleteNs n).cards := by
  have marked (t : State) (g : List Fn → List Fn) (r : JRec) : AllDeleted n.nsid
      (each n.pair State.purgeNs (((each n.pair (fun s id => s.modNs id Namespace.delete) t).modFns g).log 8 r)).shrink.cards := by
    intro k hk
    rw [State.cards_releaseBlind.shrink] at hk
    have before := State.eachPurge_cards _ _ hk
    rw [State.cards_releaseBlind.log] at before
    exact State.eachDelete_allDeleted n.nsid n.companion.toList t k before
  exact marked _ _ _

theorem AllDeleted.ns? {s : State} {x : Nat} (h : AllDeleted x s.cards) : (s.ns? x).all (fun m => m.deleted && m.attached.isEmpty) = true := by
  cases found : s.ns? x with
  | none => rfl
  | some m =>
    obtain ⟨gone, alone⟩ := h m.card (List.mem_map_of_mem (List.mem_of_find?_eq_some found)) (by simpa [Namespace.card] using List.find?_some found)
    have gone' : m.deleted = true := gone
    have alone' : m.attached = [] := alone
    simp [gone', alone']

end Sys2Proof.Machine
end


section
/-! SUPPORT. The entries that wait at the host port. Only a fetch, a doorbell and the end of a queue touch them: a completion does not, nor does an
abort (R392, R395). -/

namespace Sys2Proof.Machine
section
variable (s : State)

@[simp] theorem State.modCtrl_io (f : Nat) (port1 : Bool) (g : Ctrl → Ctrl) : (s.modCtrl f port1 g).io = s.io := by
  unfold State.modCtrl
  split <;> rfl

theorem State.interrupt_io (f : Nat) (port1 : Bool) (v : Nat) : (s.interrupt f port1 v).io = s.io := by
  unfold State.interrupt
  split
  · rfl
  · split
    · exact s.modCtrl_io _ _ _
    · rfl

theorem State.cqInterrupt_io (f : Nat) (port1 : Bool) (cq : Cq) : (s.cqInterrupt f port1 cq).io = s.io := by
  unfold State.cqInterrupt
  split
  · rfl
  · dsimp only
    split
    · split
      · rfl
      · exact s.modCtrl_io _ _ _
    · exact s.interrupt_io _ _ _

theorem State.postEntry_io (f : Nat) (port1 : Bool) (e : Cqe) : (s.postEntry f port1 e).io = s.io := by
  unfold State.postEntry
  dsimp only
  split
  · rfl
  · split
    · rfl
    · exact (State.cqInterrupt_io _ _ _ _).trans (s.modCtrl_io _ _ _)

theorem State.tryPost_submitted (id : Nat) : (s.tryPost id).io.submitted = s.io.submitted := by
  unfold State.tryPost
  split
  · rfl
  · split
    · rfl
    · exact (congrArg HostIo.submitted (State.postEntry_io _ _ _ _)).trans rfl

theorem State.deliver_submitted (id : Nat) (data : List HostBlock) : (s.deliver id data).io.submitted = s.io.submitted := by
  unfold State.deliver
  split
  · rfl
  next c _ =>
    split
    · exact s.tryPost_submitted id
    · split
      · rfl
      · have sent : (each data (fun s x => s.emit (.hostWrite c.fn c.cid x.1 x.2.1 x.2.2)) s).io = s.io :=
          each_view State.io (fun s x => s.emit (.hostWrite c.fn c.cid x.1 x.2.1 x.2.2)) (fun _ _ => rfl) data s
        split
        · exact (congrArg HostIo.submitted sent :)
        · exact (congrArg HostIo.submitted sent :)

theorem State.conclude_submitted (id : Nat) (st : NvmeStatus) (data : List HostBlock) (result : Nat) (lba : Option Nat) :
    (s.conclude id st data result lba).io.submitted = s.io.submitted := by
  have ready (t : State) (c : Cmd) :
      (if t.delays c then t.modCmd id fun c => { c with phase := .ready } else t.deliver id data).io.submitted = t.io.submitted := by
    split
    · rfl
    · exact t.deliver_submitted _ _
  unfold State.conclude
  split
  · rfl
  · refine (ready _ _).trans ?_
    split
    · split
      · exact (congrArg HostIo.submitted (State.modCtrl_io _ _ _ _)).trans rfl
      · rfl
    · rfl

theorem State.abortCmd_submitted (c : Cmd) (st : NvmeStatus) : (s.abortCmd c st).io.submitted = s.io.submitted := by
  unfold State.abortCmd
  split
  case h_1 | h_2 | h_3 => rfl
  all_goals
    refine (State.conclude_submitted _ _ _ _ _ _).trans ?_
    split <;> rfl
end

/-- The controller after an update of it. -/
theorem State.modCtrl_ctrl_same {s : State} {f : Nat} (h : f < s.fns.length) (port1 : Bool) (g : Ctrl → Ctrl) :
    (s.modCtrl f port1 g).ctrl f port1 = g (s.ctrl f port1) := by
  by_cases second : port1 && f == 0
  · simp only [State.modCtrl, State.ctrl, second, if_true]
    rfl
  · simp only [State.modCtrl, State.ctrl, second]
    exact congrArg Fn.ctrl (s.modFn_fn_same f _ h)

section
variable {s : State} {c : Cmd} {qid : Nat} (named : 0 < qid) (stands : ((s.ctrl c.fn c.port1).sqs.any fun x => x.qid == qid) = true)
include named stands

/-- What a queue that ends leaves of the waiting entries and of the queues. -/
theorem State.deleteSq_ends : ∃ t : State, t.io.submitted = s.io.submitted.filter (! waitsIn c.fn qid c.port1 ·) ∧ t.fns.length = s.fns.length ∧
    s.deleteSq c qid = (t.modCtrl c.fn c.port1 fun k => { k with sqs := k.sqs.filter (·.qid != qid) }, stOk) := by
  refine ⟨_, ?_, ?_, if_neg (by simp [Nat.ne_of_gt named, stands])⟩
  · exact (each_view (fun s => s.io.submitted) State.dropCmd (fun _ _ => rfl) _ _).trans
      (each_view (fun s => s.io.submitted) _ (fun s x => s.abortCmd_submitted x _) _ _)
  · exact (each_view (fun s => s.fns.length) State.dropCmd (fun s x => congrArg Shape.fns (s.dropCmd_shape x)) _ _).trans
      (each_view (fun s => s.fns.length) _ (fun s x => congrArg Shape.fns (s.abortCmd_shape x _)) _ _)

theorem State.deleteSq_leaves (real : c.fn < s.fns.length) : (s.deleteSq c qid).2 = stOk ∧
    (∀ q ∈ ((s.deleteSq c qid).1.ctrl c.fn c.port1).sqs, q.qid ≠ qid) ∧ ∀ x ∈ (s.deleteSq c qid).1.io.submitted, waitsIn c.fn qid c.port1 x = false := by
  obtain ⟨t, left, fns, ends⟩ := State.deleteSq_ends named stands
  rw [ends]
  refine ⟨rfl, fun q hq => ?_, fun x hx => ?_⟩
  · rw [State.modCtrl_ctrl_same (fns.symm ▸ real)] at hq
    simpa using (List.mem_filter.mp hq).2
  · rw [State.modCtrl_io, left] at hx
    simpa using (List.mem_filter.mp hx).2
end

end Sys2Proof.Machine
end


section
/-! SUPPORT. The Crypto Erase (R308): the work that it ends, the keys that it empties and the epoch that it advances. -/

namespace Sys2Proof.Machine

/-- The work that a Crypto Erase ends before it touches the keys. -/
def State.endAllWork (s : State) (self : Nat) : State :=
  let s := s.modPwr fun p => { p with stopped := true }
  let s := each (s.io.cmds.filter (·.id != self)) (fun s c => s.abortCmd c) s
  let s := s.abortJobs (fun _ => true) 0x0805
  let s := each s.mbx.order (fun s v => s.respond v (errR 0x0805)) s
  each (s.peer.jobs.filter Job.live) (fun s j => s.stopJob j.ident 0x0805) s

theorem State.endAllWork_secrets (s : State) (self : Nat) :
    (s.endAllWork self).secrets = (s.fuses, s.keys, { s.pwr with stopped := true }) := by
  have h := State.secrets_releaseBlind
  exact (each_view State.secrets _ (fun s (j : Job) => h.stopJob s j.ident 0x0805 true) _ _).trans
    ((each_view State.secrets _ (fun s v => h.respond s v _) _ _).trans ((h.abortJobs _ _ _).trans
      (each_view State.secrets _ (fun s c => h.abortCmd s c _) _ _)))

/-- The data slots of a device after a Crypto Erase. -/
def Keys.erased (k : Keys) : Keys := { k with
  slots := k.slots.map fun x => if dataSlot x.number && x.state != .empty then
    { number := x.number, owner := x.owner, generation := x.generation + 1 } else x
  exports := [] }

theorem Keys.erased_slots {k : Keys} {x : Slot} (h : x ∈ k.erased.slots) (data : dataSlot x.number = true) : x.state = .empty := by
  obtain ⟨y, -, rfl⟩ := List.mem_map.mp h
  by_cases filled : (dataSlot y.number && y.state != .empty) = true
  · simp only [filled, if_true]
  · simp only [filled] at data ⊢
    simpa [show dataSlot y.number = true from data] using filled

section
variable {s : State} (more : s.fuses.vaultEpoch < 32) (idle : s.start.sanitize = none) (self : Nat)
include more idle

theorem State.cryptoErase_leaves : ∃ (t : State) (left : List (Nat × Nat)),
    s.cryptoErase self = (t.modStart fun x => { x with sanitize := some left, sanitized := false }, stOk) ∧
    t.secrets = ({ s.fuses with vaultEpoch := s.fuses.vaultEpoch + 1 }, s.keys.erased, { s.pwr with stopped := true }) := by
  have h := State.secrets_releaseBlind
  unfold State.cryptoErase
  rw [if_neg (Nat.not_le.mpr more), if_neg (by simp [idle])]
  extract_lets stopped aborted ended answered worked used keyed swept burnt marked imaged old emptied left
  have work : worked.secrets = (s.fuses, s.keys, { s.pwr with stopped := true }) := s.endAllWork_secrets self
  clear_value worked
  have burns : burnt.secrets = ({ worked.fuses with vaultEpoch := worked.fuses.vaultEpoch + 1 }, worked.keys.erased, worked.pwr) := rfl
  have images {α : Type} (l : List α) (slot gen : α → Nat) (t : State) :
      (each l (fun s k => s.logImage (slot k) (gen k)) t).secrets = t.secrets :=
    each_view State.secrets (fun s k => s.logImage (slot k) (gen k)) (fun s k => h.logImage s (slot k) (gen k)) l t
  have leaves : emptied.secrets = burnt.secrets := (h.emptyAll _ _ _).trans ((images _ _ _ _).trans (images _ _ _ _))
  refine ⟨emptied, left, rfl, leaves.trans (burns.trans ?_)⟩
  obtain ⟨fuses, keys, pwr⟩ : worked.fuses = s.fuses ∧ worked.keys = s.keys ∧ worked.pwr = { s.pwr with stopped := true } :=
    ⟨congrArg (·.1) work, congrArg (·.2.1) work, congrArg (·.2.2) work⟩
  rw [fuses, keys, pwr]
end

theorem State.start_hostBlind : HostBlind State.start where
  io _ _ := rfl
  ctrl s f port1 g := by unfold State.modCtrl; split <;> rfl
  counters _ _ _ := rfl
  emit _ _ := rfl

theorem State.cryptoErase_ends {s : State} (c : Cmd) (more : s.fuses.vaultEpoch < 32) (idle : s.start.sanitize = none) :
    (endAdmin c (s.cryptoErase c.id)).fuses.vaultEpoch = s.fuses.vaultEpoch + 1 ∧ (endAdmin c (s.cryptoErase c.id)).start.sanitize.isSome = true ∧
      (endAdmin c (s.cryptoErase c.id)).keys.exports = [] ∧ (endAdmin c (s.cryptoErase c.id)).pwr.stopped = true ∧
      ∀ k ∈ (endAdmin c (s.cryptoErase c.id)).keys.slots, dataSlot k.number = true → k.state = .empty := by
  obtain ⟨t, left, erases, secrets⟩ := State.cryptoErase_leaves more idle c.id
  rw [erases]
  have ends : (endAdmin c (t.modStart fun x => { x with sanitize := some left, sanitized := false }, stOk)).secrets = _ :=
    (State.secrets_releaseBlind.conclude _ _ _ _ _ _).trans secrets
  have start := State.start_hostBlind.conclude (t.modStart fun x => { x with sanitize := some left, sanitized := false }) c.id stOk [] 0 none
  refine ⟨congrArg (fun x => x.1.vaultEpoch) ends, congrArg (fun x : Startup => x.sanitize.isSome) start, congrArg (fun x => x.2.1.exports) ends,
    congrArg (fun x => x.2.2.stopped) ends, fun k hk data => Keys.erased_slots (k := s.keys) ?_ data⟩
  exact congrArg (fun x => x.2.1.slots) ends ▸ hk

end Sys2Proof.Machine
end


section
/-! SUPPORT. The effect of each admin command row, and the cases of what it looks up (R61, R98, R308, R311, R315, R319, R320, R392, R393, R395). -/

namespace Sys2Proof.Machine

/-! What a row of the table runs. -/

section
variable {s : State} {c : Cmd} {h : NvmeHdr}

theorem State.runAdmin_refused (only : managerOnly c.op = true) (inst : c.fn ≠ 0) : s.runAdmin c = s.conclude c.id stInvalidOpcode :=
  if_pos (by simp [only, inst])

theorem State.runAdmin_identify_ok {cns csi : Nat} {l : List Nat} (op : c.op = .identify h cns csi) (gives : s.identify c cns csi = .ok l) :
    s.runAdmin c = s.giveData c.id l := by
  cases c; cases op
  show (match s.identify _ _ _ with | .ok _ => _ | .error _ => _) = _
  rw [gives]
theorem State.runAdmin_identify_error {cns csi : Nat} {st : NvmeStatus} (op : c.op = .identify h cns csi)
    (fails : s.identify c cns csi = .error st) : s.runAdmin c = s.conclude c.id st := by
  cases c; cases op
  show (match s.identify _ _ _ with | .ok _ => _ | .error _ => _) = _
  rw [fails]

theorem State.runAdmin_getLogPage_ok {lid : Nat} {t : State} {l : List Nat} (op : c.op = .getLogPage h lid) (gives : s.logPage c lid = .ok (t, l)) :
    s.runAdmin c = t.giveData c.id l := by
  cases c; cases op
  show (match s.logPage _ _ with | .ok (_, _) => _ | .error _ => _) = _
  rw [gives]
theorem State.runAdmin_getLogPage_error {lid : Nat} {st : NvmeStatus} (op : c.op = .getLogPage h lid) (fails : s.logPage c lid = .error st) :
    s.runAdmin c = s.conclude c.id st := by
  cases c; cases op
  show (match s.logPage _ _ with | .ok (_, _) => _ | .error _ => _) = _
  rw [fails]

theorem State.runAdmin_getFeatures_ok {fid r : Nat} {l : List Nat} (op : c.op = .getFeatures h fid) (gives : s.getFeature c fid = .ok (r, l)) :
    s.runAdmin c = s.giveData c.id l r := by
  cases c; cases op
  show (match s.getFeature _ _ with | .ok (_, _) => _ | .error _ => _) = _
  rw [gives]
theorem State.runAdmin_getFeatures_error {fid : Nat} {st : NvmeStatus} (op : c.op = .getFeatures h fid) (fails : s.getFeature c fid = .error st) :
    s.runAdmin c = s.conclude c.id st := by
  cases c; cases op
  show (match s.getFeature _ _ with | .ok (_, _) => _ | .error _ => _) = _
  rw [fails]

theorem State.runAdmin_setFeatures {fid v : Nat} (op : c.op = .setFeatures h fid v) : s.runAdmin c =
    (s.setFeature c fid v).1.conclude c.id (s.setFeature c fid v).2.1 [] (s.setFeature c fid v).2.2 := by
  cases c; cases op; rfl
theorem State.runAdmin_setFeaturesPowerManagement {ps : Nat} (op : c.op = .setFeaturesPowerManagement h ps) : s.runAdmin c =
    (s.setFeature c 0x02 ps).1.conclude c.id (s.setFeature c 0x02 ps).2.1 [] (s.setFeature c 0x02 ps).2.2 := by
  cases c; cases op; rfl
theorem State.runAdmin_setFeaturesTimestamp {ms : Nat} (op : c.op = .setFeaturesTimestamp h ms) : s.runAdmin c =
    if c.fn != 0 then s.conclude c.id stNotChangeable
    else (effSetTime (ms / 1000) (ms % 1000 * 2 ^ 32 / 1000) s).1.conclude c.id
      (if (effSetTime (ms / 1000) (ms % 1000 * 2 ^ 32 / 1000) s).2.status == 0 then stOk else stInvalidField) := by
  cases c; cases op; rfl

theorem State.runAdmin_createIoSubmissionQueue {q z cq : Nat} {k a : Bool} (op : c.op = .createIoSubmissionQueue h q z cq k a) :
    s.runAdmin c = endAdmin c (s.createSq c q z cq k a) := by
  cases c; cases op; rfl
theorem State.runAdmin_createIoCompletionQueue {q z v : Nat} {i k a : Bool} (op : c.op = .createIoCompletionQueue h q z v i k a) :
    s.runAdmin c = endAdmin c (s.createCq c q z v i k a) := by
  cases c; cases op; rfl
theorem State.runAdmin_deleteIoSubmissionQueue {q : Nat} (op : c.op = .deleteIoSubmissionQueue h q) :
    s.runAdmin c = endAdmin c (s.deleteSq c q) := by
  cases c; cases op; rfl
theorem State.runAdmin_deleteIoCompletionQueue {q : Nat} (op : c.op = .deleteIoCompletionQueue h q) :
    s.runAdmin c = endAdmin c (s.deleteCq c q) := by
  cases c; cases op; rfl
theorem State.runAdmin_abort {sq cid : Nat} (op : c.op = .abort h sq cid) :
    s.runAdmin c = (s.abortOf c sq cid).1.conclude c.id stOk [] (s.abortOf c sq cid).2 := by
  cases c; cases op; rfl
theorem State.runAdmin_asynchronousEventRequest (op : c.op = .asynchronousEventRequest h) : s.runAdmin c = s.eventRequest c := by
  cases c; cases op; rfl

section
variable (manager : c.fn = 0)
include manager

theorem State.runAdmin_namespaceManagementCreate {csi z k l p : Nat} (op : c.op = .namespaceManagementCreate h csi z k l p) :
    s.runAdmin c = (s.nvmeCreate csi z k l p).1.conclude c.id (s.nvmeCreate csi z k l p).2.1 [] (s.nvmeCreate csi z k l p).2.2 := by
  cases c; cases op; cases manager; rfl
theorem State.runAdmin_namespaceManagementDelete (op : c.op = .namespaceManagementDelete h) : s.runAdmin c = endAdmin c (s.nvmeDelete c.nsid) := by
  cases c; cases op; cases manager; rfl
theorem State.runAdmin_namespaceAttachmentAttach {l : List Nat} (op : c.op = .namespaceAttachmentAttach h l) :
    s.runAdmin c = endAdmin c (s.nvmeAttach c.nsid l) := by
  cases c; cases op; cases manager; rfl
theorem State.runAdmin_namespaceAttachmentDetach {l : List Nat} (op : c.op = .namespaceAttachmentDetach h l) :
    s.runAdmin c = endAdmin c (s.nvmeDetach c.nsid l) := by
  cases c; cases op; cases manager; rfl
theorem State.runAdmin_secondaryControllerOnline {k : Nat} (op : c.op = .secondaryControllerOnline h k) :
    s.runAdmin c = endAdmin c (s.nvmeOnline k) := by
  cases c; cases op; cases manager; rfl
theorem State.runAdmin_secondaryControllerOffline_ended {k : Nat} {t : State} {st : NvmeStatus} (op : c.op = .secondaryControllerOffline h k)
    (ends : s.nvmeOffline k = (t, some st)) : s.runAdmin c = t.conclude c.id st := by
  cases c; cases op; cases manager
  show (match s.nvmeOffline _ with | (_, some _) => _ | (_, none) => _) = _
  rw [ends]
theorem State.runAdmin_secondaryControllerOffline_runs {k : Nat} {t : State} (op : c.op = .secondaryControllerOffline h k)
    (runs : s.nvmeOffline k = (t, none)) : s.runAdmin c = t.modCmd c.id fun c => { c with phase := .running } := by
  cases c; cases op; cases manager
  show (match s.nvmeOffline _ with | (_, some _) => _ | (_, none) => _) = _
  rw [runs]
theorem State.runAdmin_secondaryControllerAssign {k r v : Nat} (op : c.op = .secondaryControllerAssign h k r v) :
    s.runAdmin c = endAdmin c (s.nvmeAssign k r v) := by
  cases c; cases op; cases manager; rfl
theorem State.runAdmin_formatNvm {l e : Nat} (op : c.op = .formatNvm h l e) :
    s.runAdmin c = if s.start.sanitize.isSome then s.conclude c.id stSanitize else endAdmin c (s.formatNvm c.nsid l e) := by
  cases c; cases op; cases manager; rfl
theorem State.runAdmin_cryptoErase (op : c.op = .cryptoErase h) : s.runAdmin c = endAdmin c (s.cryptoErase c.id) := by
  cases c; cases op; cases manager; rfl
end
end

/-! Identify, log pages and features. -/

theorem State.identify_unknown (s : State) (c : Cmd) {cns : Nat} (csi : Nat) (unknown : 0x1D ≤ cns) : s.identify c cns csi = .error stInvalidField := by
  unfold State.identify
  dsimp only
  split
  case h_14 => rfl
  all_goals omega

theorem State.logPage_unknown (s : State) (c : Cmd) {lid : Nat} (unknown : lid = 0 ∨ 0xC0 ≤ lid) : s.logPage c lid = .error stLogPage := by
  unfold State.logPage
  dsimp only
  split
  case h_8 => rfl
  all_goals omega

theorem Ctrl.feature_setFeature (k : Ctrl) (fid v d : Nat) : (k.setFeature fid v).feature fid d = v := by
  have held := find?_putBy_same (fun x : Nat × Nat => x.1) (fid, v) k.features
  simp [Ctrl.feature, Ctrl.setFeature, held]

section
variable {s : State} {c : Cmd} {ps : Nat}

theorem State.setFeature_power_instance (inst : c.fn ≠ 0) : s.setFeature c 0x02 ps = (s, stNotChangeable, 0) := if_pos (by simp [inst])
theorem State.setFeature_power_range (manager : c.fn = 0) (bad : 4 < ps % 32) : s.setFeature c 0x02 ps = (s, stInvalidField, 0) :=
  (if_neg (by simp [manager])).trans (if_pos bad)
theorem State.setFeature_power_limits (manager : c.fn = 0) (good : ps % 32 ≤ 4) :
    s.setFeature c 0x02 ps = (s.modPwr fun p => { p with hostLimit := ps % 32 }, stOk, 0) :=
  (if_neg (by simp [manager])).trans (if_neg (Nat.not_lt.mpr good))
end

theorem State.conclude_clk (s : State) (id : Nat) (st : NvmeStatus) : (s.conclude id st).clk = s.clk :=
  congrArg Steady.clk (s.conclude_steady id st [] 0 none)

section
variable {s : State} {c : Cmd} {h : NvmeHdr}

theorem State.runAdmin_limits {ps r : Nat} {t : State} {st : NvmeStatus}
    (op : c.op = .setFeaturesPowerManagement h ps ∨ c.op = .setFeatures h 0x02 ps) (sets : s.setFeature c 0x02 ps = (t, st, r)) :
    s.runAdmin c = t.conclude c.id st [] r := by
  rcases op with op | op
  · rw [State.runAdmin_setFeaturesPowerManagement op, sets]
  · rw [State.runAdmin_setFeatures op, sets]

theorem State.runAdmin_timestamp_instance {ms : Nat} (op : c.op = .setFeaturesTimestamp h ms) (inst : c.fn ≠ 0) :
    s.runAdmin c = s.conclude c.id stNotChangeable := (State.runAdmin_setFeaturesTimestamp op).trans (if_pos (by simp [inst]))

theorem State.runAdmin_timestamp_early {ms : Nat} (op : c.op = .setFeaturesTimestamp h ms) (manager : c.fn = 0) (early : ms / 1000 < 1735689600) :
    s.runAdmin c = s.conclude c.id stInvalidField := by
  rw [State.runAdmin_setFeaturesTimestamp op, effSetTime_early early]
  simp [manager, errR]

theorem State.runAdmin_timestamp_sets {ms : Nat} (op : c.op = .setFeaturesTimestamp h ms) (manager : c.fn = 0) (late : 1735689600 ≤ ms / 1000)
    (runs : s.clk.aonRuns = true) : (s.runAdmin c).clk.isSet = true ∧ (s.runAdmin c).clk.secs = ms / 1000 ∧
      (s.runAdmin c).clk.frac = ms % 1000 * 2 ^ 32 / 1000 := by
  obtain ⟨t, g, sets, isSet, secs, frac, -⟩ := effSetTime_sets (ms % 1000 * 2 ^ 32 / 1000) late runs
  have clk : (s.runAdmin c).clk = t.clk := by
    rw [State.runAdmin_setFeaturesTimestamp op, sets, if_neg (by simp [manager])]
    exact t.conclude_clk _ _
  rw [clk]
  exact ⟨isSet, secs, frac⟩
end

/-! Queues, Abort and event requests. -/

section
variable {s : State} {c : Cmd} {qid size : Nat} (named : 0 < qid) (inRange : qid ≤ s.pairsOf c.fn c.port1)
include named inRange

section
variable {v : Nat} (i : Bool) (free : ((s.ctrl c.fn c.port1).cqs.any fun x => x.qid == qid) = false) (lo : 2 ≤ size) (hi : size ≤ 65536)
include free lo hi

theorem State.createCq_creates (has : v < s.vectors c.fn c.port1) : s.createCq c qid size v i true true =
    (s.modCtrl c.fn c.port1 fun k => { k with cqs := k.cqs ++ [{ qid := qid, size := size, vector := v, ien := i }] }, stOk) :=
  (if_neg (by simp [Nat.ne_of_gt named, Nat.not_lt.mpr inRange, free])).trans ((if_neg (by simp [Nat.not_lt.mpr lo, hi])).trans
    ((if_neg (by simp)).trans (if_neg (Nat.not_le.mpr has))))
theorem State.createCq_vector (lacks : s.vectors c.fn c.port1 ≤ v) : s.createCq c qid size v i true true = (s, stVector) :=
  (if_neg (by simp [Nat.ne_of_gt named, Nat.not_lt.mpr inRange, free])).trans ((if_neg (by simp [Nat.not_lt.mpr lo, hi])).trans
    ((if_neg (by simp)).trans (if_pos lacks)))
end

section
variable {cq : Nat} (cqNamed : 0 < cq) (cqStands : ((s.ctrl c.fn c.port1).cqs.any fun x => x.qid == cq) = true)
  (free : ((s.ctrl c.fn c.port1).sqs.any fun x => x.qid == qid) = false)
include cqNamed cqStands free

theorem State.createSq_creates (lo : 2 ≤ size) (hi : size ≤ 65536) : s.createSq c qid size cq true true =
    (s.modCtrl c.fn c.port1 fun k => { k with sqs := k.sqs ++ [{ qid := qid, size := size, cq := cq }] }, stOk) :=
  (if_neg (by simp [Nat.ne_of_gt cqNamed, cqStands])).trans ((if_neg (by simp [Nat.ne_of_gt named, Nat.not_lt.mpr inRange, free])).trans
    ((if_neg (by simp [Nat.not_lt.mpr lo, hi])).trans (if_neg (by simp))))
theorem State.createSq_size (bad : size < 2 ∨ 65536 < size) : s.createSq c qid size cq true true = (s, stQueueSize) :=
  (if_neg (by simp [Nat.ne_of_gt cqNamed, cqStands])).trans ((if_neg (by simp [Nat.ne_of_gt named, Nat.not_lt.mpr inRange, free])).trans
    (if_pos (by simpa using bad)))
end
end

section
variable {s : State} {c : Cmd}

theorem State.createSq_cqInvalid {qid size cq : Nat} (k a : Bool) (gone : ((s.ctrl c.fn c.port1).cqs.any fun x => x.qid == cq) = false) :
    s.createSq c qid size cq k a = (s, stCqInvalid) := if_pos (by simp [gone])

theorem State.deleteCq_eq {qid : Nat} (named : 0 < qid) (stands : ((s.ctrl c.fn c.port1).cqs.any fun x => x.qid == qid) = true) :
    s.deleteCq c qid = if (s.ctrl c.fn c.port1).sqs.any (fun x => x.cq == qid) then (s, stQueueDeletion)
      else (s.modCtrl c.fn c.port1 fun k => { k with cqs := k.cqs.filter (fun x => x.qid != qid) }, stOk) :=
  if_neg (by simp [Nat.ne_of_gt named, stands])

/-- The command that an Abort names: fetched, not admitted, and not the Abort itself. -/
def abortable (c : Cmd) (sq cid : Nat) (x : Cmd) : Bool :=
  x.fn == c.fn && x.port1 == c.port1 && x.sq == sq && x.cid == cid && x.phase == .held && x.id != c.id

theorem State.abortOf_held {sq cid : Nat} {x : Cmd} (held : s.io.cmds.find? (abortable c sq cid) = some x) : s.abortOf c sq cid = (s.abortCmd x, 0) := by
  unfold State.abortOf
  unfold abortable at held
  rw [held]
theorem State.abortOf_none {sq cid : Nat} (none_ : s.io.cmds.find? (abortable c sq cid) = none) : s.abortOf c sq cid = (s, 1) := by
  unfold State.abortOf
  unfold abortable at none_
  rw [none_]
theorem State.find?_abortable_none {sq cid : Nat}
    (lacks : ∀ x ∈ s.io.cmds, ¬ (x.fn = c.fn ∧ x.port1 = c.port1 ∧ x.sq = sq ∧ x.cid = cid ∧ x.phase = .held)) :
    s.io.cmds.find? (abortable c sq cid) = none := by
  refine List.find?_eq_none.mpr fun x hx match_ => lacks x hx ?_
  simp only [abortable, Bool.and_eq_true, beq_iff_eq] at match_
  obtain ⟨⟨⟨⟨⟨fn, port⟩, queue⟩, ident⟩, held⟩, -⟩ := match_
  exact ⟨fn, port, queue, ident, held⟩

theorem State.eventRequest_event {e : Nat} {rest : List Nat} (waits : (s.ctrl c.fn c.port1).aen = e :: rest) :
    s.eventRequest c = (s.modCtrl c.fn c.port1 fun k => { k with aen := rest }).conclude c.id stOk [] e := by
  simp [State.eventRequest, waits]
theorem State.eventRequest_limit (none_ : (s.ctrl c.fn c.port1).aen = []) (full : 8 ≤ (s.ctrl c.fn c.port1).aer.length) :
    s.eventRequest c = s.conclude c.id stAerLimit := by
  simp [State.eventRequest, none_, full]
theorem State.eventRequest_waits (none_ : (s.ctrl c.fn c.port1).aen = []) (room : (s.ctrl c.fn c.port1).aer.length < 8) :
    s.eventRequest c = (s.dropCmd c).modCtrl c.fn c.port1 fun k => { k with aer := k.aer ++ [c.cid] } := by
  simp [State.eventRequest, none_, Nat.not_le.mpr room]
end

/-! Namespaces and secondary controllers. -/

section
variable {s : State}

theorem State.nvmeCreate_made {t : State} {csi z k l p id : Nat} (made : s.nvmeCreate csi z k l p = (t, stOk, id)) :
    ∃ n ∈ t.nss, n.nsid = id ∧ n.zoneCount = z / zoneSizeOf s.profile s.widest 1 ∧ n.lbaf = l ∧ n.pi = (if p = 0 then 1 else p) ∧ n.attached = [] ∧
      n.deleted = false ∧ n.origin = 0 := by
  obtain ⟨comp, created⟩ := State.nvmeCreate_ok made
  obtain ⟨n, hn, card⟩ := List.mem_map.mp (State.createNs_card created)
  simp only [Namespace.card, NsRequest.card, NsCard.mk.injEq, beq_iff_eq] at card
  obtain ⟨nsid, origin, zones, lbaf, pi, attached, deleted⟩ := card
  exact ⟨n, hn, nsid, zones, lbaf, pi, attached, deleted, origin⟩

theorem State.nvmeCreate_csi {csi : Nat} (z k l p : Nat) (other : csi ≠ 2) : s.nvmeCreate csi z k l p = (s, stInvalidField, 0) :=
  if_pos (by simp [other])

theorem State.nvmeDelete_one {n : Namespace} (found : s.ns? n.nsid = some n) (one : n.nsid ≠ 0xFFFFFFFF) (zoned : n.conv = false) :
    s.nvmeDelete n.nsid = (s.deleteNs n, stOk) := by
  refine (if_neg (by simpa using one)).trans ?_
  simp [found, zoned]

theorem State.nvmeAttach_leaves {n : Namespace} {f : Nat} (found : s.ns? n.nsid = some n) (isCtrl : f ≤ 128) (free : n.attached.contains f = false)
    (may : s.attachable n f = true) : (s.nvmeAttach n.nsid [f]).2 = stOk ∧ ∃ m, (s.nvmeAttach n.nsid [f]).1.ns? n.nsid = some m ∧ f ∈ m.attached := by
  obtain ⟨k, at_, has⟩ := State.attachPair_card? (n := n) (f := f) (State.card?_of_ns? found)
  obtain ⟨m, hm, rfl⟩ := State.ns?_of_card? at_
  rw [State.nvmeAttach_one found isCtrl, if_neg (by rw [free]; exact Bool.false_ne_true), if_pos may]
  exact ⟨rfl, m, hm, has⟩

theorem State.nvmeDetach_leaves {n : Namespace} {f : Nat} (found : s.ns? n.nsid = some n) (isCtrl : f ≤ 128) (held : n.attached.contains f = true) :
    (s.nvmeDetach n.nsid [f]).2 = stOk ∧ ∃ m, (s.nvmeDetach n.nsid [f]).1.ns? n.nsid = some m ∧ f ∉ m.attached := by
  obtain ⟨k, at_, lacks⟩ := State.detachPair_card? (n := n) (f := f) (State.card?_of_ns? found)
  obtain ⟨m, hm, rfl⟩ := State.ns?_of_card? at_
  rw [State.nvmeDetach_one found isCtrl, if_pos held]
  exact ⟨rfl, m, hm, lacks⟩

variable {k : Nat}

theorem State.nvmeOnline_goes (isCtrl : k ≤ 128) (can : s.canGoOnline k = true) : s.nvmeOnline k = (s.modFn k fun f => { f with state := .online }, stOk) :=
  if_pos (by simp [isCtrl, can])
theorem State.nvmeOnline_cannot (cannot : s.canGoOnline k = false) : s.nvmeOnline k = (s, stCtrlId) := if_neg (by simp [cannot])

section
variable (lo : 1 ≤ k) (hi : k ≤ 128)
include lo hi

theorem State.nvmeOffline_online (online : (s.fn k).state = .online) : s.nvmeOffline k = (s.beginReset k .offline, none) := by
  refine (if_neg (by simp [Nat.ne_of_gt lo, Nat.not_lt.mpr hi])).trans ?_
  rw [online]
theorem State.nvmeOffline_offline (offline : (s.fn k).state = .offline) : s.nvmeOffline k = (s.instanceInitial k, some stOk) := by
  have initial : s.beginReset k .offline = s.instanceInitial k := by simp [State.beginReset, offline]
  refine (if_neg (by simp [Nat.ne_of_gt lo, Nat.not_lt.mpr hi])).trans ?_
  rw [offline, ← initial]
theorem State.nvmeAssign_sets {r v : Nat} (known : r ≤ 1) (sets : (effSetAllocation k (r + 1) v s).2.status = 0) :
    s.nvmeAssign k r v = ((effSetAllocation k (r + 1) v s).1, stOk) := by
  refine (if_neg (by simp [Nat.ne_of_gt lo, Nat.not_lt.mpr hi])).trans ((if_neg (Nat.not_lt.mpr known)).trans ?_)
  simp [sets]
theorem State.nvmeAssign_resource {r : Nat} (v : Nat) (unknown : 1 < r) : s.nvmeAssign k r v = (s, stResourceId) :=
  (if_neg (by simp [Nat.ne_of_gt lo, Nat.not_lt.mpr hi])).trans (if_pos unknown)
end

theorem State.formatNvm_empties {nsid l e : Nat} (writable : s.media.readPreserve = false) (byKey : e < 2)
    (stands : ∃ n ∈ s.nss, n.deleted = false ∧ n.nsid = nsid) (one : nsid ≠ 0xFFFFFFFF)
    (format : ∀ n ∈ s.nss, n.deleted = false → n.nsid = nsid → n.lbaf = l) :
    s.formatNvm nsid l e = (s.emptyAll false fun n => n.nsid == nsid, stOk) := by
  have named : (fun n : Namespace => nsid == 0xFFFFFFFF || n.nsid == nsid) = fun n => n.nsid == nsid := by
    funext n
    simp [one]
  unfold State.formatNvm
  dsimp only
  rw [if_neg (by simp [writable]), if_neg (by simpa [one] using stands), if_neg (Nat.not_le.mpr byKey), if_neg (by simpa [one] using format), named]

theorem State.cryptoErase_epoch (spent : 32 ≤ s.fuses.vaultEpoch) (self : Nat) : s.cryptoErase self = (s, stInvalidField) := if_pos spent
end

/-- Settles O46, row by row: what the row runs, and the case of it that the statement names. A deleted or attached namespace is read off its
card, which nothing else of the operation changes. -/
theorem adminCommands : Obligations.AdminCommands := by
  unfold Obligations.AdminCommands
  refine ⟨?managerOnly, ?identify, ?identifyController, ?identifyUnknown, ?changedNs, ?logPages, ?arbitration, ?feature, ?getFeatures, ?power, ?timestamp,
    ?createQueues, ?deleteSq, ?deleteSqRow, ?abort, ?eventRequest, ?create, ?created, ?createCsi, ?delete, ?deleted, ?attachRows, ?attach, ?secondary,
    ?format, ?cryptoErase, ?step4⟩
  case managerOnly => exact fun s c only inst => State.runAdmin_refused only inst
  case identify => exact fun s c h csi op => State.runAdmin_identify_ok op rfl
  case identifyController => exact fun s fn p1 => ⟨rfl, rfl, rfl, rfl, rfl⟩
  case identifyUnknown => exact fun s c h cns csi op unknown => State.runAdmin_identify_error op (s.identify_unknown c csi unknown)
  case changedNs => exact fun s c h op => State.runAdmin_getLogPage_ok op rfl
  case logPages =>
    exact fun s c h lid => ⟨fun op => State.runAdmin_getLogPage_ok op rfl,
      fun op unknown => State.runAdmin_getLogPage_error op (s.logPage_unknown c unknown)⟩
  case arbitration => exact fun s c h v op => State.runAdmin_setFeatures op
  case feature => exact Ctrl.feature_setFeature
  case getFeatures =>
    exact fun s c h => ⟨fun op => State.runAdmin_getFeatures_ok op rfl, fun op => State.runAdmin_getFeatures_ok op rfl,
      fun op => State.runAdmin_getFeatures_ok op rfl, fun op => State.runAdmin_getFeatures_error op rfl⟩
  case power =>
    exact fun s c h ps op => ⟨fun inst => State.runAdmin_limits op (State.setFeature_power_instance inst),
      fun manager bad => State.runAdmin_limits op (State.setFeature_power_range manager bad),
      fun manager good => State.runAdmin_limits op (State.setFeature_power_limits manager good)⟩
  case timestamp =>
    exact fun s c h ms op => ⟨State.runAdmin_timestamp_instance op, State.runAdmin_timestamp_early op, State.runAdmin_timestamp_sets op⟩
  case createQueues =>
    intro s c h qid size v cq i
    refine ⟨fun op named inRange free lo hi => ?_, fun op cqNamed cqStands named inRange free => ?_, fun op gone => ?_, fun op named stands => ?_⟩
    · rw [State.runAdmin_createIoCompletionQueue op]
      exact ⟨fun has => congrArg (endAdmin c) (State.createCq_creates named inRange i free lo hi has),
        fun lacks => congrArg (endAdmin c) (State.createCq_vector named inRange i free lo hi lacks)⟩
    · rw [State.runAdmin_createIoSubmissionQueue op]
      exact ⟨fun lo hi => congrArg (endAdmin c) (State.createSq_creates named inRange cqNamed cqStands free lo hi),
        fun bad => congrArg (endAdmin c) (State.createSq_size named inRange cqNamed cqStands free bad)⟩
    · rw [State.runAdmin_createIoSubmissionQueue op]
      exact congrArg (endAdmin c) (State.createSq_cqInvalid true true gone)
    · rw [State.runAdmin_deleteIoCompletionQueue op, State.deleteCq_eq named stands]
      split <;> rfl
  case deleteSq => exact fun s c qid named stands real => State.deleteSq_leaves named stands real
  case deleteSqRow => exact fun s c h qid op => State.runAdmin_deleteIoSubmissionQueue op
  case abort =>
    intro s c h sq cid op
    rw [State.runAdmin_abort op]
    refine ⟨fun x held => ?_, fun lacks => ?_⟩
    · rw [State.abortOf_held held]
    · rw [State.abortOf_none (State.find?_abortable_none lacks)]
  case eventRequest =>
    intro s c h op
    rw [State.runAdmin_asynchronousEventRequest op]
    exact ⟨fun e rest => State.eventRequest_event, State.eventRequest_limit, State.eventRequest_waits⟩
  case create => exact fun s c h csi z k l p manager op => State.runAdmin_namespaceManagementCreate manager op
  case created => exact fun s t csi z k l p id => State.nvmeCreate_made
  case createCsi => exact fun s csi z k l p other => State.nvmeCreate_csi z k l p other
  case delete => exact fun s c h manager op => State.runAdmin_namespaceManagementDelete manager op
  case deleted =>
    intro s n found one zoned
    rw [State.nvmeDelete_one found one zoned]
    dsimp only
    exact ⟨rfl, (s.deleteNs_allDeleted n).ns?⟩
  case attachRows =>
    exact fun s c h l manager => ⟨State.runAdmin_namespaceAttachmentAttach manager, State.runAdmin_namespaceAttachmentDetach manager⟩
  case attach =>
    intro s n f found isCtrl
    have attaches := State.nvmeAttach_one found isCtrl
    refine ⟨State.nvmeAttach_leaves found isCtrl, fun held => ⟨attaches.trans (if_pos held), State.nvmeDetach_leaves found isCtrl held⟩,
      fun free closed => ?_, fun free => ?_⟩
    · rw [attaches, free, closed]
      rfl
    · rw [State.nvmeDetach_one found isCtrl, free]
      rfl
  case secondary =>
    intro s c h k r v manager
    refine ⟨fun op isCtrl can => ?_, fun op cannot => ?_, fun op lo hi online => ?_, fun op lo hi offline => ?_, fun op known lo hi sets => ?_,
      fun op unknown lo hi => ?_⟩
    · exact (State.runAdmin_secondaryControllerOnline manager op).trans (congrArg (endAdmin c) (State.nvmeOnline_goes isCtrl can))
    · exact (State.runAdmin_secondaryControllerOnline manager op).trans (congrArg (endAdmin c) (State.nvmeOnline_cannot cannot))
    · exact State.runAdmin_secondaryControllerOffline_runs manager op (State.nvmeOffline_online lo hi online)
    · exact State.runAdmin_secondaryControllerOffline_ended manager op (State.nvmeOffline_offline lo hi offline)
    · exact (State.runAdmin_secondaryControllerAssign manager op).trans (congrArg (endAdmin c) (State.nvmeAssign_sets lo hi known sets))
    · exact (State.runAdmin_secondaryControllerAssign manager op).trans (congrArg (endAdmin c) (State.nvmeAssign_resource lo hi v unknown))
  case format =>
    intro s c h l e manager op
    rw [State.runAdmin_formatNvm manager op]
    refine ⟨fun runs => if_pos runs, fun idle writable byKey stands one format => ?_⟩
    rw [if_neg (by simp [idle]), State.formatNvm_empties writable byKey stands one format, endAdmin]
  case cryptoErase =>
    intro s c h manager op
    rw [State.runAdmin_cryptoErase manager op]
    exact ⟨fun spent => congrArg (endAdmin c) (State.cryptoErase_epoch spent c.id), State.cryptoErase_ends c⟩
  case step4 =>
    rintro i h a b x y z l (rfl | rfl | rfl | rfl | rfl | rfl | rfl | rfl | rfl | rfl) <;> rfl

end Sys2Proof.Machine
end

section
/-! SUPPORT. The write path's rows (R101, R118, R136 to R139, R150, R162, R267, R381, R401, R405): the guard of each row holds, so its update is made. -/

namespace Sys2Proof.Machine

section
variable {s : State}

theorem execSealUnit_next {m r u : Nat} {g : Segment} (unit : m < 8) (active : (s.mast m).state = .active) (next : s.nextUnit m = some (g, r, u)) :
    execSealUnit m s = .next (s.sealUnitAt m (s.sealer m) g r u) := by
  simp [execSealUnit, whenUnit, unit, active, next]

/-! Completions of the DMA engine's requests. -/

/-- The request `q` has had its completion. -/
def State.answered (s : State) (q : Nat) : State := s.modIo fun h => { h with reqs := h.reqs.filter fun x => x.req != q }

section
variable {q : Nat} {d : Block} {gd : HostPi} {r : DmaReq} (found : s.io.reqs.find? (fun x => x.req == q) = some r) (live : r.retiredUntil = none)
include found live

theorem State.dmaEnded_data {i : Nat} {c : Cmd} (what : r.what = .data i) (cmd : s.cmd? r.cmd = some c) : s.dmaEnded q .ok d gd = (s.answered q).dataArrived c i d gd := by
  have cmd' : (s.answered q).cmd? r.cmd = some c := cmd
  unfold State.answered at cmd' ⊢
  simp [State.dmaEnded, found, live, what, cmd']

theorem State.dmaEnded_timeout : s.dmaEnded q .timeout d gd = (s.answered q).dmaFailed r 1 := by
  simp [State.dmaEnded, State.answered, found, live]
end

theorem State.dmaEnded_none {q : Nat} (e : DmaEnd) (d : Block) (gd : HostPi) (none_ : s.io.reqs.find? (fun x => x.req == q) = none) :
    s.dmaEnded q e d gd = s.unexpected 0 := by
  simp [State.dmaEnded, none_]

/-! Protection information (R101). -/

section
variable {n : Namespace} {k : WriteKind} {e : Extent} {i : Nat} {p : HostPi}

theorem piFails_none (plain : n.lbaf ≠ 1 ∨ e.pract = true) : piFails n k e i p = none :=
  if_pos (by simpa using plain)

theorem piFails_guard (format : n.lbaf = 1) (transferred : e.pract = false) (bad : p.guardOk = false) : piFails n k e i p = some stGuard := by
  simp [piFails, format, transferred, bad]

theorem piFails_escape (format : n.lbaf = 1) (transferred : e.pract = false) (good : p.guardOk = true) (off : p.app = 0xFFFF) :
    piFails n k e i p = none := by
  simp [piFails, format, transferred, good, off]

theorem piFails_appTag (format : n.lbaf = 1) (transferred : e.pract = false) (good : p.guardOk = true) (on : p.app ≠ 0xFFFF)
    (checked : e.prchkApp = true) (differs : p.app ≠ e.appTag) : piFails n k e i p = some stAppTag := by
  simp [piFails, format, transferred, good, on, checked, differs]
end

/-! The tree, parking, the wait for energy, and restored rows. -/

theorem ZoneState.ne_of_active {t : ZoneState} (active : t.active = true) : t ≠ .empty ∧ t ≠ .offline ∧ t ≠ .full := by
  cases t <;> simp [ZoneState.active] at active ⊢

/-- The next whole leaf of an active zone (R267). -/
theorem execDigestLeaf_active {n zi : Nat} {d : Digest} (active : (s.zone n zi).state.active = true)
    (whole : 256 * ((s.zone n zi).leaves.length + 1) ≤ (s.zone n zi).wp)
    (leaf : s.leafOf n zi (s.zone n zi).wp (s.zone n zi).leaves.length = some d) :
    execDigestLeaf n zi s = .next (s.modZone n zi fun z => { z with
      leaves := z.leaves ++ [d], stale := z.stale && decide ((s.zone n zi).leaves.length + 1 < leavesOf (s.zone n zi).wp) }) := by
  have more : ¬ leavesOf (s.zone n zi).wp ≤ (s.zone n zi).leaves.length := by unfold leavesOf; omega
  have notYet : ¬ (s.zone n zi).wp < 256 * ((s.zone n zi).leaves.length + 1) := Nat.not_lt.mpr whole
  obtain ⟨notEmpty, notOffline, notFull⟩ := ZoneState.ne_of_active active
  simp [execDigestLeaf, notEmpty, notOffline, notFull, more, notYet, leaf]

theorem execParkDelay_parks {n zi : Nat} (ready : s.pwr.dev = .working) (opened : (s.zone n zi).state.isOpen = true)
    (unparked : (s.zone n zi).parked = false) (late : (s.zone n zi).lastFrame + s.ctlValue ctlParkDelay ≤ s.clk.frame) :
    execParkDelay n zi s = .next (s.park n zi) := by
  simp [execParkDelay, State.ready, ready, opened, unparked, late]

theorem execEnergyWaitLimit_ends {id f : Nat} {c : Cmd} (found : s.cmd? id = some c) (held : c.phase = .held)
    (cause : c.cause = some .energy ∨ c.cause = some .mirror) (since : c.heldSince = some f) (late : f + s.ctlValue ctlEnergyWait < s.clk.frame) :
    execEnergyWaitLimit id s = .next (s.conclude id stNotReady) := by
  rcases cause with cause | cause <;> simp [execEnergyWaitLimit, found, held, cause, since, late]

/-- The whole units of a row: settled, and every block sealed (R162). -/
def State.wholeUnits (s : State) (g : Segment) (q r : Nat) : List Nat :=
  (List.range (dataOf g.width)).filter fun u => s.unitSettled g r u && (s.unitBlocks q r u).all (·.sealed)

theorem State.mem_wholeUnits {g : Segment} {q r u : Nat} :
    u ∈ s.wholeUnits g q r ↔ u < dataOf g.width ∧ s.unitSettled g r u = true ∧ ∀ b ∈ s.unitBlocks q r u, b.sealed = true := by
  simp [State.wholeUnits]

theorem execRestoredUnitCompletion_parked {q r : Nat} {g : Segment} (found : s.seg? q = some g) (stays : g.replace = false)
    (parked : ∃ b ∈ s.media.blocks, b.seg = q ∧ b.row = r ∧ b.place = .parked) :
    execRestoredUnitCompletion q r s = .next (s.modRow q r fun w => { w with
      sealedUnits := dedupN (w.sealedUnits ++ s.wholeUnits g q r), parity := w.parity || (s.wholeUnits g q r).length == dataOf g.width }) := by
  have has : (s.media.blocks.any fun b => b.seg == q && b.row == r && b.place == .parked) = true := by
    obtain ⟨b, mem, seg, row, place⟩ := parked
    exact List.any_eq_true.mpr ⟨b, mem, by simp [seg, row, place]⟩
  simp [execRestoredUnitCompletion, found, stays, has, State.wholeUnits]
end

/-- Settles O18, row by row. -/
theorem writeDatapath : Obligations.WriteDatapath := by
  unfold Obligations.WriteDatapath
  refine ⟨?seals, ?data, ?timeout, ?stray, ?protection, ?leaf, ?parks, ?energy, ?restored⟩
  case seals => exact fun m r u g s unit active next => execSealUnit_next unit active next
  case data => exact fun q i d gd r c s found live what cmd => congrArg _ (State.dmaEnded_data found live what cmd)
  case timeout => exact fun q i d gd r s found live _ => congrArg _ (State.dmaEnded_timeout found live)
  case stray => exact fun q e d gd s none_ => congrArg _ (State.dmaEnded_none e d gd none_)
  case protection => exact fun n k e i p => ⟨piFails_none, piFails_guard, piFails_escape, piFails_appTag⟩
  case leaf =>
    refine fun n zi d s state whole leaf => execDigestLeaf_active ?_ whole leaf
    rcases state with e | e | e <;> rw [e] <;> rfl
  case parks => exact fun n zi s ready opened unparked late => execParkDelay_parks ready opened unparked late
  case energy => exact fun id f c s found held cause since late => execEnergyWaitLimit_ends found held cause since late
  case restored =>
    exact fun q r g s found stays parked =>
      ⟨s.wholeUnits g q r, execRestoredUnitCompletion_parked found stays parked, fun _ => State.mem_wholeUnits⟩

end Sys2Proof.Machine
end

section
/-! SUPPORT. The journals' rows (R115, R117, R156 to R158). -/

namespace Sys2Proof.Machine

section
variable {s : State} {j : Nat} {r : JRec} {rest : List JRec}

theorem execJournalRecordDurable_none (unit : j < 9) (none_ : (s.journal j).staged = []) : execJournalRecordDurable j s = .next s := by
  simp [execJournalRecordDurable, whenUnit, unit, none_]

/-- The oldest record of a journal leaves the staging: its bytes count, and its pages are programmed (R156). -/
def State.tookOldest (s : State) (j : Nat) (r : JRec) (rest : List JRec) : State :=
  let a := s.modJournal j fun x => { x with staged := rest, bytes := x.bytes + s.recordSize r }
  a.logWear (a.journalPage j) j

section
variable (oldest : (s.journal j).staged = r :: rest) (ready : s.recordReady r = true)
include oldest ready

theorem execJournalRecordDurable_mast (mast : j < 8) : execJournalRecordDurable j s = .next ((s.tookOldest j r rest).recordDurable r) := by
  have unit : j < 9 := by omega
  have other : j ≠ 8 := by omega
  simp [execJournalRecordDurable, whenUnit, unit, oldest, ready, other, State.tookOldest]

theorem execJournalRecordDurable_idle (unit : j < 9) (idle : ∀ c ∈ ((s.tookOldest j r rest).recordDurable r).io.cmds, c.waitsFor = none) :
    execJournalRecordDurable j s = .next ((s.tookOldest j r rest).recordDurable r) := by
  unfold State.tookOldest at idle ⊢
  have unwaited (p : Cmd → Bool) (h : ∀ c, c.waitsFor = none → p c = false) (l : List Cmd) (idle : ∀ c ∈ l, c.waitsFor = none) : l.filter p = [] :=
    List.filter_eq_nil_iff.mpr fun c mem => by simp [h c (idle c mem)]
  simp only [execJournalRecordDurable, oldest]
  rw [whenUnit, if_pos (by simpa using unit), if_neg (by simp [ready]), unwaited _ (fun c e => by simp [e]) _ idle]
  split <;> rfl
end

theorem execJournalCheckpoint_due (unit : j < 9) (full : 33554432 ≤ (s.journal j).bytes) : execJournalCheckpoint j s = .next (s.checkpoint j) := by
  simp [execJournalCheckpoint, whenUnit, unit, full]

theorem execJournalCheckpoint_early (unit : j < 9) (less : (s.journal j).bytes < 33554432) : execJournalCheckpoint j s = .next s := by
  simp [execJournalCheckpoint, whenUnit, unit, less]

theorem State.modJournal_journal_same (s : State) (f : Journal → Journal) (h : j < s.media.journals.length) :
    (s.modJournal j f).journal j = f (s.journal j) := by
  simp [State.modJournal, State.journal, List.getD_eq_getElem?_getD, h]

theorem State.modJournal_journal_other (s : State) {i : Nat} (f : Journal → Journal) (h : i ≠ j) : (s.modJournal j f).journal i = s.journal i := by
  simp [State.modJournal, State.journal, List.getD_eq_getElem?_getD, Ne.symm h]

/-- A checkpoint of a journal (R157): its records so far count no more, and its end mark is staged. -/
theorem State.checkpoint_journal_same (h : j < s.media.journals.length) : (s.checkpoint j).journal j = { s.journal j with
    bytes := 0, checkpoints := (s.journal j).checkpoints + 1, gens := [], live := []
    staged := (s.journal j).staged ++ [.checkpointEnd], next := (s.journal j).next + 1 } := by
  unfold State.checkpoint State.log
  refine (State.modJournal_journal_same _ _ (by simpa [State.modJournal] using h)).trans ?_
  rw [State.modJournal_journal_same s _ h]
  rfl

theorem State.checkpoint_journal_other {i : Nat} (h : i ≠ j) : (s.checkpoint j).journal i = s.journal i :=
  (State.modJournal_journal_other _ _ h).trans (s.modJournal_journal_other _ h)
end

/-- Settles O19: the row's guard lets the record go, and what waits for it is nothing; a checkpoint is read off the journal it changes. -/
theorem journals : Obligations.Journals := by
  unfold Obligations.Journals
  refine ⟨?mast, ?host, ?none, ?due, ?early⟩
  case mast =>
    rintro j r rest s _ mast oldest ready rfl
    exact execJournalRecordDurable_mast oldest ready mast
  case host =>
    rintro r rest s _ oldest ready rfl idle
    exact execJournalRecordDurable_idle oldest ready (by decide) idle
  case none => exact fun j s unit none_ => execJournalRecordDurable_none unit none_
  case due =>
    intro j s unit present full
    refine ⟨_, execJournalCheckpoint_due unit full, ?_⟩
    dsimp only
    rw [State.checkpoint_journal_same present]
    exact ⟨rfl, rfl, rfl, rfl, fun _ other => State.checkpoint_journal_other other, rfl, rfl, rfl⟩
  case early => exact fun j s unit less => execJournalCheckpoint_early unit less

end Sys2Proof.Machine
end

section
/-! SUPPORT. What the work on zones does not reach. Records, partners and die blocks leave the namespaces; sealing, parking and the release of
segments do as well. -/

namespace Sys2Proof.Machine

/-- A view of the state that no update of the host port, no record, no packet and no partner's job changes. -/
structure LogBlind {α : Type} (view : State → α) : Prop extends HostBlind view where
  log (s : State) (j : Nat) (r : JRec) : view (s.log j r) = view s
  hal (s : State) (f : Halyard → Halyard) : view (s.modHal f) = view s
  peer (s : State) (f : Peer → Peer) : view (s.modPeer f) = view s

/-- One that no update of the media, of a LUN, of a mast, of a key or of the events changes either. -/
structure StoreBlind {α : Type} (view : State → α) : Prop extends LogBlind view where
  media (s : State) (f : Media → Media) : view (s.modMedia f) = view s
  luns (s : State) (f : List Lun → List Lun) : view (s.modLuns f) = view s
  masts (s : State) (f : List Mast → List Mast) : view (s.modMasts f) = view s
  keys (s : State) (f : Keys → Keys) : view (s.modKeys f) = view s
  evt (s : State) (f : Events → Events) : view (s.modEvt f) = view s

section
variable {α : Type} {view : State → α} (h : HostBlind view) (s : State)
include h

theorem HostBlind.asyncEvent (f : Nat) (port1 : Bool) (info : Nat) : view (s.asyncEvent f port1 info) = view s := by
  unfold State.asyncEvent
  split
  · rfl
  · split
    · exact h.ctrl _ _ _ _
    · exact (h.postEntry _ _ _ _).trans (h.ctrl _ _ _ _)
end

section
variable {α : Type} {view : State → α} (h : LogBlind view) (s : State)
include h

theorem LogBlind.retireRescue : view s.retireRescue = view s := by
  refine each_view view _ (fun s m => each_view view _ (fun s r => ?_) _ _) _ _
  split
  · rfl
  · exact h.log _ _ _

theorem LogBlind.put (port : Nat) (k : TxPkt) : view (s.put port k) = view s := (h.emit _ _).trans (h.hal _ _)

theorem LogBlind.tx (port : Nat) (k : TxPkt) : view (s.tx port k) = view s := by
  unfold State.tx
  dsimp only
  split
  · rfl
  · split
    · exact h.put _ _ _
    · split
      · exact (h.put _ _ _).trans (h.hal _ _)
      · exact h.hal _ _

theorem LogBlind.sendOp (fp : Digest) (code : Nat) (args : List Nat) (packets : Nat) : view (s.sendOp fp code args packets) = view s := by
  unfold State.sendOp
  split
  · rfl
  · split
    · exact h.tx _ _ _
    · rfl
end

section
variable {α : Type} {view : State → α} (h : StoreBlind view) (s : State)
include h

theorem StoreBlind.raise (source code severity : Nat) (args : List Nat) (fn : Nat) : view (s.raise source code severity args fn) = view s := by
  unfold State.raise
  split
  · rfl
  · exact h.evt _ _

theorem StoreBlind.releaseSegment (seq : Nat) : view (s.releaseSegment seq) = view s := by
  have freed (t : State) (x b e : Nat) (f : EBlock → EBlock) : view ((t.modBlock x b f).log (mastOfLun x) (.blockState x b 2 e)) = view t :=
    (h.log _ _ _).trans (h.luns _ _)
  unfold State.releaseSegment
  split
  · rfl
  · refine (h.media _ _).trans ((each_view view _ (fun s mv => ?_) _ _).trans (each_view view _ (fun s q => ?_) _ _))
    all_goals
      dsimp only
      split
      · rfl
      · exact freed _ _ _ _ _

theorem StoreBlind.releaseSegments (l : List Nat) : view (each l State.releaseSegment s) = view s :=
  each_view view _ (fun _ _ => h.releaseSegment _ _) _ _

theorem StoreBlind.sealHeld (p : Stored → Bool) : view (s.sealHeld p) = view s := by
  refine each_view view _ (fun s b => ?_) _ _
  split
  · rfl
  · exact (h.media _ _).trans (h.masts _ _)

theorem StoreBlind.rescueRun (luns : List Nat) (id : Nat × Nat) (first : Bool) (l : List Stored) :
    view (s.rescueRun luns id first l) = view s := by
  unfold State.rescueRun
  split
  · rfl
  · exact each_view view _ (fun s _ => (h.media _ _).trans (h.masts _ _)) _ _

theorem StoreBlind.checkpoint (j : Nat) : view (s.checkpoint j) = view s := (h.log _ _ _).trans (h.media _ _)

theorem StoreBlind.takeSeq : view s.takeSeq.2 = view s := by
  unfold State.takeSeq
  dsimp only
  refine (h.media _ _).trans ?_
  split
  · exact (h.log _ _ _).trans (h.media _ _)
  · rfl

theorem StoreBlind.takeGen : view s.takeGen.2 = view s := by
  unfold State.takeGen
  dsimp only
  refine (h.media _ _).trans ?_
  split
  · exact (h.log _ _ _).trans (h.media _ _)
  · rfl

theorem StoreBlind.allocSegment {proto : Segment} {q : Nat} {t : State} (allocated : s.allocSegment proto = some (q, t)) : view t = view s := by
  unfold State.allocSegment at allocated
  split at allocated
  · cases allocated
  · dsimp only at allocated
    cases allocated
    refine (h.log _ _ _).trans ((h.media _ _).trans ((each_view view _ (fun s x => ?_) _ _).trans (h.takeSeq _)))
    split
    · rfl
    · exact h.luns _ _

theorem StoreBlind.removeLoss (nsid lba : Nat) : view (s.removeLoss nsid lba) = view s := by
  unfold State.removeLoss
  dsimp only
  split
  · rfl
  · exact (h.log _ _ _).trans (h.media _ _)

theorem StoreBlind.modSeg (seq : Nat) (f : Segment → Segment) : view (s.modSeg seq f) = view s := h.media _ _
theorem StoreBlind.modRow (seq r : Nat) (f : Row → Row) : view (s.modRow seq r f) = view s := h.modSeg _ _ _

theorem StoreBlind.placeAt (nsid zi o : Nat) (b : Stored) : view (s.placeAt nsid zi o b) = view s := by
  unfold State.placeAt
  dsimp only
  split
  · rfl
  · split
    · exact (h.modSeg _ _ _).trans ((h.modRow _ _ _ _).trans (h.media _ _))
    · exact (h.modRow _ _ _ _).trans (h.media _ _)
end

theorem State.nss_storeBlind : StoreBlind State.nss where
  io _ _ := rfl
  ctrl s f port1 g := by unfold State.modCtrl; split <;> rfl
  counters _ _ _ := rfl
  emit _ _ := rfl
  log _ _ _ := rfl
  hal _ _ := rfl
  peer _ _ := rfl
  media _ _ := rfl
  luns _ _ := rfl
  masts _ _ := rfl
  keys _ _ := rfl
  evt _ _ := rfl

/-- The namespaces, the stored blocks and the loss ledger. -/
def State.stock (s : State) : List Namespace × List Stored × List Loss := (s.nss, s.media.blocks, s.media.ledger)

theorem State.stock_logBlind : LogBlind State.stock where
  io _ _ := rfl
  ctrl s f port1 g := by unfold State.modCtrl; split <;> rfl
  counters _ _ _ := rfl
  emit _ _ := rfl
  log _ _ _ := rfl
  hal _ _ := rfl
  peer _ _ := rfl

end Sys2Proof.Machine
end

section
/-! SUPPORT. One zone of a namespace: what is found of it after an update of it, and after the work that only moves its trailer or parks it. -/

namespace Sys2Proof.Machine

/-! ## Finding a zone -/

theorem State.modNs_ns? (s : State) (id : Nat) {f : Namespace → Namespace} (same : ∀ n, (f n).nsid = n.nsid) : (s.modNs id f).ns? id = (s.ns? id).map f :=
  find?_updIf (fun n : Namespace => n.nsid == id) f (fun n own => by simpa [same] using own) s.nss

theorem State.ns?_nsid {s : State} {id : Nat} {n : Namespace} (found : s.ns? id = some n) : n.nsid = id := by
  simpa using List.find?_some found

theorem State.zone_of_ns? {s : State} {id : Nat} {n : Namespace} (found : s.ns? id = some n) (zi : Nat) : s.zone id zi = n.zone zi := by
  simp only [State.zone, found]

theorem Namespace.zone_zi (n : Namespace) (zi : Nat) : (n.zone zi).zi = zi := by
  unfold Namespace.zone
  cases e : n.zones.find? (·.zi == zi) with
  | none => rfl
  | some z => simpa using List.find?_some e

theorem Namespace.modZone_zone (n : Namespace) (zi : Nat) {f : Zone → Zone} (same : (f (n.zone zi)).zi = zi) :
    (n.modZone zi f).zone zi = f (n.zone zi) := by
  have found := find?_putBy_same Zone.zi (f (n.zone zi)) n.zones
  rw [same] at found
  exact congrArg (fun z => Option.getD z _) found

theorem State.modZone_ns? (s : State) (id zi : Nat) (f : Zone → Zone) : (s.modZone id zi f).ns? id = (s.ns? id).map (·.modZone zi f) :=
  s.modNs_ns? id fun _ => rfl

theorem State.modZone_zone {s : State} {id : Nat} {n : Namespace} (found : s.ns? id = some n) (zi : Nat) {f : Zone → Zone}
    (same : (f (n.zone zi)).zi = zi) : (s.modZone id zi f).zone id zi = f (n.zone zi) := by
  have found' := s.modZone_ns? id zi f
  rw [found] at found'
  exact (State.zone_of_ns? found' zi).trans (n.modZone_zone zi same)

/-! ## The core of a zone: all of it but where its trailer stands, when it was finished and whether it is parked -/

def Zone.core (z : Zone) : Zone := { z with trailer := false, trailerAt := [], detached := false, utcFinish := 0, parked := false }

section
variable (z : Zone)
@[simp] theorem Zone.core_state : z.core.state = z.state := rfl
@[simp] theorem Zone.core_wp : z.core.wp = z.wp := rfl
@[simp] theorem Zone.core_written : z.core.written = z.written := rfl
@[simp] theorem Zone.core_gen : z.core.gen = z.gen := rfl
@[simp] theorem Zone.core_zfc : z.core.zfc = z.zfc := rfl
@[simp] theorem Zone.core_ext : z.core.ext = z.ext := rfl
@[simp] theorem Zone.core_extValid : z.core.extValid = z.extValid := rfl
end

/-- A namespace without its zones. -/
def Namespace.bare (n : Namespace) : Namespace := { n with zones := [] }

/-- What is found at a zone: its namespace, and its core. -/
def State.plot (s : State) (nsid zi : Nat) : Option (Namespace × Zone) := (s.ns? nsid).map fun n => (n.bare, (n.zone zi).core)

section
variable {s : State} {nsid zi : Nat}

theorem State.plot_of_nss {t : State} (h : t.nss = s.nss) : t.plot nsid zi = s.plot nsid zi := by
  simp only [State.plot, State.ns?, h]

theorem State.plot_of_ns? {n : Namespace} (found : s.ns? nsid = some n) : s.plot nsid zi = some (n.bare, (n.zone zi).core) := by
  rw [State.plot, found]
  rfl

theorem State.ns?_of_plot {m : Namespace} {z : Zone} (found : s.plot nsid zi = some (m, z)) :
    ∃ n, s.ns? nsid = some n ∧ n.bare = m ∧ (n.zone zi).core = z := by
  obtain ⟨n, at_, e⟩ := Option.map_eq_some_iff.mp found
  cases e
  exact ⟨n, at_, rfl, rfl⟩

theorem State.zone_of_plot {m : Namespace} {z : Zone} (found : s.plot nsid zi = some (m, z)) : (s.zone nsid zi).core = z := by
  obtain ⟨n, found, -, e⟩ := State.ns?_of_plot found
  rw [State.zone_of_ns? found, e]

theorem State.modZone_plot (s : State) {f g : Zone → Zone} (same : ∀ z, (f z).zi = z.zi) (reads : ∀ z, (f z).core = g z.core) :
    (s.modZone nsid zi f).plot nsid zi = (s.plot nsid zi).map (Prod.map id g) := by
  unfold State.plot
  rw [State.modZone_ns?, Option.map_map, Option.map_map]
  congr 1
  funext n
  simp only [Function.comp, Prod.map, id]
  rw [n.modZone_zone zi ((same _).trans (n.zone_zi zi)), reads]
  rfl

theorem State.modZone_plot_same (s : State) {f : Zone → Zone} (same : ∀ z, (f z).zi = z.zi) (reads : ∀ z, (f z).core = z.core) :
    (s.modZone nsid zi f).plot nsid zi = s.plot nsid zi := by
  rw [s.modZone_plot (g := id) same reads]
  simp
end

end Sys2Proof.Machine
end

section
/-! SUPPORT. The transitions of a zone (R110, R113, R115, R117): what each of them leaves of the zone that it names. -/

namespace Sys2Proof.Machine

theorem ZoneState.isOpen_iff {t : ZoneState} : t.isOpen = true ↔ t = .implicitOpen ∨ t = .explicitOpen := by
  cases t <;> simp [ZoneState.isOpen]
theorem ZoneState.active_iff {t : ZoneState} : t.active = true ↔ t = .implicitOpen ∨ t = .explicitOpen ∨ t = .closed := by
  cases t <;> simp [ZoneState.active]

section
variable {s : State} {nsid zi : Nat}

/-! ## Parking, and the move of trailers to other log pages -/

theorem State.park_plot (s : State) : (s.park nsid zi).plot nsid zi = s.plot nsid zi :=
  (State.modZone_plot_same _ (by intro; rfl) (by intro; rfl)).trans <| State.plot_of_nss <|
    (each_view State.nss _ (fun _ _ => (State.nss_storeBlind.log _ _ _).trans (State.nss_storeBlind.rescueRun _ _ _ _ _)) _ _).trans
      (State.nss_storeBlind.sealHeld _ _)

theorem State.moveTrailers_plot (s : State) (f : Zone → List (Nat × Nat)) :
    (s.modNss fun l => l.map fun n => { n with zones := n.zones.map fun z => { z with trailerAt := f z } }).plot nsid zi = s.plot nsid zi := by
  have found : (s.modNss fun l => l.map fun n => { n with zones := n.zones.map fun z => { z with trailerAt := f z } }).ns? nsid =
      (s.ns? nsid).map fun n => { n with zones := n.zones.map fun z => { z with trailerAt := f z } } := by
    simp only [State.ns?, State.modNss, List.find?_map]
    rfl
  unfold State.plot
  rw [found, Option.map_map]
  congr 1
  funext n
  simp only [Function.comp, Namespace.bare, Namespace.zone, List.find?_map]
  cases n.zones.find? (·.zi == zi) <;> rfl

theorem State.appendLog_plot (s : State) (x pages : Nat) : (s.appendLog x pages).plot nsid zi = s.plot nsid zi := by
  refine (State.plot_of_nss (State.nss_storeBlind.luns _ _)).trans (each_view (State.plot · nsid zi) _ (fun s k => ?_) _ _)
  exact (State.plot_of_nss (State.nss_storeBlind.luns _ _)).trans ((State.moveTrailers_plot _ _).trans (State.plot_of_nss
    (each_view State.nss _ (fun _ _ => State.nss_storeBlind.checkpoint _ _) _ _)))

theorem State.detachTrailer_plot (s : State) (m blocks : Nat) : (s.detachTrailer nsid zi m blocks).plot nsid zi = s.plot nsid zi :=
  each_view (State.plot · nsid zi) _ (fun _ _ => (State.modZone_plot_same _ (by intro; rfl) (by intro; rfl)).trans (State.appendLog_plot _ _ _)) _ _

/-! ## Entering a state -/

theorem State.setZone_plot (s : State) (into : ZoneState) :
    (s.setZone nsid zi into).plot nsid zi = (s.plot nsid zi).map (Prod.map id fun z => { z with state := into }) := by
  have entered : ((s.modZone nsid zi fun z => { z with state := into }).logZone nsid zi).plot nsid zi =
      (s.plot nsid zi).map (Prod.map id fun z => { z with state := into }) := s.modZone_plot (by intro; rfl) (by intro; rfl)
  unfold State.setZone
  dsimp only
  split
  · exact (State.park_plot _).trans entered
  · exact entered

theorem State.setZone_state {n : Namespace} (found : s.ns? nsid = some n) (into : ZoneState) : ((s.setZone nsid zi into).zone nsid zi).state = into := by
  have entered := s.setZone_plot (nsid := nsid) (zi := zi) into
  rw [State.plot_of_ns? found] at entered
  simpa using congrArg Zone.state (State.zone_of_plot entered)

/-- Close (R110, R113). -/
theorem State.closeZone_state {n : Namespace} (found : s.ns? nsid = some n) : ((s.closeZone nsid zi).zone nsid zi).state =
    if (n.zone zi).wp = 0 ∧ (n.zone zi).extValid = false then .empty else .closed := by
  unfold State.closeZone
  dsimp only
  rw [State.zone_of_ns? found]
  by_cases fresh : (n.zone zi).wp = 0 ∧ (n.zone zi).extValid = false
  · have released : (each (n.zone zi).segs State.releaseSegment s).ns? nsid = some n := by
      rw [State.ns?, State.nss_storeBlind.releaseSegments]
      exact found
    rw [if_pos (by simp [fresh]), if_pos fresh]
    exact congrArg Zone.state (State.modZone_zone released zi (n.zone_zi zi))
  · rw [if_neg (by simpa using fresh), if_neg fresh]
    exact State.setZone_state found _

/-- A zone that leaves Empty keeps its extension, and enters its state where its class is defined. -/
theorem State.leaveEmpty_plot (s : State) (n : Namespace) (zi c : Nat) (into : ZoneState) : ∃ g : Zone → Zone,
    (∀ z, (g z).ext = z.ext ∧ (g z).extValid = z.extValid ∧ ((s.classFields n c).isSome = true → (g z).state = into)) ∧
    (s.leaveEmpty n zi c into).plot n.nsid zi = (s.plot n.nsid zi).map (Prod.map id g) := by
  have took := State.nss_storeBlind.takeGen s
  unfold State.leaveEmpty
  cases fields : s.classFields n c with
  | none => exact ⟨id, fun _ => ⟨rfl, rfl, nofun⟩, by simp⟩
  | some k =>
    dsimp only
    generalize s.takeGen = gen at took ⊢
    generalize gen.2.chooseHome k.affinity = home
    have left (t u : State) (f : Zone → Zone) (same : ∀ z, (f z).zi = z.zi) (reads : ∀ z, (f z).core = f z.core)
        (h : u.nss = (t.modZone n.nsid zi f).nss) (kept : t.nss = s.nss) : u.plot n.nsid zi = (s.plot n.nsid zi).map (Prod.map id f) := by
      rw [State.plot_of_nss h, t.modZone_plot same reads, State.plot_of_nss kept]
    refine ⟨?g, ?props, ?plot⟩
    case plot =>
      refine left gen.2 _ _ ?_ ?_ ?_ took
      case refine_3 =>
        split
        · exact State.nss_storeBlind.log _ _ _
        · refine (State.nss_storeBlind.sendOp _ _ _ _ _).trans ((State.nss_storeBlind.peer _ _).trans ?_)
          split
          · exact State.nss_storeBlind.log _ _ _
          · exact (State.nss_storeBlind.keys _ _).trans (State.nss_storeBlind.log _ _ _)
      · exact fun _ => rfl
      · exact fun _ => rfl
    case props => exact fun z => ⟨rfl, rfl, fun _ => rfl⟩

/-! ## Finish (R117) -/

/-- The state in which a zone is finished: an Empty one has left Empty first. -/
def State.toFinish (s : State) (n : Namespace) (zi : Nat) : State :=
  if (n.zone zi).state == .empty then
    s.leaveEmpty n zi (if (s.classFields n (n.zoneClass (n.zone zi))).isSome then n.zoneClass (n.zone zi) else n.cls) .closed
  else s

/-- A finished zone: Full at its pointer. -/
def Zone.finished (zfc : Bool) (z : Zone) : Zone := { z with written := z.wp, zfc := zfc, state := .full }

section
variable (zfc : Bool) (z : Zone)
@[simp] theorem Zone.finished_state : (z.finished zfc).state = .full := rfl
@[simp] theorem Zone.finished_zfc : (z.finished zfc).zfc = zfc := rfl
@[simp] theorem Zone.finished_written : (z.finished zfc).written = z.wp := rfl
@[simp] theorem Zone.finished_wp : (z.finished zfc).wp = z.wp := rfl
@[simp] theorem Zone.finished_gen : (z.finished zfc).gen = z.gen := rfl
end

theorem State.finishZone_plot (s : State) (n : Namespace) (zi : Nat) (zfc : Bool) :
    (s.finishZone n zi zfc).plot n.nsid zi = ((s.toFinish n zi).plot n.nsid zi).map (Prod.map id (Zone.finished zfc)) := by
  unfold State.finishZone
  extract_lets z₀ c s₁ z p w o last left t lastSeg det within s₂ s₃
  have begun : s₁ = s.toFinish n zi := rfl
  have trailed : s₂.plot n.nsid zi = s₁.plot n.nsid zi := by
    simp only [s₂]
    split
    · rfl
    · split
      · rfl
      · have moved (t : State) (d : Bool) (f : Segment → Segment) (q : Nat) :
            ((t.modSeg q f).modZone n.nsid zi fun z => { z with detached := d, trailerAt := [] }).plot n.nsid zi = t.plot n.nsid zi :=
          (State.modZone_plot_same _ (by intro; rfl) (by intro; rfl)).trans (State.plot_of_nss (State.nss_storeBlind.modSeg _ _ _))
        split
        · exact (State.detachTrailer_plot _ _ _).trans (moved _ _ _ _)
        · exact moved _ _ _ _
  refine (State.setZone_plot _ _).trans ?_
  rw [State.modZone_plot (g := fun z => { z with written := o, zfc := zfc }) _ (by intro; rfl) (by intro; rfl), trailed, ← begun, Option.map_map]
  cases e : s₁.plot n.nsid zi with
  | none => rfl
  | some x =>
    have pointer : o = x.2.wp := by simpa using congrArg Zone.wp (State.zone_of_plot (m := x.1) (z := x.2) e)
    simp [Function.comp, pointer, Zone.finished, Prod.map]
end

end Sys2Proof.Machine
end

section
/-! SUPPORT. The release of a zone (R114, R115) and the finish by the device (R99, R113, R232). -/

namespace Sys2Proof.Machine

section
variable {s : State} {n : Namespace} {zi : Nat} (found : s.ns? n.nsid = some n)
include found

/-- An active zone, or an Empty one, that is finished. -/
theorem State.finishZone_full (zfc : Bool) : ((s.finishZone n zi zfc).zone n.nsid zi).state = .full ∧ ((s.finishZone n zi zfc).zone n.nsid zi).zfc = zfc := by
  have there : ∃ x, (s.toFinish n zi).plot n.nsid zi = some x := by
    unfold State.toFinish
    split
    · obtain ⟨g, -, left⟩ := s.leaveEmpty_plot n zi (if (s.classFields n (n.zoneClass (n.zone zi))).isSome then n.zoneClass (n.zone zi) else n.cls) .closed
      exact ⟨_, left.trans (congrArg _ (State.plot_of_ns? found))⟩
    · exact ⟨_, State.plot_of_ns? found⟩
  obtain ⟨x, there⟩ := there
  have finished := s.finishZone_plot n zi zfc
  rw [there] at finished
  have core := State.zone_of_plot finished
  exact ⟨by simpa using congrArg Zone.state core, by simpa using congrArg Zone.zfc core⟩

theorem State.finishZone_plot_used (used : (n.zone zi).state ≠ .empty) (zfc : Bool) :
    (s.finishZone n zi zfc).plot n.nsid zi = some (n.bare, (n.zone zi).core.finished zfc) := by
  have same : s.toFinish n zi = s := if_neg (by simpa using used)
  rw [State.finishZone_plot, same, State.plot_of_ns? found]
  rfl

theorem State.finishZone_used (used : (n.zone zi).state ≠ .empty) (zfc : Bool) :
    ((s.finishZone n zi zfc).zone n.nsid zi).written = (n.zone zi).wp ∧ ((s.finishZone n zi zfc).zone n.nsid zi).gen = (n.zone zi).gen := by
  have core := State.zone_of_plot (State.finishZone_plot_used found used zfc)
  exact ⟨by simpa using congrArg Zone.written core, by simpa using congrArg Zone.gen core⟩
end

/-! ## The finish by the device -/

theorem State.notifyZone_nss (s : State) (nsid zi : Nat) : (s.notifyZone nsid zi).nss =
    (s.modNs nsid fun n => { n with changed := dedupN (n.changed ++ [zi]) }).nss := by
  unfold State.notifyZone
  dsimp only
  split
  · rfl
  · refine each_view State.nss _ (fun s f => ?_) _ _
    split
    · exact (State.nss_storeBlind.asyncEvent _ _ _ _).trans (State.nss_storeBlind.asyncEvent _ _ _ _)
    · exact State.nss_storeBlind.asyncEvent _ _ _ _

theorem State.finishByDevice_full {s : State} {n : Namespace} {zi : Nat} (found : s.ns? n.nsid = some n) :
    ((s.finishByDevice n zi).zone n.nsid zi).state = .full ∧ ((s.finishByDevice n zi).zone n.nsid zi).zfc = true ∧
    ∃ m, (s.finishByDevice n zi).ns? n.nsid = some m ∧ zi ∈ m.changed := by
  have finished := State.finishZone_full (zi := zi) found true
  have notified : (s.finishByDevice n zi).ns? n.nsid =
      ((s.finishZone n zi true).ns? n.nsid).map fun n => { n with changed := dedupN (n.changed ++ [zi]) } := by
    have raised := State.nss_storeBlind.raise (s.finishZone n zi true) 594 5 2 [n.nsid, zi] 0xFFFF
    have told := ((s.finishZone n zi true).raise 594 5 2 [n.nsid, zi]).notifyZone_nss n.nsid zi
    rw [State.modNs, State.modNss_nss, raised] at told
    rw [State.ns?, State.finishByDevice, told]
    exact (s.finishZone n zi true).modNs_ns? n.nsid fun _ => rfl
  cases e : (s.finishZone n zi true).ns? n.nsid with
  | none =>
    rw [State.zone, e] at finished
    exact absurd finished.1 (by simp)
  | some m =>
    rw [e] at notified
    rw [State.zone_of_ns? e] at finished
    rw [State.zone_of_ns? notified]
    exact ⟨finished.1, finished.2, _, notified, mem_dedupN.mpr (by simp)⟩

/-! ## The commit of a release -/

/-- An LBA of a zone of a namespace. -/
def State.inZone (s : State) (n : Namespace) (zi x lba : Nat) : Bool :=
  x == n.nsid && decide (zi * n.zoneSize s.profile ≤ lba) && decide (lba < zi * n.zoneSize s.profile + n.zoneSize s.profile)

/-- The blocks and the losses at the places `p` are gone. -/
def State.cleared (s : State) (p : Nat → Nat → Bool) : State :=
  (s.dropBlocks fun b => p b.nsid b.lba).modMedia fun m => { m with ledger := m.ledger.filter fun e => ! p e.nsid e.lba }

theorem State.stock_cleared {t : State} (s : State) {p : Nat → Nat → Bool} (h : t.stock = (s.cleared p).stock) :
    t.nss = s.nss ∧ (∀ b ∈ t.media.blocks, p b.nsid b.lba = false) ∧ ∀ e ∈ t.media.ledger, p e.nsid e.lba = false := by
  simp only [State.stock, Prod.mk.injEq] at h
  obtain ⟨nss, blocks, ledger⟩ := h
  rw [blocks, ledger]
  exact ⟨nss, fun b mem => by simpa using (List.mem_filter.mp mem).2, fun e mem => by simpa using (List.mem_filter.mp mem).2⟩

/-- The commit ends what was written to the zone, and then its map entry returns to the initial condition: no block and no loss of it is left. -/
theorem State.commitRelease_eq {s t : State} {n : Namespace} {zi : Nat} {into : ZoneState} (found : s.ns? n.nsid = some n)
    (used : (n.zone zi).state ≠ .empty) (online : (n.zone zi).state ≠ .offline) (h : s.commitRelease n.nsid zi (n.zone zi).gen into = t) :
    ∃ u : State, t = u.modZone n.nsid zi (fun z => { zi := z.zi, state := into, safe := into, cls := n.cls, gen := (n.zone zi).gen }) ∧
      u.nss = s.nss ∧ (∀ b ∈ u.media.blocks, s.inZone n zi b.nsid b.lba = false) ∧ (∀ e ∈ u.media.ledger, s.inZone n zi e.nsid e.lba = false) := by
  unfold State.commitRelease at h
  rw [found] at h
  dsimp -zeta only at h
  extract_lets z zs lo inZone here s₁ s₂ s₃ s₄ s₅ s₆ at h
  rw [if_neg (by simp [z, used, online])] at h
  have ended : s₁.nss = s.nss := each_view State.nss _ (fun s c => by
    split
    · exact State.nss_storeBlind.conclude _ _ _ _ _ _
    · exact (State.nss_storeBlind.conclude _ _ _ _ _ _).trans ((State.nss_storeBlind.modCmd _ _ _).trans (State.nss_storeBlind.dropReqs _ _))) _ _
  have released : s₂.nss = s₁.nss := State.nss_storeBlind.releaseSegments _ _
  have mirrored : s₅.stock = s₄.stock := by
    simp only [s₅]
    split
    · exact (State.stock_logBlind.sendOp _ _ _ _ _).trans (State.stock_logBlind.peer _ _)
    · rfl
  have told : s₆.stock = s₅.stock :=
    each_view State.stock _ (fun _ _ => (State.stock_logBlind.sendOp _ _ _ _ _).trans (State.stock_logBlind.peer _ _)) _ _
  have cleared : s₆.retireRescue.stock = (s₂.cleared (s.inZone n zi)).stock :=
    (State.stock_logBlind.retireRescue _).trans (told.trans mirrored)
  obtain ⟨nss, gone⟩ := State.stock_cleared s₂ cleared
  exact ⟨s₆.retireRescue, h.symm, nss.trans (released.trans ended), gone⟩

theorem not_inZone {s : State} {n : Namespace} {zi x lba : Nat} (out : s.inZone n zi x lba = false) (own : x = n.nsid) :
    ¬ (zi * n.zoneSize s.profile ≤ lba ∧ lba < zi * n.zoneSize s.profile + n.zoneSize s.profile) := by
  rintro ⟨lo, hi⟩
  simp [State.inZone, own, lo, hi] at out

/-- What is left of a zone whose release has committed (R114, R115). -/
theorem State.commitRelease_leaves {s : State} {n : Namespace} {zi : Nat} (into : ZoneState) (found : s.ns? n.nsid = some n)
    (used : (n.zone zi).state ≠ .empty) (online : (n.zone zi).state ≠ .offline) :
    (s.commitRelease n.nsid zi (n.zone zi).gen into).zone n.nsid zi = { zi := zi, state := into, safe := into, cls := n.cls, gen := (n.zone zi).gen } ∧
    (∀ b ∈ (s.commitRelease n.nsid zi (n.zone zi).gen into).media.blocks, b.nsid = n.nsid →
      ¬ (zi * n.zoneSize s.profile ≤ b.lba ∧ b.lba < zi * n.zoneSize s.profile + n.zoneSize s.profile)) ∧
    (∀ e ∈ (s.commitRelease n.nsid zi (n.zone zi).gen into).media.ledger, e.nsid = n.nsid →
      ¬ (zi * n.zoneSize s.profile ≤ e.lba ∧ e.lba < zi * n.zoneSize s.profile + n.zoneSize s.profile)) := by
  obtain ⟨u, e, nss, blocks, ledger⟩ := State.commitRelease_eq (into := into) found used online rfl
  have found' : u.ns? n.nsid = some n := by rw [State.ns?, nss]; exact found
  rw [e]
  refine ⟨?_, fun b mem => not_inZone (blocks b mem), fun l mem => not_inZone (ledger l mem)⟩
  rw [State.modZone_zone found' zi (n.zone_zi zi), n.zone_zi]

end Sys2Proof.Machine
end

section
/-! SUPPORT. The zone management actions (R97, R110, R112): each action by the state of its zone, and the commands that run them. -/

namespace Sys2Proof.Machine

theorem State.takeResources_free (s : State) {n : Namespace} {a o : Bool} (m : Bool) (active : a = true → n.activeZones < n.active)
    (opens : o = true → n.openZones < n.open_) : s.takeResources n a o m = (s, none) := by
  rw [State.takeResources, if_neg (by simpa using active), if_neg (by simpa using opens)]

/-- A zone with a descriptor extension. -/
def Zone.extended (z : Zone) (x : Wide) : Zone := { z with ext := x, extValid := true }

@[simp] theorem Zone.extended_ext (z : Zone) (x : Wide) : (z.extended x).ext = x := rfl
@[simp] theorem Zone.extended_extValid (z : Zone) (x : Wide) : (z.extended x).extValid = true := rfl

/-- A namespace one of whose zones has a descriptor extension. -/
def Namespace.extend (n : Namespace) (zi : Nat) (x : Wide) : Namespace := n.modZone zi fun _ => (n.zone zi).extended x

@[simp] theorem Namespace.extend_nsid (n : Namespace) (zi : Nat) (x : Wide) : (n.extend zi x).nsid = n.nsid := rfl

theorem Namespace.extend_zone (n : Namespace) (zi : Nat) (x : Wide) : (n.extend zi x).zone zi = (n.zone zi).extended x :=
  n.modZone_zone zi (f := fun _ => (n.zone zi).extended x) (n.zone_zi zi)

/-! ## One zone -/

section
variable {s : State} {n : Namespace} {zi : Nat} (found : s.ns? n.nsid = some n)
include found

theorem State.zoneAction_close_open (opened : (n.zone zi).state.isOpen = true) : s.zoneAction n.nsid zi .close = (s.closeZone n.nsid zi, stOk) := by
  rcases ZoneState.isOpen_iff.mp opened with e | e <;> simp [State.zoneAction, found, e]

theorem State.zoneAction_close_refused (notClosed : (n.zone zi).state ≠ .closed) (notOpen : (n.zone zi).state.isOpen = false) :
    s.zoneAction n.nsid zi .close = (s, stZoneTransition) := by
  cases e : (n.zone zi).state <;> simp_all [State.zoneAction, ZoneState.isOpen]

theorem State.zoneAction_finish (may : (n.zone zi).state = .empty ∨ (n.zone zi).state.active = true) :
    s.zoneAction n.nsid zi .finish = (s.finishZone n zi false, stOk) := by
  rw [ZoneState.active_iff] at may
  rcases may with e | e | e | e <;> simp [State.zoneAction, found, e]

theorem State.zoneAction_reset (may : (n.zone zi).state.active = true ∨ (n.zone zi).state = .full) :
    s.zoneAction n.nsid zi .reset = (s.requestRelease n.nsid zi .empty, stOk) := by
  rw [ZoneState.active_iff] at may
  rcases may with (e | e | e) | e <;> simp [State.zoneAction, found, e]

theorem State.zoneAction_offline (may : (n.zone zi).state = .readOnly) : s.zoneAction n.nsid zi .offline = (s.requestRelease n.nsid zi .offline, stOk) := by
  simp [State.zoneAction, found, may]

theorem State.requestRelease_eq (into : ZoneState) : s.requestRelease n.nsid zi into =
    (s.log (n.zone zi).home (.zoneRelease n.nsid zi (n.zone zi).gen into.value)).log 8 (.zoneRelease n.nsid zi (n.zone zi).gen into.value) := by
  rw [State.requestRelease, State.zone_of_ns? found]

theorem State.zoneAction_done (a : ZoneAction) (done : (a, (n.zone zi).state) ∈ [(.reset, .empty), (.finish, .full), (.offline, ZoneState.offline)]) :
    s.zoneAction n.nsid zi a = (s, stOk) := by
  simp only [List.mem_cons, Prod.mk.injEq, List.not_mem_nil, or_false] at done
  rcases done with ⟨rfl, e⟩ | ⟨rfl, e⟩ | ⟨rfl, e⟩ <;> simp [State.zoneAction, found, e]

theorem State.zoneAction_lost (lost : (n.zone zi).state = .readOnly ∨ (n.zone zi).state = .offline) :
    s.zoneAction n.nsid zi .finish = (s, stZoneTransition) ∧ s.zoneAction n.nsid zi .reset = (s, stZoneTransition) := by
  rcases lost with e | e <;> simp [State.zoneAction, found, e]

theorem State.zoneAction_offline_refused (notReadOnly : (n.zone zi).state ≠ .readOnly) (notOffline : (n.zone zi).state ≠ .offline) :
    s.zoneAction n.nsid zi .offline = (s, stZoneTransition) := by
  cases e : (n.zone zi).state <;> simp_all [State.zoneAction]

/-! Open (R41, R110, R122). -/

theorem State.zoneAction_open_refused (ended : (n.zone zi).state = .full ∨ (n.zone zi).state = .readOnly ∨ (n.zone zi).state = .offline) :
    s.zoneAction n.nsid zi .openZ = (s, stZoneTransition) := by
  rcases ended with e | e | e <;> simp [State.zoneAction, found, e]

theorem State.zoneAction_open_implicit (e : (n.zone zi).state = .implicitOpen) :
    s.zoneAction n.nsid zi .openZ = (s.setZone n.nsid zi .explicitOpen, stOk) := by
  simp [State.zoneAction, found, e]

theorem State.zoneAction_open_barred (e : (n.zone zi).state = .closed) (barred : s.needsBarred (n.zone zi) 1 = true) :
    s.zoneAction n.nsid zi .openZ = (s, stClassUnavailable) := by
  simp [State.zoneAction, found, e, barred]

theorem State.zoneAction_open_full (e : (n.zone zi).state = .closed) (free : s.needsBarred (n.zone zi) 1 = false) (full : n.open_ ≤ n.openZones) :
    s.zoneAction n.nsid zi .openZ = (s, stTooManyOpen) := by
  simp [State.zoneAction, found, e, free, State.takeResources, full]

theorem State.zoneAction_open_closed (e : (n.zone zi).state = .closed) (free : s.needsBarred (n.zone zi) 1 = false) (room : n.openZones < n.open_) :
    s.zoneAction n.nsid zi .openZ = (s.setZone n.nsid zi .explicitOpen, stOk) := by
  have taken := s.takeResources_free (a := false) (o := true) false nofun fun _ => room
  simp [State.zoneAction, found, e, free, taken]

theorem State.zoneActionAll_open_full
    (few : n.open_ - n.openZones < ((List.range n.zoneCount).filter fun zi => (n.zone zi).state == .closed).length) :
    s.zoneActionAll n.nsid .openZ = (s, stTooManyOpen) := by
  simp [State.zoneActionAll, found, ZoneAction.selects, few]

/-! Set Zone Descriptor Extension (R110, R127, R128). -/

variable {x : Wide} (clear : n.pie = true → x.toNat / 2 ^ 9 % 2 ^ 23 = 0)
include clear

theorem State.setExtension_used (used : (n.zone zi).state ≠ .empty) : s.setExtension n.nsid zi x = (s, stZoneTransition) := by
  simp only [State.setExtension, found]
  rw [if_neg (by simpa using clear), if_pos (by simpa using used)]

theorem State.setExtension_empty (empty : (n.zone zi).state = .empty) (room : n.activeZones < n.active) (writable : s.media.readPreserve = false)
    (allowed : s.classCheck n (n.zoneClass ((n.zone zi).extended x)) = none) (key : s.sealCheck n (s.currentKey n) 0 = none) :
    ∃ t, s.setExtension n.nsid zi x = (t, stOk) ∧ (t.zone n.nsid zi).state = .closed ∧ (t.zone n.nsid zi).ext = x ∧
      (t.zone n.nsid zi).extValid = true := by
  let u := s.modZone n.nsid zi fun _ => (n.zone zi).extended x
  have marked : u.ns? n.nsid = some (n.extend zi x) := (s.modZone_ns? n.nsid zi _).trans (congrArg _ found)
  have fields : (s.classFields n (n.zoneClass ((n.zone zi).extended x))).isSome = true := by
    unfold State.classCheck at allowed
    cases e : s.classFields n (n.zoneClass ((n.zone zi).extended x)) with
    | none => simp [e] at allowed
    | some k => rfl
  refine ⟨u.leaveEmpty (n.extend zi x) zi (n.zoneClass ((n.zone zi).extended x)) .closed, ?runs, ?_⟩
  case runs =>
    unfold State.setExtension
    simp only [found]
    rw [if_neg (by simpa using clear), if_neg (by simp [empty])]
    rw [show s.classCheck n (n.zoneClass { n.zone zi with ext := x, extValid := true }) = none from allowed]
    rw [s.takeResources_free (a := true) (o := false) false (fun _ => room) nofun]
    dsimp only
    rw [if_neg (by simp [writable]), key]
    dsimp only
    rw [show (s.modZone n.nsid zi fun _ => { n.zone zi with ext := x, extValid := true }).ns? n.nsid = some (n.extend zi x) from marked]
    rfl
  · obtain ⟨g, keeps, left⟩ := u.leaveEmpty_plot (n.extend zi x) zi (n.zoneClass ((n.zone zi).extended x)) .closed
    obtain ⟨ext, extValid, enters⟩ := keeps ((n.zone zi).extended x).core
    have plot := left.trans (congrArg _ (State.plot_of_ns? (zi := zi) marked))
    rw [Namespace.extend_zone] at plot
    have core := State.zone_of_plot plot
    rw [Namespace.extend_nsid] at core
    exact ⟨by simpa using (congrArg Zone.state core).trans (enters fields), by simpa using (congrArg Zone.ext core).trans ext,
      by simpa using (congrArg Zone.extValid core).trans extValid⟩
end

/-! ## The commands -/

theorem State.demandFor_eq (s : State) (ms : List Nat) : (s.demandFor ms).nss = s.nss ∧ (s.demandFor ms).media = s.media ∧
    (s.demandFor ms).masts = s.masts ∧ (s.demandFor ms).clk = s.clk ∧ (s.demandFor ms).io = s.io :=
  ⟨each_view State.nss State.demandMast (fun _ _ => rfl) _ _, each_view State.media State.demandMast (fun _ _ => rfl) _ _, each_view State.masts State.demandMast (fun _ _ => rfl) _ _,
    each_view State.clk State.demandMast (fun _ _ => rfl) _ _, each_view State.io State.demandMast (fun _ _ => rfl) _ _⟩

theorem State.demandFor_ns? (s : State) (ms : List Nat) (id : Nat) : (s.demandFor ms).ns? id = s.ns? id := by
  rw [State.ns?, (s.demandFor_eq ms).1]
  rfl

/-- The home mast of a zone, or those of all zones, are asked for (R129). -/
def State.demandHome (s : State) (n : Namespace) (zi : Nat) : State := s.demandFor (if (n.zone zi).homed then [(n.zone zi).home] else [])
def State.demandHomes (s : State) (n : Namespace) : State := s.demandFor ((n.zones.filter fun z => z.homed).map fun z => z.home)

theorem State.demandHome_ns? (s : State) (n : Namespace) (zi id : Nat) : (s.demandHome n zi).ns? id = s.ns? id := s.demandFor_ns? _ _

section
variable {s : State} {c : Cmd} {h : NvmeHdr} {n : Namespace}

theorem State.ns?_of_ioNs (found : s.ioNs c = some n) : s.ns? n.nsid = some n := by
  obtain ⟨m, at_, e⟩ := Option.bind_eq_some_iff.mp found
  split at e
  · cases e
    rw [State.ns?_nsid at_]
    exact at_
  · cases e

theorem State.ioNs_of_zonedNs (zoned : s.zonedNs c = .ok n) : s.ioNs c = some n := by
  unfold State.zonedNs at zoned
  split at zoned
  · cases zoned
  · split at zoned
    · cases zoned
    · cases zoned
      assumption

/-! What a row of the table runs. -/

section
variable {slba : Nat} {all : Bool}
theorem State.runOther_closeZone (op : c.op = .closeZone h slba all) : s.runOther c = s.zoneSend c .close slba all := by rw [State.runOther, op]
theorem State.runOther_openZone (op : c.op = .openZone h slba all) : s.runOther c = s.zoneSend c .openZ slba all := by rw [State.runOther, op]
theorem State.runOther_finishZone (op : c.op = .finishZone h slba all) : s.runOther c = s.zoneSend c .finish slba all := by rw [State.runOther, op]
theorem State.runOther_resetZone (op : c.op = .resetZone h slba all) : s.runOther c = s.zoneSend c .reset slba all := by rw [State.runOther, op]
theorem State.runOther_offlineZone (op : c.op = .offlineZone h slba all) : s.runOther c = s.zoneSend c .offline slba all := by
  rw [State.runOther, op]
end

/-- Finish, Reset and Offline wait for the record that they write (R115, R117). -/
def ZoneAction.waits (a : ZoneAction) : Bool := a == .finish || a == .reset || a == .offline

section
variable (zoned : s.zonedNs c = .ok n)
include zoned

theorem State.zoneSend_one {slba zi : Nat} (at_ : s.zoneAt n slba = .ok zi) (a : ZoneAction) : s.zoneSend c a slba false =
    s.endZoneCmd ((s.demandHome n zi).zoneAction n.nsid zi a).1 c.id ((s.demandHome n zi).zoneAction n.nsid zi a).2 a.waits := by
  simp only [State.zoneSend, zoned, at_]
  rfl

theorem State.zoneSend_all (slba : Nat) (a : ZoneAction) : s.zoneSend c a slba true =
    s.endZoneCmd ((s.demandHomes n).zoneActionAll n.nsid a).1 c.id ((s.demandHomes n).zoneActionAll n.nsid a).2 a.waits := by
  simp only [State.zoneSend, zoned]
  rfl

theorem State.runOther_extension {slba zi : Nat} {x : Wide} (op : c.op = .setZoneDescriptorExtension h slba x false)
    (at_ : s.zoneAt n slba = .ok zi) :
    s.runOther c = ((s.demandHome n zi).setExtension n.nsid zi x).1.conclude c.id ((s.demandHome n zi).setExtension n.nsid zi x).2 := by
  simp only [State.runOther, op, State.zoneExtension, zoned, at_]
  rfl

theorem State.zoneInvalid_zoned : s.zoneInvalid c = s.conclude c.id stInvalidField := by
  rw [State.zoneInvalid, zoned]

theorem State.zoneReceive_gives {slba f : Nat} (part : Bool) (k : Nat) (x : Bool) (inside : slba < n.blocks s.profile) (known : f ≤ 7) :
    s.zoneReceive c slba f part k x = s.giveData c.id (s.reportZones n slba f part k x) := by
  simp only [State.zoneReceive, zoned]
  rw [if_neg (Nat.not_le.mpr inside), if_neg (Nat.not_lt.mpr known)]
end
end

/-- Settles O44, clause by clause: what a row runs, and the action by the state of its zone. -/
theorem zoneManagement : Obligations.ZoneManagement := by
  unfold Obligations.ZoneManagement
  refine ⟨?one, ?all, ?demand, ?close, ?finish, ?release, ?commit, ?opens, ?openClosed, ?refused, ?openAll, ?extension, ?invalid, ?report, ?counts,
    ?device⟩
  case one =>
    rintro s _ c h slba zi n zoned at_ rfl
    refine ⟨fun op => ?_, fun op => ?_, fun op => ?_, fun op => ?_, fun op => ?_⟩
    · exact (State.runOther_closeZone op).trans (State.zoneSend_one zoned at_ _)
    · exact (State.runOther_openZone op).trans (State.zoneSend_one zoned at_ _)
    · exact (State.runOther_finishZone op).trans (State.zoneSend_one zoned at_ _)
    · exact (State.runOther_resetZone op).trans (State.zoneSend_one zoned at_ _)
    · exact (State.runOther_offlineZone op).trans (State.zoneSend_one zoned at_ _)
  case all =>
    rintro s _ c h slba n zoned rfl
    refine ⟨fun op => ?_, fun op => ?_, fun op => ?_, fun op => ?_, fun op => ?_⟩
    · exact (State.runOther_closeZone op).trans (State.zoneSend_all zoned _ _)
    · exact (State.runOther_openZone op).trans (State.zoneSend_all zoned _ _)
    · exact (State.runOther_finishZone op).trans (State.zoneSend_all zoned _ _)
    · exact (State.runOther_resetZone op).trans (State.zoneSend_all zoned _ _)
    · exact (State.runOther_offlineZone op).trans (State.zoneSend_all zoned _ _)
  case demand => exact fun ms s => s.demandFor_eq ms
  case close =>
    intro s n zi found opened
    rw [State.zoneAction_close_open found opened]
    exact ⟨rfl, State.closeZone_state found⟩
  case finish =>
    intro s n zi found may
    rw [State.zoneAction_finish found may]
    have full := State.finishZone_full (zi := zi) found false
    exact ⟨rfl, full.1, full.2, fun used => State.finishZone_used found used false⟩
  case release =>
    refine fun s n zi found => ⟨fun may => ?_, fun may => ?_, fun e => ?_, fun e => ?_, fun e => ?_⟩
    · rw [State.zoneAction_reset found may, State.requestRelease_eq found]
      rfl
    · rw [State.zoneAction_offline found may, State.requestRelease_eq found]
      rfl
    · exact State.zoneAction_done found _ (by simp [e])
    · exact State.zoneAction_done found _ (by simp [e])
    · exact State.zoneAction_done found _ (by simp [e])
  case commit => exact fun s n zi into found used online => State.commitRelease_leaves into found used online
  case opens =>
    rintro s n zi found (e | ⟨e, room, free⟩)
    · rw [State.zoneAction_open_implicit found e]
      exact ⟨rfl, State.setZone_state found _⟩
    · rw [State.zoneAction_open_closed found e free room]
      exact ⟨rfl, State.setZone_state found _⟩
  case openClosed => exact fun s n zi found e => ⟨State.zoneAction_open_barred found e, State.zoneAction_open_full found e⟩
  case refused =>
    exact fun s n zi found => ⟨fun ⟨notClosed, notOpen⟩ => State.zoneAction_close_refused found notClosed notOpen, State.zoneAction_lost found,
      fun ⟨notReadOnly, notOffline⟩ => State.zoneAction_offline_refused found notReadOnly notOffline, State.zoneAction_open_refused found⟩
  case openAll => exact fun s n found few => State.zoneActionAll_open_full found few
  case extension =>
    intro s c h slba zi n x zoned at_ op clear
    have found := State.ns?_of_ioNs (State.ioNs_of_zonedNs zoned)
    rw [State.runOther_extension zoned op at_]
    refine ⟨fun used => ?_, fun empty allowed room writable key => ?_⟩
    · rw [State.setExtension_used ((s.demandHome_ns? n zi _).trans found) clear used]
      rfl
    · have idle : s.demandHome n zi = s := by simp [State.demandHome, Zone.homed, empty, State.demandFor, dedupN, each]
      obtain ⟨t, runs, state, ext, extValid⟩ := State.setExtension_empty found clear empty room writable allowed key
      have kept : (t.conclude c.id stOk).zone n.nsid zi = t.zone n.nsid zi := by
        rw [State.zone, State.ns?, State.nss_storeBlind.conclude]
        rfl
      rw [idle, runs, kept]
      exact ⟨state, ext, extValid⟩
  case invalid =>
    refine fun s c h slba op n x zoned => ⟨fun is => ?_, fun is one => ?_⟩
    · rw [← State.zoneInvalid_zoned zoned, State.runOther, is]
      rfl
    · rw [← State.zoneInvalid_zoned zoned, State.runOther, is]
      exact if_pos (by simpa using one)
  case report =>
    refine fun s c h slba f k part n zoned inside known => ⟨fun op => ?_, fun op => ?_⟩
    · rw [← State.zoneReceive_gives zoned part k false inside known, State.runOther, op]
    · rw [← State.zoneReceive_gives zoned part k true inside known, State.runOther, op]
  case counts => exact fun s n slba f k x => ⟨rfl, by simp [State.reportZones]⟩
  case device => exact fun s n zi found _ => State.finishByDevice_full found

end Sys2Proof.Machine
end

section
/-! SUPPORT. The admission of a write of a zone (R110, R111, R118, R121): the checks in their order, and the blocks that it is assigned at the
write pointer. -/

namespace Sys2Proof.Machine

/-! ## The assignment of blocks -/

theorem Option.foldl_bind_none {α β : Type} (f : α → β → Option α) (l : List β) : l.foldl (fun acc i => acc.bind (f · i)) none = none := by
  induction l with
  | nil => rfl
  | cons i l ih => exact ih

theorem State.zoneCap_bare (s : State) (n : Namespace) (z : Zone) : s.zoneCap n.bare z = s.zoneCap n z := rfl

section
variable {s t : State} {n : Namespace} {zi count : Nat} (found : s.ns? n.nsid = some n)
include found

/-- The segments that a write needs are the one thing that their allocation changes of its zone. -/
theorem State.ensureSegments_plot (ensured : s.ensureSegments n zi count = some t) :
    ∃ segs, t.plot n.nsid zi = some (n.bare, { (n.zone zi).core with segs := segs }) := by
  unfold State.ensureSegments at ensured
  dsimp only at ensured
  generalize (if (count == 0) = true then _ else _) = need at ensured
  have start : s.plot n.nsid zi = some (n.bare, { (n.zone zi).core with segs := (n.zone zi).segs }) := State.plot_of_ns? found
  clear found
  generalize (n.zone zi).segs = segs at start
  induction need generalizing s segs with
  | nil =>
    cases ensured
    exact ⟨segs, start⟩
  | cons i need ih =>
    rw [List.foldl_cons, Option.bind_some] at ensured
    cases allocated : s.allocSegment (zoneProto n (n.zone zi) i) with
    | none =>
      rw [allocated, Option.map_none, Option.foldl_bind_none] at ensured
      cases ensured
    | some a =>
      rw [allocated, Option.map_some] at ensured
      refine ih ensured (segs ++ [a.1]) ?_
      rw [State.modZone_plot (g := fun z => { z with segs := z.segs ++ [a.1] }) _ (by intro; rfl) (by intro; rfl),
        State.plot_of_nss (State.nss_storeBlind.allocSegment s allocated), start]
      rfl

/-- A zone that was assigned blocks: its pointer has moved on by their number, and at its capacity it is Full. -/
theorem State.assignZone_zone {mk : Nat → Stored} (assigned : s.assignZone n.nsid zi count mk = some t) (used : (n.zone zi).state ≠ .empty) :
    (t.zone n.nsid zi).wp = (n.zone zi).wp + count ∧
    ((t.zone n.nsid zi).wp = t.zoneCap n (t.zone n.nsid zi) → (t.zone n.nsid zi).state = .full) := by
  simp only [State.assignZone, found] at assigned
  obtain ⟨u, ensured, rfl⟩ := Option.map_eq_some_iff.mp assigned
  obtain ⟨segs, plot⟩ := State.ensureSegments_plot found ensured
  generalize placing : each (List.range count) _ u = v
  have placed : v.plot n.nsid zi = u.plot n.nsid zi :=
    State.plot_of_nss (placing ▸ each_view State.nss _ (fun s i => State.nss_storeBlind.placeAt s _ _ _ _) _ _)
  have moved : (v.modZone n.nsid zi fun z => { z with
      wp := (n.zone zi).wp + count, lastWrite := v.media.order, lastFrame := v.clk.frame, parked := false }).plot n.nsid zi = _ :=
    v.modZone_plot (g := fun z => { z with
      wp := (n.zone zi).wp + count, lastWrite := v.media.order, lastFrame := v.clk.frame, parked := false }) (by intro; rfl) (by intro; rfl)
  rw [placed, plot] at moved
  generalize v.modZone n.nsid zi _ = w at moved ⊢
  obtain ⟨m, there, bare, core⟩ := State.ns?_of_plot moved
  have bare : m.bare = n.bare := bare
  have own : m.nsid = n.nsid := State.ns?_nsid there
  have pointer : (m.zone zi).wp = (n.zone zi).wp + count := by simpa using congrArg Zone.wp core
  have state : (m.zone zi).state = (n.zone zi).state := by simpa using congrArg Zone.state core
  rw [there]
  dsimp only
  split
  next =>
    rw [← own] at there
    have full := State.zone_of_plot (State.finishZone_plot_used (zi := zi) there (state ▸ used) false)
    rw [own] at full
    have wp := congrArg Zone.wp full
    have state := congrArg Zone.state full
    simp only [Zone.core_wp, Zone.core_state, Zone.finished_wp, Zone.finished_state] at wp state
    exact ⟨wp.trans pointer, fun _ => state⟩
  next less =>
    have same : (w.logZone n.nsid zi).zone n.nsid zi = m.zone zi := State.zone_of_ns? there zi
    rw [same, ← State.zoneCap_bare, ← bare, State.zoneCap_bare]
    exact ⟨pointer, fun cap => absurd (beq_iff_eq.mpr cap) less⟩
end

/-! ## The checks of a write of a zone -/

theorem ZoneState.beq_of_isOpen {t u : ZoneState} (opened : t.isOpen = true) (other : u.isOpen = false) : (t == u) = false := by
  refine beq_eq_false_iff_ne.mpr ?_
  rintro rfl
  rw [opened] at other
  cases other

/-- A state in which a zone takes writes is none of those that end it. -/
theorem ZoneState.beq_of_takes {t u : ZoneState} (takes : t = .empty ∨ t.active = true) (ended : u = .full ∨ u = .readOnly ∨ u = .offline) :
    (t == u) = false := by
  refine beq_eq_false_iff_ne.mpr ?_
  rintro rfl
  rcases ended with rfl | rfl | rfl <;> simp [ZoneState.active] at takes

/-- The check of a Zone Append's length. -/
theorem tooLong_eq (k : WriteKind) (e : Extent) : (k == .append && decide (zasl < e.nlb)) = decide (k = .append ∧ 256 < e.nlb) := by
  rw [Bool.decide_and]
  rfl

section
variable {s : State} {n : Namespace} {k : WriteKind} {e : Extent} (c : Cmd) (held : Bool)

theorem State.judgeZoneWrite_long (long : k = .append ∧ 256 < e.nlb) : s.judgeZoneWrite c n k e held = .fail s stInvalidField none :=
  if_pos (by rw [tooLong_eq, decide_eq_true long])

variable (short : ¬ (k = .append ∧ 256 < e.nlb)) {z : Zone} (at_ : z = n.zone (e.slba / max 1 (n.zoneSize s.profile)))
include short at_

/-! By the state of the zone. -/

theorem State.judgeZoneWrite_full (is : z.state = .full) : s.judgeZoneWrite c n k e held = .fail s stZoneFull none := by
  simp [State.judgeZoneWrite, tooLong_eq, short, ← at_, is]
theorem State.judgeZoneWrite_readOnly (is : z.state = .readOnly) : s.judgeZoneWrite c n k e held = .fail s stZoneReadOnly none := by
  simp [State.judgeZoneWrite, tooLong_eq, short, ← at_, is]
theorem State.judgeZoneWrite_offline (is : z.state = .offline) : s.judgeZoneWrite c n k e held = .fail s stZoneOffline none := by
  simp [State.judgeZoneWrite, tooLong_eq, short, ← at_, is]

/-! By its place. -/

variable (takes : z.state = .empty ∨ z.state.active = true)
include takes

theorem State.judgeZoneWrite_start (app : k = .append) (inside : e.slba % max 1 (n.zoneSize s.profile) ≠ 0) :
    s.judgeZoneWrite c n k e held = .fail s stInvalidField none := by
  have short : ¬ zasl < e.nlb := fun long => short ⟨app, long⟩
  simp only [State.judgeZoneWrite, ← at_, ZoneState.beq_of_takes takes, true_or, or_true, beq_iff_eq.mpr app, decide_eq_false short,
    bne_iff_ne.mpr inside, Bool.and_self, Bool.and_false, Bool.false_eq_true, if_false, if_true]

omit short

theorem State.judgeZoneWrite_pointer (plain : k ≠ .append)
    (off : e.slba ≠ e.slba / max 1 (n.zoneSize s.profile) * max 1 (n.zoneSize s.profile) + z.wp) :
    s.judgeZoneWrite c n k e held = .fail s stZoneWrite none := by
  simp only [State.judgeZoneWrite, ← at_, ZoneState.beq_of_takes takes, true_or, or_true, beq_eq_false_iff_ne.mpr plain, bne_iff_ne.mpr plain,
    bne_iff_ne.mpr off, Bool.and_self, Bool.false_and, Bool.false_eq_true, if_false, if_true]

theorem State.judgeZoneWrite_boundary (plain : k ≠ .append)
    (on : e.slba = e.slba / max 1 (n.zoneSize s.profile) * max 1 (n.zoneSize s.profile) + z.wp) (beyond : s.zoneCap n z < z.wp + e.nlb) :
    s.judgeZoneWrite c n k e held = .fail s stBoundary none := by
  have on := bne_eq_false_iff_eq.mpr on
  simp only [State.judgeZoneWrite, ← at_, ZoneState.beq_of_takes takes, true_or, or_true, beq_eq_false_iff_ne.mpr plain, on, beyond,
    Bool.and_false, Bool.false_and, Bool.false_eq_true, if_false, if_true]
end

/-! A write of an open zone whose place is right. -/

section
variable {s t : State} {n : Namespace} {k : WriteKind} {e : Extent} {z : Zone} {zi base : Nat} (c : Cmd) (held : Bool)

/-- The place of a write is the pointer of its open zone; that of a Zone Append is the zone's start. -/
structure OpenWrite (s : State) (n : Namespace) (k : WriteKind) (e : Extent) (z : Zone) (zi base : Nat) : Prop where
  index : zi = e.slba / max 1 (n.zoneSize s.profile)
  start : base = zi * max 1 (n.zoneSize s.profile)
  zone : z = n.zone zi
  found : s.ns? n.nsid = some n
  opened : z.state.isOpen = true
  short : ¬ (k = .append ∧ 256 < e.nlb)
  place : e.slba = base + if k = .append then 0 else z.wp
  room : z.wp + e.nlb ≤ s.zoneCap n z
  writable : s.media.readPreserve = false

variable (w : OpenWrite s n k e z zi base)
include w

theorem OpenWrite.other_states : (z.state == .full) = false ∧ (z.state == .readOnly) = false ∧ (z.state == .offline) = false ∧
    (z.state == .empty) = false ∧ (z.state == .closed) = false := by
  have other {u : ZoneState} (o : u.isOpen = false) : (z.state == u) = false := ZoneState.beq_of_isOpen w.opened o
  exact ⟨other rfl, other rfl, other rfl, other rfl, other rfl⟩

theorem OpenWrite.append_start : (k == .append && e.slba % max 1 (n.zoneSize s.profile) != 0) = false := by
  cases k <;> simp [w.place, w.start]

theorem OpenWrite.at_pointer : (k != .append && e.slba != base + z.wp) = false := by
  have place := w.place
  cases k <;> simp_all

theorem State.judgeZoneWrite_barred (barred : s.needsBarred z e.nlb = true) : s.judgeZoneWrite c n k e held = .fail s stClassUnavailable none := by
  have free := s.takeResources_free (n := n) (a := false) (o := false) true nofun nofun
  simp only [State.judgeZoneWrite, tooLong_eq, decide_eq_false w.short, ← w.index, ← w.zone, ← w.start, w.append_start, w.at_pointer,
    Nat.not_lt.mpr w.room, w.other_states, w.opened, Bool.not_true, free, w.writable, Bool.not_false, barred,
    Bool.and_self, Bool.false_eq_true, if_false, if_true]

theorem State.judgeZoneWrite_assigned (free : s.needsBarred z e.nlb = false)
    (assigned : s.assignZone n.nsid zi e.nlb (fun i => blockOfWrite n c k e (base + z.wp + i) i) = some t)
    (sealed : s.sealCheck n (some z.keyRef) e.nlb = none) (mirrored : s.mirrorCheck n z = none) :
    s.judgeZoneWrite c n k e held = s.admitWrite t c n k e (base + z.wp) 1 held := by
  have taken := s.takeResources_free (n := n) (a := false) (o := false) true nofun nofun
  simp only [State.judgeZoneWrite, tooLong_eq, decide_eq_false w.short, ← w.index, ← w.zone, ← w.start, w.append_start, w.at_pointer,
    Nat.not_lt.mpr w.room, w.other_states, w.opened, Bool.not_true, taken, w.writable, Bool.not_false, free,
    Bool.and_false, Bool.false_eq_true, if_false, assigned, sealed, mirrored]
end

end Sys2Proof.Machine
end

section
/-! SUPPORT. The admission of the other I/O commands (R96, R101, R118, R121, R145, R166): reads, the deallocation of conventional blocks, and what
admits a write that was assigned its blocks. -/

namespace Sys2Proof.Machine

/-! ## Admission of a write -/

section
variable {s : State} (t : State) {c : Cmd} (n : Namespace) (k : WriteKind) {e : Extent} (lba times : Nat) {held : Bool}

theorem State.admitWrite_share (full : (s.fnRoom c.fn e.nlb && s.classRoom .writeRows e.nlb && s.slotRoom c.fn) = false) :
    s.admitWrite t c n k e lba times held = .hold .share := by
  rw [State.admitWrite, full]
  rfl

variable (room : (s.fnRoom c.fn e.nlb && s.classRoom .writeRows e.nlb && s.slotRoom c.fn) = true)
include room

theorem State.admitWrite_energy (low : held = true ∨ s.nrg.firstDone = false ∨ s.energyAdmits (addedDirty (s.newBlocks t)) = false) :
    s.admitWrite t c n k e lba times held = .hold .energy := by
  have low : (held || ! s.nrg.firstDone || ! s.energyAdmits (addedDirty (s.newBlocks t))) = true := by simpa [or_assoc] using low
  rw [State.admitWrite, room]
  exact if_pos low

theorem State.admitWrite_go (free : held = false) (tested : s.nrg.firstDone = true) (charged : s.energyAdmits (addedDirty (s.newBlocks t)) = true) :
    ∃ u cost, s.admitWrite t c n k e lba times held = .go u cost ∧ cost.units = if k = .zeroes then 1 else e.nlb := by
  rw [State.admitWrite, room, free, tested, charged]
  exact ⟨_, _, rfl, if_congr beq_iff_eq rfl rfl⟩
end

/-! ## Reads -/

/-- The keys and the clock. -/
def State.keysAndClock (s : State) : Keys × Clock := (s.keys, s.clk)

theorem State.keysAndClock_workBlind : WorkBlind State.keysAndClock where
  io _ _ := rfl
  ctrl s f port1 g := by unfold State.modCtrl; split <;> rfl
  counters _ _ _ := rfl
  emit _ _ := rfl
  media _ _ := rfl
  nss _ _ := rfl
  luns _ _ := rfl
  masts _ _ := rfl
  pwr _ _ := rfl
  start _ _ := rfl
  evt _ _ := rfl
  fix _ _ := rfl

section
variable {s : State} {c : Cmd} {e : Extent} (r : Bool)

theorem State.judgeRead_bad {st : NvmeStatus} (bad : s.extentBad c e (transfersData c.op) = some st) : s.judgeRead c e r = .fail s st none := by
  rw [State.judgeRead, bad]

theorem State.judgeRead_untranslated (good : s.extentBad c e (transfersData c.op) = none) (un : c.translated = false) :
    s.judgeRead c e r = .hold .translation := by
  rw [State.judgeRead, good, un]
  rfl

theorem State.judgeRead_go {t : State} {cost : Cost} (go : s.judgeRead c e r = .go t cost) :
    cost.units = (if transfersData c.op then e.nlb else 1) ∧ t.keysAndClock = s.keysAndClock := by
  have blind := State.keysAndClock_workBlind
  unfold State.judgeRead at go
  split at go
  · cases go
  · split at go
    · cases go
    · extract_lets n lbas refs at go
      split at go
      · cases go
      next s₂ _ _ _ _ _ _ _ _ _ _ _ s₄ _ _ =>
        have looked : s₂.keysAndClock = s.keysAndClock :=
          (blind.lookAll _ _).trans ((blind.modCmd _ _ _).trans ((blind.io _ _).trans (blind.modCmd _ _ _)))
        have marked : s₄.keysAndClock = s₂.keysAndClock := by
          simp only [s₄]
          split
          · exact (blind.counters _ _ (fun x => { x with bounded := x.bounded + 1 })).trans (blind.modCmd _ _ _)
          · exact blind.modCmd _ _ _
        split at go
        · cases go
        · split at go
          · cases go
          · split at go
            · cases go
            · cases go
              exact ⟨rfl, (blind.finishRead _ _).trans (marked.trans looked)⟩

/-- The check of a transfer's length. -/
theorem badLength_eq (e : Extent) (transfers : Bool) :
    (e.nlb == 0 || (transfers && decide (mdts < e.nlb))) = decide (e.nlb = 0 ∨ transfers = true ∧ 512 < e.nlb) := by
  rw [Bool.decide_or, Bool.decide_and, Bool.decide_eq_true]
  rfl

variable {n : Namespace} (of : s.ioNs c = some n) {transfers : Bool}
include of

theorem State.extentBad_length (long : e.nlb = 0 ∨ (transfers = true ∧ 512 < e.nlb)) : s.extentBad c e transfers = some stInvalidField := by
  rw [State.extentBad, of]
  exact if_pos ((badLength_eq e transfers).trans (decide_eq_true long))

section
variable (right : ¬ (e.nlb = 0 ∨ (transfers = true ∧ 512 < e.nlb)))
include right

theorem State.extentBad_range (beyond : n.blocks s.profile < e.slba + e.nlb) : s.extentBad c e transfers = some stLbaRange := by
  rw [State.extentBad, of]
  dsimp only
  rw [badLength_eq, decide_eq_false right]
  exact if_pos beyond

theorem State.extentBad_none (inside : e.slba + e.nlb ≤ n.blocks s.profile) : s.extentBad c e transfers = none := by
  rw [State.extentBad, of]
  dsimp only
  rw [badLength_eq, decide_eq_false right]
  exact if_neg (Nat.not_lt.mpr inside)
end
end

end Sys2Proof.Machine
end

section
/-! SUPPORT. The deallocation of conventional blocks (R139), and the rows of the I/O commands. -/

namespace Sys2Proof.Machine

theorem State.unmapConv_ns? (s : State) (nsid lba : Nat) : (s.unmapConv nsid lba).ns? nsid =
    (s.ns? nsid).map fun n => { n with map := n.map.filter (·.1 != lba) } := by
  have blind := State.nss_storeBlind
  have kept : (s.unmapConv nsid lba).nss = (s.modNs nsid fun n => { n with map := n.map.filter (·.1 != lba) }).nss := by
    have ledger (t : State) : (if t.inLedger nsid lba then t.removeLoss nsid lba else t).nss = t.nss := by
      split
      · exact blind.removeLoss _ _ _
      · rfl
    have dropped (b : Bool) (t : State) (p : Stored → Bool) (f : Stored → Stored) (q : Nat) (g : Segment → Segment) :
        ((if b = true then t.dropBlocks p else t.modBlocks p f).modSeg q g).nss = t.nss := by
      cases b <;> rfl
    unfold State.unmapConv
    dsimp only
    split
    · exact (ledger _).trans (dropped _ _ _ _ _ _)
    · exact ledger _
  rw [State.ns?, kept]
  exact s.modNs_ns? nsid fun _ => rfl

theorem State.unmapConv_all (l : List Nat) {s : State} {nsid : Nat} {n : Namespace} (found : s.ns? nsid = some n) :
    ∃ m, (each l (fun s lba => s.unmapConv nsid lba) s).ns? nsid = some m ∧ ∀ x ∈ m.map, x ∈ n.map ∧ x.1 ∉ l := by
  induction l generalizing s n with
  | nil => exact ⟨n, found, fun x mem => ⟨mem, List.not_mem_nil⟩⟩
  | cons a l ih =>
    obtain ⟨m, at_, of⟩ := ih ((s.unmapConv_ns? nsid a).trans (congrArg _ found))
    refine ⟨m, at_, fun x mem => ?_⟩
    obtain ⟨old, fresh⟩ := of x mem
    obtain ⟨was, other⟩ := List.mem_filter.mp old
    exact ⟨was, List.not_mem_cons_of_ne_of_not_mem (bne_iff_ne.mp other) fresh⟩

section
variable {s : State} {c : Cmd} {h : NvmeHdr} {n : Namespace} {ranges : List (Nat × Nat)} (of : s.ioNs c = some n)
include of

theorem State.runOther_flush (op : c.op = .flush h) : s.runOther c = s.conclude c.id stOk := by
  simp [State.runOther, op, State.flushCmd, of]

theorem State.runOther_dataset_kept (op : c.op = .datasetManagement h false ranges) : s.runOther c = s.conclude c.id stOk := by
  simp [State.runOther, op, State.dataset, of]

theorem State.runOther_dataset_zoned (op : c.op = .datasetManagement h true ranges) (zoned : n.conv = false) :
    s.runOther c = s.conclude c.id stInvalidField := by
  simp [State.runOther, op, State.dataset, of, zoned]

theorem State.runOther_dataset_unmaps (op : c.op = .datasetManagement h true ranges) (conv : n.conv = true)
    (inside : ∀ x ∈ ranges, x.1 + x.2 ≤ n.blocks s.profile) (writable : s.media.readPreserve = false) :
    ∃ m, (s.runOther c).ns? n.nsid = some m ∧ ∀ x ∈ m.map, x ∈ n.map ∧ ∀ r ∈ ranges, ¬ (r.1 ≤ x.1 ∧ x.1 < r.1 + r.2) := by
  have blind := State.nss_storeBlind
  obtain ⟨m, at_, left⟩ := State.unmapConv_all
    ((n.map.map (·.1)).filter fun l => ranges.any fun (a, k) => decide (a ≤ l) && decide (l < a + k)) (State.ns?_of_ioNs of)
  refine ⟨m, ?_, fun x mem => ?_⟩
  · have fits : (ranges.any fun (l, k) => decide (n.blocks s.profile < l + k)) = false := by
      simpa using fun l k mem => inside (l, k) mem
    rw [State.runOther, op]
    simp only [State.dataset, of, conv, fits, writable, Bool.not_true, Bool.false_eq_true, if_false]
    rw [State.ns?, blind.conclude]
    refine Eq.trans ?_ at_
    split <;> rfl
  · obtain ⟨was, missed⟩ := left x mem
    refine ⟨was, fun r of hit => missed (List.mem_filter.mpr ⟨List.mem_map_of_mem was, ?_⟩)⟩
    exact List.any_eq_true.mpr ⟨r, of, by simpa using hit⟩
end

theorem State.runOther_unsupported {s : State} {c : Cmd} {h : NvmeHdr} {op : Nat} (is : c.op = .invalidCommandOpcode h op) (send : op ≠ 0x79)
    (receive : op ≠ 0x7A) : s.runOther c = s.conclude c.id stInvalidOpcode := by
  simp [State.runOther, is, send, receive]

/-- A command that is neither a read nor a write. -/
theorem State.judge_other {s : State} {c : Cmd} (r held : Bool) (noWrite : writeExtent c.op = none) (noRead : readExtent c.op = none)
    (room : s.slotRoom c.fn = true) : s.judge c r held = .go ((s.markAdmitted c.id (s.fn c.fn).contract.cls r).runOther
      (((s.markAdmitted c.id (s.fn c.fn).contract.cls r).cmd? c.id).getD c)) { units := 1 } := by
  simp [State.judge, noWrite, noRead, room]

/-- A compare of which no block failed (R101). -/
theorem State.readResult_compare {s : State} {c : Cmd} {h : NvmeHdr} {e : Extent} {ds : List Block} (op : c.op = .compare h e ds)
    (good : ∀ b ∈ c.blocks, b.phase ≠ 2) :
    s.readResult c = (if (s.readData c).all (fun x => ds.getD (x.1 - e.slba) 0 == x.2.1) then stOk else stCompare, [], none) := by
  have none_ : c.blocks.find? (fun b => b.phase == 2) = none := List.find?_eq_none.mpr fun b mem => by simpa using good b mem
  simp only [State.readResult, op, none_]

/-- Settles O45, clause by clause. -/
theorem ioAdmission : Obligations.IoAdmission := by
  unfold Obligations.IoAdmission
  refine ⟨?refused, ?assigned, ?barred, ?admitted, ?detached, ?read, ?other, ?rows, ?plain, ?unmaps, ?compare⟩
  case refused =>
    intro s c n k e held z at_
    refine ⟨State.judgeZoneWrite_long c held, fun short => ⟨?_, ?_, ?_, fun takes => ⟨?_, ?_, ?_⟩⟩⟩
    · exact State.judgeZoneWrite_full c held short at_
    · exact State.judgeZoneWrite_readOnly c held short at_
    · exact State.judgeZoneWrite_offline c held short at_
    · exact State.judgeZoneWrite_start c held short at_ takes
    · exact State.judgeZoneWrite_pointer c held at_ takes
    · exact State.judgeZoneWrite_boundary c held at_ takes
  case assigned =>
    intro s t c n k e held z zi base index start at_ found opened short place room writable assigned sealed mirrored free
    have w : OpenWrite s n k e z zi base := ⟨index, start, at_, found, opened, short, place, room, writable⟩
    subst at_
    have used : (n.zone zi).state ≠ .empty := fun is => by simp [is, ZoneState.isOpen] at opened
    exact ⟨State.judgeZoneWrite_assigned c held w free assigned sealed mirrored, State.assignZone_zone found assigned used⟩
  case barred =>
    intro s c n k e held z at_ found opened short place room writable barred
    exact State.judgeZoneWrite_barred c held ⟨rfl, rfl, at_, found, opened, short, place, room, writable⟩ barred
  case admitted =>
    exact fun s t c n k e lba times held => ⟨State.admitWrite_share t n k lba times, fun room =>
      ⟨State.admitWrite_energy t n k lba times room, State.admitWrite_go t n k lba times room⟩⟩
  case detached =>
    intro s c e r none_
    exact State.judgeRead_bad r (by rw [State.extentBad, none_])
  case read =>
    refine fun s c e r n of => ⟨fun long => ?_, fun some_ short beyond => ?_, fun some_ short inside un => ?_, fun some_ short inside _ t cost go => ?_⟩
    · exact State.judgeRead_bad r (State.extentBad_length of long)
    · exact State.judgeRead_bad r (State.extentBad_range of (not_or.mpr ⟨some_, short⟩) beyond)
    · exact State.judgeRead_untranslated r (State.extentBad_none of (by omega) inside) un
    · obtain ⟨units, kept⟩ := State.judgeRead_go r go
      exact ⟨units, congrArg Prod.fst kept, congrArg Prod.snd kept⟩
  case other =>
    rintro s c r held t noWrite noRead room rfl
    exact State.judge_other r held noWrite noRead room
  case rows =>
    refine fun s c h e ds held => ⟨?_, ?_, ?_, ?_, ?_, ?_⟩
    all_goals
      intro op
      simp only [State.judge, op, writeExtent, readExtent]
  case plain =>
    exact fun s c h n op ranges of => ⟨State.runOther_flush of, State.runOther_dataset_kept of, State.runOther_dataset_zoned of,
      State.runOther_unsupported⟩
  case unmaps => exact fun s c h n ranges of op conv inside writable => State.runOther_dataset_unmaps of op conv inside writable
  case compare => exact fun s c h e ds op good => State.readResult_compare op good

end Sys2Proof.Machine
end

section
/-! SUPPORT. The namespace and class commands (R103, R107, R125, R317 to R320): creation with the defaults, the attributes, and the classes. -/

namespace Sys2Proof.Machine

/-! ## Create Namespace -/

section
variable {s t : State} {r : NsRequest}

theorem effCreateNamespace_error {e : Resp} (bad : s.createNs r = (t, .error e)) : effCreateNamespace r s = (t, e) := by
  rw [effCreateNamespace, bad]

/-- Segments that fit are left as they are. -/
theorem State.shrink_nss (fits : s.reservedBlocks ≤ s.availableBlocks) : s.shrink.nss = s.nss := by
  unfold State.shrink
  rw [Nat.sub_eq_zero_of_le fits]
  dsimp only [State.shrinkLoop]
  split
  · exact State.nss_storeBlind.raise _ _ _ _ _ _
  · split
    · exact State.nss_storeBlind.raise _ _ _ _ _ _
    · rfl

theorem State.reservedBlocks_add (s : State) (n : Namespace) (j : Nat) (rec : JRec) :
    ((s.modNss (· ++ [n])).log j rec).reservedBlocks = s.reservedBlocks + n.reserved := by
  simp [State.reservedBlocks, sumOf, State.modNss, State.log, State.modJournal, State.modStart]

/-- The checks of the format, the zones, the segments and the width, in their order. -/
theorem State.createNs_lbaf (bad : 1 < r.lbaf) : s.createNs r = (s, .error (errR 0x0104 2)) := if_pos bad

variable (format : r.lbaf ≤ 1) (typeOne : r.pi = 1)
include format typeOne

theorem State.createNs_zones (none_ : r.zones = 0) : s.createNs r = (s, .error (errR 0x0104 4)) := by
  simp [State.createNs, Nat.not_lt.mpr format, typeOne, none_]

variable (some_ : 1 ≤ r.zones)
include some_

theorem State.createNs_segments (long : 16 < r.segs) : s.createNs r = (s, .error (errR 0x0104 8)) := by
  simp [State.createNs, Nat.not_lt.mpr format, typeOne, Nat.ne_of_gt some_, Nat.ne_of_gt (Nat.zero_lt_of_lt long), long]

theorem State.createNs_width (short : r.segs ≤ 16) (given : r.wmax ≠ 0) (unknown : r.wmax ∉ widthsOf s.variant) :
    s.createNs r = (s, .error (errR 0x0104 9)) := by
  have short : ¬ 16 < (if r.segs = 0 then 1 else r.segs) := by split <;> omega
  simp [State.createNs, Nat.not_lt.mpr format, typeOne, Nat.ne_of_gt some_, short, given, unknown]
end

/-- The namespace that Create Namespace makes for function 0 with the defaults. -/
def State.defaultNs (s : State) (l z : Nat) : Namespace := {
  nsid := (s.freeNsids 1).getD 0 1, origin := 0, lbaf := l, pi := 1, zoneCount := z, segsPerZone := 1, wmax := s.widest, cls := 0, permitted := [0, 1]
  active := s.activeDefault 0, open_ := s.openDefault 0 (s.activeDefault 0), reserved := z * s.widest }

theorem widest_known (v : Variant) : (widthsOf v).contains (maxOf (widthsOf v)) = true := by cases v <;> decide

theorem State.classSetBad_none (s : State) {wmax c a b : Nat} {permitted : List Nat} (has : c ∈ permitted)
    (fits : ∀ x ∈ permitted, ∃ w, s.classWidth wmax x = some w ∧ w ≤ wmax) : s.classSetBad wmax c permitted a b = none := by
  unfold State.classSetBad
  rw [if_neg (by simpa using has), List.findSome?_eq_none_iff]
  intro x mem
  obtain ⟨w, is, le⟩ := fits x mem
  rw [is]
  exact if_neg (Nat.not_lt.mpr le)

/-- What a namespace with the defaults needs (R318). -/
structure DefaultRoom (s : State) (l z : Nat) : Prop where
  format : l ≤ 1
  some_ : 1 ≤ z
  active : 1 ≤ s.roomOf 0 5
  opens : 1 ≤ s.roomOf 0 6
  count : 1 ≤ s.roomOf 0 3
  blocks : z * s.widest ≤ s.roomOf 0 4
  table : s.nsCount < 1024
  device : s.reservedBlocks + z * s.widest ≤ s.availableBlocks

theorem State.createNs_default {s : State} {l z : Nat} (room : DefaultRoom s l z) : s.createNs { origin := 0, lbaf := l, pi := 1, zones := z } =
    (((s.modNss (· ++ [s.defaultNs l z])).log 8 (.setting 0x00F0000A (s.defaultNs l z).nsid 1)).shrink, .ok ((s.defaultNs l z).nsid, 0)) := by
  obtain ⟨format, some_, active, opens, count, blocks, table, device⟩ := room
  have classes : s.classSetBad s.widest 0 [0, 1] 10 12 = none :=
    s.classSetBad_none (by simp) fun x mem => ⟨s.widest, if_pos (by simp at mem; omega), le_rfl⟩
  have actives : ¬ (s.activeDefault 0 == 0 || decide (s.roomOf 0 5 < s.activeDefault 0)) = true := by simp [State.activeDefault]; omega
  have opened : ¬ (s.openDefault 0 (s.activeDefault 0) == 0 || decide (s.activeDefault 0 < s.openDefault 0 (s.activeDefault 0))) = true := by
    simp [State.openDefault, State.activeDefault]; omega
  have openRoom : ¬ s.roomOf 0 6 < s.openDefault 0 (s.activeDefault 0) := by simp [State.openDefault]
  have width : (widthsOf s.variant).contains s.widest = true := widest_known _
  unfold State.createNs
  extract_lets p pi segs wmax permitted room active opn count' bad home cw blocks' conv ids nsid comp n s₁ k s₂
  have noConv : conv = 0 := by simp [conv, convSegments]
  have asked : blocks' = z * s.widest := by simp [blocks', segs, wmax]
  have full : blocks' + conv = z * s.widest := by rw [noConv, asked, Nat.add_zero]
  refine (if_neg (Nat.not_lt.mpr format)).trans ((if_neg (by simp [pi])).trans ((if_neg (by simp; omega)).trans ((if_neg (by simp [segs])).trans
    ((if_neg ?width).trans ?_))))
  case width => simpa [wmax] using width
  rw [show s.classSetBad wmax 0 permitted 10 12 = none from classes]
  refine (if_neg (by simp)).trans ((if_neg actives).trans ((if_neg opened).trans ((if_neg openRoom).trans ((if_neg (Nat.not_lt.mpr count)).trans
    ((if_neg ?blocks).trans ((if_neg ?table).trans ((if_neg ?device).trans ?_)))))))
  case blocks => rw [full]; exact Nat.not_lt.mpr blocks
  case table => exact Nat.not_lt.mpr table
  case device => rw [Nat.add_assoc, full]; exact Nat.not_lt.mpr device
  have made : n = s.defaultNs l z := by
    simp only [n, asked]
    rfl
  simp only [s₂, s₁, made]
  rfl

theorem State.createNs_default_nss {s : State} {l z : Nat} (room : DefaultRoom s l z) :
    (((s.modNss (· ++ [s.defaultNs l z])).log 8 (.setting 0x00F0000A (s.defaultNs l z).nsid 1)).shrink).nss = s.nss ++ [s.defaultNs l z] :=
  State.shrink_nss (by rw [State.reservedBlocks_add]; exact room.device)

theorem effCreateNamespace_default {s : State} {l z : Nat} (room : DefaultRoom s l z) :
    ∃ t f, effCreateNamespace { origin := 0, lbaf := l, pi := 1, zones := z } s = (t, okR ([(s.defaultNs l z).nsid, 0] ++ f)) ∧
      s.defaultNs l z ∈ t.nss := by
  refine ⟨_, _, by rw [effCreateNamespace, State.createNs_default room]; rfl, ?_⟩
  rw [State.createNs_default_nss room]
  exact List.mem_append_right _ (List.mem_singleton.mpr rfl)

/-! ## The commands of one namespace -/

section
variable {s : State} {n : Namespace} {f : Nat} (found : s.ns? n.nsid = some n)
include found

theorem effDeleteNamespace_conv (conv : n.conv = true) : effDeleteNamespace n.nsid s = (s, errR 0x0201 n.nsid) := by
  simp [effDeleteNamespace, found, conv]
theorem effDeleteNamespace_zoned (zoned : n.conv = false) : effDeleteNamespace n.nsid s = (s.deleteNs n, okR) := by
  simp [effDeleteNamespace, found, zoned]

theorem effAttachNamespace_may (free : n.attached.contains f = false) (may : s.attachable n f = true) :
    effAttachNamespace n.nsid f s = (s.attachPair n f, okR) := by
  simp only [effAttachNamespace, found, free, may, Bool.not_true, Bool.false_eq_true, if_false]
theorem effAttachNamespace_closed (free : n.attached.contains f = false) (closed : s.attachable n f = false) :
    effAttachNamespace n.nsid f s = (s, errR 0x0405 n.nsid) := by
  simp only [effAttachNamespace, found, free, closed, Bool.not_false, Bool.false_eq_true, if_false, if_true]

theorem effDetachNamespace_held (held : n.attached.contains f = true) : effDetachNamespace n.nsid f s = (s.detachPair n f, okR) := by
  simp only [effDetachNamespace, found, held, if_true]
theorem effDetachNamespace_free (free : n.attached.contains f = false) : effDetachNamespace n.nsid f s = (s, errR 0x0405 n.nsid) := by
  simp only [effDetachNamespace, found, free, Bool.false_eq_true, if_false]

theorem attachPair_attaches (f : Nat) : ∃ k, (s.attachPair n f).ns? n.nsid = some k ∧ f ∈ k.attached := by
  obtain ⟨c, at_, has⟩ := State.attachPair_card? (n := n) (f := f) (State.card?_of_ns? found)
  obtain ⟨k, found, rfl⟩ := State.ns?_of_card? at_
  exact ⟨k, found, has⟩
theorem detachPair_detaches (f : Nat) : ∃ k, (s.detachPair n f).ns? n.nsid = some k ∧ f ∉ k.attached := by
  obtain ⟨c, at_, lacks⟩ := State.detachPair_card? (n := n) (f := f) (State.card?_of_ns? found)
  obtain ⟨k, found, rfl⟩ := State.ns?_of_card? at_
  exact ⟨k, found, lacks⟩

variable {v : Via}

theorem effConsentToAttach_other (other : n.origin ≠ callerOf v) : effConsentToAttach v n.nsid f s = (s, errR 0x0405 n.nsid) := by
  simp [effConsentToAttach, found, other]

theorem effConsentToAttach_own (own : n.origin = callerOf v) (real : n.origin < s.fns.length) :
    ∃ t, effConsentToAttach v n.nsid f s = (t, okR) ∧ (n.nsid, f, s.clk.frame) ∈ (t.fn n.origin).consents := by
  refine ⟨_, by simp only [effConsentToAttach, found]; exact if_neg (by simp [own]), ?_⟩
  rw [own] at real ⊢
  rw [State.modFn_fn_same _ _ _ real]
  exact List.mem_append_right _ (List.mem_singleton.mpr rfl)

/-! The default class (R317). -/

variable {c : Nat} (p a o : Nat) (zoned : n.conv = false)
include zoned

theorem effSetNamespaceAttributes_forbidden (forbidden : c ∉ n.permitted) :
    effSetNamespaceAttributes n.nsid true false false c p a o s = (s, errR 0x0104 5) := by
  simp [effSetNamespaceAttributes, found, zoned, forbidden]

theorem effSetNamespaceAttributes_class (fits : ∃ w, s.classWidth n.wmax c = some w ∧ w ≤ n.wmax) (permitted : c ∈ n.permitted) :
    ∃ t, effSetNamespaceAttributes n.nsid true false false c p a o s = (t, okR) ∧ ∃ k, t.ns? n.nsid = some k ∧ k.cls = c ∧
      k.permitted = n.permitted ∧ k.active = n.active := by
  have good : s.classSetBad n.wmax c [c] 5 5 = none := s.classSetBad_none (List.mem_singleton.mpr rfl) (by simpa using fits)
  refine ⟨((s.modNs n.nsid fun k => { k with cls := c, permitted := n.permitted }).log 8 (.setting 0x00F0000A n.nsid c)), ?_,
    { n with cls := c, permitted := n.permitted }, ?_, rfl, rfl, rfl⟩
  · simp [effSetNamespaceAttributes, found, zoned, permitted, good]
  · exact (s.modNs_ns? n.nsid (f := fun k => { k with cls := c, permitted := n.permitted }) fun _ => rfl).trans (congrArg _ found)
end

/-! ## The classes -/

section
variable {s : State} {c w g a : Nat}

theorem effDefineClass_number (bad : c < 2 ∨ 63 < c) : effDefineClass c w g a s = (s, errR 0x0104 0) := if_pos (by simpa using bad)
theorem effDeleteClass_number (bad : c < 2 ∨ 63 < c) : effDeleteClass c s = (s, errR 0x0104 0) := if_pos (by simpa using bad)

theorem State.defaultOf_none (p : Namespace → Bool) (unused : ∀ n ∈ s.nss, n.cls ≠ c) : s.defaultOf c p = none := by
  have free : s.nss.filter (fun n => ! n.conv && ! n.deleted && n.cls == c && p n) = [] :=
    List.filter_eq_nil_iff.mpr fun n mem => by simp [unused n mem]
  rw [State.defaultOf, free]
  rfl

variable (lo : 2 ≤ c) (hi : c ≤ 63)
include lo hi

theorem effDefineClass_defines (known : w ∈ widthsOf s.variant) (grade : g ≤ 1) (some_ : 1 ≤ a) (masts : a < 2 ^ s.mastN)
    (unused : ∀ n ∈ s.nss, n.cls ≠ c) : ∃ t, effDefineClass c w g a s = (t, okR) ∧
      t.class? c = some { number := c, width := w, archival := g == 1, affinity := a } := by
  let k : PClass := { number := c, width := w, archival := g == 1, affinity := a }
  refine ⟨(s.modClasses (putBy PClass.number k)).log 8 (.setting 0x00F0000B c w), ?_, find?_putBy_same PClass.number k s.classes⟩
  have inRange : ¬ (c < 2 ∨ 63 < c) := by omega
  have affinity : ¬ (a = 0 ∨ 2 ^ s.mastN ≤ a) := by omega
  simp only [effDefineClass, State.defaultOf_none _ unused]
  rw [if_neg (by simpa using inRange), if_neg (by simpa using known), if_neg (Nat.not_lt.mpr grade), if_neg (by simpa using affinity)]

theorem effDeleteClass_unknown (unknown : s.class? c = none) : effDeleteClass c s = (s, errR 0x0105 c) := by
  have inRange : ¬ (c < 2 ∨ 63 < c) := by omega
  rw [effDeleteClass, if_neg (by simpa using inRange), unknown]
  rfl

theorem effDeleteClass_deletes (known : (s.class? c).isSome = true) (unused : ∀ n ∈ s.nss, n.cls ≠ c) :
    ∃ t, effDeleteClass c s = (t, okR) ∧ t.class? c = none := by
  have inRange : ¬ (c < 2 ∨ 63 < c) := by omega
  refine ⟨(s.modClasses fun l => l.filter (·.number != c)).log 8 (.setting 0x00F0000B c 0), ?_, ?_⟩
  · rw [effDeleteClass, if_neg (by simpa using inRange), if_neg (by simpa [Option.isSome_iff_ne_none] using known), State.defaultOf_none _ unused]
  · exact List.find?_eq_none.mpr fun k mem => by simpa using (List.mem_filter.mp mem).2
end

end Sys2Proof.Machine
end

section
/-! SUPPORT. The key commands (R291 to R297, R366): the KEK, the load of a key, its erasure, the binding of a namespace, and the consent to its hand-over. -/

namespace Sys2Proof.Machine

/-! ## The KEK -/

theorem effEstablishKek_off {s : State} {pt : PubKey} (v : Via) (i : Nat) (p : Bool) (off : onCurve pt = false) :
    effEstablishKek v i p pt s = (s, errR 0x0601) := by
  rw [effEstablishKek, off]
  rfl

theorem effEstablishKek_on {s : State} {v : Via} {pt : PubKey} (i : Nat) (p : Bool) (on : onCurve pt = true) (real : callerOf v < s.fns.length) :
    ∃ t, effEstablishKek v i p pt s = (t, okR) ∧ (t.fn (callerOf v)).keks.find? (fun k => k.index == i) =
      some { index := i, key := kekOf s (callerOf v) i pt, persistent := p } := by
  refine ⟨_, by rw [effEstablishKek, on]; rfl, ?_⟩
  refine (congrArg (fun f : Fn => f.keks.find? (fun k => k.index == i)) (State.modFn_fn_same s _ _ real)).trans ?_
  have gone (l : List Kek) : (l.filter (·.index != i)).find? (fun k => k.index == i) = none :=
    List.find?_eq_none.mpr fun k mem => by simpa using (List.mem_filter.mp mem).2
  dsimp only
  rw [List.find?_append, gone]
  simp

/-! ## The slots -/

theorem State.slot_of_keys {s t : State} (h : t.keys = s.keys) (n : Nat) : t.slot n = s.slot n := by
  rw [State.slot, State.slot, State.slot?, State.slot?, h]

section
variable {s : State} {v : Via} {sl : Nat}

/-! Load Key: what fails (R292, R294). -/

section
variable (k fl : Nat) (p sg fg : Bool) (salt : BitVec 32) (w : BitVec 320)

theorem effLoadKey_other (other : (s.slot sl).owner ≠ some (callerOf v)) : effLoadKey v sl k p sg fg salt fl w s = (s, errR 0x0402 sl) :=
  if_pos (bne_iff_ne.mpr other)

variable (own : (s.slot sl).owner = some (callerOf v))
include own

theorem effLoadKey_draining (drains : (s.slot sl).state = .draining) : effLoadKey v sl k p sg fg salt fl w s = (s, errR 0x0201 sl 4) := by
  rw [effLoadKey, if_neg (by simp [own]), if_pos (beq_iff_eq.mpr drains)]
  rfl

variable {k} (settled : (s.slot sl).state ≠ .draining)
include settled

theorem effLoadKey_noKek (lacks : (s.fn (callerOf v)).keks.find? (fun x => x.index == k) = none) :
    effLoadKey v sl k p sg fg salt fl w s = (s, errR 0x0603 sl) := by
  rw [effLoadKey, if_neg (by simp [own]), if_neg (by simpa using settled), lacks]

variable {x : Kek} (has : (s.fn (callerOf v)).keks.find? (fun x => x.index == k) = some x)
include has

theorem effLoadKey_wrapped (failed : kwUnwrap (bytesLE 32 x.key.toNat) (bytesLE 40 w.toNat) = none) :
    effLoadKey v sl k p sg fg salt fl w s = (s, errR 0x0602) := by
  rw [effLoadKey, if_neg (by simp [own]), if_neg (by simpa using settled), has]
  dsimp only
  rw [failed]

theorem effLoadKey_unwrapped {raw : List Nat} (unwrapped : kwUnwrap (bytesLE 32 x.key.toNat) (bytesLE 40 w.toNat) = some raw) :
    effLoadKey v sl k p sg fg salt fl w s = s.loadKeyAs sl p sg fg salt fl (BitVec.ofNat 256 (ofBytesLE raw)) (keyFingerprint raw) := by
  rw [effLoadKey, if_neg (by simp [own]), if_neg (by simpa using settled), has]
  dsimp only
  rw [unwrapped]
end

/-! The register entry (R293). -/

section
variable (p sg fg : Bool) (salt : BitVec 32) (fl : Nat) (key : BitVec 256) {fp : Digest} {ref o : Nat}

theorem State.loadKeyAs_held (known : s.refOf fp = some ref) (held : s.refHolder ref sl = some o) :
    s.loadKeyAs sl p sg fg salt fl key fp = (s, errR 0x0203 o) := by
  simp only [State.loadKeyAs, known, held]

theorem State.loadKeyAs_full (new : s.refOf fp = none) (full : s.nextRef = none) : s.loadKeyAs sl p sg fg salt fl key fp = (s, errR 0x0306) := by
  simp only [State.loadKeyAs, new, full]

theorem State.loadKeyAs_new (new : s.refOf fp = none) (next_ : s.nextRef = some ref) : s.loadKeyAs sl p true false salt fl key fp =
    (s.addEntry { number := ref, tenant := true, salt := salt, fp := fp }).takeLoad sl p false fl key ref := by
  simp only [State.loadKeyAs, new, next_]
  rfl

/-- A slot with a key. -/
def Slot.keyed (k : Slot) (into : SlotState) (key : BitVec 256) (ref : Nat) (p : Bool) : Slot :=
  { k with state := into, key := key, keyRef := ref, persistent := p }

theorem State.putKey_empty (empty : (s.slot sl).state = .empty) : (s.putKey sl key ref p).slot sl = (s.slot sl).keyed (s.keyedState ref) key ref p ∧
    (s.putKey sl key ref p).keys.register = s.keys.register := by
  have put : (s.putKey sl key ref p).keys = (s.modSlot sl fun k => k.keyed (s.keyedState ref) key ref p).keys := by
    unfold State.putKey
    simp only [empty]
    rfl
  rw [State.slot_of_keys put, put]
  exact ⟨s.modSlot_slot_same sl _ (s.slot_number sl), rfl⟩

theorem State.keyedState_or (s : State) (ref : Nat) : s.keyedState ref = .active ∨ s.keyedState ref = .limited := by
  unfold State.keyedState
  split
  · exact .inr rfl
  · exact .inl rfl

theorem State.loadKeyAs_loads (new : s.refOf fp = none) (next_ : s.nextRef = some ref) (empty : (s.slot sl).state = .empty) :
    ∃ t l, s.loadKeyAs sl p true false salt fl key fp = (t, okR l) ∧ l.head? = some ref ∧
      t.keys.register = s.keys.register ++ [{ number := ref, tenant := true, salt := salt, fp := fp }] ∧
      (t.slot sl).keyRef = ref ∧ (t.slot sl).persistent = p ∧ ((t.slot sl).state = .active ∨ (t.slot sl).state = .limited) := by
  let u := s.addEntry { number := ref, tenant := true, salt := salt, fp := fp }
  obtain ⟨slot, register⟩ := State.putKey_empty (s := u) p key (ref := ref) (sl := sl) empty
  refine ⟨u.putKey sl key ref p, _, (State.loadKeyAs_new p salt fl key new next_).trans rfl, rfl, register, ?_⟩
  rw [slot]
  exact ⟨rfl, rfl, u.keyedState_or ref⟩
end

/-! Erase Key (R296). -/

theorem State.eraseSlot_in_use (used : (s.slot sl).state = .active ∨ (s.slot sl).state = .limited) : (s.eraseSlot sl).slot sl =
    { s.slot sl with state := .draining, newKey := none, newRef := 0xFFFF, generation := (s.slot sl).generation + 1 } := by
  have erased : (s.eraseSlot sl).keys =
      (s.modSlot sl fun k => { k with state := .draining, newKey := none, newRef := 0xFFFF, generation := k.generation + 1 }).keys := by
    unfold State.eraseSlot
    rcases used with e | e <;> rw [e] <;> rfl
  rw [State.slot_of_keys erased]
  exact s.modSlot_slot_same sl _ (s.slot_number sl)

theorem State.eraseSlot_awaiting (awaits : (s.slot sl).state = .awaiting) : (s.eraseSlot sl).slot sl =
    { s.slot sl with state := .empty, key := 0, keyRef := 0xFFFF, persistent := false, generation := (s.slot sl).generation + 1 } := by
  have erased : (s.eraseSlot sl).keys =
      (s.modSlot sl fun k => { k with state := .empty, key := 0, keyRef := 0xFFFF, persistent := false, generation := k.generation + 1 }).keys := by
    unfold State.eraseSlot
    rw [awaits]
    rfl
  rw [State.slot_of_keys erased]
  exact s.modSlot_slot_same sl _ (s.slot_number sl)

section
variable (may : (s.slot sl).owner = some (callerOf v) ∨ (isManager v = true ∧ (s.slot sl).owner.isSome = true))
include may

theorem eraseKey_owned : ¬ (! isManager v && (s.slot sl).owner != some (callerOf v)) = true ∧ ¬ (s.slot sl).owner.isNone = true := by
  rcases may with own | ⟨manager, owned⟩
  · simp [own]
  · simpa [manager, Option.isSome_iff_ne_none] using owned

theorem effEraseKey_draining (drains : (s.slot sl).state = .draining) : effEraseKey v sl s = (s, errR 0x0201 sl 4) := by
  obtain ⟨allowed, owned⟩ := eraseKey_owned may
  simp only [effEraseKey]
  rw [if_neg allowed, if_neg owned, if_pos (beq_iff_eq.mpr drains)]
  rfl

theorem effEraseKey_erases (settled : (s.slot sl).state ≠ .draining) : ∃ r, effEraseKey v sl s = (s.eraseSlot sl, r) := by
  obtain ⟨allowed, owned⟩ := eraseKey_owned may
  simp only [effEraseKey]
  rw [if_neg allowed, if_neg owned, if_neg (by simpa using settled)]
  exact ⟨_, rfl⟩
end

/-! Bind Namespace Key (R295). -/

section
variable {n : Namespace} (found : s.ns? n.nsid = some n) (attached : n.attached.contains (callerOf v) = true)
include found attached

theorem effBindNamespaceKey_none : ∃ t r, effBindNamespaceKey v n.nsid 0 s = (t, r) ∧ r.fields = [0] ∧
    ∃ k, t.ns? n.nsid = some k ∧ k.bound = .none := by
  have bound : ((s.modNs n.nsid fun n => { n with bound := .none }).log 8 (.setting 0x00F0000A n.nsid 0)).ns? n.nsid = some { n with bound := .none } :=
    (s.modNs_ns? n.nsid (f := fun n => { n with bound := .none }) fun _ => rfl).trans (congrArg _ found)
  refine ⟨_, okR [0], ?_, rfl, _, bound, rfl⟩
  simp only [effBindNamespaceKey, found, attached, bne_self_eq_false, beq_self_eq_true, Bool.not_true, Bool.false_and, Bool.false_eq_true,
    if_false, if_true, bound, Option.bind_some]
  rfl

variable (lo : 1 ≤ sl) (hi : sl ≤ 4091)
include lo hi

omit found attached in
theorem bindKey_named : ¬ (sl != 0 && ! dataSlot sl) = true := by simp [dataSlot, lo, hi]

theorem effBindNamespaceKey_slot (own : (s.slot sl).owner = some (callerOf v)) : ∃ t r, effBindNamespaceKey v n.nsid sl s = (t, r) ∧
    ∃ k, t.ns? n.nsid = some k ∧ k.bound = .slot sl := by
  have named : (sl == 0) = false := beq_eq_false_iff_ne.mpr (Nat.ne_of_gt lo)
  have bound : ((s.modNs n.nsid fun n => { n with bound := .slot sl }).log 8 (.setting 0x00F0000A n.nsid sl)).ns? n.nsid =
      some { n with bound := .slot sl } :=
    (s.modNs_ns? n.nsid (f := fun n => { n with bound := .slot sl }) fun _ => rfl).trans (congrArg _ found)
  refine ⟨(effBindNamespaceKey v n.nsid sl s).1, (effBindNamespaceKey v n.nsid sl s).2, rfl, { n with bound := .slot sl }, ?_, rfl⟩
  simp only [effBindNamespaceKey, found, attached, Bool.not_true, Bool.false_eq_true, if_false]
  rw [if_neg (bindKey_named lo hi), if_neg (by simp [own])]
  simp only [named, Bool.false_eq_true, if_false]
  exact bound

theorem effBindNamespaceKey_other (other : (s.slot sl).owner ≠ some (callerOf v)) : effBindNamespaceKey v n.nsid sl s = (s, errR 0x0402 sl) := by
  simp only [effBindNamespaceKey, found, attached, Bool.not_true, Bool.false_eq_true, if_false]
  rw [if_neg (bindKey_named lo hi), if_pos (by simp [other, Nat.ne_of_gt lo])]
end

/-! The consent to hand a key over (R366). -/

variable {d : Digest}

theorem effExportKeyTo_other (other : (s.slot sl).owner ≠ some (callerOf v)) : effExportKeyTo v sl d s = (s, errR 0x0402 sl) := by
  rw [effExportKeyTo, effExportKey, if_pos (bne_iff_ne.mpr other)]
  rfl

theorem effExportKeyTo_consents (own : (s.slot sl).owner = some (callerOf v)) (used : (s.slot sl).state = .active ∨ (s.slot sl).state = .limited)
    (idle : s.peer.jobs = []) : ∃ t, effExportKeyTo v sl d s = (t, okR) ∧ (sl, d, s.clk.frame) ∈ t.keys.exports ∧ t.keys.slots = s.keys.slots := by
  have keyed : ¬ ((s.slot sl).state == .empty || (s.slot sl).state == .awaiting || (s.slot sl).state == .draining) = true := by
    rcases used with e | e <;> simp [e]
  let t := s.modKeys fun x => { x with exports := (x.exports.filter fun e => ! (e.1 == sl && e.2.1 == d)) ++ [(sl, d, s.clk.frame)] }
  have consents : effExportKey v sl d s = (t, okR) := by
    simp only [effExportKey]
    rw [if_neg (by simp [own]), if_neg keyed]
  refine ⟨t, ?_, List.mem_append_right _ (List.mem_singleton.mpr rfl), rfl⟩
  rw [effExportKeyTo, consents]
  simp [okR, t, State.modKeys, idle, each]
end

/-! ## The obligation -/

/-- Settles O52, clause by clause. -/
theorem namespaceAndKeyEffects : Obligations.NamespaceAndKeyEffects := by
  unfold Obligations.NamespaceAndKeyEffects
  refine ⟨?create, ?createBad, ?unknown, ?delete, ?attach, ?attributes, ?classes, ?kek, ?load, ?erase, ?bind, ?consent⟩
  case create =>
    intro s m l z format some_ active opens count blocks table device
    obtain ⟨t, f, made, mem⟩ := effCreateNamespace_default ⟨format, some_, active, opens, count, blocks, table, device⟩
    exact ⟨t, _, now_eq made, rfl, s.defaultNs l z, mem, rfl, rfl, rfl, rfl, rfl, rfl, rfl, rfl, rfl, rfl, rfl⟩
  case createBad =>
    refine fun s m o l z sg w => ⟨fun bad => ?_, fun format => ?_, fun format some_ long => ?_, fun format some_ short given unknown => ?_⟩
    · exact now_eq (effCreateNamespace_error (State.createNs_lbaf bad))
    · exact now_eq (effCreateNamespace_error (State.createNs_zones format rfl rfl))
    · exact now_eq (effCreateNamespace_error (State.createNs_segments format rfl some_ long))
    · exact now_eq (effCreateNamespace_error (State.createNs_width format rfl some_ short given unknown))
  case unknown =>
    refine fun s m id f none_ => ⟨now_eq ?_, now_eq ?_, now_eq ?_, now_eq ?_, now_eq ?_⟩
    · rw [effDeleteNamespace, none_]
    · rw [effAttachNamespace, none_]
    · rw [effDetachNamespace, none_]
    · rw [effConsentToAttach, none_]
    · rw [effBindNamespaceKey, none_]
  case delete =>
    exact fun s m n found => ⟨fun conv => now_eq (effDeleteNamespace_conv found conv),
      fun zoned => ⟨_, now_eq (effDeleteNamespace_zoned found zoned), (s.deleteNs_allDeleted n).ns?⟩⟩
  case attach =>
    refine fun s m n f found => ⟨fun free may => ?_, fun free closed => ?_, fun held => ?_, fun free => ?_, fun other => ?_, fun own real => ?_⟩
    · exact ⟨_, now_eq (effAttachNamespace_may found free may), attachPair_attaches found f⟩
    · exact now_eq (effAttachNamespace_closed found free closed)
    · exact ⟨_, now_eq (effDetachNamespace_held found held), detachPair_detaches found f⟩
    · exact now_eq (effDetachNamespace_free found free)
    · exact now_eq (effConsentToAttach_other found other)
    · obtain ⟨t, gives, kept⟩ := effConsentToAttach_own (f := f) found own real
      exact ⟨t, now_eq gives, kept⟩
  case attributes =>
    refine fun s m n c p a o found zoned => ⟨fun forbidden => ?_, fun is permitted => ?_⟩
    · exact now_eq (effSetNamespaceAttributes_forbidden found p a o zoned forbidden)
    · have fits : ∃ w, s.classWidth n.wmax c = some w ∧ w ≤ n.wmax := by
        unfold State.classWidth
        by_cases std : c ≤ 1
        · exact ⟨n.wmax, if_pos std, le_rfl⟩
        · rw [if_neg std]
          rcases is with rfl | rfl | ⟨k, is, le⟩
          · exact absurd (Nat.zero_le 1) std
          · exact absurd le_rfl std
          · exact ⟨k.width, congrArg _ is, le⟩
      obtain ⟨t, gives, kept⟩ := effSetNamespaceAttributes_class found p a o zoned fits permitted
      exact ⟨t, now_eq gives, kept⟩
  case classes =>
    refine fun s m c w g a => ⟨fun bad => ?_, fun lo hi known grade some_ masts unused => ?_, fun lo hi unknown => ?_, fun lo hi known unused => ?_⟩
    · exact ⟨now_eq (effDefineClass_number bad), now_eq (effDeleteClass_number bad)⟩
    · obtain ⟨t, gives, kept⟩ := effDefineClass_defines lo hi known grade some_ masts unused
      exact ⟨t, now_eq gives, kept⟩
    · exact now_eq (effDeleteClass_unknown lo hi unknown)
    · obtain ⟨t, gives, kept⟩ := effDeleteClass_deletes lo hi known unused
      exact ⟨t, now_eq gives, kept⟩
  case kek =>
    refine fun s m i p pt => ⟨fun off => now_eq (effEstablishKek_off m.via i p off), fun on real => ?_⟩
    obtain ⟨t, gives, kept⟩ := effEstablishKek_on i p on real
    exact ⟨t, now_eq gives, kept⟩
  case load =>
    refine fun s m sl k fl p sg fg salt w => ⟨fun other => now_eq (effLoadKey_other k fl p sg fg salt w other), fun own =>
      ⟨fun drains => now_eq (effLoadKey_draining k fl p sg fg salt w own drains), fun settled =>
        ⟨fun lacks => now_eq (effLoadKey_noKek fl p sg fg salt w own settled lacks), fun x has =>
          ⟨fun failed => now_eq (effLoadKey_wrapped fl p sg fg salt w own settled has failed), fun raw unwrapped => ?_⟩⟩⟩⟩
    have loads (sg fg : Bool) := effLoadKey_unwrapped fl p sg fg salt w own settled has unwrapped
    refine ⟨fun ref o known held => ?_, fun ref new next_ empty => ?_, fun new full => ?_⟩
    · exact now_eq ((loads sg fg).trans (State.loadKeyAs_held p sg fg salt fl _ known held))
    · obtain ⟨t, l, gives, kept⟩ := State.loadKeyAs_loads p salt fl (BitVec.ofNat 256 (ofBytesLE raw)) new next_ empty
      exact ⟨t, l, now_eq ((loads true false).trans gives), kept⟩
    · exact now_eq ((loads sg fg).trans (State.loadKeyAs_full p sg fg salt fl _ new full))
  case erase =>
    refine fun s m sl may => ⟨fun drains => now_eq (effEraseKey_draining may drains), fun used => ?_, fun awaits => ?_⟩
    · obtain ⟨r, erases⟩ := effEraseKey_erases may (by rcases used with e | e <;> simp [e])
      refine ⟨_, r, now_eq erases, ?_⟩
      rw [State.eraseSlot_in_use used]
      exact ⟨rfl, rfl, rfl⟩
    · obtain ⟨r, erases⟩ := effEraseKey_erases may (by simp [awaits])
      refine ⟨_, r, now_eq erases, ?_⟩
      rw [State.eraseSlot_awaiting awaits]
      exact ⟨rfl, rfl⟩
  case bind =>
    refine fun s m n sl found attached => ⟨?_, fun lo hi own => ?_, fun lo hi other => ?_⟩
    · obtain ⟨t, r, gives, kept⟩ := effBindNamespaceKey_none found attached
      exact ⟨t, r, now_eq gives, kept⟩
    · obtain ⟨t, r, gives, kept⟩ := effBindNamespaceKey_slot found attached lo hi own
      exact ⟨t, r, now_eq gives, kept⟩
    · exact now_eq (effBindNamespaceKey_other found attached lo hi other)
  case consent =>
    refine fun s m sl d => ⟨fun other => now_eq (effExportKeyTo_other other), fun own used idle => ?_⟩
    obtain ⟨t, gives, kept⟩ := effExportKeyTo_consents (d := d) own used idle
    exact ⟨t, now_eq gives, kept⟩

end Sys2Proof.Machine
end

section
/-! SUPPORT. The capacitance self-test (R148, R149, R151, R523): the guard of each row, and the end of a test by whether its result is valid. -/

namespace Sys2Proof.Machine

section
variable {s : State}

/-! ## The end of a test (R149) -/

/-- The test is over: the load is off, and the first test has been made. -/
def State.testOver (s : State) : State := s.modNrg fun n => { n with test := none, released := none, huLoad := false, firstDone := true }
/-- The state in which a valid result has become the measured capacitance. -/
def State.measured (s : State) (c : Nat) : State :=
  (s.testOver.modNrg fun n => { n with
    cMeas := c, recorded := some c, invalid := 0, invalidFrame := none, heldZero := false, result := c }).log 8 (.capacitance c)
/-- The state in which an invalid result has been counted. -/
def State.mismeasured (s : State) : State :=
  s.testOver.modNrg fun n => { n with invalid := n.invalid + 1, invalidFrame := some s.clk.frame, result := 0 }

theorem State.raise_nrg (s : State) (source code severity : Nat) (args : List Nat) (fn : Nat) : (s.raise source code severity args fn).nrg = s.nrg :=
  congrArg Steady.nrg (State.raise_steady s source code severity args fn)

theorem State.endSelfTest_valid_nrg {c : Nat} (valid : resultValid s.record c = true) : (s.endSelfTest c).nrg = (s.measured c).nrg := by
  have valid' : resultValid s.testOver.record c = true := valid
  unfold State.testOver at valid'
  unfold State.endSelfTest
  rw [if_pos valid']
  dsimp only
  split
  · exact State.raise_nrg _ _ _ _ _ _
  · rfl

theorem State.endSelfTest_invalid {c : Nat} (invalid : resultValid s.record c = false) : s.endSelfTest c =
    if decide (3 ≤ s.mismeasured.nrg.invalid) && ! s.mismeasured.nrg.heldZero then
      (s.mismeasured.modNrg fun n => { n with cMeas := 0, heldZero := true }).raise 603 1 2 [c]
    else s.mismeasured :=
  if_neg (by rw [Bool.not_eq_true]; exact invalid)

/-- An invalid result: the third in a row holds the capacitance at 0, where it is not held already. -/
theorem State.endSelfTest_invalid_nrg {c : Nat} (invalid : resultValid s.record c = false) : (s.endSelfTest c).nrg =
    if 2 ≤ s.nrg.invalid ∧ s.nrg.heldZero = false then { s.mismeasured.nrg with cMeas := 0, heldZero := true } else s.mismeasured.nrg := by
  rw [State.endSelfTest_invalid invalid]
  by_cases third : 2 ≤ s.nrg.invalid ∧ s.nrg.heldZero = false
  · rw [if_pos third, if_pos (by simpa [State.mismeasured, State.testOver] using third), State.raise_nrg]
    rfl
  · rw [if_neg third, if_neg (by simpa [State.mismeasured, State.testOver] using third)]

/-! ## The rows -/

theorem execSelfTestInterval_starts {v : Nat} (working : s.pwr.dev = .working)
    (due : ∀ f, s.nrg.lastTest = some f → f + s.ctlValue ctlTestInterval ≤ s.clk.frame) (idle : s.nrg.test = none)
    (passes : s.selfTestPasses (bankRaw s.record v) = true) : execSelfTestInterval v s = .next (s.startSelfTest (bankRaw s.record v)) := by
  unfold execSelfTestInterval
  cases last : s.nrg.lastTest with
  | none => simp [State.ready, working, idle, passes]
  | some f => simp [State.ready, working, idle, passes, due f last]

theorem execHuLoadRelease_releases {v f : Nat} (test : s.nrg.test = some (v, f)) (load : s.nrg.huLoad = true)
    (due : f + s.record.tTest ≤ s.clk.frame) :
    execHuLoadRelease s = .next (s.modNrg fun n => { n with huLoad := false, released := some s.clk.frame }) := by
  simp [execHuLoadRelease, test, load, due]

theorem execSelfTestResult_ends {v1 f g : Nat} (v2 : Nat) (test : s.nrg.test = some (v1, f)) (released : s.nrg.released = some g)
    (due : g + 20 ≤ s.clk.frame) :
    execSelfTestResult v2 s = .next ((s.endSelfTest (capacitanceResult s.record v1 (bankRaw s.record v2))).answerWaiting isSelfTest
      { status := 0, fields := [(s.endSelfTest (capacitanceResult s.record v1 (bankRaw s.record v2))).nrg.result] }) := by
  simp [execSelfTestResult, test, released, due]

theorem execSelfTestRetry_starts {v f : Nat} (invalid : s.nrg.invalidFrame = some f) (working : s.pwr.dev = .working)
    (due : f + 62500 ≤ s.clk.frame) (idle : s.nrg.test = none)
    (may : s.selfTestPasses (bankRaw s.record v) = true ∨ (s.nrg.heldZero = true ∧ s.dirty.all (· == 0) = true)) :
    execSelfTestRetry v s = .next ((s.startSelfTest (bankRaw s.record v)).modNrg fun n => { n with invalidFrame := none }) := by
  have may : (s.selfTestPasses (bankRaw s.record v) || (s.nrg.heldZero && s.dirty.all (· == 0))) = true := by
    rw [Bool.or_eq_true, Bool.and_eq_true]
    exact may
  simp only [execSelfTestRetry, invalid, State.ready, working, idle, due, may]
  rfl

theorem execHuLoadHardwareRelease_ends {v f : Nat} (test : s.nrg.test = some (v, f)) (load : s.nrg.huLoad = true)
    (due : f + 6266 ≤ s.clk.frame) :
    execHuLoadHardwareRelease s = .next ((s.endSelfTest 0).answerWaiting isSelfTest { status := 0, fields := [0] }) := by
  simp [execHuLoadHardwareRelease, test, load, due]
end

/-- Settles O21: each row by its guard, and the end of a test by the validity of its result. -/
theorem holdUpTest : Obligations.HoldUpTest := by
  unfold Obligations.HoldUpTest
  refine ⟨?interval, ?release, ?result, ?valid, ?invalid, ?retry, ?hardware⟩
  case interval => exact fun v s working due idle passes => execSelfTestInterval_starts working due idle passes
  case release => exact fun v f s test load due => execHuLoadRelease_releases test load due
  case result => exact fun v1 v2 f g s test released due => execSelfTestResult_ends v2 test released due
  case valid =>
    intro c s lo hi
    rw [State.endSelfTest_valid_nrg (by simp [resultValid, lo, hi])]
    exact ⟨rfl, rfl, rfl, rfl, rfl⟩
  case invalid =>
    intro c s out
    rw [State.endSelfTest_invalid_nrg (by simp only [resultValid, Bool.and_eq_false_iff, decide_eq_false_iff_not]; omega)]
    split <;> exact ⟨rfl, rfl, rfl⟩
  case retry => exact fun v f s invalid working due idle may => execSelfTestRetry_starts invalid working due idle may
  case hardware => exact fun v f s test load due => execHuLoadHardwareRelease_ends test load due

end Sys2Proof.Machine
end

section
/-! SUPPORT. What the durability of records does not reach. A record that becomes durable releases, moves and retires segments and blocks, ends
writes and serves reads that wait (R115, R157 to R159, R216, R223): a view that leaves records, media, namespaces, LUNs and masts is left by it. Such
a view may look at the start-up, of which a record changes the clean shutdown alone. -/

namespace Sys2Proof.Machine

/-- A view of what is not stored, and that no update of the namespaces or of the power entries changes either. -/
structure RecordBlind {α : Type} (view : State → α) : Prop extends StoreBlind view where
  nss (s : State) (f : List Namespace → List Namespace) : view (s.modNss f) = view s
  pwr (s : State) (f : Power → Power) : view (s.modPwr f) = view s

theorem HostBlind.finishRead {α : Type} {view : State → α} (h : HostBlind view) (s : State) (id : Nat) : view (s.finishRead id) = view s := by
  unfold State.finishRead
  split
  · rfl
  · split
    · rfl
    · exact h.conclude _ _ _ _ _ _

section
variable {α : Type} {view : State → α} (h : StoreBlind view) (s : State)
include h

theorem StoreBlind.logTwice (i j : Nat) (r : JRec) : view ((s.log i r).log j r) = view s := (h.log _ _ _).trans (h.log _ _ _)
theorem StoreBlind.modBlocks (p : Stored → Bool) (f : Stored → Stored) : view (s.modBlocks p f) = view s := h.media _ _
theorem StoreBlind.dropBlocks (p : Stored → Bool) : view (s.dropBlocks p) = view s := h.media _ _
theorem StoreBlind.markLoss (p : Stored → Bool) : view (s.markLoss p) = view s := h.modBlocks _ _ _
theorem StoreBlind.removeLosses (nsid : Nat) (l : List Nat) : view (each l (fun s lba => s.removeLoss nsid lba) s) = view s :=
  each_view view _ (fun _ _ => h.removeLoss _ _ _) _ _
theorem StoreBlind.modLun (x : Nat) (f : Lun → Lun) : view (s.modLun x f) = view s := h.luns _ _
theorem StoreBlind.modBlock (x b : Nat) (f : EBlock → EBlock) : view (s.modBlock x b f) = view s := h.luns _ _
theorem StoreBlind.modMast (m : Nat) (f : Mast → Mast) : view (s.modMast m f) = view s := h.masts _ _
theorem StoreBlind.modJournal (j : Nat) (f : Journal → Journal) : view (s.modJournal j f) = view s := h.media _ _

/-! Rows and copies (R84, R158, R159). -/

theorem StoreBlind.checkRow (seq r : Nat) : view (s.checkRow seq r) = view s := by
  unfold State.checkRow
  split
  · rfl
  · dsimp only
    split
    · exact h.log _ _ _
    · rfl

theorem StoreBlind.releaseDeputy (seq r : Nat) : view (s.releaseDeputy seq r) = view s := by
  unfold State.releaseDeputy
  split
  · rfl
  · dsimp only
    split
    · rfl
    · exact h.modBlocks _ _ _

theorem StoreBlind.reportFinal (seq q wl : Nat) : view (s.reportFinal seq q wl) = view s := by
  unfold State.reportFinal
  split
  · rfl
  · refine (each_view view _ (fun s r => ?_) _ _).trans ((h.modSeg _ _ _).trans (h.modBlocks _ _ _))
    dsimp only
    split
    · rfl
    · exact (h.checkRow _ _ _).trans ((h.releaseDeputy _ _ _).trans (h.modRow _ _ _ _))

theorem StoreBlind.copyDone (dst : Nat) : view (s.copyDone dst) = view s := by
  unfold State.copyDone
  split
  · rfl
  · split
    · rfl
    · dsimp only
      split
      · rfl
      · exact h.logTwice _ _ _ _

theorem StoreBlind.finalDurable (seq q wl block : Nat) : view (s.finalDurable seq q wl block) = view s := by
  unfold State.finalDurable
  split
  · rfl
  · split
    · exact (h.copyDone _ _).trans (h.reportFinal _ _ _ _)
    · split
      · rfl
      · dsimp only
        split
        · exact (h.logTwice _ _ _ _).trans (h.modSeg _ _ _)
        · exact h.modSeg _ _ _

theorem StoreBlind.commitMember (seq q b : Nat) : view (s.commitMember seq q b) = view s := by
  unfold State.commitMember
  split
  · rfl
  · dsimp only
    split
    · rfl
    · refine (each_view view _ (fun _ _ => h.reportFinal _ _ _ _) _ _).trans ((h.modSeg _ _ _).trans ((h.markLoss _ _).trans
        ((h.removeLosses _ _ _).trans ?_)))
      split
      · rfl
      · exact (h.log _ _ _).trans (h.modBlock _ _ _ _)

/-! Erase blocks (R145, R163, R257). -/

theorem StoreBlind.blockFree (x b n : Nat) : view (s.blockFree x b n) = view s := by
  unfold State.blockFree
  dsimp only
  split
  · exact h.modMast _ _ _
  · exact (h.modBlock _ _ _ _).trans (h.modMast _ _ _)

theorem StoreBlind.appendDirectory (x : Nat) : view (s.appendDirectory x) = view s := by
  refine (h.luns _ _).trans ?_
  split
  · exact h.modBlock _ _ _ _
  · rfl
end

section
variable {α : Type} {view : State → α} (h : RecordBlind view) (s : State)
include h

theorem RecordBlind.modNs (nsid : Nat) (f : Namespace → Namespace) : view (s.modNs nsid f) = view s := h.nss _ _
theorem RecordBlind.modZone (nsid zi : Nat) (f : Zone → Zone) : view (s.modZone nsid zi f) = view s := h.nss _ _

/-! Log pages (R93, R156). -/

theorem RecordBlind.appendLog (x pages : Nat) : view (s.appendLog x pages) = view s :=
  (h.luns _ _).trans (each_view view _ (fun _ _ => (h.luns _ _).trans ((h.nss _ _).trans
    (each_view view _ (fun _ _ => h.checkpoint _ _) _ _))) _ _)

theorem RecordBlind.journalPage (j : Nat) : view (s.journalPage j) = view s :=
  each_view view _ (fun _ _ => (h.modJournal _ _ _).trans (h.appendLog _ _ _)) _ _

/-! Retirement, and the shrink that it brings (R94, R219, R230). -/

theorem RecordBlind.notifyZone (nsid zi : Nat) : view (s.notifyZone nsid zi) = view s := by
  unfold State.notifyZone
  dsimp only
  split
  · exact h.modNs _ _ _
  · refine (each_view view _ (fun s f => ?_) _ _).trans (h.modNs _ _ _)
    split
    · exact (h.asyncEvent _ _ _ _).trans (h.asyncEvent _ _ _ _)
    · exact h.asyncEvent _ _ _ _

theorem RecordBlind.shrinkOnce {t : State} (step : s.shrinkOnce = some t) : view t = view s := by
  unfold State.shrinkOnce at step
  dsimp only at step
  split at step
  · cases step
  · split at step
    · cases step
    · cases step
      exact (h.notifyZone _ _ _).trans ((h.raise _ _ _ _ _ _).trans ((h.log _ _ _).trans ((h.modZone _ _ _ _).trans (h.modNs _ _ _))))

theorem RecordBlind.shrinkLoop (fuel : Nat) : view (s.shrinkLoop fuel) = view s := by
  induction fuel generalizing s with
  | zero => rfl
  | succ fuel ih =>
    unfold State.shrinkLoop
    split
    · rfl
    · split
      · rfl
      next t step => exact (ih t).trans (h.shrinkOnce s step)

theorem RecordBlind.shrink : view s.shrink = view s := by
  have reported (t : State) (b : Bool) (code severity : Nat) :
      view ((t.modMedia fun m => { m with shrinkExhausted := b }).raise 594 code severity [0, 0]) = view t :=
    (h.raise _ _ _ _ _ _).trans (h.media _ _)
  unfold State.shrink
  dsimp only
  refine Eq.trans ?_ (h.shrinkLoop s (s.reservedBlocks - s.availableBlocks))
  split
  · exact reported _ _ _ _
  · split
    · exact reported _ _ _ _
    · rfl

theorem RecordBlind.retire (x b code : Nat) : view (s.retire x b code) = view s := by
  unfold State.retire
  extract_lets m before sys marked recorded swapped listed reported
  have recorded_view : view recorded = view s :=
    (h.raise _ _ _ _ _ _).trans ((h.log _ _ _).trans ((h.modLun _ _ _).trans (h.modBlock _ _ _ _)))
  have swapped_view : view swapped = view recorded := by
    simp only [swapped]
    split
    · split
      · exact (h.modLun _ _ _).trans ((h.log _ _ _).trans (h.modBlock _ _ _ _))
      · rfl
    · rfl
  have reported_view : view reported = view listed := by
    simp only [reported]
    split
    · exact h.raise _ _ _ _ _ _
    · rfl
  exact (h.shrink _).trans (reported_view.trans ((h.appendDirectory _ _).trans (swapped_view.trans recorded_view)))

theorem RecordBlind.endurance (x b : Nat) : view (s.endurance x b) = view s := by
  unfold State.endurance
  split
  · exact h.retire _ _ _ _
  · rfl
/-! Reads that wait (R167, R225, R226). -/

theorem RecordBlind.markOverflow (nsid lba : Nat) : view (s.markOverflow nsid lba) = view s := by
  unfold State.markOverflow
  split
  · rfl
  · split
    · exact h.media _ _
    · exact (h.media _ _).trans (h.modZone _ _ _ _)

theorem RecordBlind.enterLoss (nsid lba count gen cause foundBy fn mast : Nat) :
    view (s.enterLoss nsid lba count gen cause foundBy fn mast) = view s := by
  unfold State.enterLoss
  extract_lets full e entered counted severity
  have entered_view : view entered = view s := by
    simp only [entered]
    split
    · exact h.markOverflow _ _ _
    · exact (h.log _ _ _).trans (h.media _ _)
  split <;> exact (h.raise _ _ _ _ _ _).trans ((h.evt _ _).trans entered_view)

theorem RecordBlind.lookAt (c : Cmd) (b : RBlock) : view (s.lookAt c b).1 = view s := by
  unfold State.lookAt
  dsimp only
  split
  · rfl
  · split
    case h_2 =>
      unfold State.awaitLoss
      split
      · exact h.modCmd _ _ _
      · rfl
    case h_7 =>
      split
      · rfl
      · split
        · unfold State.readLoss
          dsimp only
          split
          · exact h.enterLoss _ _ _ _ _ _ _ _ _
          · exact (h.modCmd _ _ _).trans (h.enterLoss _ _ _ _ _ _ _ _ _)
        · exact each_view view _ (fun _ _ => h.pwr _ _) _ _
        · rfl
        · rfl
    all_goals rfl

theorem RecordBlind.lookAll (c : Cmd) : view (s.lookAll c) = view s := by
  refine (h.modCmd _ _ _).trans ?_
  exact List.foldlRecOn (motive := fun st : State × List RBlock => view st.1 = view s) _ _ rfl
    fun st ih b _ => (h.lookAt st.1 c b).trans ih

theorem RecordBlind.retryReads (p : Cmd → RBlock → Bool) : view (s.retryReads p) = view s := by
  refine each_view view _ (fun s c => ?_) _ _
  split
  · rfl
  · exact (h.finishRead _ _).trans (h.lookAll _ _)

/-! The commits of map records (R115, R159, R211, R223). -/

theorem RecordBlind.commitRelease (nsid zi gen : Nat) (into : ZoneState) : view (s.commitRelease nsid zi gen into) = view s := by
  unfold State.commitRelease
  split
  · rfl
  next n _ =>
    extract_lets z zs lo inZone here ended released cleared unlisted mirrored told
    split
    · rfl
    have ended_view : view ended = view s := each_view view _ (fun s c => by
      split
      · exact h.conclude _ _ _ _ _ _
      · exact (h.conclude _ _ _ _ _ _).trans ((h.modCmd _ _ _).trans (h.dropReqs _ _))) _ _
    have unlisted_view : view unlisted = view ended := (h.media _ _).trans ((h.dropBlocks _ _).trans (h.releaseSegments _ _))
    have mirrored_view : view mirrored = view unlisted := by
      simp only [mirrored]
      split
      · exact (h.sendOp _ _ _ _ _).trans (h.peer _ _)
      · rfl
    have told_view : view told = view mirrored := each_view view _ (fun _ _ => (h.sendOp _ _ _ _ _).trans (h.peer _ _)) _ _
    exact (h.modZone _ _ _ _).trans ((h.retireRescue _).trans (told_view.trans (mirrored_view.trans (unlisted_view.trans ended_view))))

theorem RecordBlind.commitReplacement (src dst : Nat) : view (s.commitReplacement src dst) = view s := by
  unfold State.commitReplacement
  split
  · dsimp only
    split
    · rfl
    · exact (h.releaseSegment _ _).trans ((each_view view _ (fun _ _ => h.checkRow _ _ _) _ _).trans ((h.modBlocks _ _ _).trans
        ((h.modSeg _ _ _).trans ((h.modNs _ _ _).trans ((h.modBlocks _ _ _).trans ((h.markLoss _ _).trans ((h.modBlocks _ _ _).trans
          (h.removeLosses _ _ _))))))))
  · rfl

theorem RecordBlind.commitRemap (nsid lba src dst row unit idx : Nat) : view (s.commitRemap nsid lba src dst row unit idx) = view s := by
  unfold State.commitRemap
  extract_lets copy still dropped mapped moved marked counted
  have counted_view : view counted = view s :=
    (h.modSeg _ _ _).trans ((h.modSeg _ _ _).trans ((h.markLoss _ _).trans ((h.modBlocks _ _ _).trans ((h.modNs _ _ _).trans (h.dropBlocks _ _)))))
  split
  · rfl
  · split
    · exact h.dropBlocks _ _
    · split
      · split
        · exact (h.modNs _ _ _).trans ((h.releaseSegment _ _).trans counted_view)
        · exact counted_view
      · exact counted_view

theorem RecordBlind.rowDurable (seq r : Nat) : view (s.rowDurable seq r) = view s := by
  unfold State.rowDurable
  split
  · rfl
  · extract_lets marked served retired remap twice copied mapped
    have retired_view : view retired = view s :=
      (h.retireRescue _).trans ((h.dropBlocks _ _).trans ((h.modBlocks _ _ _).trans (h.modRow _ _ _ _)))
    have copied_view : view copied = view retired := each_view view _ (fun _ _ => h.logTwice _ _ _ _) _ _
    have mapped_view : view mapped = view copied := by
      simp only [mapped]
      split
      · rfl
      · exact each_view view _ (fun _ _ => h.logTwice _ _ _ _) _ _
    refine Eq.trans ?_ (mapped_view.trans (copied_view.trans retired_view))
    split
    · split
      · exact h.modZone _ _ _ _
      · rfl
    · rfl

/-! Records, and the flush of a journal. -/

theorem RecordBlind.recordDurable (r : JRec) : view (s.recordDurable r) = view s := by
  unfold State.recordDurable
  split
  case h_1 =>
    split
    · exact h.finalDurable _ _ _ _ _
    · rfl
  case h_2 => exact h.rowDurable _ _ _
  case h_3 => exact (h.retryReads _ _).trans (h.commitRelease _ _ _ _ _)
  case h_4 =>
    split
    · exact h.commitReplacement _ _ _
    · rfl
  case h_5 => exact h.commitMember _ _ _ _
  case h_6 => exact h.commitRemap _ _ _ _ _ _ _ _
  case h_7 => exact h.modBlocks _ _ _
  case h_8 =>
    split
    · exact h.endurance _ _ _
    · split
      · exact h.blockFree _ _ _ _
      · rfl
  case h_9 => exact h.copyDone _ _
  case h_10 =>
    dsimp only
    split
    · exact (h.modZone _ _ _ _).trans ((h.modZone _ _ _ _).trans (h.modZone _ _ _ _))
    · exact h.modZone _ _ _ _
  case h_11 => exact h.modMast _ _ _
  case h_12 =>
    split
    · exact (h.retire _ _ _ _).trans (h.modMast _ _ _)
    · exact h.modMast _ _ _
  case h_13 => exact h.modBlocks _ _ _
  case h_14 => exact h.media _ _
  all_goals rfl

theorem RecordBlind.flushJournal (j blocks : Nat) : view (s.flushJournal j blocks) = view s := by
  unfold State.flushJournal
  exact (each_view view _ (fun _ _ => h.recordDurable _ _) _ _).trans (h.modJournal _ _ _)
end

end Sys2Proof.Machine
end

section
/-! SUPPORT. The dump (R144, R152 to R154, R477, R497, R498, R500): its rounds and the LUNs that they take, its end, and the restarts. -/

namespace Sys2Proof.Machine

/-! ## The LUNs of a round (R144) -/

/-- A LUN is taken for a round, beside those taken: idle, in use, with room in its mast's programs. -/
def State.roundTakes (s : State) (l : List Nat) (x : Nat) : Bool :=
  s.lunUsed x && ! s.portOut x && (s.lun x).work.isNone && decide (countIf (fun y => mastOfLun y == mastOfLun x) l < s.nrg.u.getD (mastOfLun x) 0) &&
    s.roundAllows l x

/-- What holds of no LUNs, and of those taken with one more that is taken beside them, holds of a round's LUNs. -/
theorem State.roundLuns_induction (s : State) {P : List Nat → Prop} (none_ : P [])
    (one : ∀ l x, P l → s.roundTakes l x = true → P (l ++ [x])) : P s.roundLuns := by
  refine List.foldlRecOn (motive := P) _ _ none_ fun l taken x _ => ?_
  dsimp only
  split
  next takes => exact one l x taken takes
  next => exact taken

theorem State.of_roundTakes {s : State} {l : List Nat} {x : Nat} (takes : s.roundTakes l x = true) :
    (s.lunUsed x = true ∧ (s.lun x).work = none) ∧ countIf (fun y => mastOfLun y == mastOfLun x) l < s.nrg.u.getD (mastOfLun x) 0 := by
  simp only [State.roundTakes, Bool.and_eq_true, Option.isNone_iff_eq_none, decide_eq_true_eq] at takes
  obtain ⟨⟨⟨⟨used, -⟩, idle⟩, room⟩, -⟩ := takes
  exact ⟨⟨used, idle⟩, room⟩

theorem State.roundLuns_count (s : State) (m : Nat) : countIf (fun x => mastOfLun x == m) s.roundLuns ≤ s.nrg.u.getD m 0 := by
  refine s.roundLuns_induction (P := fun l => countIf (fun x => mastOfLun x == m) l ≤ s.nrg.u.getD m 0) (Nat.zero_le _) fun l x le takes => ?_
  by_cases own : mastOfLun x = m
  · obtain ⟨-, room⟩ := State.of_roundTakes takes
    rw [own] at room
    simpa [countIf, own] using room
  · simpa [countIf, own] using le

theorem State.roundLuns_idle (s : State) : ∀ x ∈ s.roundLuns, s.lunUsed x = true ∧ (s.lun x).work = none := by
  refine s.roundLuns_induction (P := fun l => ∀ x ∈ l, s.lunUsed x = true ∧ (s.lun x).work = none) (by simp) fun l x idle takes y mem => ?_
  obtain mem | rfl := List.mem_append.mp mem |>.imp_right List.mem_singleton.mp
  · exact idle y mem
  · exact (State.of_roundTakes takes).1

/-! ## The end of a dump (R152, R498, R499) -/

/-- What decides whether a dump ends in a deep reset, and what it leaves of the fuses. -/
def State.endsIn (s : State) : Bool × Bool × Fuses := (s.start.deepDump, s.start.nssrLatched, s.fuses)

theorem State.endsIn_recordBlind : RecordBlind State.endsIn where
  io _ _ := rfl
  ctrl s f port1 g := by unfold State.modCtrl; split <;> rfl
  counters _ _ _ := rfl
  emit _ _ := rfl
  log _ _ _ := rfl
  hal _ _ := rfl
  peer _ _ := rfl
  media _ _ := rfl
  luns _ _ := rfl
  masts _ _ := rfl
  keys _ _ := rfl
  evt _ _ := rfl
  nss _ _ := rfl
  pwr _ _ := rfl

/-- The final round's programs: the rescue indexes of the active masts, and then all that is staged (R152, R153). -/
def State.lastRecords (s : State) : State :=
  let act := s.mastIds.filter fun m => (s.mast m).state == .active
  each (act ++ [8]) (fun s j => s.flushJournal j (sumOf s.recordSize (s.journal j).staged))
    (each act (fun s m => (s.log m (.rescueIndex m)).journalPage m) s)

theorem State.lastRecords_endsIn (s : State) : s.lastRecords.endsIn = s.endsIn :=
  (each_view State.endsIn _ (fun _ _ => State.endsIn_recordBlind.flushJournal _ _ _) _ _).trans
    (each_view State.endsIn _ (fun _ _ => (State.endsIn_recordBlind.journalPage _ _).trans (State.endsIn_recordBlind.log _ _ _)) _ _)

theorem State.enterDumped_shallow {s : State} (shallow : s.start.deepDump = false) (unlatched : s.start.nssrLatched = false) :
    s.enterDumped = s.hcxOff.powerCut.modPwr fun p => { p with dev := .dumped, thermalDumps := p.thermalDumps + (if s.pwr.thermalDump then 1 else 0) } :=
  if_neg (by simp [shallow, unlatched])

theorem State.enterDumped_dark {s : State} (shallow : s.start.deepDump = false) (unlatched : s.start.nssrLatched = false) :
    s.enterDumped.pwr.dev = .dumped ∧ s.enterDumped.clk.dark = true ∧ s.enterDumped.fuses = s.fuses ∧ s.enterDumped.pwr.furled = switched := by
  obtain ⟨fuses, clk, -⟩ := State.of_lasting s.hcxOff.powerCut_lasting
  simp only [State.enterDumped_shallow shallow unlatched, State.modPwr_pwr, State.modPwr_clk, State.modPwr_fuses, clk, fuses, State.powerCut_furled]
  exact ⟨trivial, rfl, rfl, trivial⟩

/-- Where a restart begins, and what it leaves (R154, R499). -/
theorem State.restart_spec (s : State) (deep wake : Bool) : (s.restart deep wake).start.stage = 2 ∧ (s.restart deep wake).pwr.dev = .starting ∧
    (s.restart deep wake).pwr.furled = [75, 76, 77] ∧ (s.restart deep wake).start.fault = (s.start.fault && !deep) ∧
    (s.restart deep wake).clk = s.clk ∧ (s.restart deep wake).media = s.media ∧ (s.restart deep wake).keys = s.keys := by
  cases deep <;> exact ⟨rfl, rfl, rfl, rfl, rfl, rfl, rfl⟩

section
variable {s : State}

/-! ## The rows -/

theorem execDumpRound_runs (dumping : s.pwr.dev = .dumping) (begun : s.pwr.dumpBegun = true) (due : s.roundAt ≤ s.clk.frame)
    (unfaulted : s.start.fault = false) (a : State) (l : List Nat)
    (kept : a = (s.sealHeld (·.dirty)).flushJournal 8 (16 * sumOf id (s.sealHeld (·.dirty)).nrg.u))
    (luns : l = if a.mastIds.any fun m => ! (a.undumped m).isEmpty || ! (a.journal m).staged.isEmpty then a.roundLuns else []) :
    execDumpRound s = .next ((each a.mastIds (fun s m => s.dumpMast l m) a).modPwr fun p => { p with rounds := p.rounds + 1 }) := by
  subst luns kept
  simp [execDumpRound, dumping, begun, Nat.not_lt.mpr due, unfaulted]

/-- With no pass running and nothing left, the final round writes the last records. -/
theorem execFinalRound_ends (dumping : s.pwr.dev = .dumping) (begun : s.pwr.dumpBegun = true) (due : s.roundAt ≤ s.clk.frame)
    (idle : s.passRuns = false) (sealed_ : s.unsealedKept = false) (dumped : ∀ m ∈ s.mastIds, s.undumped m = []) :
    execFinalRound s = .next s.lastRecords.enterDumped := by
  have none_left : (s.mastIds.any fun m => ! (s.undumped m).isEmpty && decide (0 < s.nrg.u.getD m 0) &&
      s.roundLuns.any fun x => mastOfLun x == m) = false :=
    List.any_eq_false.mpr fun m mem => by simp [dumped m mem]
  unfold execFinalRound
  dsimp only
  rw [none_left, if_neg (by simp [dumping, begun, idle, sealed_, Nat.not_lt.mpr due])]
  rfl

theorem execDumpRestart_restarts (dumped : s.pwr.dev = .dumped) (unfaulted : s.start.fault = false) (cool : s.pwr.thermalDump = false) :
    execDumpRestart s = .next (s.restart s.start.deepDump false) := by
  simp [execDumpRestart, dumped, unfaulted, cool]

theorem execThermalDumpRestart_restarts (dumped : s.pwr.dev = .dumped) (unfaulted : s.start.fault = false) (hot : s.pwr.thermalDump = true)
    (few : s.pwr.thermalDumps < 3) : execThermalDumpRestart s = .next (s.restart false false) := by
  simp [execThermalDumpRestart, dumped, unfaulted, hot, few]

theorem execThermalDumpRestart_third (third : 3 ≤ s.pwr.thermalDumps) : execThermalDumpRestart s = .next s := by
  simp [execThermalDumpRestart, Nat.not_lt.mpr third]

theorem execThermalComparator_dumps {i : Nat} (lo : 16 ≤ i) (hi : i ≤ 24) (lit : s.clk.dark = false) (on : s.inputOn i = true)
    (working : s.pwr.dev = .working) :
    execThermalComparator i s = .next (s.modPwr fun p => { p with thermalDump := true }).startDump := by
  simp [execThermalComparator, whenUnit, lo, hi, lit, on, working]

theorem execNvmSubsystemReset_wanted (dev : s.pwr.dev = .working ∨ s.pwr.dev = .starting) :
    execNvmSubsystemReset 0 0x4E564D65 s = .next (s.modStart fun x => { x with deepWanted := true }) := by
  rcases dev with dev | dev <;> simp [execNvmSubsystemReset, whenUnit, dev]

theorem execNvmSubsystemReset_other {f : Nat} {v : Word} (unit : f ≤ 128) (other : f ≠ 0 ∨ v ≠ 0x4E564D65) :
    execNvmSubsystemReset f v s = .next s := by
  have ignored : (f != 0 || v != 0x4E564D65) = true := by
    rw [Bool.or_eq_true, bne_iff_ne, bne_iff_ne]
    exact other
  simp only [execNvmSubsystemReset, whenUnit, unit, ignored, decide_true, if_true]

end

/-- Settles O23: the rows by their guards, the LUNs of a round by an induction over those taken, and its end by what records leave of the start-up. -/
theorem dumps : Obligations.Dumps := by
  unfold Obligations.Dumps
  refine ⟨?round, ?roundAt, ?count, ?idle, ?final, ?restarts, ?thermal, ?third, ?restart, ?comparator, ?deep, ?ignored⟩
  case round => exact fun s a l dumping begun due unfaulted kept luns => execDumpRound_runs dumping begun due unfaulted a l kept luns
  case roundAt => exact fun s => rfl
  case count => exact State.roundLuns_count
  case idle => exact State.roundLuns_idle
  case final =>
    intro s dumping begun due idle sealed_ dumped unlatched shallow
    obtain ⟨deepDump, latched, fuses⟩ : s.lastRecords.start.deepDump = s.start.deepDump ∧ s.lastRecords.start.nssrLatched = s.start.nssrLatched ∧
      s.lastRecords.fuses = s.fuses := by simpa [State.endsIn] using s.lastRecords_endsIn
    obtain ⟨dev, dark, kept, furled⟩ := State.enterDumped_dark (deepDump.trans shallow) (latched.trans unlatched)
    exact ⟨_, execFinalRound_ends dumping begun due idle sealed_ dumped, dev, dark, kept.trans fuses, furled⟩
  case restarts => exact fun s dumped unfaulted cool => execDumpRestart_restarts dumped unfaulted cool
  case thermal => exact fun s dumped unfaulted hot few => execThermalDumpRestart_restarts dumped unfaulted hot few
  case third => exact fun s _ third => execThermalDumpRestart_third third
  case restart => exact fun deep wake s => s.restart_spec deep wake
  case comparator => exact fun i s lo hi lit on working => execThermalComparator_dumps lo hi lit on working
  case deep => exact fun s dev => execNvmSubsystemReset_wanted dev
  case ignored => exact fun f v s unit other => execNvmSubsystemReset_other unit other

end Sys2Proof.Machine
end


section
/-! SUPPORT. The fetch of an NVMe entry and the posting of a command's status (R185, R399, R402, R403, R441, R442). -/

namespace Sys2Proof.Machine

section
variable {s : State} {h : NvmeHdr} {op : Instr}

theorem State.submit_rung {q : Sq} (stands : (s.ctrl h.fn h.port1).sqs.find? (fun x => x.qid == h.sq) = some q)
    (opens : s.configOpen h.fn h.port1 = true) (enabled : (s.ctrl h.fn h.port1).ccEn = true) (room : (q.tail + 1) % max 1 q.size ≠ q.head) :
    s.submit h op = if (s.rung h q).mayFetch h.fn h.port1 h.sq && ! (s.rung h q).io.submitted.any (waitsIn h.fn h.sq h.port1) then
        (s.rung h q).fetchEntry h.fn h.sq h.port1 op h.cid
      else (s.rung h q).modIo fun i => { i with submitted := i.submitted ++ [(h.fn, h.sq, h.port1, op, h.cid)] } := by
  simp only [State.submit, stands]
  exact if_neg (by simp [opens, enabled, room])

theorem State.submit_ignored (closed : (s.ctrl h.fn h.port1).sqs.find? (fun x => x.qid == h.sq) = none ∨ s.configOpen h.fn h.port1 = false ∨
    (s.ctrl h.fn h.port1).ccEn = false) : s.submit h op = s := by
  unfold State.submit
  dsimp only
  split
  · rfl
  next stands =>
    rcases closed with missing | shut | off
    · cases missing.symm.trans stands
    · exact if_pos (by simp [shut])
    · exact if_pos (by simp [off])

theorem takesEntry_of_submitted (row : exec op s = submitted h op s) : TakesEntry op h s := by
  intro unit
  have runs : exec op s = .next (s.submit h op) := row.trans (if_pos unit)
  rw [runs]
  refine ⟨fun q stands opens enabled room => ?_, fun closed => congrArg _ (State.submit_ignored closed)⟩
  rw [State.submit_rung stands opens enabled room]
  refine ⟨fun may free => congrArg _ (if_pos (by simp [may, free])), fun waits => congrArg _ (if_neg ?_)⟩
  rcases waits with mayNot | others
  · simp [mayNot]
  · simp [others]
end

/-! The fetch. -/

/-- An update of a controller reaches neither the namespaces, the media nor the clock. -/
theorem State.modCtrl_stores (s : State) (f : Nat) (port1 : Bool) (g : Ctrl → Ctrl) :
    (s.modCtrl f port1 g).nss = s.nss ∧ (s.modCtrl f port1 g).media = s.media ∧ (s.modCtrl f port1 g).clk = s.clk := by
  unfold State.modCtrl
  split <;> exact ⟨rfl, rfl, rfl⟩

/-- A command leaves its queue and is held, before its descriptor walk begins. -/
def State.taken (s : State) (c : Cmd) : State :=
  let next (q : Sq) : Sq := { q with head := (q.head + 1) % max 1 q.size }
  (s.modIo fun h => { h with cmds := h.cmds ++ [c], nextId := s.io.nextId + 1, fetched := h.fetched + 1, lastFetch := c.fn }).modCtrl c.fn c.port1
    fun k => { k with lastSq := c.sq, sqs := updIf (·.qid == c.sq) next k.sqs }

theorem State.taken_io (s : State) (c : Cmd) : (s.taken c).io =
    { s.io with cmds := s.io.cmds ++ [c], nextId := s.io.nextId + 1, fetched := s.io.fetched + 1, lastFetch := c.fn } := State.modCtrl_io _ _ _ _

theorem State.taken_stores (s : State) (c : Cmd) :
    (s.taken c).nss = s.nss ∧ (s.taken c).media = s.media ∧ (s.taken c).clk = s.clk := State.modCtrl_stores _ _ _ _

/-- The command of a fetched entry. -/
def State.entryCmd (s : State) (fn sq : Nat) (port1 : Bool) (op : Instr) (cid : Nat) : Cmd :=
  { id := s.io.nextId, fn := fn, sq := sq, cid := cid, port1 := port1, op := op, arrival := s.clk.frame }

section
variable {s : State} {fn sq cid : Nat} {port1 : Bool} {op : Instr} {h : NvmeHdr} (header : nvmeHdr op = some h)
include header

/-- Without descriptor fetches the walk is complete. -/
theorem State.fetchEntry_complete (short : h.hops = 0) (good : h.chainBad = false) : s.fetchEntry fn sq port1 op cid =
    (s.taken (s.entryCmd fn sq port1 op cid)).modCmd s.io.nextId fun c => { c with walked := true } := by
  simp only [State.fetchEntry, header, short, good]
  rfl

/-- With descriptor fetches the first request is issued, unless as many as the engine may have are outstanding. -/
theorem State.fetchEntry_walks (long : 0 < h.hops) : s.fetchEntry fn sq port1 op cid =
    if s.io.reqs.length < tagLimit then (s.taken (s.entryCmd fn sq port1 op cid)).request
      { req := 0, fn := fn, port1 := port1, cmd := s.io.nextId, what := .walk, issued := 0 }
    else s.taken (s.entryCmd fn sq port1 op cid) := by
  have reqs : (s.taken (s.entryCmd fn sq port1 op cid)).io.reqs = s.io.reqs := (congrArg HostIo.reqs (s.taken_io _) :)
  rw [← reqs]
  simp only [State.fetchEntry, header]
  exact if_neg (by simp [Nat.ne_of_gt long])

/-- The last command alone has its number. -/
theorem State.fetchEntry_complete_cmds (short : h.hops = 0) (good : h.chainBad = false) (fresh : ∀ x ∈ s.io.cmds, x.id ≠ s.io.nextId) :
    (s.fetchEntry fn sq port1 op cid).io.cmds = s.io.cmds ++ [{ s.entryCmd fn sq port1 op cid with walked := true }] := by
  have others : updIf (fun x => x.id == s.io.nextId) (fun c => { c with walked := true }) s.io.cmds = s.io.cmds :=
    (List.map_congr_left fun x mem => if_neg (by simpa using fresh x mem)).trans (List.map_id _)
  rw [State.fetchEntry_complete header short good]
  simp only [State.modCmd, State.modIo, State.taken_io, updIf, List.map_append] at others ⊢
  rw [others]
  simp [State.entryCmd]

theorem State.fetchEntry_walks_cmds (long : 0 < h.hops) :
    (s.fetchEntry fn sq port1 op cid).io.cmds = s.io.cmds ++ [s.entryCmd fn sq port1 op cid] := by
  have cmds := congrArg HostIo.cmds (s.taken_io (s.entryCmd fn sq port1 op cid))
  rw [State.fetchEntry_walks header long]
  split <;> exact cmds

theorem State.fetchEntry_walks_reqs (long : 0 < h.hops) (tag : s.io.reqs.length < tagLimit) :
    (s.fetchEntry fn sq port1 op cid).io.reqs = s.io.reqs ++
      [{ req := s.io.nextReq, fn := fn, port1 := port1, cmd := s.io.nextId, what := .walk, issued := s.clk.frame }] := by
  obtain ⟨-, -, clk⟩ := s.taken_stores (s.entryCmd fn sq port1 op cid)
  rw [State.fetchEntry_walks header long, if_pos tag]
  simp only [State.request, State.modIo, State.taken_io, clk]

theorem State.fetchEntry_leaves (good : 0 < h.hops ∨ h.chainBad = false) :
    (s.fetchEntry fn sq port1 op cid).io.fetched = s.io.fetched + 1 ∧ (s.fetchEntry fn sq port1 op cid).io.nextId = s.io.nextId + 1 ∧
      (s.fetchEntry fn sq port1 op cid).nss = s.nss ∧ (s.fetchEntry fn sq port1 op cid).media = s.media ∧
      (s.fetchEntry fn sq port1 op cid).clk = s.clk := by
  have io := s.taken_io (s.entryCmd fn sq port1 op cid)
  have left := And.intro (congrArg HostIo.fetched io) (And.intro (congrArg HostIo.nextId io) (s.taken_stores (s.entryCmd fn sq port1 op cid)))
  rcases Nat.eq_zero_or_pos h.hops with short | long
  · rw [State.fetchEntry_complete header short (good.resolve_left (by simp [short]))]
    exact left
  · rw [State.fetchEntry_walks header long]
    split <;> exact left
end

/-! The completion entry. -/

section
variable {s : State} {f : Nat} (real : f < s.fns.length) (port1 : Bool)
include real

/-- The counters of a function are not in its controller. -/
theorem State.modFn_counters_ctrl (g : Counters → Counters) :
    (s.modFn f fun x => { x with counters := g x.counters }).ctrl f port1 = s.ctrl f port1 := by
  unfold State.ctrl
  split
  · rfl
  · exact (congrArg Fn.ctrl (s.modFn_fn_same f _ real) :)

theorem State.modCtrl_cqs {g : Ctrl → Ctrl} (keeps : ∀ k, (g k).cqs = k.cqs) : ((s.modCtrl f port1 g).ctrl f port1).cqs = (s.ctrl f port1).cqs :=
  (congrArg Ctrl.cqs (State.modCtrl_ctrl_same real port1 g)).trans (keeps _)

theorem State.interrupt_cqs (v : Nat) : ((s.interrupt f port1 v).ctrl f port1).cqs = (s.ctrl f port1).cqs := by
  unfold State.interrupt
  split
  · rfl
  · split
    · exact State.modCtrl_cqs real port1 fun _ => rfl
    · rfl

theorem State.cqInterrupt_cqs (cq : Cq) : ((s.cqInterrupt f port1 cq).ctrl f port1).cqs = (s.ctrl f port1).cqs := by
  unfold State.cqInterrupt
  split
  · rfl
  · dsimp only
    split
    · split
      · rfl
      · exact State.modCtrl_cqs real port1 fun _ => rfl
    · exact State.interrupt_cqs real _ _

/-- A posted entry is the last of the completion queue that its submission queue names. -/
theorem State.postEntry_entries {e : Cqe} {q : Sq} {k : Cq} (names : (s.ctrl f port1).sqs.find? (fun x => x.qid == e.sq) = some q)
    (stands : (s.ctrl f port1).cqs.find? (fun x => x.qid == q.cq) = some k) :
    (((s.postEntry f port1 e).ctrl f port1).cqs.find? (fun x => x.qid == q.cq)).map (fun x => x.entries) = some (k.entries ++ [e]) := by
  have number : k.qid = q.cq := by simpa using List.find?_some stands
  simp only [State.postEntry, names, stands]
  rw [State.cqInterrupt_cqs (real.trans_eq (congrArg Shape.fns (State.modCtrl_shape s f port1 _)).symm), State.modCtrl_ctrl_same real]
  rw [number, find?_updIf (fun x : Cq => x.qid == q.cq) _ fun _ _ => beq_self_eq_true _, stands]
  rfl
end

theorem State.post_entries {s : State} {c : Cmd} (real : c.fn < s.fns.length) {q : Sq} {k : Cq}
    (names : (s.ctrl c.fn c.port1).sqs.find? (fun x => x.qid == c.sq) = some q)
    (stands : (s.ctrl c.fn c.port1).cqs.find? (fun x => x.qid == q.cq) = some k) :
    (((s.post c).ctrl c.fn c.port1).cqs.find? (fun x => x.qid == q.cq)).map (fun x => x.entries) =
      some (k.entries ++ [{ sq := c.sq, cid := c.cid, sct := c.sct, sc := c.sc, dnr := c.dnr, result := c.result }]) := by
  unfold State.post
  extract_lets released counted
  have same : counted.ctrl c.fn c.port1 = s.ctrl c.fn c.port1 :=
    State.modFn_counters_ctrl (s := released) real c.port1 (·.ended c released.clk.frame)
  rw [← same] at names stands
  exact State.postEntry_entries (real.trans_eq (released.modFn_fns_length _ _).symm) c.port1 names stands

/-! A finished command. -/

/-- An update that keeps the chosen entries chosen does not reach the others. -/
theorem filter_updIf {α : Type} (p : α → Bool) (f : α → α) (keeps : ∀ x, p (f x) = p x) (l : List α) :
    (updIf p f l).filter (! p ·) = l.filter (! p ·) := by
  induction l with
  | nil => rfl
  | cons x l ih =>
    cases h : p x with
    | true => simpa [updIf, h, keeps] using ih
    | false => simpa [updIf, h] using ih

/-- A command that has its status. -/
def Cmd.finished (c : Cmd) (st : NvmeStatus) (frame : Nat) : Cmd :=
  { c with sct := st.sct, sc := st.sc, dnr := st.dnr, result := 0, errorLba := none, readyFrame := frame }

/-- The status of a command is set, before it is delivered. -/
def State.finish (s : State) (id : Nat) (st : NvmeStatus) : State := s.modCmd id fun x => x.finished st s.clk.frame

section
variable {s : State} {id : Nat} {c : Cmd} (found : s.cmd? id = some c)
include found

theorem State.cmd?_id : c.id = id := by simpa using List.find?_some found

theorem State.modCmd_found (g : Cmd → Cmd) (same : ∀ x, (g x).id = x.id) : (s.modCmd id g).cmd? id = some (g c) :=
  (s.modCmd_cmd? id g same).trans (congrArg _ found)

theorem State.finish_found (st : NvmeStatus) : (s.finish id st).cmd? id = some (c.finished st s.clk.frame) :=
  State.modCmd_found found (fun x => x.finished st s.clk.frame) fun _ => rfl

section
variable (runs : s.paused c.fn c.port1 = false)
include runs

/-- A command that writes nothing to host memory posts. -/
theorem State.deliver_posts (nothing : c.fields = []) : s.deliver id [] = s.post c := by
  simp [State.deliver, State.tryPost, found, nothing, runs]

/-- A command with a data structure writes it and issues its read-back. -/
theorem State.deliver_writes (data : c.fields ≠ []) (first : c.delivered = false) : s.deliver id [] =
    ((s.emit (.data c.fn c.cid c.fields)).modCmd id fun x => { x with phase := .readBack, delivered := true }).request
      { req := 0, fn := c.fn, port1 := c.port1, cmd := id, what := .readBack, issued := 0 } := by
  simp [State.deliver, found, data, first, runs, each]
end

variable (st : NvmeStatus) (prompt : s.delays c = false)
include prompt

/-- No completion frame is waited for: the command is delivered. -/
theorem State.conclude_delivers : s.conclude id st = (s.finish id st).deliver id [] := by
  simp only [State.conclude, found, ite_self]
  exact if_neg (Bool.eq_false_iff.mp prompt)

variable (runs : s.paused c.fn c.port1 = false)
include runs

theorem State.conclude_posts (nothing : c.fields = []) : s.conclude id st = (s.finish id st).post (c.finished st s.clk.frame) :=
  (State.conclude_delivers found st prompt).trans (State.deliver_posts (State.finish_found found st) runs nothing)

theorem State.conclude_writes (data : c.fields ≠ []) (first : c.delivered = false) : s.conclude id st =
    (((s.finish id st).emit (.data c.fn c.cid c.fields)).modCmd id fun x => { x with phase := .readBack, delivered := true }).request
      { req := 0, fn := c.fn, port1 := c.port1, cmd := id, what := .readBack, issued := 0 } :=
  (State.conclude_delivers found st prompt).trans
    (State.deliver_writes (c := c.finished st s.clk.frame) (State.finish_found found st) runs data first)

theorem State.conclude_posts_cmds (nothing : c.fields = []) :
    (s.conclude id st).io.cmds = s.io.cmds.filter (fun x => x.id != id) := by
  rw [State.conclude_posts found st prompt runs nothing, State.post, State.postEntry_io, ← State.cmd?_id found]
  exact filter_updIf (fun x => x.id == c.id) (fun x => x.finished st s.clk.frame) (fun _ => rfl) s.io.cmds

theorem State.conclude_posts_entry (nothing : c.fields = []) (real : c.fn < s.fns.length) {q : Sq} {k : Cq}
    (names : (s.ctrl c.fn c.port1).sqs.find? (fun x => x.qid == c.sq) = some q)
    (stands : (s.ctrl c.fn c.port1).cqs.find? (fun x => x.qid == q.cq) = some k) :
    (((s.conclude id st).ctrl c.fn c.port1).cqs.find? (fun x => x.qid == q.cq)).map (fun x => x.entries) =
      some (k.entries ++ [{ sq := c.sq, cid := c.cid, sct := st.sct, sc := st.sc, dnr := st.dnr, result := 0 }]) := by
  rw [State.conclude_posts found st prompt runs nothing]
  exact State.post_entries (s := s.finish id st) (c := c.finished st s.clk.frame) real names stands

theorem State.conclude_writes_leaves (data : c.fields ≠ []) (first : c.delivered = false) :
    (s.conclude id st).out = s.out ++ [.data c.fn c.cid c.fields] ∧
      ((s.conclude id st).cmd? id).map (fun x => (x.phase, x.sc)) = some (.readBack, st.sc) ∧
      (s.conclude id st).io.reqs.length = s.io.reqs.length + 1 ∧ (s.conclude id st).nss = s.nss ∧ (s.conclude id st).media = s.media := by
  rw [State.conclude_writes found st prompt runs data first]
  have at_ : ((s.finish id st).emit (.data c.fn c.cid c.fields)).cmd? id = some (c.finished st s.clk.frame) :=
    State.finish_found found st
  have again := State.modCmd_found at_ (fun x => { x with phase := .readBack, delivered := true }) fun _ => rfl
  exact ⟨rfl, congrArg (Option.map fun x => (x.phase, x.sc)) again, List.length_append, rfl, rfl⟩
end

/-- Settles O43: each row submits its entry; a fetch by the hops of its descriptor walk, a finished command by whether it writes to host memory. -/
theorem nvmeEntriesFetched : Obligations.NvmeEntriesFetched := by
  unfold Obligations.NvmeEntriesFetched
  have row {op : Instr} {h : NvmeHdr} {s : State} (submits : exec op s = submitted h op s) := takesEntry_of_submitted submits
  refine ⟨fun _ _ _ => row rfl, fun _ _ _ => row rfl, fun _ _ _ => row rfl, fun _ _ _ => row rfl, fun _ _ => row rfl,
    fun _ _ _ _ => row rfl, fun _ _ _ => row rfl, fun _ _ _ _ => row rfl, fun _ _ _ _ => row rfl, fun _ _ _ _ => row rfl,
    fun _ _ _ _ => row rfl, fun _ _ _ _ => row rfl, fun _ _ _ _ => row rfl, fun _ _ _ _ _ => row rfl, fun _ _ _ _ _ _ => row rfl,
    fun _ _ _ _ _ _ => row rfl, fun _ _ _ => row rfl, fun _ _ _ _ => row rfl, fun _ _ _ => row rfl, fun _ _ _ _ => row rfl,
    fun _ _ _ => row rfl, fun _ _ _ => row rfl, fun _ _ _ => row rfl, fun _ _ _ _ _ _ _ => row rfl, fun _ _ _ _ _ _ _ _ => row rfl,
    fun _ _ _ => row rfl, fun _ _ _ => row rfl, fun _ _ _ _ => row rfl, fun _ _ => row rfl, fun _ _ _ _ _ _ _ => row rfl,
    fun _ _ => row rfl, fun _ _ _ => row rfl, fun _ _ _ => row rfl, fun _ _ _ => row rfl, fun _ _ _ => row rfl,
    fun _ _ _ _ _ => row rfl, fun _ _ _ _ => row rfl, fun _ _ => row rfl, ?fetch, ?posts, ?writes⟩
  case fetch =>
    intro s fn sq cid port1 op h header
    exact ⟨State.fetchEntry_complete_cmds header, State.fetchEntry_walks_cmds header, State.fetchEntry_walks_reqs header,
      State.fetchEntry_leaves header⟩
  case posts =>
    intro s id c st q k found prompt runs nothing real names stands
    exact ⟨State.conclude_posts_cmds found st prompt runs nothing, State.conclude_posts_entry found st prompt runs nothing real names stands⟩
  case writes =>
    intro s id c st found prompt runs data first
    exact ⟨_, rfl, State.conclude_writes_leaves found st prompt runs data first⟩

end Sys2Proof.Machine
end

section
/-! SUPPORT. Patrol slices, late laps and relocations (R204, R205, R208, R209, R211 to R214, R217, R222): what a slice leaves, the guard of each row,
and the work that a row waits behind. -/

namespace Sys2Proof.Machine

/-! ## What a slice leaves (R205) -/

/-- The place of a lap, the clock, the keys, the host's commands and the power: what reading a slice does not change. -/
structure LapView where
  done : Nat
  lapStart : Nat
  clk : Clock
  keys : Keys
  io : HostIo
  pwr : Power

def State.lapView (s : State) : LapView :=
  { done := s.media.patrol.done, lapStart := s.media.patrol.lapStart, clk := s.clk, keys := s.keys, io := s.io, pwr := s.pwr }

section
variable (s : State)

theorem State.raise_lapView (source code severity : Nat) (args : List Nat) (fn : Nat) :
    (s.raise source code severity args fn).lapView = s.lapView := by
  unfold State.raise
  split <;> rfl
theorem State.candidate_lapView (seq q : Nat) : (s.candidate seq q).lapView = s.lapView := rfl
theorem State.memberTracked_lapView (g : Segment) (q : Nat) (refs : List (Nat × Nat)) : (s.memberTracked g q refs).lapView = s.lapView := rfl

theorem State.markOverflow_lapView (nsid lba : Nat) : (s.markOverflow nsid lba).lapView = s.lapView := by
  unfold State.markOverflow
  split
  · rfl
  · split <;> rfl

theorem State.enterLoss_lapView (nsid lba count gen cause foundBy fn mast : Nat) :
    (s.enterLoss nsid lba count gen cause foundBy fn mast).lapView = s.lapView := by
  unfold State.enterLoss
  extract_lets full e entered counted severity
  have entered_view : counted.lapView = s.lapView := by
    refine Eq.trans (b := entered.lapView) rfl ?_
    simp only [entered]
    split
    · exact s.markOverflow_lapView _ _
    · rfl
  split <;> exact (counted.raise_lapView _ _ _ _ _).trans entered_view

theorem State.sliceTree_lapView (g : Segment) (zi : Nat) (r : SliceReport) : (s.sliceTree g zi r).lapView = s.lapView := by
  unfold State.sliceTree
  dsimp only
  split
  · rfl
  · exact Eq.trans rfl (each_view State.lapView _ (fun s leaf => s.raise_lapView _ _ _ _ _) _ _)

theorem State.sliceSegment_lapView (g : Segment) (r : SliceReport) : (s.sliceSegment g r).lapView = s.lapView := by
  unfold State.sliceSegment
  extract_lets live counted place tracked raised lost entered again verified
  have counted_view : counted.lapView = s.lapView := each_view State.lapView _ (fun s q => by
    split
    · rfl
    · dsimp only
      split <;> rfl) _ _
  have tracked_view : tracked.lapView = counted.lapView := each_view State.lapView _ (fun s x => s.memberTracked_lapView _ _ _) _ _
  have raised_view : raised.lapView = tracked.lapView := each_view State.lapView _ (fun s _ => s.raise_lapView _ _ _ _ _) _ _
  have entered_view : entered.lapView = raised.lapView := each_view State.lapView _ (fun s _ => s.enterLoss_lapView _ _ _ _ _ _ _ _) _ _
  have verified_view : verified.lapView = entered.lapView := each_view State.lapView _ (fun s _ => by split <;> rfl) _ _
  have read : verified.lapView = s.lapView :=
    verified_view.trans (entered_view.trans (raised_view.trans (tracked_view.trans counted_view)))
  split
  · exact (verified.sliceTree_lapView _ _ _).trans read
  · exact read

theorem State.endLap_lapView : s.endLap.lapView = s.lapView := by
  unfold State.endLap
  extract_lets p picks worn again swept
  have worn_view : worn.lapView = s.lapView := each_view State.lapView (fun s q => s.modSeg q fun g => { g with wear := true }) (fun _ _ => rfl) _ _
  have swept_view : swept.lapView = worn.lapView := by
    simp only [swept]
    split <;> rfl
  exact Eq.trans rfl (swept_view.trans worn_view)

end

/-! ## The rows -/

section
variable {s : State}

/-- The item of a slice has been read: it is counted, and the lap goes on behind it. -/
def State.sliceCounted (s : State) (item : Nat) : State := s.modMedia fun m => { m with patrol := { m.patrol with
  done := m.patrol.done + 1, batch := m.patrol.batch - 1, todo := (m.patrol.todo.dropWhile (· != item)).drop 1 } }

theorem execPatrolSlice_reads {r : SliceReport} {g : Segment} (running : s.media.patrol.running = true) (next : s.lapLeft.head? = some r.seq)
    (due : s.media.patrol.done < s.media.patrol.issued) (working : s.pwr.dev = .working) (found : s.seg? r.seq = some g)
    (first : s.behind (if s.media.patrol.raised then rankRaised else rankPatrol) 0 = false) :
    execPatrolSlice r s = .next (if ((s.sliceSegment g r).sliceCounted r.seq).lapLeft.isEmpty then ((s.sliceSegment g r).sliceCounted r.seq).endLap
      else (s.sliceSegment g r).sliceCounted r.seq) := by
  unfold execPatrolSlice
  dsimp only
  rw [found, first, if_neg (by simp [running, next, due, working, State.ready])]
  rfl

/-- Whether or not the slice is the last of its lap, it is counted once (R205). -/
theorem State.sliceCounted_lapView (item : Nat) :
    (if (s.sliceCounted item).lapLeft.isEmpty then (s.sliceCounted item).endLap else s.sliceCounted item).lapView =
      { s.lapView with done := s.lapView.done + 1 } := by
  split
  · exact (s.sliceCounted item).endLap_lapView
  · rfl

theorem execLateLap_late (running : s.media.patrol.running = true) (inTime : s.media.patrol.late = false)
    (due : s.media.patrol.lapStart + s.lapTarget ≤ s.clk.frame) : execLateLap s =
    .next ((s.modMedia fun m => { m with patrol := { m.patrol with late := true, raised := true } }).raise 595 3 1 []) :=
  congrArg Host.Outcome.next (if_pos (by simp [running, inTime, due]))

section
variable {seq q : Nat} {g : Segment} (r : CopyReport) (found : s.seg? seq = some g)
include found

theorem execMemberRewrite_moves {b : Nat} (may : s.mayRewrite g q = true) (first : s.behind (rewriteRank g q) seq = false)
    (free : s.freeBlock (s.memberGlun g q) = some b) : execMemberRewrite ⟨seq, r⟩ q s =
      .next ((((s.modBlock (s.memberGlun g q) b fun e => { e with state := .allocated }).modSeg seq fun g => { g with
        moves := g.moves ++ [{ member := q, block := b }] }).log g.home (.allocation seq)).copyFound g r) := by
  simp [execMemberRewrite, found, may, first, free]

theorem execMemberRewrite_full (may : s.mayRewrite g q = true) (first : s.behind (rewriteRank g q) seq = false)
    (full : s.freeBlock (s.memberGlun g q) = none) : execMemberRewrite ⟨seq, r⟩ q s = .next (s.modSeg seq fun g => { g with refresh := true }) := by
  simp [execMemberRewrite, found, may, first, full]

theorem execMemberRewrite_waits (behind : s.behind (rewriteRank g q) seq = true) : execMemberRewrite ⟨seq, r⟩ q s = .next s := by
  simp [execMemberRewrite, found, behind]

theorem execSegmentRefresh_copies {t : State} (may : s.mayRefresh g = true) (first : s.behind (s.refreshRank g) seq = false)
    (copy : s.replaceSegment seq = some t) : execSegmentRefresh ⟨seq, r⟩ s = .next (t.copyFound g r) := by
  simp [execSegmentRefresh, found, may, first, copy]

theorem execSegmentRefresh_full (may : s.mayRefresh g = true) (first : s.behind (s.refreshRank g) seq = false)
    (full : s.replaceSegment seq = none) : execSegmentRefresh ⟨seq, r⟩ s =
      .next ((s.modSeg seq fun g => { g with triedLap := true }).raise (60 * g.home + 13) 1 1 [seq]) := by
  simp [execSegmentRefresh, found, may, first, full]

theorem execSegmentRefresh_waits (behind : s.behind (s.refreshRank g) seq = true) : execSegmentRefresh ⟨seq, r⟩ s = .next s := by
  simp [execSegmentRefresh, found, behind]

theorem execProgramFailureReplacement_copies {t : State} (may : s.mayReplace g = true) (first : s.behind rankReplace seq = false)
    (copy : s.replaceSegment seq = some t) : execProgramFailureReplacement ⟨seq, r⟩ s = .next (t.copyFound g r) := by
  simp [execProgramFailureReplacement, found, may, first, copy]

theorem execProgramFailureReplacement_full (may : s.mayReplace g = true) (first : s.behind rankReplace seq = false)
    (full : s.replaceSegment seq = none) : execProgramFailureReplacement ⟨seq, r⟩ s = .next (s.noSegment g) := by
  simp [execProgramFailureReplacement, found, may, first, full]

theorem execProgramFailureReplacement_waits (behind : s.behind rankReplace seq = true) :
    execProgramFailureReplacement ⟨seq, r⟩ s = .next s := by
  simp [execProgramFailureReplacement, found, behind]
end

theorem State.compactionDue_picked {n : Namespace} {g : Segment} {score : Nat} (conv : n.conv = true) (writes : s.media.readPreserve = false)
    (picked : s.compactionPick n = some (g, score)) (due : n.csegsLeft ≤ 2 ∨ s.ctlValue ctlCompaction ≤ score) : s.compactionDue n = some g := by
  simp [State.compactionDue, conv, writes, picked, due]

section
variable {nsid : Nat} {n : Namespace} {g : Segment} (r : CopyReport) (found : s.ns? nsid = some n) (due : s.compactionDue n = some g)
  (first : s.behind (compactRank n) g.seq = false)
include found due first

theorem execCompaction_releases (empty : g.valid = 0) : execCompaction ⟨nsid, r⟩ s =
    .next ((s.releaseSegment g.seq).modNs nsid fun n => { n with csegsLeft := n.csegsLeft + 1 }) := by
  simp [execCompaction, found, due, first, empty]

theorem execCompaction_moves (valid : g.valid ≠ 0) : execCompaction ⟨nsid, r⟩ s =
    .next (each ((s.copyFound g r).media.blocks.filter fun b => b.nsid == nsid && b.seg == g.seq && n.map.contains (b.lba, g.seq))
      (fun s b => s.compactBlock nsid g.seq g.keyRef b) (s.copyFound g r)) := by
  simp [execCompaction, found, due, first, valid]
end

/-! ## The order of the ranks (R213) -/

/-- A segment that can be replaced is work of the first rank: every other rank waits behind it. -/
theorem State.behind_of_mayReplace {rank : Nat} (seq : Nat) {g : Segment} (mem : g ∈ s.media.segs) (may : s.mayReplace g = true)
    (place : s.chooseSet g.width ≠ none) (later : rankReplace < rank) : s.behind rank seq = true := by
  have work : (rankReplace, g.seq) ∈ s.segWork g := by
    simp [State.segWork, may, Option.isSome_iff_ne_none.mpr place]
  have listed : (rankReplace, g.seq) ∈ s.media.segs.flatMap s.segWork ++ s.nss.flatMap s.regionWork :=
    List.mem_append_left _ (List.mem_flatMap.mpr ⟨g, mem, work⟩)
  unfold State.behind
  rw [List.any_eq_true.mpr ⟨_, listed, by simp [later]⟩, Bool.true_or]
end

/-- Settles O24: each row by its guard; what a slice reads leaves the lap's place, and the slice counts it once. -/
theorem patrolAndRelocation : Obligations.PatrolAndRelocation := by
  unfold Obligations.PatrolAndRelocation
  refine ⟨?slice, ?late, ?rewrite, ?noBlock, ?refresh, ?replacement, ?compaction, ?waits, ?behind, ?ranks⟩
  case slice =>
    intro r g s running next due working found first
    have view := (s.sliceSegment g r).sliceCounted_lapView r.seq
    rw [State.sliceSegment_lapView] at view
    exact ⟨_, execPatrolSlice_reads running next due working found first, congrArg LapView.done view, congrArg LapView.lapStart view,
      congrArg LapView.clk view, congrArg LapView.keys view, congrArg LapView.io view, congrArg LapView.pwr view⟩
  case late => exact fun s running inTime due => execLateLap_late running inTime due
  case rewrite => exact fun seq q b g r s found may first free => execMemberRewrite_moves r found may first free
  case noBlock => exact fun seq q g r s found may first full => execMemberRewrite_full r found may first full
  case refresh =>
    exact fun seq g r s found may first => ⟨fun t copy => execSegmentRefresh_copies r found may first copy,
      fun full => execSegmentRefresh_full r found may first full⟩
  case replacement =>
    exact fun seq g r s found may first => ⟨fun t copy => execProgramFailureReplacement_copies r found may first copy,
      fun full => execProgramFailureReplacement_full r found may first full⟩
  case compaction =>
    intro nsid score n g r s found conv writes picked least first
    have due := State.compactionDue_picked conv writes picked least
    exact ⟨fun empty => execCompaction_releases r found due first empty, fun valid => execCompaction_moves r found due first valid⟩
  case waits =>
    exact fun seq q g r s found => ⟨execMemberRewrite_waits r found, execSegmentRefresh_waits r found, execProgramFailureReplacement_waits r found⟩
  case behind => exact fun rank seq g s mem may place later => State.behind_of_mayReplace seq mem may place later
  case ranks => decide

end Sys2Proof.Machine
end

section
/-! SUPPORT. The rows of the power correction, and of the samples and patrol batches of crow's-nest mode (R206, R458, R461, R472, R474). -/

namespace Sys2Proof.Machine

section
variable {s : State}

/-! ## The power correction (R461) -/

theorem execPowerCorrectionCheck_halves (due : ∀ f, s.pwr.lastHalving = some f → f + 64 ≤ s.clk.frame) (measured : 64 ≤ s.pwr.watts.length)
    (above : 64 * capOf s.reef < s.wattSum) : execPowerCorrectionCheck s = .next (s.modPwr fun p => { p with
      halvings := min 3 (p.halvings + 1), coolFrames := 0, lastHalving := some s.clk.frame }) := by
  cases last : s.pwr.lastHalving with
  | none => simp [execPowerCorrectionCheck, last, measured, above]
  | some f => simp [execPowerCorrectionCheck, last, due f last, measured, above]

theorem execPowerCorrectionCheck_within (within : s.wattSum ≤ 64 * capOf s.reef) : execPowerCorrectionCheck s = .next s := by
  simp [execPowerCorrectionCheck, Nat.not_lt.mpr within]

theorem execPowerCorrectionRecovery_doubles (cool : 4096 ≤ s.pwr.coolFrames) (halved : 0 < s.pwr.halvings) :
    execPowerCorrectionRecovery s = .next (s.modPwr fun p => { p with halvings := p.halvings - 1, coolFrames := 0 }) := by
  simp [execPowerCorrectionRecovery, cool, halved]

/-! ## The sampler (R472) -/

theorem State.excursions_inside {vin bank : Nat} (unwatched : s.pwr.watched = [])
    (charged : s.record.vMin + s.ctlValue ctlBankMargin ≤ bankRaw s.record bank) (low : s.ctlValue ctlVinLow ≤ vin)
    (high : vin ≤ s.ctlValue ctlVinHigh) (temps : List (Option Int)) : s.excursions vin bank temps = [] := by
  simp [State.excursions, unwatched, Nat.not_lt.mpr charged, Nat.not_lt.mpr low, Nat.not_lt.mpr high]

/-- The archive clock has run on to the tick of the sample that is due. -/
def State.atSample (s : State) : State :=
  s.modClk fun c => c.tick (s.pwr.sampleTick + 32768 * s.pwr.armed.getD 0 - c.ticks)

/-- The sample that is due has been taken: the time since the last one is charged, and the readings are kept. -/
def State.sampleTaken (s : State) (temps : List Int) : State :=
  let now := s.atSample.darkReadings temps
  let t := s.atSample.chargeDark (s.atSample.clk.ticks - s.pwr.sampleTick) s.pwr.sampled now
  t.modPwr fun p => { p with sampleTick := t.clk.ticks, sampled := now }

/-- What follows a sample by the windows that it found left: the fresh ones wake the device. -/
def State.sampleJudged (s : State) (left : List Nat) : State :=
  let fresh := left.filter fun w => ! s.pwr.excluded.contains w
  let t := s.modPwr fun p => { p with excluded := p.excluded.filter left.contains }
  if fresh.isEmpty then t else (t.wake 1).modPwr fun p => { p with excluded := dedupN (p.excluded ++ fresh) }

theorem execSamplerWake_judges (crow : s.pwr.dev = .crowsNest) (vin bank : Nat) (temps : List Int) : execSamplerWake vin bank temps s =
    .next ((s.sampleTaken temps).sampleJudged ((s.sampleTaken temps).excursions vin bank (s.atSample.darkReadings temps))) :=
  congrArg Host.Outcome.next (if_neg (by simp [crow]))

theorem State.sampleJudged_inside : s.sampleJudged [] = s.modPwr fun p => { p with excluded := [] } := by
  have kept (l : List Nat) : l.filter ([] : List Nat).contains = [] := List.filter_false l
  simp [State.sampleJudged, kept]

/-- The charge reaches the media alone (R201), and the sample its tick and readings. -/
theorem State.sampleTaken_parts (temps : List Int) : ∃ (f : Media → Media) (tick : Nat) (now : List (Option Int)), s.sampleTaken temps =
    (s.atSample.modMedia f).modPwr fun p => { p with sampleTick := tick, sampled := now } := by
  obtain ⟨f, charged⟩ := s.atSample.chargeDark_media (s.atSample.clk.ticks - s.pwr.sampleTick) s.pwr.sampled (s.atSample.darkReadings temps)
  unfold State.sampleTaken
  dsimp only
  rw [charged]
  exact ⟨f, _, _, rfl⟩

theorem State.sampleTaken_keeps (temps : List Int) : (s.sampleTaken temps).pwr.dev = s.pwr.dev ∧ (s.sampleTaken temps).start = s.start ∧
    (s.sampleTaken temps).evt = s.evt ∧ (s.sampleTaken temps).clk = s.atSample.clk ∧ (s.sampleTaken temps).nss = s.nss ∧
    (s.sampleTaken temps).keys = s.keys := by
  obtain ⟨f, tick, now, taken⟩ := s.sampleTaken_parts temps
  rw [taken]
  exact ⟨rfl, rfl, rfl, rfl, rfl, rfl⟩

/-- What a sample is judged by is not changed by taking it: the windows' controls, the drive record and the inputs watched. -/
theorem State.sampleTaken_excursions (vin bank : Nat) (sample : List Int) (temps : List (Option Int)) :
    (s.sampleTaken sample).excursions vin bank temps = s.excursions vin bank temps := by
  obtain ⟨f, tick, now, taken⟩ := s.sampleTaken_parts sample
  rw [taken]
  rfl

theorem execSamplerWake_inside {vin bank : Nat} {temps : List Int} (crow : s.pwr.dev = .crowsNest)
    (inside : s.excursions vin bank (s.atSample.darkReadings temps) = []) :
    execSamplerWake vin bank temps s = .next ((s.sampleTaken temps).modPwr fun p => { p with excluded := [] }) := by
  rw [execSamplerWake_judges crow, State.sampleTaken_excursions, inside, State.sampleJudged_inside]

/-! ## The patrol's batches (R206) -/

/-- The batch that is due: the clock has run on to its tick, and its slices have been issued. -/
def State.batchIssued (s : State) : State :=
  (s.modClk fun c => c.tick (s.media.patrol.batchTick - c.ticks)).modMedia fun m => { m with patrol := { m.patrol with
    batch := ceilDiv m.patrol.total 1024
    issued := min m.patrol.total (m.patrol.done + ceilDiv m.patrol.total 1024) } }

theorem execPatrolBatchDue_wakes (crow : s.pwr.dev = .crowsNest) (running : s.media.patrol.running = true)
    (first : ∀ k, s.pwr.armed = some k → s.media.patrol.batchTick ≤ s.pwr.sampleTick + 32768 * k) :
    execPatrolBatchDue s = .next (s.batchIssued.wake 2) := by
  cases armed : s.pwr.armed with
  | none => simp [execPatrolBatchDue, State.batchIssued, armed, crow, running]
  | some k => simp [execPatrolBatchDue, State.batchIssued, armed, crow, running, Nat.not_lt.mpr (first k armed)]

theorem execPatrolBatchDue_waits {k : Nat} (armed : s.pwr.armed = some k) (sample : s.pwr.sampleTick + 32768 * k < s.media.patrol.batchTick) :
    execPatrolBatchDue s = .next s := by
  simp [execPatrolBatchDue, armed, sample]

theorem State.wake_crowsNest (crow : s.pwr.dev = .crowsNest) (source : Nat) :
    (s.wake source).pwr.dev = .starting ∧ (s.wake source).pwr.lastWake = source ∧ (s.wake source).start.stage = 2 ∧
    (s.wake source).media = s.media ∧ (s.wake source).clk = s.clk ∧ (s.wake source).nss = s.nss ∧ (s.wake source).keys = s.keys := by
  unfold State.wake
  dsimp only
  rw [if_pos (by simp [crow])]
  exact ⟨rfl, rfl, rfl, rfl, rfl, rfl, rfl⟩
end

/-- Settles O39: each row by its guard; a sample changes nothing that it is judged by, and its charge reaches the media alone. -/
theorem powerCorrection : Obligations.PowerCorrection := by
  unfold Obligations.PowerCorrection
  refine ⟨?halves, ?within, ?doubles, ?caps, ?sample, ?batch, ?waits⟩
  case halves => exact fun s due measured above => execPowerCorrectionCheck_halves due measured above
  case within => exact fun s within => execPowerCorrectionCheck_within within
  case doubles => exact fun s cool halved => execPowerCorrectionRecovery_doubles cool halved
  case caps => exact ⟨rfl, rfl, rfl, rfl, rfl⟩
  case sample =>
    intro vin bank temps s crow runs unwatched charged low high
    obtain ⟨dev, start, evt, clk, nss, keys⟩ := s.sampleTaken_keeps temps
    exact ⟨_, execSamplerWake_inside crow (State.excursions_inside unwatched charged low high _), dev.trans crow, rfl, start, evt,
      (congrArg Clock.ticks clk).trans (Clock.tick_ticks runs _), nss, keys⟩
  case batch =>
    intro s crow running first
    have crow' : s.batchIssued.pwr.dev = .crowsNest := crow
    obtain ⟨dev, lastWake, stage, media, clk, nss, keys⟩ := State.wake_crowsNest crow' 2
    exact ⟨_, execPatrolBatchDue_wakes crow running first, dev, lastWake, stage, congrArg (fun m : Media => m.patrol.batch) media, clk, nss, keys⟩
  case waits => exact fun k s armed sample => execPatrolBatchDue_waits armed sample

end Sys2Proof.Machine
end

section
/-! SUPPORT. The ends of fixity jobs by their kinds, and the expiry of a result (R268, R271 to R273, R277, R282). -/

namespace Sys2Proof.Machine

section
variable {s : State} {n : Nat} {j : FixJob} {mismatched lost bad : List Nat} {ok changed : Bool}

/-! ## The end of a job (R272) -/

section
variable (running : s.fix.jobs.find? (fun j => j.job == n && !j.ended) = some j)
include running

/-- The entries of the job's number are replaced, and the event goes to the function that asked (R272). -/
theorem State.closeJob_of_running (f : FixJob → FixJob) : s.closeJob n f =
    (s.modFix fun x => { x with jobs := updIf (fun y => y.job == n) (fun _ => { f j with ended := true, endFrame := s.clk.frame }) x.jobs }).raise
      486 1 0 [n, (f j).status] j.fn := by
  simp only [State.closeJob, running]

theorem execFixityJobEnd_treeCheck (kind : j.kind = .treeCheck) (same : s.jobChanged j = none) :
    execFixityJobEnd n mismatched lost bad ok changed s =
      .next ((s.treeResult j.nsid j.zone mismatched lost ok).closeJob n fun j => { j with mismatched := mismatched }) := by
  simp only [execFixityJobEnd, running, kind, same]

/-- A job over a whole zone, whose zone has been reset since it started (R282). -/
theorem execFixityJobEnd_zoneChanged {zi : Nat} (kind : j.kind = .treeCheck ∨ j.kind = .zoneAttestation) (reset : s.jobChanged j = some zi) :
    execFixityJobEnd n mismatched lost bad ok changed s = .next (s.closeJob n fun j => j.failed 0x0204 zi) := by
  obtain kind | kind := kind <;> simp only [execFixityJobEnd, running, kind, reset]

theorem execFixityJobEnd_range (kind : j.kind = .rangeDigest ∨ j.kind = .rangeAttestation) :
    execFixityJobEnd n mismatched lost bad ok changed s = .next (s.endRange j lost bad changed) := by
  obtain kind | kind := kind <;> simp only [execFixityJobEnd, running, kind]

theorem execFixityJobEnd_signerGone (kind : j.kind = .keyBinding) (gone : s.signer 2 j.signSlot = none) :
    execFixityJobEnd n mismatched lost bad ok changed s = .next (s.closeJob n fun j => j.failed 0x0201 j.signSlot) := by
  simp only [execFixityJobEnd, running, kind, gone]
end

/-! ## The expiry of a result -/

/-- The result of the job `n` has been kept for 2^26 frames after the job's end. -/
def FixJob.expired (j : FixJob) (n frame : Nat) : Bool := j.job == n && j.ended && decide (j.endFrame + 67108864 ≤ frame)

theorem FixJob.expired_iff {frame : Nat} : j.expired n frame = true ↔ j.job = n ∧ j.ended = true ∧ j.endFrame + 67108864 ≤ frame := by
  simp [FixJob.expired, and_assoc]

theorem execFixityResultExpiry_drops (n : Nat) (s : State) :
    execFixityResultExpiry n s = .next (s.modFix fun x => { x with jobs := x.jobs.filter fun j => ! j.expired n s.clk.frame }) := rfl

theorem FixJob.mem_filter_not_expired {frame : Nat} {jobs : List FixJob} : j ∈ jobs.filter (fun j => ! j.expired n frame) ↔
    j ∈ jobs ∧ ¬(j.job = n ∧ j.ended = true ∧ j.endFrame + 67108864 ≤ frame) := by
  rw [List.mem_filter, Bool.not_eq_true', ← Bool.not_eq_true, FixJob.expired_iff]
end

/-- Settles O31: the end of a job by its kind and by what it finds changed; the expiry filters the list of the jobs and touches nothing else. -/
theorem fixityJobs : Obligations.FixityJobs := by
  unfold Obligations.FixityJobs
  refine ⟨?treeCheck, ?zoneChanged, ?range, ?signerGone, ?closes, ?expires⟩
  case treeCheck => exact fun n mm lost bad ok ch j s running kind same => execFixityJobEnd_treeCheck running kind same
  case zoneChanged => exact fun n zi mm lost bad ok ch j s running kind reset => execFixityJobEnd_zoneChanged running kind reset
  case range => exact fun n mm lost bad ok ch j s running kind => execFixityJobEnd_range running kind
  case signerGone => exact fun n mm lost bad ok ch j s running kind gone => execFixityJobEnd_signerGone running kind gone
  case closes => exact fun n f j s running => State.closeJob_of_running running f
  case expires => exact fun n s => ⟨_, execFixityResultExpiry_drops n s, fun _ => FixJob.mem_filter_not_expired, rfl, rfl, rfl, rfl⟩

end Sys2Proof.Machine
end

section
/-! SUPPORT. Controllers and the resets of instances: the rows of CC.EN, of the function-level reset, of VF Enable and of the end of a reset, and
the state in which the reset of an online instance begins (R309, R312, R314, R322 to R326, R488, R497). -/

namespace Sys2Proof.Machine

section
variable {s : State} {f : Nat}

/-- Function 0 and every instance have a controller on port 0. -/
theorem ctrlUnit_port0 (unit : f ≤ 128) : ctrlUnit f false = true := by
  simp [ctrlUnit, unit]

/-! ## CC.EN, the function-level reset and VF Enable (R309, R312, R314, R322, R497) -/

section
variable (unit : f ≤ 128) (open_ : s.configOpen f false = true)
include unit open_

theorem execCcEnSet_enables (disabled : (s.ctrl f false).ccEn = false) (unreset : (s.fn f).queuedReset = none)
    (up : f = 0 ∨ (s.fn f).state = .online) :
    execCcEnSet f false s = .next (s.modCtrl f false fun c => { c with
      ccEn := true, rdy := s.ready && ! c.cfs, shst := 0
      sqs := [{ qid := 0, size := adminSize, cq := 0 }], cqs := [{ qid := 0, size := adminSize, vector := 0 }] }) := by
  obtain rfl | online := up
  · simp [execCcEnSet, whenUnit, ctrlUnit_port0 unit, open_, disabled, unreset]
  · simp [execCcEnSet, whenUnit, ctrlUnit_port0 unit, open_, disabled, unreset, online]

theorem execCcEnClear_instance (instance_ : f ≠ 0) (enabled : (s.ctrl f false).ccEn = true) :
    execCcEnClear f false s = .next ((s.modCtrl f false fun c => { c with ccEn := false }).queueReset f .ccReset) := by
  simp [execCcEnClear, whenUnit, ctrlUnit_port0 unit, open_, enabled, instance_]

theorem execFunctionLevelReset_instance (instance_ : f ≠ 0) :
    execFunctionLevelReset f false s = .next (s.queueReset f .flr) := by
  simp [execFunctionLevelReset, whenUnit, ctrlUnit_port0 unit, open_, instance_]
end

/-- VF Enable set for a count that takes no instance away: the ones beyond it are offline, without Expert. -/
theorem execVfEnableChange_set {n : Nat} (count : n ≤ 128)
    (beyond : ∀ x ∈ s.fns, x.fn ≠ 0 → n < x.fn → x.state = .offline ∧ x.expert = false) :
    execVfEnableChange true n s = .next (s.modIo fun h => { h with vfEnable := true, numVfs := n }) := by
  have none_ : (s.fns.filter fun x => x.fn != 0 && (x.state != .offline || x.expert) && (! true || decide (n < x.fn))) = [] := by
    rw [List.filter_eq_nil_iff]
    intro x hx taken
    obtain ⟨⟨instance_, kept⟩, more⟩ : (x.fn ≠ 0 ∧ (x.state ≠ .offline ∨ x.expert = true)) ∧ n < x.fn := by simpa using taken
    obtain ⟨offline, noExpert⟩ := beyond x hx instance_ more
    simp [offline, noExpert] at kept
  rw [execVfEnableChange]
  dsimp only
  rw [Nat.min_eq_right count, State.modIo_fns, none_]
  rfl

/-! ## The reset that waits for step 4 (R322) -/

/-- A cause is queued where none waits: only the loss of the VF is wider than another (R500). -/
theorem State.queueReset_first (real : f < s.fns.length) (unreset : (s.fn f).queuedReset = none) (cause : ResetCause) :
    ((s.queueReset f cause).fn f).queuedReset = some cause := by
  rw [State.queueReset, s.modFn_fn_same f _ real]
  simp [unreset]

/-! ## The reset of an online instance begins (R322, R324) -/

/-- A view of one function's record that no update of its controller or of its counters changes is left by all that ends its work. -/
theorem State.fn_workBlind {α : Type} {part : Fn → α} (ctrl : ∀ (x : Fn) (g : Ctrl → Ctrl), part { x with ctrl := g x.ctrl } = part x)
    (counters : ∀ (x : Fn) (g : Counters → Counters), part { x with counters := g x.counters } = part x) (f : Nat) :
    WorkBlind fun s => part (s.fn f) := by
  have updated (s : State) (k : Nat) {g : Fn → Fn} (kept : ∀ x, part (g x) = part x) : part ((s.modFn k g).fn f) = part (s.fn f) := by
    by_cases same : f = k
    · subst same
      by_cases real : f < s.fns.length
      · rw [s.modFn_fn_same f g real, kept]
      · simp [State.fn, State.modFn, real]
    · rw [s.modFn_fn_other k f g same]
  exact {
    io := fun _ _ => rfl
    ctrl := fun s k port1 g => by
      unfold State.modCtrl
      split
      · rfl
      · exact updated s k fun x => ctrl x g
    counters := fun s k g => updated s k fun x => counters x g
    emit := fun _ _ => rfl
    media := fun _ _ => rfl
    nss := fun _ _ => rfl
    luns := fun _ _ => rfl
    masts := fun _ _ => rfl
    pwr := fun _ _ => rfl
    start := fun _ _ => rfl
    evt := fun _ _ => rfl
    fix := fun _ _ => rfl }

/-- The reset drains first: the manager asked for it, and the policy of the instance says so (R324). -/
def State.drainsFor (s : State) (f : Nat) (cause : ResetCause) : Bool :=
  (cause == .resetInstance || cause == .offline) && s.ctlValue ctlResetPolicy f == 0

/-- The record of an online instance whose reset begins in the frame `frame`. -/
def Fn.enterReset (x : Fn) (cause : ResetCause) (drains : Bool) (frame : Nat) : Fn :=
  let byMbx := cause == .resetInstance || cause == .offline
  { x with
    state := .resetting, resetCause := some cause, draining := drains, resetFrame := frame, retired := false, inFlr := cause == .flr
    ctrl := { x.ctrl with rdy := false, pBme := x.ctrl.pBme && byMbx, pCmd := x.ctrl.pCmd && byMbx } }

/-- The state in which the reset of an online instance stands before its work is drained or squashed. -/
def State.resetEntered (s : State) (f : Nat) (cause : ResetCause) : State :=
  (s.resetBoxes (boxOf f) (resetStatus cause)).modFn f fun x => x.enterReset cause (s.drainsFor f cause) s.clk.frame

theorem State.resetEntered_fn (real : f < s.fns.length) (cause : ResetCause) :
    (s.resetEntered f cause).fn f = (s.fn f).enterReset cause (s.drainsFor f cause) s.clk.frame :=
  (s.resetBoxes (boxOf f) (resetStatus cause)).modFn_fn_same f _ real

/-- An online instance enters its reset, and its work is drained or squashed by the policy (R322 to R324). -/
theorem State.beginReset_online (online : (s.fn f).state = .online) (cause : ResetCause) : s.beginReset f cause =
    if s.drainsFor f cause then
      (((s.resetEntered f cause).drain f).releaseDrained f).abortJobs (fun j => j.fn == f && j.via != .mctp) (resetStatus cause)
    else (s.resetEntered f cause).squash f false (resetStatus cause) := by
  simp only [State.beginReset, online]
  rfl

theorem WorkBlind.beginReset {α : Type} {view : State → α} (h : WorkBlind view) (online : (s.fn f).state = .online) (cause : ResetCause) :
    view (s.beginReset f cause) = view (s.resetEntered f cause) := by
  rw [State.beginReset_online online]
  split
  · exact (h.abortJobs _ _ _).trans ((h.releaseDrained _ _).trans (h.drain _ _))
  · exact h.squash _ _ _ _

/-- What a function's record says of its reset: its state, the cause, the frame in which it began, and whether it is retired. -/
def Fn.resetView (x : Fn) : InstState × Option ResetCause × Nat × Bool := (x.state, x.resetCause, x.resetFrame, x.retired)

theorem State.beginReset_resetView (real : f < s.fns.length) (online : (s.fn f).state = .online) (cause : ResetCause) :
    ((s.beginReset f cause).fn f).resetView = (.resetting, some cause, s.clk.frame, false) :=
  have kept : WorkBlind fun s => (s.fn f).resetView := State.fn_workBlind (fun _ _ => rfl) (fun _ _ => rfl) f
  (kept.beginReset online cause).trans (congrArg Fn.resetView (State.resetEntered_fn real cause))

theorem State.beginReset_keysAndClock (online : (s.fn f).state = .online) (cause : ResetCause) :
    (s.beginReset f cause).keysAndClock = s.keysAndClock :=
  State.keysAndClock_workBlind.beginReset online cause

/-! ## The drain limit and the end of the reset (R324, R326) -/

section
variable (unit : f ≤ 128) (resetting : (s.fn f).state = .resetting)
include unit resetting

theorem execDrainLimit_squashes (draining : (s.fn f).draining = true) (passed : (s.fn f).resetFrame + s.ctlValue ctlDrainLimit f ≤ s.clk.frame) :
    execDrainLimit f s = .next ((s.modFn f fun x => { x with draining := false }).squash f false
      (resetStatus ((s.fn f).resetCause.getD .resetInstance))) := by
  simp [execDrainLimit, whenUnit, unit, resetting, draining, passed]

theorem execResetRetire_retires (ended : s.workEnded f = true) : execResetRetire f s = .next (s.modFn f fun x => { x with retired := true }) := by
  simp [execResetRetire, whenUnit, unit, resetting, ended]
end

theorem State.workEnded_iff : s.workEnded f = true ↔ (∀ c ∈ s.io.cmds, c.fn ≠ f) ∧ (∀ r ∈ s.io.reqs, r.fn = f → r.retiredUntil ≠ none) ∧
    ∀ b ∈ s.pool.bufs, b.fn = f → b.state ≠ .zeroing := by
  simp [State.workEnded, and_assoc]
end

/-- Settles O26: each row by its guards; the fields of the reset that an online instance enters are left by the drain and the squash that follow. -/
theorem controllers : Obligations.Controllers := by
  unfold Obligations.Controllers
  refine ⟨?enables, ?disables, ?functionReset, ?queues, ?begins, ?limit, ?retires, ?vfEnable⟩
  case enables => exact fun f s unit open_ disabled unreset up => execCcEnSet_enables unit open_ disabled unreset up
  case disables => exact fun f s instance_ unit open_ enabled => execCcEnClear_instance unit open_ instance_ enabled
  case functionReset => exact fun f s instance_ unit open_ => execFunctionLevelReset_instance unit open_ instance_
  case queues => exact fun f cause s real unreset => State.queueReset_first real unreset cause
  case begins =>
    intro f cause s real _ _ online
    have reset := State.beginReset_resetView real online cause
    have same := State.beginReset_keysAndClock online cause
    exact ⟨congrArg (·.1) reset, congrArg (·.2.1) reset, congrArg (·.2.2.1) reset, congrArg (·.2.2.2) reset, congrArg (·.2) same,
      congrArg (·.1) same⟩
  case limit => exact fun f s unit resetting draining passed => execDrainLimit_squashes unit resetting draining passed
  case retires =>
    exact fun f s unit resetting noCmd noReq noBuf =>
      execResetRetire_retires unit resetting (State.workEnded_iff.mpr ⟨noCmd, noReq, noBuf⟩)
  case vfEnable => exact fun n s count beyond => execVfEnableChange_set count beyond

end Sys2Proof.Machine
end

section
/-! SUPPORT. A Halyard port after an update of it, and what a row that receives a packet does (R335, R337, R339, R352). -/

namespace Sys2Proof.Machine

/-! ## Ports -/

section
variable (s : State) {port : Nat}

theorem State.modHport_same (real : port < s.hal.ports.length) (f : HPort → HPort) : (s.modHport port f).hport port = f (s.hport port) := by
  simp [State.modHport, State.hport, List.getD_eq_getElem?_getD, real]
theorem State.modHport_other {q : Nat} (other : q ≠ port) (f : HPort → HPort) : (s.modHport port f).hport q = s.hport q := by
  simp [State.modHport, State.hport, List.getD_eq_getElem?_getD, Ne.symm other]
@[simp] theorem State.modHport_ports_length (f : HPort → HPort) : (s.modHport port f).hal.ports.length = s.hal.ports.length := by
  simp [State.modHport]

theorem State.hport_beyond (beyond : ¬ port < s.hal.ports.length) : s.hport port = {} := by
  simp [State.hport, List.getD_eq_getElem?_getD, beyond]

/-- What an update of a port leaves of every port, it leaves of the one that it names. -/
theorem State.modHport_part {α : Type} {part : HPort → α} {f : HPort → HPort} (q : Nat) (keeps : ∀ p, part (f p) = part p) :
    part ((s.modHport q f).hport port) = part (s.hport port) := by
  by_cases same : port = q
  · subst same
    by_cases real : port < s.hal.ports.length
    · rw [s.modHport_same real, keeps]
    · rw [State.hport_beyond _ (by simpa using real), State.hport_beyond _ real]
  · rw [s.modHport_other same]

/-- A port that the device has not got is Down. -/
theorem State.real_of_state (up : (s.hport port).state ≠ .down) : port < s.hal.ports.length := by
  by_contra beyond
  exact up (by rw [s.hport_beyond beyond])
end

/-! ## The receipt of a packet -/

section
variable {s : State} {port seq ptype packets : Nat}

theorem State.rx_eq (k : State → State) : s.rx port seq ptype packets k =
    if (s.hport port).state == .down || (s.hport port).state == .training then s
    else if seq != (s.hport port).rxNext then s.sendNak port 2
    else if overCredit (s.hport port) ptype packets then
      (s.modHport port fun p => { p with rxNext := p.rxNext + packets, heard := true }).violation port
    else if refuses (s.hport port) ptype then (s.took port ptype packets).refuse port 0 2 0
    else if carries (s.hport port).state ptype then k (s.took port ptype packets) else s.took port ptype packets := rfl

theorem received_unit (unit : port < 3) (k : State → State) : received port seq ptype s k packets = .next (s.rx port seq ptype packets k) := by
  simp [received, whenUnit, unit]

/-- Settles the first clause for each row: it is `received` with what the row does of its own. -/
theorem discards_of_received {i : Instr} {k : State → State} (row : exec i s = received port seq ptype s k packets) :
    Discards i port seq ptype packets s := by
  intro unit
  rw [row, received_unit unit, State.rx_eq]
  refine ⟨fun off => ?_, fun notDown notTraining => ⟨fun other => ?_, fun next_ => ⟨fun beyond => ?_, fun within => ⟨fun refused => ?_,
    fun open_ carried => ?_⟩⟩⟩⟩
  · rcases off with off | off <;> simp [off]
  · simp [notDown, notTraining, other]
  · simp [notDown, notTraining, next_, beyond]
  · simp [notDown, notTraining, next_, within, refused]
  · simp [notDown, notTraining, next_, within, open_, carried]

/-- What stands of a port that takes a packet. -/
structure Taking (s : State) (port seq ptype : Nat) : Prop where
  unit : port < 3
  notDown : (s.hport port).state ≠ .down
  notTraining : (s.hport port).state ≠ .training
  inOrder : seq = (s.hport port).rxNext
  carried : carries (s.hport port).state ptype = true

theorem State.accepts_taking (accepted : s.accepts port seq ptype packets = true) : Taking s port seq ptype := by
  simp only [State.accepts, Bool.and_eq_true, decide_eq_true_eq, bne_iff_ne, beq_iff_eq] at accepted
  obtain ⟨⟨⟨⟨⟨⟨unit, notDown⟩, notTraining⟩, inOrder⟩, -⟩, -⟩, carried⟩ := accepted
  exact ⟨unit, notDown, notTraining, inOrder, carried⟩

theorem received_accepted (accepted : s.accepts port seq ptype packets = true) (k : State → State) :
    received port seq ptype s k packets = .next (k (s.took port ptype packets)) := by
  simp only [State.accepts, Bool.and_eq_true, Bool.not_eq_true', decide_eq_true_eq, bne_iff_ne, beq_iff_eq] at accepted
  obtain ⟨⟨⟨⟨⟨⟨unit, notDown⟩, notTraining⟩, inOrder⟩, within⟩, open_⟩, carried⟩ := accepted
  rw [received_unit unit, State.rx_eq]
  simp [notDown, notTraining, inOrder, within, open_, carried]
end
end Sys2Proof.Machine
end


section
/-! SUPPORT. What the packets that the device sends leave: of a port its state, its session, its neighbour, its request credits and what it has accepted,
and of the rest all but what is sent (R337, R339, R343, R350, R358). -/

namespace Sys2Proof.Machine

/-- What no packet that the device sends changes of a port. -/
def HPort.session (p : HPort) : LinkState × Auth × Nat × Option Digest × Nat := (p.state, p.auth, p.rxNext, p.neighbour, p.reqCredits)

/-- A view that the outputs leave, and the updates of a port that leave its session. -/
structure SendBlind {α : Type} (view : State → α) : Prop where
  emit (s : State) (o : Out) : view (s.emit o) = view s
  port (s : State) (q : Nat) (f : HPort → HPort) (keeps : ∀ p, (f p).session = p.session) : view (s.modHport q f) = view s

/-- One that the probes, those held and those outstanding, do not change either. -/
structure ProbeBlind {α : Type} (view : State → α) : Prop extends SendBlind view where
  probes (s : State) (n : Nat) (f : List Probe → List Probe) : view (s.modHal fun h => { h with nextProbe := n, probes := f h.probes }) = view s
  held (s : State) (f : List (Nat × Digest × Digest × Nat × Nat × Nat) → List (Nat × Digest × Digest × Nat × Nat × Nat)) :
    view (s.modHal fun h => { h with heldProbes := f h.heldProbes }) = view s

section
variable {α : Type} {view : State → α} (h : SendBlind view) (s : State)
include h

theorem SendBlind.put (port : Nat) (k : TxPkt) : view (s.put port k) = view s := (h.emit _ _).trans (h.port _ _ _ fun _ => rfl)

theorem SendBlind.tx (port : Nat) (k : TxPkt) : view (s.tx port k) = view s := by
  unfold State.tx
  dsimp only
  split
  · rfl
  · split
    · exact h.put _ _ _
    · split
      · exact (h.put _ _ _).trans (h.port _ _ _ fun _ => rfl)
      · exact h.port _ _ _ fun _ => rfl

theorem SendBlind.sendNak (port reason : Nat) : view (s.sendNak port reason) = view s := by
  unfold State.sendNak
  dsimp only
  split
  · rfl
  · exact (h.tx _ _ _).trans (h.port _ _ _ fun _ => rfl)

theorem SendBlind.sendOp (fp : Digest) (code : Nat) (args : List Nat) (packets : Nat) : view (s.sendOp fp code args packets) = view s := by
  unfold State.sendOp
  split
  · rfl
  · split
    · exact h.tx _ _ _
    · rfl

theorem SendBlind.sendOffer (j : Job) : view (s.sendOffer j) = view s := by
  unfold State.sendOffer
  split
  · rfl
  · exact h.sendOp _ _ _ _ _

theorem SendBlind.sendMirrorOffer (m : Mirror) : view (s.sendMirrorOffer m) = view s := by
  unfold State.sendMirrorOffer
  split
  · rfl
  · exact h.sendOp _ _ _ _ _

theorem SendBlind.partnerUp (fp : Digest) : view (s.partnerUp fp) = view s :=
  (each_view view _ (fun _ _ => h.sendMirrorOffer _ _) _ _).trans (each_view view _ (fun _ _ => h.sendOffer _ _) _ _)

theorem SendBlind.wakePort (port : Nat) : view (s.wakePort port) = view s := by
  unfold State.wakePort
  split
  · rfl
  · exact (h.emit _ _).trans (h.port _ _ _ fun _ => rfl)

theorem SendBlind.sendEcho (port : Nat) : view (s.sendEcho port) = view s := by
  unfold State.sendEcho
  dsimp only
  split
  · rfl
  · exact (h.tx _ _ _).trans (h.port _ _ _ fun _ => rfl)

theorem SendBlind.sendAuth (port : Nat) (path : Option Nat) (ptype : Nat) (args : List Nat) : view (s.sendAuth port path ptype args) = view s := by
  unfold State.sendAuth
  split
  · exact h.tx _ _ _
  · exact h.tx _ _ _
end

section
variable {α : Type} {view : State → α} (h : ProbeBlind view) (s : State)
include h

theorem ProbeBlind.probeOn (port : Nat) (target origin : Digest) (number latency hops : Nat) (wake : Bool) :
    view (s.probeOn port target origin number latency hops wake) = view s := by
  unfold State.probeOn
  split
  · exact (h.held _ fun l => l ++ [(port, target, origin, number, latency, hops)]).trans (h.wakePort _ _)
  · split
    · exact h.tx _ _ _
    · rfl

theorem ProbeBlind.sendProbe (target : Digest) (wake : Bool) : view (s.sendProbe target wake) = view s :=
  (each_view view _ (fun _ _ => h.probeOn _ _ _ _ _ _ _ _) _ _).trans
    (h.probes _ _ fun l => l ++ [{ number := s.hal.nextProbe, target := target, sent := s.clk.frame, wake := wake }])

theorem ProbeBlind.reach (fp : Digest) : view (s.reach fp) = view s := by
  unfold State.reach
  split
  · rfl
  · split
    · split
      · exact h.wakePort _ _
      · rfl
    · split
      · rfl
      · exact h.sendProbe _ _ _

theorem ProbeBlind.paired (port : Nat) (fp : Digest) : view (s.paired port fp) = view s :=
  calc view (s.paired port fp)
    _ = _ := h.partnerUp _ _
    _ = _ := each_view view _ (fun _ _ => h.probeOn _ _ _ _ _ _ _ _) _ _
    _ = _ := h.port _ _ _ fun _ => rfl
    _ = _ := h.held _ fun l => l.filter (·.1 != port)
end

/-! Such views: a port's session, the records of pairing and quarantine, the peer operations, and the paths. -/

/-- What is kept of the partners' standing (R350, R352). -/
def State.standings (s : State) : List (Digest × Bool) × List Digest × List (Digest × Nat) := (s.hal.pairings, s.hal.allowlist, s.hal.quarantine)

theorem State.session_probeBlind (port : Nat) : ProbeBlind fun s => (s.hport port).session where
  emit _ _ := rfl
  port s q _ keeps := s.modHport_part q keeps
  probes _ _ _ := rfl
  held _ _ := rfl

theorem State.standings_probeBlind : ProbeBlind State.standings where
  emit _ _ := rfl
  port _ _ _ _ := rfl
  probes _ _ _ := rfl
  held _ _ := rfl

theorem State.peer_probeBlind : ProbeBlind State.peer where
  emit _ _ := rfl
  port _ _ _ _ := rfl
  probes _ _ _ := rfl
  held _ _ := rfl

theorem State.paths_sendBlind : SendBlind fun s => (s.hal.probes, s.hal.labels) where
  emit _ _ := rfl
  port _ _ _ _ := rfl

theorem State.keys_sendBlind : SendBlind State.keys where
  emit _ _ := rfl
  port _ _ _ _ := rfl

theorem State.partner?_sendBlind (fp : Digest) : SendBlind fun s => s.partner? fp where
  emit _ _ := rfl
  port _ _ _ _ := rfl

end Sys2Proof.Machine
end

section
/-! SUPPORT. What the loss of a path leaves of Halyard (R355, R376, R377, R382): the records of pairing and quarantine, and of a port all but the
places reserved in it, which only become fewer, and its wake pattern. -/

namespace Sys2Proof.Machine

/-- A port without its reservation and its wake pattern. -/
def HPort.lasting (p : HPort) : HPort := { p with reserved := 0, waking := none }

/-- What of `s` the state `t` still holds once paths have been lost, of Halyard as a whole and of one port. -/
structure Loses (port : Nat) (s t : State) : Prop where
  standings : t.standings = s.standings
  count : t.hal.ports.length = s.hal.ports.length
  lasting : (t.hport port).lasting = (s.hport port).lasting
  reserved : (t.hport port).reserved ≤ (s.hport port).reserved

section
variable {port : Nat} {s t u : State}

theorem Loses.rfl : Loses port s s := ⟨Eq.refl _, Eq.refl _, Eq.refl _, le_refl _⟩

theorem Loses.trans (first : Loses port s t) (second : Loses port t u) : Loses port s u :=
  ⟨second.standings.trans first.standings, second.count.trans first.count, second.lasting.trans first.lasting, second.reserved.trans first.reserved⟩

theorem Loses.of_ports (standings : t.standings = s.standings) (ports : t.hal.ports = s.hal.ports) : Loses port s t where
  standings := standings
  count := by rw [ports]
  lasting := by simp only [State.hport, ports]
  reserved := by simp only [State.hport, ports, le_refl]

theorem Loses.of_hal (same : t.hal = s.hal) : Loses port s t :=
  .of_ports (by simp only [State.standings, same]) (by rw [same])

theorem Loses.each {α : Type} {f : State → α → State} (step : ∀ s x, Loses port s (f s x)) (l : List α) (s : State) : Loses port s (each l f s) := by
  unfold Machine.each
  induction l generalizing s with
  | nil => exact .rfl
  | cons x l ih => exact (step s x).trans (ih _)

theorem Loses.unless {c : Prop} [Decidable c] (loses : Loses port s t) : Loses port s (if c then s else t) := by
  split
  · exact .rfl
  · exact loses
end

theorem State.raise_hal (s : State) (source code severity : Nat) (args : List Nat) (fn : Nat) : (s.raise source code severity args fn).hal = s.hal := by
  unfold State.raise
  split <;> rfl

theorem State.hal_hostBlind : HostBlind State.hal where
  io _ _ := rfl
  ctrl s f port1 g := by unfold State.modCtrl; split <;> rfl
  counters _ _ _ := rfl
  emit _ _ := rfl

section
variable {α : Type} {view : State → α} (h : HostBlind view) (s : State)
include h

theorem HostBlind.ackWrite (id : Nat) : view (s.ackWrite id) = view s := by
  unfold State.ackWrite
  split
  · rfl
  · dsimp only
    rw [apply_ite view, h.conclude, ite_self]

theorem HostBlind.ackMirrored (m : Mirror) : view (s.ackMirrored m) = view s := each_view view _ (fun _ _ => h.ackWrite _ _) _ _
end

section
variable (port : Nat) (s : State)

/-! ## One port -/

theorem State.modHport_loses (q : Nat) {f : HPort → HPort} (lasting : ∀ p, (f p).lasting = p.lasting) (fewer : ∀ p, (f p).reserved ≤ p.reserved) :
    Loses port s (s.modHport q f) where
  standings := rfl
  count := s.modHport_ports_length f
  lasting := s.modHport_part q lasting
  reserved := by
    by_cases same : port = q
    · subst same
      by_cases real : port < s.hal.ports.length
      · rw [s.modHport_same real]
        exact fewer _
      · rw [State.hport_beyond _ (by simpa using real)]
        exact Nat.zero_le _
    · rw [s.modHport_other same]

theorem State.put_hport_other {q : Nat} (other : port ≠ q) (k : TxPkt) : (s.put q k).hport port = s.hport port := s.modHport_other other _

theorem State.tx_hport_other {q : Nat} (other : port ≠ q) (k : TxPkt) : (s.tx q k).hport port = s.hport port := by
  unfold State.tx
  dsimp only
  split
  · rfl
  · split
    · exact s.put_hport_other port other k
    · split
      · exact (State.put_hport_other port _ other k).trans (s.modHport_other other _)
      · exact s.modHport_other other _

theorem State.wakePort_loses (q : Nat) : Loses port s (s.wakePort q) := by
  unfold State.wakePort
  refine .unless ((s.modHport_loses port q (f := fun p => { p with waking := some (s.clk.frame, s.clk.frame) }) (fun _ => rfl) fun _ => ?_).trans
    (.of_hal rfl))
  exact le_refl _

theorem State.tx_loses {q : Nat} (other : port ≠ q) (k : TxPkt) : Loses port s (s.tx q k) where
  standings := State.standings_probeBlind.tx s q k
  count := by
    have kept : SendBlind fun s => s.hal.ports.length := ⟨fun _ _ => rfl, fun s _ f _ => s.modHport_ports_length f⟩
    exact kept.tx s q k
  lasting := congrArg HPort.lasting (s.tx_hport_other port other k)
  reserved := (congrArg HPort.reserved (s.tx_hport_other port other k)).le

/-! ## Requests, jobs and mirror relationships -/

theorem State.release_loses (q n : Nat) : Loses port s (s.modHport q fun x => { x with reserved := x.reserved - n }) :=
  s.modHport_loses port q (fun _ => rfl) fun _ => Nat.sub_le _ _

theorem State.dropHReqs_loses (p : HReq → Bool) : Loses port s (s.dropHReqs p) :=
  .trans (.of_ports (t := s.modHal fun h => { h with reqs := h.reqs.filter (! p ·) }) rfl rfl)
    (.each (fun s (r : HReq) => s.release_loses port r.port (r.declared - r.received)) _ _)

theorem State.setJob_hal (id : Nat) (st : JobState) (cause : Nat) : (s.setJob id st cause).hal = s.hal := State.raise_hal _ _ _ _ _ _

theorem State.suspendJob_loses (id cause : Nat) : Loses port s (s.suspendJob id cause) := by
  unfold State.suspendJob
  split
  · exact .rfl
  · exact .unless ((s.dropHReqs_loses port (ofOp id)).trans (.of_hal (State.setJob_hal _ _ _ _)))

theorem State.loseStream_loses (id : Nat) (path : Nat × Nat) : Loses port s (s.loseStream id path) := by
  unfold State.loseStream
  split
  · exact .rfl
  · refine .unless ?_
    split
    · exact s.suspendJob_loses port _ _
    · exact (s.dropHReqs_loses port _).trans (.of_hal rfl)

theorem State.returnZone_hal (nsid zi : Nat) : (s.returnZone nsid zi).hal = s.hal := by
  unfold State.returnZone
  dsimp only
  split <;> rfl

theorem State.closePeerJob_loses (j : Job) : Loses port s (s.closePeerJob j) := by
  unfold State.closePeerJob
  refine (s.dropHReqs_loses port (ofOp j.ident)).trans (.of_hal ?_)
  dsimp only
  split
  · rfl
  · exact each_view State.hal _ (fun _ _ => State.returnZone_hal _ _ _) _ _

theorem State.breakMirror_loses (id : Nat) : Loses port s (s.breakMirror id) := by
  unfold State.breakMirror
  split
  · exact .rfl
  next m _ =>
    refine .unless ((s.dropHReqs_loses port (ofOp id)).trans (.of_hal ?_))
    dsimp only
    split
    · refine (State.hal_hostBlind.ackMirrored _ _).trans ?_
      split
      · exact State.raise_hal _ _ _ _ _ _
      · exact each_view State.hal _ (fun _ _ => State.raise_hal _ _ _ _ _ _) _ _
    · split
      · exact State.raise_hal _ _ _ _ _ _
      · exact each_view State.hal _ (fun _ _ => State.raise_hal _ _ _ _ _ _) _ _

theorem State.breakMirrors_loses (fp : Digest) : Loses port s (s.breakMirrors fp) :=
  Loses.unless (.each (fun s id => s.breakMirror_loses port id) _ _)

/-! ## The path -/

theorem State.wakeAsleep_loses (fp : Digest) : Loses port s (s.wakeAsleep fp) := by
  unfold State.wakeAsleep
  dsimp only
  split
  · split
    · exact s.wakePort_loses port _
    · exact .rfl
  · exact .rfl

theorem State.pathLost_loses (fp : Digest) (path : Nat × Nat) : Loses port s (s.pathLost fp path) :=
  (s.dropHReqs_loses port _).trans (.trans (.each (fun s id => s.loseStream_loses port id path) _ _)
    ((State.breakMirrors_loses port _ fp).trans (State.wakeAsleep_loses port _ fp)))

theorem State.dropLabel_loses (l : Label) : Loses port s (s.dropLabel l) := by
  unfold State.dropLabel
  have dropped : Loses port s (s.modHal fun h => { h with labels := h.labels.filter (· != l) }) := .of_ports rfl rfl
  refine dropped.trans ?_
  dsimp only
  split
  · exact State.dropHReqs_loses port _ _
  · refine .trans ?_ (State.pathLost_loses port _ _ _)
    split
    · exact .of_ports rfl rfl
    · exact .rfl

/-- The paths over a link end: nothing is sent on the link itself, and what its port had reserved is released. -/
theorem State.linkEnds_loses (reason : Nat) : Loses port s (s.linkEnds port reason) ∧ ((s.linkEnds port reason).hport port).reserved = 0 := by
  unfold State.linkEnds
  dsimp only
  generalize ended : each (s.hal.labels.filter _) _ s = t
  have told : Loses port s t := by
    rw [← ended]
    refine .each (fun s l => .trans ?_ (State.dropLabel_loses port _ l)) _ _
    split
    · split
      · exact .rfl
      next off => exact s.tx_loses port (fun e => off (by simp [e])) _
    · exact .rfl
  have dropped := told.trans (t.dropHReqs_loses port fun r => r.port == port || r.relay.any (·.1 == port))
  generalize t.dropHReqs (fun r => r.port == port || r.relay.any (·.1 == port)) = u at dropped ⊢
  have released : Loses port s (u.modHport port fun p => { p with reserved := 0 }) :=
    dropped.trans (u.modHport_loses port port (fun _ => rfl) fun _ => Nat.zero_le _)
  have free : ((u.modHport port fun p => { p with reserved := 0 }).hport port).reserved = 0 := by
    by_cases real : port < u.hal.ports.length
    · rw [u.modHport_same real]
    · rw [State.hport_beyond _ (by simpa using real)]
  generalize (u.modHport port fun p => { p with reserved := 0 }) = v at released free ⊢
  split
  next fp _ =>
    have lost := v.pathLost_loses port fp (port, 0)
    exact ⟨released.trans lost, Nat.le_zero.mp (lost.reserved.trans free.le)⟩
  · exact ⟨released, free⟩
end

end Sys2Proof.Machine
end

section
/-! SUPPORT. The changes of a link's state (R347, R350, R352, R355): what they make of its port, and that they leave the records of pairing and
quarantine. -/

namespace Sys2Proof.Machine

section
variable (s : State) (port : Nat)

theorem State.standings_of_hal {s t : State} (same : t.hal = s.hal) : t.standings = s.standings := by simp only [State.standings, same]
theorem State.hport_of_ports {s t : State} (same : t.hal.ports = s.hal.ports) : t.hport port = s.hport port := by simp only [State.hport, same]
theorem State.raise_hport (source code severity : Nat) (args : List Nat) (fn : Nat) :
    (s.raise source code severity args fn).hport port = s.hport port :=
  State.hport_of_ports port (congrArg Halyard.ports (s.raise_hal _ _ _ _ _))
@[simp] theorem each_standings {α : Type} (f : State → α → State) (keeps : ∀ s x, (f s x).standings = s.standings) (l : List α) :
    (each l f s).standings = s.standings := each_view State.standings f keeps l s
@[simp] theorem State.tx_standings (k : TxPkt) : (s.tx port k).standings = s.standings := State.standings_probeBlind.tx _ _ _
@[simp] theorem State.setCtl_standings (i sc v : Nat) : (s.setCtl i sc v).standings = s.standings := rfl
@[simp] theorem State.raise_standings (source code severity : Nat) (args : List Nat) (fn : Nat) :
    (s.raise source code severity args fn).standings = s.standings := State.standings_of_hal (s.raise_hal _ _ _ _ _)
@[simp] theorem State.modHport_standings (f : HPort → HPort) : (s.modHport port f).standings = s.standings := rfl
@[simp] theorem State.modPartner_standings (fp : Digest) (f : Partner → Partner) : (s.modPartner fp f).standings = s.standings := rfl
@[simp] theorem State.setPartner_standings (fp : Digest) (st : LinkState) : (s.setPartner fp st).standings = s.standings := rfl

/-! ## setLink -/

theorem State.setLink_ports (st : LinkState) :
    (s.setLink port st).hal.ports = (s.modHport port fun p => { p with state := st, since := s.clk.frame }).hal.ports := by
  unfold State.setLink
  refine (congrArg Halyard.ports (State.raise_hal _ _ _ _ _ _)).trans ?_
  split
  · split <;> rfl
  · rfl

theorem State.setLink_hport {port : Nat} (real : port < s.hal.ports.length) (st : LinkState) :
    (s.setLink port st).hport port = { s.hport port with state := st, since := s.clk.frame } :=
  (State.hport_of_ports port (s.setLink_ports port st)).trans (s.modHport_same real _)

theorem State.setLink_count (st : LinkState) : (s.setLink port st).hal.ports.length = s.hal.ports.length :=
  (congrArg List.length (s.setLink_ports port st)).trans (s.modHport_ports_length _)

@[simp] theorem State.setLink_standings (st : LinkState) : (s.setLink port st).standings = s.standings := by
  unfold State.setLink
  refine (State.raise_standings _ _ _ _ _ _).trans ?_
  split
  · split <;> rfl
  · rfl

/-! ## Down -/

@[simp] theorem State.linkEnds_standings (reason : Nat) : (s.linkEnds port reason).standings = s.standings := (s.linkEnds_loses port reason).1.standings

@[simp] theorem State.goDown_standings (reason : Nat) : (s.goDown port reason).standings = s.standings := by
  unfold State.goDown
  split
  · rfl
  · simp

theorem State.goDown_count (reason : Nat) : (s.goDown port reason).hal.ports.length = s.hal.ports.length := by
  unfold State.goDown
  split
  · rfl
  · exact (State.linkEnds_loses port _ reason).1.count.trans ((State.setLink_count _ _ _).trans (s.modHport_ports_length _))

/-- A port whose link has gone to Down: cleared, with nothing reserved. -/
theorem State.goDown_hport {port : Nat} (real : port < s.hal.ports.length) (up : (s.hport port).state ≠ .down) (reason : Nat) :
    ((s.goDown port reason).hport port).lasting = { (s.hport port).clear with state := .down, since := s.clk.frame, reserved := 0, waking := none } ∧
    ((s.goDown port reason).hport port).reserved = 0 := by
  unfold State.goDown
  rw [if_neg (by simpa using up)]
  obtain ⟨lost, free⟩ := State.linkEnds_loses port ((s.modHport port HPort.clear).setLink port .down) reason
  refine ⟨lost.lasting.trans ?_, free⟩
  rw [State.setLink_hport _ (by simpa using real), s.modHport_same real]
  rfl

/-! ## Quarantine and pairing -/

@[simp] theorem State.stopJob_standings (id cause : Nat) (tell : Bool) : (s.stopJob id cause tell).standings = s.standings := by
  unfold State.stopJob
  split
  · rfl
  · split
    · rfl
    · refine (State.standings_of_hal (State.setJob_hal _ _ _ _)).trans ((State.closePeerJob_loses 0 _ _).standings.trans ?_)
      split
      · exact State.standings_probeBlind.sendOp _ _ _ _ _
      · rfl

@[simp] theorem State.dropLabel_standings (l : Label) : (s.dropLabel l).standings = s.standings := (s.dropLabel_loses 0 l).standings
@[simp] theorem State.breakMirrors_standings (fp : Digest) : (s.breakMirrors fp).standings = s.standings := (s.breakMirrors_loses 0 fp).standings

@[simp] theorem State.wakeRefused_standings : (s.wakeRefused port).standings = s.standings := by
  unfold State.wakeRefused State.spuriousWake
  dsimp only
  split
  · split
    · simp
    · simp
  · rfl

@[simp] theorem State.pairNow_standings (fp : Digest) : (s.pairNow fp).standings = s.standings := by
  unfold State.pairNow
  split
  · exact (State.standings_probeBlind.paired _ _ _).trans (State.setLink_standings _ _ _)
  · split
    · split
      · exact State.standings_probeBlind.partnerUp _ _
      · rfl
    · rfl

@[simp] theorem State.unpairNow_standings (fp : Digest) : (s.unpairNow fp).standings = s.standings := by
  unfold State.unpairNow
  dsimp only
  split
  · simp
  · simp

/-- The quarantine of a fingerprint that ends takes its entry with it. -/
theorem State.endQuarantine_inQuarantine (fp : Digest) : (s.endQuarantine fp).inQuarantine fp = false := by
  have same : (s.endQuarantine fp).standings = (s.modHal fun h => { h with quarantine := h.quarantine.filter (·.1 != fp) }).standings :=
    each_view State.standings _ (fun _ _ => State.goDown_standings _ _ _) _ _
  refine (congrArg (fun q : _ × _ × List (Digest × Nat) => q.2.2.any (·.1 == fp)) same).trans ?_
  simp [State.standings]

/-- A quarantined fingerprint is entered to the end of its time. -/
theorem State.quarantine_standings (fp : Digest) (cause : Nat) : ∃ rest, (s.quarantine fp cause port).standings =
    (s.hal.pairings, s.hal.allowlist, rest ++ [(fp, s.clk.frame + s.ctlValue ctlQuarantine)]) := by
  unfold State.quarantine
  extract_lets stop rest kept entered ports cut unlabelled barred stopped
  refine ⟨kept, ?_⟩
  have same : entered.standings = (s.hal.pairings, s.hal.allowlist, kept ++ [(fp, stop)]) := rfl
  clear_value entered
  simp [stopped, barred, unlabelled, cut, same, stop]

theorem State.quarantine_mem (fp : Digest) (cause : Nat) :
    (fp, s.clk.frame + s.ctlValue ctlQuarantine) ∈ (s.quarantine fp cause port).hal.quarantine := by
  obtain ⟨rest, entered⟩ := s.quarantine_standings port fp cause
  have held : ∀ t : State, t.hal.quarantine = t.standings.2.2 := fun _ => rfl
  rw [held, entered]
  exact List.mem_append_right _ (List.mem_singleton_self _)
end

end Sys2Proof.Machine
end

section
/-! SUPPORT. The commands of groups 0x06xx and 0x07xx: pairing and quarantine (R350, R352), migration jobs (R361 to R363, R376) and mirror
relationships (R379, R380, R384, R385). -/

namespace Sys2Proof.Machine

/-! ## Pairing and quarantine -/

section
variable {s : State} {fp : Digest}

theorem effPairPartner_now {p : Partner} (open_ : s.ctlValue ctlPairPolicy ≠ 1) (recorded : s.partner? fp = some p) (unpaired : s.hasPairing fp = false)
    (known : p.state = .known) (room : s.hal.pairings.length < 64) : ∃ t, effPairPartner fp s = (t, okR) ∧ t.hal.pairings = s.hal.pairings ++ [(fp, false)] := by
  refine ⟨_, ?_, congrArg (·.1) (State.pairNow_standings
    ((s.modHal fun h => { h with pairings := h.pairings ++ [(fp, false)] }).log 8 (.setting 0x00F00002 (fp8 fp) 1)) fp)⟩
  simp [effPairPartner, open_, recorded, unpaired, known, Nat.not_le.mpr room]

theorem effUnpairPartner_paired (paired : s.hasPairing fp = true) : ∃ t, effUnpairPartner fp s = (t, okR) ∧ t.hasPairing fp = false := by
  refine ⟨_, by rw [effUnpairPartner, paired]; rfl, ?_⟩
  have same := State.unpairNow_standings
    ((s.modHal fun h => { h with pairings := h.pairings.filter (·.1 != fp) }).log 8 (.setting 0x00F00002 (fp8 fp) 0)) fp
  refine (congrArg (fun q : List (Digest × Bool) × _ × _ => q.1.any (·.1 == fp)) same).trans ?_
  simp [State.standings, State.log, State.modJournal, State.modStart]

theorem effReleaseQuarantine_quarantined (held : s.inQuarantine fp = true) :
    ∃ t, effReleaseQuarantine fp s = (t, okR) ∧ t.inQuarantine fp = false :=
  ⟨_, if_pos held, s.endQuarantine_inQuarantine fp⟩

/-- A run of updates that each do nothing does nothing. -/
theorem each_idle {α : Type} {f : State → α → State} {l : List α} (s : State) (idle : ∀ x ∈ l, f s x = s) : each l f s = s := by
  unfold each
  induction l with
  | nil => rfl
  | cons x l ih =>
    rw [List.foldl_cons, idle x List.mem_cons_self]
    exact ih fun y mem => idle y (List.mem_cons_of_mem _ mem)

theorem effSetAllowlist_sets (s : State) (l : List Digest) : ∃ t, effSetAllowlist l s = (t, okR) ∧ t.hal.allowlist = l ∧
    ((∀ fp ∈ l, (s.partner? fp).all (fun p => p.state != .known) = true) → t.hal.pairings = s.hal.pairings) := by
  refine ⟨_, rfl, ?_, fun unknown => ?_⟩
  · refine each_view (fun t => t.standings.2.1) _ (fun t fp => ?_) l _
    split
    · rw [State.pairNow_standings]
      rfl
    · rfl
  · rw [each_idle]
    · rfl
    · intro fp mem
      have none_ : (s.partner? fp).any (·.state == .known) = false := by
        cases found : s.partner? fp with
        | none => rfl
        | some p => simpa [found] using unknown fp mem
      exact if_neg (by simp [show ((s.modHal fun h => { h with allowlist := l }).log 8 (.setting 0x000C0009 deviceScope l.length)).partner? fp = s.partner? fp
        from rfl, none_])
end

/-! ## Migration jobs -/

theorem State.raise_peer (s : State) (source code severity : Nat) (args : List Nat) (fn : Nat) :
    (s.raise source code severity args fn).peer = s.peer := by
  unfold State.raise
  split <;> rfl

section
variable {s : State} {id : Nat}

theorem State.job?_ident {j : Job} (found : s.job? id = some j) : j.ident = id := by simpa using List.find?_some found
theorem State.mirror?_ident {m : Mirror} (found : s.mirror? id = some m) : m.ident = id := by simpa using List.find?_some found

theorem State.job?_of_peer {s t : State} (same : t.peer = s.peer) (id : Nat) : t.job? id = s.job? id := by simp only [State.job?, same]
theorem State.mirror?_of_peer {s t : State} (same : t.peer = s.peer) (id : Nat) : t.mirror? id = s.mirror? id := by simp only [State.mirror?, same]

theorem State.modJob_job? (s : State) (id : Nat) {f : Job → Job} (same : ∀ j, (f j).ident = j.ident) : (s.modJob id f).job? id = (s.job? id).map f :=
  find?_updIf _ f (fun j own => by rwa [same]) s.peer.jobs
theorem State.modMirror_mirror? (s : State) (id : Nat) {f : Mirror → Mirror} (same : ∀ m, (f m).ident = m.ident) :
    (s.modMirror id f).mirror? id = (s.mirror? id).map f :=
  find?_updIf _ f (fun m own => by rwa [same]) s.peer.mirrors

/-- A job with the state that `setJob` gives it. -/
def Job.entered (j : Job) (st : JobState) (cause frame : Nat) : Job :=
  { j with state := st, cause := cause, changed := frame, suspendedAt := if st == .suspended then some frame else none }

theorem State.setJob_peer (s : State) (id : Nat) (st : JobState) (cause : Nat) :
    (s.setJob id st cause).peer = (s.modJob id fun j => j.entered st cause s.clk.frame).peer := State.raise_peer _ _ _ _ _ _

theorem State.setJob_job? (s : State) (id : Nat) (st : JobState) (cause : Nat) :
    (s.setJob id st cause).job? id = (s.job? id).map fun j => j.entered st cause s.clk.frame :=
  (State.job?_of_peer (s.setJob_peer id st cause) id).trans (s.modJob_job? id fun _ => rfl)

theorem State.dropHReqs_peer (s : State) (p : HReq → Bool) : (s.dropHReqs p).peer = s.peer :=
  each_view State.peer (fun s (r : HReq) => s.modHport r.port fun x => { x with reserved := x.reserved - (r.declared - r.received) }) (fun _ _ => rfl) _ _

theorem State.returnZone_peer (s : State) (nsid zi : Nat) : (s.returnZone nsid zi).peer = s.peer := by
  unfold State.returnZone
  dsimp only
  split <;> rfl

theorem State.closePeerJob_peer (s : State) (j : Job) : (s.closePeerJob j).peer = (s.modJob j.ident fun j => { j with streams := [] }).peer := by
  have dropped : ((s.dropHReqs (ofOp j.ident)).modJob j.ident fun j => { j with streams := [] }).peer =
      (s.modJob j.ident fun j => { j with streams := [] }).peer := by
    simp only [State.modJob, State.modPeer, State.dropHReqs_peer]
  unfold State.closePeerJob
  dsimp only
  split
  · exact dropped
  · exact (each_view State.peer _ (fun _ _ => State.returnZone_peer _ _ _) _ _).trans dropped

theorem State.stopJob_job? {j : Job} (found : s.job? id = some j) (live : j.live = true) (cause : Nat) (tell : Bool) :
    ∃ x, (s.stopJob id cause tell).job? id = some x ∧ x.state = .stopped ∧ x.cause = cause := by
  have own := State.job?_ident found
  simp only [State.stopJob, found, live, Bool.not_true, Bool.false_eq_true, if_false]
  generalize told : (if tell = true then _ else s) = t
  have at_ : t.job? id = some j := by
    rw [← told]
    split
    · exact (State.job?_of_peer (State.peer_probeBlind.sendOp _ _ _ _ _) id).trans found
    · exact found
  rw [State.setJob_job?, State.job?_of_peer (State.closePeerJob_peer _ _), own, State.modJob_job?, at_]
  · exact ⟨_, rfl, rfl, rfl⟩
  · exact fun _ => rfl

/-- A zone named by Start Migration: refused where it cannot be sent. -/
def migrationZone (n : Namespace) (z : Nat) : JobZone := if (n.zone z).sendable then { zone := z } else { zone := z, phase := 4, reason := 1 }

/-- The job that Start Migration makes for the zones named. -/
def migrationJob (id : Nat) (dest : Digest) (n : Namespace) (nsid : Nat) (charge : Bool) (streams : Nat) (zones : List Nat) (frame : Nat) : Job := {
  ident := id, source := true, partner := dest, nsid := nsid, charge := charge, maxStreams := if streams == 0 then 3 else streams
  all := zones.isEmpty, offeredAt := frame
  zones := (dedupN zones).map (migrationZone n) }

theorem migrationZone_of_mem {n : Namespace} {zones : List Nat} {x : JobZone} (mem : x ∈ (dedupN zones).map (migrationZone n)) :
    x.zone ∈ zones ∧ (x.phase = 4 ↔ (n.zone x.zone).sendable = false) := by
  obtain ⟨z, named, rfl⟩ := List.mem_map.mp mem
  cases sendable : (n.zone z).sendable with
  | true => exact ⟨by simpa [migrationZone, sendable] using mem_dedupN.mp named, by simp [migrationZone, sendable]⟩
  | false => exact ⟨by simpa [migrationZone, sendable] using mem_dedupN.mp named, by simp [migrationZone, sendable]⟩

section
variable {dest : Digest} {nsid streams : Nat} {charge : Bool} {zones : List Nat} (may : s.noStart dest = none)
include may

theorem effStartMigration_unknown (none_ : s.ns? nsid = none) :
    effStartMigration dest nsid charge streams zones s = (s, errR 0x0105 nsid) := by
  simp [effStartMigration, may, none_]

variable {n : Namespace} (found : s.ns? nsid = some n)
include found

theorem effStartMigration_unfit (unfit : n.conv = true ∨ n.landing = true) :
    effStartMigration dest nsid charge streams zones s = (s, errR 0x0201 nsid) := by
  rcases unfit with unfit | unfit <;> simp [effStartMigration, may, found, unfit]

theorem effStartMigration_offers (zoned : n.conv = false) (plain : n.landing = false) (within : ∀ z ∈ zones, z < n.zoneCount) (some_ : zones ≠ []) :
    ∃ t, effStartMigration dest nsid charge streams zones s = (t, okR [s.newIdent.1]) ∧ t.peer =
      ((s.newIdent.2.modPeer fun p => { p with jobs := p.jobs ++ [migrationJob s.newIdent.1 dest n nsid charge streams zones s.clk.frame] }).modJob s.newIdent.1
        fun j => j.entered .offered 0 s.clk.frame).peer := by
  have listed : (zones.findIdx? fun z => decide (n.zoneCount ≤ z)) = none := by simpa using within
  have given : zones.isEmpty = false := by simpa using some_
  refine ⟨((((s.newIdent.2.modPeer fun p => { p with
      jobs := p.jobs ++ [migrationJob s.newIdent.1 dest n nsid charge streams zones s.clk.frame] }).setJob s.newIdent.1 .offered 0).reach dest).sendOffer
      (migrationJob s.newIdent.1 dest n nsid charge streams zones s.clk.frame)), ?_, ?_⟩
  · simp only [effStartMigration, may, found, zoned, plain, listed, given, Bool.or_self, Bool.false_eq_true, if_false, migrationJob]
    rfl
  · exact (State.peer_probeBlind.sendOffer _ _).trans ((State.peer_probeBlind.reach _ _).trans (State.setJob_peer _ _ _ _))
end

section
variable {source : Digest} {nsid cls : Nat} (trusted : (s.isPaired source || s.hasPairing source) = true)

theorem effAcceptMigration_untrusted (untrusted : (s.isPaired source || s.hasPairing source) = false) :
    effAcceptMigration source nsid cls s = (s, errR 0x0701) := by
  rw [effAcceptMigration, untrusted]
  rfl

include trusted

theorem effAcceptMigration_unlandable {r : Resp} (unfit : s.landable nsid = some r) : effAcceptMigration source nsid cls s = (s, r) := by
  simp [effAcceptMigration, trusted, unfit]

theorem effAcceptMigration_waits {n : Namespace} {k : PClass} (fit : s.landable nsid = none) (found : s.ns? nsid = some n)
    (class_ : s.classFields n cls = some k) (none_ : ∀ j ∈ s.peer.jobs, ¬ (j.source = false ∧ j.state = .offered ∧ j.partner = source)) :
    ∃ t, effAcceptMigration source nsid cls s = (t, okR [0]) ∧ t.peer.landings = s.peer.landings ++ [{ source := source, nsid := nsid, cls := cls }] ∧
      ∃ x, t.ns? nsid = some x ∧ x.landing = true := by
  have unoffered : (s.peer.jobs.find? fun j => ! j.source && j.state == .offered && j.partner == source) = none := by
    simpa [and_assoc] using none_
  have lands : (s.setLanding nsid).ns? nsid = (s.ns? nsid).map fun n => { n with landing := true } := s.modNs_ns? nsid fun _ => rfl
  refine ⟨(s.setLanding nsid).modPeer fun p => { p with landings := p.landings ++ [{ source := source, nsid := nsid, cls := cls }] }, ?_, rfl, _,
    lands.trans (congrArg _ found), rfl⟩
  simp only [effAcceptMigration, trusted, fit, found, class_, unoffered, Option.bind_some, Option.isNone_some, Bool.not_true, Bool.false_eq_true, if_false]
end

theorem effCancelMigration_live {j : Job} (found : s.job? id = some j) (live : j.live = true) :
    ∃ t, effCancelMigration id s = (t, okR) ∧ ∃ x, t.job? id = some x ∧ x.state = .stopped ∧ x.cause = 0 :=
  ⟨_, by simp [effCancelMigration, found, live], State.stopJob_job? found live 0 true⟩

/-! ## Mirror relationships -/

theorem effSetMirror_offers {mode pol cls nsid first count : Nat} {other : Digest} {n : Namespace} (may : s.noStart other = none)
    (found : s.ns? nsid = some n) (zoned : n.conv = false) (plain : n.landing = false) (some_ : 1 ≤ count) (within : first + count ≤ n.zoneCount)
    (room : s.peer.mirrors.length < 64) :
    ∃ t, effSetMirror 0 mode pol cls 0 nsid first count other s = (t, okR [s.newIdent.1]) ∧
      ({ ident := s.newIdent.1, source := true, other := other, nsid := nsid, cls := cls, firstZone := first, zoneCount := count, mode := mode
         policy := if pol = 0xFF then none else some pol, lagLimit := 262144 } : Mirror) ∈ t.peer.mirrors := by
  have fits : (n.zoneCount < first + count ∨ count = 0) = False := eq_false (by omega)
  refine ⟨_, by simp [effSetMirror, may, found, zoned, plain, fits, Nat.not_le.mpr room]; rfl, ?_⟩
  rw [State.peer_probeBlind.sendMirrorOffer, State.peer_probeBlind.reach]
  exact List.mem_append_right _ (List.mem_singleton.mpr rfl)

theorem State.peer_hostBlind : HostBlind State.peer where
  io _ _ := rfl
  ctrl s f port1 g := by unfold State.modCtrl; split <;> rfl
  counters _ _ _ := rfl
  emit _ _ := rfl

/-- A relationship that ends leaves the list. -/
theorem mirrors_filter_find? (l : List Mirror) (id : Nat) : (l.filter (·.ident != id)).find? (·.ident == id) = none := by
  simp

theorem State.endMirrorSource_mirror? (s : State) (m : Mirror) : (s.endMirrorSource m).mirror? m.ident = none := by
  have same : (s.endMirrorSource m).peer.mirrors = (s.dropHReqs (ofOp m.ident)).peer.mirrors.filter (·.ident != m.ident) :=
    congrArg Peer.mirrors (State.peer_hostBlind.ackMirrored _ _)
  rw [State.mirror?, same, mirrors_filter_find?]

theorem State.releaseMirrorZones_mirror? (s : State) (m : Mirror) : (s.releaseMirrorZones m).mirror? m.ident = none := mirrors_filter_find? _ _

section
variable {m : Mirror} (found : s.mirror? id = some m)
include found

theorem effEndMirror_source (source : m.source = true) : ∃ t, effEndMirror id s = (t, okR) ∧ t.mirror? id = none := by
  refine ⟨_, by simp [effEndMirror, found, source]; rfl, ?_⟩
  rw [← State.mirror?_ident found]
  exact State.endMirrorSource_mirror? _ _

theorem effPromoteMirror_partner (partner : m.source = false) : ∃ t, effPromoteMirror id s = (t, okR) ∧ t.mirror? id = none := by
  refine ⟨_, by simp [effPromoteMirror, found, partner]; rfl, ?_⟩
  rw [← State.mirror?_ident found]
  exact State.releaseMirrorZones_mirror? _ _
end
end

/-- Settles O53: each command by its checks; what it enters is left by the packets that it sends (assumptions 38 and 41). -/
theorem peerCommandEffects : Obligations.PeerCommandEffects := by
  unfold Obligations.PeerCommandEffects
  refine ⟨?pair, ?release, ?allowlist, ?start, ?accept, ?cancel, ?mirror, ?ends⟩
  case pair =>
    refine fun s _ fp => ⟨fun allowlisted => now_eq ?_, fun open_ unknown => now_eq ?_, fun p open_ recorded =>
      ⟨fun paired => now_eq ?_, fun unpaired other => now_eq ?_, fun unpaired known room => ?_⟩⟩
    · simp [effPairPartner, allowlisted]
    · simp [effPairPartner, open_, unknown]
    · simp [effPairPartner, open_, recorded, paired]
    · simp [effPairPartner, open_, recorded, unpaired, other]
    · obtain ⟨t, row, entered⟩ := effPairPartner_now open_ recorded unpaired known room
      exact ⟨t, now_eq row, entered⟩
  case release =>
    refine fun s _ fp => ⟨fun unpaired => now_eq ?_, fun paired => ?_, fun free => now_eq ?_, fun held => ?_⟩
    · simp [effUnpairPartner, unpaired]
    · obtain ⟨t, row, gone⟩ := effUnpairPartner_paired paired
      exact ⟨t, now_eq row, gone⟩
    · simp [effReleaseQuarantine, free]
    · obtain ⟨t, row, gone⟩ := effReleaseQuarantine_quarantined held
      exact ⟨t, now_eq row, gone⟩
  case allowlist =>
    intro s _ l
    obtain ⟨t, row, listed, kept⟩ := effSetAllowlist_sets s l
    exact ⟨t, now_eq row, listed, kept⟩
  case start =>
    refine fun s _ d nsid st ch zs => ⟨fun r bar => now_eq ?_, fun may none_ => now_eq (effStartMigration_unknown may none_),
      fun n may found unfit => now_eq (effStartMigration_unfit may found unfit), fun n may found zoned plain within some_ => ?_⟩
    · simp [effStartMigration, bar]
    · obtain ⟨t, row, peer⟩ := effStartMigration_offers (streams := st) (charge := ch) may found zoned plain within some_
      refine ⟨t, s.newIdent.1, now_eq row, rfl, by rw [peer]; rfl,
        (migrationJob s.newIdent.1 d n nsid ch st zs s.clk.frame).entered .offered 0 s.clk.frame, ?_, rfl, rfl, rfl, rfl, rfl, fun x mem => migrationZone_of_mem mem⟩
      rw [peer]
      exact List.mem_map.mpr ⟨_, List.mem_append_right _ (List.mem_singleton_self _), if_pos (beq_self_eq_true _)⟩
  case accept =>
    refine fun s _ d nsid c => ⟨fun untrusted => now_eq (effAcceptMigration_untrusted untrusted),
      fun r trusted unfit => now_eq (effAcceptMigration_unlandable trusted unfit), fun n k trusted fit found class_ none_ => ?_⟩
    obtain ⟨t, row, waits, lands⟩ := effAcceptMigration_waits trusted fit found class_ none_
    exact ⟨t, now_eq row, waits, lands⟩
  case cancel =>
    refine fun s _ id => ⟨fun none_ => now_eq ?_, fun j found => ⟨fun ended => now_eq ?_, fun live => ?_⟩⟩
    · simp [effCancelMigration, none_]
    · simp [effCancelMigration, found, ended]
    · obtain ⟨t, row, stopped⟩ := effCancelMigration_live found live
      exact ⟨t, now_eq row, stopped⟩
  case mirror =>
    refine fun s _ mode pol c nsid a k d => ⟨fun r bar => now_eq ?_, fun n may found zoned plain some_ within room => ?_⟩
    · simp [effSetMirror, bar]
    · obtain ⟨t, row, mem⟩ := effSetMirror_offers (mode := mode) (pol := pol) (cls := c) may found zoned plain some_ within room
      exact ⟨t, _, now_eq row, _, mem, rfl, rfl, rfl, rfl, rfl, rfl, rfl, rfl, rfl, rfl, rfl⟩
  case ends =>
    refine fun s _ id => ⟨fun none_ => ⟨now_eq ?_, now_eq ?_⟩, fun x found => ⟨fun source => ⟨now_eq ?_, ?_⟩, fun partner => ⟨fun stands => now_eq ?_, ?_⟩⟩⟩
    · simp [effEndMirror, none_]
    · simp [effPromoteMirror, none_]
    · simp [effPromoteMirror, found, source]
    · obtain ⟨t, row, gone⟩ := effEndMirror_source found source
      exact ⟨t, now_eq row, gone⟩
    · simp [effEndMirror, found, partner, stands]
    · obtain ⟨t, row, gone⟩ := effPromoteMirror_partner found partner
      exact ⟨t, now_eq row, gone⟩

end Sys2Proof.Machine
end

section
/-! SUPPORT. The rows of the packets that a Halyard port takes (R335 to R339, R343 to R345, R350, R352, R354, R355). -/

namespace Sys2Proof.Machine

/-! ## What a port holds after it has taken a packet run -/

/-- A port that has taken a packet run. -/
def HPort.took (p : HPort) (ptype packets : Nat) : HPort := { p with
  rxNext := p.rxNext + packets, heard := true
  freedReq := if ptype == 0x20 then p.freedReq + packets else p.freedReq
  freedCtl := if ptype == 0x20 || ptype == 0x30 || freePacket ptype then p.freedCtl else p.freedCtl + packets }

section
variable (s : State) (port ptype packets : Nat)

theorem State.modHport_modHport (f g : HPort → HPort) : (s.modHport port f).modHport port g = s.modHport port (g ∘ f) := by
  simp [State.modHport, State.modHal, List.modify_modify_eq]

theorem State.took_eq : s.took port ptype packets = s.modHport port fun p => p.took ptype packets := by
  unfold State.took HPort.took
  cases request : ptype == 0x20 with
  | true => simp [State.modHport_modHport, Function.comp_def]
  | false =>
    cases free : ptype == 0x30 || freePacket ptype with
    | true => simp [free]
    | false => simp [free, State.modHport_modHport, Function.comp_def]

variable {s port ptype packets}

/-- A part of a port that no receipt changes. -/
theorem State.took_part {α : Type} {part : HPort → α} (q : Nat) (keeps : ∀ p, part (p.took ptype packets) = part p) :
    part ((s.took port ptype packets).hport q) = part (s.hport q) := by
  rw [State.took_eq]
  exact s.modHport_part port keeps

@[simp] theorem State.took_state (q : Nat) : ((s.took port ptype packets).hport q).state = (s.hport q).state := State.took_part q fun _ => rfl
@[simp] theorem State.took_auth (q : Nat) : ((s.took port ptype packets).hport q).auth = (s.hport q).auth := State.took_part q fun _ => rfl
@[simp] theorem State.took_neighbour (q : Nat) : ((s.took port ptype packets).hport q).neighbour = (s.hport q).neighbour := State.took_part q fun _ => rfl
@[simp] theorem State.took_echoOut (q : Nat) : ((s.took port ptype packets).hport q).echoOut = (s.hport q).echoOut := State.took_part q fun _ => rfl
@[simp] theorem State.took_count : (s.took port ptype packets).hal.ports.length = s.hal.ports.length := by
  rw [State.took_eq, State.modHport_ports_length]
theorem State.took_nak (q : Nat) : (((s.took port ptype packets).hport q).nakSeq, ((s.took port ptype packets).hport q).nakRun) =
    ((s.hport q).nakSeq, (s.hport q).nakRun) := State.took_part (part := fun p => (p.nakSeq, p.nakRun)) q fun _ => rfl
theorem State.took_rxNext (real : port < s.hal.ports.length) : ((s.took port ptype packets).hport port).rxNext = (s.hport port).rxNext + packets := by
  rw [State.took_eq, s.modHport_same real]
  rfl

/-- Of the state, the receipt changes the ports alone. -/
theorem State.took_ports : ∃ ports, s.took port ptype packets = s.modHal fun h => { h with ports := ports } := by
  rw [State.took_eq]
  exact ⟨_, rfl⟩

variable (s port ptype packets)
@[simp] theorem State.took_partner? (fp : Digest) : (s.took port ptype packets).partner? fp = s.partner? fp := by
  obtain ⟨_, e⟩ := s.took_ports (port := port) (ptype := ptype) (packets := packets)
  rw [e]
  rfl

theorem State.took_rest : (s.took port ptype packets).out = s.out ∧ (s.took port ptype packets).nss = s.nss ∧ (s.took port ptype packets).media = s.media ∧
    (s.took port ptype packets).keys = s.keys ∧ (s.took port ptype packets).peer = s.peer := by
  obtain ⟨_, e⟩ := s.took_ports (port := port) (ptype := ptype) (packets := packets)
  rw [e]
  exact ⟨rfl, rfl, rfl, rfl, rfl⟩
end

/-! ## Acks, Naks and echoes (R337 to R339, R344) -/

section
variable {s : State} {port seq : Nat}

theorem HPort.mem_ack_txq {p : HPort} {a : Nat} (some_ : a ≠ 2 ^ 64 - 1) (settled : ¬ (p.auth.doneSent = true ∧ p.auth.doneGot = false)) :
    (∀ k, k ∈ (p.ack a).txq ↔ (k ∈ p.txq ∧ a < k.seq + k.count - 1)) ∧ (p.ack a).oldq = p.oldq := by
  have named : (a == noneAccepted) = false := by simpa [noneAccepted] using some_
  have current : (p.auth.doneSent && ! p.auth.doneGot) = false := by simpa using settled
  unfold HPort.ack
  simp [current, named]

theorem State.tx_sends {k : TxPkt} (carried : carries (s.hport port).state k.ptype = true) (counted : freePacket k.ptype = false)
    (first : (s.hport port).wait = []) (credit : k.count ≤ (s.hport port).ctlCredits) :
    s.tx port k = (s.modHport port fun p => { p with ctlCredits := p.ctlCredits - k.count }).put port k := by
  simp [State.tx, carried, counted, first, credit]

theorem State.tx_waits {k : TxPkt} (carried : carries (s.hport port).state k.ptype = true) (counted : freePacket k.ptype = false)
    (later : (s.hport port).wait ≠ [] ∨ (s.hport port).ctlCredits < k.count) :
    s.tx port k = s.modHport port fun p => { p with wait := p.wait ++ [k] } := by
  have held : ¬ ((s.hport port).wait = [] ∧ k.count ≤ (s.hport port).ctlCredits) := by
    rintro ⟨none_, credit⟩
    rcases later with later | later
    · exact later none_
    · omega
  simp [State.tx, carried, counted, held]

/-- A Nak by its run: the packets after the one named are sent again, and the eighth Nak of a run retrains. -/
theorem execNak_run {a r run : Nat} (accepted : s.accepts port seq 0x04 1 = true)
    (counted : run = if (s.hport port).nakSeq = some a then (s.hport port).nakRun + 1 else 1) :
    exec (.nak port seq a r) s = .next (
      let u := (s.took port 0x04 1).modHport port fun p => { p.ack a with nakRun := run, nakSeq := some a }
      if 8 ≤ run then u.retrain port else u.resend port) := by
  have kept := s.took_nak (port := port) (ptype := 0x04) (packets := 1) port
  obtain ⟨nakSeq, nakRun⟩ := Prod.mk.inj kept
  refine (received_accepted accepted _).trans ?_
  dsimp only
  rw [nakSeq, nakRun, counted]
  simp only [beq_iff_eq]

theorem execEchoReply_known {n t rt : Nat} (accepted : s.accepts port seq 0x06 1 = true) (real : port < s.hal.ports.length)
    (asked : (s.hport port).echoOut = some n) : Answers (exec (.echoReply port seq n t rt) s) fun u => (u.hport port).flight = (rt - t) / 2 ∧
      (u.hport port).echoOut = none ∧ (u.hport port).rxNext = seq + 1 := by
  refine ⟨_, received_accepted accepted _, ?_⟩
  dsimp only
  rw [State.modHport_same _ (by simpa using real), State.took_echoOut, asked, (State.accepts_taking accepted).inOrder]
  simpa using State.took_rxNext real

theorem State.modHport_self {f : HPort → HPort} (idle : f (s.hport port) = s.hport port) : s.modHport port f = s := by
  have same : s.hal.ports.modify port f = s.hal.ports := by
    refine List.ext_getElem? fun i => ?_
    rw [List.getElem?_modify]
    by_cases own : port = i
    · subst own
      cases found : s.hal.ports[port]? with
      | none => rfl
      | some p => simpa [State.hport, List.getD_eq_getElem?_getD, found] using idle
    · simp [own]
  simp [State.modHport, State.modHal, same]

theorem execEchoReply_unknown {n t rt : Nat} (accepted : s.accepts port seq 0x06 1 = true) (other : (s.hport port).echoOut ≠ some n) :
    exec (.echoReply port seq n t rt) s = .next (s.took port 0x06 1) := by
  refine (received_accepted accepted _).trans (congrArg _ (State.modHport_self ?_))
  simp [other]

/-! ## Paths (R343 to R345, R355) -/

section
variable {lb hops num lat : Nat} {t o : Digest} {w : Bool} {u v : State}

section
variable (accepted : s.accepts port seq 0x07 1 = true) (taken : u = s.took port 0x07 1)
include accepted taken

theorem execPathProbe_quarantined (held : (u.inQuarantine s.ownFp || u.inQuarantine o) = true) :
    exec (.pathProbe port seq lb hops s.ownFp o num lat w) s = .next (u.refuse port 0 2 0) := by
  subst taken
  exact (received_accepted accepted _).trans (congrArg _ (if_pos held))

theorem execPathProbe_target {l : Nat} (here : u.inQuarantine s.ownFp = false) (there : u.inQuarantine o = false)
    (new : (u.hal.seen.any fun e => e.1 == o && e.2.1 == num && decide (u.clk.frame < e.2.2 + 64)) = false)
    (label : u.freeLabel port = some l) (record : u.ensurePartner o = some v) :
    exec (.pathProbe port seq lb hops s.ownFp o num lat w) s = .next ((v.modHal fun h => { h with
      seen := h.seen ++ [(o, num, v.clk.frame)]
      labels := h.labels ++ [{ inPort := port, inLabel := l, origin := o, number := num, partner := o, latency := lat + (u.hport port).hopNs, hops := hops }] }).tx
        port { seq := 0, ptype := 0x08, label := l, args := [s.ownFp.toNat, o.toNat, num, lat + (u.hport port).hopNs, hops] }) := by
  subst taken
  refine (received_accepted accepted _).trans ?_
  have own : (s.ownFp == (s.took port 0x07 1).ownFp) = true := beq_self_eq_true _
  simp only [here, there, new, own, label, record, Bool.or_self, Bool.false_eq_true, if_false, if_true]

theorem execPathProbe_ends (target : u.inQuarantine t = false) (origin : u.inQuarantine o = false) (other : t ≠ s.ownFp)
    (stops : s.ctlValue ctlRelaying ≠ 1 ∨ 255 ≤ hops ∨ s.pathBudget < lat + (u.hport port).hopNs) :
    exec (.pathProbe port seq lb hops t o num lat w) s = .next u := by
  subst taken
  refine (received_accepted accepted _).trans (congrArg _ ?_)
  have elsewhere : (t == (s.took port 0x07 1).ownFp) = false := beq_eq_false_iff_ne.mpr other
  have stopped : ((s.took port 0x07 1).ctlValue ctlRelaying != 1 || ((s.took port 0x07 1).hport port).state != .paired || decide (255 ≤ hops) ||
      decide ((s.took port 0x07 1).pathBudget < lat + ((s.took port 0x07 1).hport port).hopNs)) = true := by
    rcases stops with off | far | slow
    · have off : (s.took port 0x07 1).ctlValue ctlRelaying ≠ 1 := off
      simp [off]
    · simp [far]
    · have slow : (s.took port 0x07 1).pathBudget < lat + ((s.took port 0x07 1).hport port).hopNs := slow
      simp [slow]
  simp only [target, origin, elsewhere, stopped, Bool.or_self, Bool.false_eq_true, if_false, if_true, ite_self]
end

/-- The path of a reply is there: its probe is answered, and the label ends here. -/
def State.opened (v : State) (port lb : Nat) (own t : Digest) (num lat hops : Nat) : State := v.modHal fun h => { h with
  probes := h.probes.filter (·.number != num)
  labels := h.labels ++ [{ inPort := port, inLabel := lb, origin := own, number := num, partner := t, latency := lat, hops := hops }] }

section
variable (accepted : s.accepts port seq 0x08 1 = true) (taken : u = s.took port 0x08 1)
include accepted taken

theorem execPathReply_unasked (unasked : (u.hal.probes.any fun p => p.number == num && p.target == t) = false) :
    exec (.pathReply port seq lb t s.ownFp num lat hops) s = .next u := by
  subst taken
  refine (received_accepted accepted _).trans (congrArg _ ?_)
  have own : (s.ownFp == (s.took port 0x08 1).ownFp) = true := beq_self_eq_true _
  simp only [own, unasked, Bool.not_false, if_true]

theorem execPathReply_opens (asked : (u.hal.probes.any fun p => p.number == num && p.target == t) = true) (record : u.ensurePartner t = some v)
    (hailed : ((v.partner? t).getD { fp := t }).auth.session = true ∨ ((v.partner? t).getD { fp := t }).auth.hailSent = true) :
    Answers (exec (.pathReply port seq lb t s.ownFp num lat hops) s) fun x => (∀ p ∈ x.hal.probes, p.number ≠ num) ∧
      ({ inPort := port, inLabel := lb, origin := s.ownFp, number := num, partner := t, latency := lat, hops := hops } : Label) ∈ x.hal.labels := by
  subst taken
  have own : (s.ownFp == (s.took port 0x08 1).ownFp) = true := beq_self_eq_true _
  have opened : (∀ p ∈ (v.opened port lb s.ownFp t num lat hops).hal.probes, p.number ≠ num) ∧
      ({ inPort := port, inLabel := lb, origin := s.ownFp, number := num, partner := t, latency := lat, hops := hops } : Label) ∈
        (v.opened port lb s.ownFp t num lat hops).hal.labels :=
    ⟨fun p mem => by simpa using (List.mem_filter.mp mem).2, List.mem_append_right _ (List.mem_singleton_self _)⟩
  cases session : ((v.partner? t).getD { fp := t }).auth.session with
  | true =>
    refine ⟨(v.opened port lb s.ownFp t num lat hops).partnerUp t, (received_accepted accepted _).trans (congrArg _ ?_), ?_⟩
    · simp only [own, asked, record, Bool.not_true, Bool.false_eq_true, if_false, if_true]
      exact if_pos session
    · obtain ⟨probes, labels⟩ := Prod.mk.inj (State.paths_sendBlind.partnerUp (v.opened port lb s.ownFp t num lat hops) t)
      rw [probes, labels]
      exact opened
  | false =>
    have hailSent := hailed.resolve_left (Bool.eq_false_iff.mp session)
    refine ⟨_, (received_accepted accepted _).trans (congrArg _ ?_), opened⟩
    simp only [own, asked, record, Bool.not_true, Bool.false_eq_true, if_false, if_true]
    exact (if_neg (Bool.eq_false_iff.mp session)).trans (if_pos hailSent)

theorem execPathReply_relays {k : Label} (other : o ≠ s.ownFp)
    (joins : (u.hal.labels.find? fun l => l.outPort == some port && l.outLabel.isNone && l.origin == o && l.number == num) = some k) :
    exec (.pathReply port seq lb t o num lat hops) s = .next ((u.modHal fun h => { h with
      labels := updIf (fun x => x == k) (fun x => { x with outLabel := some lb }) h.labels }).tx k.inPort
        { seq := 0, ptype := 0x08, label := k.inLabel, args := [t.toNat, o.toNat, num, lat, hops] }) := by
  subst taken
  refine (received_accepted accepted _).trans (congrArg _ ?_)
  have elsewhere : (o == (s.took port 0x08 1).ownFp) = false := beq_eq_false_iff_ne.mpr other
  simp only [elsewhere, joins, Bool.false_eq_true, if_false]
end
end

theorem execPathDown_accepted {lb r : Nat} {sd : Digest} {u : State} (accepted : s.accepts port seq 0x09 1 = true)
    (taken : u = (s.took port 0x09 1).raise (halSrc port 10) 1 1 [lb]) :
    exec (.pathDown port seq lb r sd) s = .next (
      match u.hal.labels.find? fun l => l.inPort == port && l.inLabel == lb || l.outPort == some port && l.outLabel == some lb with
      | none => u
      | some l => (match u.relayOf port lb with
        | some (q, m) => u.tx q { seq := 0, ptype := 0x09, label := m, args := [r, sd.toNat] }
        | none => u).dropLabel l) := by
  subst taken
  exact received_accepted accepted _

theorem State.modPartner_partner? (s : State) (fp : Digest) {f : Partner → Partner} (same : ∀ p, (f p).fp = p.fp) :
    (s.modPartner fp f).partner? fp = (s.partner? fp).map f :=
  find?_updIf _ f (fun p own => by rwa [same]) s.hal.partners

theorem State.partner?_of_hal {s t : State} (same : t.hal = s.hal) (fp : Digest) : t.partner? fp = s.partner? fp := by simp only [State.partner?, same]

/-- A partner that has sent its Departure. -/
def Partner.departing (p : Partner) (r poc : Nat) : Partner := { p with asleep := r == 2, departed := r != 2, poc := poc }

theorem execDeparture_marks {r poc : Nat} {fp : Digest} {p : Partner} (accepted : s.accepts port seq 0x0A 1 = true)
    (neighbour : (s.hport port).neighbour = some fp) (recorded : s.partner? fp = some p) (noJob : s.peer.jobs = []) :
    Answers (exec (.departure port seq r poc) s) fun t =>
      ∃ q, t.partner? fp = some q ∧ q.asleep = (r == 2) ∧ q.departed = (r != 2) ∧ q.poc = poc ∧ q.state = p.state := by
  have marked : ((s.took port 0x0A 1).modPartner fp fun p => p.departing r poc).partner? fp = some (p.departing r poc) := by
    rw [State.modPartner_partner? _ _ fun _ => (by rfl), State.took_partner?, recorded]
    rfl
  have row : exec (.departure port seq r poc) s =
      .next (((s.took port 0x0A 1).modPartner fp fun p => p.departing r poc).raise (halSrc port 9) r 0 [fp8 fp]) := by
    refine (received_accepted accepted _).trans (congrArg _ ?_)
    rw [State.took_neighbour, neighbour]
    refine each_idle _ fun id mem => ?_
    obtain ⟨j, mem, -⟩ := List.mem_map.mp mem
    have listed := (List.mem_filter.mp mem).1
    rw [State.raise_peer] at listed
    exact absurd (show j ∈ s.peer.jobs from listed) (by simp [noJob])
  exact ⟨_, row, _, (State.partner?_of_hal (State.raise_hal _ _ _ _ _ _) fp).trans marked, rfl, rfl, rfl, rfl⟩

/-- A Refuse ends the request that it names, on its own path or at the relay, or passes on. -/
theorem execRefuse_accepted {lb r tag : Nat} {sd : Digest} {u : State} (accepted : s.accepts port seq 0x0C 1 = true) (taken : u = s.took port 0x0C 1) :
    exec (.refuse port seq lb r tag sd) s = .next (
      match u.hal.reqs.find? fun x => x.port == port && x.label == lb && x.tag == tag && tag != 0 with
      | some x =>
        match x.relay with
        | some (q, m) => (u.dropHReqs fun x => x.port == port && x.label == lb && x.tag == tag && tag != 0).tx q
          { seq := 0, ptype := 0x0C, label := m, args := [r, tag, sd.toNat] }
        | none => (u.dropHReqs fun x => x.port == port && x.label == lb && x.tag == tag && tag != 0).loseStream x.ident (port, lb)
      | none =>
        match u.relayOf port lb with
        | some (q, m) => u.tx q { seq := 0, ptype := 0x0C, label := m, args := [r, tag, sd.toNat] }
        | none => u) := by
  subst taken
  exact received_accepted accepted _

theorem execReservedPacketType_accepted {t : Nat} (accepted : s.accepts port seq t 1 = true) :
    exec (.reservedPacketType port seq t) s = .next
      (if (s.hport port).auth.session then (s.took port t 1).violation port else s.took port t 1) := by
  refine (received_accepted accepted _).trans ?_
  rw [State.took_auth]

/-! ## Failed packets (R337, R338) -/

/-- What a Nak and a retrain leave: the namespaces, the stored blocks and the clock. -/
def State.data (s : State) : List Namespace × List Stored × Clock := (s.nss, s.media.blocks, s.clk)

theorem State.data_sendBlind : SendBlind State.data where
  emit _ _ := rfl
  port _ _ _ _ := rfl

theorem State.raise_data (source code severity : Nat) (args : List Nat) (fn : Nat) : (s.raise source code severity args fn).data = s.data := by
  unfold State.raise
  split <;> rfl

theorem State.setLink_data (st : LinkState) : (s.setLink port st).data = s.data := by
  unfold State.setLink
  refine (State.raise_data _ _ _ _ _).trans ?_
  split
  · split <;> rfl
  · rfl

theorem State.retrain_data : (s.retrain port).data = s.data := by
  unfold State.retrain
  dsimp only
  split
  · rfl
  · exact State.setLink_data _

section
variable {o : Bool} (unit : port < 3)
include unit

theorem execTagOrCrcFailure_off (off : (s.hport port).state = .down ∨ (s.hport port).state = .training) :
    exec (.tagOrCrcFailure port seq o) s = .next s := by
  rcases off with off | off <;> simp [exec, execTagOrCrcFailure, whenUnit, unit, off]

variable (notDown : (s.hport port).state ≠ .down) (notTraining : (s.hport port).state ≠ .training)
include notDown notTraining

theorem execTagOrCrcFailure_order : exec (.tagOrCrcFailure port seq true) s = .next (s.sendNak port 2) := by
  simp [exec, execTagOrCrcFailure, whenUnit, unit, notDown, notTraining]

/-- The failed packets of the window in which this one fails. -/
def HPort.failsAt (p : HPort) (frame : Nat) : Nat := if p.fails == 0 || decide (p.failFrom + 62500 ≤ frame) then 1 else p.fails + 1

theorem execTagOrCrcFailure_counts : ∃ t, t.data = s.data ∧
    exec (.tagOrCrcFailure port seq false) s = .next (if 1024 < (s.hport port).failsAt s.clk.frame then t.retrain port else t) := by
  refine ⟨(s.modHport port fun p => { p with
      fails := (s.hport port).failsAt s.clk.frame
      failFrom := if (s.hport port).fails == 0 || decide ((s.hport port).failFrom + 62500 ≤ s.clk.frame) then s.clk.frame else p.failFrom }).sendNak port 1,
    State.data_sendBlind.sendNak _ _ _, ?_⟩
  have runs : ((s.hport port).state == .down || (s.hport port).state == .training) = false := by simp [notDown, notTraining]
  simp only [exec, execTagOrCrcFailure, whenUnit, unit, runs, decide_true, if_true, Bool.false_eq_true, if_false]
  rfl

theorem execTagOrCrcFailure_data : Answers (exec (.tagOrCrcFailure port seq false) s) fun t => t.data = s.data := by
  obtain ⟨t, same, row⟩ := execTagOrCrcFailure_counts (seq := seq) unit notDown notTraining
  refine ⟨_, row, ?_⟩
  split
  · exact State.retrain_data.trans same
  · exact same
end
end

/-- Settles O54: a row that receives a packet is `received` with what it does of its own, and the rest is that own part on the state that has taken
the packet (assumptions 39 and 40). -/
theorem halyardPackets : Obligations.HalyardPackets := by
  unfold Obligations.HalyardPackets
  refine ⟨?discards, ?ack, ?frees, ?sends, ?nak, ?echo, ?reply, ?probe, ?probeEnds, ?answered, ?joined, ?pathDown, ?departure, ?refusePasses, ?refuse,
    ?reserved, ?failed, ?failedOff⟩
  case discards =>
    intros
    refine ⟨?_, ?_, ?_, ?_, ?_, ?_, ?_, ?_, ?_, ?_, ?_, ?_, ?_, ?_, ?_, ?_, ?_, ?_, ?_, ?_, ?_, trivial⟩
    all_goals exact discards_of_received rfl
  case ack =>
    intro port seq a ctl req s u accepted taken
    subst taken
    exact received_accepted accepted _
  case frees => exact fun p a some_ settled => HPort.mem_ack_txq some_ settled
  case sends => exact fun port k s carried counted => ⟨State.tx_sends carried counted, State.tx_waits carried counted⟩
  case nak =>
    intro port seq a r run s u accepted counted taken _
    subst taken
    refine ⟨fun few => (execNak_run accepted counted).trans (congrArg _ (if_neg (Nat.not_le.mpr few))),
      fun many => (execNak_run accepted counted).trans (congrArg _ (if_pos many))⟩
  case echo =>
    intro port seq n s u accepted taken
    subst taken
    exact received_accepted accepted _
  case reply => exact fun port seq n t rt s accepted real => ⟨execEchoReply_known accepted real, execEchoReply_unknown accepted⟩
  case probe =>
    exact fun port seq lb hops num lat l o w s u v accepted taken => ⟨execPathProbe_quarantined accepted taken, execPathProbe_target accepted taken⟩
  case probeEnds => exact fun port seq lb hops num lat t o w s u accepted taken => execPathProbe_ends accepted taken
  case answered =>
    exact fun port seq lb num lat hops t s u v accepted taken => ⟨execPathReply_unasked accepted taken, execPathReply_opens accepted taken⟩
  case joined => exact fun port seq lb num lat hops t o k s u accepted taken other joins => execPathReply_relays accepted taken other joins
  case pathDown =>
    refine fun port seq lb r sd k s u accepted taken => ⟨fun none_ => ?_, fun found ends => ?_⟩
    · rw [execPathDown_accepted accepted taken, none_]
    · rw [execPathDown_accepted accepted taken, found, ends]
  case departure => exact fun port seq r poc fp p s accepted neighbour recorded noJob => execDeparture_marks accepted neighbour recorded noJob
  case refusePasses =>
    intro port seq lb r tag sd s u accepted taken none_ ends
    rw [execRefuse_accepted accepted taken, none_, ends]
  case refuse =>
    intro port seq lb r tag sd x s u accepted taken found own
    rw [execRefuse_accepted accepted taken, found]
    dsimp only
    rw [own]
  case reserved =>
    exact fun port seq t s accepted => ⟨fun session => (execReservedPacketType_accepted accepted).trans (congrArg _ (if_pos session)),
      fun none_ => (execReservedPacketType_accepted accepted).trans (congrArg _ (if_neg (by simp [none_])))⟩
  case failed =>
    intro port seq s unit notDown notTraining
    refine ⟨execTagOrCrcFailure_order unit notDown notTraining, ?_⟩
    obtain ⟨t, row, data⟩ := execTagOrCrcFailure_data (seq := seq) unit notDown notTraining
    obtain ⟨nss, blocks, clk⟩ : t.nss = s.nss ∧ t.media.blocks = s.media.blocks ∧ t.clk = s.clk := by simpa [State.data] using data
    exact ⟨t, row, nss, blocks, clk⟩
  case failedOff => exact fun port seq o s unit off => execTagOrCrcFailure_off unit off

end Sys2Proof.Machine
end

section
/-! SUPPORT. The states of a Halyard link, its timers, and the wake pattern (R333, R338, R343, R344, R347, R352, R353, R357 to R359). -/

namespace Sys2Proof.Machine

section
variable {port : Nat} {s : State} (unit : port < 3)

/-! ## Detection and training (R333, R338, R347) -/

section
include unit

theorem execReceiverDetection_looks (found : Bool) (down : (s.hport port).state = .down) (runs : s.portRuns port = true)
    (own : (s.hport port).foreignUntil = none)
    (due : (s.hport port).lastDetect = none ∨ ∃ f, (s.hport port).lastDetect = some f ∧ f + 62500 ≤ s.clk.frame) :
    exec (.receiverDetection port found) s = .next (
      if found then (s.modHport port fun p => { p with lastDetect := some s.clk.frame }).train port
      else s.modHport port fun p => { p with lastDetect := some s.clk.frame }) := by
  rcases due with due | ⟨f, last, due⟩
  · simp [exec, execReceiverDetection, whenUnit, unit, down, runs, own, due]
  · simp [exec, execReceiverDetection, whenUnit, unit, down, runs, own, last, due]

theorem execReceiverDetection_idle (found : Bool) (off : (s.hport port).state ≠ .down ∨ s.portRuns port = false) :
    exec (.receiverDetection port found) s = .next s := by
  rcases off with off | off <;> simp [exec, execReceiverDetection, whenUnit, unit, off]

theorem execForeignLinkNumber_foreign {n : Nat} (training : (s.hport port).state = .training) (foreign : n ≠ 0x48) :
    exec (.foreignLinkNumber port n) s = .next (((s.goDown port).modHport port fun p =>
      { p with foreignUntil := some (s.clk.frame + 62500) }).raise (halSrc port 1) 1 1 [n]) := by
  simp [exec, execForeignLinkNumber, whenUnit, unit, training, foreign]

theorem execForeignLinkRetry_by {f : Nat} (waits : (s.hport port).foreignUntil = some f) : exec (.foreignLinkRetry port) s = .next (
    if f ≤ s.clk.frame && s.portRuns port then (s.modHport port fun p => { p with foreignUntil := none }).train port else s) := by
  simp [exec, execForeignLinkRetry, whenUnit, unit, waits]
end

theorem State.train_hport (real : port < s.hal.ports.length) : (s.train port).hport port = { s.hport port with state := .training, since := s.clk.frame } :=
  s.setLink_hport real .training

theorem State.goDown_cleared (real : port < s.hal.ports.length) (up : (s.hport port).state ≠ .down) : ((s.goDown port).hport port).state = .down ∧
    ((s.goDown port).hport port).auth = {} ∧ ((s.goDown port).hport port).txq = [] ∧ ((s.goDown port).hport port).rxNext = 0 ∧
    ((s.goDown port).hport port).reserved = 0 := by
  obtain ⟨lasting, free⟩ := s.goDown_hport real up 1
  exact ⟨congrArg HPort.state lasting, congrArg HPort.auth lasting, congrArg HPort.txq lasting, congrArg HPort.rxNext lasting, free⟩

section
variable {rate width : Nat}

/-- A port whose training has ended at a rate and a width. -/
def HPort.trained (p : HPort) (rate width : Nat) : HPort := { p with rate := rate, width := width, silent := 0 }

include unit

/-- The state at the end of a training from Down: cleared, with the Hail as its first packet. -/
def State.hailed (s : State) (port : Nat) : State :=
  let t := (s.modHport port HPort.clear).setLink port .hailing
  (t.modHport port fun p => { p with auth := { p.auth with hailSent := true } }).tx port { seq := 0, ptype := 0x01, args := hailBytes (t.ownHail port) }

theorem execTrainingComplete_first (training : (s.hport port).state = .training) (first : (s.hport port).before = none)
    (timely : s.clk.frame ≤ (s.hport port).since + 12500) :
    exec (.trainingComplete port rate width) s = .next ((s.modHport port fun p => p.trained rate width).hailed port) := by
  simp [exec, execTrainingComplete, whenUnit, unit, training, first, Nat.not_lt.mpr timely]
  rfl

theorem execTrainingComplete_again {st : LinkState} (training : (s.hport port).state = .training) (again : (s.hport port).before = some st)
    (timely : s.clk.frame ≤ (s.hport port).since + 6250) :
    exec (.trainingComplete port rate width) s = .next (((((s.modHport port fun p => p.trained rate width).modHport port fun p =>
      { p with before := none, nakRun := 0, nakSeq := none }).setLink port st).raise (halSrc port 6) 1 1
        [((s.hport port).txq.head?.map (·.seq)).getD (s.hport port).txSeq - 1]).resend port) := by
  simp [exec, execTrainingComplete, whenUnit, unit, training, again, Nat.not_lt.mpr timely]
  rfl

theorem execTrainingComplete_idle (off : (s.hport port).state ≠ .training ∨ (s.hport port).since + 12500 < s.clk.frame) :
    exec (.trainingComplete port rate width) s = .next s := by
  rcases off with off | late
  · simp [exec, execTrainingComplete, whenUnit, unit, off]
  · have over_ : (s.hport port).since + (if (s.hport port).before.isSome = true then 6250 else 12500) < s.clk.frame := by split <;> omega
    simp [exec, execTrainingComplete, whenUnit, unit, over_]
end

/-- A change of a link's state touches Halyard and the events alone. -/
theorem State.setLink_touches (s : State) (port : Nat) (st : LinkState) :
    s.setLink port st = { s with hal := (s.setLink port st).hal, evt := (s.setLink port st).evt } := by
  have raised (t : State) (args : List Nat) (same : t = { s with hal := t.hal, evt := t.evt }) : t.raise (halSrc port 0) (st.num + 1) 0 args =
      { s with hal := (t.raise (halSrc port 0) (st.num + 1) 0 args).hal, evt := (t.raise (halSrc port 0) (st.num + 1) 0 args).evt } := by
    unfold State.raise
    split
    · exact same
    · rw [same]
      rfl
  refine raised _ _ ?_
  split
  · split <;> rfl
  · rfl

theorem State.setLink_ownHail (s : State) (port : Nat) (st : LinkState) (q : Nat) : (s.setLink port st).ownHail q = s.ownHail q := by
  rw [s.setLink_touches]
  rfl

theorem State.resend_hport (q : Nat) : (s.resend port).hport q = s.hport q :=
  each_view (fun s => s.hport q) (fun s (k : TxPkt) => s.emit (.halyard port k.ptype (k.label :: k.hops :: k.args))) (fun _ _ => rfl) _ _

/-- A packet with a place of its own goes on the line at once. -/
theorem State.tx_free (k : TxPkt) (carried : carries (s.hport port).state k.ptype = true) (free : freePacket k.ptype = true) :
    s.tx port k = s.put port k := by
  simp [State.tx, carried, free]

theorem State.put_hport (real : port < s.hal.ports.length) (k : TxPkt) : (s.put port k).hport port = (s.hport port).push k := s.modHport_same real _

theorem State.hailed_hport (real : port < s.hal.ports.length) : (s.hailed port).hport port =
    { (s.hport port).clear with
      state := .hailing, since := s.clk.frame, auth := { hailSent := true }, txSeq := 1, sentNow := (s.hport port).sentNow + 1
      txq := [{ seq := 0, ptype := 0x01, args := hailBytes (s.ownHail port) }] } := by
  have cleared : (s.modHport port HPort.clear).hport port = (s.hport port).clear := s.modHport_same real _
  have real' : port < (s.modHport port HPort.clear).hal.ports.length := by simpa using real
  have linked : ((s.modHport port HPort.clear).setLink port .hailing).hport port = { (s.hport port).clear with state := .hailing, since := s.clk.frame } := by
    rw [State.setLink_hport _ real', cleared]
    rfl
  have own : ((s.modHport port HPort.clear).setLink port .hailing).ownHail port = s.ownHail port := State.setLink_ownHail _ _ _ _
  unfold State.hailed
  dsimp only
  have linkedReal : port < ((s.modHport port HPort.clear).setLink port .hailing).hal.ports.length := by
    rw [State.setLink_count]
    exact real'
  generalize (s.modHport port HPort.clear).setLink port .hailing = t at linked own linkedReal ⊢
  have marked := t.modHport_same linkedReal fun p => { p with auth := { p.auth with hailSent := true } }
  rw [State.tx_free _ (by rw [marked, linked]; rfl) (by rfl), State.put_hport (by simpa using linkedReal), marked, linked, own]
  rfl

theorem execTrainingComplete_hails {rate width : Nat} (unit : port < 3) (real : port < s.hal.ports.length) (training : (s.hport port).state = .training)
    (first : (s.hport port).before = none) (timely : s.clk.frame ≤ (s.hport port).since + 12500) :
    Answers (exec (.trainingComplete port rate width) s) fun t => (t.hport port).state = .hailing ∧
      (t.hport port).rate = rate ∧ (t.hport port).width = width ∧ (t.hport port).rxNext = 0 ∧ (t.hport port).txSeq = 1 ∧
      (t.hport port).txq = [{ seq := 0, ptype := 0x01, args := hailBytes (s.ownHail port) }] ∧ (t.hport port).ctlCredits = 0 := by
  refine ⟨_, execTrainingComplete_first unit training first timely, ?_⟩
  dsimp only
  rw [State.hailed_hport (by simpa using real), s.modHport_same real]
  exact ⟨rfl, rfl, rfl, rfl, rfl, rfl, rfl⟩

theorem execTrainingComplete_returns {rate width : Nat} {st : LinkState} (unit : port < 3) (real : port < s.hal.ports.length)
    (training : (s.hport port).state = .training) (again : (s.hport port).before = some st) (timely : s.clk.frame ≤ (s.hport port).since + 6250) :
    Answers (exec (.trainingComplete port rate width) s) fun t =>
      (t.hport port).state = st ∧ (t.hport port).before = none ∧ (t.hport port).txq = (s.hport port).txq ∧ (t.hport port).auth = (s.hport port).auth ∧
      (t.hport port).rxNext = (s.hport port).rxNext := by
  refine ⟨_, execTrainingComplete_again unit training again timely, ?_⟩
  dsimp only
  rw [State.resend_hport, State.raise_hport, State.setLink_hport _ (by simpa using real), State.modHport_same _ (by simpa using real), s.modHport_same real]
  exact ⟨rfl, rfl, rfl, rfl, rfl⟩

theorem execForeignLinkNumber_leaves {n : Nat} (unit : port < 3) (real : port < s.hal.ports.length) (training : (s.hport port).state = .training)
    (foreign : n ≠ 0x48) : Answers (exec (.foreignLinkNumber port n) s) fun t =>
      (t.hport port).state = .down ∧ (t.hport port).foreignUntil = some (s.clk.frame + 62500) := by
  refine ⟨_, execForeignLinkNumber_foreign unit training foreign, ?_⟩
  dsimp only
  rw [State.raise_hport, State.modHport_same _ (by rwa [State.goDown_count])]
  exact ⟨(s.goDown_cleared real (by simp [training])).1, rfl⟩

/-! ## The times of a link's states (R338, R347) -/

section
include unit

theorem execTrainingTimeout_passes (training : (s.hport port).state = .training) (first : (s.hport port).before = none)
    (late : (s.hport port).since + 12500 ≤ s.clk.frame) : exec (.trainingTimeout port) s = .next (s.goDown port) := by
  simp [exec, execTrainingTimeout, State.timeout, whenUnit, unit, training, first, late]

theorem execHailTimeout_passes (hailing : (s.hport port).state = .hailing) (late : (s.hport port).since + 625 ≤ s.clk.frame) :
    exec (.hailTimeout port) s = .next (s.goDown port) := by
  simp [exec, execHailTimeout, State.timeout, whenUnit, unit, hailing, late]

theorem execAuthenticationTimeout_passes (authenticating : (s.hport port).state = .authenticating) (late : (s.hport port).since + 6250 ≤ s.clk.frame) :
    exec (.authenticationTimeout port) s = .next (s.goDown port) := by
  simp [exec, execAuthenticationTimeout, State.timeout, whenUnit, unit, authenticating, late]

theorem execRetrainTimeout_passes (training : (s.hport port).state = .training) (again : (s.hport port).before.isSome = true)
    (late : (s.hport port).since + 6250 ≤ s.clk.frame) : exec (.retrainTimeout port) s =
      .next ((s.goDown port).raise (halSrc port 6) 2 1 [(((s.hport port).txq.head?.map (fun k => k.seq)).getD (s.hport port).txSeq) - 1]) := by
  simp [exec, execRetrainTimeout, whenUnit, unit, training, again, late]

theorem execLinkSilence_passes (up : (s.hport port).state = .authenticating ∨ (s.hport port).up = true) (silent : 4 ≤ (s.hport port).silent) :
    exec (.linkSilence port) s = .next (s.goDown port) := by
  rcases up with up | up <;> simp [exec, execLinkSilence, whenUnit, unit, up, silent]

theorem execLinkSilence_idle (heard : (s.hport port).silent < 4) : exec (.linkSilence port) s = .next s := by
  simp [exec, execLinkSilence, whenUnit, unit, heard]

theorem execHailTimeout_idle (other : (s.hport port).state ≠ .hailing) : exec (.hailTimeout port) s = .next s := by
  simp [exec, execHailTimeout, State.timeout, whenUnit, unit, other]

theorem execAuthenticationTimeout_idle (other : (s.hport port).state ≠ .authenticating) : exec (.authenticationTimeout port) s = .next s := by
  simp [exec, execAuthenticationTimeout, State.timeout, whenUnit, unit, other]

/-! ## Rekeying and the flight time (R344, R353) -/

theorem execRekeyInterval_starts (up : (s.hport port).up = true) (settled : (s.hport port).auth.rekey = false) (lower : s.isL (s.hport port).auth = true)
    (due : (s.hport port).auth.sessionFrame + s.ctlValue ctlRekey ≤ s.clk.frame ∨ 2 ^ 39 ≤ (s.hport port).txSeq) : exec (.rekeyInterval port) s =
      .next ((s.modAuth port none fun a => { a with rekey := true }).sendShare port none 0x0B ((s.hport port).txSeq - 1, (s.hport port).lastAccepted)) := by
  have due : (decide ((s.hport port).auth.sessionFrame + s.ctlValue ctlRekey ≤ s.clk.frame) || decide (2 ^ 39 ≤ (s.hport port).txSeq) ||
      decide (2 ^ 39 ≤ (s.hport port).rxNext)) = true := by
    rcases due with due | due <;> simp only [due, decide_true, Bool.or_true, Bool.true_or]
  simp only [exec, execRekeyInterval, whenUnit, unit, up, settled, lower, due, decide_true, if_true, Bool.not_true, Bool.or_self, Bool.false_eq_true, if_false]

theorem execRekeyInterval_idle (off : (s.hport port).up = false ∨ s.isL (s.hport port).auth = false) : exec (.rekeyInterval port) s = .next s := by
  rcases off with off | off <;> simp [exec, execRekeyInterval, whenUnit, unit, off]

theorem execFlightTimeMeasure_by : exec (.flightTimeMeasure port) s =
    .next (if (s.hport port).measured + 62500 ≤ s.clk.frame then s.sendEcho port else s) := by
  simp [exec, execFlightTimeMeasure, whenUnit, unit]
end

theorem State.sendEcho_hport (real : port < s.hal.ports.length) (up : (s.hport port).up = true) (unsent : (s.hport port).echoSent = false) :
    ((s.sendEcho port).hport port).echoOut = some s.clk.frame ∧ ((s.sendEcho port).hport port).measured = s.clk.frame := by
  have marked := s.modHport_same real fun p => { p with echoOut := some s.clk.frame, echoSent := true, measured := s.clk.frame }
  have carried : carries (s.hport port).state 0x05 = true := by
    have up : (s.hport port).state = .known ∨ (s.hport port).state = .paired := by simpa [HPort.up] using up
    rcases up with up | up <;> simp [carries, up]
  simp only [State.sendEcho, unsent, up, Bool.not_true, Bool.or_self, Bool.false_eq_true, if_false]
  rw [State.tx_free _ (by rw [marked]; exact carried) (by rfl), State.put_hport (by simpa using real), marked]
  exact ⟨rfl, rfl⟩

/-! ## Probes and the wake pattern (R343, R357 to R359) -/

theorem execProbeTimeout_due {n : Nat} {p : Probe} {u : State} (found : (s.hal.probes.find? fun p => p.number == n && decide (p.sent + 62500 ≤ s.clk.frame)) = some p)
    (dropped : u = s.modHal fun h => { h with
      probes := h.probes.filter (fun x => x.number != n)
      labels := h.labels.filter fun l => !(l.outPort.isSome && l.outLabel.isNone && l.number == n) }) :
    exec (.probeTimeout n) s = .next (if p.wake then u.noPath p.target 0x0702 else u.sendProbe p.target true) := by
  subst dropped
  simp only [exec, execProbeTimeout, found]

theorem execProbeTimeout_idle {n : Nat} (young : ∀ p ∈ s.hal.probes, p.number = n → s.clk.frame < p.sent + 62500) : exec (.probeTimeout n) s = .next s := by
  have none_ : (s.hal.probes.find? fun p => p.number == n && decide (p.sent + 62500 ≤ s.clk.frame)) = none := by simpa using young
  simp only [exec, execProbeTimeout, none_]

section
include unit

theorem execWakePatternRepeat_by {b l : Nat} (waking : (s.hport port).waking = some (b, l)) : exec (.wakePatternRepeat port) s = .next (
    if s.clk.frame < l + 62500 || decide (b + s.ctlValue ctlWakeTimeout ≤ s.clk.frame) then s
    else (s.modHport port fun p => { p with waking := some (b, s.clk.frame) }).emit (.wakePattern port)) := by
  simp [exec, execWakePatternRepeat, whenUnit, unit, waking]

theorem execWakeTimeout_sender {b l : Nat} {fp : Digest} (waking : (s.hport port).waking = some (b, l)) (unwoken : (s.hport port).wokenAt = none)
    (neighbour : (s.hport port).neighbour = some fp) : exec (.wakeTimeout port) s = .next (
      if b + s.ctlValue ctlWakeTimeout ≤ s.clk.frame then ((s.modHport port fun p => { p with waking := none }).modHal fun h => { h with
        heldProbes := h.heldProbes.filter (fun x => x.1 != port) }).noPath fp 0x0702 else s) := by
  simp [exec, execWakeTimeout, whenUnit, unit, waking, unwoken, neighbour]

theorem execWakeTimeout_woken {f : Nat} (quiet : (s.hport port).waking = none) (woken : (s.hport port).wokenAt = some f) : exec (.wakeTimeout port) s = .next (
      if f + s.ctlValue ctlWakeTimeout ≤ s.clk.frame && (s.hport port).state != .paired then s.spuriousWake port else s) := by
  simp [exec, execWakeTimeout, whenUnit, unit, quiet, woken]

theorem execWakePatternReceived_off (off : s.ctlValue ctlHalWake port = 0 ∨ s.portEnabled port = false) :
    exec (.wakePatternReceived port) s = .next s := by
  rcases off with off | off <;> simp [exec, execWakePatternReceived, whenUnit, unit, off]

variable (on : s.ctlValue ctlHalWake port ≠ 0) (enabled : s.portEnabled port = true)
include on enabled

theorem execWakePatternReceived_crowsNest (asleep : s.pwr.dev = .crowsNest) : exec (.wakePatternReceived port) s =
    .next (((s.wake (6 + port)).modHport port fun p => { p with wokenAt := some s.clk.frame }).modEvt
      fun e => { e with later := e.later ++ [{ frame := 0, source := halSrc port 7, code := 1, severity := 0 }] }) := by
  simp [exec, execWakePatternReceived, whenUnit, unit, on, enabled, asleep]

theorem execWakePatternReceived_ready (ready : s.ready = true) : exec (.wakePatternReceived port) s =
    .next (if (s.hport port).state = .down ∧ s.portRuns port = true then s.train port else s) := by
  have working : s.pwr.dev = .working := by simpa [State.ready] using ready
  simp [exec, execWakePatternReceived, whenUnit, unit, on, enabled, working, ready]
end
end

/-- Settles O55: each row by the state and the times of its port, and the way down of a link by what the loss of its paths leaves of the port
(assumptions 39 and 40). -/
theorem halyardLinks : Obligations.HalyardLinks := by
  unfold Obligations.HalyardLinks
  refine ⟨?looks, ?looksNot, ?trains, ?foreign, ?own, ?retries, ?hails, ?returns, ?idle, ?times, ?down, ?released, ?quarantined, ?rekeys, ?measures, ?echo,
    ?probes, ?young, ?repeats, ?wakes, ?received, ?woken⟩
  case looks =>
    intro port found s unit down runs own due
    have row := execReceiverDetection_looks unit found down runs own due
    exact ⟨fun yes => row.trans (congrArg _ (if_pos yes)), fun no => row.trans (congrArg _ (if_neg (by simp [no])))⟩
  case looksNot => exact fun port found s unit off => execReceiverDetection_idle unit found off
  case trains =>
    intro port s real
    rw [State.train_hport real]
    exact ⟨rfl, rfl⟩
  case foreign => exact fun port n s unit real training foreign => execForeignLinkNumber_leaves unit real training foreign
  case own =>
    intro port s unit training
    simp [exec, execForeignLinkNumber, whenUnit, unit, training]
  case retries =>
    refine fun port f s unit waits => ⟨fun passed runs => ?_, fun early => ?_⟩
    · rw [execForeignLinkRetry_by unit waits, if_pos (by simp [passed, runs])]
    · rw [execForeignLinkRetry_by unit waits, if_neg (by simp [early])]
  case hails => exact fun port rate w s unit real training first timely => execTrainingComplete_hails unit real training first timely
  case returns => exact fun port rate w st s unit real training again timely => execTrainingComplete_returns unit real training again timely
  case idle => exact fun port rate w s unit off => execTrainingComplete_idle unit off
  case times =>
    exact fun port s unit => ⟨execTrainingTimeout_passes unit, execHailTimeout_passes unit, execAuthenticationTimeout_passes unit,
      execRetrainTimeout_passes unit, execLinkSilence_passes unit, execLinkSilence_idle unit, execHailTimeout_idle unit, execAuthenticationTimeout_idle unit⟩
  case down => exact fun port s real up => s.goDown_cleared real up
  case released =>
    exact fun fp s => ⟨fun due => ⟨_, congrArg Host.Outcome.next (if_pos due), s.endQuarantine_inQuarantine fp⟩,
      fun early => congrArg Host.Outcome.next (if_neg (Bool.eq_false_iff.mp early))⟩
  case quarantined =>
    intro fp cause port s
    have mem := s.quarantine_mem port fp cause
    exact ⟨mem, List.any_eq_true.mpr ⟨_, mem, beq_self_eq_true _⟩⟩
  case rekeys =>
    exact fun port s unit => ⟨execRekeyInterval_starts unit, fun down => execRekeyInterval_idle unit (.inl down),
      fun higher => execRekeyInterval_idle unit (.inr higher)⟩
  case measures =>
    exact fun port s unit => ⟨fun due => (execFlightTimeMeasure_by unit).trans (congrArg _ (if_pos due)),
      fun early => (execFlightTimeMeasure_by unit).trans (congrArg _ (if_neg (Nat.not_le.mpr early)))⟩
  case echo => exact fun port s real up unsent => State.sendEcho_hport real up unsent
  case probes =>
    exact fun n p s u found dropped => ⟨fun first => (execProbeTimeout_due found dropped).trans (congrArg _ (if_neg (by simp [first]))),
      fun woke => (execProbeTimeout_due found dropped).trans (congrArg _ (if_pos woke))⟩
  case young => exact fun n s young => execProbeTimeout_idle young
  case repeats =>
    refine fun port b l s unit waking => ⟨fun due within => ?_, fun early => ?_, fun late => ?_⟩
    · rw [execWakePatternRepeat_by unit waking, if_neg (by simp [due, within])]
    · rw [execWakePatternRepeat_by unit waking, if_pos (by simp [early])]
    · rw [execWakePatternRepeat_by unit waking, if_pos (by simp [late])]
  case wakes =>
    refine fun port b l fp s unit waking unwoken neighbour => ⟨fun late => ?_, fun early => ?_⟩
    · rw [execWakeTimeout_sender unit waking unwoken neighbour, if_pos late]
    · rw [execWakeTimeout_sender unit waking unwoken neighbour, if_neg (Nat.not_le.mpr early)]
  case received =>
    refine fun port s unit => ⟨execWakePatternReceived_off unit, fun on enabled => ⟨execWakePatternReceived_crowsNest unit on enabled,
      fun ready down runs => ?_, fun ready up => ?_⟩⟩
    · rw [execWakePatternReceived_ready unit on enabled ready, if_pos ⟨down, runs⟩]
    · rw [execWakePatternReceived_ready unit on enabled ready, if_neg fun trains => up trains.1]
  case woken =>
    refine fun port f s unit quiet woken => ⟨fun late unpaired => ?_, fun paired => ?_⟩
    · rw [execWakeTimeout_woken unit quiet woken, if_pos (by simp [late, unpaired])]
    · rw [execWakeTimeout_woken unit quiet woken, if_neg (by simp [paired])]

end Sys2Proof.Machine
end

section
/-! SUPPORT. The Hail, the authentication and the rekeying of a Halyard link (R347 to R353, R356). -/

namespace Sys2Proof.Machine

/-! ## The record of a partner (R342) -/

theorem State.ensurePartner_makes {s : State} {fp : Digest} (room : s.hal.partners.length < 256) :
    ∃ v, s.ensurePartner fp = some v ∧ (v.partner? fp).isSome = true ∧ v.hal.ports = s.hal.ports ∧ v.keys = s.keys := by
  unfold State.ensurePartner
  dsimp only
  split
  next known => exact ⟨s, rfl, known, rfl, rfl⟩
  · refine ⟨_, rfl, ?_, rfl, rfl⟩
    simp [State.partner?, State.modHal]

/-! ## What the authentication sends (R349) -/

section
variable {s : State} {port : Nat} (real : port < s.hal.ports.length)

section
include real

theorem State.modAuth_hport (f : Auth → Auth) : (s.modAuth port none f).hport port = { s.hport port with auth := f (s.hport port).auth } :=
  s.modHport_same real _

/-- An authentication with the key share that this side has sent. -/
def Auth.sharing (a : Auth) (n : Nat) (last : Nat × Nat) : Auth :=
  { a with priv := Config.drbgScalar n, random := Config.drbg (n + 1), ownLast := last, shareSent := true }

theorem State.sendShare_session (ptype : Nat) (last : Nat × Nat) : ((s.sendShare port none ptype last).hport port).session =
    { s.hport port with auth := (s.hport port).auth.sharing s.keys.draws last }.session := by
  refine ((State.session_probeBlind port).sendAuth _ _ _ _ _).trans ?_
  exact congrArg HPort.session (State.modAuth_hport (s := s.modKeys _) real _)
end

theorem State.sendShare_draws (ptype : Nat) (last : Nat × Nat) : (s.sendShare port none ptype last).keys.draws = s.keys.draws + 2 :=
  congrArg Keys.draws (State.keys_sendBlind.sendAuth _ _ _ _ _)

theorem State.sendShare_partner? (ptype : Nat) (last : Nat × Nat) (fp : Digest) : (s.sendShare port none ptype last).partner? fp = s.partner? fp :=
  (State.partner?_sendBlind fp).sendAuth _ _ _ _ _

include real in
theorem State.startAuth_session : ((s.startAuth port none).hport port).session =
    { s.hport port with auth := (s.hport port).auth.sharing s.keys.draws (0, 0) }.session := by
  have sent := (State.session_probeBlind port).sendAuth s port none 0x02 [1, 1, 0, Config.certificates 0]
  have keys := State.keys_sendBlind.sendAuth s port none 0x02 [1, 1, 0, Config.certificates 0]
  have count : SendBlind fun s => s.hal.ports.length := ⟨fun _ _ => rfl, fun s _ f _ => s.modHport_ports_length f⟩
  have real' := (count.sendAuth s port none 0x02 [1, 1, 0, Config.certificates 0]).symm ▸ real
  unfold State.startAuth
  generalize s.sendAuth port none 0x02 [1, 1, 0, Config.certificates 0] = t at sent keys real' ⊢
  rw [State.sendShare_session real', keys]
  simp only [HPort.session, Prod.mk.injEq] at sent ⊢
  obtain ⟨state, auth, rxNext, neighbour, credits⟩ := sent
  exact ⟨state, by rw [auth], rxNext, neighbour, credits⟩

theorem State.startAuth_draws : (s.startAuth port none).keys.draws = s.keys.draws + 2 :=
  (State.sendShare_draws _ _).trans (congrArg (fun k : Keys => k.draws + 2) (State.keys_sendBlind.sendAuth _ _ _ _ _))

theorem State.startAuth_partner? (fp : Digest) : (s.startAuth port none).partner? fp = s.partner? fp :=
  (State.sendShare_partner? _ _ _).trans ((State.partner?_sendBlind fp).sendAuth _ _ _ _ _)

section
variable {pt : PubKey} {rnd : Digest}

include real in
theorem State.sendSignature_signs (share : (s.hport port).auth.share = some (pt, rnd)) (shared : (s.hport port).auth.shareSent = true)
    (unsigned : (s.hport port).auth.sigSent = false) : ((s.sendSignature port none 0x02).hport port).auth.sigSent = true ∧
    (((s.sendSignature port none 0x02).hport port).auth.nextOut, ((s.sendSignature port none 0x02).hport port).auth.nextIn) =
      s.nextKeys port (s.hport port).auth pt ∧ (s.sendSignature port none 0x02).keys.draws = s.keys.draws + 1 := by
  obtain ⟨args, t, row, session, keys⟩ : ∃ (args : List Nat) (t : State), s.sendSignature port none 0x02 = t.sendAuth port none 0x02 args ∧
      t.hport port = { s.hport port with auth := { (s.hport port).auth with
        sigSent := true, nextOut := (s.nextKeys port (s.hport port).auth pt).1, nextIn := (s.nextKeys port (s.hport port).auth pt).2 } } ∧
      t.keys.draws = s.keys.draws + 1 := by
    refine ⟨s.signatureArgs port (s.hport port).auth s.keys.draws,
      (s.modKeys fun k => { k with draws := s.keys.draws + 1, requests := k.requests + 1 }).modAuth port none fun a => { a with
        sigSent := true, nextOut := (s.nextKeys port (s.hport port).auth pt).1, nextIn := (s.nextKeys port (s.hport port).auth pt).2 }, ?_,
      State.modAuth_hport (s := s.modKeys _) real _, rfl⟩
    have own : s.authOf port none = (s.hport port).auth := rfl
    simp only [State.sendSignature, own, share, shared, unsigned, Bool.not_true, Bool.or_self, Bool.false_eq_true, if_false]
  have sent := (State.session_probeBlind port).sendAuth t port none 0x02 args
  have drawn := State.keys_sendBlind.sendAuth t port none 0x02 args
  have auth : ((t.sendAuth port none 0x02 args).hport port).auth = (t.hport port).auth := congrArg (·.2.1) sent
  rw [row, auth, session, drawn]
  exact ⟨rfl, rfl, keys⟩
end

/-- The done packet of a link is sequence 0 of the new numbering; what was sent before stays until it is acknowledged. -/
theorem State.sendDone_starts (real : port < s.hal.ports.length) (verified : (s.hport port).auth.sigOk = true)
    (signed : (s.hport port).auth.sigSent = true) (undone : (s.hport port).auth.doneSent = false) : (s.sendDone port none 0x02).hport port =
      { s.hport port with
        auth := { (s.hport port).auth with doneSent := true }, oldq := (s.hport port).oldq ++ (s.hport port).txq
        txq := [{ seq := 0, ptype := 0x02, args := [4] }], txSeq := 1, sentNow := (s.hport port).sentNow + 1 } := by
  have own : s.authOf port none = (s.hport port).auth := rfl
  have marked := State.modAuth_hport real fun a => { a with doneSent := true }
  have real' : port < (s.modAuth port none fun a => { a with doneSent := true }).hal.ports.length := by simpa [State.modAuth] using real
  simp only [State.sendDone, own, verified, signed, undone, Bool.not_true, Bool.or_self, Bool.false_eq_true, if_false]
  rw [State.put_hport (by simpa using real'), State.modHport_same _ real', marked]
  simp [HPort.push, verified, signed]

/-! ## The session (R349 step 7, R350, R353) -/

/-- The authentication at the start of a session: the keys agreed are in force, and the ephemeral ones are gone. -/
def Auth.established (a : Auth) (frame : Nat) : Auth := { a with
  session := true, sessionFrame := frame, keyOut := a.nextOut, keyIn := a.nextIn, nextOut := 0, nextIn := 0, priv := 0
  share := none, shareSent := false, sigSent := false, sigOk := false, doneSent := false, doneGot := false, rekey := false }

/-- The state of a partner's link under a session. -/
def State.standing (s : State) (fp : Digest) : LinkState :=
  if s.hasPairing fp || (s.hal.allowlist.contains fp && decide (s.hal.pairings.length < 64)) then .paired else .known

theorem State.admitPartner_standing (s : State) (fp : Digest) :
    (s.admitPartner fp).2 = s.standing fp ∧ (s.admitPartner fp).1.hal.ports = s.hal.ports := by
  unfold State.admitPartner State.standing
  cases s.hasPairing fp with
  | true => exact ⟨rfl, rfl⟩
  | false =>
    simp only [Bool.false_or, Bool.false_eq_true, if_false]
    split
    · exact ⟨rfl, rfl⟩
    · exact ⟨rfl, rfl⟩

section
variable (doneSent : (s.hport port).auth.doneSent = true) (doneGot : (s.hport port).auth.doneGot = true)
include real doneSent doneGot

/-- A rekey ends under the same state of the link, and with the old packets. -/
theorem State.sessionUp_rekeyed (rekey : (s.hport port).auth.rekey = true) : (s.sessionUp port none).hport port =
    { s.hport port with auth := (s.hport port).auth.established s.clk.frame, oldq := [] } := by
  have own : s.authOf port none = (s.hport port).auth := rfl
  have established := State.modAuth_hport real fun a => a.established s.clk.frame
  have real' : port < (s.modAuth port none fun a => a.established s.clk.frame).hal.ports.length := by simpa [State.modAuth] using real
  simp only [State.sessionUp, own, doneSent, doneGot, rekey, Bool.not_true, Bool.or_self, Bool.false_eq_true, if_false, if_true]
  exact (State.modHport_same _ real' _).trans (congrArg (fun p : HPort => { p with oldq := [] }) established)

/-- The link of a new session is Paired or Known. -/
theorem State.sessionUp_session (fresh : (s.hport port).auth.rekey = false) {fp : Digest} (neighbour : (s.hport port).neighbour = some fp) :
    ((s.sessionUp port none).hport port).session =
      { s.hport port with state := s.standing fp, auth := (s.hport port).auth.established s.clk.frame }.session := by
  have own : s.authOf port none = (s.hport port).auth := rfl
  have established := State.modAuth_hport real fun a => a.established s.clk.frame
  have real' : port < (s.modAuth port none fun a => a.established s.clk.frame).hal.ports.length := by simpa [State.modAuth] using real
  have stands : (s.modAuth port none fun a => a.established s.clk.frame).standing fp = s.standing fp := rfl
  have unfolded : s.sessionUp port none =
      let t := s.modAuth port none fun a => a.established s.clk.frame
      let u := ((((t.admitPartner fp).1.modPartner fp fun p => { p with asleep := false, departed := false, port := port }).modHport port fun p =>
        { p with oldq := [] }).setLink port (t.admitPartner fp).2).sendEcho port
      if (t.admitPartner fp).2 == .paired then u.paired port fp else u := by
    have neighbour' : ((s.modAuth port none fun a => a.established s.clk.frame).hport port).neighbour = some fp := by rw [established]; exact neighbour
    simp only [State.sessionUp, own, doneSent, doneGot, fresh, Bool.not_true, Bool.or_self, Bool.false_eq_true, if_false]
    simp only [Auth.established] at neighbour' ⊢
    rw [neighbour']
    rfl
  rw [unfolded]
  generalize (s.modAuth port none fun a => a.established s.clk.frame) = t at established real' stands ⊢
  obtain ⟨admitted, ports⟩ := t.admitPartner_standing fp
  have linked : ((((((t.admitPartner fp).1.modPartner fp fun p => { p with asleep := false, departed := false, port := port }).modHport port fun p =>
      { p with oldq := [] }).setLink port (t.admitPartner fp).2).sendEcho port).hport port).session =
      { s.hport port with state := s.standing fp, auth := (s.hport port).auth.established s.clk.frame }.session := by
    have modified : ((t.admitPartner fp).1.modPartner fp fun p => { p with asleep := false, departed := false, port := port }).hport port =
        { s.hport port with auth := (s.hport port).auth.established s.clk.frame } := (State.hport_of_ports port ports).trans established
    have modifiedReal : port < ((t.admitPartner fp).1.modPartner fp fun p => { p with asleep := false, departed := false, port := port }).hal.ports.length := by
      simpa [State.modPartner, ports] using real'
    refine ((State.session_probeBlind port).sendEcho _ _).trans ?_
    rw [State.setLink_hport _ (by simpa using modifiedReal), State.modHport_same _ modifiedReal, modified, admitted, stands]
    rfl
  dsimp only
  split
  · exact ((State.session_probeBlind port).paired _ _ _).trans linked
  · exact linked
end
end

end Sys2Proof.Machine
end

section
/-! SUPPORT. The rows of the Hail, the authentication and the rekeying (R347 to R353). -/

namespace Sys2Proof.Machine

/-! ## The Hail (R348, R350, R352) -/

theorem State.setLink_authenticating_partner? (v : State) (port : Nat) (fp : Digest) : (v.setLink port .authenticating).partner? fp = v.partner? fp := by
  unfold State.setLink
  refine (State.partner?_of_hal (State.raise_hal _ _ _ _ _ _) fp).trans ?_
  split <;> rfl

section
variable {s u v : State} {port seq : Nat} {hl : Hail}

section
variable (accepted : s.accepts port seq 0x01 1 = true) (taken : u = s.took port 0x01 1)
include accepted taken

theorem execHail_version (other : hl.version / 16 ≠ 1) :
    exec (.hail port seq none hl) s = .next ((u.goDown port).raise (halSrc port 3) 1 1 [hl.version, fp8 hl.fingerprint]) := by
  subst taken
  refine (received_accepted accepted _).trans (congrArg Host.Outcome.next ?_)
  have foreign : (hl.version / 16 != 1) = true := bne_iff_ne.mpr other
  simp only [Option.isSome_none, Option.isNone_none, Bool.false_and, Bool.false_eq_true, foreign, if_true, if_false]

variable (version : hl.version / 16 = 1)
include version

section
variable (own : hl.fingerprint = s.ownFp)
include own

theorem execHail_loop (same : hl.powerOn = s.clk.poc) :
    exec (.hail port seq none hl) s = .next ((u.goDown port).raise (halSrc port 2) 1 1 [hl.sendPort]) := by
  subst taken
  refine (received_accepted accepted _).trans (congrArg Host.Outcome.next ?_)
  have current : (hl.version / 16 != 1) = false := by simp [version]
  have self : (hl.fingerprint == (s.took port 0x01 1).ownFp) = true := beq_iff_eq.mpr own
  have again : (hl.powerOn == (s.took port 0x01 1).clk.poc) = true := beq_iff_eq.mpr same
  simp only [Option.isSome_none, Option.isNone_none, Bool.false_and, Bool.false_eq_true, current, self, again, if_true, if_false]

theorem execHail_impostor (differs : hl.powerOn ≠ s.clk.poc) (record : u.ensurePartner hl.fingerprint = some v) : exec (.hail port seq none hl) s =
    .next ((v.modHport port fun p => { p with neighbour := some hl.fingerprint }).quarantine hl.fingerprint 3 port) := by
  subst taken
  refine (received_accepted accepted _).trans (congrArg Host.Outcome.next ?_)
  have current : (hl.version / 16 != 1) = false := by simp [version]
  have self : (hl.fingerprint == (s.took port 0x01 1).ownFp) = true := beq_iff_eq.mpr own
  have foreign : (hl.powerOn == (s.took port 0x01 1).clk.poc) = false := beq_eq_false_iff_ne.mpr differs
  simp only [Option.isSome_none, Option.isNone_none, Bool.false_and, Bool.false_eq_true, current, self, foreign, record, if_true, if_false]
end

section
variable (other : hl.fingerprint ≠ s.ownFp)
include other

theorem execHail_quarantined (held : s.inQuarantine hl.fingerprint = true) : exec (.hail port seq none hl) s =
    .next ((((u.modHport port fun p => { p with neighbour := some hl.fingerprint }).setLink port .quarantined).refuse port 0 2 0).wakeRefused port) := by
  subst taken
  refine (received_accepted accepted _).trans (congrArg Host.Outcome.next ?_)
  have current : (hl.version / 16 != 1) = false := by simp [version]
  have elsewhere : (hl.fingerprint == (s.took port 0x01 1).ownFp) = false := beq_eq_false_iff_ne.mpr other
  have barred : (s.took port 0x01 1).inQuarantine hl.fingerprint = true := held
  simp only [Option.isSome_none, Option.isNone_none, Bool.false_and, Bool.false_eq_true, current, elsewhere, barred, if_true, if_false]

/-- A partner's record and its port once its Hail is taken. -/
def State.greeted (v : State) (port : Nat) (hl : Hail) : State :=
  (v.modPartner hl.fingerprint fun p => { p with poc := hl.powerOn, memusum := hl.memusum, port := port }).modHport port fun p => { p with
    neighbour := some hl.fingerprint, auth := { p.auth with hail := some hl }, ctlCredits := hl.ctlCredits, reqCredits := hl.reqCredits }

theorem execHail_authenticates (free : s.inQuarantine hl.fingerprint = false) (record : u.ensurePartner hl.fingerprint = some v) :
    exec (.hail port seq none hl) s = .next (((v.greeted port hl).setLink port .authenticating).startAuth port none) := by
  subst taken
  refine (received_accepted accepted _).trans (congrArg Host.Outcome.next ?_)
  have current : (hl.version / 16 != 1) = false := by simp [version]
  have elsewhere : (hl.fingerprint == (s.took port 0x01 1).ownFp) = false := beq_eq_false_iff_ne.mpr other
  have open_ : (s.took port 0x01 1).inQuarantine hl.fingerprint = false := free
  simp only [Option.isSome_none, Option.isNone_none, Bool.false_and, Bool.false_eq_true, current, elsewhere, open_, record, if_false]
  rfl

theorem execHail_answers (free : s.inQuarantine hl.fingerprint = false) (room : s.hal.partners.length < 256) (real : port < s.hal.ports.length) :
    Answers (exec (.hail port seq none hl) s) fun t => (t.hport port).state = .authenticating ∧ (t.hport port).neighbour = some hl.fingerprint ∧
      (t.hport port).auth.hail = some hl ∧ (t.hport port).auth.shareSent = true ∧ (t.hport port).reqCredits = hl.reqCredits ∧
      (t.partner? hl.fingerprint).isSome = true ∧ t.keys.draws = s.keys.draws + 2 := by
  obtain ⟨v, record, known, ports, keys⟩ := State.ensurePartner_makes (s := u) (fp := hl.fingerprint) (by subst taken; exact room)
  refine ⟨_, execHail_authenticates accepted taken version other free record, ?_⟩
  have real' : port < (v.modPartner hl.fingerprint fun p => { p with poc := hl.powerOn, memusum := hl.memusum, port := port }).hal.ports.length := by
    subst taken
    simpa [State.modPartner, ports] using real
  have greeted : ((v.greeted port hl).hport port) = _ := State.modHport_same _ real' _
  have greetedReal : port < (v.greeted port hl).hal.ports.length := by simpa [State.greeted] using real'
  have linkedReal : port < ((v.greeted port hl).setLink port .authenticating).hal.ports.length := by rwa [State.setLink_count]
  have session := State.startAuth_session linkedReal
  rw [State.setLink_hport _ greetedReal, greeted] at session
  simp only [HPort.session, Prod.mk.injEq] at session
  obtain ⟨state, auth, -, neighbour, credits⟩ := session
  refine ⟨state, neighbour, (congrArg Auth.hail auth).trans rfl, (congrArg Auth.shareSent auth).trans rfl, credits, ?_, ?_⟩
  · have marked : (v.greeted port hl).partner? hl.fingerprint = (v.partner? hl.fingerprint).map _ := State.modPartner_partner? v _ fun _ => rfl
    rw [State.startAuth_partner?, State.setLink_authenticating_partner?, marked, Option.isSome_map]
    exact known
  · rw [State.startAuth_draws, State.setLink_touches]
    subst taken
    exact congrArg (·.draws + 2) keys
end
end

theorem execHail_elsewhere {l : Nat} (accepted : s.accepts port seq 0x10 1 = true) (taken : u = s.took port 0x10 1)
    (other : u.peerOf port l ≠ some hl.fingerprint) : exec (.hail port seq (some l) hl) s = .next u := by
  subst taken
  refine (received_accepted accepted _).trans (congrArg Host.Outcome.next ?_)
  have elsewhere : ((s.took port 0x10 1).peerOf port l != some hl.fingerprint) = true := bne_iff_ne.mpr other
  simp only [Option.isSome_some, Option.bind_some, elsewhere, Bool.and_self, if_true]
end

/-! ## The chain, the key share and the signature (R349, R352) -/

section
variable {s u : State} {port seq : Nat} (accepted : s.accepts port seq 0x02 1 = true) (taken : u = s.took port 0x02 1)
include accepted taken

theorem execAuthCertificateChain_by {fr : Nat} {last ok : Bool} {key : PubKey} : exec (.authCertificateChain port seq none fr last key ok) s = .next (
    if ! last then u
    else if ! ok then u.quarantineAt port none 1
    else if keyPrint key != (((u.hport port).auth.hail.map (·.fingerprint)).getD 0) then u.quarantineAt port none 2
    else u.modHport port fun p => { p with auth := { p.auth with key := some key } }) := by
  subst taken
  exact received_accepted accepted _

theorem execAuthKeyShare_by {pt : PubKey} {rnd : Digest} : exec (.authKeyShare port seq none pt rnd) s = .next (
    if ! onCurve pt then u.quarantineAt port none 1
    else (u.modHport port fun p => { p with auth := { p.auth with share := some (pt, rnd), shareLast := (0, 0) } }).sendSignature port none 0x02) := by
  subst taken
  exact received_accepted accepted _

theorem execAuthSignature_by {r g : Nat} : exec (.authSignature port seq none r g) s = .next (
    match (u.hport port).auth.key with
    | none => u.quarantineAt port none 1
    | some key =>
      if (u.hport port).auth.share.isSome && (u.hport port).auth.shareSent && ecdsaVerify key (authMessage (u.transcript port (u.hport port).auth)) r g then
        (u.modHport port fun p => { p with auth := { p.auth with sigOk := true } }).sendDone port none 0x02
      else u.quarantineAt port none 1) := by
  subst taken
  exact received_accepted accepted _
end

/-! ## The done packets and the rekeying (R349, R353) -/

section
variable {s : State} {port seq : Nat}

section
variable (unit : port < 3)
include unit

theorem execAuthDone_link : exec (.authDone port seq none) s = .next (if (s.hport port).state == .authenticating then s.gotDone port seq else s) := by
  simp [exec, execAuthDone, whenUnit, unit]

theorem execRekeyDone_link : exec (.rekeyDone port seq) s = .next (if (s.hport port).up && (s.hport port).auth.rekey then s.gotDone port seq else s) := by
  simp [exec, execRekeyDone, whenUnit, unit]
end

/-- The other side's done packet is accepted as the first of the new numbering. -/
def State.doneGot (s : State) (port : Nat) : State :=
  (s.modHport port fun p => { p with rxNext := 1, heard := true, freedCtl := p.freedCtl + 1 }).modAuth port none fun a => { a with doneGot := true }

section
variable (notDown : (s.hport port).state ≠ .down) (notTraining : (s.hport port).state ≠ .training)
include notDown notTraining

theorem State.gotDone_refused (off : seq ≠ 0 ∨ (s.hport port).auth.doneSent = false) : s.gotDone port seq = s.sendNak port 2 := by
  rcases off with off | off <;> simp [State.gotDone, notDown, notTraining, off]

theorem State.gotDone_accepted (sent : (s.hport port).auth.doneSent = true) : s.gotDone port 0 = (s.doneGot port).sessionUp port none := by
  simp [State.gotDone, notDown, notTraining, sent, State.doneGot]
end

theorem State.doneGot_count : (s.doneGot port).hal.ports.length = s.hal.ports.length := by simp [State.doneGot, State.modAuth]

theorem State.doneGot_hport (real : port < s.hal.ports.length) : (s.doneGot port).hport port =
    { s.hport port with rxNext := 1, heard := true, freedCtl := (s.hport port).freedCtl + 1, auth := { (s.hport port).auth with doneGot := true } } := by
  rw [State.doneGot, State.modAuth_hport (by simpa using real), s.modHport_same real]

theorem execAuthDone_establishes {fp : Digest} (unit : port < 3) (real : port < s.hal.ports.length) (authenticating : (s.hport port).state = .authenticating)
    (sent : (s.hport port).auth.doneSent = true) (fresh : (s.hport port).auth.rekey = false) (neighbour : (s.hport port).neighbour = some fp) :
    Answers (exec (.authDone port 0 none) s) fun t => (t.hport port).state = s.standing fp ∧ (t.hport port).auth.session = true ∧
      (t.hport port).auth.keyOut = (s.hport port).auth.nextOut ∧ (t.hport port).auth.keyIn = (s.hport port).auth.nextIn ∧
      (t.hport port).auth.priv = 0 ∧ (t.hport port).rxNext = 1 := by
  refine ⟨_, (execAuthDone_link unit).trans (congrArg Host.Outcome.next ((if_pos (by simp [authenticating])).trans
    (State.gotDone_accepted (by simp [authenticating]) (by simp [authenticating]) sent))), ?_⟩
  have got := State.doneGot_hport real
  have up := State.sessionUp_session (s := s.doneGot port) (by rwa [State.doneGot_count]) (by rw [got]; exact sent) (by rw [got]) (by rw [got]; exact fresh)
    (fp := fp) (by rw [got]; exact neighbour)
  rw [got] at up
  simp only [HPort.session, Prod.mk.injEq] at up
  obtain ⟨state, auth, rxNext, -, -⟩ := up
  dsimp only
  rw [auth]
  exact ⟨state, rfl, rfl, rfl, rfl, rxNext⟩

theorem execRekeyDone_rekeys (unit : port < 3) (real : port < s.hal.ports.length) (up : (s.hport port).up = true) (rekey : (s.hport port).auth.rekey = true)
    (sent : (s.hport port).auth.doneSent = true) : Answers (exec (.rekeyDone port 0) s) fun t => (t.hport port).state = (s.hport port).state ∧
      (t.hport port).auth.keyOut = (s.hport port).auth.nextOut ∧ (t.hport port).auth.rekey = false ∧ (t.hport port).oldq = [] ∧ (t.hport port).rxNext = 1 := by
  have standing : (s.hport port).state = .known ∨ (s.hport port).state = .paired := by simpa [HPort.up] using up
  have notDown : (s.hport port).state ≠ .down := by rcases standing with e | e <;> simp [e]
  have notTraining : (s.hport port).state ≠ .training := by rcases standing with e | e <;> simp [e]
  refine ⟨_, (execRekeyDone_link unit).trans (congrArg Host.Outcome.next ((if_pos (by simp [up, rekey])).trans
    (State.gotDone_accepted notDown notTraining sent))), ?_⟩
  have got := State.doneGot_hport real
  dsimp only
  rw [State.sessionUp_rekeyed (s := s.doneGot port) (by rwa [State.doneGot_count]) (by rw [got]; exact sent) (by rw [got]) (by rw [got]; exact rekey), got]
  exact ⟨rfl, rfl, rfl, rfl, rfl⟩

section
variable {u : State} (accepted : s.accepts port seq 0x0B 1 = true) (taken : u = s.took port 0x0B 1)
include accepted taken

theorem execRekeyKeyShare_by {pt : PubKey} {rnd : Digest} {a b : Nat} : exec (.rekeyKeyShare port seq pt rnd a b) s = .next (
    (if (u.hport port).auth.rekey then u
      else (u.modAuth port none fun a => { a with rekey := true }).sendShare port none 0x0B ((u.hport port).txSeq - 1, (u.hport port).lastAccepted)).gotShare
        port none 0x0B 5 pt rnd (a, b)) := by
  subst taken
  exact received_accepted accepted _

theorem execRekeySignature_by {r g : Nat} : exec (.rekeySignature port seq r g) s =
    .next (if (u.hport port).auth.rekey then u.gotSignature port none 0x0B 5 r g else u) := by
  subst taken
  exact received_accepted accepted _
end

theorem execAuthDone_path {u : State} {l : Nat} (accepted : s.accepts port seq 0x10 1 = true) (taken : u = s.took port 0x10 1) :
    exec (.authDone port seq (some l)) s = .next (if (u.authOf port (some l)).doneSent then
      (u.modAuth port (some l) fun a => { a with doneGot := true }).sessionUp port (some l) else u) := by
  subst taken
  exact received_accepted accepted _
end

/-- Settles O56: each row by its checks on the state that has taken the packet; the session of a port is left by what becoming Paired or Known sends
(assumptions 39 and 40). -/
theorem halyardAuthentication : Obligations.HalyardAuthentication := by
  unfold Obligations.HalyardAuthentication
  refine ⟨?hail, ?path, ?record, ?chain, ?share, ?signs, ?signature, ?done, ?doneOff, ?establishes, ?donePath, ?rekeyShare, ?rekeySignature, ?rekeys,
    ?rekeyOff⟩
  case hail =>
    exact fun port seq hl s u accepted taken => ⟨execHail_version accepted taken, execHail_loop accepted taken, fun v => execHail_impostor accepted taken,
      execHail_quarantined accepted taken, fun version other free room real => execHail_answers accepted taken version other free room real⟩
  case path => exact fun port seq l hl s u accepted taken other => execHail_elsewhere accepted taken other
  case record =>
    intro s fp room
    obtain ⟨v, record, known, -⟩ := State.ensurePartner_makes (fp := fp) room
    exact ⟨v, record, known⟩
  case chain =>
    refine fun port seq fr key ok s u accepted taken => ⟨execAuthCertificateChain_by accepted taken, execAuthCertificateChain_by accepted taken,
      fun hl hailed => ⟨fun other => ?_, fun own => ?_⟩⟩
    · rw [execAuthCertificateChain_by accepted taken, hailed]
      exact congrArg Host.Outcome.next (if_pos (bne_iff_ne.mpr other))
    · rw [execAuthCertificateChain_by accepted taken, hailed]
      simp [own]
  case share =>
    refine fun port seq pt rnd s u accepted taken => ⟨fun off => ?_, fun on => ?_⟩
    · rw [execAuthKeyShare_by accepted taken, off]
      rfl
    · rw [execAuthKeyShare_by accepted taken, on]
      rfl
  case signs => exact fun port pt rnd s real share shared unsigned => State.sendSignature_signs real share shared unsigned
  case signature =>
    refine fun port seq r g key s u accepted taken => ⟨fun keyless => ?_, fun known bad => ?_, fun known share shared good => ?_⟩
    · rw [execAuthSignature_by accepted taken, keyless]
    · rw [execAuthSignature_by accepted taken, known]
      simp only [bad, Bool.and_false, Bool.false_eq_true, if_false]
    · rw [execAuthSignature_by accepted taken, known]
      simp only [share, shared, good, Bool.and_self, if_true]
  case done =>
    intro port s real verified signed undone
    rw [State.sendDone_starts real verified signed undone]
    exact ⟨rfl, rfl, rfl, rfl⟩
  case doneOff =>
    refine fun port seq s unit => ⟨fun other => ?_, fun authenticating off => ?_⟩
    · rw [execAuthDone_link unit, if_neg (by simpa using other)]
    · rw [execAuthDone_link unit, if_pos (by simp [authenticating]), State.gotDone_refused (by simp [authenticating]) (by simp [authenticating]) off]
  case establishes =>
    exact fun port fp s unit real authenticating sent fresh neighbour => execAuthDone_establishes unit real authenticating sent fresh neighbour
  case donePath =>
    refine fun port seq l s u accepted taken => ⟨fun unsent => ?_, fun sent => ?_⟩
    · rw [execAuthDone_path accepted taken, if_neg (by simp [unsent])]
    · rw [execAuthDone_path accepted taken, if_pos sent]
  case rekeyShare =>
    refine fun port seq a b pt rnd s u accepted taken => ⟨fun running => ?_, fun starts => ?_⟩
    · rw [execRekeyKeyShare_by accepted taken, if_pos running]
    · rw [execRekeyKeyShare_by accepted taken, if_neg (by simp [starts])]
  case rekeySignature =>
    refine fun port seq r g s u accepted taken => ⟨fun none_ => ?_, fun running => ?_⟩
    · rw [execRekeySignature_by accepted taken, if_neg (by simp [none_])]
    · rw [execRekeySignature_by accepted taken, if_pos running]
  case rekeys => exact fun port s unit real up rekey sent => execRekeyDone_rekeys unit real up rekey sent
  case rekeyOff =>
    intro port seq s unit off
    rw [execRekeyDone_link unit, if_neg (by rcases off with off | off <;> simp [off])]

end Sys2Proof.Machine
end

section
/-! SUPPORT. The rows of requests and responses (R334, R335, R340, R341, R346, R350, R369, R372, R380, R383). -/

namespace Sys2Proof.Machine

/-! ## The arrival of a request (R340, R346, R350) -/

/-- A row that brings a request hands it to `requestAt` with what serves it. -/
theorem exec_request {i : Instr} {seq packets : Nat} {r : HReq} (brings : requestOf i = some (seq, r, packets)) (s : State) :
    ∃ serve, exec i s = received r.port seq 0x20 s (fun s => s.requestAt r.port r.label r serve) packets := by
  unfold requestOf at brings
  split at brings
  · cases brings
    exact ⟨_, rfl⟩
  · cases brings
    exact ⟨_, rfl⟩
  · cases brings
    exact ⟨_, rfl⟩
  · cases brings

section
variable {u : State} {port label : Nat} {r : HReq} {serve : State → Digest → State}

theorem State.requestAt_unpaired (off : (u.hport port).state ≠ .paired) : u.requestAt port label r serve = u.refuse port label 1 r.tag := by
  simp [State.requestAt, off]

variable (paired : (u.hport port).state = .paired)
include paired

theorem State.requestAt_end (ends : u.relayOf port label = none) {fp : Digest} (far : u.peerOf port label = some fp) :
    u.requestAt port label r serve = if u.isPaired fp then serve u fp else u.refuse port label 1 r.tag := by
  simp [State.requestAt, paired, ends, far]

theorem State.requestAt_relay {q m : Nat} (relays : u.relayOf port label = some (q, m)) : u.requestAt port label r serve =
    if u.ctlValue ctlRelaying ≠ 1 ∨ (u.hport q).state ≠ .paired then u.refuse port label 1 r.tag
    else State.admitPort (u.hal.reqs.length + 1) q
      (u.modHal fun h => { h with reqs := h.reqs ++ [{ r with port := q, label := m, mine := false, relay := some (port, label) }] }) := by
  simp [State.requestAt, paired, relays]
end

theorem State.requestAt_serves {u : State} {port label : Nat} {r : HReq} {serve : State → Digest → State} {fp : Digest} (serves : u.serves port label fp) :
    u.requestAt port label r serve = serve u fp := by
  obtain ⟨paired, ends, far, trusted⟩ := serves
  rw [State.requestAt_end paired ends far, if_pos trusted]

/-- What becomes of a request that a port takes, by the state of the link and the path. -/
theorem exec_request_arrives {i : Instr} {seq packets : Nat} {r : HReq} {s u : State} (brings : requestOf i = some (seq, r, packets))
    (accepted : s.accepts r.port seq 0x20 packets = true) (taken : u = s.took r.port 0x20 packets) :
    ∃ serve, exec i s = .next (u.requestAt r.port r.label r serve) := by
  obtain ⟨serve, row⟩ := exec_request brings s
  subst taken
  exact ⟨serve, row.trans (received_accepted accepted _)⟩

/-! ## The source's answers (R369, R375, R383) -/

/-- What is read has a block for each one asked for. -/
theorem State.sealedBlocks_length {s : State} {n : Namespace} {zi lo count : Nat} {l : List (Block × Wide)} (read : s.sealedBlocks n zi lo count = some l) :
    l.length = count := by
  unfold State.sealedBlocks at read
  dsimp only at read
  rw [← List.length_range (n := count)]
  generalize List.range count = asked at read ⊢
  induction asked generalizing l with
  | nil =>
    cases read
    rfl
  | cons i asked ih =>
    rw [List.foldr_cons] at read
    obtain ⟨rest, earlier, read⟩ := Option.bind_eq_some_iff.mp read
    split at read
    · split at read
      · cases read
      · cases read
        rw [List.length_cons, List.length_cons, ih earlier]
    · cases read

/-- A chunk has been read for a job or a catch-up: its bytes, and the next block to send. -/
def State.chunkServed (u : State) (job zone offset count : Nat) : State :=
  (u.modJob job fun j => { j with bytes := j.bytes + 4160 * count }).modMirror job fun m => { m with
    zones := updIf (·.zone == zone) (fun z => { z with next := max z.next (offset + count) }) m.zones }

theorem State.chunkServed_rest (u : State) (job zone offset count : Nat) : (u.chunkServed job zone offset count).out = u.out ∧
    (u.chunkServed job zone offset count).nss = u.nss ∧ (u.chunkServed job zone offset count).media = u.media ∧
    (u.chunkServed job zone offset count).keys = u.keys ∧ (u.chunkServed job zone offset count).hal = u.hal :=
  ⟨rfl, rfl, rfl, rfl, rfl⟩

/-- A response leaves everything but the port's sequence and what is sent. -/
theorem State.respondPath_rest {s : State} (port label tag packets : Nat) (bs : List Block) (ms : List Wide) (ns : List Digest) (st ptr : Nat) :
    (s.respondPath port label tag packets bs ms ns st ptr).out = s.out ++ [.response port label tag bs ms ns st ptr] ∧
    (s.respondPath port label tag packets bs ms ns st ptr).nss = s.nss ∧ (s.respondPath port label tag packets bs ms ns st ptr).media = s.media ∧
    (s.respondPath port label tag packets bs ms ns st ptr).keys = s.keys ∧ (s.respondPath port label tag packets bs ms ns st ptr).peer = s.peer :=
  ⟨rfl, rfl, rfl, rfl, rfl⟩

theorem State.respondPath_txSeq {s : State} {port : Nat} (real : port < s.hal.ports.length) (label tag packets : Nat) (bs : List Block) (ms : List Wide)
    (ns : List Digest) (st ptr : Nat) :
    ((s.respondPath port label tag packets bs ms ns st ptr).hport port).txSeq = (s.hport port).txSeq + packets :=
  congrArg HPort.txSeq (s.modHport_same real _)

/-- What the answer of a chunk read leaves of the state before its packet came. -/
theorem State.chunkAnswer_leaves {s u : State} {port ptype job zone offset count label tag packets : Nat} {bs : List Block} {ms : List Wide}
    (real : port < s.hal.ports.length) (taken : u = s.took port ptype 1) :
    let t := (u.chunkServed job zone offset count).respondPath port label tag packets bs ms [] 0 0
    t.out = s.out ++ [.response port label tag bs ms [] 0 0] ∧ (t.hport port).txSeq = (s.hport port).txSeq + packets ∧
      t.nss = s.nss ∧ t.media = s.media ∧ t.keys = s.keys := by
  obtain ⟨out, nss, media, keys, -⟩ : u.out = s.out ∧ u.nss = s.nss ∧ u.media = s.media ∧ u.keys = s.keys ∧ u.peer = s.peer := by
    rw [taken]
    exact State.took_rest _ _ _ _
  obtain ⟨out', nss', media', keys', hal'⟩ := u.chunkServed_rest job zone offset count
  have real' : port < (u.chunkServed job zone offset count).hal.ports.length := by rwa [hal', taken, State.took_count]
  have txSeq : (u.hport port).txSeq = (s.hport port).txSeq := by
    rw [taken]
    exact State.took_part (part := HPort.txSeq) port fun _ => rfl
  have seq := State.respondPath_txSeq real' label tag packets bs ms [] 0 0
  obtain ⟨out'', nss'', media'', keys'', -⟩ := State.respondPath_rest (s := u.chunkServed job zone offset count) port label tag packets bs ms [] 0 0
  refine ⟨?_, ?_, nss''.trans (nss'.trans nss), media''.trans (media'.trans media), keys''.trans (keys'.trans keys)⟩
  · rw [out'', out', out]
  · rw [seq, State.hport, hal', ← State.hport, txSeq]

section
variable {s u : State} {port seq label tag job zone declared : Nat} {fp : Digest}

section
variable {offset count : Nat} (accepted : s.accepts port seq 0x20 1 = true) (taken : u = s.took port 0x20 1) (serves : u.serves port label fp)
include accepted taken serves

theorem execChunkRead_serves : exec (.chunkRead port seq label tag job zone offset count declared) s = .next (
    if count % 16 != 0 || count == 0 || decide (256 < offset % 256 + count) then u.failReq port label 0x0104 tag job
    else if declared < chunkPackets count then u.failReq port label 0x0107 tag job
    else match u.served fp job zone with
      | none => u.failReq port label 0x0105 tag job
      | some n =>
        match u.sealedBlocks n zone offset count with
        | none => u.failReq port label 0x0501 tag job
        | some l => (u.chunkServed job zone offset count).respondPath port label tag (chunkPackets count) (l.map (·.1)) (l.map (·.2)) [] 0 0) := by
  subst taken
  exact (received_accepted accepted _).trans (congrArg Host.Outcome.next (State.requestAt_serves serves))

theorem execChunkRead_shape (bad : count % 16 ≠ 0 ∨ count = 0 ∨ 256 < offset % 256 + count) :
    exec (.chunkRead port seq label tag job zone offset count declared) s = .next (u.failReq port label 0x0104 tag job) := by
  rw [execChunkRead_serves accepted taken serves, if_pos (by simpa [or_assoc] using bad)]

section
variable (whole : count % 16 = 0) (some_ : count ≠ 0) (inChunk : offset % 256 + count ≤ 256)
include whole some_ inChunk

theorem execChunkRead_shaped : exec (.chunkRead port seq label tag job zone offset count declared) s = .next (
    if declared < chunkPackets count then u.failReq port label 0x0107 tag job
    else match u.served fp job zone with
      | none => u.failReq port label 0x0105 tag job
      | some n =>
        match u.sealedBlocks n zone offset count with
        | none => u.failReq port label 0x0501 tag job
        | some l => (u.chunkServed job zone offset count).respondPath port label tag (chunkPackets count) (l.map (·.1)) (l.map (·.2)) [] 0 0) := by
  rw [execChunkRead_serves accepted taken serves, if_neg (by simp [whole, some_, Nat.not_lt.mpr inChunk])]

theorem execChunkRead_few (few : declared < chunkPackets count) :
    exec (.chunkRead port seq label tag job zone offset count declared) s = .next (u.failReq port label 0x0107 tag job) := by
  rw [execChunkRead_shaped accepted taken serves whole some_ inChunk, if_pos few]

variable (enough : chunkPackets count ≤ declared)
include enough

theorem execChunkRead_foreign (foreign : u.served fp job zone = none) :
    exec (.chunkRead port seq label tag job zone offset count declared) s = .next (u.failReq port label 0x0105 tag job) := by
  rw [execChunkRead_shaped accepted taken serves whole some_ inChunk, if_neg (Nat.not_lt.mpr enough), foreign]

variable {n : Namespace} (served : u.served fp job zone = some n)
include served

theorem execChunkRead_unread (unread : u.sealedBlocks n zone offset count = none) :
    exec (.chunkRead port seq label tag job zone offset count declared) s = .next (u.failReq port label 0x0501 tag job) := by
  rw [execChunkRead_shaped accepted taken serves whole some_ inChunk, if_neg (Nat.not_lt.mpr enough), served]
  dsimp only
  rw [unread]

theorem execChunkRead_read {l : List (Block × Wide)} (read : u.sealedBlocks n zone offset count = some l) :
    exec (.chunkRead port seq label tag job zone offset count declared) s = .next (
      (u.chunkServed job zone offset count).respondPath port label tag (chunkPackets count) (l.map (·.1)) (l.map (·.2)) [] 0 0) := by
  rw [execChunkRead_shaped accepted taken serves whole some_ inChunk, if_neg (Nat.not_lt.mpr enough), served]
  dsimp only
  rw [read]

theorem execChunkRead_answers {l : List (Block × Wide)} (read : u.sealedBlocks n zone offset count = some l) :
    Answers (exec (.chunkRead port seq label tag job zone offset count declared) s) fun t =>
      t.out = s.out ++ [.response port label tag (l.map (·.1)) (l.map (·.2)) [] 0 0] ∧
      (t.hport port).txSeq = (s.hport port).txSeq + chunkPackets count ∧ t.nss = s.nss ∧ t.media = s.media ∧ t.keys = s.keys := by
  have row := execChunkRead_read accepted taken serves whole some_ inChunk enough served read (tag := tag)
  exact ⟨_, row, State.chunkAnswer_leaves (s.real_of_state (State.accepts_taking accepted).notDown) taken⟩
end

theorem execTreeRead_serves : exec (.treeRead port seq label tag job zone declared) s = .next (
    match u.served fp job zone with
    | none => u.failReq port label 0x0105 tag job
    | some n =>
      if declared < treePackets (u.treeLeaves n.nsid zone (n.zone zone).written).length then u.failReq port label 0x0107 tag job
      else u.respondPath port label tag (treePackets (u.treeLeaves n.nsid zone (n.zone zone).written).length) [] []
        (treeNodes (u.treeLeaves n.nsid zone (n.zone zone).written)) 0 0) := by
  subst taken
  exact (received_accepted accepted _).trans (congrArg Host.Outcome.next (State.requestAt_serves serves))

theorem execTreeRead_foreign (foreign : u.served fp job zone = none) :
    exec (.treeRead port seq label tag job zone declared) s = .next (u.failReq port label 0x0105 tag job) := by
  rw [execTreeRead_serves accepted taken serves, foreign]

variable {n : Namespace} (served : u.served fp job zone = some n)
include served

theorem execTreeRead_few (few : declared < treePackets (u.treeLeaves n.nsid zone (n.zone zone).written).length) :
    exec (.treeRead port seq label tag job zone declared) s = .next (u.failReq port label 0x0107 tag job) := by
  rw [execTreeRead_serves accepted taken serves, served]
  exact congrArg Host.Outcome.next (if_pos few)

theorem execTreeRead_answers (enough : treePackets (u.treeLeaves n.nsid zone (n.zone zone).written).length ≤ declared) :
    Answers (exec (.treeRead port seq label tag job zone declared) s) fun t =>
      t.out = s.out ++ [.response port label tag [] [] (treeNodes (u.treeLeaves n.nsid zone (n.zone zone).written)) 0 0] ∧
      t.nss = s.nss ∧ t.media = s.media ∧ t.peer = s.peer := by
  obtain ⟨out, nss, media, -, peer⟩ : u.out = s.out ∧ u.nss = s.nss ∧ u.media = s.media ∧ u.keys = s.keys ∧ u.peer = s.peer := by
    rw [taken]
    exact State.took_rest _ _ _ _
  have row := execTreeRead_serves (tag := tag) (job := job) (zone := zone) (declared := declared) accepted taken serves
  rw [served] at row
  refine ⟨_, row.trans (congrArg Host.Outcome.next (if_neg (Nat.not_lt.mpr enough))), ?_, nss, media, peer⟩
  rw [← out]
  rfl
end

/-! ## The mirror's partner (R380) -/

/-- The relationship and the source whose writes the partner takes. -/
def Mirror.takesFrom (m : Mirror) (fp : Digest) : Bool := ! m.source && m.other == fp && m.accepted && ! m.ended

theorem Mirror.takesFrom_of {m : Mirror} {fp : Digest} (partner : m.source = false) (far : m.other = fp) (answered : m.accepted = true)
    (stands : m.ended = false) : m.takesFrom fp = true := by
  simp [Mirror.takesFrom, partner, far, answered, stands]

section
variable {rel offset : Nat} {bs : List Block} {ms : List Wide}
  (accepted : s.accepts port seq 0x20 (ceilDiv (32 + 4160 * bs.length) 512) = true) (taken : u = s.took port 0x20 (ceilDiv (32 + 4160 * bs.length) 512))
  (serves : u.serves port label fp)
include accepted taken serves

theorem execMirrorWrite_serves : exec (.mirrorWrite port seq label tag rel zone offset bs ms) s = .next (
    if (u.mirror? rel).any (·.takesFrom fp) then u.mirrorIn rel port label tag zone { offset := offset, blocks := bs, metas := ms }
    else u.failReq port label 0x0105 tag rel) := by
  subst taken
  exact (received_accepted accepted _).trans (congrArg Host.Outcome.next (State.requestAt_serves serves))

theorem execMirrorWrite_foreign (foreign : ∀ m, s.mirror? rel = some m → m.source = true ∨ m.other ≠ fp ∨ m.accepted = false ∨ m.ended = true) :
    exec (.mirrorWrite port seq label tag rel zone offset bs ms) s = .next (u.failReq port label 0x0105 tag rel) := by
  have none_ : (u.mirror? rel).any (·.takesFrom fp) = false := by
    subst taken
    cases found : s.mirror? rel with
    | none => exact congrArg (fun o : Option Mirror => o.any (·.takesFrom fp)) (show State.mirror? _ rel = none from found)
    | some m =>
      refine (congrArg (fun o : Option Mirror => o.any (·.takesFrom fp)) (show State.mirror? _ rel = some m from found)).trans ?_
      rcases foreign m found with e | e | e | e <;> simp [Mirror.takesFrom, e]
  rw [execMirrorWrite_serves accepted taken serves, none_]
  rfl

variable {m : Mirror} (found : s.mirror? rel = some m) (takes : m.takesFrom fp = true)
include found takes

theorem execMirrorWrite_takes : exec (.mirrorWrite port seq label tag rel zone offset bs ms) s = .next (
    if s.media.readPreserve then u.failReq port label 0x0202 tag rel
    else match u.takeMirror m zone { offset := offset, blocks := bs, metas := ms } with
      | none => u.modMirror rel fun m => { m with held := m.held ++ [(port, label, tag, zone, { offset := offset, blocks := bs, metas := ms })] }
      | some none => u.failReq port label 0x0504 tag rel
      | some (some t) => t.respondPath port label tag 1 [] [] [] 0 (t.mirrorPointer rel zone)) := by
  subst taken
  have found' : (s.took port 0x20 (ceilDiv (32 + 4160 * bs.length) 512)).mirror? rel = some m := found
  have any_ : ((s.took port 0x20 (ceilDiv (32 + 4160 * bs.length) 512)).mirror? rel).any (·.takesFrom fp) = true := by simpa [found'] using takes
  rw [execMirrorWrite_serves accepted (by rfl) serves, if_pos any_]
  simp only [State.mirrorIn, found']
  rfl

theorem execMirrorWrite_full (full : s.media.readPreserve = true) :
    exec (.mirrorWrite port seq label tag rel zone offset bs ms) s = .next (u.failReq port label 0x0202 tag rel) := by
  rw [execMirrorWrite_takes accepted taken serves found takes, if_pos full]

variable (room : s.media.readPreserve = false)
include room

theorem execMirrorWrite_refused (unfit : u.takeMirror m zone { offset := offset, blocks := bs, metas := ms } = some none) :
    exec (.mirrorWrite port seq label tag rel zone offset bs ms) s = .next (u.failReq port label 0x0504 tag rel) := by
  rw [execMirrorWrite_takes accepted taken serves found takes, if_neg (Bool.eq_false_iff.mp room), unfit]

theorem execMirrorWrite_placed {t : State} (took : u.takeMirror m zone { offset := offset, blocks := bs, metas := ms } = some (some t)) :
    exec (.mirrorWrite port seq label tag rel zone offset bs ms) s =
      .next (t.respondPath port label tag 1 [] [] [] 0 (t.mirrorPointer rel zone)) := by
  rw [execMirrorWrite_takes accepted taken serves found takes, if_neg (Bool.eq_false_iff.mp room), took]

theorem execMirrorWrite_waits (waits : u.takeMirror m zone { offset := offset, blocks := bs, metas := ms } = none) :
    exec (.mirrorWrite port seq label tag rel zone offset bs ms) s =
      .next (u.modMirror rel fun m => { m with held := m.held ++ [(port, label, tag, zone, { offset := offset, blocks := bs, metas := ms })] }) := by
  rw [execMirrorWrite_takes accepted taken serves found takes, if_neg (Bool.eq_false_iff.mp room), waits]
end

theorem State.takeMirror_beyond {s : State} {m : Mirror} {zone : Nat} {z : MirZone} {p : Piece} (found : m.zones.find? (fun x => x.zone == zone) = some z)
    (beyond : z.ack < p.offset) : s.takeMirror m zone p = some none := by
  simp [State.takeMirror, found, beyond]

theorem State.takeMirror_unmirrored {s : State} {m : Mirror} {zone : Nat} {p : Piece} (none_ : ∀ z ∈ m.zones, z.zone ≠ zone) :
    s.takeMirror m zone p = some none := by
  have lost : m.zones.find? (fun x => x.zone == zone) = none := by simpa using none_
  simp [State.takeMirror, lost]

/-- Blocks before the zone's pointer are held already. -/
theorem State.landBlocks_held {s : State} {nsid zi offset : Nat} {bs : List Stored} (held : offset + bs.length ≤ (s.zone nsid zi).wp) :
    s.landBlocks nsid zi offset bs = some s := by
  have fresh : (bs.zipIdx.filter fun (_, i) => decide ((s.zone nsid zi).wp ≤ offset + i)) = [] := by
    rw [List.filter_eq_nil_iff]
    rintro ⟨b, i⟩ mem
    obtain ⟨at_, -⟩ := List.mem_zipIdx' mem
    simp
    omega
  simp [State.landBlocks, fresh]

/-- A piece that is held already moves the mirror pointer alone. -/
theorem State.takeMirror_held {s t : State} {m : Mirror} {zone : Nat} {z : MirZone} {p : Piece} (known : s.mirror? m.ident = some m)
    (found : m.zones.find? (fun x => x.zone == zone) = some z) (held : p.offset + p.blocks.length ≤ (s.zone m.nsid zone).wp)
    (took : s.takeMirror m zone p = some (some t)) : t.mirrorPointer m.ident zone = max z.ack (p.offset + p.blocks.length) ∧ t.media = s.media ∧ t.nss = s.nss := by
  simp only [State.takeMirror, found] at took
  split at took
  · cases took
  · have few (l : List (Option Stored)) (short : l.length ≤ p.blocks.length) : p.offset + (l.filterMap id).length ≤ (s.zone m.nsid zone).wp :=
      (Nat.add_le_add_left ((List.length_filterMap_le _ _).trans short) _).trans held
    rw [State.landBlocks_held (few _ (by simp))] at took
    cases took
    refine ⟨?_, rfl, rfl⟩
    rw [State.mirrorPointer, State.modMirror_mirror? _ _ fun _ => (by rfl), known]
    have moved := find?_updIf (fun z : MirZone => z.zone == zone) (fun z => { z with ack := max z.ack (p.offset + p.blocks.length) }) (fun _ e => e) m.zones
    rw [found] at moved
    simp only [Option.map_some, Option.bind_some, moved, Option.getD_some]
end

end Sys2Proof.Machine
end

section
/-! SUPPORT. The row of a response, and what the last packet of one hands over (R340, R346, R352, R355, R369, R372, R380). -/

namespace Sys2Proof.Machine

/-- The request that a response packet belongs to. -/
def HReq.answeredBy (r : HReq) (port label tag : Nat) : Bool := r.port == port && r.label == label && r.tag == tag && r.sent

/-- A response packet of a request is counted, and its place is free. -/
def State.responded (u : State) (port label tag : Nat) : State :=
  (u.modHal fun h => { h with reqs := updIf (fun x => x.answeredBy port label tag) (fun x => { x with received := x.received + 1 }) h.reqs }).modHport
    port fun p => { p with reserved := p.reserved - 1 }

section
variable {s u : State} {port seq label tag st ptr : Nat} {lp : Bool} {bs : List Block} {ms : List Wide} {ns : List Digest}

section
variable (accepted : s.accepts port seq 0x30 1 = true) (taken : u = s.took port 0x30 1)
include accepted taken

theorem execResponse_unasked (none_ : ∀ r ∈ s.hal.reqs, ¬ (r.port = port ∧ r.label = label ∧ r.tag = tag ∧ r.sent = true)) :
    exec (.response port seq label tag lp bs ms ns st ptr) s = .next (
      if label == 0 || s.hal.labels.any (fun l => l.inPort == port && l.inLabel == label || l.outPort == some port && l.outLabel == some label) then
        u.violation port else u) := by
  subst taken
  have lost : ((s.took port 0x30 1).hal.reqs.find? fun r => r.port == port && r.label == label && r.tag == tag && r.sent) = none := by
    refine List.find?_eq_none.mpr fun r mem => ?_
    have other := none_ r mem
    simpa [and_assoc] using other
  refine (received_accepted accepted _).trans (congrArg Host.Outcome.next ?_)
  simp only [lost]
  rfl

section
variable (none_ : ∀ r ∈ s.hal.reqs, ¬ (r.port = port ∧ r.label = label ∧ r.tag = tag ∧ r.sent = true))
include none_

theorem execResponse_violates
    (used : label = 0 ∨ ∃ l ∈ s.hal.labels, (l.inPort = port ∧ l.inLabel = label) ∨ (l.outPort = some port ∧ l.outLabel = some label)) :
    exec (.response port seq label tag lp bs ms ns st ptr) s = .next (u.violation port) := by
  rw [execResponse_unasked accepted taken none_, if_pos]
  rcases used with used | ⟨l, mem, at_⟩
  · simp [used]
  · rw [Bool.or_eq_true, List.any_eq_true]
    exact .inr ⟨l, mem, by simpa using at_⟩

theorem execResponse_released (path : label ≠ 0)
    (free : ∀ l ∈ s.hal.labels, ¬ (l.inPort = port ∧ l.inLabel = label) ∧ ¬ (l.outPort = some port ∧ l.outLabel = some label)) :
    exec (.response port seq label tag lp bs ms ns st ptr) s = .next u := by
  rw [execResponse_unasked accepted taken none_, if_neg]
  rw [Bool.or_eq_true, List.any_eq_true, not_or]
  refine ⟨by simpa using path, fun ⟨l, mem, at_⟩ => ?_⟩
  obtain ⟨notIn, notOut⟩ := free l mem
  have at_ : (l.inPort = port ∧ l.inLabel = label) ∨ (l.outPort = some port ∧ l.outLabel = some label) := by simpa using at_
  exact at_.elim notIn notOut
end

variable {r : HReq} (found : (s.hal.reqs.find? fun x => x.answeredBy port label tag) = some r)
include found

/-- A packet of an answer by its request. -/
theorem execResponse_asked : exec (.response port seq label tag lp bs ms ns st ptr) s = .next (
    if r.declared ≤ r.received then u.violation port
    else
      let v := u.responded port label tag
      let x := match r.relay with
        | some (q, m) => v.respondPath q m tag 1 bs ms ns st ptr
        | none => v
      if ! lp then x
      else
        let w := x.dropHReqs fun x => x.answeredBy port label tag
        if r.relay.isSome then w else w.consume r bs ms ns st ptr) := by
  subst taken
  have found' : ((s.took port 0x30 1).hal.reqs.find? fun x => x.port == port && x.label == label && x.tag == tag && x.sent) = some r := found
  refine (received_accepted accepted _).trans (congrArg Host.Outcome.next ?_)
  simp only [found']
  rfl

theorem execResponse_beyond (beyond : r.declared ≤ r.received) :
    exec (.response port seq label tag lp bs ms ns st ptr) s = .next (u.violation port) :=
  (execResponse_asked accepted taken found).trans (congrArg Host.Outcome.next (if_pos beyond))

variable (within : r.received < r.declared)
include within

theorem execResponse_relays {q m : Nat} (relays : r.relay = some (q, m)) :
    exec (.response port seq label tag false bs ms ns st ptr) s = .next ((u.responded port label tag).respondPath q m tag 1 bs ms ns st ptr) ∧
    exec (.response port seq label tag true bs ms ns st ptr) s =
      .next (((u.responded port label tag).respondPath q m tag 1 bs ms ns st ptr).dropHReqs fun x => x.answeredBy port label tag) := by
  have more := Nat.not_le.mpr within
  constructor
  · rw [execResponse_asked accepted taken found, if_neg more, relays]
    rfl
  · rw [execResponse_asked accepted taken found, if_neg more, relays]
    rfl

variable (own : r.relay = none)
include own

theorem execResponse_more : exec (.response port seq label tag false bs ms ns st ptr) s = .next (u.responded port label tag) := by
  rw [execResponse_asked accepted taken found, if_neg (Nat.not_le.mpr within), own]
  rfl

theorem execResponse_last : exec (.response port seq label tag true bs ms ns st ptr) s =
    .next (((u.responded port label tag).dropHReqs fun x => x.answeredBy port label tag).consume r bs ms ns st ptr) := by
  rw [execResponse_asked accepted taken found, if_neg (Nat.not_le.mpr within), own]
  rfl
end

/-! ## What an answer of this device's own hands over (R372, R380) -/

section
variable {w : State} {r : HReq}

theorem State.consume_tree {j : Job} {m : JobZone} {l : Manifest} (tree : r.op = 2) (job : w.job? r.ident = some j)
    (zone : (j.zones.find? fun z => z.zone == r.zone && ! z.settled) = some m) (manifest : m.manifest = some l) : w.consume r bs ms ns st ptr =
      if ns = treeNodes (ns.take l.leaves) ∧ merkleRoot (ns.take l.leaves) = l.root ∧ (ns.take l.leaves).length = l.leaves then
        w.setJobZone r.ident r.zone fun z => { z with leaves := ns.take l.leaves, treeGot := true }
      else w.refuseZone j r.zone 6 := by
  simp only [State.consume, tree, job, zone, manifest, Option.bind_some, Bool.and_eq_true, beq_iff_eq, and_assoc]

theorem State.consume_piece {j : Job} (piece : r.op = 1) (job : w.job? r.ident = some j) (open_ : ∀ z ∈ j.zones, z.zone = r.zone → z.settled = false) :
    w.consume r bs ms ns st ptr =
      (w.setJobZone r.ident r.zone fun z => { z with pieces := z.pieces ++ [{ offset := r.offset, blocks := bs, metas := ms }] }).importChunk r.ident r.zone := by
  have unsettled : (j.zones.any fun z => z.zone == r.zone && z.settled) = false := by
    rw [List.any_eq_false]
    intro z mem
    simpa using open_ z mem
  simp only [State.consume, piece, job, unsettled, Bool.false_eq_true, if_false]

/-- A mirror relationship whose pointer of a zone is at least `ptr`. -/
def Mirror.reached (m : Mirror) (zone ptr : Nat) : Mirror :=
  { m with zones := updIf (fun z => z.zone == zone) (fun z => { z with ack := max z.ack ptr }) m.zones }

theorem State.consume_pointer {m : Mirror} (write : r.op = 3) (mirror : w.mirror? r.ident = some m) : w.consume r bs ms ns 0 ptr =
    (w.modMirror r.ident fun m => m.reached r.zone ptr).ackMirrored (m.reached r.zone ptr) := by
  have moved : (w.modMirror r.ident fun m => m.reached r.zone ptr).mirror? r.ident = some (m.reached r.zone ptr) := by
    rw [State.modMirror_mirror? _ _ fun _ => (by rfl), mirror]
    rfl
  unfold State.consume
  rw [write]
  simp only [Mirror.reached] at moved ⊢
  simp [moved]
end

/-! ## The last packet of an answer -/

section
variable {w : State} {r : HReq} (accepted : s.accepts port seq 0x30 1 = true) (taken : u = s.took port 0x30 1)
  (found : (s.hal.reqs.find? fun x => x.answeredBy port label tag) = some r) (within : r.received < r.declared) (own : r.relay = none)
  (dropped : w = (u.responded port label tag).dropHReqs fun x => x.answeredBy port label tag)
include taken dropped

theorem State.answered_peer : w.peer = s.peer := by
  obtain ⟨-, -, -, -, peer⟩ : u.out = s.out ∧ u.nss = s.nss ∧ u.media = s.media ∧ u.keys = s.keys ∧ u.peer = s.peer := by
    rw [taken]
    exact State.took_rest _ _ _ _
  rw [dropped, State.dropHReqs_peer]
  exact peer

include accepted found within own

theorem execResponse_tree {j : Job} {m : JobZone} {l : Manifest} (tree : r.op = 2) (job : s.job? r.ident = some j)
    (zone : (j.zones.find? fun z => z.zone == r.zone && ! z.settled) = some m) (manifest : m.manifest = some l) :
    exec (.response port seq label tag true bs ms ns st ptr) s = .next (
      if ns = treeNodes (ns.take l.leaves) ∧ merkleRoot (ns.take l.leaves) = l.root ∧ (ns.take l.leaves).length = l.leaves then
        w.setJobZone r.ident r.zone fun z => { z with leaves := ns.take l.leaves, treeGot := true }
      else w.refuseZone j r.zone 6) := by
  have job' : w.job? r.ident = some j := (State.job?_of_peer (State.answered_peer taken dropped) _).trans job
  rw [execResponse_last accepted taken found within own, ← dropped, State.consume_tree tree job' zone manifest]

theorem execResponse_piece {j : Job} (piece : r.op = 1) (job : s.job? r.ident = some j) (open_ : ∀ z ∈ j.zones, z.zone = r.zone → z.settled = false) :
    exec (.response port seq label tag true bs ms ns st ptr) s = .next ((w.setJobZone r.ident r.zone fun z => { z with
      pieces := z.pieces ++ [{ offset := r.offset, blocks := bs, metas := ms }] }).importChunk r.ident r.zone) := by
  have job' : w.job? r.ident = some j := (State.job?_of_peer (State.answered_peer taken dropped) _).trans job
  rw [execResponse_last accepted taken found within own, ← dropped, State.consume_piece piece job' open_]

theorem execResponse_pointer {m : Mirror} (write : r.op = 3) (mirror : s.mirror? r.ident = some m) :
    exec (.response port seq label tag true bs ms ns 0 ptr) s =
      .next ((w.modMirror r.ident fun m => m.reached r.zone ptr).ackMirrored (m.reached r.zone ptr)) := by
  have mirror' : w.mirror? r.ident = some m := (State.mirror?_of_peer (State.answered_peer taken dropped) _).trans mirror
  rw [execResponse_last accepted taken found within own, ← dropped, State.consume_pointer write mirror']
end
end

/-- Settles O57: the rows by the place of the request's path, the source's and the partner's checks, and the request that a response belongs to
(assumptions 40, 41 and 63). -/
theorem peerRequests : Obligations.PeerRequests := by
  unfold Obligations.PeerRequests
  refine ⟨?discards, ?arrives, ?chunk, ?tree, ?mirror, ?pointer, ?unasked, ?response⟩
  case discards =>
    intros
    exact ⟨discards_of_received rfl, discards_of_received rfl, discards_of_received rfl, discards_of_received rfl⟩
  case arrives =>
    intro i seq packets r s u brings accepted taken
    obtain ⟨serve, row⟩ := exec_request_arrives brings accepted taken
    have state : (u.hport r.port).state = (s.hport r.port).state := by rw [taken, State.took_state]
    have relaying : u.ctlValue ctlRelaying = s.ctlValue ctlRelaying := by rw [taken, State.took_eq]; rfl
    refine ⟨fun off => ?_, fun fp paired ends far untrusted => ?_, fun q m paired relays => ⟨fun off => ?_, fun on pairedOn => ?_⟩⟩
    · rw [row, State.requestAt_unpaired (by rwa [state])]
    · rw [row, State.requestAt_end (by rwa [state]) ends far, if_neg (Bool.eq_false_iff.mp untrusted)]
    · rw [row, State.requestAt_relay (by rwa [state]) relays, relaying, if_pos off]
    · rw [row, State.requestAt_relay (by rwa [state]) relays, relaying, if_neg (by simp [on, pairedOn])]
  case chunk =>
    exact fun port seq label tag job zone offset count declared fp s u accepted taken serves => ⟨execChunkRead_shape accepted taken serves,
      fun whole some_ inChunk => ⟨execChunkRead_few accepted taken serves whole some_ inChunk, execChunkRead_foreign accepted taken serves whole some_ inChunk,
        fun _ enough served unread => execChunkRead_unread accepted taken serves whole some_ inChunk enough served unread,
        fun _ _ enough served read => ⟨State.sealedBlocks_length read, execChunkRead_answers accepted taken serves whole some_ inChunk enough served read⟩⟩⟩
  case tree =>
    exact fun port seq label tag job zone declared fp s u accepted taken serves => ⟨execTreeRead_foreign accepted taken serves,
      fun _ served => ⟨execTreeRead_few accepted taken serves served, execTreeRead_answers accepted taken serves served⟩⟩
  case mirror =>
    refine fun port seq label tag rel zone offset bs ms fp s u accepted taken serves => ⟨execMirrorWrite_foreign accepted taken serves,
      fun m found partner far answered stands => execMirrorWrite_full accepted taken serves found (Mirror.takesFrom_of partner far answered stands),
      fun m found partner far answered stands room => ?_⟩
    have takes := Mirror.takesFrom_of partner far answered stands
    exact ⟨fun z mirrored beyond => execMirrorWrite_refused accepted taken serves found takes room (State.takeMirror_beyond mirrored beyond),
      fun none_ => execMirrorWrite_refused accepted taken serves found takes room (State.takeMirror_unmirrored none_),
      fun t took => execMirrorWrite_placed accepted taken serves found takes room took,
      fun waits => execMirrorWrite_waits accepted taken serves found takes room waits⟩
  case pointer => exact fun m zone z p s t known found held took => State.takeMirror_held known found held took
  case unasked =>
    exact fun port seq label tag st ptr lp bs ms ns s u accepted taken none_ => ⟨execResponse_violates accepted taken none_,
      execResponse_released accepted taken none_⟩
  case response =>
    intro port seq label tag st ptr lp bs ms ns r s u v w accepted taken found counted dropped
    have counted : v = u.responded port label tag := counted
    have dropped : w = v.dropHReqs fun x => x.answeredBy port label tag := dropped
    subst counted
    refine ⟨execResponse_beyond accepted taken found, execResponse_more accepted taken found,
      fun q m within relays => execResponse_relays accepted taken found within relays, fun j m l within own tree job zone manifest => ?_,
      fun j within own piece job open_ => ?_, fun m within own write mirror => ?_⟩
    · rw [execResponse_tree accepted taken found within own dropped tree job zone manifest]
      refine ⟨fun nodes root leaves => congrArg Host.Outcome.next (if_pos ⟨nodes, root, leaves⟩), fun bad => congrArg Host.Outcome.next (if_neg ?_)⟩
      rintro ⟨nodes, root, leaves⟩
      rcases bad with bad | bad | bad
      · exact bad nodes
      · exact bad root
      · exact bad leaves
    · exact execResponse_piece accepted taken found within own dropped piece job open_
    · exact execResponse_pointer accepted taken found within own dropped write mirror

end Sys2Proof.Machine
end

section
/-! SUPPORT. The jobs and the relationships after what the peer operations send, record and release, and the end of a job (R368, R371, R374, R376). -/

namespace Sys2Proof.Machine

theorem Answers.of {r : Res} {P : State → Prop} {t : State} (row : r = .next t) (holds : P t) : Answers r P := ⟨t, row, holds⟩

/-! ## What leaves every job and every relationship -/

section
variable (s : State) (id : Nat)

@[simp] theorem State.sendOp_peer (fp : Digest) (code : Nat) (args : List Nat) (packets : Nat) : (s.sendOp fp code args packets).peer = s.peer :=
  State.peer_probeBlind.sendOp _ _ _ _ _
@[simp] theorem State.sendOp_job? (fp : Digest) (code : Nat) (args : List Nat) (packets : Nat) : (s.sendOp fp code args packets).job? id = s.job? id :=
  State.job?_of_peer (s.sendOp_peer _ _ _ _) id
@[simp] theorem State.sendOp_mirror? (fp : Digest) (code : Nat) (args : List Nat) (packets : Nat) :
    (s.sendOp fp code args packets).mirror? id = s.mirror? id :=
  State.mirror?_of_peer (s.sendOp_peer _ _ _ _) id
@[simp] theorem State.log_job? (j : Nat) (r : JRec) : (s.log j r).job? id = s.job? id := rfl
@[simp] theorem State.raise_job? (source code severity : Nat) (args : List Nat) (fn : Nat) :
    (s.raise source code severity args fn).job? id = s.job? id := State.job?_of_peer (State.raise_peer _ _ _ _ _ _) id
@[simp] theorem State.raise_mirror? (source code severity : Nat) (args : List Nat) (fn : Nat) :
    (s.raise source code severity args fn).mirror? id = s.mirror? id := State.mirror?_of_peer (State.raise_peer _ _ _ _ _ _) id
@[simp] theorem State.dropHReqs_job? (p : HReq → Bool) : (s.dropHReqs p).job? id = s.job? id := State.job?_of_peer (State.dropHReqs_peer _ _) id
@[simp] theorem State.dropHReqs_mirror? (p : HReq → Bool) : (s.dropHReqs p).mirror? id = s.mirror? id :=
  State.mirror?_of_peer (State.dropHReqs_peer _ _) id
@[simp] theorem State.returnZone_job? (nsid zi : Nat) : (s.returnZone nsid zi).job? id = s.job? id :=
  State.job?_of_peer (State.returnZone_peer _ _ _) id
@[simp] theorem State.returnZone_mirror? (nsid zi : Nat) : (s.returnZone nsid zi).mirror? id = s.mirror? id :=
  State.mirror?_of_peer (State.returnZone_peer _ _ _) id
@[simp] theorem State.modZone_mirror? (nsid zi : Nat) (f : Zone → Zone) : (s.modZone nsid zi f).mirror? id = s.mirror? id := rfl
@[simp] theorem State.ackMirrored_mirror? (m : Mirror) : (s.ackMirrored m).mirror? id = s.mirror? id :=
  State.mirror?_of_peer (State.peer_hostBlind.ackMirrored _ _) id
end

/-- The paths within the budget are those of the links, the labels and the budget's control. -/
theorem State.goodPaths_of {s t : State} (hal : t.hal = s.hal) (ctl : t.ctl = s.ctl) (fp : Digest) : t.goodPaths fp = s.goodPaths fp := by
  have budget : t.pathBudget = s.pathBudget := by
    simp only [State.pathBudget, State.ctlValue, ctl]
    rfl
  have paths : t.pathsTo fp = s.pathsTo fp := by
    unfold State.pathsTo State.hport
    rw [hal]
  simp only [State.goodPaths, budget, paths]

theorem State.goodPaths_any {s : State} {fp : Digest} {port label : Nat} :
    ((s.goodPaths fp).any fun p => p.port == port && p.label == label) = true ↔
      ∃ p ∈ s.pathsTo fp, p.port = port ∧ p.label = label ∧ p.latency ≤ s.pathBudget := by
  simp [State.goodPaths, and_assoc, and_comm]

/-! ## The zones of a job -/

/-- What an update sets at a key holds of all that has the key afterwards. -/
theorem updIf_sets {α : Type} {key : α → Nat} {k : Nat} {f : α → α} {l : List α} {P : α → Prop} (sets : ∀ x ∈ l, key x = k → P (f x)) :
    ∀ y ∈ updIf (fun x => key x == k) f l, key y = k → P y := by
  intro y mem own
  obtain ⟨x, mem, e⟩ := mem_updIf mem
  by_cases at_ : key x = k
  · rw [e, if_pos (by simpa using at_)]
    exact sets x mem at_
  · rw [if_neg (by simpa using at_)] at e
    exact absurd (e ▸ own) at_

theorem any_settled {l : List JobZone} : (l.all JobZone.settled) = false ↔ ∃ z ∈ l, z.settled = false := by simp

/-- A job whose zones with this number are updated. -/
def Job.setZone (j : Job) (zone : Nat) (f : JobZone → JobZone) : Job := { j with zones := updIf (fun z => z.zone == zone) f j.zones }

theorem State.setJobZone_job? (s : State) (id zone : Nat) (f : JobZone → JobZone) :
    (s.setJobZone id zone f).job? id = (s.job? id).map (·.setZone zone f) := s.modJob_job? id fun _ => rfl

/-- A zone of a job is settled, and the job has changed. -/
def State.settleZone (s : State) (id zone : Nat) (f : JobZone → JobZone) : State :=
  (s.setJobZone id zone f).modJob id fun j => { j with changed := s.clk.frame }

theorem State.settleZone_job? (s : State) (id zone : Nat) (f : JobZone → JobZone) :
    (s.settleZone id zone f).job? id = (s.job? id).map fun j => { j.setZone zone f with changed := s.clk.frame } := by
  rw [State.settleZone, State.modJob_job? _ _ fun _ => (by rfl), State.setJobZone_job?, Option.map_map]
  rfl

@[simp] theorem State.settleZone_steady (s : State) (id zone : Nat) (f : JobZone → JobZone) : (s.settleZone id zone f).steady = s.steady := by
  simp [State.settleZone]

/-- Dividing the zones changes the streams they are on and nothing else. -/
theorem Job.divide_eq (j : Job) : ∃ f : JobZone → Option (Nat × Nat), j.divide = { j with zones := j.zones.map fun z => { z with stream := f z } } := by
  unfold Job.divide
  extract_lets waiting n
  split
  · exact ⟨(·.stream), by simp⟩
  · refine ⟨fun z => if z.phase == 0 then j.streams[waiting.idxOf z.zone % n]? else z.stream, ?_⟩
    congr
    funext z
    by_cases waits : z.phase = 0 <;> simp [waits]

section
variable (j : Job)

@[simp] theorem Job.divide_ident : j.divide.ident = j.ident := by obtain ⟨f, e⟩ := j.divide_eq; rw [e]
@[simp] theorem Job.divide_source : j.divide.source = j.source := by obtain ⟨f, e⟩ := j.divide_eq; rw [e]
@[simp] theorem Job.divide_state : j.divide.state = j.state := by obtain ⟨f, e⟩ := j.divide_eq; rw [e]
@[simp] theorem Job.divide_streams : j.divide.streams = j.streams := by obtain ⟨f, e⟩ := j.divide_eq; rw [e]
@[simp] theorem Job.divide_settled : j.divide.zones.all JobZone.settled = j.zones.all JobZone.settled := by
  obtain ⟨f, e⟩ := j.divide_eq
  rw [e, List.all_map]
  rfl

theorem Job.divide_mem {j : Job} {z : JobZone} (mem : z ∈ j.zones) :
    ∃ x ∈ j.divide.zones, x.zone = z.zone ∧ x.manifest = z.manifest ∧ x.phase = z.phase := by
  obtain ⟨f, e⟩ := j.divide_eq
  rw [e]
  exact ⟨_, List.mem_map_of_mem mem, rfl, rfl, rfl⟩
end

/-! ## The end of a job -/

/-- A job that has ended: without streams, in the state it ended in. -/
def Job.over (j : Job) (st : JobState) (cause frame : Nat) : Job := { j with streams := [] }.entered st cause frame

/-- A job that is complete as it stands (R376). -/
def Job.completes (j : Job) : Bool := j.state == .running && j.zones.all JobZone.settled && (j.source || ! j.all)

section
variable {s : State} {id : Nat} {j : Job} (found : s.job? id = some j)
include found

theorem State.closePeerJob_job? : (s.closePeerJob j).job? id = some { j with streams := [] } := by
  obtain rfl := State.job?_ident found
  rw [State.job?_of_peer (State.closePeerJob_peer _ _), State.modJob_job? _ _ fun _ => (by rfl), found]
  rfl

theorem State.endJob_job? (st : JobState) (cause : Nat) :
    ((s.closePeerJob j).setJob id st cause).job? id = some (j.over st cause s.clk.frame) := by
  have frame : (s.closePeerJob j).clk = s.clk := congrArg Steady.clk (s.closePeerJob_steady j)
  rw [State.setJob_job?, State.closePeerJob_job? found, frame]
  rfl

theorem State.completeJob_eq : s.completeJob id = if j.completes then
    ((if j.source then s.sendOp j.partner 0x09 [3, JobState.complete.num, 0, id] else s).closePeerJob j).setJob id .complete 0 else s := by
  have guard : (j.state != .running || ! j.zones.all JobZone.settled || ! j.source && j.all) = ! j.completes := by
    simp only [Job.completes, bne, Bool.not_and, Bool.not_or, Bool.not_not]
  simp only [State.completeJob, found, guard, Bool.not_eq_true']
  cases j.completes <;> rfl

theorem State.completeJob_stands (open_ : j.completes = false) : s.completeJob id = s := by
  rw [State.completeJob_eq found, open_]
  rfl

theorem State.completeJob_job? : (s.completeJob id).job? id = some (if j.completes then j.over .complete 0 s.clk.frame else j) := by
  rw [State.completeJob_eq found]
  split
  · split
    · have told : (s.sendOp j.partner 0x09 [3, JobState.complete.num, 0, id]).job? id = some j := by rw [State.sendOp_job?, found]
      have frame : (s.sendOp j.partner 0x09 [3, JobState.complete.num, 0, id]).clk = s.clk := congrArg Steady.clk (s.sendOp_steady _ _ _ _)
      rw [State.endJob_job? told, frame]
    · exact State.endJob_job? found _ _
  · exact found

/-- A job that is looked at for its end keeps its zones; its last change is the end where it ends. -/
theorem State.completeJob_zones : ∃ x, (s.completeJob id).job? id = some x ∧ x.zones = j.zones ∧ (x.changed = j.changed ∨ x.changed = s.clk.frame) := by
  refine ⟨_, State.completeJob_job? found, ?_⟩
  split
  · exact ⟨rfl, .inr rfl⟩
  · exact ⟨rfl, .inl rfl⟩
end

theorem State.frame_of_steady {s t : State} (same : t.steady = s.steady) : t.clk.frame = s.clk.frame := congrArg (fun x : Steady => x.clk.frame) same

/-- A zone that has been settled stays so while the job is looked at for its end. -/
theorem State.settled_zones {s t : State} {id zone : Nat} {j : Job} (f : JobZone → JobZone) {P : JobZone → Prop} (found : s.job? id = some j)
    (same : t.job? id = (s.settleZone id zone f).job? id) (now : t.steady = s.steady) (sets : ∀ z ∈ j.zones, z.zone = zone → P (f z)) :
    ∃ x, (t.completeJob id).job? id = some x ∧ (∀ y ∈ x.zones, y.zone = zone → P y) ∧ x.changed = s.clk.frame := by
  rw [State.settleZone_job?, found] at same
  obtain ⟨x, at_, zones, changed⟩ := State.completeJob_zones same
  refine ⟨x, at_, ?_, ?_⟩
  · rw [zones]
    exact updIf_sets sets
  · rcases changed with e | e
    · exact e
    · exact e.trans (State.frame_of_steady now)

theorem Job.completes_of {j : Job} (running : j.state = .running) (settled : ∀ z ∈ j.zones, z.settled = true) (listed : j.source = true ∨ j.all = false) :
    j.completes = true := by
  rcases listed with listed | listed <;> simp [Job.completes, running, listed, List.all_eq_true.mpr settled]

theorem Job.completes_open {j : Job} (open_ : ∃ z ∈ j.zones, z.settled = false) : j.completes = false := by
  simp [Job.completes, any_settled.mpr open_]

end Sys2Proof.Machine
end

section
/-! SUPPORT. The Offer and its Answer (R361 to R364, R368, R371, R376, R379). -/

namespace Sys2Proof.Machine

/-! ## Taking an Offer -/

section
variable (s : State) (stop nsid id cls : Nat)

@[simp] theorem State.raiseGen_peer : (s.raiseGen stop).peer = s.peer := by
  unfold State.raiseGen
  split <;> rfl

theorem State.raiseGen_nextGen : stop ≤ (s.raiseGen stop).media.nextGen := by
  unfold State.raiseGen
  split
  · exact le_refl stop
  next reached => exact Nat.not_lt.mp reached

theorem State.nextGen_sendBlind : SendBlind fun s => s.media.nextGen where
  emit _ _ := rfl
  port _ _ _ _ := rfl

theorem State.raise_media (source code severity : Nat) (args : List Nat) (fn : Nat) : (s.raise source code severity args fn).media = s.media := by
  unfold State.raise
  split <;> rfl

theorem State.log_nextGen (j : Nat) (r : JRec) : (s.log j r).media.nextGen = s.media.nextGen := rfl
theorem State.modJob_media (f : Job → Job) : (s.modJob id f).media = s.media := rfl
theorem State.modJob_landings (f : Job → Job) : (s.modJob id f).peer.landings = s.peer.landings := rfl

theorem State.modMirror_media (f : Mirror → Mirror) : (s.modMirror id f).media = s.media := rfl
theorem State.setLanding_media : (s.setLanding nsid).media = s.media := rfl
theorem State.setLanding_peer : (s.setLanding nsid).peer = s.peer := rfl

theorem State.setJob_nextGen (st : JobState) (cause : Nat) : (s.setJob id st cause).media.nextGen = s.media.nextGen := by
  rw [State.setJob, State.log_nextGen, State.raise_media, State.modJob_media]
theorem State.setJob_landings (st : JobState) (cause : Nat) : (s.setJob id st cause).peer.landings = s.peer.landings := by
  rw [State.setJob_peer, State.modJob_landings]

theorem State.stopJob_landings (cause : Nat) (tell : Bool) : (s.stopJob id cause tell).peer.landings = s.peer.landings := by
  unfold State.stopJob
  split
  · rfl
  · split
    · rfl
    · rw [State.setJob_landings, State.closePeerJob_peer, State.modJob_landings]
      split
      · rw [State.sendOp_peer]
      · rfl

section
variable {s : State} {id : Nat}

theorem State.acceptJob_eq {j : Job} (found : s.job? id = some j) : ∃ streams : Job → List (Nat × Nat), s.acceptJob id nsid cls =
    (((((s.raiseGen j.offer.1).setLanding nsid).modJob id fun j => { j with nsid := nsid, cls := cls, streams := streams j }).sendOp
      j.partner 0x02 [1, 0, id, nsid, cls]).setJob id .running 0) := by
  simp only [State.acceptJob, found]
  exact ⟨_, rfl⟩

theorem State.acceptJob_job? {j : Job} (found : s.job? id = some j) : ∃ x, (s.acceptJob id nsid cls).job? id = some x ∧
    x.state = .running ∧ x.nsid = nsid ∧ x.cls = cls ∧ x.source = j.source := by
  obtain ⟨streams, e⟩ := State.acceptJob_eq nsid cls found
  have lands : ((s.raiseGen j.offer.1).setLanding nsid).job? id = some j := (State.job?_of_peer (State.raiseGen_peer _ _) id).trans found
  rw [e, State.setJob_job?, State.sendOp_job?, State.modJob_job? _ _ fun _ => (by rfl), lands]
  exact ⟨_, rfl, rfl, rfl, rfl, rfl⟩

theorem State.acceptJob_nextGen {j : Job} (found : s.job? id = some j) : j.offer.1 ≤ (s.acceptJob id nsid cls).media.nextGen := by
  obtain ⟨streams, e⟩ := State.acceptJob_eq nsid cls found
  rw [e, State.setJob_nextGen, State.nextGen_sendBlind.sendOp, State.modJob_media, State.setLanding_media]
  exact State.raiseGen_nextGen _ _

theorem State.acceptJob_landings {j : Job} (found : s.job? id = some j) : (s.acceptJob id nsid cls).peer.landings = s.peer.landings := by
  obtain ⟨streams, e⟩ := State.acceptJob_eq nsid cls found
  rw [e, State.setJob_landings, State.sendOp_peer, State.modJob_landings, State.setLanding_peer, State.raiseGen_peer]

theorem State.acceptMirror_eq {m : Mirror} (found : s.mirror? id = some m) : s.acceptMirror id nsid cls =
    ((((s.raiseGen m.offer.1).setLanding nsid).modMirror id fun m => { m with nsid := nsid, cls := cls, accepted := true }).sendOp
      m.other 0x02 [1, 0, id, nsid, cls]) := by
  simp only [State.acceptMirror, found]

theorem State.acceptMirror_mirror? {m : Mirror} (found : s.mirror? id = some m) : (s.acceptMirror id nsid cls).mirror? id =
    some { m with nsid := nsid, cls := cls, accepted := true } := by
  have lands : ((s.raiseGen m.offer.1).setLanding nsid).mirror? id = some m := (State.mirror?_of_peer (State.raiseGen_peer _ _) id).trans found
  rw [State.acceptMirror_eq nsid cls found, State.sendOp_mirror?, State.modMirror_mirror? _ _ fun _ => (by rfl), lands]
  rfl

theorem State.acceptMirror_nextGen {m : Mirror} (found : s.mirror? id = some m) : m.offer.1 ≤ (s.acceptMirror id nsid cls).media.nextGen := by
  rw [State.acceptMirror_eq nsid cls found, State.nextGen_sendBlind.sendOp, State.modMirror_media, State.setLanding_media]
  exact State.raiseGen_nextGen _ _
end
end

/-! ## The rows -/

/-- The job of an Offer that has come from a partner. -/
def offeredJob (d : Digest) (str id ge lb pi ver : Nat) (zs : List Nat) (frame : Nat) : Job := {
  ident := id, source := false, partner := d, nsid := 0, maxStreams := str, all := zs.isEmpty
  offeredAt := frame, offer := (ge, lb, pi, ver), zones := zs.map fun z => { zone := z } }
/-- The relationship of an Offer that has come from a source. -/
def offeredMirror (d : Digest) (id ge lb pi mode pol lag fz zc : Nat) : Mirror := {
  ident := id, source := false, other := d, nsid := 0, firstZone := fz, zoneCount := zc, mode := mode, policy := some pol, lagLimit := lag
  offer := (ge, lb, pi) }

def State.enterJob (s : State) (j : Job) : State := s.modPeer fun p => { p with jobs := p.jobs ++ [j] }
def State.enterMirror (s : State) (m : Mirror) : State := s.modPeer fun p => { p with mirrors := p.mirrors ++ [m] }
/-- A landing namespace that waited for its Offer waits no more. -/
def State.takeLanding (s : State) (l : Landing) : State := s.modPeer fun p => { p with landings := p.landings.filter (· != l) }

theorem State.enterJob_job? {s : State} {j : Job} {id : Nat} (own : j.ident = id) (new : s.job? id = none) : (s.enterJob j).job? id = some j := by
  have new : s.peer.jobs.find? (fun x => x.ident == id) = none := new
  simp [State.enterJob, State.job?, List.find?_append, new, own]

theorem State.enterMirror_mirror? {s : State} {m : Mirror} {id : Nat} (own : m.ident = id) (new : s.mirror? id = none) :
    (s.enterMirror m).mirror? id = some m := by
  have new : s.peer.mirrors.find? (fun x => x.ident == id) = none := new
  simp [State.enterMirror, State.mirror?, List.find?_append, new, own]

theorem State.takeLanding_gone (s : State) (l : Landing) : l ∉ (s.takeLanding l).peer.landings := by simp [State.takeLanding]

section
variable {d : Digest} {kd str id nsid ge lb pi ver mode pol lag fz zc : Nat} {zs : List Nat} {s : State}

theorem exec_offer : exec (.offer d kd str id nsid zs ge lb pi ver mode pol lag fz zc) s =
    execOffer d kd str id nsid zs ge lb pi ver mode pol lag fz zc s := rfl

theorem execOffer_unpaired (unpaired : s.isPaired d = false) : exec (.offer d kd str id nsid zs ge lb pi ver mode pol lag fz zc) s = .next s := by
  simp [exec_offer, execOffer, unpaired]

variable (paired : s.isPaired d = true)
include paired

theorem execOffer_version (other : ver / 16 ≠ 1) :
    exec (.offer d kd str id nsid zs ge lb pi ver mode pol lag fz zc) s = .next (s.sendOp d 0x02 [0, 0x0706, id, 0, 0]) := by
  simp [exec_offer, execOffer, paired, other]

variable (version : ver / 16 = 1)
include version

section
variable (new : s.job? id = none)
include new

theorem execOffer_job_waits (none_ : ∀ l ∈ s.peer.landings, ¬ (l.mirror = false ∧ l.source = d)) :
    exec (.offer d 1 str id nsid zs ge lb pi ver mode pol lag fz zc) s = .next (s.enterJob (offeredJob d str id ge lb pi ver zs s.clk.frame)) := by
  have unnamed : (s.peer.landings.find? fun l => ! l.mirror && l.source == d) = none := by simpa using none_
  simp [exec_offer, execOffer, paired, version, new, unnamed, State.enterJob, offeredJob]

variable {l : Landing} (named : (s.peer.landings.find? fun l => ! l.mirror && l.source == d) = some l)
include named

theorem execOffer_job_unfit (unfit : s.formatFits l.nsid lb pi = false) :
    exec (.offer d 1 str id nsid zs ge lb pi ver mode pol lag fz zc) s = .next
      (((((s.enterJob (offeredJob d str id ge lb pi ver zs s.clk.frame)).takeLanding l).releaseLanding l.nsid).stopJob id 0x0704 false).sendOp
        d 0x02 [0, 0x0704, id, 0, 0]) := by
  have unfit' : ((s.enterJob (offeredJob d str id ge lb pi ver zs s.clk.frame)).takeLanding l).formatFits l.nsid lb pi = false := unfit
  simp only [State.enterJob, State.takeLanding, offeredJob] at unfit' ⊢
  simp [exec_offer, execOffer, paired, version, new, named, unfit']

theorem execOffer_job_fits (fit : s.formatFits l.nsid lb pi = true) :
    exec (.offer d 1 str id nsid zs ge lb pi ver mode pol lag fz zc) s = .next
      ((((s.enterJob (offeredJob d str id ge lb pi ver zs s.clk.frame)).takeLanding l).acceptJob id l.nsid l.cls).raise 597 6 0 [id, 0]) := by
  have fit' : ((s.enterJob (offeredJob d str id ge lb pi ver zs s.clk.frame)).takeLanding l).formatFits l.nsid lb pi = true := fit
  simp only [State.enterJob, State.takeLanding, offeredJob] at fit' ⊢
  simp [exec_offer, execOffer, paired, version, new, named, fit']

theorem execOffer_job_stops (unfit : s.formatFits l.nsid lb pi = false) :
    Answers (exec (.offer d 1 str id nsid zs ge lb pi ver mode pol lag fz zc) s) fun t =>
      (∃ x, t.job? id = some x ∧ x.state = .stopped ∧ x.cause = 0x0704) ∧ l ∉ t.peer.landings := by
  have entered : (((s.enterJob (offeredJob d str id ge lb pi ver zs s.clk.frame)).takeLanding l).releaseLanding l.nsid).job? id = some _ :=
    State.enterJob_job? rfl new
  refine Answers.of (execOffer_job_unfit paired version new named unfit) ⟨?_, ?_⟩
  · rw [State.sendOp_job?]
    exact State.stopJob_job? entered rfl _ _
  · rw [State.sendOp_peer, State.stopJob_landings]
    exact State.takeLanding_gone _ l

theorem execOffer_job_runs (fit : s.formatFits l.nsid lb pi = true) :
    Answers (exec (.offer d 1 str id nsid zs ge lb pi ver mode pol lag fz zc) s) fun t =>
      (∃ x, t.job? id = some x ∧ x.state = .running ∧ x.nsid = l.nsid ∧ x.cls = l.cls ∧ x.source = false) ∧ ge ≤ t.media.nextGen ∧
        l ∉ t.peer.landings := by
  have entered : ((s.enterJob (offeredJob d str id ge lb pi ver zs s.clk.frame)).takeLanding l).job? id = some _ := State.enterJob_job? rfl new
  refine Answers.of (execOffer_job_fits paired version new named fit) ⟨?_, ?_, ?_⟩
  · rw [State.raise_job?]
    exact State.acceptJob_job? _ _ entered
  · rw [State.raise_media]
    exact State.acceptJob_nextGen _ _ entered
  · rw [State.raise_peer, State.acceptJob_landings _ _ entered]
    exact State.takeLanding_gone _ l
end

variable (mirror : kd ≠ 1)
include mirror

theorem execOffer_mirror_barred (barred : (∃ m, s.mirror? id = some m) ∨ 64 ≤ s.peer.mirrors.length) :
    exec (.offer d kd str id nsid zs ge lb pi ver mode pol lag fz zc) s = .next s := by
  rcases barred with ⟨m, known⟩ | full
  · simp [exec_offer, execOffer, paired, version, mirror, known]
  · simp [exec_offer, execOffer, paired, version, mirror, full]

variable (new : s.mirror? id = none) (room : s.peer.mirrors.length < 64)
include new room

theorem execOffer_mirror_waits (none_ : ∀ l ∈ s.peer.landings, ¬ (l.mirror = true ∧ l.source = d)) :
    exec (.offer d kd str id nsid zs ge lb pi ver mode pol lag fz zc) s = .next (s.enterMirror (offeredMirror d id ge lb pi mode pol lag fz zc)) := by
  have unnamed : (s.peer.landings.find? fun l => l.mirror && l.source == d) = none := by simpa using none_
  simp [exec_offer, execOffer, paired, version, mirror, new, Nat.not_le.mpr room, unnamed, State.enterMirror, offeredMirror]

section
variable {l : Landing} (named : (s.peer.landings.find? fun l => l.mirror && l.source == d) = some l)
include named

theorem execOffer_mirror_unfit (unfit : s.formatFits l.nsid lb pi = false) :
    exec (.offer d kd str id nsid zs ge lb pi ver mode pol lag fz zc) s = .next
      (((((s.enterMirror (offeredMirror d id ge lb pi mode pol lag fz zc)).takeLanding l).releaseLanding l.nsid).modPeer fun p => { p with
        mirrors := p.mirrors.filter (·.ident != id) }).sendOp d 0x02 [0, 0x0704, id, 0, 0]) := by
  have unfit' : ((s.enterMirror (offeredMirror d id ge lb pi mode pol lag fz zc)).takeLanding l).formatFits l.nsid lb pi = false := unfit
  simp only [State.enterMirror, State.takeLanding, offeredMirror] at unfit' ⊢
  simp [exec_offer, execOffer, paired, version, mirror, new, Nat.not_le.mpr room, named, unfit']

theorem execOffer_mirror_fits (fit : s.formatFits l.nsid lb pi = true) :
    exec (.offer d kd str id nsid zs ge lb pi ver mode pol lag fz zc) s = .next
      ((((s.enterMirror (offeredMirror d id ge lb pi mode pol lag fz zc)).takeLanding l).acceptMirror id l.nsid l.cls).raise 597 6 0 [id, 0]) := by
  have fit' : ((s.enterMirror (offeredMirror d id ge lb pi mode pol lag fz zc)).takeLanding l).formatFits l.nsid lb pi = true := fit
  simp only [State.enterMirror, State.takeLanding, offeredMirror] at fit' ⊢
  simp [exec_offer, execOffer, paired, version, mirror, new, Nat.not_le.mpr room, named, fit']

theorem execOffer_mirror_ends (unfit : s.formatFits l.nsid lb pi = false) :
    Answers (exec (.offer d kd str id nsid zs ge lb pi ver mode pol lag fz zc) s) fun t => t.mirror? id = none := by
  refine Answers.of (execOffer_mirror_unfit paired version mirror new room named unfit) ?_
  rw [State.sendOp_mirror?]
  exact mirrors_filter_find? _ id

theorem execOffer_mirror_stands (fit : s.formatFits l.nsid lb pi = true) :
    Answers (exec (.offer d kd str id nsid zs ge lb pi ver mode pol lag fz zc) s) fun t =>
      ge ≤ t.media.nextGen ∧ ∃ x, t.mirror? id = some x ∧ x.accepted = true ∧ x.nsid = l.nsid ∧ x.cls = l.cls := by
  have entered : ((s.enterMirror (offeredMirror d id ge lb pi mode pol lag fz zc)).takeLanding l).mirror? id = some _ := State.enterMirror_mirror? rfl new
  refine Answers.of (execOffer_mirror_fits paired version mirror new room named fit) ⟨?_, ?_⟩
  · rw [State.raise_media]
    exact State.acceptMirror_nextGen _ _ entered
  · rw [State.raise_mirror?, State.acceptMirror_mirror? _ _ entered]
    exact ⟨_, rfl, rfl, rfl, rfl⟩
end

/-- The relationship that an Offer makes, by the landing namespace that waits for it. -/
theorem execOffer_mirror_enters : Answers (exec (.offer d kd str id nsid zs ge lb pi ver mode pol lag fz zc) s) fun t =>
    ((∀ l ∈ s.peer.landings, ¬ (l.mirror = true ∧ l.source = d)) → t.mirror? id = some (offeredMirror d id ge lb pi mode pol lag fz zc)) ∧
    (∀ l, (s.peer.landings.find? fun l => l.mirror && l.source == d) = some l →
      (s.formatFits l.nsid lb pi = false → t.mirror? id = none) ∧
      (s.formatFits l.nsid lb pi = true → ge ≤ t.media.nextGen ∧ ∃ x, t.mirror? id = some x ∧ x.accepted = true ∧ x.nsid = l.nsid ∧ x.cls = l.cls)) := by
  cases named : s.peer.landings.find? fun l => l.mirror && l.source == d with
  | none =>
    have none_ : ∀ l ∈ s.peer.landings, ¬ (l.mirror = true ∧ l.source = d) := by simpa using named
    exact Answers.of (execOffer_mirror_waits paired version mirror new room none_)
      ⟨fun _ => State.enterMirror_mirror? rfl new, fun l waits => by cases waits⟩
  | some l =>
    have lands : ¬ ∀ l ∈ s.peer.landings, ¬ (l.mirror = true ∧ l.source = d) := fun none_ =>
      none_ l (List.mem_of_find?_eq_some named) (by simpa using List.find?_some named)
    cases fit : s.formatFits l.nsid lb pi with
    | false =>
      obtain ⟨t, row, gone⟩ := execOffer_mirror_ends paired version mirror new room named fit
      refine Answers.of row ⟨fun none_ => absurd none_ lands, fun l' same => ?_⟩
      cases same
      exact ⟨fun _ => gone, fun fits => absurd (fit.symm.trans fits) Bool.false_ne_true⟩
    | true =>
      obtain ⟨t, row, stands⟩ := execOffer_mirror_stands paired version mirror new room named fit
      refine Answers.of row ⟨fun none_ => absurd none_ lands, fun l' same => ?_⟩
      cases same
      exact ⟨fun unfit => absurd (unfit.symm.trans fit) Bool.false_ne_true, fun _ => stands⟩
end

/-! ## The Answer -/

theorem State.limitSlots_rest (s : State) : s.limitSlots.peer = s.peer ∧ s.limitSlots.hal = s.hal ∧ s.limitSlots.ctl = s.ctl := ⟨rfl, rfl, rfl⟩

theorem State.exportFloor_keeps (s : State) (ref : Nat) (job : Bool) :
    (s.exportFloor ref job).2.peer = s.peer ∧ (s.exportFloor ref job).2.hal = s.hal ∧ (s.exportFloor ref job).2.ctl = s.ctl := by
  unfold State.exportFloor
  extract_lets k ceiling
  generalize ceiling = x
  split
  · exact ⟨rfl, rfl, rfl⟩
  · split
    · obtain ⟨peer, hal, ctl⟩ := State.limitSlots_rest
        ((s.modKeyRef ref fun k => { k with exported := true, ceiling := some x }).log 8 (.setting 0x00F00006 ref x))
      exact ⟨peer, hal, ctl⟩
    · exact ⟨rfl, rfl, rfl⟩

/-- One key reference's counter floor is fixed, and its export begun (R365). -/
def fixFloor (acc : List (Nat × Nat) × State) (ref : Nat) : List (Nat × Nat) × State :=
  (acc.1 ++ [(ref, (acc.2.exportFloor ref true).1)], (acc.2.exportFloor ref true).2)
/-- The counter floors of the key references that a job sends, and the state in which they are exported. -/
def State.fixFloors (s : State) (refs : List Nat) : List (Nat × Nat) × State := refs.foldl fixFloor ([], s)

theorem foldl_fixFloor_keeps (refs : List Nat) (acc : List (Nat × Nat) × State) : (refs.foldl fixFloor acc).2.peer = acc.2.peer ∧
    (refs.foldl fixFloor acc).2.hal = acc.2.hal ∧ (refs.foldl fixFloor acc).2.ctl = acc.2.ctl := by
  induction refs generalizing acc with
  | nil => exact ⟨rfl, rfl, rfl⟩
  | cons ref refs ih =>
    obtain ⟨peer, hal, ctl⟩ := acc.2.exportFloor_keeps ref true
    obtain ⟨peer', hal', ctl'⟩ := ih (fixFloor acc ref)
    exact ⟨peer'.trans peer, hal'.trans hal, ctl'.trans ctl⟩

theorem State.fixFloors_keeps (s : State) (refs : List Nat) :
    (s.fixFloors refs).2.peer = s.peer ∧ (s.fixFloors refs).2.hal = s.hal ∧ (s.fixFloors refs).2.ctl = s.ctl := foldl_fixFloor_keeps refs ([], s)

@[simp] theorem State.sendManifest_job? (s : State) (j : Job) (zi id : Nat) : (s.sendManifest j zi).job? id = s.job? id := by
  unfold State.sendManifest
  split
  · rfl
  · exact State.sendOp_job? _ _ _ _ _ _

@[simp] theorem State.carryKey_job? (s : State) (j : Job) (ref id : Nat) : (s.carryKey j ref).job? id = s.job? id := by
  unfold State.carryKey
  split
  · rfl
  · exact State.sendOp_job? _ _ _ _ _ _

/-- A job that runs once its Offer has been answered. -/
def Job.started (j : Job) (floors streams : List (Nat × Nat)) (frame : Nat) : Job :=
  { j with floors := floors, streams := streams }.divide.entered .running 0 frame

/-- The update that starts a job over paths. -/
def State.beginJob (s : State) (id : Nat) (floors : List (Nat × Nat)) (paths : List Path) : State :=
  ((s.modJob id fun j => { j with floors := floors, streams := State.chooseStreams (min 3 (max 1 j.maxStreams)) paths }).modJob id Job.divide).setJob id
    .running 0

theorem State.beginJob_job? {s : State} {id : Nat} {j : Job} (found : s.job? id = some j) (floors : List (Nat × Nat)) (paths : List Path) :
    (s.beginJob id floors paths).job? id = some (j.started floors (State.chooseStreams (min 3 (max 1 j.maxStreams)) paths) s.clk.frame) := by
  rw [State.beginJob, State.setJob_job?, State.modJob_job? _ _ Job.divide_ident, State.modJob_job? _ _ fun _ => (by rfl), found]
  rfl

section
variable {d : Digest} {ok : Bool} {st id a b : Nat} {s : State}

theorem exec_answer : exec (.answer d ok st id a b) s = execAnswer d ok st id a b s := rfl

theorem execAnswer_unknown (noJob : s.job? id = none) (noMirror : s.mirror? id = none) : exec (.answer d ok st id a b) s = .next s := by
  simp [exec_answer, execAnswer, noJob, noMirror]

section
variable {j : Job} (found : s.job? id = some j)
include found

theorem execAnswer_foreign (foreign : j.source = false ∨ j.partner ≠ d ∨ j.state ≠ .offered) : exec (.answer d ok st id a b) s = .next s := by
  rcases foreign with e | e | e <;> simp [exec_answer, execAnswer, found, e]

variable (source : j.source = true) (partner : j.partner = d) (offered : j.state = .offered)
include source partner offered

theorem execAnswer_refused : exec (.answer d false st id a b) s = .next (s.stopJob id (if st = 0 then 0x0704 else st) false) := by
  simp [exec_answer, execAnswer, found, source, partner, offered]

/-- An accepting Answer starts the job, which is then looked at for its end. -/
theorem execAnswer_starts : ∃ (t : State) (floors : List (Nat × Nat)) (frame : Nat), exec (.answer d true st id a b) s = .next (t.completeJob id) ∧
    t.job? id = some (j.started floors (State.chooseStreams (min 3 (max 1 j.maxStreams)) (s.goodPaths d)) frame) := by
  let refs := dedupN ((j.zones.filter fun z => z.phase == 0).map fun z => (s.zone j.nsid z.zone).keyRef)
  obtain ⟨peer, hal, ctl⟩ := s.fixFloors_keeps refs
  let u := (s.fixFloors refs).2.beginJob id (s.fixFloors refs).1 ((s.fixFloors refs).2.goodPaths d)
  have started := State.beginJob_job? ((State.job?_of_peer peer id).trans found) (s.fixFloors refs).1 ((s.fixFloors refs).2.goodPaths d)
  have row : exec (.answer d true st id a b) s =
      let k := j.started (s.fixFloors refs).1 (State.chooseStreams (min 3 (max 1 j.maxStreams)) ((s.fixFloors refs).2.goodPaths d))
        (s.fixFloors refs).2.clk.frame
      .next ((each refs (fun s ref => if ref == 0 then s else s.carryKey k ref)
        (each ((k.zones.filter (·.phase == 0)).map (·.zone)) (fun s z => s.sendManifest k z) u)).completeJob id) := by
    simp only [exec_answer, execAnswer, found, source, partner, offered, Bool.not_true, bne_self_eq_false, Bool.or_self, Bool.false_eq_true, if_false]
    split
    next lost => exact absurd (started.symm.trans lost) (Option.some_ne_none _)
    next k at_ =>
      rw [← Option.some.inj (started.symm.trans at_)]
      rfl
  rw [row, ← State.goodPaths_of hal ctl d]
  refine ⟨_, (s.fixFloors refs).1, (s.fixFloors refs).2.clk.frame, rfl, ?_⟩
  refine (each_view (fun s => s.job? id) _ (fun s ref => ?_) _ _).trans
    ((each_view (fun s => s.job? id) _ (fun _ _ => State.sendManifest_job? _ _ _ _) _ _).trans started)
  split
  · rfl
  · exact State.carryKey_job? _ _ _ _

theorem execAnswer_runs (waits : ∃ z ∈ j.zones, z.phase = 0) : Answers (exec (.answer d true st id a b) s) fun t => ∃ x, t.job? id = some x ∧
    x.state = .running ∧ x.streams = State.chooseStreams (min 3 (max 1 j.maxStreams)) (s.goodPaths d) := by
  obtain ⟨t, floors, frame, row, at_⟩ := execAnswer_starts (st := st) (a := a) (b := b) found source partner offered
  have open_ : (j.zones.all JobZone.settled) = false := by
    obtain ⟨z, mem, phase⟩ := waits
    exact any_settled.mpr ⟨z, mem, by simp [JobZone.settled, phase]⟩
  refine Answers.of row ?_
  rw [State.completeJob_stands at_ (Job.completes_open (any_settled.mp ((Job.divide_settled _).trans open_))), at_]
  exact ⟨_, rfl, rfl, Job.divide_streams _⟩

theorem execAnswer_completes (settled : ∀ z ∈ j.zones, z.settled = true) : Answers (exec (.answer d true st id a b) s) fun t =>
    ∃ x, t.job? id = some x ∧ x.state = .complete := by
  obtain ⟨t, floors, frame, row, at_⟩ := execAnswer_starts (st := st) (a := a) (b := b) found source partner offered
  have closed : (j.started floors (State.chooseStreams (min 3 (max 1 j.maxStreams)) (s.goodPaths d)) frame).zones.all JobZone.settled = true :=
    (Job.divide_settled _).trans (List.all_eq_true.mpr settled)
  refine Answers.of row ?_
  rw [State.completeJob_job? at_, Job.completes_of rfl (List.all_eq_true.mp closed) (.inl ((Job.divide_source _).trans source))]
  exact ⟨_, rfl, rfl⟩
end
end

end Sys2Proof.Machine
end

section
/-! SUPPORT. The messages of a migration job: what a destination takes or refuses of a zone and of a key, checkpoints and cut-over, zones that leave
the job, suspension, resumption and end (R363 to R366, R368, R369, R371 to R377, R385). -/

namespace Sys2Proof.Machine

/-! ## The entry of a key -/

section
variable {s : State} {fp : Digest} {salt : BitVec 32} {floor : Nat}

/-- Whether an entry can be taken depends on the keys alone. -/
theorem State.takeEntry_of_keys {t : State} (same : t.keys = s.keys) : (t.takeEntry fp salt floor).isNone = (s.takeEntry fp salt floor).isNone := by
  have ref : t.refOf fp = s.refOf fp := by simp only [State.refOf, same]
  have next : t.nextRef = s.nextRef := by simp only [State.nextRef, same]
  simp only [State.takeEntry, ref, next, same]
  split
  · simp only [Option.isNone_some]
  · split
    · split <;> simp only [Option.isNone_some, Option.isNone_none]
    · split <;> simp only [Option.isNone_some, Option.isNone_none]

theorem State.raiseFloor_peer (s : State) (ref floor : Nat) : (s.raiseFloor ref floor).peer = s.peer := rfl
theorem State.addEntry_peer (s : State) (e : KeyEntry) : (s.addEntry e).peer = s.peer := rfl

theorem State.takeEntry_peer {p : Nat × State} (took : s.takeEntry fp salt floor = some p) : p.2.peer = s.peer := by
  unfold State.takeEntry at took
  split at took
  · rw [← Option.some.inj took]
  · split at took
    · dsimp only at took
      split at took
      · rw [← Option.some.inj took, State.raiseFloor_peer]
      · exact absurd took (Option.some_ne_none p).symm
    · split at took
      · rw [← Option.some.inj took, State.raiseFloor_peer, State.addEntry_peer]
      · exact absurd took (Option.some_ne_none p).symm

theorem State.takeEntry_zero (s : State) (salt : BitVec 32) (floor : Nat) : s.takeEntry 0 salt floor = some (0, s) := by
  unfold State.takeEntry
  exact if_pos (beq_self_eq_true _)

variable (tenant : fp ≠ 0)
include tenant

theorem State.takeEntry_conflict {ref : Nat} (known : s.refOf fp = some ref) (used : ref ≠ 0)
    (conflict : ∀ e ∈ s.keys.register, e.number = ref → e.salt ≠ salt) : s.takeEntry fp salt floor = none := by
  have other : (s.keys.register.any fun e => e.number == ref && e.salt == salt) = false := by simpa using conflict
  simp only [State.takeEntry, beq_eq_false_iff_ne.mpr tenant, known, beq_eq_false_iff_ne.mpr used, other, Bool.or_self, Bool.false_eq_true, if_false]

theorem State.takeEntry_full (new : s.refOf fp = none) (full : s.nextRef = none) : s.takeEntry fp salt floor = none := by
  simp only [State.takeEntry, beq_eq_false_iff_ne.mpr tenant, new, full, Bool.false_eq_true, if_false]
end

/-! ## A manifest -/

theorem State.genFree_of_segment {s : State} {gen : Nat} (named : ∃ g ∈ s.media.segs, g.gen = gen) : s.genFree gen = false := by
  have any_ : (s.media.segs.any fun g => g.gen == gen) = true := by simpa using named
  simp [State.genFree, any_]

/-- What a manifest is refused for does not depend on the jobs. -/
theorem State.modPeer_refusal (s : State) (f : Peer → Peer) (j : Job) (n : Namespace) (m : Manifest) : (s.modPeer f).refusal j n m = s.refusal j n m := by
  have entry := State.takeEntry_of_keys (s := s) (t := s.modPeer f) (fp := m.keyFp) (salt := m.salt) (floor := m.floor) rfl
  simp only [State.refusal, entry]
  rfl

section
variable {s : State} {j : Job} {n : Namespace} {m : Manifest} {k : PClass} (class_ : s.classFields n j.cls = some k)

theorem State.refusal_version (other : m.version / 16 ≠ 1) : s.refusal j n m = some 8 := by
  simp [State.refusal, other]

variable (version : m.version / 16 = 1)
include version

theorem State.refusal_zone (beyond : n.zoneCount ≤ m.zone) : s.refusal j n m = some 2 := by
  simp [State.refusal, version, beyond]

variable (inside : m.zone < n.zoneCount)
include class_ inside

theorem State.refusal_capacity (large : zoneCapacity s.profile k.width n.segsPerZone < m.written) : s.refusal j n m = some 3 := by
  simp [State.refusal, version, Nat.not_le.mpr inside, class_, large]

variable (fits : m.written ≤ zoneCapacity s.profile k.width n.segsPerZone)
include fits

theorem State.refusal_generation (used : s.genFree m.generation = false) : s.refusal j n m = some 4 := by
  simp [State.refusal, version, Nat.not_le.mpr inside, class_, Nat.not_lt.mpr fits, used]

variable (free : s.genFree m.generation = true)
include free

theorem State.refusal_key : s.refusal j n m = if (s.takeEntry m.keyFp m.salt m.floor).isNone then some 5 else none := by
  simp [State.refusal, version, Nat.not_le.mpr inside, class_, Nat.not_lt.mpr fits, free]
end

/-- Every manifest whose key cannot be taken is refused. -/
theorem State.takeEntry_of_refusal {s : State} {j : Job} {n : Namespace} {m : Manifest} (none_ : s.refusal j n m = none) :
    ∃ p, s.takeEntry m.keyFp m.salt m.floor = some p := by
  refine Option.isSome_iff_exists.mp (Option.isSome_iff_ne_none.mpr fun lost => ?_)
  unfold State.refusal at none_
  extract_lets cap at none_
  rw [lost] at none_
  split_ifs at none_ with _ _ _ _ taken
  exact taken rfl

section
variable {d : Digest} {m : Manifest} {s : State}

theorem execZoneManifest_unknown (none_ : s.job? m.job = none) : execZoneManifest d m s = .next s := by
  simp [execZoneManifest, none_]

/-- A job with the zone of a manifest. -/
def Job.listZone (j : Job) (m : Manifest) : Job := { j with zones := putBy JobZone.zone { zone := m.zone, manifest := some m } j.zones }
def State.listZone (s : State) (j : Job) (m : Manifest) : State := s.modJob j.ident (Job.listZone · m)

theorem Job.listZone_mem (j : Job) (m : Manifest) : { zone := m.zone, manifest := some m } ∈ (j.listZone m).zones :=
  List.mem_of_find?_eq_some (find?_putBy_same JobZone.zone { zone := m.zone, manifest := some m } j.zones)

variable {j : Job} {n : Namespace} (found : s.job? m.job = some j) (destination : j.source = false) (partner : j.partner = d)
  (running : j.state = .running) (fresh : ∀ z ∈ j.zones, z.zone = m.zone → z.phase = 0 ∧ z.manifest = none) (lands : s.ns? j.nsid = some n)
include found destination partner running fresh lands

theorem execZoneManifest_listed : ∃ u : State, execZoneManifest d m s = .next u ∧
    (∀ r, s.refusal j n m = some r → u = (s.listZone j m).refuseZone j m.zone r) ∧
    (s.refusal j n m = none → ∃ p, (s.listZone j m).takeEntry m.keyFp m.salt m.floor = some p ∧ u = p.2.modJob j.ident Job.divide) := by
  have new : (j.zones.any fun z => z.zone == m.zone && (z.phase != 0 || z.manifest.isSome)) = false := by
    rw [List.any_eq_false]
    intro z mem
    by_cases at_ : z.zone = m.zone
    · obtain ⟨phase, manifest⟩ := fresh z mem at_
      simp [phase, manifest]
    · simp [at_]
  have same : (s.listZone j m).refusal j n m = s.refusal j n m := State.modPeer_refusal s _ j n m
  rw [← same]
  refine ⟨_, by
    simp only [execZoneManifest, found, destination, partner, running, new, lands, bne_self_eq_false, Bool.or_self, Bool.false_eq_true, if_false]
    rfl, fun r refused => ?_, fun importable => ?_⟩
  · split
    next importable _ => exact absurd (refused.symm.trans importable) (Option.some_ne_none r)
    next r' refused' => rw [Option.some.inj (refused.symm.trans refused')]; rfl
    next importable _ => exact absurd (refused.symm.trans importable) (Option.some_ne_none r)
  · obtain ⟨p, took⟩ := State.takeEntry_of_refusal importable
    refine ⟨p, took, ?_⟩
    split
    next t _ took' => rw [← Option.some.inj (took'.symm.trans took)]
    next r refused => exact absurd (refused.symm.trans importable) (Option.some_ne_none r)
    next lost => exact absurd (took.symm.trans lost) (Option.some_ne_none p)

theorem execZoneManifest_refused {r : Nat} (refused : s.refusal j n m = some r) :
    execZoneManifest d m s = .next ((s.listZone j m).refuseZone j m.zone r) := by
  obtain ⟨u, row, refuses, -⟩ := execZoneManifest_listed found destination partner running fresh lands
  rw [row, refuses r refused]

theorem execZoneManifest_taken (importable : s.refusal j n m = none) : Answers (execZoneManifest d m s) fun t =>
    ∃ x, t.job? m.job = some x ∧ x.state = .running ∧ ∃ z ∈ x.zones, z.zone = m.zone ∧ z.manifest = some m ∧ z.phase = 0 := by
  obtain ⟨u, row, -, takes⟩ := execZoneManifest_listed found destination partner running fresh lands
  obtain ⟨p, took, rfl⟩ := takes importable
  have own := State.job?_ident found
  have listed : p.2.job? m.job = some (j.listZone m) := by
    rw [State.job?_of_peer (State.takeEntry_peer took), State.listZone, own, State.modJob_job? _ _ fun _ => (by rfl), found]
    rfl
  refine Answers.of row ?_
  rw [own, State.modJob_job? _ _ Job.divide_ident, listed]
  exact ⟨_, rfl, (Job.divide_state _).trans running, Job.divide_mem (j.listZone_mem m)⟩
end

/-! ## A carried key (R366) -/

section
variable {d fp : Digest} {pt : PubKey} {w : BitVec 320} {id : Nat} {s : State} {j : Job} (found : s.job? id = some j)
include found

theorem execKeyCarry_foreign (foreign : j.source = true ∨ j.partner ≠ d ∨ j.state ≠ .running ∨ onCurve pt = false) :
    execKeyCarry d fp pt w id s = .next s := by
  rcases foreign with e | e | e | e <;> simp [execKeyCarry, found, e]

variable {n : Namespace} {raw : List Nat} {ref slot : Nat} (destination : j.source = false) (partner : j.partner = d) (running : j.state = .running)
  (curve : onCurve pt = true) (lands : s.ns? j.nsid = some n)
  (opens : kwUnwrap (importKey (ecdh s.fuses.transportPriv.toNat pt) s.ownFp d) (bytesLE 40 w.toNat) = some raw) (known : s.refOf fp = some ref)
  (free : ((s.slotsOf n.origin).find? fun k => (s.slot k).state == .empty) = some slot)
include destination partner running curve lands opens known free

theorem execKeyCarry_opens : execKeyCarry d fp pt w id s = .next (
    if ref == 0 || keyFingerprint raw != fp || (s.refHolder ref slot).isSome then s
    else s.putKey slot (BitVec.ofNat 256 (ofBytesLE raw)) ref false) := by
  simp only [execKeyCarry, found, destination, partner, running, curve, lands, opens, known, Option.map_some, Option.getD_some, free,
    bne_self_eq_false, Bool.not_true, Bool.or_self, Bool.false_eq_true, if_false]

theorem execKeyCarry_loads (used : ref ≠ 0) (print : keyFingerprint raw = fp) (unheld : s.refHolder ref slot = none) :
    execKeyCarry d fp pt w id s = .next (s.putKey slot (BitVec.ofNat 256 (ofBytesLE raw)) ref false) := by
  rw [execKeyCarry_opens found destination partner running curve lands opens known free, if_neg (by simp [used, print, unheld])]

theorem execKeyCarry_refused (bad : ref = 0 ∨ keyFingerprint raw ≠ fp ∨ (s.refHolder ref slot).isSome = true) :
    execKeyCarry d fp pt w id s = .next s := by
  rw [execKeyCarry_opens found destination partner running curve lands opens known free, if_pos (by simpa [or_assoc] using bad)]
end

/-! ## Checkpoints and cut-over (R373, R374, R376) -/

section
variable {d : Digest} {id zone g ch : Nat} {s : State}

theorem execCheckpoint_unknown (none_ : s.job? id = none) : execCheckpoint d id zone ch s = .next s := by
  simp [execCheckpoint, none_]

section
variable {j : Job} (found : s.job? id = some j)
include found

theorem execCheckpoint_keeps (source : j.source = true) (partner : j.partner = d) : Answers (execCheckpoint d id zone ch s) fun t =>
    ∃ x, t.job? id = some x ∧ x.state = j.state ∧ x.zones.length = j.zones.length ∧ ∀ z ∈ x.zones, z.zone = zone → ch ≤ z.chunks ∧ z.phase ≠ 0 := by
  have row : execCheckpoint d id zone ch s = .next ((s.setJobZone id zone fun z => { z with
      chunks := max z.chunks ch, phase := if z.phase == 0 then 1 else z.phase }).log 8 (.setting 0x00F00005 zone ch)) := by
    simp only [execCheckpoint, found, source, partner, beq_self_eq_true, Bool.and_self, if_true]
  refine Answers.of row ?_
  rw [State.log_job?, State.setJobZone_job?, found]
  refine ⟨_, rfl, rfl, List.length_map _, updIf_sets fun z _ _ => ⟨Nat.le_max_right _ _, ?_⟩⟩
  dsimp only
  split
  next => exact Nat.one_ne_zero
  next started => simpa using started

theorem execCutOverReady_foreign (foreign : j.source = false ∨ j.partner ≠ d ∨ (s.zone j.nsid zone).gen ≠ g) :
    execCutOverReady d id zone g s = .next s := by
  rcases foreign with e | e | e <;> simp [execCutOverReady, found, e]

section
variable (source : j.source = true) (partner : j.partner = d) (gen : (s.zone j.nsid zone).gen = g) {z : JobZone}
  (listed : (j.zones.find? fun z => z.zone == zone) = some z)
include source partner gen listed

theorem execCutOverReady_again (done : z.phase = 2) : execCutOverReady d id zone g s = .next (s.sendOp d 0x06 [2, id, zone, g]) := by
  simp [execCutOverReady, found, source, partner, gen, listed, done]

theorem execCutOverReady_settles (live : j.live = true) (open_ : z.phase = 0 ∨ z.phase = 1) : Answers (execCutOverReady d id zone g s) fun t =>
    ∃ x, t.job? id = some x ∧ (∀ y ∈ x.zones, y.zone = zone → y.phase = 2) ∧ x.changed = s.clk.frame := by
  have row : execCutOverReady d id zone g s = .next (((((s.settleZone id zone fun z => { z with phase := 2 }).log 8
      (.setting 0x00F00005 zone 0xFFFFFFFF)).sendOp d 0x06 [2, id, zone, g]).raise 597 1 0 [id, zone]).completeJob id) := by
    rcases open_ with e | e
    · simp [execCutOverReady, found, source, partner, gen, listed, live, e, State.settleZone]
    · simp [execCutOverReady, found, source, partner, gen, listed, live, e, State.settleZone]
  exact Answers.of row (State.settled_zones (fun z => { z with phase := 2 }) found (by simp) (by simp) fun _ _ _ => rfl)
end

theorem execCutOverConfirmed_idle (idle : ∀ z ∈ j.zones, z.zone = zone → z.phase ≠ 5) : execCutOverConfirmed d id zone g s = .next s := by
  have none_ : (j.zones.any fun z => z.zone == zone && z.phase == 5 && z.manifest.any (·.generation == g)) = false := by
    rw [List.any_eq_false]
    intro z mem at_
    simp only [Bool.and_eq_true, beq_iff_eq] at at_
    obtain ⟨⟨own, ready⟩, -⟩ := at_
    exact idle z mem own ready
  simp [execCutOverConfirmed, found, none_]

theorem execCutOverConfirmed_settles (destination : j.source = false) (partner : j.partner = d)
    (ready : ∃ z ∈ j.zones, ∃ m, z.zone = zone ∧ z.phase = 5 ∧ z.manifest = some m ∧ m.generation = g) :
    Answers (execCutOverConfirmed d id zone g s) fun t => ∃ x, t.job? id = some x ∧ ∀ y ∈ x.zones, y.zone = zone → y.phase = 2 := by
  have any_ : (j.zones.any fun z => z.zone == zone && z.phase == 5 && z.manifest.any (·.generation == g)) = true := by
    obtain ⟨z, mem, m, own, phase, manifest, gen⟩ := ready
    exact List.any_eq_true.mpr ⟨z, mem, by simp [own, phase, manifest, gen]⟩
  have row : execCutOverConfirmed d id zone g s = .next (((s.settleZone id zone fun z => { z with phase := 2 }).log 8
      (.setting 0x00F00005 zone 0xFFFFFFFF)).completeJob id) := by
    simp [execCutOverConfirmed, found, destination, partner, any_, State.settleZone]
  obtain ⟨x, at_, zones, -⟩ := State.settled_zones (P := fun y => y.phase = 2) (fun z => { z with phase := 2 }) found
    (State.log_job? _ id _ _) (by simp) fun _ _ _ => rfl
  exact Answers.of row ⟨x, at_, zones⟩

/-! ## Zones that leave a job (R363, R372, R374) -/

section
variable {rs : Nat}

theorem execZoneWithdrawn_ended (ended : j.live = false) : execZoneWithdrawn d rs id zone s = .next s := by
  simp [execZoneWithdrawn, found, ended]

theorem execZoneRefused_ended (ended : j.live = false) : execZoneRefused d rs id zone s = .next s := by
  simp [execZoneRefused, found, ended]

variable (partner : j.partner = d) (live : j.live = true)
include partner live

theorem execZoneWithdrawn_leaves (open_ : ∃ z ∈ j.zones, z.zone = zone ∧ z.settled = false) : Answers (execZoneWithdrawn d rs id zone s) fun t =>
    ∃ x, t.job? id = some x ∧ ∀ y ∈ x.zones, y.zone = zone → y.phase = 3 ∧ y.reason = rs ∧ y.pieces = [] := by
  have any_ : (j.zones.any fun z => z.zone == zone && ! z.settled) = true := by
    obtain ⟨z, mem, own, unsettled⟩ := open_
    exact List.any_eq_true.mpr ⟨z, mem, by simp [own, unsettled]⟩
  let u := (if j.source then s else s.returnZone j.nsid zone).dropHReqs fun r => ofOp id r && r.zone == zone && ! r.sent
  have row : execZoneWithdrawn d rs id zone s =
      .next ((u.settleZone id zone fun z => { z with phase := 3, reason := rs, pieces := [] }).completeJob id) := by
    simp [execZoneWithdrawn, found, partner, live, any_, State.settleZone, u]
  have kept : u.job? id = some j := by
    rw [State.dropHReqs_job?]
    split
    · exact found
    · rw [State.returnZone_job?, found]
  obtain ⟨x, at_, zones, -⟩ := State.settled_zones (P := fun y => y.phase = 3 ∧ y.reason = rs ∧ y.pieces = [])
    (fun z => { z with phase := 3, reason := rs, pieces := [] }) kept rfl (by simp [u]) fun _ _ _ => ⟨rfl, rfl, rfl⟩
  exact Answers.of row ⟨x, at_, zones⟩

theorem execZoneRefused_leaves : Answers (execZoneRefused d rs id zone s) fun t =>
    ∃ x, t.job? id = some x ∧ ∀ y ∈ x.zones, y.zone = zone → y.phase = 4 ∧ y.reason = rs ∧ y.pieces = [] := by
  have row : execZoneRefused d rs id zone s =
      .next ((s.settleZone id zone fun z => { z with phase := 4, reason := rs, pieces := [] }).completeJob id) := by
    simp [execZoneRefused, found, partner, live, State.settleZone]
  obtain ⟨x, at_, zones, -⟩ := State.settled_zones (P := fun y => y.phase = 4 ∧ y.reason = rs ∧ y.pieces = [])
    (fun z => { z with phase := 4, reason := rs, pieces := [] }) found rfl (by simp) fun _ _ _ => ⟨rfl, rfl, rfl⟩
  exact Answers.of row ⟨x, at_, zones⟩
end
end
end

/-! ## A request that has failed (R369, R371) -/

section
variable {d : Digest} {st tag id : Nat} {s : State}

theorem execRequestStatus_unknown
    (none_ : (s.hal.reqs.find? fun r => ofOp id r && r.tag == tag && s.peerOf r.port r.label == some d) = none) :
    execRequestStatus d st tag id s = .next s := by
  simp [execRequestStatus, none_]

variable {r : HReq} {j : Job} (failed : (s.hal.reqs.find? fun r => ofOp id r && r.tag == tag && s.peerOf r.port r.label == some d) = some r)
  (read : r.op ≠ 3) (found : s.job? id = some j) (open_ : ∀ z ∈ j.zones, z.zone = r.zone → z.settled = false)
include failed read found open_

theorem execRequestStatus_job : execRequestStatus d st tag id s = .next (
    if j.zones.any (fun z => z.zone == r.zone && z.retried) then (s.dropHReqs fun x => x == r).refuseZone j r.zone 6
    else (s.dropHReqs fun x => x == r).setJobZone id r.zone fun z => { z with retried := true }) := by
  have unsettled : (j.zones.any fun z => z.zone == r.zone && z.settled) = false := by
    rw [List.any_eq_false]
    intro z mem
    simpa using open_ z mem
  have kept : (s.dropHReqs fun x => x == r).job? id = some j := by rw [State.dropHReqs_job?, found]
  simp only [execRequestStatus, failed, kept]
  split
  next write _ => exact absurd write read
  next _ _ same _ =>
    cases same
    rw [if_neg (Bool.eq_false_iff.mp unsettled)]
  next lost _ => cases lost
  next none_ _ _ => exact (none_ j rfl).elim

theorem execRequestStatus_refuses (again : ∃ z ∈ j.zones, z.zone = r.zone ∧ z.retried = true) :
    execRequestStatus d st tag id s = .next ((s.dropHReqs fun x => x == r).refuseZone j r.zone 6) := by
  rw [execRequestStatus_job failed read found open_, if_pos (by simpa using again)]

theorem execRequestStatus_retries (first : ∀ z ∈ j.zones, z.zone = r.zone → z.retried = false) :
    execRequestStatus d st tag id s = .next ((s.dropHReqs fun x => x == r).setJobZone id r.zone fun z => { z with retried := true }) := by
  rw [execRequestStatus_job failed read found open_, if_neg (by simpa using first)]
end

/-! ## Suspension, resumption and end (R368, R376, R377) -/

/-- A job that runs again over the paths given. -/
def Job.resumed (j : Job) (streams : List (Nat × Nat)) : Job := { j with
  streams := streams
  zones := j.zones.map fun z =>
    if z.settled then z else { z with stream := streams.head?, phase := if ! j.source && z.phase == 5 then 1 else z.phase } }

section
variable {d : Digest} {a cause id : Nat} {s : State}

theorem State.resumeJob_job? {j : Job} (found : s.job? id = some j) (streams : List (Nat × Nat)) : ∃ x, (s.resumeJob id streams).job? id = some x ∧
    x.state = .running ∧ x.streams = streams := by
  have row : s.resumeJob id streams = (((s.modJob id (Job.resumed · streams)).modJob id Job.divide).setJob id .running 0) := rfl
  rw [row, State.setJob_job?, State.modJob_job? _ _ Job.divide_ident, State.modJob_job? _ _ fun _ => (by rfl), found]
  exact ⟨_, rfl, rfl, Job.divide_streams _⟩

theorem exec_suspend : exec (.suspend d a cause id) s = execSuspend d a cause id s := rfl
theorem exec_resume : exec (.resume d a cause id) s = execResume d a cause id s := rfl

theorem execResume_unknown (noJob : s.job? id = none) (noMirror : s.mirror? id = none) :
    exec (.resume d a cause id) s = .next (s.sendOp d 0x09 [3, JobState.stopped.num, 0x0105, id]) := by
  simp [exec_resume, execResume, noJob, noMirror]

variable {j : Job} (found : s.job? id = some j)
include found

theorem execSuspend_idle (idle : j.partner ≠ d ∨ j.state ≠ .running) : exec (.suspend d a cause id) s = .next s := by
  rcases idle with e | e
  · simp [exec_suspend, execSuspend, found, e]
  · simp [exec_suspend, execSuspend, State.suspendJob, found, e]

theorem execSuspend_suspends (partner : j.partner = d) (running : j.state = .running) : Answers (exec (.suspend d a cause id) s) fun t =>
    ∃ x, t.job? id = some x ∧ x.state = .suspended ∧ x.cause = cause ∧ x.streams = [] ∧ x.suspendedAt = some s.clk.frame := by
  have row : exec (.suspend d a cause id) s = .next (((s.dropHReqs (ofOp id)).modJob id fun j => { j with
      streams := [], zones := j.zones.map fun z => { z with stream := none, pieces := [] } }).setJob id .suspended cause) := by
    simp [exec_suspend, execSuspend, State.suspendJob, found, partner, running]
  have frame : (s.dropHReqs (ofOp id)).clk = s.clk := congrArg Steady.clk (s.dropHReqs_steady _)
  refine Answers.of row ?_
  rw [State.setJob_job?, State.modJob_job? _ _ fun _ => (by rfl), State.dropHReqs_job?, found]
  exact ⟨_, rfl, rfl, rfl, rfl, congrArg (fun c : Clock => some c.frame) frame⟩

section
variable (partner : j.partner = d)
include partner

theorem execResume_resumes (suspended : j.state = .suspended) : Answers (exec (.resume d a cause id) s) fun t => ∃ x, t.job? id = some x ∧
    x.state = .running ∧ x.streams = State.chooseStreams (min 3 (max 1 j.maxStreams)) (s.goodPaths d) := by
  have row : exec (.resume d a cause id) s = .next (s.resumeJob id (State.chooseStreams (min 3 (max 1 j.maxStreams)) (s.goodPaths d))) := by
    simp [exec_resume, execResume, found, partner, suspended]
  exact ⟨_, row, State.resumeJob_job? found _⟩

theorem execResume_ended (ended : j.state = .stopped ∨ j.state = .complete) :
    exec (.resume d a cause id) s = .next (s.sendOp d 0x09 [3, j.state.num, j.cause, id]) := by
  rcases ended with e | e <;> simp [exec_resume, execResume, found, partner, e]

theorem execResume_idle (idle : j.state = .offered ∨ j.state = .running) : exec (.resume d a cause id) s = .next s := by
  rcases idle with e | e <;> simp [exec_resume, execResume, found, partner, e]

variable (live : j.live = true)
include live

theorem execEndOp_completes : Answers (execEndOp d JobState.complete.num cause id s) fun t =>
    ∃ x, t.job? id = some x ∧ x.state = .complete ∧ x.streams = [] := by
  have row : execEndOp d JobState.complete.num cause id s = .next ((s.closePeerJob j).setJob id .complete 0) := by
    simp [execEndOp, found, partner, live]
  exact ⟨_, row, _, State.endJob_job? found _ _, rfl, rfl⟩

theorem execEndOp_stops {st : Nat} (other : st ≠ JobState.complete.num) : Answers (execEndOp d st cause id s) fun t =>
    ∃ x, t.job? id = some x ∧ x.state = .stopped ∧ x.cause = cause := by
  have row : execEndOp d st cause id s = .next (s.stopJob id cause false) := by
    simp [execEndOp, found, partner, live, other]
  exact ⟨_, row, State.stopJob_job? found live _ _⟩
end

section
variable {port label : Nat}

theorem execJobResume_idle (idle : j.state ≠ .suspended ∨ s.isPaired j.partner = false) : execJobResume id port label s = .next s := by
  rcases idle with e | e <;> simp [execJobResume, found, e]

theorem execJobResume_runs (suspended : j.state = .suspended) (paired : s.isPaired j.partner = true)
    (path : ∃ p ∈ s.pathsTo j.partner, p.port = port ∧ p.label = label ∧ p.latency ≤ s.pathBudget) :
    Answers (execJobResume id port label s) fun t => ∃ x, t.job? id = some x ∧ x.state = .running ∧ x.streams = [(port, label)] := by
  have row : execJobResume id port label s = .next ((s.resumeJob id [(port, label)]).sendOp j.partner 0x09 [2, JobState.running.num, 0, id]) := by
    simp [execJobResume, found, suspended, paired, State.goodPaths_any.mpr path]
  refine Answers.of row ?_
  rw [State.sendOp_job?]
  exact State.resumeJob_job? found _

theorem execStreamAdd_idle (idle : j.state ≠ .running ∨ min 3 j.maxStreams ≤ j.streams.length ∨ ∃ p ∈ j.streams, p.1 = port) :
    execStreamAdd id port label s = .next s := by
  rcases idle with e | e | e
  · simp [execStreamAdd, found, e]
  · simp only [execStreamAdd, found, e, decide_true, Bool.or_true, Bool.true_or, if_true]
  · have used : (j.streams.any fun p => p.1 == port) = true := by simpa using e
    simp only [execStreamAdd, found, used, Bool.or_true, Bool.true_or, if_true]

theorem execStreamAdd_adds (running : j.state = .running) (room : j.streams.length < min 3 j.maxStreams) (free : ∀ p ∈ j.streams, p.1 ≠ port)
    (path : ∃ p ∈ s.pathsTo j.partner, p.port = port ∧ p.label = label ∧ p.latency ≤ s.pathBudget) :
    Answers (execStreamAdd id port label s) fun t => ∃ x, t.job? id = some x ∧ x.state = .running ∧ x.streams = j.streams ++ [(port, label)] := by
  have unused : (j.streams.any fun p => p.1 == port) = false := by simpa using free
  have row : execStreamAdd id port label s =
      .next ((s.modJob id fun j => { j with streams := j.streams ++ [(port, label)] }).modJob id Job.divide) := by
    simp only [execStreamAdd, found, running, decide_eq_false (Nat.not_le.mpr room), unused, State.goodPaths_any.mpr path]
    rfl
  refine Answers.of row ?_
  rw [State.modJob_job? _ _ Job.divide_ident, State.modJob_job? _ _ fun _ => (by rfl), found]
  exact ⟨_, rfl, (Job.divide_state _).trans running, Job.divide_streams _⟩
end

/-! ## The resume window (R376, R385) -/

omit found in
/-- The window counts frames of 16 µs. -/
theorem State.resumeWindow_eq (s : State) : s.resumeWindow = s.ctlValue ctlResumeWindow * 5400000000 := by
  simp only [State.resumeWindow, Nat.mul_assoc, Nat.reduceMul]

section
variable {f : Nat} (live : j.live = true) (since : (if j.state = .offered then some j.offeredAt else j.suspendedAt) = some f)
include live since

theorem execResumeWindow_job : execResumeWindow id s = .next (if f + s.resumeWindow ≤ s.clk.frame then s.stopJob id 0x0702 else s) := by
  have due (w : Nat) : (j.live && (if j.state == .offered then some j.offeredAt else j.suspendedAt).any fun f => decide (f + w ≤ s.clk.frame)) =
      decide (f + w ≤ s.clk.frame) := by
    simp [since, live]
  unfold execResumeWindow
  rw [found]
  dsimp only
  rw [due]
  simp only [decide_eq_true_eq]

theorem execResumeWindow_job_stops (passed : f + s.ctlValue ctlResumeWindow * 5400000000 ≤ s.clk.frame) :
    execResumeWindow id s = .next (s.stopJob id 0x0702) := by
  rw [← State.resumeWindow_eq] at passed
  rw [execResumeWindow_job found live since, if_pos passed]

theorem execResumeWindow_job_waits (open_ : s.clk.frame < f + s.ctlValue ctlResumeWindow * 5400000000) : execResumeWindow id s = .next s := by
  rw [← State.resumeWindow_eq] at open_
  rw [execResumeWindow_job found live since, if_neg (Nat.not_le.mpr open_)]
end
end

end Sys2Proof.Machine
end

section
/-! SUPPORT. The messages of a mirror relationship (R377, R379 to R385). -/

namespace Sys2Proof.Machine

/-! ## Opening a zone (R234, R365, R379) -/

section
variable {s : State}

theorem State.logZone_zone (s : State) (nsid zi nsid' zi' : Nat) : (s.logZone nsid zi).zone nsid' zi' = s.zone nsid' zi' := rfl

/-- A landing zone that leaves Empty: what its manifest or its source gives it, at its start. -/
theorem State.openLanding_zone {n : Namespace} {k : PClass} (found : s.ns? n.nsid = some n) {c : Nat} (class_ : s.classFields n c = some k)
    (zi gen ref : Nat) : ((s.openLanding n zi c gen ref).zone n.nsid zi).state = .implicitOpen ∧ ((s.openLanding n zi c gen ref).zone n.nsid zi).gen = gen ∧
      ((s.openLanding n zi c gen ref).zone n.nsid zi).keyRef = ref ∧ ((s.openLanding n zi c gen ref).zone n.nsid zi).wp = 0 := by
  simp only [State.openLanding, class_, State.logZone_zone]
  rw [State.modZone_zone found zi (by rfl)]
  exact ⟨rfl, rfl, rfl, rfl⟩

theorem State.openLanding_peer (s : State) (n : Namespace) (zi c gen ref : Nat) : (s.openLanding n zi c gen ref).peer = s.peer := by
  unfold State.openLanding
  split <;> rfl

/-- A relationship without a zone. -/
def Mirror.without (m : Mirror) (zone : Nat) : Mirror := { m with zones := m.zones.filter fun z => z.zone != zone }

theorem Mirror.without_zones (m : Mirror) (zone : Nat) : ∀ z ∈ (m.without zone).zones, z.zone ≠ zone := by
  intro z mem
  simpa using (List.mem_filter.mp mem).2

theorem State.dropZone_mirror? {s : State} {id : Nat} {m : Mirror} (found : s.mirror? id = some m) (zone : Nat) :
    (s.modMirror id (Mirror.without · zone)).mirror? id = some (m.without zone) := by
  rw [State.modMirror_mirror? _ _ fun _ => (by rfl), found]
  rfl

theorem State.dropHReqs_nss (s : State) (p : HReq → Bool) : (s.dropHReqs p).nss = s.nss :=
  each_view State.nss (fun s (r : HReq) => s.modHport r.port fun x => { x with reserved := x.reserved - (r.declared - r.received) }) (fun _ _ => rfl) _ _

variable {d : Digest} {id zone g : Nat} {e : KeyEntry} {m : Mirror} (found : s.mirror? id = some m)
include found

theorem execMirrorOpen_foreign (foreign : m.source = true ∨ m.other ≠ d ∨ m.accepted = false ∨ m.ended = true) :
    execMirrorOpen d id zone g e s = .next s := by
  rcases foreign with x | x | x | x <;> simp [execMirrorOpen, found, x]

section
variable {n : Namespace} (lands : s.ns? m.nsid = some n) (partner : m.source = false) (far : m.other = d) (answered : m.accepted = true)
  (stands : m.ended = false)
include lands partner far answered stands

theorem execMirrorOpen_unfit (unfit : n.zoneCount ≤ zone ∨ (n.zone zone).state ≠ .empty) :
    execMirrorOpen d id zone g e s = .next (s.sendOp d 0x08 [2, 2, id, zone]) := by
  have guard : (decide (n.zoneCount ≤ zone) || (n.zone zone).state != .empty) = true := by simpa using unfit
  simp only [execMirrorOpen, found, lands, partner, far, answered, stands, guard, bne_self_eq_false, Bool.not_true, Bool.or_self, Bool.false_eq_true,
    if_false, if_true]

variable (inside : zone < n.zoneCount) (empty : (n.zone zone).state = .empty)
include inside empty

theorem execMirrorOpen_full (full : s.media.readPreserve = true) : execMirrorOpen d id zone g e s = .next (s.sendOp d 0x08 [2, 3, id, zone]) := by
  simp [execMirrorOpen, found, lands, partner, far, answered, stands, Nat.not_le.mpr inside, empty, full]

variable (room : s.media.readPreserve = false)
include room

theorem execMirrorOpen_used (used : s.genFree g = false) : execMirrorOpen d id zone g e s = .next (s.sendOp d 0x08 [2, 4, id, zone]) := by
  simp [execMirrorOpen, found, lands, partner, far, answered, stands, Nat.not_le.mpr inside, empty, room, used]

variable (free : s.genFree g = true)
include free

theorem execMirrorOpen_conflict (conflict : s.takeEntry (if e.number == 0 then 0 else e.fp) e.salt (if e.number == 0 then 0 else 2 ^ 48) = none) :
    execMirrorOpen d id zone g e s = .next (s.sendOp d 0x08 [2, 5, id, zone]) := by
  simp only [execMirrorOpen, found, lands, partner, far, answered, stands, decide_eq_false (Nat.not_le.mpr inside), empty, room, free, conflict,
    bne_self_eq_false, Bool.not_true, Bool.or_self, Bool.false_eq_true, if_false]

theorem execMirrorOpen_opens {r : Nat} {t : State}
    (took : s.takeEntry (if e.number == 0 then 0 else e.fp) e.salt (if e.number == 0 then 0 else 2 ^ 48) = some (r, t)) :
    Answers (execMirrorOpen d id zone g e s) fun x => ∃ y, x.mirror? id = some y ∧ ∃ z ∈ y.zones, z.zone = zone ∧ z.gen = g ∧ z.ack = 0 := by
  have row : execMirrorOpen d id zone g e s = .next ((t.openLanding n zone m.cls g r).modMirror id fun m => { m with
      zones := putBy MirZone.zone { zone := zone, gen := g } m.zones }) := by
    simp only [execMirrorOpen, found, lands, partner, far, answered, stands, decide_eq_false (Nat.not_le.mpr inside), empty, room, free, took,
      bne_self_eq_false, Bool.not_true, Bool.or_self, Bool.false_eq_true, if_false]
  have kept : (t.openLanding n zone m.cls g r).mirror? id = some m :=
    (State.mirror?_of_peer ((State.openLanding_peer _ _ _ _ _ _).trans (State.takeEntry_peer took)) id).trans found
  refine Answers.of row ?_
  rw [State.modMirror_mirror? _ _ fun _ => (by rfl), kept]
  exact ⟨_, rfl, _, List.mem_of_find?_eq_some (find?_putBy_same MirZone.zone { zone := zone, gen := g } m.zones), rfl, rfl, rfl⟩
end

/-! ## Finish and reset (R380) -/

section
variable {n : Namespace} {w : Nat} {root : Digest} (lands : s.ns? m.nsid = some n)
include lands

theorem execMirrorFinish_foreign (foreign : m.source = true ∨ m.other ≠ d ∨ (n.zone zone).gen ≠ g ∨ ∀ z ∈ m.zones, z.zone ≠ zone) :
    execMirrorFinish d id zone g w root s = .next s := by
  rcases foreign with x | x | x | x
  · simp [execMirrorFinish, found, lands, x]
  · simp [execMirrorFinish, found, lands, x]
  · simp [execMirrorFinish, found, lands, x]
  · have none_ : (m.zones.any fun z => z.zone == zone) = false := by simpa using x
    simp [execMirrorFinish, found, lands, none_]

variable (partner : m.source = false) (far : m.other = d) (gen : (n.zone zone).gen = g) (mirrored : ∃ z ∈ m.zones, z.zone = zone) {u : State}
  (finished : u = if (n.zone zone).state.isOpen = true then s.finishZone n zone false else s)
include partner far gen mirrored finished

theorem execMirrorFinish_compares : execMirrorFinish d id zone g w root s = .next (
    if (u.zone m.nsid zone).written == w && u.rootOver m.nsid zone w == root then u
    else (u.raise 597 5 2 [id, zone]).modMirror id (Mirror.without · zone)) := by
  have any_ : (m.zones.any fun z => z.zone == zone) = true := by simpa using mirrored
  subst finished
  simp [execMirrorFinish, found, lands, partner, far, gen, any_, Mirror.without]

theorem execMirrorFinish_agrees (written : (u.zone m.nsid zone).written = w) (same : u.rootOver m.nsid zone w = root) :
    execMirrorFinish d id zone g w root s = .next u := by
  rw [execMirrorFinish_compares found lands partner far gen mirrored finished, if_pos (by simp [written, same])]

theorem execMirrorFinish_differs (differs : (u.zone m.nsid zone).written ≠ w ∨ u.rootOver m.nsid zone w ≠ root) :
    execMirrorFinish d id zone g w root s = .next ((u.raise 597 5 2 [id, zone]).modMirror id (Mirror.without · zone)) := by
  rw [execMirrorFinish_compares found lands partner far gen mirrored finished, if_neg]
  rcases differs with x | x <;> simp [x]
end

omit found in
/-- A landing zone that is neither Empty nor Offline is released. -/
theorem State.returnZone_used {nsid : Nat} (used : (s.zone nsid zone).state ≠ .empty) (stands : (s.zone nsid zone).state ≠ .offline) :
    s.returnZone nsid zone = s.requestRelease nsid zone .empty := by
  simp [State.returnZone, used, stands]

theorem execMirrorReset_foreign (foreign : m.source = true ∨ m.other ≠ d ∨ (s.zone m.nsid zone).gen ≠ g) : execMirrorReset d id zone g s = .next s := by
  rcases foreign with x | x | x <;> simp [execMirrorReset, found, x]

theorem execMirrorReset_returns (partner : m.source = false) (far : m.other = d) (gen : (s.zone m.nsid zone).gen = g) :
    execMirrorReset d id zone g s = .next ((s.returnZone m.nsid zone).modMirror id (Mirror.without · zone)) := by
  simp [execMirrorReset, found, partner, far, gen, Mirror.without]

/-! ## The end of a relationship (R384) -/

theorem State.mirrorEnded_mirror? : ((s.endMirrorSource m).raise 597 2 0 [id, 0]).mirror? id = none := by
  rw [State.raise_mirror?, ← State.mirror?_ident found]
  exact State.endMirrorSource_mirror? _ _

theorem execMirrorPromote_idle (idle : m.source = false ∨ m.other ≠ d) : execMirrorPromote d id s = .next s := by
  rcases idle with x | x <;> simp [execMirrorPromote, found, x]

theorem execMirrorPromote_ends (source : m.source = true) (far : m.other = d) : Answers (execMirrorPromote d id s) fun t => t.mirror? id = none := by
  have row : execMirrorPromote d id s = .next ((s.endMirrorSource m).raise 597 2 0 [id, 0]) := by simp [execMirrorPromote, found, source, far]
  exact ⟨_, row, State.mirrorEnded_mirror? found⟩

section
variable (noJob : s.job? id = none)
include noJob

section
variable {st a b : Nat}

theorem execAnswer_mirror_accepted (source : m.source = true) (far : m.other = d) :
    exec (.answer d true st id a b) s = .next (s.modMirror id fun m => { m with accepted := true }) := by
  simp [exec_answer, execAnswer, noJob, found, source, far]

theorem execAnswer_mirror_refused (source : m.source = true) (far : m.other = d) :
    Answers (exec (.answer d false st id a b) s) fun t => t.mirror? id = none := by
  have row : exec (.answer d false st id a b) s = .next ((s.endMirrorSource m).raise 597 2 0 [id, 0]) := by
    simp [exec_answer, execAnswer, noJob, found, source, far]
  exact ⟨_, row, State.mirrorEnded_mirror? found⟩

theorem execEndOp_mirror_foreign (foreign : m.other ≠ d) : execEndOp d a b id s = .next s := by
  simp [execEndOp, noJob, found, foreign]

theorem execEndOp_mirror_source (source : m.source = true) (far : m.other = d) : Answers (execEndOp d a b id s) fun t => t.mirror? id = none := by
  have row : execEndOp d a b id s = .next ((s.endMirrorSource m).raise 597 2 0 [id, 0]) := by simp [execEndOp, noJob, found, source, far]
  exact ⟨_, row, State.mirrorEnded_mirror? found⟩

theorem execEndOp_mirror_partner (partner : m.source = false) (far : m.other = d) : Answers (execEndOp d a b id s) fun t =>
    t.nss = s.nss ∧ ∃ y, t.mirror? id = some y ∧ y.ended = true := by
  have row : execEndOp d a b id s = .next ((s.dropHReqs (ofOp id)).modMirror id fun m => { m with ended := true }) := by
    simp [execEndOp, noJob, found, partner, far]
  refine Answers.of row ⟨State.dropHReqs_nss s _, ?_⟩
  rw [State.modMirror_mirror? _ _ fun _ => (by rfl), State.dropHReqs_mirror?, found]
  exact ⟨_, rfl, rfl⟩

theorem execResume_mirror_whole (whole : m.broken = false) : exec (.resume d a b id) s = .next s := by
  simp [exec_resume, execResume, noJob, found, whole]

theorem execResume_mirror_restores (source : m.source = true) (broken : m.broken = true) (far : m.other = d) : Answers (exec (.resume d a b id) s) fun t =>
    ∃ y, t.mirror? id = some y ∧ y.broken = false ∧ y.catchingUp = false ∧ y.zones = m.zones.map (fun z => { z with ack := z.next }) := by
  have row : exec (.resume d a b id) s = .next (s.modMirror id fun m => { m with
      broken := false, catchingUp := false, zones := m.zones.map fun z => { z with ack := z.next } }) := by
    simp [exec_resume, execResume, noJob, found, source, broken, far]
  refine Answers.of row ?_
  rw [State.modMirror_mirror? _ _ fun _ => (by rfl), found]
  exact ⟨_, rfl, rfl, rfl, rfl⟩
end

theorem execZoneRefused_mirror {rs : Nat} (source : m.source = true) (far : m.other = d) : Answers (execZoneRefused d rs id zone s) fun t =>
    ∃ y, t.mirror? id = some y ∧ ∀ z ∈ y.zones, z.zone ≠ zone := by
  have row : execZoneRefused d rs id zone s = .next ((((s.modMirror id (Mirror.without · zone)).modZone m.nsid zone fun z => { z with
      mirror := none }).raise 597 4 1 [id, zone]).ackMirrored m) := by
    simp [execZoneRefused, noJob, found, source, far, Mirror.without]
  refine Answers.of row ?_
  rw [State.ackMirrored_mirror?, State.raise_mirror?, State.modZone_mirror?, State.dropZone_mirror? found]
  exact ⟨_, rfl, m.without_zones zone⟩

/-! ## The resume window of a relationship (R382) -/

theorem execResumeWindow_mirror_stands (stands : m.broken = false ∨ s.clk.frame < m.brokenAt + s.ctlValue ctlResumeWindow * 5400000000) :
    execResumeWindow id s = .next s := by
  rw [← State.resumeWindow_eq] at stands
  rcases stands with x | x <;> simp [execResumeWindow, noJob, found, x]

theorem execResumeWindow_mirror_ends (broken : m.broken = true) (passed : m.brokenAt + s.ctlValue ctlResumeWindow * 5400000000 ≤ s.clk.frame) :
    Answers (execResumeWindow id s) fun t => (m.source = true → t.mirror? id = none) ∧
      (m.source = false → ∃ y, t.mirror? id = some y ∧ y.ended = true) := by
  rw [← State.resumeWindow_eq] at passed
  have row : execResumeWindow id s = .next (if m.source then (s.endMirrorSource m).raise 597 2 0 [id, 0]
      else s.modMirror id fun m => { m with ended := true }) := by
    simp [execResumeWindow, noJob, found, broken, Nat.not_lt.mpr passed]
  refine Answers.of row ⟨fun source => ?_, fun partner => ?_⟩
  · rw [if_pos source]
    exact State.mirrorEnded_mirror? found
  · rw [if_neg (Bool.eq_false_iff.mp partner), State.modMirror_mirror? _ _ fun _ => (by rfl), found]
    exact ⟨_, rfl, rfl⟩
end

/-! ## A path that is lost, and the way back (R382, R383) -/

/-- A relationship whose partner has become unreachable. -/
def Mirror.lost (m : Mirror) (frame : Nat) : Mirror := { m with
  broken := true, catchingUp := false, brokenAt := frame, pulls := [], zones := m.zones.map fun z => { z with next := z.ack } }

theorem State.breakMirror_breaks (whole : m.broken = false) (stands : m.ended = false) (answered : m.accepted = true) :
    (s.breakMirror id).mirror? id = some (m.lost s.clk.frame) := by
  have broken : ((s.dropHReqs (ofOp id)).modMirror id (Mirror.lost · s.clk.frame)).mirror? id = some (m.lost s.clk.frame) := by
    rw [State.modMirror_mirror? _ _ fun _ => (by rfl), State.dropHReqs_mirror?, found]
    rfl
  simp only [State.breakMirror, found, whole, stands, answered, Bool.not_true, Bool.or_self, Bool.false_eq_true, if_false]
  rw [← broken]
  have told (t : State) : (if m.zones.isEmpty then t.raise 597 3 2 [id, 0]
      else each m.zones (fun s z => s.raise 597 3 2 [id, z.zone, z.ack]) t).mirror? id = t.mirror? id := by
    split
    · exact State.raise_mirror? _ _ _ _ _ _ _
    · exact each_view (fun s => s.mirror? id) _ (fun _ _ => State.raise_mirror? _ _ _ _ _ _ _) _ _
  split
  · exact (State.ackMirrored_mirror? _ _ _).trans (told _)
  · exact told _

theorem execCatchUp_idle (idle : m.broken = false ∨ m.catchingUp = true ∨ m.ended = true ∨ s.isPaired m.other = false) : execCatchUp id s = .next s := by
  rcases idle with x | x | x | x <;> simp [execCatchUp, found, x]

theorem execCatchUp_starts (broken : m.broken = true) (idle : m.catchingUp = false) (stands : m.ended = false) (paired : s.isPaired m.other = true)
    (path : s.goodPaths m.other ≠ []) : Answers (execCatchUp id s) fun t => ∃ y, t.mirror? id = some y ∧ y.catchingUp = true ∧ y.broken = true ∧
      (m.source = true → y.pulls = [] ∧ y.zones = m.zones.map (fun z => { z with next := z.ack })) ∧
      (m.source = false → y.zones = m.zones ∧ y.pulls = m.zones.map (fun z => { zone := z.zone, phase := 1, chunks := 4 * (z.ack / 256) })) := by
  have row : execCatchUp id s = .next (s.modMirror id fun m => { m with
      catchingUp := true
      zones := if m.source then m.zones.map fun z => { z with next := z.ack } else m.zones
      pulls := if m.source then [] else m.zones.map fun z => { zone := z.zone, phase := 1, chunks := 4 * (z.ack / 256) } }) := by
    simp [execCatchUp, found, broken, idle, stands, paired, path]
  refine Answers.of row ?_
  rw [State.modMirror_mirror? _ _ fun _ => (by rfl), found]
  exact ⟨_, rfl, rfl, broken, fun source => by simp [source], fun partner => by simp [partner]⟩
end

end Sys2Proof.Machine
end

section
/-! PROOF. The messages of a migration job and of a mirror relationship (O58, O59). -/

namespace Sys2Proof.Machine

/-- Settles O58, row by row: the row's checks, then the job that it leaves, looked at for its end (assumption 41). -/
theorem peerMessages : Obligations.PeerMessages := by
  unfold Obligations.PeerMessages
  refine ⟨?offer, ?answer, ?manifest, ?refusal, ?carry, ?checkpoint, ?cutOver, ?status, ?zones, ?completes, ?states, ?paths, ?window⟩
  case offer =>
    intro d kd str id nsid ge lb pi ver mode pol lag fz zc zs s
    exact ⟨execOffer_unpaired, execOffer_version, fun paired version new => ⟨execOffer_job_waits paired version new, fun l named =>
      ⟨execOffer_job_stops paired version new named, execOffer_job_runs paired version new named⟩⟩⟩
  case answer =>
    refine fun d ok st id a b s => ⟨execAnswer_unknown, fun j found => ⟨execAnswer_foreign found, fun source partner offered =>
      ⟨execAnswer_refused found source partner offered, fun waits => ?_, fun settled => ?_⟩⟩, fun m noJob found source far =>
      ⟨execAnswer_mirror_accepted found noJob source far, execAnswer_mirror_refused found noJob source far⟩⟩
    · exact execAnswer_runs found source partner offered waits
    · exact execAnswer_completes found source partner offered settled
  case manifest =>
    exact fun d m s => ⟨execZoneManifest_unknown, fun j n u found destination partner running fresh lands entered =>
      ⟨fun r refused => entered ▸ execZoneManifest_refused found destination partner running fresh lands refused,
        execZoneManifest_taken found destination partner running fresh lands⟩⟩
  case refusal =>
    refine fun j n m k s class_ => ⟨State.refusal_version, State.refusal_zone, State.refusal_capacity class_,
      fun version inside fits named => State.refusal_generation class_ version inside fits (State.genFree_of_segment named),
      fun version inside fits free => ⟨fun ref tenant known used conflict => ?_, fun open_ => ?_⟩⟩
    · rw [State.refusal_key class_ version inside fits free, State.takeEntry_conflict tenant known used conflict]
      rfl
    · rw [State.refusal_key class_ version inside fits free, open_, State.takeEntry_zero]
      rfl
  case carry =>
    exact fun d fp pt w id j s found => ⟨execKeyCarry_foreign found, fun n raw ref slot destination partner running curve lands opens known free =>
      ⟨execKeyCarry_loads found destination partner running curve lands opens known free,
        execKeyCarry_refused found destination partner running curve lands opens known free⟩⟩
  case checkpoint => exact fun d id zone ch s => ⟨fun j found source partner => execCheckpoint_keeps found source partner, execCheckpoint_unknown⟩
  case cutOver =>
    exact fun d id zone g j s found => ⟨fun source partner gen z listed => ⟨execCutOverReady_again found source partner gen listed,
      execCutOverReady_settles found source partner gen listed⟩, execCutOverReady_foreign found, execCutOverConfirmed_settles found,
      execCutOverConfirmed_idle found⟩
  case status =>
    refine fun d st tag id s => ⟨execRequestStatus_unknown, ?_⟩
    rintro r j u failed read found rfl open_
    exact ⟨execRequestStatus_refuses failed read found open_, execRequestStatus_retries failed read found open_⟩
  case zones =>
    exact fun d rs id zone j s found partner => ⟨fun ended => ⟨execZoneWithdrawn_ended found ended, execZoneRefused_ended found ended⟩,
      execZoneWithdrawn_leaves found partner, execZoneRefused_leaves found partner⟩
  case completes =>
    refine fun id j s found running => ⟨fun settled listed => ?_, fun open_ => State.completeJob_stands found (Job.completes_open open_)⟩
    rw [State.completeJob_job? found, Job.completes_of running settled listed]
    exact ⟨_, rfl, rfl⟩
  case states =>
    exact fun d a cause id s => ⟨fun j found => execSuspend_idle found, fun j found => execSuspend_suspends found, execResume_unknown,
      fun j found partner => ⟨execResume_resumes found partner, execResume_ended found partner, execResume_idle found partner⟩,
      fun j found partner live => ⟨execEndOp_completes found partner live, fun st => execEndOp_stops found partner live⟩⟩
  case paths =>
    exact fun id port label j s found => ⟨execJobResume_runs found, execJobResume_idle found, execStreamAdd_adds found, execStreamAdd_idle found⟩
  case window =>
    exact fun id f j s found live since => ⟨execResumeWindow_job_stops found live since, execResumeWindow_job_waits found live since⟩

/-- Settles O59, row by row: the row's checks, then the relationship that it leaves, and of its zone's opening what the zone takes
(assumptions 42 and 63). -/
theorem mirroring : Obligations.Mirroring := by
  unfold Obligations.Mirroring
  refine ⟨?offer, ?opening, ?landing, ?entry, ?finish, ?reset, ?refused, ?ends, ?catchUp, ?breaks, ?window⟩
  case offer =>
    exact fun d kd str id nsid ge lb pi ver mode pol lag fz zc zs s paired version mirror =>
      ⟨execOffer_mirror_barred paired version mirror, execOffer_mirror_enters paired version mirror⟩
  case opening =>
    exact fun d id zone g e m n s found lands => ⟨execMirrorOpen_foreign found, fun partner far answered stands =>
      ⟨execMirrorOpen_unfit found lands partner far answered stands, execMirrorOpen_full found lands partner far answered stands,
        fun inside empty room => ⟨execMirrorOpen_used found lands partner far answered stands inside empty room,
          execMirrorOpen_conflict found lands partner far answered stands inside empty room,
          fun r t free => execMirrorOpen_opens found lands partner far answered stands inside empty room free⟩⟩⟩
  case landing => exact fun n zi c g r k s found class_ => State.openLanding_zone found class_ zi g r
  case entry =>
    exact fun fp salt floor s => ⟨State.takeEntry_zero s salt floor, fun r tenant => State.takeEntry_conflict tenant, State.takeEntry_full⟩
  case finish =>
    exact fun d root id zone g w m n s found lands => ⟨execMirrorFinish_foreign found lands, fun u partner far gen mirrored finished =>
      ⟨execMirrorFinish_agrees found lands partner far gen mirrored finished, execMirrorFinish_differs found lands partner far gen mirrored finished⟩⟩
  case reset =>
    refine fun d id zone g m s found => ⟨execMirrorReset_foreign found, fun partner far gen =>
      Answers.of (execMirrorReset_returns found partner far gen) ⟨?_, fun used stands => ?_⟩⟩
    · exact ⟨_, State.dropZone_mirror? ((State.returnZone_mirror? _ _ _ _).trans found) zone, m.without_zones zone⟩
    · rw [State.returnZone_used used stands]
      rfl
  case refused =>
    exact fun d rs id zone m s noJob found source far => ⟨execZoneRefused_mirror found noJob source far, execMirrorPromote_ends found source far,
      fun a b => execEndOp_mirror_source found noJob source far⟩
  case ends =>
    exact fun d a b id m s noJob found => ⟨execEndOp_mirror_partner found noJob, fun partner => execMirrorPromote_idle found (.inl partner),
      fun foreign => ⟨execEndOp_mirror_foreign found noJob foreign, execMirrorPromote_idle found (.inr foreign)⟩,
      execResume_mirror_restores found noJob, execResume_mirror_whole found noJob⟩
  case catchUp => exact fun id m s found => ⟨execCatchUp_idle found, execCatchUp_starts found⟩
  case breaks => exact fun id m s found whole stands answered => ⟨_, State.breakMirror_breaks found whole stands answered, rfl, rfl, rfl⟩
  case window => exact fun id m s noJob found => ⟨execResumeWindow_mirror_stands found noJob, execResumeWindow_mirror_ends found noJob⟩

end Sys2Proof.Machine
end

section
/-! SUPPORT. The fuses of JTAG (R484, R485, R530): what each command leaves of them, and the burn of a blank field. -/

namespace Sys2Proof.Machine

/-- The maker key, host port mode and assembly lock fuses are burnt alike in two states. -/
def State.sameFuses (s t : State) : Prop :=
  t.fuses.makerKey = s.fuses.makerKey ∧ t.fuses.hostPort = s.fuses.hostPort ∧ t.fuses.lock = s.fuses.lock

/-- The shape holds the fuses, so a command whose shape differs from the state's in the frame number and the status sequence alone leaves them. -/
theorem State.sameFuses_of_shape {s t : State} {q : Word} {f : Nat} (h : t.shape = { s.shape with stseq := q, frame := f }) : s.sameFuses t :=
  ⟨(congrArg Shape.makerKey h :), (congrArg Shape.portFuse h :), (congrArg Shape.lock h :)⟩

theorem jtagRes_powered {s : State} (on : s.powered = true) (k : State) : jtagRes s k = .next k := congrArg _ (if_pos on)

/-- A burn may take place: the lock is unburnt, a field is selected and blank, VIN is at least 3.0 V, and the cycles have run (R530). -/
def State.mayBurn (s : State) (tcks vin : Nat) : Bool :=
  ! s.fuses.lock && decide (1 ≤ s.jtag.select) && decide (s.jtag.select ≤ 3) && s.fuses.field s.jtag.select == 0 &&
    decide (3000 ≤ vin) && decide (200000 ≤ tcks)

theorem State.mayBurn_iff {s : State} {tcks vin : Nat} : s.mayBurn tcks vin = true ↔
    s.fuses.lock = false ∧ 1 ≤ s.jtag.select ∧ s.jtag.select ≤ 3 ∧ s.fuses.field s.jtag.select = 0 ∧ 3000 ≤ vin ∧ 200000 ≤ tcks := by
  simp [State.mayBurn, and_assoc]

/-- FUSE_BURN is loaded with its status, whether or not the burn takes place. -/
def State.burnLoaded (s : State) (tcks vin : Nat) : State :=
  s.modJtag fun j => { j with ir := 0x42, burnt := s.mayBurn tcks vin, vinLow := decide (vin < 3000) }

theorem execFuseBurn_eq (tcks vin : Nat) (s : State) : execFuseBurn tcks vin s = jtagRes s (if s.mayBurn tcks vin then
    (s.burnLoaded tcks vin).modFuses fun f => f.burn s.jtag.select s.jtag.data else s.burnLoaded tcks vin) := rfl

theorem execFuseBurn_sameFuses {tcks vin : Nat} {s t : State} (h : execFuseBurn tcks vin s = .next t) :
    s.sameFuses t ∨ s.mayBurn tcks vin = true := by
  rw [execFuseBurn_eq] at h
  cases may : s.mayBurn tcks vin with
  | true => exact .inr rfl
  | false =>
    refine .inl ?_
    rw [may] at h
    obtain rfl := Host.Outcome.next.inj h
    split <;> exact ⟨rfl, rfl, rfl⟩

/-- The commands other than FUSE_BURN leave the fuses: most leave the whole shape, and a frame, the end of dark frames and an AON power-on
reset change no more of it than the frame number and the status sequence. -/
theorem exec_sameFuses {c : Instr} {s t : State} (h : exec c s = .next t) : s.sameFuses t ∨ ∃ tcks vin, c = .fuseBurn tcks vin := by
  have shape := shape_of_next h s.shape
  have same {q f} (e : resShape (exec c s) s.shape = { s.shape with stseq := q, frame := f }) : s.sameFuses t :=
    State.sameFuses_of_shape (shape.symm.trans e)
  cases hc : changesShape c with
  | false => exact .inl (same (q := s.stseq) (f := s.clk.frame) (exec_shape c s hc))
  | true =>
    cases c
    case frameStart inp =>
      cases on : s.hcxOn with
      | false => exact .inl (same (q := s.stseq) (f := s.clk.frame) (congrArg (resShape · s.shape) (execFrameStart_off inp s on)))
      | true =>
        obtain ⟨q, e⟩ := execFrameStart_shape inp s on
        exact .inl (same e)
    case framePllRelock k =>
      by_cases back : s.clk.dark = true ∧ s.pwr.dev = .starting
      · exact .inl (same (q := s.stseq) (execFramePllRelock_shape k s back.1 back.2))
      · exact .inl (same (q := s.stseq) (f := s.clk.frame) (congrArg (resShape · s.shape) (execFramePllRelock_idle k s back)))
    case aonPowerOnReset r => exact .inl (same (q := s.stseq) (execAonPowerOnReset_shape r s))
    case fuseBurn tcks vin => exact .inr ⟨tcks, vin, rfl⟩
    all_goals cases hc

/-- Settles O5: only FUSE_BURN can change a fuse, and it does so under the conditions of R530, which make the burn. -/
theorem fusesBurnOnce : Obligations.FusesBurnOnce := by
  refine ⟨fun c s t h => ?_, fun tcks vin s on unlocked first last blank volts cycles => ?_⟩
  · obtain same | ⟨tcks, vin, rfl⟩ := exec_sameFuses h
    · exact .inl same
    · refine (execFuseBurn_sameFuses h).imp_right fun may => ?_
      obtain ⟨unlocked, -, -, blank, volts, cycles⟩ := State.mayBurn_iff.mp may
      exact ⟨tcks, vin, rfl, unlocked, blank, volts, cycles⟩
  · have may : s.mayBurn tcks vin = true := State.mayBurn_iff.mpr ⟨unlocked, first, last, blank, volts, cycles⟩
    refine Answers.of ((execFuseBurn_eq tcks vin s).trans (jtagRes_powered on _)) ?_
    rw [if_pos may]
    exact ⟨rfl, may, decide_eq_false (Nat.not_lt.mpr volts), rfl, rfl⟩

end Sys2Proof.Machine
end

section
/-! SUPPORT. The instructions of the JTAG port, the dynamic address of the sideband and the LEDs (R468, R484, R527 to R531). -/

namespace Sys2Proof.Machine

theorem State.powered_eq_true {s : State} (on : s.pwr.dev ≠ .unpowered) : s.powered = true := bne_iff_ne.mpr on

/-! ## FUSE_READ (R530) -/

/-- Four status bits below a value: bit i of the sum is the i-th of them. -/
theorem statusBits (a b c d : Bool) (x : Nat) (v : Nat) (h : v = flag a 0 + flag b 1 + flag c 2 + flag d 3 + at_ 4 x) :
    v % 2 = a.toNat ∧ v / 2 % 2 = b.toNat ∧ v / 4 % 2 = c.toNat ∧ v / 8 % 2 = d.toNat := by
  have flag_eq (b : Bool) (i : Nat) : flag b i = b.toNat * 2 ^ i := by cases b <;> simp [flag, bitOf]
  have := a.toNat_lt; have := b.toNat_lt; have := c.toNat_lt; have := d.toNat_lt
  simp only [flag_eq, at_] at h
  omega

/-- The four status bits, then the selected field. -/
def State.fuseReadValue (s : State) : Nat :=
  flag s.jtag.burnt 0 + flag (s.fuses.field s.jtag.select != 0) 1 + flag s.fuses.lock 2 + flag s.jtag.vinLow 3 +
    at_ 4 (shiftOrder (s.fuses.field s.jtag.select))

theorem execFuseRead_eq (s : State) : execFuseRead s = jtagRes s (s.tap 0x43 s.fuseReadValue) := rfl

theorem State.fuseReadValue_status (s : State) : s.fuseReadValue % 2 = (if s.jtag.burnt then 1 else 0) ∧
    s.fuseReadValue / 2 % 2 = (if s.fuses.field s.jtag.select = 0 then 0 else 1) ∧
    s.fuseReadValue / 4 % 2 = (if s.fuses.lock then 1 else 0) ∧ s.fuseReadValue / 8 % 2 = (if s.jtag.vinLow then 1 else 0) := by
  obtain ⟨burnt, set_, lock, low⟩ := statusBits _ _ _ _ _ _ (rfl : s.fuseReadValue = _)
  have toNat (b : Bool) : b.toNat = if b then 1 else 0 := by cases b <;> rfl
  refine ⟨burnt.trans (toNat _), set_.trans ?_, lock.trans (toNat _), low.trans (toNat _)⟩
  simp only [toNat, bne_iff_ne, ne_eq, ite_not]

/-! ## The instructions that take the pins (R531) -/

/-- The instruction is loaded and the boundary cells take the pins. -/
def State.pinsTaken (s : State) (ir : Nat) : State :=
  s.modJtag fun j => { j with ir := ir, dr := if ir == 0x06 || ir == 0x07 then 0 else j.boundary, pinsTaken := true }

theorem State.takePins_eq (s : State) (ir : Nat) : s.takePins ir = if s.start.released then
    (s.pinsTaken ir).deviceFault.modStart fun x => { x with untilPowerCycle := true } else s.pinsTaken ir := rfl

/-- A device fault leaves the JTAG port and the fuses. -/
theorem State.deviceFault_leaves (s : State) : s.deviceFault.jtag = s.jtag ∧ s.deviceFault.fuses = s.fuses ∧
    s.deviceFault.start = { s.start with fault := true } := by
  obtain ⟨f, e⟩ := s.deviceFault_eq
  rw [e]
  exact ⟨rfl, rfl, rfl⟩

theorem State.takePins_leaves (s : State) (ir : Nat) : (s.takePins ir).jtag = (s.pinsTaken ir).jtag ∧ (s.takePins ir).fuses = s.fuses ∧
    (s.takePins ir).start = if s.start.released then { s.start with fault := true, untilPowerCycle := true } else s.start := by
  obtain ⟨jtag, fuses, start⟩ := (s.pinsTaken ir).deviceFault_leaves
  rw [State.takePins_eq]
  split
  · exact ⟨jtag, fuses, congrArg (fun x : Startup => { x with untilPowerCycle := true }) start⟩
  · exact ⟨rfl, rfl, rfl⟩

theorem State.takePins_before_release {s : State} (held : s.start.released = false) (ir : Nat) : s.takePins ir = s.pinsTaken ir := by
  rw [State.takePins_eq]
  exact if_neg (Bool.eq_false_iff.mp held)

/-- Settles O34: with VIN present each instruction is loaded, by the definition of its row. -/
theorem jtagPort : Obligations.JtagPort := by
  intro s on
  have row (k : State) : jtagRes s k = .next k := jtagRes_powered (State.powered_eq_true on) k
  refine ⟨row _, row _, fun _ => row _, fun b => Answers.of (row _) ⟨rfl, rfl, rfl, rfl, rfl, rfl⟩, fun _ => row _, fun _ => row _,
    ⟨s.fuseReadValue, row _, s.fuseReadValue_status⟩, row _, row _, row _, row _, row _, fun ir => ?_⟩
  obtain ⟨jtag, fuses, start⟩ := s.takePins_leaves ir
  refine ⟨congrArg Jtag.pinsTaken jtag, congrArg Jtag.ir jtag, fuses, fun released => ?_, fun held => ?_⟩
  · rw [start, if_pos released]
    exact ⟨rfl, rfl⟩
  · rw [State.takePins_before_release held]
    exact ⟨rfl, rfl⟩

/-! ## The sideband and the LEDs (R527, R528) -/

theorem State.ready_eq_true {s : State} (working : s.pwr.dev = .working) : s.ready = true := beq_iff_eq.mpr working

/-- Settles O35: each row by its guard, and each LED by the first of its conditions that holds. -/
theorem sidebandAndLeds : Obligations.SidebandAndLeds := by
  unfold Obligations.SidebandAndLeds
  refine ⟨?address, ?transfer, ?static, fun s => ⟨?dark, ?idle, ?busy, ?stopped, ?preserve⟩⟩
  case address =>
    intro a s on
    have on := State.powered_eq_true on
    exact ⟨congrArg _ (if_pos on), congrArg _ (if_pos on)⟩
  case transfer => exact fun a s dynamic => congrArg _ (if_pos (by simp [dynamic]))
  case static => exact fun s none => congrArg _ (if_neg (by simp [none]))
  case dark => exact fun off => if_pos (by simp [State.ready, off])
  case idle => exact fun on cmds submitted => by simp [State.led0, State.ready_eq_true on, cmds, submitted]
  case busy => exact fun on cmds => by simp [State.led0, State.ready_eq_true on, cmds]
  case stopped => exact fun stopped => if_pos (by simpa using stopped)
  case preserve => exact fun sound kept preserve => by simp [State.led1, sound, kept, preserve]

end Sys2Proof.Machine
end

section
/-! SUPPORT. Events, and the buffers of the pool (R431, R435 to R438). -/

namespace Sys2Proof.Machine

/-! ## The record of an event (R423) -/

/-- The record that a running device raises. -/
def State.eventOf (s : State) (source code severity : Nat) (args : List Nat) (fn : Nat) : Event :=
  { frame := s.clk.frame, source := source, code := code, severity := severity, fn := fn, args := args
    held := (source == 605 || source == 606) && s.pwr.wokenBy == some 1 }

/-- Raising an event reaches the events alone. -/
theorem State.raise_modEvt (s : State) (source code severity : Nat) (args : List Nat) (fn : Nat) :
    ∃ f, s.raise source code severity args fn = s.modEvt f := by
  unfold State.raise
  split
  · exact ⟨id, rfl⟩
  · exact ⟨_, rfl⟩

theorem State.raise_raised {s : State} (on : s.clk.dark = false) (source code severity : Nat) (args : List Nat) (fn : Nat) :
    (s.raise source code severity args fn).evt.raised = s.evt.raised ++ [s.eventOf source code severity args fn] := by
  unfold State.raise
  rw [if_neg (Bool.eq_false_iff.mp on)]
  rfl

/-! ## One buffer -/

theorem bufUnit_of {n e : Nat} (buffer : n < 1835008) (engine : e < 17) : bufUnit .btk8832 n e = true := by
  simp [bufUnit, poolSize, engineCount, buffer, engine]

theorem State.putBuf_buf (s : State) (b : Buf) : (s.putBuf b).pool.buf b.number = b :=
  (congrArg (Option.getD · _) (find?_putBy_same Buf.number b s.pool.bufs) :)

theorem State.putBuf_buf_other (s : State) (b : Buf) {m : Nat} (other : m ≠ b.number) : (s.putBuf b).pool.buf m = s.pool.buf m :=
  (congrArg (Option.getD · { number := m }) (find?_putBy_other Buf.number b other s.pool.bufs) :)

/-- A buffer that a request takes is held by its requester, and the others are as they were. -/
theorem State.holdBuf_buf (s : State) (n : Nat) (c : BufClass) (f e item : Nat) : (s.holdBuf n c f e item).pool.buf n =
    { number := n, state := .held, cls := c, fn := f, holders := [e], item := item } :=
  s.putBuf_buf { number := n, state := .held, cls := c, fn := f, holders := [e], item := item }

theorem State.holdBuf_buf_other (s : State) {n m : Nat} (other : m ≠ n) (c : BufClass) (f e item : Nat) :
    (s.holdBuf n c f e item).pool.buf m = s.pool.buf m :=
  s.putBuf_buf_other { number := n, state := .held, cls := c, fn := f, holders := [e], item := item } other

theorem State.grantWaiting_idle {s : State} (idle : s.pool.waiting = []) (n : Nat) : s.grantWaiting n = s := by
  simp [State.grantWaiting, idle]

/-! ## The requests of the manager (R437) -/

theorem State.rejectBuf_leaves (s : State) (b : Buf) (engine : Nat) : (s.rejectBuf b engine).pool.bufs = s.pool.bufs ∧
    (s.rejectBuf b engine).media = s.media ∧ (s.rejectBuf b engine).clk = s.clk := by
  unfold State.rejectBuf
  extract_lets count counted
  obtain ⟨f, raised⟩ := counted.raise_modEvt 487 4 1 [classNum b.cls, counted.sharedFree] 0xFFFF
  rw [raised]
  exact ⟨rfl, rfl, rfl⟩

theorem State.rejectBuf_reports {s : State} (on : s.clk.dark = false) (b : Buf) (engine : Nat) :
    (s.rejectBuf b engine).evt.raised.length = s.evt.raised.length + 1 := by
  unfold State.rejectBuf
  extract_lets count counted
  rw [State.raise_raised (s := counted) on]
  exact List.length_append

section
variable {n : Nat} (buffer : n < 1835008)
include buffer

theorem execBufferAllocate_free {c : BufClass} {f e item : Nat} {s : State} (pooled : n < poolSize s.variant) (engine : e < 17)
    (free : (s.pool.buf n).state = .free) : exec (.bufferAllocate n c f e item) s = .next (if s.grantRoom c f then s.holdBuf n c f e item
      else s.modPool fun p => { p with waiting := p.waiting ++ [(c, f, e, item)] }) :=
  (if_pos (bufUnit_of buffer engine)).trans (congrArg _ (if_neg (by simp [pooled, free])))

theorem execBufferShare_held {e : Nat} {s : State} (engine : e < 17) (held : (s.pool.buf n).state = .held)
    (few : (s.pool.buf n).holders.length < 4) (new : e ∉ (s.pool.buf n).holders) : exec (.bufferShare n e) s =
      .next (s.putBuf { s.pool.buf n with holders := (s.pool.buf n).holders ++ [e] }) :=
  (if_pos (bufUnit_of buffer engine)).trans (congrArg _ (if_pos (by simp [held, few, new])))

theorem execBufferDrop_held {e : Nat} {s : State} (engine : e < 17) (held : (s.pool.buf n).state = .held) (holds : e ∈ (s.pool.buf n).holders) :
    exec (.bufferDrop n e) s = .next (s.putBuf { s.pool.buf n with
      holders := (s.pool.buf n).holders.filter (fun x => x != e), dropped := (s.pool.buf n).dropped ++ [e]
      state := if ((s.pool.buf n).holders.filter (fun x => x != e)).isEmpty then .zeroing else .held }) :=
  (if_pos (bufUnit_of buffer engine)).trans (congrArg _ (if_pos (by simp [held, holds])))

theorem execBufferDrop_rejected {e : Nat} {s : State} (engine : e < 17) (barred : (s.pool.buf n).state ≠ .held ∨ e ∉ (s.pool.buf n).holders) :
    exec (.bufferDrop n e) s = .next (s.rejectBuf (s.pool.buf n) e) := by
  refine (if_pos (bufUnit_of buffer engine)).trans (congrArg _ (if_neg ?_))
  rcases barred with loose | foreign
  · simp [loose]
  · simp [foreign]

theorem execBufferZeroed_idle {s : State} (zeroing : (s.pool.buf n).state = .zeroing) (idle : s.pool.waiting = []) : exec (.bufferZeroed n) s =
    .next (s.putBuf { s.pool.buf n with state := .free, fn := 0xFF, holders := [], dropped := [], item := 0 }) := by
  refine (if_pos (bufUnit_of buffer (by decide))).trans (congrArg _ ((if_pos (by simp [zeroing])).trans ?_))
  exact State.grantWaiting_idle (s := s.putBuf _) idle n
end

/-- The last holder is the one whose drop leaves none. -/
theorem filter_bne_isEmpty (l : List Nat) (e : Nat) : (l.filter (fun x => x != e)).isEmpty = l.all (fun x => x == e) := by
  induction l with
  | nil => rfl
  | cons x l ih => by_cases same : x = e <;> simp [same, ih]

/-- Settles O36: each request by the state of its buffer. -/
theorem bufferPool : Obligations.BufferPool := by
  unfold Obligations.BufferPool
  refine ⟨?allocate, ?share, ?drop, ?rejected, ?zeroed⟩
  case allocate =>
    intro n e f item c s buffer pooled engine free
    have row := execBufferAllocate_free (c := c) (f := f) (item := item) buffer pooled engine free
    refine ⟨fun room => Answers.of row ?_, fun full => row.trans (congrArg _ (if_neg (Bool.eq_false_iff.mp full)))⟩
    rw [if_pos room]
    exact ⟨s.holdBuf_buf n c f e item, fun m other => s.holdBuf_buf_other other c f e item, rfl, rfl, rfl, rfl⟩
  case share => exact fun n e s buffer engine held few new => execBufferShare_held buffer engine held few new
  case drop =>
    intro n e s buffer engine held holds
    rw [← filter_bne_isEmpty]
    exact execBufferDrop_held buffer engine held holds
  case rejected =>
    intro n e s buffer engine barred
    obtain ⟨bufs, media, clk⟩ := s.rejectBuf_leaves (s.pool.buf n) e
    exact Answers.of (execBufferDrop_rejected buffer engine barred) ⟨bufs, media, clk, fun on => State.rejectBuf_reports on _ e⟩
  case zeroed => exact fun n s buffer zeroing idle => execBufferZeroed_idle buffer zeroing idle

end Sys2Proof.Machine
end

section
/-! SUPPORT. The thermal sample, the throttle stages and the grace time (R475, R476, R478, R479). -/

namespace Sys2Proof.Machine

/-! ## The sample of an input (R475) -/

theorem State.modThermIn_thermIn {s : State} {i : Nat} (listed : i < s.therm.inputs.length) (f : ThermIn → ThermIn) :
    (s.modThermIn i f).thermIn i = f (s.thermIn i) := by
  simp [State.thermIn, State.modThermIn, State.modTherm, List.getD_eq_getElem?_getD, listed]

/-- An input with its sample latched: a reading in range is kept, and any other makes the input failed. -/
def ThermIn.latched (x : ThermIn) (reading : Option Int) (ok : Bool) : ThermIn :=
  { x with raw := if ok then reading.getD x.raw else x.raw, sampled := true, badNow := ! ok, failed := x.failed || ! ok }

/-- A sample is good: not open or shorted, and its reading is in range. -/
def State.goodSample (s : State) (i : Nat) (raw : Int) (bad : Bool) : Bool :=
  ! bad && (match s.reading i raw with | some t => inRange t | none => false)

/-- Latching a sample updates its input, and raises an event where the input has failed with it. -/
theorem State.latchInput_modEvt {s : State} {i : Nat} (on : s.inputOn i = true) (raw : Int) (bad : Bool) : ∃ f,
    s.latchInput i raw bad = (s.modThermIn i fun x => x.latched (s.reading i raw) (s.goodSample i raw bad)).modEvt f := by
  unfold State.latchInput
  rw [if_neg (by simp [on])]
  extract_lets reading ok was sampled
  split
  · exact sampled.raise_modEvt 605 1 1 [i] 0xFFFF
  · exact ⟨id, rfl⟩

theorem State.latchInput_off {s : State} {i : Nat} (off : s.inputOn i = false) (raw : Int) (bad : Bool) : s.latchInput i raw bad = s :=
  if_pos (by simp [off])

theorem State.latchInput_thermIn {s : State} {i : Nat} (listed : i < s.therm.inputs.length) (on : s.inputOn i = true) (raw : Int) (bad : Bool) :
    (s.latchInput i raw bad).thermIn i = (s.thermIn i).latched (s.reading i raw) (s.goodSample i raw bad) := by
  obtain ⟨f, e⟩ := State.latchInput_modEvt on raw bad
  rw [e]
  exact State.modThermIn_thermIn listed _

/-- An on-die sensor gives its temperature. -/
theorem State.reading_sensor {i : Nat} (sensor : 16 ≤ i) (s : State) (raw : Int) : s.reading i raw = some raw :=
  if_neg (by simp [Nat.not_lt.mpr sensor])

theorem State.goodSample_sensor {i : Nat} (sensor : 16 ≤ i) {raw : Int} (low : -880 ≤ raw) (high : raw ≤ 2400) (s : State) :
    s.goodSample i raw false = true := by
  simp [State.goodSample, State.reading_sensor sensor, inRange, low, high]

/-! ## What a sample leaves -/

/-- The stage, what is enforced of it and the number of inputs, and the parts of the state that a thermal sample does not reach. -/
structure ThermView where
  lastSample : Nat
  stage : Nat
  enforced : Bool
  level : Nat
  inputs : Nat
  clk : Clock
  nss : List Namespace
  pwr : Power
  media : Media

def State.thermView (s : State) : ThermView :=
  { lastSample := s.therm.lastSample, stage := s.therm.stage, enforced := s.therm.enforced, level := s.therm.level
    inputs := s.therm.inputs.length, clk := s.clk, nss := s.nss, pwr := s.pwr, media := s.media }

theorem State.leaves_of_thermView {s t : State} {frame : Nat} (view : t.thermView = { s.thermView with lastSample := frame }) :
    t.therm.lastSample = frame ∧ t.therm.stage = s.therm.stage ∧ t.therm.enforced = s.therm.enforced ∧ t.therm.level = s.therm.level ∧
      t.therm.inputs.length = s.therm.inputs.length ∧ t.clk = s.clk ∧ t.nss = s.nss ∧ t.pwr = s.pwr ∧ t.media = s.media :=
  ⟨congrArg ThermView.lastSample view, congrArg ThermView.stage view, congrArg ThermView.enforced view, congrArg ThermView.level view,
    congrArg ThermView.inputs view, congrArg ThermView.clk view, congrArg ThermView.nss view, congrArg ThermView.pwr view,
    congrArg ThermView.media view⟩

theorem State.modTherm_thermView {s : State} {f : Thermal → Thermal} (keeps : (f s.therm).lastSample = s.therm.lastSample ∧
    (f s.therm).stage = s.therm.stage ∧ (f s.therm).enforced = s.therm.enforced ∧ (f s.therm).level = s.therm.level ∧
    (f s.therm).inputs.length = s.therm.inputs.length) : (s.modTherm f).thermView = s.thermView := by
  obtain ⟨lastSample, stage, enforced, level, inputs⟩ := keeps
  simp [State.thermView, State.modTherm, lastSample, stage, enforced, level, inputs]

theorem State.modThermIn_thermView (s : State) (i : Nat) (f : ThermIn → ThermIn) : (s.modThermIn i f).thermView = s.thermView :=
  State.modTherm_thermView ⟨rfl, rfl, rfl, rfl, List.length_modify _ _ _⟩

theorem State.raise_thermView (s : State) (source code severity : Nat) (args : List Nat) (fn : Nat) :
    (s.raise source code severity args fn).thermView = s.thermView := by
  obtain ⟨f, e⟩ := s.raise_modEvt source code severity args fn
  rw [e]
  rfl

theorem State.latchInput_thermView (s : State) (i : Nat) (raw : Int) (bad : Bool) : (s.latchInput i raw bad).thermView = s.thermView := by
  cases on : s.inputOn i with
  | true =>
    obtain ⟨f, e⟩ := State.latchInput_modEvt on raw bad
    rw [e]
    exact s.modThermIn_thermView i _
  | false => rw [State.latchInput_off on]


theorem State.judgeInput_thermView (s : State) (i : Nat) : (s.judgeInput i).thermView = s.thermView := by
  unfold State.judgeInput
  split
  · rfl
  · dsimp only
    (repeat' split) <;> simp only [State.raise_thermView, State.modThermIn_thermView]

/-- No sample is due: frames are dark, or 256 of them have not passed since the last sample (R475). -/
def State.sampleEarly (s : State) : Bool :=
  s.clk.dark || decide (s.clk.frame < s.therm.lastSample + 256) && s.therm.inputs.any (·.sampled)

theorem execThermalSample_early {s : State} (early : s.sampleEarly = true) (raws : List Int) (bad : List Bool) :
    exec (.thermalSample raws bad) s = .next s := congrArg _ (if_pos early)

/-- Every input is latched, and then judged by its neighbours. -/
def State.inputsSampled (s : State) (raws : List Int) (bad : List Bool) : State :=
  each (List.range 25) State.judgeInput <| each (List.range 25)
    (fun s i => s.latchInput i (raws.getD i 0) (bad.getD i (decide (raws.length ≤ i)))) (s.modTherm fun t => { t with lastSample := s.clk.frame })

/-- The highest values for the age clocks, and the counts of cool samples, after a sample. -/
def State.sampleCounted (s : State) : State :=
  let s := s.modTherm fun t => { t with inputs := t.inputs.zipIdx.map fun (x, i) =>
    { x with hottest := maxInt (x.hottest.toList ++ (s.inputValue i).toList) } }
  s.modTherm fun t => { t with
    flashCool := coolCounts (s.ctlValue ctlTf) (s.hottestOf s.flashInputs) t.flashCool
    junctionCool := coolCounts (s.ctlValue ctlTj) (s.hottestOf junctionInputs) t.junctionCool }

theorem State.inputsSampled_thermView (s : State) (raws : List Int) (bad : List Bool) :
    (s.inputsSampled raws bad).thermView = { s.thermView with lastSample := s.clk.frame } :=
  (each_view State.thermView State.judgeInput State.judgeInput_thermView _ _).trans
    (each_view State.thermView _ (fun s i => s.latchInput_thermView i _ _) _ _)

theorem State.sampleCounted_thermView (s : State) : s.sampleCounted.thermView = s.thermView := by
  unfold State.sampleCounted
  dsimp only
  rw [State.modTherm_thermView, State.modTherm_thermView]
  · exact ⟨rfl, rfl, rfl, rfl, (List.length_map _).trans List.length_zipIdx⟩
  · exact ⟨rfl, rfl, rfl, rfl, rfl⟩

theorem execThermalSample_due {s : State} (due : s.sampleEarly = false) (raws : List Int) (bad : List Bool) :
    exec (.thermalSample raws bad) s = .next (s.inputsSampled raws bad).sampleCounted :=
  congrArg Host.Outcome.next (if_neg (Bool.eq_false_iff.mp due))

/-! ## The stages (R478) -/

theorem stageAt_eq (base : Nat) {k : Nat} (positive : 1 ≤ k) : stageAt base k = 16 * ((base : Int) + 5 * ((k : Int) - 1)) := by
  unfold stageAt
  omega

/-- With every stage eight samples cool none is kept, and the stage is the number of the thresholds that are reached. -/
theorem stageOf_cool (base now : Nat) (t : Int) (cool : List Nat) (past : ∀ k, k < 4 → 8 ≤ cool.getD k 0) :
    stageOf base (some t) cool now = countIf (fun k => decide (stageAt base k ≤ t)) [1, 2, 3, 4] := by
  have left : [1, 2, 3, 4].filter (fun k => decide (k ≤ now) && decide (cool.getD (k - 1) 0 < 8)) = [] := by
    refine List.filter_eq_nil_iff.mpr fun k mem => ?_
    have := past (k - 1) (by simp at mem; omega)
    rw [decide_eq_false (Nat.not_lt.mpr this), Bool.and_false]
    exact Bool.false_ne_true
  unfold stageOf
  rw [left]
  exact Nat.max_zero _

/-- The thresholds ascend, so the number of those reached is the highest of them. -/
theorem countIf_stageAt (base : Nat) (t : Int) : countIf (fun k => decide (stageAt base k ≤ t)) [1, 2, 3, 4] =
    if stageAt base 4 ≤ t then 4 else if stageAt base 3 ≤ t then 3 else if stageAt base 2 ≤ t then 2 else if stageAt base 1 ≤ t then 1 else 0 := by
  have ascend (k : Nat) (positive : 1 ≤ k) : stageAt base k ≤ stageAt base (k + 1) := by unfold stageAt; omega
  have first := ascend 1 (by decide)
  have second := ascend 2 (by decide)
  have third := ascend 3 (by decide)
  split_ifs with four three two one
  · simp [countIf, four, third.trans four, second.trans (third.trans four), first.trans (second.trans (third.trans four))]
  · simp [countIf, four, three, second.trans three, first.trans (second.trans three)]
  · simp [countIf, four, three, two, first.trans two]
  · simp [countIf, four, three, two, one]
  · simp [countIf, four, three, two, one]

/-! ## The grace time (R479) -/

theorem execGraceTimeEnd_enforces {s : State} {f : Nat} (grace : s.therm.grace = some f) (past : f + 62500 * s.ctlValue ctlGrace ≤ s.clk.frame)
    (stage : 0 < s.therm.stage) (free : s.therm.enforced = false) : exec .graceTimeEnd s =
      .next ((s.modTherm fun t => { t with enforced := true, level := t.stage, grace := none }).raise 606 2 2 [requestedRate s.therm.stage]) := by
  simp [exec, execGraceTimeEnd, grace, past, stage, free]

/-- Settles O38: the sample by whether it is due, an input by whether its sample is good, and the stages by the thresholds reached. -/
theorem throttle : Obligations.Throttle := by
  unfold Obligations.Throttle
  refine ⟨?sample, ?early, ?input, ?stage, fun base t k positive _ => stageAt_eq base positive, ?grace⟩
  case sample =>
    intro raws bad s on past
    have view := (s.inputsSampled raws bad).sampleCounted_thermView.trans (s.inputsSampled_thermView raws bad)
    exact Answers.of (execThermalSample_due (by simp [State.sampleEarly, on, past]) raws bad) (State.leaves_of_thermView view)
  case early =>
    intro raws bad i s mem sampled early
    have some_ : s.therm.inputs.any (·.sampled) = true := List.any_eq_true.mpr ⟨i, mem, sampled⟩
    exact execThermalSample_early (by simp [State.sampleEarly, early, some_]) raws bad
  case input =>
    intro i raw s listed on
    rw [State.latchInput_thermIn listed on, State.latchInput_thermIn listed on]
    refine ⟨Bool.or_true _, rfl, fun sensor low high => ?_⟩
    rw [State.goodSample_sensor sensor low high, State.reading_sensor sensor]
    exact ⟨rfl, Bool.or_false _⟩
  case stage => exact fun base now t cool past => (stageOf_cool base now t cool past).trans (countIf_stageAt base t)
  case grace => exact fun f s grace past stage free => execGraceTimeEnd_enforces grace past stage free

end Sys2Proof.Machine
end

section
/-! SUPPORT. The operations of the table cache, and the way that is disabled (R443 to R448). -/

namespace Sys2Proof.Machine

/-! ## The rows -/

theorem cacheUnit_range {m a b : Nat} (mast : m < 8) (first : a < 33554432) (last : b < 33554432) : cacheUnit m true a b = true := by
  simp [cacheUnit, mast, first, last]
theorem cacheUnit_way {m set way : Nat} (mast : m < 8) (inSet : set < 4096) (inWay : way < 16) : cacheUnit m false set way = true := by
  simp [cacheUnit, mast, inSet, inWay]
theorem fillUnit {m line : Nat} (mast : m < 8) (inLine : line < 33554432) : (decide (m < 8) && decide (line < 2 ^ 25)) = true := by
  simp [mast, inLine]

section
variable {s : State} {m : Nat}

theorem State.onCache_active (active : (s.mast m).state = .active) (f : Cache → Cache) : s.onCache m f = s.modCache m f :=
  if_pos (by simp [active])
theorem State.onCache_inactive (inactive : (s.mast m).state ≠ .active) (f : Cache → Cache) : s.onCache m f = s :=
  if_neg (by simp [inactive])

/-- A row whose operands name a unit runs its operation on the cache of an active mast. -/
theorem whenUnit_onCache {ok : Bool} (unit : ok = true) (active : (s.mast m).state = .active) (f : Cache → Cache) :
    whenUnit ok (.next (s.onCache m f)) = .next (s.modCache m f) :=
  (if_pos unit).trans (congrArg Host.Outcome.next (State.onCache_active active f))

/-- What an operation on one cache leaves. -/
theorem State.onCache_leaves (f : Cache → Cache) : (s.onCache m f).nss = s.nss ∧ (s.onCache m f).media = s.media ∧ (s.onCache m f).clk = s.clk ∧
    (s.onCache m f).masts.length = s.masts.length ∧ ∀ k, k ≠ m → (s.onCache m f).mast k = s.mast k := by
  unfold State.onCache
  split
  · exact ⟨rfl, rfl, rfl, s.modMast_masts_length m _, fun k other => s.modMast_mast_other m k _ other⟩
  · exact ⟨rfl, rfl, rfl, rfl, fun _ _ => rfl⟩

theorem State.onCache_disabled {f : Cache → Cache} (keeps : ∀ c, (f c).disabled = c.disabled) (listed : m < s.masts.length) :
    ((s.onCache m f).mast m).cache.disabled = (s.mast m).cache.disabled := by
  unfold State.onCache
  split
  · exact (congrArg (fun x : Mast => x.cache.disabled) (s.modMast_mast_same m _ listed)).trans (keeps _)
  · rfl
end

/-! ## Lines -/

theorem Cache.writeBack_evict {c : Cache} {a b : Nat × Bool} {rest : List (Nat × Bool)} (queued : c.evict = a :: b :: rest) :
    c.writeBack.evict = (b.1, true) :: rest := by
  unfold Cache.writeBack
  rw [queued]
  rfl

theorem Cache.fill_present {c : Cache} {line : Nat} {l : CacheLine} (found : c.find line = some l) (w : Bool) :
    c.fill line w = some ((c.put { l with dirty := l.dirty || w }).touch l.set l.way) := by
  simp [Cache.fill, found]

/-- Whether an operation covers a line does not depend on its being dirty. -/
theorem CacheLine.covered_clean (r : Bool) (a b : Nat) (l : CacheLine) : CacheLine.covered r a b { l with dirty := false } = l.covered r a b := rfl

theorem Cache.clean_lines {c : Cache} {r : Bool} {a b : Nat} {l : CacheLine} (mem : l ∈ (c.clean r a b).lines) (covered : l.covered r a b = true) :
    l.dirty = false := by
  obtain ⟨x, -, rfl⟩ := List.mem_map.mp mem
  cases within : x.covered r a b with
  | true => rw [if_pos rfl]
  | false =>
    rw [within, if_neg Bool.false_ne_true] at covered
    exact absurd (within.symm.trans covered) Bool.false_ne_true

theorem Cache.flush_lines {c : Cache} {r withLocked : Bool} {a b : Nat} {l : CacheLine} (mem : l ∈ (c.flush r a b withLocked).lines) :
    (! (l.covered r a b && (! l.locked || withLocked))) = true :=
  (List.mem_filter.mp mem).2

/-! ## The way that is disabled (R448) -/

theorem Cache.place_disabled (c : Cache) (l : CacheLine) : (c.place l).disabled = c.disabled := rfl

theorem Cache.lock_disabled (c : Cache) (line : Nat) : (c.lock line).disabled = c.disabled := by
  unfold Cache.lock
  dsimp only
  (repeat' split) <;> rfl

theorem Cache.relock_disabled (lines : List Nat) (c : Cache) : (c.relock lines).disabled = c.disabled := by
  have keeps (l : List Nat) (c : Cache) : (l.foldl Cache.lock c).disabled = c.disabled := by
    induction l generalizing c with
    | nil => rfl
    | cons x l ih => exact (ih (c.lock x)).trans (c.lock_disabled x)
  exact keeps lines _

/-- A way of a cache takes no more lines, before its locked records are locked again. -/
def State.wayOff (s : State) (m g w : Nat) : State := s.modCache m fun c =>
  { c.drop (fun l => setGroup l.set == g && l.way == w) with disabled := c.disabled ++ [(g, w)] }

theorem execWayDisable_due {s : State} {m g w : Nat} (mast : m < 8) (group : g < 16) (way : w < 16) (active : (s.mast m).state = .active)
    (due : s.wayDue m g w = true) : ∃ f, exec (.wayDisable m g w) s = .next (((s.wayOff m g w).modEvt f).onCache m
      (Cache.relock ((s.wayOff m g w).lockedRecords m))) := by
  obtain ⟨f, raised⟩ := (s.wayOff m g w).raise_modEvt (60 * m + 17) 1 1 [g, w] 0xFFFF
  refine ⟨f, (if_pos (by simp [mast, group, way])).trans (congrArg Host.Outcome.next ((if_pos (by simp [active, due])).trans ?_))⟩
  rw [← raised]
  rfl

/-- Settles O37: each row on an active mast is its operation of the cache, whose lines are read off what it maps and filters. -/
theorem tableCache : Obligations.TableCache := by
  unfold Obligations.TableCache
  refine ⟨?fill, fun c line w l found => Cache.fill_present found w, ?writeBack, fun c a b rest => Cache.writeBack_evict, ?range, ?way, ?lines,
    ?disable, ?inactive⟩
  case fill => exact fun m line w s mast inLine active => whenUnit_onCache (fillUnit mast inLine) active _
  case writeBack => exact fun m s mast active => whenUnit_onCache (decide_eq_true mast) active _
  case range =>
    intro m a b s mast first last active
    have unit := cacheUnit_range mast first last
    exact ⟨whenUnit_onCache unit active _, whenUnit_onCache unit active _, whenUnit_onCache unit active _⟩
  case way =>
    intro m set way s mast inSet inWay active
    have unit := cacheUnit_way mast inSet inWay
    exact ⟨whenUnit_onCache unit active _, whenUnit_onCache unit active _, whenUnit_onCache unit active _⟩
  case lines =>
    refine fun c r a b => ⟨fun l => Cache.clean_lines, fun l mem => ?_, fun l mem covered => ?_⟩
    · simpa using Cache.flush_lines mem
    · simpa [covered] using Cache.flush_lines mem
  case disable =>
    intro m g w s mast group way active due
    obtain ⟨f, row⟩ := execWayDisable_due mast group way active due
    obtain ⟨nss, media, clk, -, others⟩ := State.onCache_leaves (s := (s.wayOff m g w).modEvt f) (m := m)
      (Cache.relock ((s.wayOff m g w).lockedRecords m))
    refine Answers.of row ⟨nss, media, clk, fun listed => ?_, fun k other => (others k other).trans (s.modMast_mast_other m k _ other)⟩
    exact (State.onCache_disabled (s := (s.wayOff m g w).modEvt f) (Cache.relock_disabled _)
      (listed.trans_eq (s.modMast_masts_length m _).symm)).trans (congrArg (fun x : Mast => x.cache.disabled) (s.modMast_mast_same m _ listed))
  case inactive =>
    exact fun m line w s mast inLine inactive =>
      (if_pos (fillUnit mast inLine)).trans (congrArg Host.Outcome.next (State.onCache_inactive inactive _))

end Sys2Proof.Machine
end

section
/-! SUPPORT. Corrections, uncorrectable errors and the fill of the protected memories (R448 to R455). -/

namespace Sys2Proof.Machine

/-! ## One memory -/

theorem State.modMem_mem {s : State} {i : Nat} (listed : i < s.mems.length) (f : MemUnit → MemUnit) : (s.modMem i f).mem i = f (s.mem i) := by
  simp [State.mem, State.modMem, State.modMems, List.getD_eq_getElem?_getD, listed]

/-- An update of a memory is what it makes of that memory. -/
theorem State.modMem_congr {s : State} {i : Nat} {f g : MemUnit → MemUnit} (same : f (s.mem i) = g (s.mem i)) : s.modMem i f = s.modMem i g := by
  refine congrArg (fun l => { s with mems := l }) ?_
  dsimp only
  rw [List.modify_eq_set_getElem?, List.modify_eq_set_getElem?]
  cases found : s.mems[i]? with
  | none => rfl
  | some u =>
    have here : s.mem i = u := by simp [State.mem, List.getD_eq_getElem?_getD, found]
    rw [here] at same
    exact congrArg (s.mems.set i) same

/-! ## The report of a correction (R452) -/

theorem memSource_elsewhere (i : Nat) : memSource i ≠ 605 ∧ memSource i ≠ 606 := by
  unfold memSource
  split <;> omega

/-- A report is due: none has been made, or 62,500 frames have passed since it. -/
theorem State.reportCorrection_due {s : State} {i : Nat} (due : ∀ f, (s.mem i).lastEvent = some f → f + 62500 ≤ s.clk.frame) (a : Nat) :
    s.reportCorrection i a = (s.modMem i fun u => { u with lastEvent := some s.clk.frame }).raise (memSource i) (if isDram i then 2 else 1) 0 [a] := by
  unfold State.reportCorrection
  cases last : (s.mem i).lastEvent with
  | none => rfl
  | some f => exact if_pos (decide_eq_true (due f last))

theorem State.reportCorrection_recent {s : State} {i f : Nat} (last : (s.mem i).lastEvent = some f) (recent : s.clk.frame < f + 62500) (a : Nat) :
    s.reportCorrection i a = s := by
  simp [State.reportCorrection, last, Nat.not_le.mpr recent]

theorem State.reportCorrection_raised {s : State} (on : s.clk.dark = false) {i : Nat}
    (due : ∀ f, (s.mem i).lastEvent = some f → f + 62500 ≤ s.clk.frame) (a : Nat) : (s.reportCorrection i a).evt.raised = s.evt.raised ++ [{
      frame := s.clk.frame, source := memSource i, code := if isDram i then 2 else 1, severity := 0, fn := 0xFFFF, args := [a] }] := by
  obtain ⟨noInput, noStage⟩ := memSource_elsewhere i
  rw [State.reportCorrection_due due, State.raise_raised (s := s.modMem i _) on]
  simp [State.eventOf, noInput, noStage, State.modMem]

/-! ## Errors -/

theorem execCorrectableError_first {s : State} {i a : Nat} (unit : memUnit i = true) (noCache : i < 32) (present : s.memPresent i = true)
    (first : ∀ x ∈ (s.mem i).corrected, x.1 ≠ a / wordBytes i) : exec (.correctableError i a) s =
      .next ((s.modMem i fun u => { u with corrected := u.corrected ++ [(a / wordBytes i, s.clk.frame)] }).reportCorrection i a) := by
  have never : (s.mem i).corrected.any (fun x => x.1 == a / wordBytes i) = false := by simpa using first
  have once : (s.mem i).corrected.any (fun x => x.1 == a / wordBytes i && Config.scrubLap i x.2 != Config.scrubLap i s.clk.frame) = false := by
    simpa using fun x y mem same => absurd same (first (x, y) mem)
  have entered : (s.modMem i fun u => { u with corrected := if u.corrected.any (fun x => x.1 == a / wordBytes i) then u.corrected else
      u.corrected ++ [(a / wordBytes i, s.clk.frame)] }) = s.modMem i fun u => { u with corrected := u.corrected ++ [(a / wordBytes i, s.clk.frame)] } :=
    State.modMem_congr (by rw [never]; rfl)
  refine (if_pos unit).trans (congrArg Host.Outcome.next ?_)
  rw [if_neg (by simp [present]), if_neg (Nat.not_le.mpr noCache)]
  dsimp only
  rw [once, entered]
  rfl

theorem execCorrectableError_cache {s : State} {i a : Nat} (low : 32 ≤ i) (high : i < 40) (present : s.memPresent i = true) :
    exec (.correctableError i a) s = .next ((s.modCache (i - 32) fun c =>
      c.corrected (setGroup (a % 4096)) (a / 4096 % 16) s.clk.frame).reportCorrection i a) :=
  (if_pos (by simp [memUnit, low, high])).trans (congrArg Host.Outcome.next ((if_neg (by simp [present])).trans (if_pos low)))

section
variable {s : State} {i : Nat} (present : s.memPresent i = true) (a : Nat) (h : MemHolds)
include present

theorem State.memPresent_memUnit : memUnit i = true := (Bool.and_eq_true_iff.mp present).1

theorem execUncorrectableError_present : exec (.uncorrectableError i a h) s = .next (if isDram i then
    (if holdsIn s i h then s.dramError h else s).retirePage i (a / 4096) else match memMast i with
      | some m => s.mastFault m 3
      | none => s.deviceFault) :=
  (if_pos (State.memPresent_memUnit present)).trans (congrArg Host.Outcome.next (if_neg (by simp [present])))
end

/-- A unit is in the DRAM of the mast that holds its block. -/
theorem holdsIn_unit {s : State} {i n l : Nat} {b : Stored} (found : s.block? n l = some b) (holds : holdsIn s i (.unit n l) = true) : b.mast = i := by
  simpa [holdsIn, found] using holds

/-! ## The fill in start-up (R451) -/

theorem State.inStage_starting {s : State} {n : Nat} (stage : s.inStage n = true) : s.pwr.dev = .starting := by
  simp only [State.inStage, Bool.and_eq_true, beq_iff_eq] at stage
  exact stage.1.1.1.1

/-- A memory with nothing recorded but its retired banks; of a mast's, the ways of the table cache take fills again. -/
def State.filled (s : State) (i : Nat) : State :=
  let s := s.modMem i fun u => { retiredBanks := u.retiredBanks, filled := true }
  match memMast i with
  | some m => s.modCache m fun c => { c with disabled := [], errors := [] }
  | none => s

theorem State.filled_leaves (s : State) (i : Nat) :
    (s.filled i).mems = (s.modMem i fun u => { retiredBanks := u.retiredBanks, filled := true }).mems ∧ (s.filled i).pwr = s.pwr ∧
      (s.filled i).clk = s.clk ∧ (s.filled i).start = s.start ∧ (s.filled i).media = s.media ∧ (s.filled i).fuses = s.fuses := by
  unfold State.filled
  dsimp only
  split <;> exact ⟨rfl, rfl, rfl, rfl, rfl, rfl⟩

theorem execMemoryFill_starts {s : State} {i : Nat} (unit : memUnit i = true) (noCache : i < 32) (present : s.memPresent i = true)
    (sram : isDram i = false) (early : s.inStage 1 = true ∨ s.inStage 2 = true) : exec (.memoryFill i []) s =
      .next ((s.filled i).modStart fun x => { x with stage := if (s.filled i).fillList.all fun j => ((s.filled i).mem j).filled then 3 else 2 }) := by
  obtain ⟨-, pwr, clk, start, -, -⟩ := s.filled_leaves i
  have starting : s.pwr.dev = .starting := early.elim State.inStage_starting State.inStage_starting
  have due : s.fillDue i = true := by rcases early with first | second <;> simp [State.fillDue, *]
  have stage (n : Nat) : (s.filled i).inStage n = s.inStage n := by simp only [State.inStage, State.hcxOn, pwr, clk, start]
  refine (if_pos (by simp [unit, noCache])).trans (congrArg Host.Outcome.next ((if_neg (by simp [present, due])).trans ?_))
  extract_lets cleared cached retired
  have none_ : retired = s.filled i := if_neg (Bool.eq_false_iff.mp sram)
  rw [none_, if_neg (by simp [State.ready, pwr, starting]), if_pos (by simpa [stage] using early)]

/-- Settles O17: each row by the kind of its memory; a fill in start-up sets the memory and leaves the stage by the memories that are filled. -/
theorem memoryProtection : Obligations.MemoryProtection := by
  unfold Obligations.MemoryProtection
  refine ⟨?first, fun i a s on due => State.reportCorrection_raised on due a, fun i a f s last recent => State.reportCorrection_recent last recent a,
    fun i a s low high present => execCorrectableError_cache low high present, ?mastSram, ?sram, ?dram,
    fun i n l b s found => holdsIn_unit found, ?fill⟩
  case first => exact fun i a s unit noCache present first => execCorrectableError_first unit noCache present first
  case mastSram =>
    intro i a m h s _ present sram mast
    rw [execUncorrectableError_present present, sram, mast]
    rfl
  case sram =>
    intro i a h s _ present sram none_
    rw [execUncorrectableError_present present, sram, none_]
    rfl
  case dram =>
    intro i a h s low present
    have row := execUncorrectableError_present present a h
    rw [if_pos (show isDram i = true from decide_eq_true low)] at row
    exact ⟨fun holds => by rw [row, holds]; rfl, fun free => by rw [row, free]; rfl⟩
  case fill =>
    intro i s unit noCache listed present sram early
    obtain ⟨mems, -, clk, -, media, fuses⟩ := s.filled_leaves i
    refine Answers.of (execMemoryFill_starts unit noCache present sram early) ⟨?_, rfl, clk, media, fuses⟩
    exact (congrArg (fun l : List MemUnit => l.getD i {}) mems).trans (State.modMem_mem listed _)

end Sys2Proof.Machine
end

section
/-! SUPPORT. Configuration requests, the state of a host link, PERST and the wake of the host (R388, R389, R422, R463, R468, R488, R497, R526). -/

namespace Sys2Proof.Machine

theorem ctrlUnit_function {f : Nat} (listed : f ≤ 128) : ctrlUnit f false = true := by simp [ctrlUnit, listed]

/-! ## Configuration requests (R389, R488) -/

section
variable {f : Nat} {s : State} (listed : f ≤ 128) (on : s.clk.dark = false) (powered : 72 ∉ s.pwr.furled) (up : (s.hostPort 0).perst = false) (o : Nat)
include listed on powered up

/-- A port that answers retries a request of a function whose configuration space is not open, and answers the others. -/
theorem execConfigurationRequest_answers : exec (.configurationRequest f false o) s = .next (if ! s.configOpen f false then
    s.emit (.config f true 0) else (s.emit (.config f false (s.configRead f false o))).bump) :=
  (if_pos (ctrlUnit_function listed)).trans (congrArg Host.Outcome.next (if_neg (by simp [State.hcxOn, on, powered, up])))
end

theorem State.configRead_identifiers (s : State) (f : Nat) (port1 : Bool) :
    s.configRead f port1 0 = 0x1F5B + s.deviceId f port1 * 65536 := by
  simp [State.configRead, plynham]

theorem State.deviceId_instance {f : Nat} (inst : f ≠ 0) (s : State) : s.deviceId f false = 0x88F0 :=
  (if_neg Bool.false_ne_true).trans (if_pos (by simp [inst]))

/-! ## The state of a link (R388, R463) -/

section
variable {p : Nat} {s : State} (port : p < 2) (on : s.clk.dark = false) (up : (s.hostPort p).perst = false) (listed : p ∈ s.hostPorts) (r w : Nat)
include port on up listed

/-- A link that reaches L0 at its full rate and width ends arming, and nothing is reported. -/
theorem execHostLinkStateChange_l0 (full : s.belowFull r w = false) : exec (.hostLinkStateChange p .l0 r w) s =
    .next ((s.modHostPort p fun x => { x with link := .l0, rate := r, width := w }).modPwr fun q => { q with armed := none }) := by
  refine (if_pos (decide_eq_true port)).trans (congrArg Host.Outcome.next ((if_neg (by simp [State.hcxOn, on, up, listed])).trans ((if_pos rfl).trans ?_)))
  refine if_neg (Bool.eq_false_iff.mp ?_)
  have same : ((s.modHostPort p fun x => { x with link := .l0, rate := r, width := w }).modPwr fun q => { q with armed := none }).belowFull r w =
    s.belowFull r w := rfl
  rw [same, full, Bool.false_and]

theorem execHostLinkStateChange_l23 (control : s.ctlValue ctlCrowOnL2 = 1) (free : s.pwr.armed = none) :
    exec (.hostLinkStateChange p .l23 r w) s = .next ((s.modHostPort p fun x => { x with link := .l23, rate := r, width := w }).modPwr fun q =>
      { q with armed := some (s.ctlValue ctlSampling) }) := by
  refine (if_pos (decide_eq_true port)).trans (congrArg Host.Outcome.next ((if_neg (by simp [State.hcxOn, on, up, listed])).trans ?_))
  have control' : (s.modHostPort p fun x => { x with link := .l23, rate := r, width := w }).ctlValue ctlCrowOnL2 = 1 := control
  have free' : (s.modHostPort p fun x => { x with link := .l23, rate := r, width := w }).pwr.armed = none := free
  exact (if_neg (by decide)).trans (if_pos (by simp [control', free']))
end

/-! ## PERST (R422, R497) -/

/-- What the resets of controllers, mailboxes and rings do not reach. -/
def State.hostView (s : State) : List HostPort × Clock × Media × Keys × List Namespace := (s.io.ports, s.clk, s.media, s.keys, s.nss)

theorem State.clearVfEnable_hostView (s : State) : s.clearVfEnable.hostView = s.hostView :=
  State.queueLosses_view State.hostView (fun _ _ => rfl) (s.modIo fun h => { h with vfEnable := false, numVfs := 0 }) _

theorem State.clearVfEnable_io (s : State) : s.clearVfEnable.io.vfEnable = false ∧ s.clearVfEnable.io.numVfs = 0 := by
  have io : s.clearVfEnable.io = { s.io with vfEnable := false, numVfs := 0 } :=
    State.queueLosses_view State.io (fun _ _ => rfl) (s.modIo fun h => { h with vfEnable := false, numVfs := 0 }) _
  rw [io]
  exact ⟨rfl, rfl⟩

/-- A host port in reset is as it is at power-on: without a link, and its reset held. -/
def HostPort.held (_ : HostPort) : HostPort := {}

/-- The mailboxes, the rings and the controller of function 0 on port 0, and the rings of the instances, return to reset. -/
def State.windowsReset (s : State) : State :=
  each ((List.range 128).map (· + 1)) (fun s f => s.resetRings f false)
    (((s.resetBoxes (s.portBox false) 0x0803).resetRings 0 false).modCtrl 0 false Ctrl.windowReset)

theorem State.resetRings_hostView (s : State) (f : Nat) (port1 : Bool) : (s.resetRings f port1).hostView = s.hostView := rfl

theorem State.windowsReset_hostView (s : State) : s.windowsReset.hostView = s.hostView := by
  unfold State.windowsReset
  rw [each_view State.hostView _ fun s f => s.resetRings_hostView f false]
  exact (s.resetBoxes (s.portBox false) 0x0803).resetRings_hostView 0 false

theorem execPerst_on {s : State} (on : s.clk.dark = false) : exec (.perst 0) s =
    .next (((s.modHostPort 0 HostPort.held).noExpert.windowsReset.clearVfEnable).queueReset 0 .perst) := by
  show execPerst 0 s = _
  unfold execPerst
  rw [whenUnit, if_pos (by decide), if_neg (by simp)]
  extract_lets held port1 boxes window rings
  have on' : held.clk.dark = false := on
  rw [if_neg (by rw [State.hcxOn_eq_true.mpr on']; decide), if_neg (by decide)]
  exact congrArg (fun v : State => Host.Outcome.next (v.clearVfEnable.queueReset 0 .perst)) (rfl : rings = held.windowsReset)

theorem State.modHostPort_ports {s : State} (two : s.io.ports.length = 2) (f : HostPort → HostPort) :
    (s.modHostPort 0 f).io.ports.getD 0 {} = f (s.hostPort 0) ∧ (s.modHostPort 0 f).io.ports.getD 1 {} = s.hostPort 1 := by
  obtain ⟨a, b, ports⟩ := List.length_eq_two.mp two
  simp [State.modHostPort, State.modIo, State.hostPort, ports]

/-! ## Wake sources (R468) -/

theorem execPerstRelease_wakes {s : State} (held : (s.hostPort 0).perst = true) (sound : s.start.fault = false) : exec (.perstRelease 0) s =
    .next (((s.modHostPort 0 fun p => { p with perst := false }).modPwr fun p => { p with wakeDriven := false }).wake 5) :=
  congrArg Host.Outcome.next ((if_neg (by simp [held])).trans (if_neg (by simp [State.modHostPort, sound])))

theorem State.wake_starts {s : State} {source : Nat}
    (asleep : s.pwr.dev = .crowsNest ∨ s.pwr.dev = .poweredDown ∧ (source = 3 ∨ source = 4 ∨ source = 5 ∨ source = 9)) :
    (s.wake source).pwr.dev = .starting ∧ (s.wake source).start.stage = 2 ∧ (s.wake source).pwr.lastWake = source ∧
      (s.wake source).evt.later = s.evt.later ++ [{ frame := 0, source := 607, code := source, severity := 0 }] := by
  unfold State.wake
  rw [if_pos (by simpa [or_assoc] using asleep)]
  exact ⟨rfl, rfl, rfl, rfl⟩

/-- Settles O25: each row by the state of its port; PERST by what the resets that it brings leave of the ports. -/
theorem hostLinks : Obligations.HostLinks := by
  unfold Obligations.HostLinks
  refine ⟨?request, fun f p1 s => s.configRead_identifiers f p1, fun s => ⟨rfl, rfl, fun f inst => State.deviceId_instance inst s⟩,
    fun p r w s port on up listed full => execHostLinkStateChange_l0 port on up listed r w full,
    fun p r w s port on up listed control free => execHostLinkStateChange_l23 port on up listed r w control free, ?perst,
    fun s held sound => execPerstRelease_wakes held sound, fun p s port => if_pos (decide_eq_true port), fun s => rfl,
    fun source s => State.wake_starts⟩
  case request =>
    intro f o s listed on powered up
    have row := execConfigurationRequest_answers listed on powered up o
    exact ⟨fun shut => by rw [row, shut]; rfl, fun opened => by rw [row, opened]; rfl⟩
  case perst =>
    intro s two on
    obtain ⟨first, second⟩ := State.modHostPort_ports two HostPort.held
    refine Answers.of (execPerst_on on) ?_
    generalize reset : (s.modHostPort 0 HostPort.held).noExpert.windowsReset = u
    have view : u.clearVfEnable.hostView = (s.modHostPort 0 HostPort.held).hostView :=
      u.clearVfEnable_hostView.trans (reset ▸ State.windowsReset_hostView _)
    obtain ⟨enable, count⟩ := u.clearVfEnable_io
    simp only [State.hostView, Prod.mk.injEq] at view
    obtain ⟨ports, clk, media, keys, nss⟩ := view
    have port0 : (u.clearVfEnable.queueReset 0 .perst).hostPort 0 = HostPort.held (s.hostPort 0) :=
      (congrArg (fun l : List HostPort => l.getD 0 {}) ports).trans first
    have port1 : (u.clearVfEnable.queueReset 0 .perst).hostPort 1 = s.hostPort 1 :=
      (congrArg (fun l : List HostPort => l.getD 1 {}) ports).trans second
    rw [port0]
    exact ⟨rfl, rfl, rfl, enable, count, port1, clk, media, keys, nss⟩

end Sys2Proof.Machine
end

section
/-! SUPPORT. Doorbells, the fetch, outstanding requests, pauses and interrupts (R396, R398, R403 to R407, R441). -/

namespace Sys2Proof.Machine

/-! ## The submission queues of a controller -/

/-- A function is one of every state of the same shape. -/
theorem State.real_of_shape {s t : State} {f : Nat} (real : f < s.fns.length) (same : t.shape = s.shape) : f < t.fns.length :=
  real.trans_eq (congrArg Shape.fns same).symm

section
variable {s : State} {f : Nat} (real : f < s.fns.length) (port1 : Bool)
include real

theorem State.modCtrl_sqs {g : Ctrl → Ctrl} (keeps : ∀ k, (g k).sqs = k.sqs) : ((s.modCtrl f port1 g).ctrl f port1).sqs = (s.ctrl f port1).sqs :=
  (congrArg Ctrl.sqs (State.modCtrl_ctrl_same real port1 g)).trans (keeps _)

theorem State.modCtrl_real (g : Ctrl → Ctrl) : f < (s.modCtrl f port1 g).fns.length :=
  State.real_of_shape real (State.modCtrl_shape s f port1 g)

theorem State.interrupt_sqs (v : Nat) : ((s.interrupt f port1 v).ctrl f port1).sqs = (s.ctrl f port1).sqs := by
  unfold State.interrupt
  split
  · rfl
  · split
    · exact State.modCtrl_sqs real port1 fun _ => rfl
    · rfl

theorem State.cqInterrupt_sqs (cq : Cq) : ((s.cqInterrupt f port1 cq).ctrl f port1).sqs = (s.ctrl f port1).sqs := by
  unfold State.cqInterrupt
  split
  · rfl
  · dsimp only
    split
    · split
      · rfl
      · exact State.modCtrl_sqs real port1 fun _ => rfl
    · exact State.interrupt_sqs real port1 _

theorem State.postEntry_sqs (e : Cqe) : ((s.postEntry f port1 e).ctrl f port1).sqs = (s.ctrl f port1).sqs := by
  unfold State.postEntry
  dsimp only
  split
  · rfl
  · split
    · rfl
    · exact (State.cqInterrupt_sqs (State.modCtrl_real real port1 _) port1 _).trans (State.modCtrl_sqs real port1 fun _ => rfl)

/-- An asynchronous event changes no submission queue. -/
theorem State.asyncEvent_sqs (info : Nat) : ((s.asyncEvent f port1 info).ctrl f port1).sqs = (s.ctrl f port1).sqs := by
  unfold State.asyncEvent
  split
  · rfl
  · split
    · exact State.modCtrl_sqs real port1 fun _ => rfl
    · exact (State.postEntry_sqs (State.modCtrl_real real port1 _) port1 _).trans (State.modCtrl_sqs real port1 fun _ => rfl)
end

/-! ## A read of a queue that fails (R405) -/

/-- The queue `q` is stalled, if it stands. -/
def Ctrl.stall (q : Nat) (c : Ctrl) : Ctrl := { c with sqs := updIf (·.qid == q) (fun x => { x with stalled := true }) c.sqs }

theorem Ctrl.stall_stalled {q : Nat} {c : Ctrl} {x : Sq} (mem : x ∈ (c.stall q).sqs) (named : x.qid = q) : x.stalled = true := by
  obtain ⟨y, -, e⟩ := mem_updIf mem
  split at e
  · rw [e]
  next other => exact absurd (e ▸ named) (by simpa using other)

theorem State.dmaFailed_sqFetch_sqs {s : State} {r : DmaReq} {q : Nat} (what : r.what = .sqFetch q) (real : r.fn < s.fns.length) (code : Nat) :
    ∃ c : Ctrl, ((s.dmaFailed r code).ctrl r.fn r.port1).sqs = (c.stall q).sqs := by
  unfold State.dmaFailed
  extract_lets cmd port1 queue logged
  have real' : r.fn < (logged.modCtrl r.fn port1 (Ctrl.stall q)).fns.length := State.real_of_shape real (by simp [logged])
  obtain ⟨e, raised⟩ := (logged.modCtrl r.fn port1 (Ctrl.stall q)).raise_modEvt 482 4 2 [q, r.address] r.fn
  rw [what]
  refine ⟨logged.ctrl r.fn port1, (State.asyncEvent_sqs (State.real_of_shape real' (State.raise_shape ..)) port1 _).trans ?_⟩
  refine Eq.trans (congrArg (fun u : State => (u.ctrl r.fn port1).sqs) raised) ?_
  exact congrArg Ctrl.sqs (State.modCtrl_ctrl_same (State.real_of_shape real (by simp [logged])) port1 (Ctrl.stall q))

/-! ## Doorbells and the fetch (R396) -/

section
variable {f : Nat} {s : State} (listed : f ≤ 128) (opens : s.configOpen f false = true) (enabled : (s.ctrl f false).ccEn = true)
include listed opens enabled

theorem execSqTailDoorbell_valid {q t : Nat} {x : Sq} (stands : (s.ctrl f false).sqs.find? (fun y => y.qid == q) = some x) (inside : t < x.size) :
    exec (.sqTailDoorbell f false q t) s = .next (s.modCtrl f false fun c => { c with
      sqs := updIf (fun y => y.qid == q) (fun y => { y with tail := t, stalled := false }) c.sqs }) := by
  refine (if_pos (ctrlUnit_function listed)).trans (congrArg Host.Outcome.next ((if_neg (by simp [opens, enabled])).trans ?_))
  rw [stands]
  exact if_neg (Nat.not_le.mpr inside)

theorem execSqTailDoorbell_outside {q t : Nat} {x : Sq} (stands : (s.ctrl f false).sqs.find? (fun y => y.qid == q) = some x) (outside : x.size ≤ t) :
    exec (.sqTailDoorbell f false q t) s = .next (s.asyncEvent f false 0x010100) := by
  refine (if_pos (ctrlUnit_function listed)).trans (congrArg Host.Outcome.next ((if_neg (by simp [opens, enabled])).trans ?_))
  rw [stands]
  exact if_pos outside

theorem execCqHeadDoorbell_valid {q h : Nat} {x : Cq} (stands : (s.ctrl f false).cqs.find? (fun y => y.qid == q) = some x) (inside : h < x.size)
    (posted : (h + x.size - x.head) % max 1 x.size ≤ x.entries.length) : exec (.cqHeadDoorbell f false q h) s = .next (s.modCtrl f false fun c => { c with
      cqs := updIf (fun y => y.qid == q) (fun y => { y with head := h, entries := y.entries.drop ((h + x.size - x.head) % max 1 x.size) }) c.cqs }) := by
  refine (if_pos (ctrlUnit_function listed)).trans (congrArg Host.Outcome.next ((if_neg (by simp [opens, enabled])).trans ?_))
  rw [stands]
  exact if_neg (by simp [inside, posted])

theorem execCqHeadDoorbell_missing {q : Nat} (missing : (s.ctrl f false).cqs.find? (fun y => y.qid == q) = none) (h : Nat) :
    exec (.cqHeadDoorbell f false q h) s = .next (s.asyncEvent f false 0x010000) := by
  refine (if_pos (ctrlUnit_function listed)).trans (congrArg Host.Outcome.next ((if_neg (by simp [opens, enabled])).trans ?_))
  rw [missing]
end

section
variable {s : State} {f q : Nat} {p1 : Bool} (turn : s.fetchTurn = some (f, q, p1))
include turn

theorem execCommandFetch_ok : exec (.commandFetch .ok) s = .next (State.fetchFrom (min 128 (s.ctrl f p1).burst) f q p1 s) := by
  simp [exec, execCommandFetch, turn]

theorem execCommandFetch_timeout : exec (.commandFetch .timeout) s =
    .next (s.dmaFailed { req := 0, fn := f, port1 := p1, what := .sqFetch q, issued := s.clk.frame } 1) := by
  simp [exec, execCommandFetch, turn]
end

/-- Settles O28: each doorbell by the queue that it names, and a failed read by the queues of its function's controller. -/
theorem doorbells : Obligations.Doorbells := by
  refine ⟨fun f q t x s listed opens enabled stands inside => execSqTailDoorbell_valid listed opens enabled stands inside,
    fun f q t x s listed opens enabled stands outside => execSqTailDoorbell_outside listed opens enabled stands outside,
    fun f q h x s listed opens enabled stands inside posted => execCqHeadDoorbell_valid listed opens enabled stands inside posted,
    fun f q h s listed opens enabled missing => execCqHeadDoorbell_missing listed opens enabled missing h,
    fun f q p1 s turn => execCommandFetch_ok turn, fun f q p1 s turn => execCommandFetch_timeout turn, ?stalls⟩
  intro f q code s _ real x mem named
  obtain ⟨c, sqs⟩ := State.dmaFailed_sqFetch_sqs
    (r := { req := 0, fn := f, port1 := false, what := .sqFetch q, issued := s.clk.frame }) rfl real code
  exact Ctrl.stall_stalled (sqs ▸ mem) named

/-! ## Outstanding requests (R403 to R405) -/

section
variable {s : State} {q : Nat} {r : DmaReq} (found : s.io.reqs.find? (fun x => x.req == q) = some r) (live : r.retiredUntil = none)
include found live

section
variable (first : r.port1 = false) (past : r.issued + timeoutOf (s.hostPort 0).cto ≤ s.clk.frame)
include first past

theorem execCompletionTimeout_fails (runs : s.paused r.fn false = false) : exec (.completionTimeout q) s = .next ((s.modIo fun h => { h with
    reqs := updIf (fun x => x.req == q) (fun x => { x with
      retiredUntil := some (s.clk.frame + 2 * timeoutOf (s.hostPort 0).cto), what := .dropped, cmd := 0 }) h.reqs }).dmaFailed r 1) := by
  simp [exec, execCompletionTimeout, found, live, first, Nat.not_lt.mpr past, runs]

theorem execCompletionTimeout_waits (waits : s.paused r.fn false = true) : exec (.completionTimeout q) s = .next (s.modIo fun h => { h with
    reqs := updIf (fun x => x.req == q) (fun x => { x with
      retiredUntil := some (s.clk.frame + 2 * timeoutOf (s.hostPort 0).cto), expired := true }) h.reqs }) := by
  simp [exec, execCompletionTimeout, found, live, first, Nat.not_lt.mpr past, waits]
end

theorem execReadBack_posts {c : Cmd} (what : r.what = .readBack) (cmd : s.cmd? r.cmd = some c) :
    exec (.readBack q .ok) s = .next ((s.answered q).tryPost c.id) := by
  have cmd' : (s.answered q).cmd? r.cmd = some c := cmd
  unfold State.answered at cmd' ⊢
  simp [exec, execReadBack, State.dmaEnded, found, live, what, cmd']
end

/-- A tag returns to use once its time has passed, unless its access has still to fail at resume. -/
theorem mem_timedOutTagReuse {q frame : Nat} {r : DmaReq} {l : List DmaReq} :
    r ∈ l.filter (fun r => ! (r.req == q && ! r.expired && r.retiredUntil.any fun f => decide (f ≤ frame))) ↔
      r ∈ l ∧ ¬(r.req = q ∧ r.expired = false ∧ ∃ f, r.retiredUntil = some f ∧ f ≤ frame) := by
  rw [List.mem_filter]
  refine and_congr_right fun _ => ?_
  cases r.retiredUntil <;> simp [or_assoc, imp_iff_not_or]

/-! ## Pauses (R406, R407) -/

theorem execBusMasterEnableClear_open {f : Nat} {s : State} (listed : f ≤ 128) (opens : s.configOpen f false = true) :
    exec (.busMasterEnableClear f false) s = .next (s.modCtrl f false fun c => { c with pBme := true }) :=
  (if_pos (ctrlUnit_function listed)).trans (congrArg Host.Outcome.next (if_pos opens))

theorem execBusMasterEnableSet_open {f : Nat} {s : State} (listed : f ≤ 128) (opens : s.configOpen f false = true)
    (cleared : (s.ctrl f false).pBme = true) :
    exec (.busMasterEnableSet f false) s = .next ((s.modCtrl f false fun c => { c with pBme := false }).resumeFn f false) :=
  (if_pos (ctrlUnit_function listed)).trans (congrArg Host.Outcome.next (if_pos (by simp [opens, cleared])))

theorem execPmeTurnOff_pauses {p : Nat} {s : State} (port : p < 2) (on : s.clk.dark = false) (up : (s.hostPort p).perst = false)
    (listed : p ∈ s.hostPorts) : exec (.pmeTurnOff p) s = .next ((each (portFns p) (fun s x => s.modCtrl x.1 x.2 fun c => { c with pPme := true })
      (s.modHostPort p fun x => { x with pmeOff := true })).ackPme p) :=
  (if_pos (decide_eq_true port)).trans (congrArg Host.Outcome.next (if_neg (by simp [State.hcxOn, on, up, listed])))

theorem execPauseDrained_acks {f : Nat} {p1 : Bool} {s : State} (listed : f ≤ 128) (second : p1 = true → f = 0) (drained : s.drained f p1 = true) :
    exec (.pauseDrained f p1) s = .next (s.ackPme (if p1 then 1 else 0)) := by
  refine (if_pos ?_).trans (congrArg Host.Outcome.next (if_pos drained))
  cases p1 with
  | true => simp [ctrlUnit, second rfl]
  | false => exact ctrlUnit_function listed

theorem State.ackPme_sends {p : Nat} {s : State} (off : (s.hostPort p).pmeOff = true) (first : (s.hostPort p).acked = false)
    (drained : ∀ x ∈ portFns p, s.drained x.1 x.2 = true) :
    s.ackPme p = (s.modHostPort p fun x => { x with acked := true }).emit (.pmeToAck p) := by
  have all : (portFns p).all (fun x => s.drained x.1 x.2) = true := List.all_eq_true.mpr drained
  exact if_pos (by rw [off, first]; exact all)

/-! ## Interrupts (R398) -/

theorem execInterruptCoalescing_elapsed {f v frame : Nat} {s : State} (listed : f ≤ 128) (mem : (v, frame) ∈ (s.ctrl f false).coalesce)
    (elapsed : frame ≤ s.clk.frame) : exec (.interruptCoalescing f false v) s =
      .next ((s.modCtrl f false fun c => { c with coalesce := c.coalesce.filter fun x => x.1 != v }).interrupt f false v) := by
  have some_ : (s.ctrl f false).coalesce.any (fun x => x.1 == v && decide (x.2 ≤ s.clk.frame)) = true :=
    List.any_eq_true.mpr ⟨(v, frame), mem, by simp [elapsed]⟩
  exact (if_pos (ctrlUnit_function listed)).trans (congrArg Host.Outcome.next (if_pos some_))

section
variable {f : Nat} {s : State} (listed : f ≤ 128) (opens : s.barOpen f false = true) (v : Nat)
include listed opens

theorem execMsixUnmask_masks : exec (.msixUnmask f false v true) s = .next (s.modCtrl f false fun c => { c with masked := dedupN (c.masked ++ [v]) }) :=
  (if_pos (ctrlUnit_function listed)).trans (congrArg Host.Outcome.next ((if_neg (by simp [opens])).trans (if_pos rfl)))

theorem execMsixUnmask_unmasks (none_ : v ∉ (s.ctrl f false).pba) (real : f < s.fns.length) :
    exec (.msixUnmask f false v false) s = .next (s.modCtrl f false fun c => { c with masked := c.masked.filter fun x => x != v }) := by
  refine (if_pos (ctrlUnit_function listed)).trans (congrArg Host.Outcome.next ((if_neg (by simp [opens])).trans
    ((if_neg Bool.false_ne_true).trans (if_neg ?_))))
  rw [State.modCtrl_ctrl_same real]
  simp [none_]
end

/-- Settles O29: a request by its tag and the pause of its function, a pause and a vector by the row that changes it. -/
theorem requests : Obligations.Requests := by
  unfold Obligations.Requests
  refine ⟨fun q r s found live first past runs => execCompletionTimeout_fails found live first past runs,
    fun q r s found live first past waits => execCompletionTimeout_waits found live first past waits,
    fun q s => ⟨_, rfl, fun r => mem_timedOutTagReuse, rfl, rfl, rfl, rfl, rfl⟩,
    fun q r c s found what live cmd => execReadBack_posts found live what cmd,
    fun f s listed opens => ⟨execBusMasterEnableClear_open listed opens, execBusMasterEnableSet_open listed opens⟩,
    fun p s port on up listed => execPmeTurnOff_pauses port on up listed,
    fun f p1 s listed second drained => execPauseDrained_acks listed second drained,
    fun p s off first drained => State.ackPme_sends off first drained,
    fun f v frame s listed mem elapsed => execInterruptCoalescing_elapsed listed mem elapsed,
    fun f v s listed opens => ⟨execMsixUnmask_masks listed opens v, fun none_ _ real => execMsixUnmask_unmasks listed opens v none_ real⟩⟩

end Sys2Proof.Machine
end

section
/-! SUPPORT. The accesses to the register page of a window (R390, R411, R533, R534, R537, R538, R541, R542). -/

namespace Sys2Proof.Machine

theorem windowUnit_function {f : Nat} (listed : f ≤ 128) : windowUnit f false = true := by simp [windowUnit, listed]

/-- An update of a controller is what it makes of that controller, or reaches nothing where no function has the number. -/
theorem State.modCtrl_ctrl (s : State) (f : Nat) (g : Ctrl → Ctrl) :
    (s.modCtrl f false g).ctrl f false = g (s.ctrl f false) ∨ (s.modCtrl f false g).ctrl f false = s.ctrl f false := by
  by_cases real : f < s.fns.length
  · exact .inl (State.modCtrl_ctrl_same real false g)
  · exact .inr (congrArg (fun l : List Fn => (l.getD f { fn := f }).ctrl) (List.modify_eq_self (Nat.not_lt.mp real)))

/-- An access of another size or alignment sets the access-size bit of its function alone. -/
theorem State.badAccess_ctrl (s : State) (f : Nat) : ((s.badAccess f false).ctrl f false).frameHi = (s.ctrl f false).frameHi ∧
    (f < s.fns.length → ((s.badAccess f false).ctrl f false).gstsSize = true) := by
  refine ⟨?_, fun real => congrArg Ctrl.gstsSize (State.modCtrl_ctrl_same real false fun c => { c with gstsSize := true })⟩
  rcases s.modCtrl_ctrl f fun c => { c with gstsSize := true } with e | e
  · exact (congrArg Ctrl.frameHi e :)
  · exact (congrArg Ctrl.frameHi e :)

/-! ## The reads that latch (R534, R538) -/

section
variable {s : State} {f : Nat} (listed : f ≤ 128)
include listed

theorem execFrameLoRead_next (b : Nat) : exec (.frameLoRead f false b) s = .next (s.latchRead f false 0x100 b (Ctrl.latchFrame s.clk)) :=
  if_pos (windowUnit_function listed)
theorem execMarkFloRead_next (b : Nat) : exec (.markFloRead f false b) s = .next (s.latchRead f false 0x110 b (Ctrl.latchMark s.clk)) :=
  if_pos (windowUnit_function listed)
theorem execUtcLoRead_next (b : Nat) : exec (.utcLoRead f false b) s = .next (s.latchRead f false 0x120 b (Ctrl.latchUtc s.clk)) :=
  if_pos (windowUnit_function listed)

end

section
variable {s : State} {f : Nat} (opens : s.barOpen f false = true)
include opens

/-- An aligned 32-bit read latches and returns the register. -/
theorem State.latchRead_word {o : Nat} (aligned : o % 4 = 0) (latch : Ctrl → Ctrl) : s.latchRead f false o 32 latch =
    (s.modCtrl f false latch).emit (.regRead f o ((s.modCtrl f false latch).reg f false o).toNat) :=
  (if_neg (by simp [opens])).trans (if_pos (by simp [accessOk, aligned]))

/-- A read of another size latches nothing. -/
theorem State.latchRead_size {b : Nat} (noWord : b ≠ 32) (noPair : b ≠ 64) (o : Nat) (latch : Ctrl → Ctrl) : s.latchRead f false o b latch =
    (s.badAccess f false).emit (.regRead f o ((s.reg f false o).toNat % 2 ^ min b 32)) :=
  (if_neg (by simp [opens])).trans (if_neg (by simp [accessOk, noWord, noPair]))

variable (listed : f ≤ 128)
include listed

theorem execGstsClear_open (w : Word) : exec (.gstsClear f false w) s = .next (s.modCtrl f false (Ctrl.clearGsts w)) :=
  (if_pos (windowUnit_function listed)).trans (congrArg Host.Outcome.next (if_pos opens))

/-! ## Register writes (R533 to R535, R541, R542) -/

section
variable {o : Nat} (inside : o < 0x1000) (w : Word)
include inside

theorem execRegisterWrite_unaligned (odd : o % 4 ≠ 0) : exec (.registerWrite f false o 32 w) s = .next (s.badAccess f false) :=
  (if_pos (windowUnit_function listed)).trans ((if_neg (by simp [opens, inside])).trans (if_pos (by simp [accessOk, odd])))

variable (aligned : o % 4 = 0)
include aligned

/-- A write outside the rings and the doorbells and other than to GSTS is ignored, or sets the Expert bit. -/
theorem execRegisterWrite_plain (noGsts : o ≠ 0x10) (noRing : o < 0x200 ∨ 0x400 ≤ o) : exec (.registerWrite f false o 32 w) s =
    if f == 0 && expertReg o && ! (s.fn 0).expert then .next (s.modCtrl 0 false fun c => { c with gstsExpert := true }) else .next s := by
  refine (if_pos (windowUnit_function listed)).trans ((if_neg (by simp [opens, inside])).trans ((if_neg (by simp [accessOk, aligned])).trans
    ((if_neg (by simpa using noGsts)).trans ((if_neg ?_).trans ((if_neg ?_).trans (if_neg ?_))))))
  · simp; omega
  · simp; omega
  · simp; omega
end

theorem execRegisterWrite_doorbell {mb : Nat} (box : mb < 4) (has : s.hasBox f false mb = true) (w : Word) :
    exec (.registerWrite f false (0x300 + 16 * mb) 32 w) s = .next (s.modMbxAt (.bar f mb) (Mbx.writeDoorbell w.toNat)) := by
  refine (if_pos (windowUnit_function listed)).trans ((if_neg (by simp [opens]; omega)).trans ((if_neg (by simp [accessOk]; omega)).trans
    ((if_neg (by simp; omega)).trans ((if_neg (by simp; omega)).trans ((if_neg (by simp; omega)).trans ((if_pos (by simp; omega)).trans ?_))))))
  have number : (0x300 + 16 * mb - 0x300) / 16 = mb := by omega
  dsimp only
  rw [number, if_pos has]
end

theorem Mbx.writeDoorbell_go {w : Nat} {b : Mbx} (go : bit w 0 = true) (busy : b.busy = true) : (b.writeDoorbell w).goWhileBusy = true := by
  simp [Mbx.writeDoorbell, go, busy]

/-- Settles O33: each access by its size and alignment, and a write by the register at its offset. -/
theorem windowAccesses : Obligations.WindowAccesses := by
  unfold Obligations.WindowAccesses
  refine ⟨?latches, ?size, fun f w s listed opens => execGstsClear_open opens listed w,
    fun f mb w s listed box opens has => execRegisterWrite_doorbell opens listed box has w,
    fun w b => ⟨rfl, rfl, rfl, rfl, Mbx.writeDoorbell_go⟩, ?expert,
    fun f o w s listed opens inside odd => execRegisterWrite_unaligned opens listed inside w odd, ?readOnly⟩
  case latches =>
    intro f s listed opens
    rw [execFrameLoRead_next listed, execMarkFloRead_next listed, execUtcLoRead_next listed]
    exact ⟨congrArg _ (State.latchRead_word opens rfl _), congrArg _ (State.latchRead_word opens rfl _),
      congrArg _ (State.latchRead_word opens rfl _)⟩
  case size =>
    intro f b s listed opens noWord noPair
    obtain ⟨latched, size⟩ := s.badAccess_ctrl f
    exact Answers.of ((execFrameLoRead_next listed b).trans (congrArg _ (State.latchRead_size opens noWord noPair _ _)))
      ⟨latched, rfl, rfl, fun real _ => size real⟩
  case expert =>
    intro o w s opens inside aligned high level noExpert
    rw [execRegisterWrite_plain opens (Nat.zero_le _) inside w aligned (by omega) (.inr high), if_pos (by simp [level, noExpert])]
  case readOnly =>
    intro f o w s listed opens register free
    rw [execRegisterWrite_plain opens listed (by omega) w (by omega) (by omega) (by omega), if_neg]
    rcases free with inst | level
    · simp [inst]
    · simp [level]

end Sys2Proof.Machine
end

section
/-! SUPPORT. The registers of the event rings (R425, R426, R428, R539, R540). -/

namespace Sys2Proof.Machine

theorem ringUnit_of {f r : Nat} (listed : f ≤ 128) (ring : r < 2) : ringUnit f r = true := by simp [ringUnit, listed, ring]

/-! ## RCTL (R425, R540) -/

/-- A write of RCTL is ignored: its size is above 8, its vector beyond the allocation, or it changes the size of an enabled ring. -/
def State.rctlBad (s : State) (f r sz v : Nat) : Prop :=
  8 < sz ∨ s.vectors f (s.ringPort1 f r) ≤ v ∨ (s.ring f r).enabled = true ∧ sz ≠ (s.ring f r).sizeCode

section
variable {s : State} {f r sz v : Nat} (sv : Nat)

theorem State.writeRctl_ignored (bad : s.rctlBad f r sz v) (enable : Bool) : s.writeRctl f r sz sv v enable = s.ringIgnored f r :=
  if_pos (by simpa [State.rctlBad, or_assoc] using bad)

theorem State.writeRctl_taken (good : ¬s.rctlBad f r sz v) (enable : Bool) : s.writeRctl f r sz sv v enable =
    if enable && ! (s.ring f r).enabled then (s.modRing f r fun _ => { s.ring f r with
      sizeCode := sz, severity := sv % 4, vector := v, enabled := enable, head := 0, tail := 0, phase := true, records := [] }).flushRing f r
    else s.modRing f r fun _ => { s.ring f r with sizeCode := sz, severity := sv % 4, vector := v, enabled := enable } :=
  if_neg (by simpa [State.rctlBad, or_assoc] using good)

theorem State.rctlBad_not (size : sz ≤ 8) (vector : v < s.vectors f (s.ringPort1 f r))
    (same : (s.ring f r).enabled = true → sz = (s.ring f r).sizeCode) : ¬s.rctlBad f r sz v := by
  rintro (large | beyond | ⟨enabled, other⟩)
  · omega
  · omega
  · exact other (same enabled)
end

/-! ## The rows -/

section
variable {s : State} {f r : Nat} (listed : f ≤ 128) (ring : r < 2)
include listed ring

section
variable (has : s.hasRing f r = true)
include has

theorem execRingEnable_has (sz sv v : Nat) : exec (.ringEnable f r sz sv v) s = .next (s.writeRctl f r sz sv v true) :=
  (if_pos (ringUnit_of listed ring)).trans (congrArg Host.Outcome.next (if_pos has))
theorem execRingDisable_has (sz sv v : Nat) : exec (.ringDisable f r sz sv v) s = .next (s.writeRctl f r sz sv v false) :=
  (if_pos (ringUnit_of listed ring)).trans (congrArg Host.Outcome.next (if_pos has))

theorem execRbaseWrite_disabled (disabled : (s.ring f r).enabled = false) (high : Bool) (w : Word) : exec (.rbaseWrite f r high w) s =
    .next (s.modRing f r fun x => if high then { x with baseHi := w } else { x with baseLo := w &&& 0xFFFFF000 }) :=
  (if_pos (ringUnit_of listed ring)).trans (congrArg Host.Outcome.next ((if_neg (by simp [has])).trans (if_neg (by simp [disabled]))))

theorem execRheadWrite_inside {h : Nat} (inside : h < (s.ring f r).size) : exec (.rheadWrite f r h) s = .next (s.modRing f r fun x => { x with
    head := h, records := x.records.drop ((h + x.size - x.head) % x.size) }) :=
  (if_pos (ringUnit_of listed ring)).trans (congrArg Host.Outcome.next ((if_neg (by simp [has])).trans (if_neg (Nat.not_le.mpr inside))))

theorem execRstsClear_has (w : Word) : exec (.rstsClear f r w) s = .next (s.modRing f r fun x => { x with
    overflow := x.overflow && !bit w.toNat 0, failedWrite := x.failedWrite && !bit w.toNat 1 }) :=
  (if_pos (ringUnit_of listed ring)).trans (congrArg Host.Outcome.next (if_neg (by simp [has])))
end

theorem execSummaryRecord_on (on : s.clk.dark = false) : exec (.summaryRecord f r) s = .next (s.flushRing f r) :=
  (if_pos (ringUnit_of listed ring)).trans (congrArg Host.Outcome.next (if_pos (State.hcxOn_eq_true.mpr on)))
end

/-- Settles O32: each row of a ring that its window has, RCTL by whether the write is taken. -/
theorem ringRegisters : Obligations.RingRegisters := by
  unfold Obligations.RingRegisters
  refine ⟨?enable, ?ignored, ?disable, ?base, fun f r h s listed ring has inside => execRheadWrite_inside listed ring has inside,
    fun f r w s listed ring has => execRstsClear_has listed ring has w, fun f r s listed ring on => execSummaryRecord_on listed ring on⟩
  case enable =>
    intro f r sz sv v s listed ring has size vector disabled
    have good : ¬s.rctlBad f r sz v := State.rctlBad_not size vector (by simp [disabled])
    rw [execRingEnable_has listed ring has, State.writeRctl_taken sv good, if_pos (by simp [disabled])]
  case ignored =>
    intro f r sz sv v s listed ring has bad
    rw [execRingEnable_has listed ring has, execRingDisable_has listed ring has, State.writeRctl_ignored sv bad, State.writeRctl_ignored sv bad]
    exact ⟨rfl, rfl⟩
  case disable =>
    intro f r sz sv v s listed ring has size vector same
    rw [execRingDisable_has listed ring has, State.writeRctl_taken sv (State.rctlBad_not size vector same), if_neg (by simp)]
  case base =>
    exact fun f r w s listed ring has disabled => ⟨execRbaseWrite_disabled listed ring has disabled false w,
      execRbaseWrite_disabled listed ring has disabled true w⟩

end Sys2Proof.Machine
end

section
/-! SUPPORT. Entries into a furl: what lets one begin, and the rows that begin, time out and resume them (R463 to R471, R474). -/

namespace Sys2Proof.Machine

/-! ## The beginning of an entry (R463) -/

section
variable {s : State} {k : EntryKind}

/-- An entry begins on a ready device when its cause stands, some domain of it is on, and none of its kind is under way. -/
theorem State.startEntry_begins {d : Nat} (ready : s.pwr.dev = .working) (cause : s.causeStands k = true) (domain : d ∈ s.entryDomains k)
    (on : s.domainOff d = false) (free : ∀ e ∈ s.pwr.entries, e.kind ≠ k) : s.startEntry k =
      let t := s.modPwr fun p => { p with entries := p.entries ++ [{ kind := k, prepared := k != .crowsNest }]
                                          holdOff := p.holdOff.filter fun x => x.1 != k }
      if k == .crowsNest then t.beginPrep else t := by
  have some_ : (s.entryDomains k).all s.domainOff = false := List.all_eq_false.mpr ⟨d, domain, by simp [on]⟩
  have none_ : (s.pwr.entries.any fun e => e.kind == k) = false := by simpa using free
  exact if_neg (by simp [State.ready, ready, cause, some_, none_])

theorem State.startEntry_idle (idle : s.pwr.dev ≠ .working ∨ s.causeStands k = false) : s.startEntry k = s := by
  refine if_pos ?_
  rcases idle with off | ended
  · simp [State.ready, off]
  · simp [ended]
end

/-! ## The rows (R465, R467, R474) -/

theorem execAbortHoldOff_begins {s : State} {n f : Nat} {k : EntryKind} (held : s.pwr.holdOff[n]? = some (k, f))
    (past : f + s.ctlValue ctlHoldOff ≤ s.clk.frame) (free : ∀ e ∈ s.pwr.entries, e.kind ≠ k) : exec (.abortHoldOff n) s =
      .next ((s.modPwr fun p => { p with holdOff := p.holdOff.filter fun x => x.1 != k }).startEntry k) := by
  have none_ : (s.pwr.entries.any fun e => e.kind == k) = false := by simpa using free
  simp [exec, execAbortHoldOff, held, past, none_]

theorem execReentryDelay_begins {s : State} {source : Nat} (woken : s.pwr.wokenBy = some source) :
    exec .reentryDelay s = .next (s.startEntry .crowsNest) := congrArg Host.Outcome.next (if_pos (by simp [woken]))

theorem execHandshakeTimeout_answers {s : State} {n g : Nat} {e : Entry} (under : s.pwr.entries[n]? = some e) (asked : e.asked = some g)
    (furling : e.waking = false) (past : g + s.ctlValue ctlHandshake ≤ s.clk.frame) : exec (.handshakeTimeout n) s =
      .next ((s.modPwr fun p => { p with
        entries := updIf (fun x => x.kind == e.kind) (fun x => { x with timedOut := true }) p.entries }).answerEntry { e with timedOut := true }) := by
  simp [exec, execHandshakeTimeout, under, asked, furling, past]

/-- Settles O40: each row begins its entry, and an entry by whether its cause stands. -/
theorem furlEntries : Obligations.FurlEntries := by
  unfold Obligations.FurlEntries
  refine ⟨fun s => ⟨fun m mast => if_pos (decide_eq_true mast), fun p port => if_pos (decide_eq_true port), fun p port => if_pos (decide_eq_true port),
    fun p port => if_pos (decide_eq_true port), rfl, rfl⟩, ?begins, ?crowsNest, fun k s idle => State.startEntry_idle idle,
    fun n f k s held past free => execAbortHoldOff_begins held past free, fun source s woken => execReentryDelay_begins woken,
    fun n g e s under asked furling past => execHandshakeTimeout_answers under asked furling past⟩
  case begins =>
    intro k d s ready cause domain on free other
    rw [State.startEntry_begins ready cause domain on free, bne_iff_ne.mpr other]
    exact if_neg (by simpa using other)
  case crowsNest => exact fun d s ready cause domain on free => State.startEntry_begins ready cause domain on free

end Sys2Proof.Machine
end

section
/-! PROOF. The NVMe-MI commands (R394, R489, R527; O47). -/

namespace Sys2Proof.Machine

section
variable {s : State} {inBand : Bool} {fn : Nat}

section
variable (on : s.hcxOn = true) (sound : s.halted = false) (whole : s.dumping = false)
include on sound whole

/-- Out of band, and in band on function 0 and the port 1 function, a command is served. -/
theorem State.mi_serves (may : inBand = false ∨ fn = 0) (k : State → State × Nat × List Nat) :
    s.mi inBand fn k = (k s).1.emit (.mi (k s).2.1 (k s).2.2) := by
  refine (if_neg (by simp [on, sound, whole])).trans (if_neg ?_)
  rcases may with out | zero
  · simp [out]
  · simp [zero]

/-- In band on an instance it is refused. -/
theorem State.mi_refuses (inst : fn ≠ 0) (k : State → State × Nat × List Nat) : s.mi true fn k = s.emit (.mi miInvalidOpcode []) :=
  (if_neg (by simp [on, sound, whole])).trans (if_pos (by simp [inst]))
end

/-- Nothing answers while the host complex is off or stopped. -/
theorem State.mi_silent (silent : s.hcxOn = false ∨ s.halted = true ∨ s.dumping = true) (k : State → State × Nat × List Nat) :
    s.mi inBand fn k = s := by
  refine if_pos ?_
  rcases silent with off | stopped | dumping
  · simp [off]
  · simp [stopped]
  · simp [dumping]
end

/-- Each row is the service of its command. -/
theorem exec_mi {i : Instr} {inBand b : Bool} {fn x y : Nat} (row : i = .readNvmeMiDataStructure inBand fn x ∨
    i = .nvmSubsystemHealthStatusPoll inBand fn b ∨ i = .controllerHealthStatusPoll inBand fn x y ∨ i = .configurationGet inBand fn x ∨
    i = .configurationSet inBand fn x y) (s : State) : ∃ k, exec i s = .next (s.mi inBand fn k) := by
  rcases row with rfl | rfl | rfl | rfl | rfl <;> exact ⟨_, rfl⟩

/-- Settles O47: a command is served, refused or not answered, and each that is served by its type or identifier. -/
theorem managementInterface : Obligations.ManagementInterface := by
  unfold Obligations.ManagementInterface
  refine ⟨?served, ?refused, ?silent⟩
  case refused =>
    intro fn x y b s on sound whole inst i row
    obtain ⟨k, service⟩ := exec_mi row s
    exact service.trans (congrArg _ (State.mi_refuses on sound whole inst k))
  case silent =>
    intro inBand b fn x y s silent i row
    obtain ⟨k, service⟩ := exec_mi row s
    exact service.trans (congrArg _ (State.mi_silent silent k))
  case served =>
    intro inBand fn x y b s on sound whole may
    have serves (k : State → State × Nat × List Nat) : (.next (s.mi inBand fn k) : Res) = .next ((k s).1.emit (.mi (k s).2.1 (k s).2.2)) :=
      congrArg _ (State.mi_serves on sound whole may k)
    refine ⟨serves _, serves _, fun beyond => (serves _).trans ?type, ⟨_, _, serves _⟩, ⟨_, serves _, ?length⟩, serves _, serves _,
      fun beyond => (serves _).trans ?ident, fun low high => (serves _).trans ?freq, fun low high => (serves _).trans ?unit,
      fun outside => (serves _).trans ?noFreq, fun small => (serves _).trans ?noUnit⟩
    case type =>
      obtain ⟨n, rfl⟩ := Nat.exists_eq_add_of_le' beyond
      rfl
    case ident =>
      obtain ⟨n, rfl⟩ := Nat.exists_eq_add_of_le' beyond
      rfl
    case length =>
      simp [List.length_flatMap, Nat.mul_comm]
    case freq => simp [low, high]
    case unit => simp [low, high]
    case noFreq =>
      have : ¬(1 ≤ x ∧ x ≤ 3) := by omega
      simp [this]
    case noUnit =>
      have : ¬64 ≤ x := by omega
      simp [this]

end Sys2Proof.Machine
end

section
/-! SUPPORT. The ball map of the package (R72, R504 to R507, R510, R512, R514). -/

namespace Sys2Proof.Machine

/-! ## Regions (R504) -/

theorem mem_regions (R : Region) : R ∈ regions := by cases R <;> decide

theorem inRegion_iff {r c : Nat} {R : Region} : inRegion r c R = true ↔
    ((regionBox R).1.1 ≤ r ∧ r ≤ (regionBox R).1.2) ∧ (regionBox R).2.1 ≤ c ∧ c ≤ (regionBox R).2.2 := by
  simp [inRegion, and_assoc]

/-- Two regions lie apart: one ends before the other begins, in rows or in columns. -/
theorem regionBox_apart {R R' : Region} (other : R ≠ R') :
    (regionBox R).1.2 < (regionBox R').1.1 ∨ (regionBox R').1.2 < (regionBox R).1.1 ∨
      (regionBox R).2.2 < (regionBox R').2.1 ∨ (regionBox R').2.2 < (regionBox R).2.1 := by
  revert other
  cases R <;> cases R' <;> decide

theorem inRegion_unique {r c : Nat} {R R' : Region} (first : inRegion r c R = true) (second : inRegion r c R' = true) : R = R' := by
  by_contra other
  have apart := regionBox_apart other
  rw [inRegion_iff] at first second
  omega

/-- Every ball of the grid lies in a region: in a strip of the edge, in a gap between two strips, or in the centre. -/
theorem exists_inRegion {r c : Nat} (row : 1 ≤ r) (lastRow : r ≤ 51) (col : 1 ≤ c) (lastCol : c ≤ 51) : ∃ R, inRegion r c R = true := by
  by_contra none_
  have free (R : Region) : ¬(((regionBox R).1.1 ≤ r ∧ r ≤ (regionBox R).1.2) ∧ (regionBox R).2.1 ≤ c ∧ c ≤ (regionBox R).2.2) :=
    fun h => none_ ⟨R, inRegion_iff.mpr h⟩
  have strips := And.intro (And.intro (free .topStrip) (free .rightStrip)) (And.intro (free .bottomStrip) (free .leftStrip))
  have gaps := And.intro (And.intro (free .gapA) (free .gapB)) (And.intro (free .gapC) (free .gapD))
  have centre := free .centre
  dsimp only [regionBox] at strips gaps centre
  omega

theorem filter_inRegion {r c : Nat} {R : Region} (within : inRegion r c R = true) : regions.filter (inRegion r c) = [R] := by
  have same : regions.filter (inRegion r c) = regions.filter (fun R' => decide (R' = R)) :=
    List.filter_congr fun R' _ => Bool.eq_iff_iff.mpr ⟨fun h => decide_eq_true (inRegion_unique h within),
      fun h => (of_decide_eq_true h) ▸ within⟩
  rw [same]
  cases R <;> rfl

/-- A ball carries what its region gives it. -/
theorem ballAt_inRegion {r c : Nat} {R : Region} (within : inRegion r c R = true) : ballAt r c = some (regionBall R r c) := by
  have found : regions.find? (inRegion r c) = some R := by
    rw [← List.head?_filter, filter_inRegion within]
    rfl
  exact congrArg (Option.map _) found

/-! ## Gaps B and D (R510, R512) -/

theorem ballAt_gapB_vss {r c : Nat} (within : inRegion r c .gapB = true)
    (free : ∀ p l, p ≤ 2 → l ≤ 1 → c = 41 + 3 * p + l → r ≠ 34 ∧ r ≠ 35 ∧ r ≠ 37 ∧ r ≠ 38) : ballAt r c = some .vss := by
  refine (ballAt_inRegion within).trans (congrArg some ?_)
  show gapBBall r c = .vss
  unfold gapBBall
  dsimp only
  split
  · rfl
  next lane =>
    obtain ⟨tx, txN, rx, rxN⟩ := free ((c - 41) / 3) ((c - 41) % 3) (by simp at lane; omega) (by simp at lane; omega) (by simp at lane; omega)
    split <;> first | rfl | contradiction

theorem ballAt_gapD_vss {r c : Nat} (within : inRegion r c .gapD = true) (free : (r, c) ∉ [(14, 2), (14, 4), (14, 6), (14, 8), (14, 10), (18, 6),
    (16, 2), (16, 4), (16, 8), (16, 10), (18, 2), (18, 4)]) : ballAt r c = some .vss := by
  refine (ballAt_inRegion within).trans (congrArg some ?_)
  show gapDBall r c = .vss
  unfold gapDBall
  split <;> first | rfl | simp at free

/-! ## The templates of the flash ports (R505, R506) -/

/-! The strips, by depth and distance along their edge. -/

section
variable {d a : Nat} (depth : d < 12) (distance : a < 32)
include depth distance

theorem ballAt_topStrip : ballAt (1 + d) (1 + a) = some (stripBall 0 d a) := by
  rw [ballAt_inRegion (R := .topStrip) (inRegion_iff.mpr (by dsimp only [regionBox]; omega))]
  exact congrArg some (congrArg₂ (stripBall 0) (by omega) (by omega))

theorem ballAt_rightStrip : ballAt (1 + a) (51 - d) = some (stripBall 1 d a) := by
  rw [ballAt_inRegion (R := .rightStrip) (inRegion_iff.mpr (by dsimp only [regionBox]; omega))]
  exact congrArg some (congrArg₂ (stripBall 1) (by omega) (by omega))

theorem ballAt_bottomStrip : ballAt (51 - d) (51 - a) = some (stripBall 2 d a) := by
  rw [ballAt_inRegion (R := .bottomStrip) (inRegion_iff.mpr (by dsimp only [regionBox]; omega))]
  exact congrArg some (congrArg₂ (stripBall 2) (by omega) (by omega))

theorem ballAt_leftStrip : ballAt (51 - a) (1 + d) = some (stripBall 3 d a) := by
  rw [ballAt_inRegion (R := .leftStrip) (inRegion_iff.mpr (by dsimp only [regionBox]; omega))]
  exact congrArg some (congrArg₂ (stripBall 3) (by omega) (by omega))
end

/-- Depth and distance of a template position of a port along its edge. -/
def flashDepth (p v : Nat) : Nat := 6 * (p % 8 % 4 / 2) + v
def flashDistance (p u : Nat) : Nat := 8 * (2 * (p % 8 / 4) + p % 8 % 2) + u

theorem stripBall_flash {p u v : Nat} (across : u < 8) (deep : v < 6) :
    stripBall (p / 8) (flashDepth p v) (flashDistance p u) = template p u v := by
  unfold stripBall flashDepth flashDistance
  dsimp only
  congr 1 <;> omega

theorem ballAt_flashBall {p u v : Nat} (port : p < 32) (across : u < 8) (deep : v < 6) :
    ballAt (flashBall p u v).1 (flashBall p u v).2 = some (template p u v) := by
  have depth : flashDepth p v < 12 := by unfold flashDepth; omega
  have distance : flashDistance p u < 32 := by unfold flashDistance; omega
  have strip := stripBall_flash (p := p) across deep
  have place : flashBall p u v = (match p / 8 with
    | 0 => (1 + flashDepth p v, 1 + flashDistance p u)
    | 1 => (1 + flashDistance p u, 51 - flashDepth p v)
    | 2 => (51 - flashDepth p v, 51 - flashDistance p u)
    | _ => (51 - flashDistance p u, 1 + flashDepth p v)) := rfl
  rw [place]
  generalize flashDepth p v = d at *
  generalize flashDistance p u = a at *
  obtain edge | edge | edge | edge : p / 8 = 0 ∨ p / 8 = 1 ∨ p / 8 = 2 ∨ p / 8 = 3 := by omega
  all_goals
    rw [edge] at strip ⊢
    rw [← strip]
  · exact ballAt_topStrip depth distance
  · exact ballAt_rightStrip depth distance
  · exact ballAt_bottomStrip depth distance
  · exact ballAt_leftStrip depth distance

/-! ## Parts with fewer masts (R507) -/

/-- A template names no other port than its own. -/
theorem template_port {p u v q : Nat} {pin : FlashPin} (signal : template p u v = .flash q pin) : q = p := by
  unfold template at signal
  split at signal <;> cases signal <;> rfl

/-- What a ball carries in a part of so many masts. -/
def Ball.inPart (masts : Nat) : Ball → Ball
  | .flash p pin => if p < 4 * masts then .flash p pin else .open_
  | b => b

theorem ballOf_eq (masts r c : Nat) : ballOf masts r c = (ballAt r c).map (Ball.inPart masts) := by
  refine congrArg (fun f => (ballAt r c).map f) (funext fun b => ?_)
  cases b <;> rfl

theorem template_inPart (masts p u v : Nat) : (template p u v).inPart masts = match template p u v with
    | .flash q pin => if p < 4 * masts then .flash q pin else .open_
    | b => b := by
  cases signal : template p u v with
  | flash q pin =>
    obtain rfl := template_port signal
    rfl
  | _ => rfl

theorem ballOf_same {r c : Nat} (noSignal : ∀ p pin, ballAt r c ≠ some (.flash p pin)) (masts : Nat) : ballOf masts r c = ballAt r c := by
  rw [ballOf_eq]
  cases ball : ballAt r c with
  | none => rfl
  | some b =>
    cases b with
    | flash p pin => exact absurd ball (noSignal p pin)
    | _ => rfl

/-! ## Chip enables (R72, R507) -/

theorem State.ceIdle_iff {s : State} {p c : Nat} (port : p < s.portN) (enable : c < 8) :
    s.ceIdle p c = true ↔ bit s.record.ceBitmap c = false := by
  simp [State.ceIdle, port, enable]

theorem State.mem_ceLow {s : State} {p x c : Nat} (low : c ∈ s.ceLow p x) :
    portOfLun x = p ∧ c = localOfLun x / 4 ∧ c < 8 ∧ s.ceIdle p c = false := by
  simp only [State.ceLow, List.mem_filter, List.mem_range, Bool.and_eq_true, decide_eq_true_eq, Bool.not_eq_true'] at low
  obtain ⟨enable, ⟨port, lun⟩, driven⟩ := low
  exact ⟨port, lun.symm, enable, driven⟩

/-! ## The allocation (R514) -/

theorem ballCount_vin : ballCount (fun b => b == .vin) = 364 := by decide +kernel
theorem ballCount_vddqf : ballCount (fun b => b == .vddqf) = 288 := by decide +kernel
theorem ballCount_vss : ballCount (fun b => b == .vss) = 1024 := by decide +kernel
theorem ballCount_tdRtn : ballCount (fun b => b == .tdRtn) = 16 := by decide +kernel
theorem grid_length : grid.length = 2601 := by simp [grid]

/-- Settles O60: a ball carries what its one region gives it. -/
theorem packageBalls : Obligations.PackageBalls := by
  unfold Obligations.PackageBalls
  refine ⟨?lanes, fun r c within free => ballAt_gapB_vss within free, ?gapD, fun r c within free => ballAt_gapD_vss within free, ?region,
    fun p u v port across deep => ballAt_flashBall port across deep,
    ⟨ballCount_vin, ballCount_vddqf, ballCount_vss, ballCount_tdRtn, grid_length⟩, ?template,
    fun masts r c noSignal => ballOf_same noSignal masts, fun p c s port enable => State.ceIdle_iff port enable, fun p x c s => State.mem_ceLow⟩
  case lanes =>
    intro p l port lane
    interval_cases p <;> interval_cases l <;> exact ⟨rfl, rfl, rfl, rfl⟩
  case gapD => exact ⟨rfl, rfl, rfl, rfl, rfl, rfl, rfl, rfl, rfl, rfl, rfl, rfl⟩
  case region =>
    intro r c row lastRow col lastCol
    obtain ⟨R, within⟩ := exists_inRegion row lastRow col lastCol
    rw [filter_inRegion within]
    rfl
  case template =>
    intro masts p u v port across deep
    rw [ballOf_eq, ballAt_flashBall port across deep]
    exact congrArg some (template_inPart masts p u v)

end Sys2Proof.Machine
end

section
/-! PROOF. O48: GO with a command in a mailbox or at the endpoint (R408, R411, R412, R416, R421). -/

namespace Sys2Proof.Machine

/-- Updates of the entries that `p` picks do not change what a disjoint search finds. -/
theorem find?_updIf_disjoint {α : Type} {p q : α → Bool} {f : α → α} (apart : ∀ x, p x = true → q x = false ∧ q (f x) = false) (l : List α) :
    (updIf p f l).find? q = l.find? q := by
  induction l with
  | nil => rfl
  | cons x l ih =>
    have ih : List.find? q (l.map fun x => if p x then f x else x) = l.find? q := ih
    cases h : p x with
    | true => simp [updIf, h, apart x h, ih]
    | false => simp [updIf, h, List.find?_cons, ih]

theorem State.modMbxAt_mbxAt {f : Mbx → Mbx} (keeps : ∀ b, (f b).via = b.via) (s : State) (v : Via) :
    (s.modMbxAt v f).mbxAt v = (s.mbxAt v).map f :=
  find?_updIf _ f (fun b h => by rwa [keeps b]) s.mbx.boxes

theorem State.modMbxAt_mbxAt_other {f : Mbx → Mbx} (keeps : ∀ b, (f b).via = b.via) (s : State) {v w : Via} (other : w ≠ v) :
    (s.modMbxAt v f).mbxAt w = s.mbxAt w := by
  refine find?_updIf_disjoint (fun b (h : (b.via == v) = true) => ?_) s.mbx.boxes
  have apart : (b.via == w) = false := by
    rw [eq_of_beq h]
    exact beq_false_of_ne other.symm
  exact ⟨apart, by rwa [keeps b]⟩

/-- A command that is validated spends at most a challenge: it changes the keys alone (R415). -/
theorem State.spendChallenge_keys (s : State) (m : MbxHdr) : ∃ f, s.spendChallenge m = s.modKeys f := by
  unfold State.spendChallenge
  split
  · exact ⟨_, rfl⟩
  · exact ⟨fun k => k, rfl⟩

/-- A mailbox with the command of a GO, which waits for step 4 of the next frame (R411, R412). -/
def Mbx.received (b : Mbx) (i : Instr) (v : Option Resp) (frame op : Nat) (m : MbxHdr) : Mbx := { b with
  busy := true, cmd := some i, verdict := v, validated := frame, waiting := false, opcode := op, tag := m.tag
  bufs := if v = some (errR 0x0301 8) then 0 else bufsOf m }
/-- The command of a GO takes its mailbox and the last place in the order of receipt. -/
def State.received (s : State) (i : Instr) (v : Option Resp) (op : Nat) (m : MbxHdr) : State :=
  (s.modMbxAt m.via fun b => b.received i v s.clk.frame op m).modMbx fun x => { x with order := x.order ++ [m.via] }

theorem State.received_mbxAt (s : State) (i : Instr) (v : Option Resp) (op : Nat) (m : MbxHdr) :
    (s.received i v op m).mbxAt m.via = (s.mbxAt m.via).map fun b => b.received i v s.clk.frame op m :=
  s.modMbxAt_mbxAt (f := fun b => b.received i v s.clk.frame op m) (fun _ => rfl) m.via

theorem State.received_mbxAt_other (s : State) (i : Instr) (v : Option Resp) (op : Nat) (m : MbxHdr) {w : Via} (other : w ≠ m.via) :
    (s.received i v op m).mbxAt w = s.mbxAt w :=
  s.modMbxAt_mbxAt_other (f := fun b => b.received i v s.clk.frame op m) (fun _ => rfl) other

section
variable {s : State} {m : MbxHdr} {i : Instr} {c : MForm} {known : Bool} {b : Mbx} (stands : s.mbxAt m.via = some b)
include stands

theorem State.goWith_closed (closed : s.takesCommands m.via = false) : s.goWith m i c known = s := by
  simp [State.goWith, stands, closed]

variable (opens : s.takesCommands m.via = true)
include opens

theorem State.goWith_free (idle : b.busy = false) (read : b.done = false) :
    ∃ f, s.goWith m i c known = (s.modKeys f).received i (s.validate m c known) c.op m := by
  have spent : ∃ f, (if sparesChallenge (s.validate m c known) then s else s.spendChallenge m) = s.modKeys f := by
    split
    · exact ⟨fun k => k, rfl⟩
    · exact s.spendChallenge_keys m
  obtain ⟨f, spent⟩ := spent
  refine ⟨f, ?_⟩
  simp only [State.goWith, stands, opens, idle, read, Bool.not_true, Bool.or_false, Bool.false_eq_true, if_false, spent, beq_iff_eq]
  rfl

variable (taken : b.busy = true ∨ b.done = true)
include taken

theorem State.goWith_taken_window (window : m.via ≠ .mctp) :
    s.goWith m i c known = s.modMbxAt m.via fun b => { b with goWhileBusy := true } := by
  have taken : (b.busy || b.done) = true := by simpa using taken
  simp only [State.goWith, stands, opens, taken, Bool.not_true, Bool.false_eq_true, if_false, if_true]
  split
  · contradiction
  · rfl

theorem State.goWith_taken_mctp (endpoint : m.via = .mctp) : s.goWith m i c known = s.emit (.mctp c.op m.tag (errR 0x0205)) := by
  have taken : (b.busy || b.done) = true := by simpa using taken
  simp only [State.goWith, stands, opens, taken, Bool.not_true, Bool.false_eq_true, if_false, if_true]
  rw [endpoint]
end

/-- Whether the device knows the opcode of a row: it knows all but those of `unknownOpcode`. -/
def knownRow : Instr → Bool
  | .unknownOpcode _ _ => false
  | _ => true

theorem State.go_form {s : State} {i : Instr} {m : MbxHdr} {c : MForm} (form : mbxForm s i = some (m, c)) (stands : hasMailbox m.via = true) :
    s.go i = .next (s.goWith m i c (knownRow i)) := by
  simp only [State.go, form]
  refine if_pos ?_
  cases via : m.via with
  | mctp => rfl
  | bar f mb => simpa [via, hasMailbox] using stands

/-- A row that goes to its mailbox takes its command. -/
theorem takesCommand_of_go {s : State} {i : Instr} {m : MbxHdr} {c : MForm} {op : Nat} {known : Bool} (row : exec i s = s.go i)
    (form : mbxForm s i = some (m, c)) (opcode : c.op = op) (knows : knownRow i = known) : TakesCommand i m op known s := by
  subst opcode knows
  refine ⟨c, form, rfl, fun has b stands => ?_⟩
  have row : exec i s = .next (s.goWith m i c (knownRow i)) := row.trans (State.go_form form has)
  refine ⟨fun closed => ?closed, fun opens idle read => ?free, fun opens taken => ⟨fun window => ?window, fun endpoint => ?endpoint⟩⟩
  case closed => exact row.trans (congrArg Host.Outcome.next (State.goWith_closed stands closed))
  case free =>
    obtain ⟨f, free⟩ := State.goWith_free (i := i) (c := c) (known := knownRow i) stands opens idle read
    refine Answers.of (row.trans (congrArg Host.Outcome.next free)) ⟨?own, rfl, fun v other => ?others, rfl, rfl, rfl, rfl, rfl, rfl, rfl, rfl⟩
    case own => exact ((s.modKeys f).received_mbxAt i _ c.op m).trans (congrArg (Option.map _) stands)
    case others => exact (s.modKeys f).received_mbxAt_other i _ c.op m other
  case window => exact row.trans (congrArg Host.Outcome.next (State.goWith_taken_window stands opens taken window))
  case endpoint => exact row.trans (congrArg Host.Outcome.next (State.goWith_taken_mctp stands opens taken endpoint))

/-- Settles O48: each row goes to its mailbox with the form that its opcode has. -/
theorem mailboxCommandsIssued : Obligations.MailboxCommandsIssued := by
  unfold Obligations.MailboxCommandsIssued
  have row {i : Instr} {m : MbxHdr} {op : Nat} {s : State} {c : MForm} (goes : exec i s = s.go i) (form : mbxForm s i = some (m, c))
      (opcode : c.op = op) (knows : knownRow i = true := by rfl) : TakesCommand i m op true s := takesCommand_of_go goes form opcode knows
  exact ⟨fun _ _ => row rfl rfl rfl, fun _ _ => row rfl rfl rfl, fun _ _ _ _ => row rfl rfl rfl, fun _ _ _ _ => row rfl rfl rfl,
    fun _ _ _ _ _ => row rfl rfl rfl, fun _ _ => row rfl rfl rfl, fun _ _ _ _ _ => row rfl rfl rfl, fun _ _ _ => row rfl rfl rfl,
    fun _ _ _ => row rfl rfl rfl, fun _ _ _ => row rfl rfl rfl, fun _ _ _ => row rfl rfl rfl, fun _ _ _ _ => row rfl rfl rfl,
    fun _ _ _ _ _ _ _ _ _ => row rfl rfl rfl, fun _ _ _ => row rfl rfl rfl, fun _ _ _ _ => row rfl rfl rfl, fun _ _ _ _ => row rfl rfl rfl,
    fun _ _ _ _ _ _ _ _ _ _ _ _ _ _ => row rfl rfl rfl, fun _ _ _ => row rfl rfl rfl, fun _ _ _ _ => row rfl rfl rfl,
    fun _ _ _ _ => row rfl rfl rfl, fun _ _ _ => row rfl rfl rfl, fun _ _ _ _ _ _ _ _ _ _ => row rfl rfl rfl,
    fun _ _ _ _ _ _ => row rfl rfl rfl, fun _ _ _ => row rfl rfl rfl, fun _ _ _ _ => row rfl rfl rfl, fun _ _ => row rfl rfl rfl,
    fun _ _ _ _ _ => row rfl rfl rfl, fun _ _ _ _ _ _ _ _ _ _ => row rfl rfl rfl, fun _ _ _ => row rfl rfl rfl,
    fun _ _ _ _ => row rfl rfl rfl, fun _ _ _ => row rfl rfl rfl, fun _ _ _ _ => row rfl rfl rfl, fun _ _ _ _ => row rfl rfl rfl,
    fun _ _ => row rfl rfl rfl, fun _ _ _ _ _ => row rfl rfl rfl, fun _ _ _ => row rfl rfl rfl, fun _ _ => row rfl rfl rfl,
    fun _ _ => row rfl rfl rfl, fun _ _ _ _ _ => row rfl rfl rfl, fun _ _ _ _ _ _ => row rfl rfl rfl,
    fun _ _ _ _ _ _ _ _ _ => row rfl rfl rfl, fun _ _ _ _ _ _ _ _ _ => row rfl rfl rfl, fun _ _ _ _ => row rfl rfl rfl,
    fun _ _ _ => row rfl rfl rfl, fun _ _ _ => row rfl rfl rfl, fun _ _ _ => row rfl rfl rfl, fun _ _ _ => row rfl rfl rfl,
    fun _ _ _ _ => row rfl rfl rfl, fun _ _ _ => row rfl rfl rfl, fun _ _ _ => row rfl rfl rfl, fun _ _ _ => row rfl rfl rfl,
    fun _ _ _ => row rfl rfl rfl, fun _ _ => row rfl rfl rfl, fun _ _ _ _ _ _ _ => row rfl rfl rfl, fun _ _ _ _ _ => row rfl rfl rfl,
    fun _ _ _ => row rfl rfl rfl, fun _ _ _ => row rfl rfl rfl, fun _ _ _ _ _ _ _ _ _ _ _ => row rfl rfl rfl, fun _ _ _ => row rfl rfl rfl,
    fun _ _ _ => row rfl rfl rfl, fun _ _ _ => row rfl rfl rfl, fun _ _ => row rfl rfl rfl, fun _ _ _ => row rfl rfl rfl,
    fun _ _ _ => row rfl rfl rfl, fun _ _ => row rfl rfl rfl, fun _ _ => row rfl rfl rfl, fun _ _ _ => row rfl rfl rfl,
    fun _ _ _ _ _ => row rfl rfl rfl, fun _ _ _ => row rfl rfl rfl, fun _ _ _ => row rfl rfl rfl, fun _ _ _ => row rfl rfl rfl,
    fun _ _ _ => row rfl rfl rfl, fun _ _ => row rfl rfl rfl, fun _ _ _ => row rfl rfl rfl, fun _ _ _ => row rfl rfl rfl,
    fun _ _ _ => row rfl rfl rfl, fun _ _ _ _ _ _ _ => row rfl rfl rfl, fun _ _ => row rfl rfl rfl, fun _ _ _ => row rfl rfl rfl,
    fun _ _ _ => takesCommand_of_go rfl rfl rfl rfl⟩

end Sys2Proof.Machine
end

section
/-! PROOF. O49: the checks of a mailbox command, its effect at step 4, its answer, and DONE_CLEAR (R409 to R415, R420, R542, R549). -/

namespace Sys2Proof.Machine

/-! ## The checks in their order (R410 to R416, R549) -/

section
variable (s : State) (m : MbxHdr) (c : MForm)

theorem State.validate_unknown : s.validate m c false = some (errR 0x0101) := rfl

/-- A command is accepted when no check refuses it. -/
theorem State.validate_accepts : s.validate m c true = none ↔ (s.deviceRefuses c = none ∧ admits c.actors m.via = none ∧
    (m.via = .mctp → m.extReq = false ∧ m.extResp = false) ∧ lengthRefuses m c = none ∧ reservedRefuses m = none ∧ s.tenantRefuses m c = none ∧
    (c.expert = true → s.callerExpert m.via = true) ∧ s.ownerRefuses m c = none ∧ c.bad = none ∧ (m.extResp = true → c.rlen [] ≤ m.extLen) ∧
    s.classRoom .mailbox (bufsOf m) = true) := by
  simp [State.validate, List.findSome?_eq_none_iff]

end

section
variable {s : State} {m : MbxHdr} {c : MForm} {r : Resp}

theorem State.validate_device (refuses : s.deviceRefuses c = some r) : s.validate m c true = some r := by
  simp [State.validate, refuses]

theorem State.deviceRefuses_starting (starts : s.pwr.dev = .starting) (late : earlyOp c.op = false) :
    s.deviceRefuses c = some (errR 0x0202 0 s.start.stage) := by
  simp [State.deviceRefuses, starts, late]

variable (allows : s.deviceRefuses c = none)
include allows

theorem State.validate_actor (refuses : admits c.actors m.via = some r) : s.validate m c true = some r := by
  simp [State.validate, allows, refuses]

/-- The endpoint has no extended buffer; what its actor entry does not admit it refuses alike. -/
theorem State.validate_extended (endpoint : m.via = .mctp) (extends_ : m.extReq = true ∨ m.extResp = true) :
    s.validate m c true = some (errR 0x0403) := by
  have admission : admits c.actors m.via = none ∨ admits c.actors m.via = some (errR 0x0403) := by
    rw [endpoint, admits]
    split
    · exact .inl rfl
    · exact .inr rfl
  cases admission with
  | inl admitted => simp [State.validate, allows, endpoint ▸ admitted, endpoint, extends_]
  | inr refused => exact State.validate_actor allows refused

variable (admitted : admits c.actors m.via = none)
include admitted

variable (noReq : m.extReq = false) (noResp : m.extResp = false)
include noReq noResp

theorem State.validate_length (refuses : lengthRefuses m c = some r) : s.validate m c true = some r := by
  simp [State.validate, allows, admitted, noReq, noResp, refuses]

variable (length : lengthRefuses m c = none)
include length

theorem State.validate_reserved (refuses : reservedRefuses m = some r) : s.validate m c true = some r := by
  simp [State.validate, allows, admitted, noReq, noResp, length, refuses]

variable (reserved : reservedRefuses m = none) (tenant : s.tenantRefuses m c = none)
include reserved tenant

theorem State.validate_expert (expert : c.expert = true) (noExpert : s.callerExpert m.via = false) :
    s.validate m c true = some (errR 0x0401) := by
  simp [State.validate, allows, admitted, noReq, noResp, length, reserved, tenant, expert, noExpert]

theorem State.validate_range (plain : c.expert = false) (owner : s.ownerRefuses m c = none) {o : Nat} (bad : c.bad = some o) :
    s.validate m c true = some (errR 0x0104 o) := by
  simp [State.validate, allows, admitted, noReq, noResp, length, reserved, tenant, plain, owner, bad]

end

/-! ## What each check asks -/

section
variable {m : MbxHdr} {c : MForm}

theorem admits_instance {f mb : Nat} (window : m.via = .bar f mb) (tenants : f ≠ 0) (noTenant : .t ∉ c.actors) (notAny : .a ∉ c.actors) :
    admits c.actors m.via = some (errR 0x0402) := by
  simp [admits, window, tenants, noTenant, notAny]

theorem admits_mctp (endpoint : m.via = .mctp) (noEndpoint : .x ∉ c.actors) (noOwner : .o ∉ c.actors) :
    admits c.actors m.via = some (errR 0x0403) := by
  simp [admits, endpoint, noEndpoint, noOwner]

theorem reservedRefuses_flags (flags : m.rsvdFlags = true) : reservedRefuses m = some (errR 0x0103 2) := if_pos flags

theorem reservedRefuses_none (flags : m.rsvdFlags = false) (bytes : m.rsvd = none) : reservedRefuses m = none := by
  simp [reservedRefuses, flags, bytes]

theorem State.tenantRefuses_manager {s : State} (manages : isManager m.via = true) : s.tenantRefuses m c = none := if_pos manages

theorem State.ownerRefuses_manager {s : State} (actors : c.actors = [.m, .x]) : s.ownerRefuses m c = none := by
  simp [State.ownerRefuses, actors]

theorem State.ownerOk_unowned {s : State} (unowned : s.ownerKey = none) : s.ownerOk m c = false := by
  unfold State.ownerOk
  rw [unowned]
  split <;> simp_all

theorem State.ownerRefuses_unowned {s : State} (owners : c.actors = [.o]) (unowned : s.ownerKey = none) :
    s.ownerRefuses m c = some (errR 0x0607) := by
  simp [State.ownerRefuses, owners, State.ownerOk_unowned unowned]

section
variable (noReq : m.extReq = false)
include noReq

theorem lengthRefuses_long (long : 4032 < m.len) : lengthRefuses m c = some (errR 0x0107 m.len) := by
  simp [lengthRefuses, noReq, long]

variable (noResp : m.extResp = false) (short : m.len ≤ 4032) (bare : m.trailer = none) (shared : c.actors ≠ [.o])
include noResp short bare shared

theorem lengthRefuses_plain : lengthRefuses m c = if m.len = c.len then none else some (errR 0x0102 c.len) := by
  simp [lengthRefuses, wantedLen, noReq, noResp, Nat.not_lt.2 short, bare, shared]

theorem lengthRefuses_wrong (wrong : m.len ≠ c.len) : lengthRefuses m c = some (errR 0x0102 c.len) :=
  (lengthRefuses_plain noReq noResp short bare shared).trans (if_neg wrong)

theorem lengthRefuses_none (fits : m.len = c.len) : lengthRefuses m c = none :=
  (lengthRefuses_plain noReq noResp short bare shared).trans (if_pos fits)
end
end

/-! ## The effect at step 4 (R412) -/

section
variable {s t : State} {v : Via} {b : Mbx} {i : Instr} {m : MbxHdr} {c : MForm} {q : Bool} {r : Resp}
variable (stands : s.mbxAt v = some b) (busy : b.busy = true) (due : b.waiting = false) (cmd : b.cmd = some i)
variable (form : mbxForm s i = some (m, c))
include stands busy due cmd form

theorem State.takeEffect_otherKind (other : c.query ≠ q) : s.takeEffect q v = s := by
  simp [State.takeEffect, stands, busy, due, cmd, form, other]

variable (kind : c.query = q)
include kind

theorem State.takeEffect_failed (failed : b.verdict = some r) : s.takeEffect q v = s.respond v r := by
  simp [State.takeEffect, stands, busy, due, cmd, form, kind, failed]

variable (accepted : b.verdict = none) (there : (c.ns.any fun id => (s.ns? id).any (fun n => n.deleted)) = false)
include accepted there

theorem State.takeEffect_answers (effect : applyMbx i s = (t, some r)) (now : 256 ≤ r.status ∨ endsDurable i = false) :
    s.takeEffect q v = t.finishMbx m c r := by
  have now : ¬ (r.status < 256 ∧ endsDurable i = true) := by
    rintro ⟨low, waits⟩
    simp [waits] at now
    omega
  simp [State.takeEffect, stands, busy, due, cmd, form, kind, accepted, there, effect, now]

theorem State.takeEffect_waits (effect : applyMbx i s = (t, none)) :
    s.takeEffect q v = t.modMbxAt v fun b => { b with waiting := true, effect := t.clk.frame } := by
  simp [State.takeEffect, stands, busy, due, cmd, form, kind, accepted, there, effect]
end

/-! ## The answer (R403, R410, R411) -/

section
variable {s : State} {m : MbxHdr} {c : MForm} {r : Resp}

theorem State.finishMbx_window (fits : 256 ≤ r.status ∨ c.rlen r.fields = 0 ∨ (m.extResp = false ∧ c.rlen r.fields ≤ 4032)) :
    s.finishMbx m c r = s.respond m.via r := by
  have length : (if r.status < 256 then c.rlen r.fields else 0) = 0 ∨
      m.extResp = false ∧ (if r.status < 256 then c.rlen r.fields else 0) ≤ 4032 := by
    rcases fits with failed | nothing | ⟨window, short⟩
    · exact .inl (if_neg (Nat.not_lt.2 failed))
    · exact .inl (by rw [nothing, ite_self])
    · exact .inr ⟨window, by split <;> omega⟩
  unfold State.finishMbx
  extract_lets n answer
  rcases length with none_ | ⟨window, short⟩
  · have none_ : n = 0 := none_
    have same : answer = r := if_neg (by simp [none_])
    simp [same, none_]
  · have same : answer = r := if_neg (by simpa [window] using short)
    simp [same, window]

theorem State.finishMbx_tooLong (ok : r.status < 256) (window : m.extResp = false) (long : 4032 < c.rlen r.fields) :
    s.finishMbx m c r = s.respond m.via (errR 0x0107 (c.rlen r.fields)) := by
  simp [State.finishMbx, ok, window, long]

end

/-- A mailbox whose command has been answered (R411). -/
def Mbx.answered (b : Mbx) (r : Resp) (frame : Nat) : Mbx := { b with
  busy := false, done := b.via != .mctp, cmd := none, verdict := none, waiting := false, held := none, resp := some r
  effect := if b.waiting then b.effect else frame }
/-- The command of a mailbox ends with a response: it leaves the order of receipt. -/
def State.mailboxAnswered (s : State) (v : Via) (r : Resp) : State :=
  s.modMbx fun m => { m with boxes := updIf (·.via == v) (fun b => b.answered r s.clk.frame) m.boxes, order := m.order.filter (· != v) }

theorem State.modCtrl_mbx (s : State) (f : Nat) (port1 : Bool) (g : Ctrl → Ctrl) : (s.modCtrl f port1 g).mbx = s.mbx := by
  unfold State.modCtrl
  split <;> rfl

theorem State.interrupt_mbx (s : State) (f : Nat) (port1 : Bool) (v : Nat) : (s.interrupt f port1 v).mbx = s.mbx := by
  unfold State.interrupt
  split
  · rfl
  · split
    · exact State.modCtrl_mbx s f port1 _
    · rfl

section
variable {s : State} {v : Via} {b : Mbx} (stands : s.mbxAt v = some b) (r : Resp)
include stands

theorem State.mailboxAnswered_mbxAt : (s.mailboxAnswered v r).mbxAt v = some (b.answered r s.clk.frame) :=
  (s.modMbxAt_mbxAt (f := fun b => b.answered r s.clk.frame) (fun _ => rfl) v).trans (congrArg (Option.map _) stands)

theorem State.mbxAt_via : b.via = v := eq_of_beq (List.find?_some stands :)
end

/-- The answer into a window, and its interrupt where it is enabled. -/
theorem State.respond_bar_eq {s : State} {f mb : Nat} {b : Mbx} (stands : s.mbxAt (.bar f mb) = some b) (r : Resp) :
    s.respond (.bar f mb) r = if b.intEn then
        (s.mailboxAnswered (.bar f mb) r).interrupt f ((s.mailboxAnswered (.bar f mb) r).dual && f == 0 && decide (2 ≤ mb)) b.vector
      else s.mailboxAnswered (.bar f mb) r := by
  have stands : s.mbx.boxes.find? (·.via == .bar f mb) = some b := stands
  simp only [State.respond, stands]
  rfl

/-- The answer over MCTP goes out (R416). -/
theorem State.respond_mctp_eq {s : State} {b : Mbx} (stands : s.mbxAt .mctp = some b) (r : Resp) :
    s.respond .mctp r = (s.mailboxAnswered .mctp r).emit (.mctp b.opcode b.tag r) := by
  have stands : s.mbx.boxes.find? (·.via == .mctp) = some b := stands
  simp only [State.respond, stands]
  rfl

theorem State.respond_window {s : State} {f mb : Nat} {b : Mbx} (stands : s.mbxAt (.bar f mb) = some b) (r : Resp) :
    (s.respond (.bar f mb) r).mbxAt (.bar f mb) = some { b with
      busy := false, done := true, cmd := none, verdict := none, waiting := false, held := none, resp := some r
      effect := if b.waiting then b.effect else s.clk.frame } := by
  have answered : (s.respond (.bar f mb) r).mbxAt (.bar f mb) = some (b.answered r s.clk.frame) := by
    rw [State.respond_bar_eq stands r]
    refine Eq.trans ?_ (State.mailboxAnswered_mbxAt stands r)
    split
    · exact congrArg (fun x : Mailboxes => x.boxes.find? _) (State.interrupt_mbx ..)
    · rfl
  have window : (b.via != .mctp) = true := by
    rw [State.mbxAt_via stands]
    rfl
  rw [answered, Mbx.answered, window]

theorem State.respond_mctp {s : State} {b : Mbx} (stands : s.mbxAt .mctp = some b) (r : Resp) :
    (s.respond .mctp r).out = s.out ++ [.mctp b.opcode b.tag r] ∧
      ((s.respond .mctp r).mbxAt .mctp).map (fun x => (x.busy, x.done)) = some (false, false) := by
  have answered : (s.respond .mctp r).mbxAt .mctp = some (b.answered r s.clk.frame) := by
    rw [State.respond_mctp_eq stands r]
    exact State.mailboxAnswered_mbxAt stands r
  refine ⟨?out, ?free⟩
  case out =>
    rw [State.respond_mctp_eq stands r]
    rfl
  case free =>
    rw [answered, Option.map_some, Mbx.answered, State.mbxAt_via stands]
    rfl

/-! ## DONE_CLEAR (R542) -/

section
variable {s : State} {fn mb : Nat} (g : Bool) (has : hasMailbox (.bar fn mb) = true)
include has

theorem execDoneClear_open (opens : s.barOpen fn (s.dual && fn == 0 && decide (2 ≤ mb)) = true) : exec (.doneClear fn mb g) s =
    .next (s.modMbxAt (.bar fn mb) fun b => { b with done := false, goWhileBusy := b.goWhileBusy || (g && b.busy) }) :=
  (if_pos has).trans (congrArg Host.Outcome.next (if_neg (by simp [opens])))

theorem execDoneClear_closed (closed : s.barOpen fn (s.dual && fn == 0 && decide (2 ≤ mb)) = false) : exec (.doneClear fn mb g) s = .next s :=
  (if_pos has).trans (congrArg Host.Outcome.next (if_pos (by simp [closed])))
end

/-- Settles O49: the checks one after another, the effect by its verdict, the answer by its transport. -/
theorem mailboxAnswers : Obligations.MailboxAnswers := by
  unfold Obligations.MailboxAnswers
  refine ⟨State.validate_unknown, State.validate_accepts, ?checks, fun s m c owners unowned =>
      ⟨State.ownerOk_unowned unowned, State.ownerRefuses_unowned owners unowned⟩, ?effect, fun s m c r fits => State.finishMbx_window fits,
    fun s m c r ok window long => State.finishMbx_tooLong ok window long, fun s f mb b r stands => State.respond_window stands r,
    fun s b r stands => State.respond_mctp stands r, fun fn mb g s has opens => execDoneClear_open g has opens,
    fun fn mb g s has closed => execDoneClear_closed g has closed⟩
  case checks =>
    intro s m c
    refine ⟨fun starts late => State.validate_device (State.deviceRefuses_starting starts late), fun allows => ⟨?_, ?_, ?_, ?_⟩⟩
    · exact fun f mb window tenants noTenant notAny => State.validate_actor allows (admits_instance window tenants noTenant notAny)
    · exact fun endpoint noEndpoint noOwner => State.validate_actor allows (admits_mctp endpoint noEndpoint noOwner)
    · exact fun endpoint extends_ => State.validate_extended allows endpoint extends_
    intro admitted noReq noResp
    refine ⟨fun long => ?long, fun short bare shared wrong => ?wrong, fun short bare shared fits flags => ?flags,
      fun short bare shared fits flags bytes manages expert noExpert => ?expert,
      fun fits short bare actors flags bytes manages _ plain o bad => ?range⟩
    case long => exact State.validate_length allows admitted noReq noResp (lengthRefuses_long noReq long)
    case wrong => exact State.validate_length allows admitted noReq noResp (lengthRefuses_wrong noReq noResp short bare shared wrong)
    case flags =>
      exact State.validate_reserved allows admitted noReq noResp (lengthRefuses_none noReq noResp short bare shared fits)
        (reservedRefuses_flags flags)
    case expert =>
      exact State.validate_expert allows admitted noReq noResp (lengthRefuses_none noReq noResp short bare shared fits)
        (reservedRefuses_none flags bytes) (State.tenantRefuses_manager manages) expert noExpert
    case range =>
      have shared : c.actors ≠ [.o] := by simp [actors]
      exact State.validate_range allows admitted noReq noResp (lengthRefuses_none noReq noResp short bare shared fits)
        (reservedRefuses_none flags bytes) (State.tenantRefuses_manager manages) plain (State.ownerRefuses_manager actors) bad
  case effect =>
    intro s t v b i m c q r stands busy due cmd form
    refine ⟨State.takeEffect_otherKind stands busy due cmd form, State.takeEffect_failed stands busy due cmd form,
      fun kind accepted there => ⟨?_, ?_⟩⟩
    · exact State.takeEffect_answers stands busy due cmd form kind accepted there
    · exact State.takeEffect_waits stands busy due cmd form kind accepted there

end Sys2Proof.Machine
end

section
/-! PROOF. O50: the queries of the mailbox (R412, R419, R420). -/

namespace Sys2Proof.Machine

/-! ## A query changes nothing (R412) -/

theorem effGetControl_state (i sc : Nat) (s : State) : (effGetControl i sc s).1 = s := by
  unfold effGetControl
  split <;> rfl

theorem effGetNamespace_state (v : Via) (nsid : Nat) (s : State) : (effGetNamespace v nsid s).1 = s := by
  unfold effGetNamespace
  split
  · rfl
  · split <;> rfl

theorem effGetZoneRecord_state (v : Via) (nsid z : Nat) (s : State) : (effGetZoneRecord v nsid z s).1 = s := by
  unfold effGetZoneRecord
  split
  · rfl
  · split
    · rfl
    · split <;> rfl

theorem effGetSlot_state (v : Via) (n : Nat) (s : State) : (effGetSlot v n s).1 = s := by
  unfold effGetSlot
  split
  · rfl
  · split
    · dsimp only
      split <;> rfl
    · dsimp only
      split
      · rfl
      · split <;> rfl

theorem effGetLossLedger_state (v : Via) (nsid a b : Nat) (s : State) : (effGetLossLedger v nsid a b s).1 = s := by
  unfold effGetLossLedger
  split
  · rfl
  · split
    · rfl
    · split <;> rfl

theorem effGetLunHealth_state (g : Nat) (s : State) : (effGetLunHealth g s).1 = s := by
  unfold effGetLunHealth
  split <;> rfl

theorem effGetMigrationJob_state (j : Nat) (s : State) : (effGetMigrationJob j s).1 = s := by
  unfold effGetMigrationJob
  split <;> rfl

theorem effGetMirror_state (j : Nat) (s : State) : (effGetMirror j s).1 = s := by
  unfold effGetMirror
  split <;> rfl

theorem effGetPortStatistics_state (p : Nat) (s : State) : (effGetPortStatistics p s).1 = s := by
  unfold effGetPortStatistics
  split <;> rfl

theorem effGetIncompleteStripeSets_state (w a b : Nat) (s : State) : (effGetIncompleteStripeSets w a b s).1 = s := by
  unfold effGetIncompleteStripeSets
  split
  · rfl
  · split <;> rfl

theorem effGetMastStatus_state (p : Nat) (s : State) : (effGetMastStatus p s).1 = s := by
  unfold effGetMastStatus
  split <;> rfl

theorem effGetSignedObject_state (o : Nat) (s : State) : (effGetSignedObject o s).1 = s := by
  unfold effGetSignedObject
  dsimp only
  split <;> rfl

/-- An effect that leaves the state as it is answers and changes nothing. -/
theorem answers_unchanged {s : State} {i : Instr} {e : Eff} (row : applyMbx i s = (e.1, some e.2)) (same : e.1 = s) :
    ∃ r, applyMbx i s = (s, some r) :=
  ⟨e.2, row.trans (congrArg (·, some e.2) same)⟩

/-! ## What each query answers -/

section
variable {s : State} (m : MbxHdr)

theorem applyMbx_getTime_set (set : s.clk.isSet = true) : applyMbx (.getTime m) s =
    (s, some (okR [s.clk.secs, s.clk.frac, 1, s.clk.frame, s.clk.markFrame, s.clk.markSecs, (s.clk.lastKnown.map (fun x => x.1)).getD 0])) := by
  simp [applyMbx, effGetTime, set, bitOf]

theorem applyMbx_getTime_unset (unset : s.clk.isSet = false) :
    ∃ l, applyMbx (.getTime m) s = (s, some (okR l)) ∧ l.take 4 = [0, 0, 0, s.clk.frame] := by
  refine ⟨_, rfl, ?_⟩
  simp [unset, bitOf]

section
variable {i sc : Nat}

theorem applyMbx_getControl_unlisted (unlisted : controlSpec s i sc = none) :
    applyMbx (.getControl m i sc) s = (s, some (errR 0x0101)) := by
  simp [applyMbx, effGetControl, State.controlRefused, unlisted]

theorem applyMbx_getControl_listed {k : ControlSpec} (listed : controlSpec s i sc = some k) (scope : scopeOk k.scope sc = true)
    (plain : perRelationship i = false) :
    applyMbx (.getControl m i sc) s = (s, some (okR [s.ctlValue i sc, k.dflt, k.lo, k.hi, bitOf k.expert, bitOf k.owner])) := by
  simp [applyMbx, effGetControl, State.controlRefused, State.settingOf, listed, scope, plain]
end

theorem applyMbx_getInstance (s : State) (f : Nat) : ∃ l, applyMbx (.getInstance m f) s = (s, some (okR l)) ∧ l[0]? = some (s.fn f).state.num ∧
    l[1]? = some (bitOf (s.fn f).expert) ∧ l[4]? = some (s.allocOf f 1) ∧ l[5]? = some (s.useOf f 1) ∧ l[18]? = some (s.allocOf f 8) :=
  ⟨_, rfl, rfl, rfl, rfl, rfl, rfl⟩

section
variable {nsid z : Nat}

theorem applyMbx_getNamespace_absent (absent : s.ns? nsid = none) : applyMbx (.getNamespace m nsid) s = (s, some (errR 0x0105 nsid)) := by
  simp [applyMbx, effGetNamespace, absent]

theorem applyMbx_getZoneRecord_absent (absent : s.ns? nsid = none) : applyMbx (.getZoneRecord m nsid z) s = (s, some (errR 0x0105 nsid)) := by
  simp [applyMbx, effGetZoneRecord, absent]

variable {n : Namespace} (found : s.ns? nsid = some n)
include found

theorem applyMbx_getNamespace_hidden (hidden : n.visibleTo m.via = false) :
    applyMbx (.getNamespace m nsid) s = (s, some (errR 0x0405 nsid)) := by
  simp [applyMbx, effGetNamespace, found, hidden]

theorem applyMbx_getZoneRecord_hidden (hidden : n.visibleTo m.via = false) :
    applyMbx (.getZoneRecord m nsid z) s = (s, some (errR 0x0405 nsid)) := by
  simp [applyMbx, effGetZoneRecord, found, hidden]

variable (visible : n.visibleTo m.via = true)
include visible

theorem applyMbx_getNamespace_visible :
    ∃ l, applyMbx (.getNamespace m nsid) s = (s, some (okR l)) ∧ l.take 4 = [n.origin, n.lbaf, n.pi, n.zoneCount] := by
  simp only [applyMbx, effGetNamespace, found, visible, Bool.not_true, Bool.false_eq_true, if_false]
  exact ⟨_, rfl, rfl⟩

theorem applyMbx_getZoneRecord_beyond (beyond : n.zoneCount ≤ z) : applyMbx (.getZoneRecord m nsid z) s = (s, some (errR 0x0105 z)) := by
  simp [applyMbx, effGetZoneRecord, found, visible, beyond]

theorem applyMbx_getZoneRecord_zone (zone : z < n.zoneCount) : ∃ l, applyMbx (.getZoneRecord m nsid z) s = (s, some (okR l)) ∧
    l[0]? = some (n.zone z).state.value ∧ l[7]? = some (n.zone z).gen ∧ l[8]? = some (n.zone z).wp := by
  simp only [applyMbx, effGetZoneRecord, found, visible, Bool.not_true, Bool.false_eq_true, if_false, Nat.not_le.2 zone]
  exact ⟨_, rfl, rfl, rfl, rfl⟩
end

section
variable {n : Nat} (first : 1 ≤ n) (last : n ≤ 4091)
include first last

theorem effGetSlot_unowned (unowned : (s.slot n).owner = none) (v : Via) :
    effGetSlot v n s = (s, if isManager v then errR 0x0105 n else errR 0x0402 n) := by
  have owner : (n == 0) = false := by simp; omega
  have tenant : ¬ 4092 ≤ n := by omega
  simp only [effGetSlot, owner, tenant, unowned, Bool.false_eq_true, if_false]

/-- A slot of a tenant is reported to its owner and to the manager. -/
theorem effGetSlot_owned {f : Nat} (owned : (s.slot n).owner = some f) (v : Via) : effGetSlot v n s =
    if ! isManager v && f != callerOf v then (s, errR 0x0402 n)
    else (s, okR [(s.slot n).state.num, bitOf (s.slot n).persistent, f, (s.slot n).generation, (s.slot n).keyRef, s.refCount n,
      if (s.slot n).keyRef == 0xFFFF then 0 else (s.keyRef (s.slot n).keyRef).high]) := by
  have owner : (n == 0) = false := by simp; omega
  have tenant : ¬ 4092 ≤ n := by omega
  simp only [effGetSlot, owner, tenant, owned, Bool.false_eq_true, if_false]

theorem applyMbx_getSlot_unowned (unowned : (s.slot n).owner = none) (manages : isManager m.via = true) :
    applyMbx (.getSlot m n) s = (s, some (errR 0x0105 n)) := by
  simp [applyMbx, effGetSlot_unowned first last unowned, manages]

variable {f : Nat} (owned : (s.slot n).owner = some f)
include owned

theorem applyMbx_getSlot_other (tenant : isManager m.via = false) (other : callerOf m.via ≠ f) :
    applyMbx (.getSlot m n) s = (s, some (errR 0x0402 n)) := by
  simp [applyMbx, effGetSlot_owned first last owned, tenant, other.symm]

theorem applyMbx_getSlot_owner (may : isManager m.via = true ∨ callerOf m.via = f) : ∃ l, applyMbx (.getSlot m n) s = (s, some (okR l)) ∧
    l.take 5 = [(s.slot n).state.num, bitOf (s.slot n).persistent, f, (s.slot n).generation, (s.slot n).keyRef] := by
  have may : (! isManager m.via && f != callerOf m.via) = false := by
    rcases may with manages | own
    · simp [manages]
    · simp [own]
  simp only [applyMbx, effGetSlot_owned first last owned, may, Bool.false_eq_true, if_false]
  exact ⟨_, rfl, rfl⟩
end

section
variable {a b n : Nat}

theorem applyMbx_getLossLedger_count (many : 83 < b) : applyMbx (.getLossLedger m 0 a b) s = (s, some (errR 0x0104 8)) := by
  simp [applyMbx, effGetLossLedger, many]

variable (few : b ≤ 83)
include few

theorem applyMbx_getLossLedger_absent (named : n ≠ 0) (absent : s.ns? n = none) :
    applyMbx (.getLossLedger m n a b) s = (s, some (errR 0x0105 n)) := by
  simp [applyMbx, effGetLossLedger, Nat.not_lt.2 few, named, absent]

/-- The manager sees every entry of the ledger. -/
theorem applyMbx_getLossLedger_manager (manages : isManager m.via = true) : ∃ r, applyMbx (.getLossLedger m 0 a b) s = (s, some r) ∧
    r.fields = s.media.ledger.length :: ((s.media.ledger.drop a).take b).length :: ((s.media.ledger.drop a).take b).flatMap Loss.fields := by
  simp only [applyMbx, effGetLossLedger, Nat.not_lt.2 few, manages, if_false, bne_self_eq_false, Bool.false_and, Bool.false_eq_true,
    Bool.true_or, List.filter_true]
  refine ⟨_, rfl, ?_⟩
  split <;> rfl
end

theorem applyMbx_listPartners (s : State) (a b : Nat) : ∃ r, applyMbx (.listPartners m a b) s = (s, some r) ∧
    r.fields.head? = some (min b (s.hal.partners.length - a)) ∧ (r.status = 1 ↔ b < s.hal.partners.length - a) := by
  have shown : ((s.hal.partners.drop a).take b).length = min b (s.hal.partners.length - a) := by simp
  have more : ((s.hal.partners.drop a).take b).length < (s.hal.partners.drop a).length ↔ b < s.hal.partners.length - a := by
    simp
    omega
  refine ⟨_, rfl, ?_⟩
  unfold effListPartners
  dsimp only
  split
  case isTrue less => exact ⟨congrArg some shown, fun _ => more.1 less, fun _ => rfl⟩
  case isFalse all => exact ⟨congrArg some shown, fun warns => absurd warns Nat.zero_ne_one, fun less => absurd (more.2 less) all⟩

section
variable {p : Nat}

theorem applyMbx_getPortStatistics_absent (absent : s.portN ≤ p) : applyMbx (.getPortStatistics m p) s = (s, some (errR 0x0105 p)) := by
  simp [applyMbx, effGetPortStatistics, absent]

theorem applyMbx_getPortStatistics_port (port : p < s.portN) :
    ∃ l, applyMbx (.getPortStatistics m p) s = (s, some (okR l)) ∧ l.take 2 = [(s.port p).state.num, (s.port p).overruns] := by
  simp only [applyMbx, effGetPortStatistics, Nat.not_le.2 port, if_false]
  exact ⟨_, rfl, rfl⟩

theorem applyMbx_getMastStatus_absent (absent : 8 ≤ p) : applyMbx (.getMastStatus m p) s = (s, some (errR 0x0104 0)) := by
  simp [applyMbx, effGetMastStatus, absent]

theorem applyMbx_getMastStatus_mast (mast : p < 8) : applyMbx (.getMastStatus m p) s = (s, some (okR [(s.mast p).state.num, (s.mast p).faults,
    bitOf (s.mast p).restartUsed, (s.mast p).lastFault, (s.mast p).lastFaultFrame, (s.mast p).cipherFaults])) := by
  simp [applyMbx, effGetMastStatus, Nat.not_le.2 mast]
end

theorem applyMbx_getThermal (s : State) :
    ∃ l, applyMbx (.getThermal m) s = (s, some (okR l)) ∧ l.length = s.therm.inputs.length + 2 :=
  ⟨_, rfl, by simp⟩

section
variable {j : Nat}

theorem applyMbx_getMigrationJob_absent (absent : s.job? j = none) : applyMbx (.getMigrationJob m j) s = (s, some (errR 0x0105 j)) := by
  simp [applyMbx, effGetMigrationJob, absent]

theorem applyMbx_getMigrationJob_job {x : Job} (found : s.job? j = some x) :
    ∃ l, applyMbx (.getMigrationJob m j) s = (s, some (okR l)) ∧ l.take 2 = [x.state.num, bitOf (!x.source)] := by
  simp only [applyMbx, effGetMigrationJob, found]
  exact ⟨_, rfl, rfl⟩

theorem applyMbx_getMirror_absent (absent : s.mirror? j = none) : applyMbx (.getMirror m j) s = (s, some (errR 0x0105 j)) := by
  simp [applyMbx, effGetMirror, absent]

theorem applyMbx_getMirror_mirror {x : Mirror} (found : s.mirror? j = some x) :
    ∃ l, applyMbx (.getMirror m j) s = (s, some (okR l)) ∧ l.take 2 = [bitOf (!x.source), x.mode] := by
  simp only [applyMbx, effGetMirror, found]
  exact ⟨_, rfl, rfl⟩

theorem applyMbx_getFixityResult_absent (absent : s.fix.jobs.find? (fun x => x.job == j) = none) :
    applyMbx (.getFixityResult m j) s = (s, some (errR 0x0105 j)) := by
  simp [applyMbx, effGetFixityResult, absent]

variable {x : FixJob} (found : s.fix.jobs.find? (fun x => x.job == j) = some x)
include found

theorem applyMbx_getFixityResult_other (other : callerOf x.via ≠ callerOf m.via) :
    applyMbx (.getFixityResult m j) s = (s, some (errR 0x0402)) := by
  simp [applyMbx, effGetFixityResult, found, other]

variable (own : callerOf x.via = callerOf m.via)
include own

theorem applyMbx_getFixityResult_runs (runs : x.ended = false) :
    ∃ l, applyMbx (.getFixityResult m j) s = (s, some (okR l)) ∧ l.head? = some 0 := by
  simp only [applyMbx, effGetFixityResult, found, own, runs, bne_self_eq_false, Bool.false_eq_true, if_false]
  exact ⟨_, rfl, rfl⟩

/-- The result of a job that has ended is given up. -/
theorem applyMbx_getFixityResult_ended (ended : x.ended = true) : ∃ l, applyMbx (.getFixityResult m j) s =
    (s.modFix fun f => { f with jobs := f.jobs.filter (fun y => y.job != j) }, some (okR l)) ∧ l.take 3 = [1, x.status, x.argument] := by
  simp only [applyMbx, effGetFixityResult, found, own, ended, bne_self_eq_false, Bool.false_eq_true, if_false, if_true]
  exact ⟨_, rfl, rfl⟩
end

theorem applyMbx_getSignedObject_absent (absent : s.obj.drive = none) : applyMbx (.getSignedObject m 1) s = (s, some (errR 0x0105 1)) := by
  simp [applyMbx, effGetSignedObject, absent]

theorem applyMbx_getSignedObject_drive {r : DriveRecord} (found : s.obj.drive = some r) : applyMbx (.getSignedObject m 1) s =
    (s, some (okR (driveMessage r ++ bytesBE 48 r.sigR ++ bytesBE 48 r.sigS))) := by
  simp [applyMbx, effGetSignedObject, found]
end

/-- Settles O50: each query leaves the state as it is, and answers with what the state holds. -/
theorem mailboxQueries : Obligations.MailboxQueries := by
  unfold Obligations.MailboxQueries
  refine ⟨?unchanged, fun s m => applyMbx_getTime_set m, fun s m => applyMbx_getTime_unset m, fun s m => ⟨_, rfl, rfl, rfl, rfl, rfl⟩,
    fun s m i sc => applyMbx_getControl_unlisted m, fun s m i sc k => applyMbx_getControl_listed m, fun s m f => applyMbx_getInstance m s f,
    fun s m f => ⟨_, rfl, rfl⟩, ?namespaces, ?slots, fun s m n first last => applyMbx_getSlot_unowned m first last, ?ledger,
    fun s m a b => applyMbx_listPartners m s a b, fun s m => rfl, ?ports, fun s m => ⟨⟨_, rfl, rfl⟩, applyMbx_getThermal m s⟩, ?jobs, ?fixity,
    fun s m => ⟨rfl, rfl⟩, fun s m => ⟨applyMbx_getSignedObject_absent m, fun r => applyMbx_getSignedObject_drive m⟩⟩
  case unchanged =>
    intro s m i a b c d query
    rcases query with rfl | rfl | rfl | rfl | rfl | rfl | rfl | rfl | rfl | rfl | rfl | rfl | rfl | rfl | rfl | rfl | rfl | rfl | rfl | rfl | rfl |
      rfl | rfl | rfl | rfl | rfl
    · exact ⟨_, rfl⟩
    · exact ⟨_, rfl⟩
    · exact answers_unchanged rfl (effGetControl_state a b s)
    · exact ⟨_, rfl⟩
    · exact ⟨_, rfl⟩
    · exact answers_unchanged rfl (effGetNamespace_state m.via a s)
    · exact answers_unchanged rfl (effGetZoneRecord_state m.via a b s)
    · exact ⟨_, rfl⟩
    · exact answers_unchanged rfl (effGetSlot_state m.via a s)
    · exact ⟨_, rfl⟩
    · exact ⟨_, rfl⟩
    · exact answers_unchanged rfl (effGetLossLedger_state m.via a b c s)
    · exact answers_unchanged rfl (effGetLunHealth_state a s)
    · exact ⟨_, rfl⟩
    · exact ⟨_, rfl⟩
    · exact ⟨_, rfl⟩
    · exact ⟨_, rfl⟩
    · exact answers_unchanged rfl (effGetMigrationJob_state a s)
    · exact answers_unchanged rfl (effGetMirror_state a s)
    · exact ⟨_, rfl⟩
    · exact ⟨_, rfl⟩
    · exact answers_unchanged rfl (effGetPortStatistics_state a s)
    · exact answers_unchanged rfl (effGetIncompleteStripeSets_state a b c s)
    · exact answers_unchanged rfl (effGetMastStatus_state a s)
    · exact ⟨_, rfl⟩
    · exact answers_unchanged rfl (effGetSignedObject_state d s)
  case namespaces =>
    intro s m nsid z
    refine ⟨fun absent => ⟨applyMbx_getNamespace_absent m absent, applyMbx_getZoneRecord_absent m absent⟩, fun n found =>
      ⟨fun hidden => ⟨applyMbx_getNamespace_hidden m found hidden, applyMbx_getZoneRecord_hidden m found hidden⟩, fun visible =>
        ⟨applyMbx_getNamespace_visible m found visible, ?_, ?_⟩⟩⟩
    · exact applyMbx_getZoneRecord_beyond m found visible
    · exact applyMbx_getZoneRecord_zone m found visible
  case slots =>
    intro s m n f first last owned
    exact ⟨applyMbx_getSlot_other m first last owned, applyMbx_getSlot_owner m first last owned⟩
  case ledger =>
    intro s m a b n
    exact ⟨applyMbx_getLossLedger_count m, applyMbx_getLossLedger_absent m, applyMbx_getLossLedger_manager m⟩
  case ports =>
    intro s m p
    exact ⟨applyMbx_getPortStatistics_absent m, applyMbx_getPortStatistics_port m, ⟨_, rfl, rfl⟩, applyMbx_getMastStatus_absent m,
      applyMbx_getMastStatus_mast m⟩
  case jobs =>
    intro s m j
    exact ⟨applyMbx_getMigrationJob_absent m, applyMbx_getMirror_absent m, fun x => applyMbx_getMigrationJob_job m,
      fun x => applyMbx_getMirror_mirror m⟩
  case fixity =>
    intro s m j
    exact ⟨applyMbx_getFixityResult_absent m, fun x found => ⟨applyMbx_getFixityResult_other m found, applyMbx_getFixityResult_runs m found,
      applyMbx_getFixityResult_ended m found⟩⟩

end Sys2Proof.Machine
end
